-- ==== Sys2Proof/Word.lean ====
section
/-! DEFINITION. The plainest types of the model: a byte, a 32-bit word, and a sparse table keyed by a number. -/

namespace Sys2Proof

/-- The smallest addressable unit. -/
abbrev Byte := BitVec 8

/-- A register, a sample or a coefficient as software sees it (R12). -/
abbrev Word := BitVec 32

/-- A single-precision number, as its 32 bits (R470). -/
abbrev Machine.F32 := BitVec 32

/-- A sparse table: what a key holds, for the keys that differ from the table's default. -/
abbrev SMap (α : Type) := List (Nat × α)

end Sys2Proof
end

