-- ==== Sys2Proof/Operand.lean ====
section
/-! DEFINITION. The operands that commands carry: arriving packets and frames, the entries of a state delta, and the facts an event brings from outside. -/

namespace Sys2Proof

/-- Where a session is bound and where a packet comes from (R196). -/
inductive Endpoint where
  /-- PCIe ring pair `k`. -/
  | pcie (k : Fin 4)
  /-- A peer's IPv4 address and UDP port, on one network port. -/
  | udp (port : Fin 6) (ip : Word) (udpPort : BitVec 16)
  /-- The SPI slave. -/
  | spi
  deriving DecidableEq, Repr

/-- A command packet as it arrived (Table KCP-1). The command's row of the opcode table is the opcode of its header. -/
structure Packet where
  ep : Endpoint
  /-- Bytes received, the tag's included. -/
  received : Nat
  magic : BitVec 16 := 0x4B43
  version : Byte := 1
  flags : Byte := 0
  length : Word
  seq : Word
  session : Byte
  reserved : Byte := 0
  txn : Word := 0
  payload : List Byte
  carat : Word
  tag : List Byte := []
  /-- A fault of Ganen while it handles the command (R375, GANEN_INTERNAL). -/
  ganenFault : Bool := false
  /-- Programming OTP fails its read-back (R438). -/
  otpFault : Bool := false
  deriving DecidableEq, Repr

/-- What a reply says beyond the echo, kept with its sequence number (R194, R198). -/
structure ReplyRec where
  status : Nat
  unit : Nat := 0
  reason : Nat := 0
  boundary : Nat := 0
  touched : Nat := 0
  succeeded : Nat := 0
  deriving DecidableEq, Repr

/-- A staged command of a transaction (R206). -/
structure Staged where
  seq : Nat
  op : Nat
  payload : List Byte
  deriving DecidableEq, Repr

/-- A feed's reference at one microphone (R148): its gain and band gains in 0.01 dB, its arrival in 1/16 sample. -/
structure MicRef where
  mic : Nat
  g : Int
  tau : Int
  h : List Int
  deriving DecidableEq, Repr

/-- What a slot's integration gives at a microphone (R145): the two ratios in 0.01 dB (snr_meas, and sum_p2 / sigma2), the path
gain and the band gains in 0.01 dB with whether each band's probe was active for half the integration, the arrival in 1/16
sample, the lag of the peak, and whether it lies within 8 lags of the window's end. -/
structure MicResult where
  mic : Fin 16
  snr : Int
  ratio : Int
  gain : Int
  bands : List (Int × Bool)
  arrival : Int
  peakLag : Int := 0
  edge : Bool := false
  deriving DecidableEq, Repr

/-- A response's record (R137, R246), one for each of the job's inputs: peak level in 0.01 dB, peak position in 1/16 sample,
saturated capture samples and energy ratio in 0.01 dB. -/
structure RespFacts where
  peak : Int
  pos : Int
  clipped : Nat
  ratio : Int
  deriving DecidableEq, Repr

/-- The decisions of Loupe that travel in the delta (Table PAIR-7, kind 0x0007). -/
inductive LoupeDec where
  /-- A verdict, the resulting state of a feed, its flags (R145, R154), and when its confirm timer ends. -/
  | verdict (feed : Nat) (verdict : Nat) (state : Nat) (flags : Nat) (confirmAt : Option Nat)
  /-- A stored reference (R148). -/
  | learned (feed : Nat) (refs : List MicRef)
  /-- An action created: identifier, feed, kind, target and due time in ns (R155). -/
  | create (id feed kind : Nat) (target : Int) (due : Nat)
  /-- An action taking effect (R155). -/
  | action (id : Nat)
  /-- An action cancelled (R155, R156), and whether by veto. -/
  | cancel (id : Nat) (veto : Bool)
  /-- The zone's drift estimate, in parts per 10^9 (R152). -/
  | drift (zone : Nat) (ppb : Int)
  /-- A probe slot released, or its integration restarted (R149, R150). -/
  | release (slot : Nat) (keep : Bool)
  /-- A synchronised reset (R130), with the clear of the DC estimates. -/
  | syncReset (clearDcb : Bool)
  /-- A step of an offline job; the step number past the last ends the job (R136). -/
  | jobStep (job : Nat) (step : Nat) (again : Bool)
  /-- The Carats of the measurement blocks of a block number (R160). -/
  | carats (block : Nat) (l : List (Nat × Word))
  deriving DecidableEq, Repr

/-- A heartbeat of the peer (Table PAIR-5, R386): role, synchronisation state, strap, health, identities, and the stamps that
give the offset of its L. -/
structure Heartbeat where
  role : Fin 4
  sync : Fin 8
  preferred : Bool
  /-- A persistent condition of R380 holds in the peer. -/
  unhealthy : Bool
  stepping : Word
  ganen : Word
  rate96 : Bool
  /-- Installed DRAM, in GiB. -/
  dram : Nat
  /-- The peer's PAIR_STATUS register. -/
  status : Word
  /-- The stamp of the peer's L at transmission, and of this unit's L at arrival, in ns, the link's own delay removed. -/
  peerL : Int
  ownL : Int
  /-- A domain of the peer that refused an entry into a lower power state (R424). -/
  refused : Option (Fin 11) := none
  /-- A standby's: the reference that the active has selected is absent (R303). -/
  refAbsent : Bool := false
  deriving DecidableEq, Repr

/-- What start-up finds outside the part, at the release of POR_N (Table PWR-6). -/
structure StartEnv where
  /-- The bytes of the two QSPI slots; `none` where a slot cannot be read. -/
  slot0 : Option (List Byte)
  slot1 : Option (List Byte)
  /-- SPI chip select was held low through the release (R435). -/
  spiHeld : Bool := false
  /-- Step 1 succeeded. -/
  powerOk : Bool := true
  /-- Step 3: which PLLs locked. -/
  sysPll : Bool := true
  audioPll : Bool := true
  dramPll : Bool := true
  pciePll : Bool := true
  /-- Step 4: network ports and the thermal sensor that failed calibration. -/
  calPorts : List Nat := []
  calSensor : Bool := true
  /-- Step 5: whether training succeeded, and what is installed (R343, R348). -/
  trained : Bool := true
  capacityGiB : Nat := 16
  density : Nat := 0
  ranks : Nat := 1
  trainWords : List Word := []
  /-- The PREFERRED strap, and whether ILK_B reads high. -/
  preferred : Bool := false
  ilkB : Bool := true
  /-- The version word of the Ganen that the image holds (R228). -/
  ganen : Word := 0
  deriving DecidableEq, Repr

/-- The work of a Facet's run in a cycle; Ganen's allocation gives it (R29, R179). DESIGN CHOICE, log 18. -/
inductive Work where
  /-- The user kernel of the Facet. -/
  | kernel
  /-- Object chains. -/
  | objects (os : List (Fin 1024))
  /-- Matrix columns. -/
  | matrix (fs : List (Fin 1024))
  /-- Feed chains. -/
  | chains (fs : List (Fin 1024))
  deriving DecidableEq, Repr

/-- What a run meets: channel-blocks found corrupt in memory (by channel identifier), objects whose prefetch is late, and
objects whose propagation parameters or gain lists are missing or fail their check (R84, R85, R368). -/
structure RunFacts where
  corrupt : List Nat := []
  late : List (Fin 1024) := []
  noParams : List (Fin 1024) := []
  noGains : List (Fin 1024) := []
  deriving DecidableEq, Repr

/-- What ball PDM_n_DAT carried, oldest first (R120, R121): bits at the rising and at the falling edges of the clock, 1 or 0; of a
TDM ADC the slot words, slot 0 and slot 1 in turn, as `rise`. -/
structure MeasLine where
  ball : Fin 16
  rise : List Int
  fall : List Int := []
  deriving DecidableEq, Repr

/-- What a render boundary meets: exit blocks found corrupt (by feed), how many objects Ganen must mute for the Facets that
remain to carry the load (R41), and what the measurement data balls carried since the last boundary. -/
structure BoundaryFacts where
  badExits : List (Fin 1024) := []
  shed : Nat := 0
  meas : List MeasLine := []
  deriving DecidableEq, Repr

/-- What the device reads for one command ring entry (Table KCP-8): the descriptor's address, length and reserved word, the
packet's bytes, and whether a completion ended in error. -/
structure RingRead where
  addr : Nat
  len : Nat
  reserved : Word := 0
  bytes : List Byte
  error : Bool := false
  deriving DecidableEq, Repr

/-- A reply descriptor as the device reads it (Table KCP-8); `error` where the read of it completes in error. -/
structure RplDesc where
  addr : Nat
  len : Nat
  reserved : Word := 0
  error : Bool := false
  deriving DecidableEq, Repr

/-- What the selector measures of a reference in one second (R290, R293): phase against L in ns, reduced as Table TIME-3
says, and frequency against L in 2^-40. -/
structure RefMeas where
  phase : Int
  freq : Int
  /-- DARS: the grade in AES3 channel status, 0 where it is not indicated (Table TIME-4). -/
  grade : Nat := 0
  deriving DecidableEq, Repr

/-- A PTP message that Ganen takes (R281, R282), with the stamps it needs in ns of the slot's time base. -/
inductive PtpMsg where
  /-- Announce: domain, its sender's port identity, clockClass, clockAccuracy, the comparison key of its data set (lower is
  better), and whether the algorithm prefers the device's own data set. -/
  | announce (domain src gmClass gmAcc key : Nat) (ownBetter : Bool)
  /-- Sync: domain, sequence, two-step, origin time, arrival stamp. -/
  | sync (domain seq : Nat) (twoStep : Bool) (origin arrival : Int)
  /-- Follow_Up: domain, sequence, precise origin time. -/
  | followUp (domain seq : Nat) (origin : Int)
  /-- Delay_Resp: domain, and the mean path delay that it completes. -/
  | delayResp (domain : Nat) (delay : Int)
  /-- Delay_Req from a slave of the device as master: domain and sequence. -/
  | delayReq (domain seq : Nat)
  deriving DecidableEq, Repr

/-- What a SEC-DED check finds in a word that is read. -/
inductive WordCheck where
  | clean | corrected | uncorrectable
  deriving DecidableEq, Repr

/-- How a Girdle transfer ends (R171): in a bus error, or whole, with what the check of a PUT's local words finds (R163). -/
inductive GirdleEnd where
  | busError
  | whole (chk : WordCheck)
  deriving DecidableEq, Repr

/-- The issue of one slot of a bundle (R165): the Facet, the slot word below its opcode (bits [23:0] of a scalar or vector
slot, [27:0] of a memory slot), the memory slot, whether it is the bundle's last slot that is issued, and what the checks of
R163 and R176 find. -/
structure Issue where
  k : Fin 64
  f : BitVec 28
  m : Fin 2 := 0
  last : Bool := true
  residue : Bool := false
  dmem : WordCheck := .clean
  pmem : WordCheck := .clean
  deriving DecidableEq, Repr

/-- A frame of a TDM port (R306, R317, R318): the slots' words as signed numbers of the slot width, the number of the frame's
start on the sample grid of the port's rate, whether the frame is faulty and, if so, whether its period agrees with the faulty
frames before it, whether the port's queues overflowed or underflowed, and the measured ratio. -/
structure TdmFrame where
  slots : List Int
  idx : Nat
  glitch : Bool := false
  agree : Bool := false
  ovr : Bool := false
  under : Bool := false
  meas : Word := 0x40000000
  deriving DecidableEq, Repr

/-- A dual-clock queue (Table ARCH-4). -/
inductive Crossing where
  | media | mgmt | bezel | audioIo | tdmPort | loupe | facetStation | dramPort | pcie
  deriving DecidableEq, Repr

/-- A transaction of a bus master (R329 to R336): master code, identifier, address, bytes, and what it writes; whether a control
core runs in machine mode, whether the request aged at its target, whether the target gives no response, what the check of the
memory's code finds with its syndrome, and whether the access is made through the register window. -/
structure BusReq where
  master : Fin 8
  id : Fin 16 := 0
  addr : Nat
  size : Nat
  write : Option (List Byte) := none
  machine : Bool := true
  aged : Bool := false
  silent : Bool := false
  check : WordCheck := .clean
  synd : Nat := 0
  user : Bool := false
  deriving DecidableEq, Repr

/-- How the transactions of a DMA burst end (R356): a bus error or a watchdog end on the read or on the write side; or a word read
that its code cannot correct, with the syndrome. -/
inductive DmaResp where
  | ok
  | error (read : Bool)
  | uncorrectable (synd : Nat)
  | hang (read : Bool)
  deriving DecidableEq, Repr

/-- A JTAG access (R456): boundary scan of the pads, or a control core's access to an address made through debug. -/
inductive JtagAccess where
  | scan
  | debug (addr : Nat) (w : Option Word)
  deriving DecidableEq, Repr

end Sys2Proof
end

