-- ==== Sys2Proof/Machine/TypesRender.lean ====
section
/-! DEFINITION. The state of the render: zones, layouts, objects, routes, feeds and their chains (02, 03, 04). Positions,
gains and samples are numbers; a sample or gain in Q5.27 is an integer in units of 2^-27; a single-precision value is a word. -/

namespace Sys2Proof.Machine

/-- A point or velocity, in mm or mm/s (R33). -/
structure V3 where
  x : Int := 0
  y : Int := 0
  z : Int := 0
  deriving DecidableEq, Repr

/-- A vector of single-precision numbers (R53). -/
structure U3 where
  x : F32 := 0
  y : F32 := 0
  z : F32 := 0
  deriving DecidableEq, Repr

/-- An exclusion region (Table PAV-1). -/
structure Excl where
  on : Bool := false
  lo : V3 := {}
  hi : V3 := {}
  deriving DecidableEq, Repr

/-- The parameters of a zone (Tables MODEL-1 and PAV-1). -/
structure Zone where
  enable : Bool := false
  ref : V3 := {}
  method : Nat := 0
  c : Nat := 343000
  xfade : Nat := 16
  rho : Nat := 600
  blur : Nat := 100
  alpha : Nat := 100
  jump : Nat := 64
  excl : List Excl := [{}, {}, {}, {}, {}, {}, {}, {}]
  deriving DecidableEq, Repr

/-- A speaker of a solved layout: a feed, or a virtual speaker (R57, R471), with its direction and azimuth. -/
structure Speaker where
  feed : Option Nat
  pos : V3 := {}
  dir : U3
  az : F32 := 0
  deriving DecidableEq, Repr

/-- A triangle: its speakers by their place in the vertex order, and the three rows of the stored inverse (R471). -/
structure Tri where
  a : Nat
  b : Nat
  c : Nat
  r1 : U3
  r2 : U3
  r3 : U3
  deriving DecidableEq, Repr

/-- The plane of a two-speaker layout: its basis and the 2 by 2 inverse (R56, R471). -/
structure Plane where
  e1 : U3
  e2 : U3
  i11 : F32
  i12 : F32
  i21 : F32
  i22 : F32
  deriving DecidableEq, Repr

/-- A solved layout. -/
structure Layout where
  /-- Whether it was solved while the zone was enabled (R55). -/
  enabled : Bool := false
  method : Nat := 0
  spk : List Speaker := []
  tris : List Tri := []
  plane : Option Plane := none
  deriving DecidableEq, Repr

/-- The layouts of a zone as they run (R59 to R61). -/
structure ZoneRt where
  live : Layout := {}
  outgoing : Option Layout := none
  /-- A solved layout whose switch is not yet entered. -/
  pending : Option Layout := none
  /-- Layouts whose switch has been entered, oldest first, and those that wait for a running crossfade's end. -/
  entered : List Layout := []
  due : List Layout := []
  /-- What the running solve was started with gives, and its reason code (R59, Table PAV-2). -/
  run : Layout := {}
  runReason : Nat := 0
  /-- First block of the running crossfade. -/
  xStart : Nat := 0
  solving : Bool := false
  again : Bool := false
  failed : Bool := false
  reason : Nat := 0
  gen : Nat := 0
  lastUs : Nat := 0
  deriving DecidableEq, Repr

/-- The parameters of an object (Table MODEL-2, R87). -/
structure Obj where
  zone : Nat := 0xFF
  pos : V3 := { x := 0, y := 2000, z := 0 }
  velMode : Nat := 0
  vel : V3 := {}
  gain : Int := 0
  spread : Nat := 0
  diverge : Nat := 0
  distModel : Nat := 0
  distRef : Nat := 1000
  knee : Nat := 10000
  doppler : Bool := false
  air : Bool := false
  prio : Nat := 128
  dense : Bool := false
  exclMask : Nat := 0
  snap : Bool := false
  snapTol : Nat := 0
  smooth : Nat := 0
  ext : Bool := false
  source : Nat := 0
  deriving DecidableEq, Repr

/-- A held position sample: its time in units of 1/3 ns from the epoch, whether it still awaits the mid-time of the first
block it affects, and its place (R38, R39). DEDUCED, log 75. -/
structure PosSample where
  t : Int
  untimed : Bool := false
  pos : V3
  deriving DecidableEq, Repr

/-- One gain of an object toward a feed, moving (R74, R75): the smoothing state in single precision, and the target of the
previous block and of this one in Q5.27. -/
structure GainSt where
  aim : F32 := 0
  step : F32 := 0
  tgt : F32 := 0
  left : Nat := 0
  prevQ : Int := 0
  tgtQ : Int := 0
  deriving DecidableEq, Repr

/-- The law, length and first block of a crossfade (R97). -/
structure Xfade where
  start : Nat
  n : Nat
  equalGain : Bool
  deriving DecidableEq, Repr

/-- The change an object's own route change asks for, or a route's, while it waits (R99). -/
inductive RouteCh where
  | zone (z : Nat)
  | dense (d : Bool)
  | source (c : Nat)
  | create (r o f tap : Nat) (gain : Int) (follow : Bool)
  | change (r o f tap : Nat) (gain : Int) (follow : Bool)
  | delete (r : Nat)
  deriving DecidableEq, Repr

/-- A waiting route change with its crossfade. -/
structure Waiting where
  ch : RouteCh
  n : Nat
  equalGain : Bool
  /-- Objects whose ROUTE_DEFER has counted it. -/
  counted : List Nat := []
  deriving DecidableEq, Repr

/-- A 64-sample crossfade of the object chain between two delays (R81, R82). -/
structure TapFade where
  start : Nat
  oldD : F32
  deriving DecidableEq, Repr

/-- Histories of a biquad section: x in Q5.27, y in Q7.57 (R103). -/
structure BiqSt where
  x1 : Int := 0
  x2 : Int := 0
  y1 : Int := 0
  y2 : Int := 0
  deriving DecidableEq, Repr

/-- Coefficients of a section, Q2.30 (Table MIX-4). -/
structure Biq where
  b0 : Int := 0x40000000
  b1 : Int := 0
  b2 : Int := 0
  a1 : Int := 0
  a2 : Int := 0
  deriving DecidableEq, Repr

/-- Propagation parameters and gain state of an object as it runs (03, R98). -/
structure ObjRt where
  held : List PosSample := []
  /-- The position evaluated for the previous block, and its mid-time. -/
  prevPos : U3 := {}
  prevT : Int := 0
  hasPrev : Bool := false
  /-- Direction of the previous block, for R34. -/
  az : F32 := 0
  el : F32 := 0
  snapLive : Option Nat := none
  snapOut : Option Nat := none
  /-- Delay in force at the end of the last block, in samples (R78). -/
  dPrev : F32 := 0
  /-- Target and coefficient of the block being rendered. -/
  dTgt : F32 := 0
  airA : Int := 0
  airPrev : Int := 0
  assigned : Bool := false
  jump : Option TapFade := none
  place : Option TapFade := none
  /-- Doppler as it runs, its crossfade's first block, and a waiting change (R83). -/
  dopOn : Bool := false
  dopFade : Option Nat := none
  dopWait : Option Bool := none
  extOn : Bool := false
  line : List Int := []
  air1 : Int := 0
  air2 : Int := 0
  deco : List Biq := []
  decoSt : List BiqSt := []
  direct : SMap GainSt := []
  diffuse : SMap GainSt := []
  /-- Whether the next ramp starts from 0 (R74), or each gain at its first target (R98). -/
  fromZero : Bool := false
  atTarget : Bool := false
  /-- Route crossfade: the old side's held gains and the old source (R98). -/
  xf : Option Xfade := none
  /-- Whether the running crossfade weighs the panned rows (a change of zone or dense flag). -/
  xfPan : Bool := false
  oldDirect : SMap Int := []
  oldDiffuse : SMap Int := []
  oldSource : Option Nat := none
  /-- The zone of the held old side, 0xFF where there is none. -/
  oldZone : Nat := 0xFF
  /-- Matrix weight of the old side of a running crossfade (Table MIX-2), whether it has been taken, and the seed of the
  decorrelator (R73). -/
  oldW : Nat := 0
  xfOwn : Bool := false
  seed : Nat := 0
  waiting : List Waiting := []
  release : Bool := false
  /-- The source signal of the block in hand, which tap PRE takes. -/
  pre : List Int := []
  excludedAll : Bool := false
  clamped : Bool := false
  /-- Muted under R41, the block that ramps to that mute, and whether the next block ramps from it. -/
  shed : Bool := false
  shedAt : Nat := 0
  unshed : Bool := false
  /-- Check words of the gain list and of the propagation parameters that Pavilion wrote (R85). -/
  listChk : Word := 0
  parChk : Word := 0
  deriving DecidableEq, Repr

/-- An auxiliary route (Table MIX-3). -/
structure Route where
  obj : Nat
  feed : Nat
  tap : Nat := 1
  gain : Int := 0
  follow : Bool := false
  deriving DecidableEq, Repr

/-- A route index as it runs: what is in force or fading in, what fades out, and the gain the last block ended on. -/
structure RouteRt where
  cur : Option Route := none
  fadingIn : Bool := false
  old : Option Route := none
  prevQ : Int := 0
  tgtQ : Int := 0
  oldQ : Int := 0
  deriving DecidableEq, Repr

/-- The identity of a feed (Table MODEL-3). -/
structure Feed where
  enable : Bool := false
  zone : Nat := 0xFF
  aux : Bool := true
  pos : V3 := {}
  groups : Nat := 0
  dest : List Nat := [0, 0, 0, 0]
  withdrawn : Bool := false
  deriving DecidableEq, Repr

/-- The chain parameters of a feed (Table MIX-4). -/
structure Chain where
  inTrim : Int := 0
  invert : Bool := false
  biq : List Biq := List.replicate 16 {}
  delay : Nat := 0
  limOn : Bool := false
  limThr : Int := 0
  limRel : Nat := 100
  outTrim : Int := 0
  deriving DecidableEq, Repr

/-- A filter: its length, its library entry (0xFFFF for bypass) and its Q2.30 taps (R106, R237). -/
structure Fir where
  len : Nat := 0
  entry : Nat := 0xFFFF
  taps : List Int := []
  deriving DecidableEq, Repr

/-- The spectrum of 512 samples in 256 complex words with one exponent (R107): word 0 holds bins 0 and 256, word `i` bin `i`. With no
words it is that of silence. -/
structure Spectrum where
  exp : Int := 0
  words : List (Int × Int) := []
  deriving DecidableEq, Repr

/-- An A/B crossfade on a feed (R117). -/
structure AbFade where
  b : Fir
  start : Nat
  n : Nat
  equalGain : Bool
  ended : Bool := false
  deriving DecidableEq, Repr

/-- A feed chain as it runs. -/
structure FeedRt where
  on : Bool := false
  /-- The block after a disable rings out (R475). -/
  ringOut : Bool := false
  fresh : Bool := false
  inTrimQ : Int := 0x8000000
  polQ : Int := 0x8000000
  outTrimQ : Int := 0x8000000
  biq : List BiqSt := List.replicate 16 {}
  line : List Int := []
  d : Nat := 0
  dFade : Option (Nat × Nat) := none
  dWait : Bool := false
  fir : Fir := {}
  ab : Option AbFade := none
  /-- FIR input history, newest first: the head's, and the segment in hand with the one before it. -/
  hist : List Int := []
  /-- Frequency-domain delay line, the newest segment first (R107). -/
  fdl : List Spectrum := []
  /-- Samples since the last tail segment ended, and the held tail outputs of the live filter and of B (R108). -/
  since : Nat := 0
  tail : List Int := []
  tailB : List Int := []
  limG : Int := 0x40000000
  limiting : Bool := false
  delayLimit : Bool := false
  caratSub : Bool := false
  shadow : Bool := false
  direct : Bool := false
  /-- Exit: last good sample, consecutive held blocks, the block that leaves now, and a stopped unit's or a cold unit's ramp. -/
  last : Int := 0
  heldBlocks : Nat := 0
  leaving : List Int := []
  deriving DecidableEq, Repr

/-- The shadow bank (R111 to R113, R117): 0 free, 1 staging, 2 staged, 3 copying back, 4 A/B. -/
structure Shadow where
  st : Nat := 0
  set : List (Nat × Fir) := []
  /-- Whether the copy-back follows an A/B crossfade, the boundary at which it began, and the transaction that staged it. -/
  ab : Bool := false
  since : Nat := 0
  owner : Nat := 0
  deriving DecidableEq, Repr

/-- A direct write in progress: the units still to write, as (feed, unit, the new filter) (R115). -/
structure Direct where
  feeds : List (Nat × Fir) := []
  left : List (Nat × Nat) := []
  count : Nat := 0
  deriving DecidableEq, Repr

/-- A channel-block: its block number, its stored Carat and its samples (R365). -/
structure Blk where
  num : Nat
  carat : Word
  smp : List Int
  deriving DecidableEq, Repr

/-- The render (02, 03, 04). DEDUCED, log 7. -/
structure Render where
  /-- Number of the last boundary (R47). -/
  n : Nat := 0
  rate96 : Bool := false
  changing : Bool := false
  /-- Whether boundaries run. -/
  run : Bool := false
  zones : SMap Zone := []
  zoneRt : SMap ZoneRt := []
  objs : SMap Obj := []
  objRt : SMap ObjRt := []
  routes : SMap RouteRt := []
  feeds : SMap Feed := []
  chains : SMap Chain := []
  feedRt : SMap FeedRt := []
  lib : SMap Fir := []
  shadow : Shadow := {}
  direct : Option Direct := none
  /-- Channel-blocks in Crown by channel identifier (R366). -/
  blocks : SMap Blk := []
  /-- Samples that await their input window, by source code and sample number (R16). -/
  playout : SMap (SMap Int) := []
  /-- Input sources whose failed block, and objects whose hold, this cycle has recorded (Table INTEG-3, R85). -/
  inBad : List Nat := []
  /-- Input channels that lost samples of the window now open in a dual-clock queue (R24). -/
  cdcBad : List Nat := []
  pavHeld : List Nat := []
  deriving DecidableEq, Repr

end Sys2Proof.Machine
end

