-- ==== Sys2Proof/Machine/TypesDelta.lean ====
section
/-! DEFINITION. The entries of a state delta (14), and the transactions that its entries carry. -/

namespace Sys2Proof.Machine

/-- An open transaction (R205, R206). -/
structure Txn where
  id : Nat
  cmds : List Staged := []
  bytes : Nat := 0
  deriving DecidableEq, Repr

/-- A pending timed commit (R209). The time is in nanoseconds from the epoch. -/
structure Timed where
  id : Nat
  cmds : List Staged
  ns : Nat
  seq : Nat
  /-- Whether the commit can no longer make the boundary its time asks for. -/
  late : Bool
  deriving DecidableEq, Repr

end Sys2Proof.Machine

namespace Sys2Proof

/-- What a SESSION entry of the delta carries (Table PAIR-7): the binding, H, the window and the event sequence. -/
structure SessImage where
  isOpen : Bool
  ep : Endpoint
  h : Nat
  seen : Nat
  evSeq : Nat
  mask : Nat
  idle : Nat
  tagged : Bool
  /-- The open and the pending transactions, whose staged sets travel as STAGING (R212). -/
  txn : Option Machine.Txn
  timed : List Machine.Timed
  /-- The number of changes staged so far, by which an older image is known (log 199). -/
  ver : Nat
  deriving DecidableEq, Repr

/-- An object that travels as STAGING (R398, R474). DEDUCED, log 199. -/
inductive StagedObj where
  /-- A payload above 4 KiB, a structure or an image, whose contents the entry that names it carries. -/
  | bytes (b : List Byte)
  /-- A change of a session or of its transactions, made by a command of R474. -/
  | session (s : Nat) (image : SessImage)
  /-- A staged command of the transaction named, or a piece outside one where the identifier is 0. -/
  | command (s txn : Nat) (cmd : Staged)
  deriving DecidableEq, Repr

/-- The outcome of a Ganen timer (Table PAIR-7, kind 0x000A). -/
inductive TimerOut where
  | idle (session : Nat)
  | pieces (session : Nat) (op : Nat) (name : Nat)
  | waitToRestore (ref : Nat)
  | confirm (feed : Nat)
  deriving DecidableEq, Repr

/-- One entry of a state delta (Table PAIR-7). The exit entry is the one kind the standby only compares. -/
inductive Entry where
  | command (ep : Endpoint) (sess seq op txn : Nat) (tagged : Bool) (payload : List Byte) (rcd : ReplyRec) (data : List Byte)
  | commit (ep : Endpoint) (sess seq txn : Nat) (tagged : Bool) (cmds : List Staged) (timed late : Bool) (rcd : ReplyRec)
  | session (s : Nat) (image : SessImage)
  | position (payload : List Byte)
  | asrc (port : Nat) (ratio : Word)
  | asrcLock (port : Nat) (phase : Word)
  /-- A reference selected, or none for holdover, with the active's cause (Table TIME-6). -/
  | reference (ref : Option Nat) (cause : Nat)
  | loupe (d : LoupeDec)
  | seed (what index value : Nat)
  | layout (zone : Nat) (l : Machine.Layout)
  | timer (t : TimerOut)
  | powerState (state : Nat)
  | powerPoint (point : Nat)
  | handover (k : Nat) (cause : Nat)
  | exit (carats : List (Nat × Word))
  deriving DecidableEq, Repr

/-- A segment of a delta as the standby receives it (R396, R399). -/
structure DeltaSeg where
  /-- Delta sequence, boundary and flags, from the header. -/
  seq : Nat
  boundary : Nat
  verify : Bool
  /-- This segment's number, and how many there are. -/
  index : Nat
  total : Nat
  /-- Whether its check passes. -/
  good : Bool
  /-- The entries it carries. -/
  entries : List Entry
  /-- Staged objects that its entries name. -/
  names : List Nat := []
  deriving DecidableEq, Repr

end Sys2Proof
end

