-- ==== Sys2Proof/Machine/TypesCore.lean ====
section
/-! DEFINITION. The state of the control protocol, the state delta, the integrity unit and the pairing unit (07, 13, 14). -/

namespace Sys2Proof.Machine

/-- A statistics counter with its capture and Ganen's accumulator, each 48 bits with a sticky SAT (R381, R382). -/
structure Cnt where
  live : Nat := 0
  sat : Bool := false
  cap : Nat := 0
  capSat : Bool := false
  acc : Nat := 0
  accSat : Bool := false
  deriving DecidableEq, Repr

/-- A session (R196 to R198, R214). -/
structure Session where
  isOpen : Bool := false
  ep : Endpoint := .spi
  /-- Highest accepted sequence number and the 64-bit window (R197). -/
  h : Nat := 0
  seen : Nat := 0
  evSeq : Nat := 0
  mask : Nat := 0xFFFF
  /-- Idle timeout in seconds; 0 for never. -/
  idle : Nat := 30
  /-- Whether the session's command packets carry tags (R200). -/
  tagged : Bool := false
  /-- Whether the next event delivered carries LOSS (R215). -/
  loss : Bool := false
  txn : Option Txn := none
  timed : List Timed := []
  /-- Numbers in the window: `none` while the original has no reply (R198). -/
  replies : List (Nat × Option ReplyRec) := []
  /-- Changes staged at the peer so far. The model's own (log 199). -/
  ver : Nat := 0
  deriving DecidableEq, Repr

/-- An unfinished pieced object (R225). -/
structure Pieces where
  session : Nat
  op : Nat
  name : Nat
  /-- The transaction whose pieces they are; 0 for none. -/
  txn : Nat
  bytes : List Byte
  deriving DecidableEq, Repr

/-- The body of a packet the device sends: a reply (R194) or an event (R213). -/
inductive Body where
  | reply (r : ReplyRec) (dup : Bool) (data : List Byte)
  | event (sec ns : Nat) (payload : List Byte) (loss : Bool)
  deriving DecidableEq, Repr

/-- A packet the device sends: `op` is the echoed opcode, or the event code. -/
structure OutPkt where
  ep : Endpoint
  session : Nat
  seq : Nat
  op : Nat
  txn : Nat
  tagged : Bool
  body : Body
  /-- The 16 bytes after the Carat, where AUTH is set (R200). -/
  tag : List Byte := []
  deriving DecidableEq, Repr

/-- A ring pair beyond its registers (R216, R217). -/
structure Ring where
  /-- Reply buffers posted and not yet filled: address and length. -/
  posted : List (Nat × Nat) := []
  /-- Reply descriptors read: the index of the next one. -/
  next : Nat := 0
  /-- Replies and events that wait for a buffer, oldest first. -/
  waiting : List OutPkt := []
  /-- Descriptors filled since the last message. -/
  coal : Nat := 0
  deriving DecidableEq, Repr

/-- The control protocol. -/
structure Kcp where
  sess : List Session := List.replicate 8 {}
  /-- Packets that a transport has delivered and Ganen has not taken, oldest first. -/
  rx : List (Endpoint × List Byte) := []
  rings : List Ring := List.replicate 4 {}
  spiOut : List OutPkt := []
  pieces : List Pieces := []
  /-- The register window: seconds it was opened for, while it is open (R218). -/
  window : Option Nat := none
  /-- The session served last (R199). -/
  lastServed : Nat := 7
  deriving DecidableEq, Repr

/-- A closed delta (Table PAIR-6). -/
structure Closed where
  boundary : Nat
  seq : Nat
  verify : Bool
  entries : List Entry
  deriving DecidableEq, Repr

/-- The state delta in its stages (R17 to R21, R396 to R402). -/
structure Delta where
  /-- Entries accepted and not yet in a closed delta, in order of acceptance. -/
  entries : List Entry := []
  /-- Whether the cut-off of the cycle in hand has passed. -/
  cutoff : Bool := false
  closed : Option Closed := none
  acked : Bool := false
  /-- Whether the closed delta has passed its deadline and is committed. -/
  committed : Bool := false
  /-- Consecutive drops (R401). -/
  drops : Nat := 0
  seq : Nat := 0
  /-- TXN_DONE events due at the deadline: the commit's session, its transaction, and the result. -/
  rolled : List (Nat × Nat × ReplyRec) := []
  /-- Standby: segments received of the delta in hand, and deltas kept during synchronisation. -/
  rxSeq : Nat := 0
  rxSegs : SMap (List Entry) := []
  rxNames : List Nat := []
  /-- A verified delta that names staged objects which are not yet held. -/
  rxWhole : Option Closed := none
  held : Option Closed := none
  marked : Bool := false
  kept : List Closed := []
  deriving DecidableEq, Repr

/-- An inclusion record (Table INTEG-4). DEDUCED, log 13. -/
structure Incl where
  cls : Nat
  dev : Bool
  unit : Nat
  seq : Nat := 0
  sec : Nat := 0
  ns : Nat := 0
  flags : Nat := 0
  inst : Nat := 0
  block : Nat := 0
  addr : Nat := 0
  /-- Up to four words (log 13). -/
  detail : List Word := []
  rep : Nat := 0
  deriving DecidableEq, Repr

/-- The integrity unit beyond its registers (13). -/
structure Integ where
  /-- Records in the Table ring, oldest first, at most 1024, and those of them not yet copied to DRAM. -/
  log : List Incl := []
  uncopied : List Nat := []
  /-- Records in the DRAM ring, oldest first. -/
  dram : List Incl := []
  /-- Coalescing: class, unit, instance, severity D, detections coalesced so far (R378). -/
  recent : List (Nat × Nat × Nat × Bool × Nat) := []
  /-- Consecutive boundaries without a closed delta (R372), and thermal samples above the maximum (R374). -/
  missed : Nat := 0
  hot : Nat := 0
  /-- A restart of the control complex runs (R373), and the unit's render has stopped until POR_N. -/
  restarting : Bool := false
  stopped : Bool := false
  /-- The render stopped with the system PLL: every output slot carries zeros until POR_N (R2, R302). -/
  pllStop : Bool := false
  /-- The last closed block, for GANEN_STALL's detail. -/
  lastClosed : Nat := 0
  deriving DecidableEq, Repr

/-- The bus keepers' state (Table PAIR-2). -/
inductive Keeper where
  | off | on | tracking
  deriving DecidableEq, Repr

/-- The pairing unit beyond its registers (14). -/
structure Pair where
  /-- The unit drives ILK_A low; ILK_B reads high; ILK_A reads low. -/
  claim : Bool := false
  ilkB : Bool := true
  /-- Both units claimed and see each other (R388). -/
  tie : Bool := false
  keeper : Keeper := .off
  /-- Synchronisation state code (Table PAIR-8). -/
  sync : Nat := 0
  muted : Bool := false
  /-- Released on a fault since it last became synchronised, or since POR_N (R388). -/
  releasedFault : Bool := false
  peer : Option Heartbeat := none
  lane0 : Bool := false
  lane1 : Bool := false
  /-- A valid heartbeat within the last 100 µs. -/
  beat : Bool := false
  /-- A NOTICE came before the peer's release (R389), with its class. -/
  notice : Option Nat := none
  /-- Agreed boundary and cause of a handover or reclaim (R413, R414). -/
  handover : Option (Nat × Nat) := none
  /-- A release at a handover awaits the peer's claim. -/
  awaiting : Bool := false
  /-- The peer is treated as a cold standby after a second drop (R401). -/
  peerCold : Bool := false
  /-- Staged objects the standby holds, by number, and those that the active still has to send. -/
  staged : SMap (List Byte) := []
  imageBoundary : Nat := 0
  imageDone : Bool := false
  records : Nat := 0
  verifyCount : Nat := 0
  /-- Stage 1 and exit Carats of the last completed block, for comparison. -/
  exits : List (Nat × Word) := []
  reconDone : Bool := true
  reconCount : Nat := 0
  /-- When the standby of the pair became synchronised, ns of L. -/
  syncAt : Nat := 0
  /-- An unmute ramp after a cold takeover: first block of the ramp (R412). -/
  unmuteAt : Option Nat := none
  coldAt : Option Nat := none
  deriving DecidableEq, Repr

end Sys2Proof.Machine
end

