-- ==== Sys2Proof/Machine/TypesFacet.lean ====
section
/-! DEFINITION. The state of the Facet array, the Girdle and user kernels (06). -/

namespace Sys2Proof.Machine

/-- A result on its way to its register (R167): registers by number (a vector register by its physical number), lanes with
their values; `fwd` marks the accumulations that follow one another in consecutive cycles. -/
inductive Land where
  | s (r : Nat) (w : Word)
  | v (r : Nat) (lanes : List (Nat × Word))
  | a (r : Nat) (lanes : List (Nat × Int)) (fwd : Bool)
  | p (r : Nat) (bits mask : Nat)
  | sp (i : Nat) (w : Word)
  | satf
  deriving DecidableEq, Repr

/-- A running LOOP (R175): first bundle, length, count, stages and pass. -/
structure LoopSt where
  start : Nat
  len : Nat
  count : Nat
  stages : Nat
  pass : Nat := 0
  deriving DecidableEq, Repr

/-- A Girdle transfer whose tag no GWAIT has covered yet (R171, R172): what its destination, or a PUT's source, held at its
start. -/
structure Xfer where
  tag : Nat
  put : Bool
  localA : Nat
  remote : Nat
  len : Nat
  done : Bool := false
  /-- A PUT whose data has arrived. -/
  sent : Bool := false
  old : List Byte
  deriving DecidableEq, Repr

/-- The registers of a Facet (Tables FACET-1 and FACET-2) and the run in hand. -/
structure FacetCore where
  s : SMap Word := []
  v : SMap (List Word) := []
  a : SMap (List Int) := []
  p : SMap Nat := []
  satf : Bool := false
  carousel : Nat := 0
  /-- GSTAT: tags complete, and tags ended in error. -/
  gdone : Nat := 0
  gerr : Nat := 0
  /-- CB0_BASE, CB0_LEN, CB1_BASE, CB1_LEN. -/
  cb : List Nat := [0, 0, 0, 0]
  /-- A run is in hand; its block number, its cycles so far, and the bundles issued since reset. -/
  run : Bool := false
  blk : Nat := 0
  cyc : Nat := 0
  issued : Nat := 0
  pc : Nat := 0
  loop : Option LoopSt := none
  /-- Results in flight: the issue cycle at which each lands, and its slot. -/
  flight : List (Nat × Nat × Land) := []
  /-- The bundle in hand: its results, the transfer it starts, whether it holds a store, the memory slots that it uses, a taken
  branch, a LOOP that starts, stores, a multiplier that takes two cycles, END, a stall. -/
  made : List (Nat × Nat × Land) := []
  newX : Option Xfer := none
  stored : Bool := false
  used : Nat := 0
  branch : Option Nat := none
  newLoop : Option LoopSt := none
  skip : Option Nat := none
  stores : List (Nat × List (Option Byte)) := []
  wide : Bool := false
  ending : Bool := false
  hold : Bool := false
  /-- The bundle before held an instruction of issue interval 2 (R166). -/
  hot : Bool := false
  xfers : List Xfer := []
  /-- Cycles in a row that left no memory slot free (R173). -/
  full : Nat := 0
  /-- Time that the fetch has in hand, in thousandths of a Facet cycle (log 192). -/
  due : Int := 0
  deriving DecidableEq, Repr

/-- A loaded user kernel (R183). -/
structure Kernel where
  facet : Nat
  entry : Nat
  budget : Nat
  start : Nat
  /-- Crown share: first unit of 64 KiB in the user partition, and units. -/
  shareAt : Nat
  share : Nat
  limit : Nat
  run : Bool := false
  suspended : Bool := false
  /-- Consecutive overruns. -/
  ovr : Nat := 0
  /-- Place in the order of loading, and the image as loaded. -/
  seq : Nat := 0
  img : List Byte := []
  /-- While a run is in hand, the bytes of its data memory and of its Crown share as the last completed run left them. -/
  held : Option (List Host.Cell) := none
  deriving DecidableEq, Repr

/-- The Facet array beyond its registers. -/
structure Facets where
  /-- State codes of Table FACET-9, by Facet. -/
  st : List Nat := List.replicate 64 0
  core : SMap FacetCore := []
  /-- Cause and STOP_PC of the last fault stop, by Facet. -/
  fault : SMap (Nat × Nat) := []
  /-- Time used in the last run, ns, and OVR. -/
  used : SMap (Nat × Bool) := []
  /-- FACET_START and FACET_BUDGET as they took effect at the last boundary. -/
  live : SMap (Nat × Nat) := []
  /-- Render Facets that stopped and are not yet replaced, with the time of the stop, ns of L. -/
  stopped : SMap Nat := []
  /-- Times of entry into QUARANTINE, and boundaries of render overruns. -/
  quar : SMap (List Nat) := []
  ovr : SMap (List Nat) := []
  noSpare : Bool := false
  kernels : SMap Kernel := []
  deriving DecidableEq, Repr

end Sys2Proof.Machine
end

