-- ==== Sys2Proof/Machine/TypesLoupe.lean ====
section
/-! DEFINITION. The state of Loupe (05). -/

namespace Sys2Proof.Machine

/-- A feed's compensation terms in force: gain in 0.01 dB and delay in samples (R151). -/
structure Comp where
  gain : Int := 0
  delay : Int := 0
  deriving DecidableEq, Repr

/-- A half-band stage: its history, newest first, and whether the next sample gives an output. -/
structure HalfSt where
  hist : List Int := []
  phase : Bool := false
  deriving DecidableEq, Repr

/-- A measurement input (R120 to R131). -/
structure LIn where
  /-- 0 off, 1 settling, 2 running, 3 stuck. -/
  st : Nat := 0
  stages : List HalfSt := List.replicate 6 {}
  /-- DC estimate in 2^-59. -/
  m : Int := 0
  /-- DCB_SHIFT, DCB_FREEZE and DCB_BYPASS in force in this block. -/
  shift : Nat := 14
  freeze : Bool := false
  bypass : Bool := false
  satLast : Bool := false
  /-- Saturated samples of the last block, and whether the input ran when the block began. -/
  satN : Nat := 0
  live : Bool := false
  /-- The last block's output samples, and the last 19 blocks' for the correlators. -/
  out : List Int := []
  hist : List Int := []
  deriving DecidableEq, Repr

/-- Table LOUPE-5, and the zone's drift estimate in parts per 10^9 with the Δ / τ_ref collected since, in the same unit. -/
structure LZone where
  audit : Bool := false
  policy : Nat := 0
  mics : Nat := 0
  aux : Bool := false
  autoLearn : Bool := true
  margin : Nat := 0
  dwell : Nat := 160
  confirm : Nat := 80
  levTol : Nat := 300
  bandTol : Nat := 600
  bandCnt : Nat := 4
  delTol : Nat := 24
  gainLim : Nat := 600
  delLim : Nat := 256
  drift : Bool := true
  driftRef : Nat := 0xFFFF
  wdLimit : Nat := 4
  eps : Int := 0
  ratios : List Int := []
  /-- Time of the last DRIFT event, ns, where there was one; times of withdrawals. -/
  driftEv : Option Nat := none
  withdrawn : List Nat := []
  deriving DecidableEq, Repr

/-- A feed as Loupe holds it (Table LOUPE-7). -/
structure LFeed where
  verdict : Nat := 0
  st : Nat := 0
  lev : Int := 0
  arrival : Int := 0
  delDev : Int := 0
  snr : Int := 0
  bands : List Int := []
  best : Option Nat := none
  quiet : Bool := false
  edge : Bool := false
  weak : Bool := false
  vetoed : Bool := false
  compLimit : Bool := false
  micSuspect : Bool := false
  /-- Time of the last conclusive result, ns. -/
  lastAt : Option Nat := none
  refs : List MicRef := []
  learn : Bool := false
  /-- Lags that the next correlation windows are centred on, by microphone, where a peak lay near an end (R144). -/
  centre : SMap Int := []
  gainTgt : Int := 0
  delTgt : Int := 0
  driftTgt : Int := 0
  driftCur : Int := 0
  /-- Gain and delay totals, which come into force at the next boundary. -/
  gain : Int := 0
  delay : Int := 0
  /-- Time of the last step of the delay total, and when the confirm timer ends. -/
  stepAt : Option Nat := none
  confirmAt : Option Nat := none
  deriving DecidableEq, Repr

/-- An action (R155): kind 0 gain, 1 delay, 2 withdrawal. -/
structure LAction where
  feed : Nat
  kind : Nat
  target : Int
  due : Nat
  entered : Bool := false
  deriving DecidableEq, Repr

/-- What a slot accumulates at one microphone (R144): the first lag of its window, the cross-correlation at 1024 lags, Σp², the
microphone's sum of squares and its samples, and of each band the cross-term at the peak's lag, Σp² and the blocks in which its
probe was active. -/
structure Corr where
  mic : Nat
  first : Int
  c : List Int := List.replicate 1024 0
  p2 : Int := 0
  m2 : Int := 0
  n : Nat := 0
  bands : List (Int × Int × Nat) := List.replicate 32 (0, 0, 0)
  deriving DecidableEq, Repr

/-- A probe slot in use (R141, R144, R149): the feed, when its slot began and when its integration began, in ns; the levels
that the last block ended on and the band filters; the masking estimate and the filters of the programme (R142); the probe
reference after the output trim, newest first, its bands after each sum, and the number of the sample that comes next (R140);
and the correlators. -/
structure Slot where
  feed : Nat
  since : Nat
  start : Nat
  lvl : List Int := List.replicate 32 0
  bp : List BiqSt := List.replicate 32 {}
  mask : List Int := List.replicate 32 0
  pbp : List BiqSt := List.replicate 32 {}
  hist : List (List Int) := []
  next : Nat := 0
  corr : List Corr := []
  deriving DecidableEq, Repr

/-- A response's record. -/
structure JobRec where
  step : Nat
  feed : Nat
  input : Nat
  status : Nat
  facts : RespFacts
  deriving DecidableEq, Repr

/-- An offline job (Table LOUPE-4). -/
structure LJob where
  zone : Nat
  mls : Bool
  level : Int
  f1 : Nat
  f2 : Nat
  dur : Nat
  tail : Nat
  order : Nat
  reps : Nat
  inputs : Nat
  len : Nat
  mute : Bool
  freeze : Bool
  base : Nat
  steps : List (List Nat)
  /-- 0 running, 1 complete, 2 ABORTED. -/
  result : Nat := 0
  /-- The step in hand, whether it runs, its first block, and whether it is being repeated. -/
  step : Nat := 0
  going : Bool := false
  start : Nat := 0
  again : Bool := false
  invalid : Bool := false
  /-- Feeds of the step that were disabled while it ran. -/
  disabled : List Nat := []
  /-- Captured samples of the step, and how many of them saturated, by input. -/
  caps : SMap (List Int) := []
  sats : SMap Nat := []
  recs : List JobRec := []
  deriving DecidableEq, Repr

/-- Loupe beyond its registers. DESIGN CHOICE, log 8. -/
structure Loupe where
  ins : List LIn := List.replicate 16 {}
  /-- Microphone positions by 16 × input + zone (R240). -/
  mic : SMap V3 := []
  zones : SMap LZone := []
  feeds : SMap LFeed := []
  comp : SMap Comp := []
  acts : SMap LAction := []
  nextAct : Nat := 0
  slots : List (Option Slot) := List.replicate 64 none
  /-- Last feed allocated, and the noise register (R141, R149). -/
  lastFeed : Nat := 1023
  noise : Nat := 0
  /-- The noise of the block being rendered, as signs. -/
  chips : List Int := []
  /-- Time of the last non-LOST conclusive result by 1024 × input + feed (R147). -/
  heard : SMap Nat := []
  jobs : SMap LJob := []
  nextJob : Nat := 0
  job : Option Nat := none
  /-- Feeds whose programme was off at the end of the last block (R136). -/
  gated : List Nat := []
  /-- Time of the last accepted edge of LOUPE_SYNC, ns of L, and the block of the last reset. -/
  lastEdge : Option Nat := none
  syncBlk : Nat := 0
  /-- Boundaries until a reset asked for by REQ takes place in this unit; 0 with none asked for. -/
  reqIn : Nat := 0
  /-- The job in hand ends at the next boundary (R138). -/
  ending : Bool := false
  /-- Carats of the last measurement blocks: block, input, Carat. -/
  carats : List (Nat × Nat × Word) := []
  deriving DecidableEq, Repr

end Sys2Proof.Machine
end

