-- ==== Sys2Proof/Machine/TypesMem.lean ====
section
/-! DEFINITION. The state of the memories, the bus matrix, the DRAM controller and the DMA engine (12). -/

namespace Sys2Proof.Machine

/-- A transaction outstanding at the bus matrix: its target code, 15 for none, and the domain whose wake it waits for. -/
structure BusTx where
  req : BusReq
  target : Nat
  wait : Option Nat := none
  deriving DecidableEq, Repr

/-- The memories and their controllers beyond their registers. -/
structure Mem where
  /-- Every byte of Table, the secure part, Crown, the Facets' memories and DRAM that differs from 0, by rising address
  (Table ARCH-6; log 9). -/
  bytes : List Host.Cell := []
  /-- DRAMC_STATUS.STATE (Table MEM-11), and INIT_DONE. -/
  st : Nat := 0
  initDone : Bool := false
  /-- DRAMC_INIT_MARK, usable MiB, and DRAMC_UE_ADDR. -/
  mark : Nat := 0
  ueAddr : Nat := 0
  /-- Installed GiB, density code and ranks (DRAMC_CFG). -/
  capacity : Nat := 0
  density : Nat := 0
  ranks : Nat := 0
  /-- DRAMC_TRAIN_l. -/
  train : List Word := [0, 0, 0, 0]
  /-- Ranks in power-down, as channel × 2 + rank (R348). -/
  down : List Nat := []
  /-- Tokens of the port regulators, in 1/500 byte (R347). -/
  tokens : List Nat := [0, 0, 0, 0]
  /-- Transactions outstanding; requests that their master holds back (R332, R333), oldest first; and transactions that the
  watchdog has ended at a target, by master and identifier (R335). -/
  outs : List BusTx := []
  held : List BusReq := []
  ended : List (Nat × Nat) := []
  deriving DecidableEq, Repr

/-- The controller is FAILED (R349). -/
def Mem.dramFailed (m : Mem) : Bool := m.st == 5

/-- One side of a COPY (R352): the list entry in hand, the entries left in its list with it, and the bytes of the entry not yet
moved with their address. -/
structure DmaSide where
  entry : Nat := 0
  left : Nat := 0
  addr : Nat := 0
  rem : Nat := 0
  deriving DecidableEq, Repr

/-- What a channel is doing. -/
inductive DmaJob where
  | idle
  /-- The descriptor is to be read. -/
  | fetch
  /-- A COPY that moves bytes. -/
  | copying
  /-- A COPY whose last write is issued. -/
  | moved
  /-- A FENCE that waits for write responses. -/
  | fence
  deriving DecidableEq, Repr

/-- A DMA channel beyond DMA_CH_CTL and DMA_CH_DESC (R350 to R357). -/
structure DmaCh where
  job : DmaJob := .idle
  halted : Bool := false
  cause : Nat := 0
  /-- Address of the descriptor in hand and its bytes. -/
  desc : Nat := 0
  dsc : List Byte := []
  src : DmaSide := {}
  dst : DmaSide := {}
  /-- Bytes read and not yet written, bytes written by the descriptor, and the running check register (R353, R355). -/
  buf : List Byte := []
  bytes : Nat := 0
  crc : Word := 0xFFFFFFFF
  retries : Nat := 0
  errAddr : Nat := 0
  deriving DecidableEq, Repr

/-- The DMA engine. -/
structure Dma where
  ch : List DmaCh := List.replicate 32 {}
  deriving DecidableEq, Repr

end Sys2Proof.Machine
end

