-- ==== Sys2Proof/Machine/TypesNet.lean ====
section
/-! DEFINITION. The state of the network engine and of flows (09). -/

namespace Sys2Proof.Machine

/-- The fields of a flow (Table CMD-11; log 10 names the values before the first FLOW_SET). DESIGN CHOICE, log 10. -/
structure Flow where
  enable : Bool := false
  position : Bool := false
  prim : Nat := 0
  sec : Nat := 0xFF
  dst : Nat := 0
  src : Nat := 0
  udp : Nat := 0
  vlan : Nat := 0
  l24 : Bool := false
  ch : Nat := 1
  pt : Nat := 0
  ptype : Nat := 96
  link : Nat := 0
  diff : Nat := 0
  ssrc : Nat := 0
  dscp : Nat := 0
  deriving DecidableEq, Repr

/-- A packet in the merge record (R266): its extended sequence number, which
paths brought it, whether both were UP at its placement, and when it came, ns of L. -/
structure PktRec where
  seq : Nat
  a : Bool
  b : Bool
  both : Bool
  at' : Nat
  deriving DecidableEq, Repr

/-- A media packet that the packetiser has built: RTP sequence and timestamp, its samples by channel, and its scheduled instant, ns of
L. -/
structure TxPkt where
  seq : Nat
  ts : Nat
  smp : List (List Int)
  at' : Nat
  deriving DecidableEq, Repr

/-- A flow as it runs. -/
structure FlowRt where
  /-- Receive: PATH_A_UP, PATH_B_UP and the time of each path's last packet, ns of L. -/
  upA : Bool := false
  upB : Bool := false
  lastA : Nat := 0
  lastB : Nat := 0
  skew : Bool := false
  receiving : Bool := false
  /-- The merge record, the newest extended sequence number with the place of its first sample, and the extended number of the
  first packet whose windows have not all closed. -/
  recs : List PktRec := []
  newest : Option (Nat × Nat) := none
  acct : Nat := 0
  /-- IGMP reports still to send: of a join, and in answer to a query. -/
  reports : Nat := 0
  query : Bool := false
  /-- Highest sequence number of a position datagram (R235). -/
  pos : Option Nat := none
  /-- Transmit: the next RTP sequence number, the first sample that the present form may carry, the last interval built, the
  next hop's address on each port where it is known, and the last packet built. -/
  seq : Nat := 0
  since : Nat := 0
  done : Option Nat := none
  mac : SMap Nat := []
  pkt : Option TxPkt := none
  deriving DecidableEq, Repr

/-- A frame that Ganen sends (R256): a KCP packet, or a control message by its kind and fields. -/
inductive OwnFrame where
  | kcp (p : OutPkt)
  | msg (kind : String) (fields : List Nat)
  deriving DecidableEq, Repr

/-- A network port beyond its registers (R248 to R259, R272). -/
structure NetPort where
  up : Bool := false
  /-- Quanta of a received pause; 0 while the transmitter runs. -/
  pause : Nat := 0
  /-- STATUS.PREEMPT: 0 off, 1 verifying, 2 active, 3 failed. -/
  preempt : Nat := 0
  reduced : Bool := false
  /-- The port retrains to 25 Gb/s after a reduction. -/
  restoring : Bool := false
  /-- The device pauses its partner. -/
  pausing : Bool := false
  /-- Fields of Table NET-2 that no register holds. -/
  verify : Nat := 10
  ttl : Nat := 64
  ipBits : Nat := 24
  gateway : Nat := 0
  /-- Media packets that wait for the transmitter: flow and packet, oldest first. -/
  wait : List (Nat × TxPkt) := []
  /-- Ganen's frames that wait for the transmitter, with their ring: 2 express, 3 pre-emptable. -/
  own : List (Nat × OwnFrame) := []
  /-- The last media frame sent: its flow, and when its last bit leaves, ns of L. -/
  sending : Option (Nat × Nat) := none
  deriving DecidableEq, Repr

/-- The network engine beyond its registers. -/
structure Net where
  port : List NetPort := List.replicate 6 {}
  flows : SMap Flow := []
  rt : SMap FlowRt := []
  /-- What has left the render toward each transmit-flow channel, by 64 × flow + channel: block number and samples. -/
  sent : SMap (List (Nat × List Int)) := []
  /-- Position datagrams that a ring holds for Ganen: flow and UDP payload. -/
  pos : List (Nat × List Byte) := []
  deriving DecidableEq, Repr

end Sys2Proof.Machine
end

