-- ==== Sys2Proof/Machine/TypesPort.lean ====
section
/-! DEFINITION. The state of the audio ports, their ASRCs, rate bridges and side-tone (11). -/

namespace Sys2Proof.Machine

/-- A port beyond its registers. Frames are Q1.31, one sample a slot (Table ARCH-5). -/
structure Port where
  /-- State code of Table PORT-2. -/
  st : Nat := 0
  locked : Bool := false
  /-- MASK_APPLY waits for this many frame starts (R311). -/
  maskWait : Nat := 0
  inAct : Nat := 0
  outAct : Nat := 0
  /-- Applied and measured ratios, 2^-30. -/
  ratio : Word := 0x40000000
  meas : Word := 0
  /-- Frames since a lost clock returned; consecutive glitches that agree; the next output frame carries zeros. -/
  back : Nat := 0
  agree : Nat := 0
  zeroOut : Bool := false
  zeroIn : Bool := false
  /-- Channels that pass, by slot, and the sample that each direction tested last (R313). -/
  inOpen : Nat := 0
  outOpen : Nat := 0
  inPrev : SMap Int := []
  outPrev : SMap Int := []
  /-- Time at which STARTING or STOPPING began, ns of L. -/
  began : Nat := 0
  /-- Received frames that wait, with the number of each frame on the grid of the port's rate; the interpolator's last four and
  its position in 2^-30. -/
  inQ : List (Nat × List Int) := []
  /-- The input mask in force at each frame that waits (R311). -/
  inMasks : List (Nat × Nat) := []
  inHist : List (List Int) := []
  inPos : Nat := 0
  /-- The same toward the transmitter. -/
  outQ : List (Nat × List Int) := []
  outHist : List (List Int) := []
  outPos : Nat := 0
  /-- Bridge stages B1 and B2 of each channel. -/
  bridgeIn : SMap (List HalfSt) := []
  bridgeOut : SMap (List HalfSt) := []
  /-- The channels' samples of the window that closed last, in Q5.27, and whether its queue failed (R318). -/
  blk : List (List Int) := []
  bad : Bool := false
  /-- Recent frames as side-tone reads them: frame number and slots in Q1.31. -/
  side : List (Nat × List Int) := []
  deriving DecidableEq, Repr

/-- A side-tone route's gain: where it is, where its ramp began, where it goes, steps taken of 64, and the time from which the
ramp may begin (R322). -/
structure SideRt where
  cur : Int := 0
  src : Int := 0
  tgt : Int := 0
  k : Nat := 64
  armAt : Nat := 0
  deriving DecidableEq, Repr

/-- The ports and side-tone beyond their registers. -/
structure Ports where
  port : List Port := List.replicate 16 {}
  side : SMap SideRt := []
  deriving DecidableEq, Repr

end Sys2Proof.Machine
end

