-- ==== Sys2Proof/Machine/TypesSys.lean ====
section
/-! DEFINITION. The state of the time and reference unit, power, start-up and security (10, 15, 16). -/

namespace Sys2Proof.Machine

/-- A PTP domain slot: the fields of PTP_SET (Table TIME-1) and the clock as it runs. DESIGN CHOICE, log 6. -/
structure Ptp where
  enable : Bool := false
  /-- Domain number and logAnnounceInterval, where set; else the profile's default. -/
  domain : Option Nat := none
  profile : Nat := 0
  master : Bool := false
  port : Nat := 0
  l2 : Bool := false
  prio1 : Nat := 128
  prio2 : Nat := 128
  logSync : Int := -3
  logAnn : Option Int := none
  annTo : Nat := 3
  logDly : Int := -3
  /-- Port state: 0 disabled or listening, 1 slave, 2 master. -/
  st : Nat := 0
  /-- The parent's Announce: clockClass, clockAccuracy, the comparison key of the best master clock algorithm. -/
  gmClass : Nat := 255
  gmAcc : Nat := 0xFE
  gmKey : Nat := 0
  gmSrc : Nat := 0
  hasGm : Bool := false
  /-- Whether an offset has been removed since SLAVE was entered (R282). -/
  steered : Bool := false
  /-- The last Sync that waits for its Follow_Up: sequence and arrival stamp, and the measured mean path delay, ns. -/
  syncSeq : Nat := 0
  syncAt : Int := 0
  delay : Int := 0
  /-- Sequence numbers of Sync, Announce and Delay_Req sent. -/
  seqSync : Nat := 0
  seqAnn : Nat := 0
  seqDly : Nat := 0
  deriving DecidableEq, Repr

/-- A reference of the ensemble (Tables TIME-3 and TIME-5). -/
structure Ref where
  enable : Bool := false
  cfgLevel : Nat := 0
  rate : Nat := 0
  tol : Nat := 500
  disq : Nat := 5000
  dwell : Nat := 10
  present : Bool := false
  intrinsic : Nat := 5
  level : Nat := 5
  wtr : Bool := false
  /-- Seconds that remain on the wait-to-restore timer. -/
  wtrLeft : Nat := 0
  misaligned : Bool := false
  /-- Reduced phase against L in ns, rate of the reference in the unit of L's rate word, deviation in ppb. -/
  phase : Int := 0
  freq : Int := 0
  dev : Int := 0
  /-- DARS: the grade last read in AES3 channel status, 0 where it is not indicated. -/
  grade : Nat := 0
  /-- Seconds over, or within, tolerance toward the dwell (R293). -/
  ovr : Nat := 0
  inTol : Nat := 0
  deriving DecidableEq, Repr

/-- The selector (R293 to R302). -/
structure Sel where
  /-- 0 FREERUN, 1 PULLING, 2 LOCKED, 3 HOLDOVER. -/
  st : Nat := 0
  sel : Option Nat := none
  forced : Bool := false
  ever : Bool := false
  /-- Correction in force, in 2^-40. -/
  u : Int := 0
  /-- L's rate in each of the last seconds of LOCKED, newest first, at most 60, and the same list as it stood at the last
  instant that the selected reference was within tolerance (R300). -/
  rates : List Int := []
  inTol : List Int := []
  /-- L's rate in the last seconds of LOCKED to a reference of level 1 or 2, newest first, at most 1000 (R293). -/
  oscRates : List Int := []
  /-- Standard deviation of the held rate's estimate, in 2^-40 (R301). -/
  fu : Nat := 0
  holdS : Nat := 0
  outSpec : Bool := false
  holdLimit : Nat := 50000
  stab : Nat := 100
  /-- A step of L waits for the boundary: the reference to align to (R296). -/
  stepTo : Option Nat := none
  deriving DecidableEq, Repr

/-- A snapshot (R279). -/
structure Snap where
  a : Nat := 0
  b : Nat := 0
  l : Nat := 0
  frc : Nat := 0
  deriving DecidableEq, Repr

/-- The time and reference unit beyond its registers. A base is a count of 2^-48 ns (R277). DESIGN CHOICE, log 5. -/
structure TimeU where
  a : Nat := 0
  b : Nat := 0
  l : Nat := 0
  frc : Nat := 0
  frcPhase : Nat := 0
  snap : Snap := {}
  /-- Stamps of capture inputs 0 to 8, in ns of L, oldest first; and their OVF flags. -/
  capt : List (List Nat) := List.replicate 9 []
  captOvf : List Bool := List.replicate 9 false
  /-- Transmit stamps of ports 0 to 5: tag and ns of L, oldest first. -/
  txts : List (List (Nat × Nat)) := List.replicate 6 []
  ptp : List Ptp := [{}, {}]
  refs : List Ref := [{}, {}, { cfgLevel := 5 }, {}, { cfgLevel := 5 }, { cfgLevel := 5 }]
  sel : Sel := {}
  /-- Clocks lost: OSC_IN, system PLL, audio PLL, DRAM PLL (R302). -/
  lostOsc : Bool := false
  lostSys : Bool := false
  lostAudio : Bool := false
  lostDram : Bool := false
  deriving DecidableEq, Repr

/-- What the PMU is doing (R420 to R429). -/
inductive PmuJob where
  /-- A state request that begins at the next boundary. -/
  | begin' (target : Nat)
  /-- An entry: the domains still to ask, the one asked first among them, and those stopped. -/
  | entry (target : Nat) (ask : List Nat) (stopped : List Nat) (wake : Bool)
  /-- An aborted entry waking what it stopped: refuser, reason. -/
  | undo (target : Nat) (left : List Nat) (refuser reason : Nat)
  /-- A return: the state returned to, domains still to wake, and one that failed. -/
  | back (target : Nat) (left : List Nat) (failed : Option Nat)
  /-- A change of point that begins at the next boundary. -/
  | point (target : Nat)
  /-- A lowering whose voltage is commanded and not confirmed. -/
  | lowered (target : Nat)
  /-- A rise whose voltage is commanded and not confirmed, and one confirmed that waits for a boundary. -/
  | raising (target : Nat)
  | raised (target : Nat)
  deriving DecidableEq, Repr

/-- The PMU (15). Domain codes follow Table PWR-1; domain states R442. -/
structure Power where
  st : Nat := 0
  target : Nat := 0
  point : Nat := 0
  /-- The point whose voltage is confirmed, and the one last commanded. -/
  volt : Nat := 0
  voltCmd : Nat := 0
  job : Option PmuJob := none
  dom : List Nat := [1, 1, 0, 0, 0, 0, 0, 0, 0, 0, 0]
  demand : List Bool := List.replicate 11 false
  refuse : List Nat := List.replicate 11 0
  /-- A wake source fired while a change of point ran (log 207). -/
  wakeAfter : Bool := false
  /-- A domain whose refusal ended an entry, which the next heartbeat tells the peer (R424). -/
  tell : Option Nat := none
  deriving DecidableEq, Repr

/-- A session key slot (R200, R229). -/
structure Key where
  key : List Byte
  diag : Bool
  admin : Bool
  deriving DecidableEq, Repr

/-- Security: OTP and the secure part (R437 to R440). DESIGN CHOICE, log 4. -/
structure Sec where
  /-- 0 BLANK, 1 DEVELOP, 2 FIELD, 3 RETURN. -/
  lifecycle : Nat := 0
  keyHash : Option (List Byte) := none
  floor : Nat := 0
  devId : Nat := 0
  gradeE : Bool := false
  keys : List (Option Key) := List.replicate 8 none
  wiping : Bool := false
  tamperLow : Bool := false
  /-- Tamper sources seen in SLEEP and not yet logged, by bit. -/
  owed : Nat := 0
  deriving DecidableEq, Repr

/-- Where start-up stands (R432 to R436). -/
inductive BootPhase where
  /-- POR_N low, or the render of start-up not yet run. -/
  | inReset
  /-- READY stays low and nothing serves (step 1 failed). -/
  | dead
  /-- The boot ROM serves its subset. -/
  | recovery
  /-- Ganen runs. -/
  | ready
  deriving DecidableEq, Repr

/-- Start-up. -/
structure Boot where
  phase : BootPhase := .inReset
  /-- The facts of start-up that BOOT_START still needs: the clocks, calibration and training results. -/
  env : Option StartEnv := none
  ganenVersion : Word := 0
  /-- The image that was booted. -/
  image : List Byte := []
  /-- Fields of Table PWR-9. -/
  src : Nat := 0
  slot : Nat := 0
  fallback : Bool := false
  failStep : Nat := 0
  imgErr : Nat := 0
  pllFail : Bool := false
  calFail : Bool := false
  dramFail : Bool := false
  wake : Bool := false
  deriving DecidableEq, Repr

/-- Pins (16) beyond those of the units. DESIGN CHOICE, log 3. -/
structure Pins where
  porLow : Bool := false
  preferred : Bool := false
  /-- Supply monitors out of range, by bit (R384, R443). -/
  supplyBad : Nat := 0
  sfpPresent : List Bool := List.replicate 4 false
  pmbAlert : Bool := false
  deriving DecidableEq, Repr

end Sys2Proof.Machine
end

