-- ==== Sys2Proof/Machine/TypesPair.lean ====
section
/-! DEFINITION. What the active unit of a pair sends of its own state: carried-state records (R409) and the image (R408). -/

namespace Sys2Proof.Machine

/-- A carried-state record (R409). -/
inductive Transplant where
  | object (o : Nat) (rt : ObjRt)
  | feed (f : Nat) (rt : FeedRt)
  | sidetone (gains : List Int)
  deriving DecidableEq, Repr

/-- The image of Ganen's state (R408). -/
structure Image where
  render : Render
  sess : List Session
  loupe : Loupe
  flows : SMap Flow
  ptp : List Ptp
  refs : List Ref
  sel : Sel
  kernels : SMap Kernel
  /-- Registers that hold parameters, by address. -/
  regs : List (Nat × Word)
  deriving DecidableEq, Repr

end Sys2Proof.Machine
end

