-- ==== Sys2Proof/Syntax.lean ====
section
/-! DEFINITION. The commands of the block: one constructor per row of the table (spec/opcode_table.json). -/

namespace Sys2Proof

/-- A command. -/
inductive Instr where
  /-- RENDER_BOUNDARY (R17): The reserved boundary comparator fires at B(n); input windows close, the accepted delta applies, and Pavilion computes the block two ahead. -/
  | renderBoundary (facts : BoundaryFacts)
  /-- FACET_RUN_START (R179): A render or user Facet starts its run at its start offset after the boundary, at its entry bundle. -/
  | facetRunStart (k : Fin 64) (w : Work) (facts : RunFacts)
  /-- BUDGET_EXPIRY (R180): A Facet's budget runs out; it stops issuing and records OVR. -/
  | budgetExpiry (k : Fin 64)
  /-- DELTA_CUTOFF (R17): At the delta cut-off Ganen closes the cycle's state delta and the pairing unit starts sending it. -/
  | deltaCutoff
  /-- ACK_DEADLINE (R400): At the standby acknowledgement deadline the active sends MARK COMMIT or DROP and sends the delta's replies. -/
  | ackDeadline
  /-- SOLVE_COMPLETE (R59): A layout solve completes and its structure becomes the zone's pending layout, or the solve fails. -/
  | solveComplete (z : Fin 16) (us : Nat) (tooBig : Bool)
  /-- LAYOUT_SWITCH_ENTRY (R60): Two render cycles after a solve completes, the layout switch is entered in the delta as an accepted command. -/
  | layoutSwitchEntry (z : Fin 16)
  /-- LAYOUT_XFADE_END (R61): A layout crossfade reaches w = 1; the old layout is discarded and LAYOUT_GEN increments. -/
  | layoutXfadeEnd (z : Fin 16)
  /-- ROUTE_XFADE_END (R99): A route crossfade ends, removing the old set and releasing any waiting route change for the next boundary. -/
  | routeXfadeEnd (o : Fin 1024)
  /-- DELAY_JUMP_XFADE_END (R82): A 64-sample delay jump crossfade ends and slewing resumes toward the latest target. -/
  | delayJumpXfadeEnd (o : Fin 1024)
  /-- DOPPLER_XFADE_END (R83): A Doppler on/off crossfade ends and any waiting Doppler change takes effect at the next boundary. -/
  | dopplerXfadeEnd (o : Fin 1024)
  /-- PLACEMENT_XFADE_END (R81): A move-to-chip crossfade ends and the extended line is released. -/
  | placementXfadeEnd (o : Fin 1024)
  /-- ALIGN_DELAY_XFADE_END (R105): A feed delay-alignment crossfade ends and any waiting change takes effect at the next boundary. -/
  | alignDelayXfadeEnd (f : Fin 1024)
  /-- FILTER_STAGING_COMPLETE (R113): Staging of a FIR set into the shadow bank completes. -/
  | filterStagingComplete
  /-- FIR_COPY_BACK_COMPLETE (R112): Four cycles after a swap the copy into the live bank ends and the shadow bank is free. -/
  | firCopyBackComplete
  /-- AB_XFADE_END (R117): An A/B crossfade ends and B starts to be copied into the live bank. -/
  | abXfadeEnd
  /-- AB_COPY_BACK_COMPLETE (R117): The B filters are in the live bank and the shadow bank is free. -/
  | abCopyBackComplete
  /-- RENDER_RATE_RESUME (R45): After a render rate change the render resumes at the new rate within 20 ms. -/
  | renderRateResume
  /-- LOUPE_STUCK (R124): A PDM input shows no transition for 1024 clock periods and enters STUCK. -/
  | loupeStuck (n : Fin 16)
  /-- STUCK_RECOVER (R124): A STUCK input leaves STUCK after 1 ms of data with transitions and settles. -/
  | stuckRecover (n : Fin 16)
  /-- SETTLING_END (R131): An input leaves SETTLING 1 ms after a reset or after leaving Off or STUCK. -/
  | settlingEnd (n : Fin 16)
  /-- LOUPE_SYNC_EDGE (R132): A rising edge on LOUPE_SYNC with PIN_EN set requests a synchronised reset, or is ignored within two cycles of the last. -/
  | loupeSyncEdge
  /-- LOUPE_SYNC_REQ (R130): A write of 1 to REQ in LOUPE_SYNC_CTL requests a synchronised reset. -/
  | loupeSyncReq (v : Word)
  /-- LOUPE_IN_CFG_WRITE (R121): A write of LOUPE_IN_CFG_n configures an input, keeping mode 3 pairs whole or setting CFG_ERR. -/
  | loupeInCfgWrite (n : Fin 16) (v : Word)
  /-- JOB_STEP_COMPLETE (R137): An offline job step's capture ends and its responses are deconvolved and written to DRAM. -/
  | jobStepComplete (step : Nat)
  /-- CONCLUSIVE_RESULT (R146): A probe slot's integration becomes conclusive and yields a verdict. -/
  | conclusiveResult (j : Fin 64) (f : Fin 1024)
  /-- MAXIMUM_DWELL (R149): A slot's integration reaches the zone's maximum dwell and the slot is released. -/
  | maximumDwell (j : Fin 64) (f : Fin 1024)
  /-- ACTION_DUE_TIME (R155): An action's confirm time ends and it is entered in the delta, or its withdrawal is cancelled by a later result. -/
  | actionDueTime (f : Fin 1024) (id : Option Nat)
  /-- COMP_STEP (R151): Every 10 ms the gain compensation total moves 0.01 dB toward its target. -/
  | compStep
  /-- DRIFT_STEP (R152): At most every 10 s a feed's delay total moves one sample toward its target. -/
  | driftStep (f : Fin 1024)
  /-- NOP (R165): An all-zero slot does nothing and leaves its memory slot free. -/
  | nop (i : Issue)
  /-- ADD (R167): Scalar add. -/
  | add (i : Issue)
  /-- SUB (R167): Scalar subtract. -/
  | sub (i : Issue)
  /-- ADDI (R167): Scalar add of a signed immediate. -/
  | addi (i : Issue)
  /-- MUL (R168): Scalar multiply, low 32 bits or clamped product. -/
  | mul (i : Issue)
  /-- MULH (R167): Scalar multiply returning the high 32 bits. -/
  | mulh (i : Issue)
  /-- AND (R167): Scalar bitwise AND. -/
  | and (i : Issue)
  /-- OR (R167): Scalar bitwise OR. -/
  | or (i : Issue)
  /-- XOR (R167): Scalar bitwise exclusive OR. -/
  | xor (i : Issue)
  /-- SHL (R168): Scalar shift left, clamped with SAT. -/
  | shl (i : Issue)
  /-- SHR (R167): Scalar logical shift right. -/
  | shr (i : Issue)
  /-- SRA (R169): Scalar arithmetic shift right, rounded by RND. -/
  | sra (i : Issue)
  /-- MIN (R167): Scalar signed minimum. -/
  | min (i : Issue)
  /-- MAX (R167): Scalar signed maximum. -/
  | max (i : Issue)
  /-- CMPEQ (R167): Scalar equality compare into a predicate. -/
  | cmpeq (i : Issue)
  /-- CMPLT (R167): Scalar signed less-than compare into a predicate. -/
  | cmplt (i : Issue)
  /-- CMPLTU (R167): Scalar unsigned less-than compare into a predicate. -/
  | cmpltu (i : Issue)
  /-- PAND (R167): Predicate AND. -/
  | pand (i : Issue)
  /-- POR (R167): Predicate OR. -/
  | por (i : Issue)
  /-- PNOT (R167): Predicate NOT. -/
  | pnot (i : Issue)
  /-- PMOV (R167): Predicate loaded from a scalar's low 16 bits. -/
  | pmov (i : Issue)
  /-- MOVI (R167): Scalar load of a sign-extended 16-bit immediate. -/
  | movi (i : Issue)
  /-- MOVHI (R167): Scalar load of the upper 16 bits, keeping the lower. -/
  | movhi (i : Issue)
  /-- MFS (R164): Read of a special register. -/
  | mfs (i : Issue)
  /-- MTS (R164): Write of a special register; reserved indices are illegal. -/
  | mts (i : Issue)
  /-- JMP (R167): Jump to a bundle index. -/
  | jmp (i : Issue)
  /-- BNZ (R167): Relative branch if a scalar is non-zero. -/
  | bnz (i : Issue)
  /-- DBNZ (R174): Decrement and branch if non-zero, closing explicit loops. -/
  | dbnz (i : Issue)
  /-- CALL (R167): Jump saving the return index in S31. -/
  | call (i : Issue)
  /-- RET (R167): Jump to S31. -/
  | ret (i : Issue)
  /-- LOOP (R175): Hardware modulo-scheduled loop with stage predicates and register rotation. -/
  | loop (i : Issue)
  /-- END (R179): Ends the current run. -/
  | endRun (i : Issue)
  /-- GET (R171): Starts a Girdle copy from a remote window address to local data memory. -/
  | get (i : Issue)
  /-- PUT (R171): Starts a Girdle copy from local data memory to a remote window address. -/
  | put (i : Issue)
  /-- GWAIT (R172): Stalls until every named Girdle tag is complete. -/
  | gwait (i : Issue)
  /-- VADD (R168): Vector add. -/
  | vadd (i : Issue)
  /-- VSUB (R168): Vector subtract. -/
  | vsub (i : Issue)
  /-- VNEG (R168): Vector negate. -/
  | vneg (i : Issue)
  /-- VABS (R168): Vector absolute value. -/
  | vabs (i : Issue)
  /-- VMIN (R167): Vector signed minimum. -/
  | vmin (i : Issue)
  /-- VMAX (R167): Vector signed maximum. -/
  | vmax (i : Issue)
  /-- VAND (R167): Vector bitwise AND. -/
  | vand (i : Issue)
  /-- VOR (R167): Vector bitwise OR. -/
  | vor (i : Issue)
  /-- VXOR (R167): Vector bitwise exclusive OR. -/
  | vxor (i : Issue)
  /-- VSHL (R168): Vector shift left. -/
  | vshl (i : Issue)
  /-- VSRA (R169): Vector arithmetic shift right, rounded by RND. -/
  | vsra (i : Issue)
  /-- VMPY (R167): Vector multiply into an accumulator. -/
  | vmpy (i : Issue)
  /-- VMAC (R167): Vector multiply-accumulate. -/
  | vmac (i : Issue)
  /-- VMSC (R167): Vector multiply-subtract from an accumulator. -/
  | vmsc (i : Issue)
  /-- VMACS (R167): Vector multiply by a scalar and accumulate. -/
  | vmacs (i : Issue)
  /-- ACLR (R167): Clears an accumulator. -/
  | aclr (i : Issue)
  /-- AEXT (R169): Extracts a shifted, rounded, saturated or wrapped vector from an accumulator. -/
  | aext (i : Issue)
  /-- AINS (R167): Inserts a shifted vector into an accumulator. -/
  | ains (i : Issue)
  /-- ASHR (R169): Rounded arithmetic right shift of an accumulator. -/
  | ashr (i : Issue)
  /-- VCMPY (R167): Complex multiply into an accumulator, issue interval 2. -/
  | vcmpy (i : Issue)
  /-- VCMAC (R167): Complex multiply-accumulate, issue interval 2. -/
  | vcmac (i : Issue)
  /-- VCMACJ (R167): Complex multiply-accumulate with conjugated operand. -/
  | vcmacj (i : Issue)
  /-- VBFLY (R169): FFT butterfly with a Q1.31 twiddle, rounded. -/
  | vbfly (i : Issue)
  /-- VSPLAT (R167): Broadcasts a scalar to every lane. -/
  | vsplat (i : Issue)
  /-- VPERM (R167): Permutes lanes by an index vector. -/
  | vperm (i : Issue)
  /-- VSEL (R167): Selects lanes from two vectors by a predicate. -/
  | vsel (i : Issue)
  /-- VEXTR (R167): Extracts one lane to a scalar. -/
  | vextr (i : Issue)
  /-- VCMPEQ (R167): Lane-wise equality compare into a predicate. -/
  | vcmpeq (i : Issue)
  /-- VCMPLT (R167): Lane-wise less-than compare into a predicate. -/
  | vcmplt (i : Issue)
  /-- VCMPLE (R167): Lane-wise less-or-equal compare into a predicate. -/
  | vcmple (i : Issue)
  /-- VNORM (R167): Least redundant sign bits over the lanes. -/
  | vnorm (i : Issue)
  /-- VCRC (R365): CRC-32C of a vector's 64 bytes, continued from a scalar. -/
  | vcrc (i : Issue)
  /-- VMOV (R167): Vector copy. -/
  | vmov (i : Issue)
  /-- LD_W (R170): Loads a word into a scalar register. -/
  | ldW (i : Issue)
  /-- ST_W (R170): Stores a scalar word. -/
  | stW (i : Issue)
  /-- LD_V (R170): Loads 64 bytes into the predicated lanes of a vector. -/
  | ldV (i : Issue)
  /-- ST_V (R170): Stores the predicated lanes of a vector. -/
  | stV (i : Issue)
  /-- LD_B (R170): Loads a word into every lane of a vector. -/
  | ldB (i : Issue)
  /-- LD_P (R170): Loads a predicate from a word. -/
  | ldP (i : Issue)
  /-- ST_P (R170): Stores a predicate zero-extended to a word. -/
  | stP (i : Issue)
  /-- GIRDLE_RESERVATION_STALL (R173): A Girdle request has waited N−1 cycles, so the core issues nothing and the Girdle takes both slots. -/
  | girdleReservationStall (k : Fin 64)
  /-- GIRDLE_TRANSFER_COMPLETE (R171): A Girdle transfer completes, setting its GSTAT bit or its error bit. -/
  | girdleTransferComplete (k : Fin 64) (tag : Fin 8) (r : GirdleEnd)
  /-- SPARE_REPLACEMENT (R185): At the first boundary at least 20 µs after a render Facet stop, a spare takes its role. -/
  | spareReplacement (k : Fin 64) (w : Work)
  /-- SELFTEST_COMPLETE (R186): A quarantined Facet's self-test ends and it becomes SPARE or FAILED. -/
  | selftestComplete (k : Fin 64) (pass : Bool)
  /-- FACET_RESET (R189): A write of RESET in FACET_CTL_k clears registers, unlocks windows and sets IDLE. -/
  | facetReset (k : Fin 64) (v : Word)
  /-- FACET_WIN_LOCK (R189): A write of WIN_LOCK in FACET_CTL_k locks both windows until a Facet reset. -/
  | facetWinLock (k : Fin 64) (v : Word)
  /-- FACET_RUN_SET (R189): A write of RUN in FACET_CTL_k enables or stops runs at each boundary. -/
  | facetRunSet (k : Fin 64) (v : Word)
  /-- SYS_INFO (R228): Returns identity, lifecycle, role, rate, grade and Ganen version. -/
  | sysInfo (p : Packet)
  /-- SYS_SESSION_OPEN (R196): Opens, binds or re-opens a session. -/
  | sysSessionOpen (p : Packet)
  /-- SYS_SESSION_CLOSE (R196): Closes the session and discards its open transaction. -/
  | sysSessionClose (p : Packet)
  /-- SYS_SEQ_QUERY (R197): Returns the session's H and window without consuming a number. -/
  | sysSeqQuery (p : Packet)
  /-- SYS_EVENT_MASK (R214): Sets the session's event subscription mask. -/
  | sysEventMask (p : Packet)
  /-- SYS_KEY_SET (R229): Provisions or erases a session key slot in the receiving unit. -/
  | sysKeySet (p : Packet)
  /-- SYS_RENDER_RATE (R45): Changes the render rate while no zone is enabled. -/
  | sysRenderRate (p : Packet)
  /-- SYS_STATUS (R246): Returns boot, integrity, KCP, Facet, domain and power status. -/
  | sysStatus (p : Packet)
  /-- SYS_KERNEL_LOAD (R230): Loads a user kernel image piece by piece into a kernel slot. -/
  | sysKernelLoad (p : Packet)
  /-- SYS_KERNEL_RUN (R230): Starts or stops a loaded kernel. -/
  | sysKernelRun (p : Packet)
  /-- SYS_KERNEL_UNLOAD (R246): Frees a kernel slot and returns its Facet to IDLE. -/
  | sysKernelUnload (p : Packet)
  /-- SYS_KERNEL_READ (R246): Reads a kernel's data memory or Crown share. -/
  | sysKernelRead (p : Packet)
  /-- ZONE_SET (R231): Sets zone and Pavilion parameters under a mask. -/
  | zoneSet (p : Packet)
  /-- ZONE_EXCL_SET (R231): Replaces one exclusion region of a zone. -/
  | zoneExclSet (p : Packet)
  /-- ZONE_READ (R246): Returns a zone's parameters, regions and layout size. -/
  | zoneRead (p : Packet)
  /-- FEED_SET (R232): Sets feed identity fields under a mask. -/
  | feedSet (p : Packet)
  /-- FEED_READ (R246): Returns a feed's identity and flags. -/
  | feedRead (p : Packet)
  /-- FEED_WITHDRAW (R232): Withdraws LAYOUT feeds from their layouts. -/
  | feedWithdraw (p : Packet)
  /-- FEED_RESTORE (R232): Ends withdrawal and sets the Loupe state to OK. -/
  | feedRestore (p : Packet)
  /-- LAYOUT_STATUS (R246): Returns a zone's solve state and live layout counts. -/
  | layoutStatus (p : Packet)
  /-- LAYOUT_RESOLVE (R246): Starts a solve of a zone. -/
  | layoutResolve (p : Packet)
  /-- OBJECT_SET (R233): Sets object parameters under a mask, including route changes. -/
  | objectSet (p : Packet)
  /-- OBJECT_POS_BULK (R234): Delivers timed or untimed positions for many objects. -/
  | objectPosBulk (p : Packet)
  /-- OBJECT_READ (R233): Returns an object's parameters, status and counters. -/
  | objectRead (p : Packet)
  /-- OBJECT_RESTORE (R246): Unmutes objects shed under R41. -/
  | objectRestore (p : Packet)
  /-- ROUTE_SET (R236): Creates or changes an auxiliary route. -/
  | routeSet (p : Packet)
  /-- ROUTE_DELETE (R236): Deletes an auxiliary route with a crossfade. -/
  | routeDelete (p : Packet)
  /-- ROUTE_READ (R246): Returns one route and its state. -/
  | routeRead (p : Packet)
  /-- MATRIX_STATUS (R246): Returns matrix weight in use, limit and route counts. -/
  | matrixStatus (p : Packet)
  /-- CHAIN_SET (R236): Sets trims, polarity, delay and limiter of target feeds. -/
  | chainSet (p : Packet)
  /-- BIQUAD_SET (R236): Sets biquad coefficients of target feeds. -/
  | biquadSet (p : Packet)
  /-- CHAIN_READ (R246): Returns a feed chain's parameters and Loupe terms. -/
  | chainRead (p : Packet)
  /-- FEED_STATUS (R119): Returns a feed's status word and counters. -/
  | feedStatus (p : Packet)
  /-- FILTER_LIB_WRITE (R237): Writes a filter-library entry piece by piece. -/
  | filterLibWrite (p : Packet)
  /-- FILTER_LIB_FREE (R246): Frees a filter-library entry. -/
  | filterLibFree (p : Packet)
  /-- FILTER_STAGE (R238): Stages library entries into the shadow bank. -/
  | filterStage (p : Packet)
  /-- FILTER_SWAP (R238): Swaps the staged set in as a safe-load set. -/
  | filterSwap (p : Packet)
  /-- FILTER_DISCARD (R246): Frees the shadow bank without a swap. -/
  | filterDiscard (p : Packet)
  /-- FILTER_DIRECT (R114): Starts a direct write of FIR coefficients into the live bank. -/
  | filterDirect (p : Packet)
  /-- FILTER_AB (R117): Starts an A/B crossfade between current and new FIRs. -/
  | filterAb (p : Packet)
  /-- FILTER_READ (R246): Returns pool, shadow and library use. -/
  | filterRead (p : Packet)
  /-- LOUPE_ZONE_SET (R239): Sets a zone's Loupe parameters under a mask. -/
  | loupeZoneSet (p : Packet)
  /-- LOUPE_INPUT_SET (R240): Configures a measurement input and its microphone position. -/
  | loupeInputSet (p : Packet)
  /-- LOUPE_SYNC (R130): Requests a synchronised reset by command. -/
  | loupeSync (p : Packet)
  /-- LOUPE_JOB_START (R241): Starts an offline measurement job. -/
  | loupeJobStart (p : Packet)
  /-- LOUPE_JOB_ABORT (R138): Aborts the running job, ramping feeds back to programme. -/
  | loupeJobAbort (p : Packet)
  /-- LOUPE_LEARN (R148): Sets feed references from the next result or a job. -/
  | loupeLearn (p : Packet)
  /-- LOUPE_VETO (R156): Vetoes a pending Loupe action, or is answered TOO_LATE. -/
  | loupeVeto (p : Packet)
  /-- LOUPE_COMP_CLEAR (R240): Drives verdict-driven compensation targets to zero. -/
  | loupeCompClear (p : Packet)
  /-- LOUPE_AUDIT_READ (R246): Returns a feed's audit record. -/
  | loupeAuditRead (p : Packet)
  /-- LOUPE_JOB_READ (R246): Returns response records of a job. -/
  | loupeJobRead (p : Packet)
  /-- LOUPE_DERIVE (R139): Derives correction filters from a job into the library. -/
  | loupeDerive (p : Packet)
  /-- NETPORT_SET (R249): Configures a network port's mode, FEC, addresses and options. -/
  | netportSet (p : Packet)
  /-- FLOW_SET (R261): Creates or changes a media or position flow and admits it. -/
  | flowSet (p : Packet)
  /-- FLOW_DELETE (R246): Removes a flow at its boundary. -/
  | flowDelete (p : Packet)
  /-- FLOW_READ (R274): Returns a flow's status word and counters. -/
  | flowRead (p : Packet)
  /-- NETPORT_READ (R274): Returns a port's status and counters. -/
  | netportRead (p : Packet)
  /-- NET_KCP_SET (R274): Sets the KCP UDP port and media-port KCP enables. -/
  | netKcpSet (p : Packet)
  /-- PTP_SET (R281): Configures PTP domain slot A or B. -/
  | ptpSet (p : Packet)
  /-- REF_INPUT_SET (R292): Configures one reference or the local oscillator. -/
  | refInputSet (p : Packet)
  /-- REF_PRIORITY_SET (R243): Sets the priority table, reversion, wait-to-restore and pull slope. -/
  | refPrioritySet (p : Packet)
  /-- REF_FORCE (R297): Forces or releases a reference selection, optionally stepping L. -/
  | refForce (p : Packet)
  /-- TRIGGER_SET (R288): Configures comparator 5 for PPS_OUT. -/
  | triggerSet (p : Packet)
  /-- CAPTURE_READ (R289): Returns and removes capture stamps of an input. -/
  | captureRead (p : Packet)
  /-- TIME_READ (R305): Returns the time bases, rates and counter time from one snapshot. -/
  | timeRead (p : Packet)
  /-- REF_STATUS (R305): Returns selector and reference status. -/
  | refStatus (p : Packet)
  /-- PORT_SET (R310): Sets a stopped TDM port's format and clocking. -/
  | portSet (p : Packet)
  /-- PORT_MASK (R311): Writes slot mask shadows and optionally issues MASK_APPLY. -/
  | portMask (p : Packet)
  /-- PORT_RUN (R310): Starts or stops a TDM port. -/
  | portRun (p : Packet)
  /-- SIDETONE_SET (R321): Sets one side-tone route. -/
  | sidetoneSet (p : Packet)
  /-- PORT_READ (R326): Returns port state, ratios, masks and counters. -/
  | portRead (p : Packet)
  /-- PAIR_SET (R244): Sets pairing enable and reclaim hold-off. -/
  | pairSet (p : Packet)
  /-- PAIR_STATUS (R415): Returns roles, interlock, link, offset and counters. -/
  | pairStatus (p : Packet)
  /-- PAIR_SYNC (R407): Starts or aborts synchronisation, unmutes, or sets AUTO_SYNC. -/
  | pairSync (p : Packet)
  /-- PAIR_HANDOVER (R414): Hands the active role to the synchronised peer at a boundary. -/
  | pairHandover (p : Packet)
  /-- TXN_BEGIN (R205): Opens a transaction in the session. -/
  | txnBegin (p : Packet)
  /-- TXN_COMMIT (R208): Commits the staged commands, untimed or timed. -/
  | txnCommit (p : Packet)
  /-- TXN_ABORT (R210): Discards an open or pending transaction. -/
  | txnAbort (p : Packet)
  /-- PWR_STATE (R420): Requests a power state. -/
  | pwrState (p : Packet)
  /-- PWR_OPPOINT (R429): Requests an operating point. -/
  | pwrOppoint (p : Packet)
  /-- PWR_DOMAIN_RETRY (R427): Retries waking a FAILED domain. -/
  | pwrDomainRetry (p : Packet)
  /-- PWR_STATUS (R441): Returns power state, domains and refusal counts. -/
  | pwrStatus (p : Packet)
  /-- DIAG_WINDOW_UNLOCK (R218): Opens the register window for a stated time. -/
  | diagWindowUnlock (p : Packet)
  /-- DIAG_WINDOW_LOCK (R218): Closes the register window. -/
  | diagWindowLock (p : Packet)
  /-- DIAG_REG_READ (R245): Reads consecutive registers through the window. -/
  | diagRegRead (p : Packet)
  /-- DIAG_REG_WRITE (R245): Writes consecutive registers through the window. -/
  | diagRegWrite (p : Packet)
  /-- DIAG_COUNTERS (R245): Returns a unit's counters, optionally snapshot and clear. -/
  | diagCounters (p : Packet)
  /-- DIAG_INCLUSION_READ (R379): Returns inclusion records and optionally acknowledges them. -/
  | diagInclusionRead (p : Packet)
  /-- DIAG_FACET_RETRY (R246): Returns a FAILED Facet to TEST. -/
  | diagFacetRetry (p : Packet)
  /-- DIAG_LIFECYCLE (R438): Programs a lifecycle transition, wiping keys and closing sessions. -/
  | diagLifecycle (p : Packet)
  /-- BOOT_STATUS (R435): Boot subset command returning the status word. -/
  | bootStatus (p : Packet)
  /-- BOOT_WRITE (R435): Boot subset command placing pushed image bytes in DRAM. -/
  | bootWrite (p : Packet)
  /-- BOOT_START (R435): Boot subset command verifying the pushed image and continuing start-up. -/
  | bootStart (p : Packet)
  /-- SESSION_IDLE_TIMEOUT (R196): A UDP session with no passing packet for its idle timeout closes. -/
  | sessionIdleTimeout (x : Fin 8)
  /-- EVENT_DROP (R215): An event undelivered for 100 ms is dropped and the next carries LOSS. -/
  | eventDrop (x : Fin 8)
  /-- PIECED_OBJECT_DISCARD (R225): A pieced object left unfinished for 10 s is discarded. -/
  | piecedObjectDiscard (x : Fin 8) (op name : Nat)
  /-- WINDOW_EXPIRY (R218): The register window closes at the end of its stated time. -/
  | windowExpiry
  /-- CMD_TAIL_DOORBELL (R216): A host write of CMD_TAIL_k rings the doorbell, or is ignored with BAD_DB when out of range. -/
  | cmdTailDoorbell (k : Fin 4) (v : Word)
  /-- RPL_TAIL_POST (R216): A host write of RPL_TAIL_k posts reply buffers, releasing waiting replies. -/
  | rplTailPost (k : Fin 4) (v : Word) (bufs : List RplDesc)
  /-- RING_READ_COMPLETION (R216): A PCIe read of a command descriptor or packet completes and the packet is taken. -/
  | ringReadCompletion (k : Fin 4) (d : RingRead)
  /-- RING_CTL_WRITE (R217): A write of RING_CTL_k ENABLE runs or stops a ring pair, closing its session when cleared. -/
  | ringCtlWrite (k : Fin 4) (v : Word)
  /-- BAR2_ACCESS (R218): A BAR2 request reaches a register through the window or completes with Unsupported Request. -/
  | bar2Access (addr : Nat) (size : Nat) (w : Option Word)
  /-- PCIE_FLR (R196): A function-level reset closes the PCIe sessions. -/
  | pcieFlr
  /-- PCIE_PERST (R455): PCIE_PERST_N low resets the PCIe endpoint and closes its sessions. -/
  | pciePerst
  /-- SPI_WRITE (R220): An SPI WRITE period delivers one packet, or is discarded if short or RX_BUSY. -/
  | spiWrite (bytes : List Byte)
  /-- SPI_STATUS (R220): An SPI STATUS period returns the status byte. -/
  | spiStatus
  /-- SPI_READ (R220): An SPI READ period sends the oldest waiting packet, removed once fully read. -/
  | spiRead (n : Nat)
  /-- SPI_INVALID_INSTRUCTION (R220): Any other instruction byte makes the device return 0xFF until chip select rises. -/
  | spiInvalidInstruction (b : Byte) (n : Nat)
  /-- FRAME_RECEIVED (R251): A received frame passes the receive stages and is classified to a ring or the depacketiser. -/
  | frameReceived (k : Fin 6) (bs : List Byte) (symbol fifo mPacket : Bool)
  /-- PAUSE_EXPIRY (R258): A pause time runs out and the transmitter resumes. -/
  | pauseExpiry (k : Fin 6)
  /-- POSITION_DATAGRAM (R235): Ganen takes a position-flow datagram and accepts it as an OBJECT_POS_BULK or drops it. -/
  | positionDatagram (f : Fin 256) (b : List Byte)
  /-- PTP_MESSAGE (R282): Ganen takes a PTP message and updates the servo and best master clock algorithm. -/
  | ptpMessage (d : Fin 2) (m : PtpMsg)
  /-- PTP_ANNOUNCE_TIMEOUT (R290): announceReceiptTimeout or missing Sync loses a PTP reference. -/
  | ptpAnnounceTimeout (d : Fin 2)
  /-- LINK_UP (R250): A link comes up on block lock or synchronisation and auto-negotiation. -/
  | linkUp (k : Fin 6)
  /-- LINK_DOWN (R250): A link lost for 1 ms is reported down and queued frames are returned. -/
  | linkDown (k : Fin 6)
  /-- PATH_DOWN (R268): A flow path with no packet for the longer of 1 ms and 8 packet times goes DOWN. -/
  | pathDown (f : Fin 256) (second : Bool)
  /-- PACKET_TRANSMIT (R269): At each packet's scheduled instant the packetiser builds and sends it, or discards it on a standby. -/
  | packetTransmit (f : Fin 256)
  /-- TX_LATE_DROP (R258): A media packet not begun one packet time after its instant is dropped. -/
  | txLateDrop (k : Fin 4)
  /-- NETPORT_RING_TAIL (R254): Ganen's write of a ring TAIL posts receive buffers or queues transmit frames. -/
  | netportRingTail (k : Fin 6) (r : Fin 4) (v : Word)
  /-- RING_FRAME_TRANSMIT (R256): A ring frame is sent in priority order and its descriptor returned. -/
  | ringFrameTransmit (k : Fin 6) (frags : Nat)
  /-- PREEMPT_VERIFY_DONE (R257): IEEE 802.3br verification succeeds or fails with PREEMPT_FAIL. -/
  | preemptVerifyDone (k : Fin 4) (ok : Bool)
  /-- PAUSE_TX (R259): A management port sends or repeats a pause while its rings run short. -/
  | pauseTx (k : Fin 2)
  /-- SPEED_REDUCTION (R272): A quiet media port at 25 Gb/s retrains to 10 Gb/s after its reduction timer. -/
  | speedReduction (k : Fin 4)
  /-- LP_FAIL (R272): A reduced link not up within 500 ms returns to 25 Gb/s and speed reduction is turned off. -/
  | lpFail (k : Fin 4)
  /-- SPEED_RESTORE (R272): Traffic above threshold for 1 s returns a reduced port to 25 Gb/s. -/
  | speedRestore (k : Fin 4)
  /-- ARP_REFRESH (R270): Ganen refreshes a unicast destination's ARP entry every 60 s. -/
  | arpRefresh (f : Fin 256)
  /-- WAKE_FRAME (R273): A magic or KCP wake frame on a management port in SLEEP starts a return to RUN. -/
  | wakeFrame (k : Fin 2) (bs : List Byte)
  /-- FLOWTAB_CTL_WRITE (R276): A write of FLOWTAB_CTL_e sets VALID, or leaves it clear with KEY_CONFLICT. -/
  | flowtabCtlWrite (e : Fin 512) (v : Word)
  /-- TIME_SNAP (R279): A write of TIME_SNAP latches A, B, L and the free-running counter. -/
  | timeSnap (v : Word)
  /-- TIME_ADJ_NS (R277): A write of TIME_ADJ_NS_b applies a step to a time base. -/
  | timeAdjNs (b : Fin 3) (v : Word)
  /-- COMPARATOR_FIRE (R286): A comparator reaches its time, fires and advances by its period. -/
  | comparatorFire (i : Fin 16)
  /-- CAPTURE_EDGE (R289): A selected edge on CAPT_n or PPS_IN is stamped, or dropped when full. -/
  | captureEdge (c : Fin 9) (rising : Bool)
  /-- CAPT_POP (R304): A write of POP in TIME_CAPT_CTL_c removes the oldest stamp. -/
  | captPop (c : Fin 9) (v : Word)
  /-- TXTS_POP (R285): A write of POP in TIME_TXTS_STATUS_k removes the oldest transmit stamp. -/
  | txtsPop (k : Fin 6) (v : Word)
  /-- REFERENCE_LOST (R290): A reference fails its presence conditions and the selection is re-evaluated. -/
  | referenceLost (r : Fin 6)
  /-- REFERENCE_PRESENT (R290): A reference whose conditions have held for 1 s becomes present again. -/
  | referencePresent (r : Fin 6) (m : RefMeas)
  /-- DEVIATION_EVAL (R293): Each second the selector computes each reference's deviation and adjusts its level. -/
  | deviationEval (ms : List RefMeas)
  /-- WAIT_TO_RESTORE_END (R295): A reference's wait-to-restore timer ends and it may become eligible. -/
  | waitToRestoreEnd (r : Fin 6)
  /-- PULL_STEP (R298): Every millisecond the selector sets L's rate toward the selected reference. -/
  | pullStep (m : RefMeas)
  /-- HOLDOVER_EVAL (R301): Each second in holdover the error estimate is evaluated, setting HOLD_OUT_SPEC when exceeded. -/
  | holdoverEval
  /-- CLOCK_LOSS (R302): A clock monitor detects loss of OSC_IN, a PLL or its lock and the device acts as Table TIME-7 states. -/
  | clockLoss (c : Fin 4)
  /-- SYSPLL_RELOCK (R302): The system PLL relocks and the control complex restarts while the render stays stopped. -/
  | syspllRelock
  /-- TDM_FRAME (R306): A TDM frame is received and transmitted, feeding the ASRC and side-tone. -/
  | tdmFrame (p : Fin 16) (f : TdmFrame)
  /-- MASK_APPLY (R311): A write of MASK_APPLY in TDM_CMD_p schedules the mask copy. -/
  | maskApply (p : Fin 16) (v : Word) (late : Bool)
  /-- PORT_ZC_TIMEOUT (R313): The start-and-stop timeout passes and unswitched channels switch at once. -/
  | portZcTimeout (p : Fin 16)
  /-- ASRC_LOCK (R316): The ASRC phase error stays within ±1/64 sample for 50 ms and lock is entered in the delta. -/
  | asrcLock (p : Fin 16)
  /-- NO_LOCK (R316): A port in LOCKING for 1 s sets NO_LOCK. -/
  | noLock (p : Fin 16)
  /-- PORT_CLOCK_LOST (R317): Two frame periods without a frame start put the port in LOST. -/
  | portClockLost (p : Fin 16) (fcg : Bool)
  /-- PORT_RANGE (R317): A measured ratio out of range for 10 ms puts the port in RANGE. -/
  | portRange (p : Fin 16)
  /-- PORT_RANGE_RECOVER (R317): A ratio back in range for 100 ms moves the port to LOCKING. -/
  | portRangeRecover (p : Fin 16)
  /-- TDM_CTL_WRITE (R327): A write of TDM_CTL_p configures or runs the port, or is ignored with CFG. -/
  | tdmCtlWrite (p : Fin 16) (v : Word)
  /-- SIDETONE_CTL_WRITE (R328): A write of SIDETONE_CTL_r sets a route, or is ignored with CFG. -/
  | sidetoneCtlWrite (r : Fin 64) (v : Word)
  /-- SIDETONE_GAIN_WRITE (R322): A write of SIDETONE_GAIN_r starts a 64-sample gain ramp. -/
  | sidetoneGainWrite (r : Fin 64) (v : Word)
  /-- BUS_TRANSACTION (R330): A master's request is arbitrated at its target and served. -/
  | busTransaction (q : BusReq)
  /-- BUS_HANG (R335): The transaction watchdog expires and ends the transaction with a bus error. -/
  | busHang (m : Fin 8) (id : Fin 16)
  /-- LATE_RESPONSE (R335): A response for an ended transaction arrives and is discarded. -/
  | lateResponse (m : Fin 8) (id : Fin 16)
  /-- CDC_QUEUE (R24): A dual-clock queue overflows or underflows, raising an inclusion and poisoning its block. -/
  | cdcQueue (q : Crossing) (inst : Nat) (dir : Bool) (chans : List Nat)
  /-- SECURE_WIPE_DONE (R341): A wipe of the secure part completes. -/
  | secureWipeDone
  /-- DRAM_INIT_DONE (R346): Background DRAM initialisation reaches the end and INIT_DONE is set. -/
  | dramInitDone
  /-- DRAM_READ_RETRAIN (R348): Once per second the controller retrains the read delays inside refresh windows. -/
  | dramReadRetrain
  /-- DRAM_POWER_DOWN (R348): A rank idle for DRAMC_PD_CTL cycles enters power-down. -/
  | dramPowerDown (ch : Fin 2) (rank : Fin 2)
  /-- DMA_START (R350): A write of START in DMA_CH_CTL_c starts the channel at its first descriptor. -/
  | dmaStart (c : Fin 32) (v : Word)
  /-- DMA_STOP (R356): A write of STOP ends the channel after its issued transactions, with cause STOPPED. -/
  | dmaStop (c : Fin 32) (v : Word)
  /-- DMA_BURST_RESPONSE (R356): A DMA burst completes, or is retried after a bus error. -/
  | dmaBurstResponse (c : Fin 32) (r : DmaResp)
  /-- DMA_COPY_COMPLETE (R357): A COPY's last write is accepted; Result and Status are written and DMA_DONE set. -/
  | dmaCopyComplete (c : Fin 32)
  /-- DMA_FENCE_COMPLETE (R357): Every earlier write of the channel has its response and the FENCE completes. -/
  | dmaFenceComplete (c : Fin 32)
  /-- DMA_REQUEST (R354): An asserted request line lets a peripheral-paced channel move a burst. -/
  | dmaRequest (c : Fin 32) (line : Fin 31) (r : DmaResp)
  /-- SCRUB_WORD (R370): A patrol scrubber reads a word in an idle cycle, correcting or reporting errors. -/
  | scrubWord (m : Fin 4) (inst addr synd : Nat) (c : WordCheck)
  /-- LOCKSTEP (R371): The lockstep comparator detects a control-core mismatch and the control complex restarts. -/
  | lockstep (core : Fin 2) (pc : Nat)
  /-- GANEN_RESTART_DONE (R373): The restarted Ganen closes its first delta and RESTARTING clears. -/
  | ganenRestartDone
  /-- GANEN_RESTART_TIMEOUT (R373): A restart not closed within 100 ms stops the unit's render until POR_N. -/
  | ganenRestartTimeout
  /-- SUPPLY (R374): A supply monitor detects a supply outside its range. -/
  | supply (m : Fin 8) (mv : Nat)
  /-- THERMAL_SAMPLE (R374): Every 50 µs the junction sensor samples; four samples above the maximum detect THERMAL. -/
  | thermalSample (t : Int)
  /-- LOG_COPY (R377): A record is copied to the DRAM ring within 1 ms, or lost with LOG_LOST. -/
  | logCopy
  /-- REPEAT_RECORD (R378): At the end of a second one record with REPEAT carries the coalesced count. -/
  | repeatRecord (cls unit inst : Nat)
  /-- INTEG_FAULT_WRITE (R380): A write of 1 to INTEG_FAULT clears FAULT unless a persistent condition holds. -/
  | integFaultWrite (v : Word)
  /-- CNT_SNAP (R382): A write of a block's CNT_SNAP captures and clears all its counters. -/
  | cntSnap (addr : Nat) (v : Word)
  /-- REGISTER_WRITE (R12): A write to a register with no row of its own sets fields by access type, or ends with a bus error. -/
  | registerWrite (addr : Nat) (size : Nat) (v : Word)
  /-- ILK_B_EDGE (R388): ILK_B rises and a ready unit claims its line, taking over if it is the standby. -/
  | ilkBEdge
  /-- CLAIM_TIE_TIMEOUT (R388): After 2 µs of both units claiming, the non-preferred unit releases. -/
  | claimTieTimeout
  /-- ILK_FAULT (R393): ILK_A reads against the driven level for 1 µs and ILK_FAULT is set. -/
  | ilkFault
  /-- HEARTBEAT_TX (R394): Every 10 µs a unit sends a HEARTBEAT frame. -/
  | heartbeatTx
  /-- HEARTBEAT_RX (R395): A received heartbeat updates the peer state and L offset, losing step beyond 1 µs. -/
  | heartbeatRx (h : Heartbeat)
  /-- BEZEL_LINK (R394): A lane without block lock or heartbeat for 100 µs takes the link down. -/
  | bezelLink (lane : Fin 2)
  /-- NOTICE_RX (R389): A NOTICE frame from the releasing peer is received. -/
  | noticeRx (cls : Nat)
  /-- DELTA_SEGMENT (R399): The standby receives a delta segment, checks it and sends ACK once complete. -/
  | deltaSegment (g : DeltaSeg)
  /-- RESEND_RX (R399): The active receives RESEND and resends the named segments. -/
  | resendRx (segs : List Nat)
  /-- ACK_RX (R400): The active receives the standby's ACK for a delta. -/
  | ackRx (seq : Nat)
  /-- MARK_RX (R400): The standby receives MARK COMMIT or DROP. -/
  | markRx (seq : Nat) (commit : Bool)
  /-- STAGING_RX (R398): The standby receives a background staged object. -/
  | stagingRx (num : Nat) (o : StagedObj)
  /-- RECON_RX (R403): The active receives the standby's input Carats and returns differing blocks. -/
  | reconRx (carats : List (Nat × Word))
  /-- RECON_DATA_RX (R403): The standby receives blocks and replaces its inputs before the object chains. -/
  | reconDataRx (blocks : List (Nat × Word × List Int)) (last : Bool)
  /-- RECON_DEADLINE (R404): RECON_DATA incomplete 16 µs after the boundary sets RECON_OVF and loses step. -/
  | reconDeadline
  /-- TRANSPLANT_RX (R409): The standby receives and loads carried-state records. -/
  | transplantRx (t : Machine.Transplant)
  /-- AUTO_SYNC_START (R407): A cold standby with AUTO_SYNC starts synchronisation after 1 s of health. -/
  | autoSyncStart
  /-- SYNC_IMAGE_COMPLETE (R408): The standby holds the image and applies it with the kept deltas. -/
  | syncImageComplete (image : Machine.Image)
  /-- SYNC_SETTLE_END (R410): Every history span has passed and the standby enters VERIFY. -/
  | syncSettleEnd
  /-- SYNC_VERIFIED (R411): Sixty-four consecutive matching cycles make the standby SYNCHRONISED. -/
  | syncVerified
  /-- RECLAIM_HOLDOFF_EXPIRY (R413): The preferred unit's hold-off ends and a HANDOVER entry is made. -/
  | reclaimHoldoffExpiry
  /-- HANDOVER_FAIL (R414): The peer has not claimed 1 µs after release and the old active claims again. -/
  | handoverFail
  /-- DOMAIN_GRANT (R420): A domain grants, is isolated and switched off, and the next is asked. -/
  | domainGrant (d : Fin 11)
  /-- DOMAIN_DELAY (R420): A domain asks again later. -/
  | domainDelay (d : Fin 11)
  /-- DOMAIN_DELAY_EXPIRED (R420): A domain's delays exceed 1 ms and it counts as refusing. -/
  | domainDelayExpired (d : Fin 11)
  /-- DOMAIN_REFUSE (R422): A domain refuses, the entry aborts and stopped domains are woken. -/
  | domainRefuse (d : Fin 11) (reason : Fin 12)
  /-- DOMAIN_READY (R426): A waking domain reports power-good and lock and stalled accesses complete. -/
  | domainReady (d : Fin 11)
  /-- DOMAIN_WAKE (R426): Power-good or lock is late; the domain is FAILED and off. -/
  | domainWake (d : Fin 11) (lock : Bool)
  /-- WAKE_N_EDGE (R425): A falling edge on WAKE_N, if enabled, starts a return to RUN. -/
  | wakeNEdge
  /-- PMU_REQ_WRITE (R429): A write of PMU_REQ begins a state or point request, re-sequenced by the PMU. -/
  | pmuReqWrite (v : Word)
  /-- PMU_RETRY_WRITE (R427): A write of PMU_RETRY retries waking a FAILED domain. -/
  | pmuRetryWrite (v : Word)
  /-- PMU_REFUSE_CLR (R442): A write of PMU_REFUSE_CLR clears every refusal count. -/
  | pmuRefuseClr (v : Word)
  /-- SEC_TAMPER_LATCH_READ (R442): A read of SEC_TAMPER_LATCH returns and clears the latched sources. -/
  | secTamperLatchRead
  /-- VOLTAGE_CONFIRMED (R429): READ_VOUT is within 10 mV with no fault and the raised Facet clock is applied at the next boundary. -/
  | voltageConfirmed (mv : Nat) (status : BitVec 16)
  /-- VOLTAGE_TIMEOUT (R429): The voltage is not confirmed within 1 ms; the previous voltage is restored and PMBUS set. -/
  | voltageTimeout
  /-- PMB_ALERT (R431): PMB_ALERT_N asserts, setting ALERT and latching STATUS_WORD. -/
  | pmbAlert (status : BitVec 16)
  /-- POR_ASSERT (R432): POR_N low holds every domain but AON in reset and releases the interlock. -/
  | porAssert
  /-- POR_RELEASE (R432): POR_N release runs start-up through image verification, training and Ganen load to READY. -/
  | porRelease (env : StartEnv)
  /-- TAMPER (R440): A tamper source wipes the secure part, closes the window and logs TAMPER. -/
  | tamper (src : Fin 3) (low : Bool)
  /-- JTAG_DEBUG_ACCESS (R456): A JTAG access performs boundary scan or, in BLANK and DEVELOP, control-core debug. -/
  | jtagDebugAccess (a : JtagAccess)
  /-- ILK_B_FALL (R390): ILK_B reads low, so a released active's keeper turns off and a unit that claimed at the same time sees the tie. -/
  | ilkBFall
  /-- SUPPLY_IN_RANGE (R447): Every supply comes back within its range, ending the persistent supply condition and letting the PMU release the domains from reset. -/
  | supplyInRange (env : StartEnv)
  /-- COALESCING_TIME_EXPIRY (R217): A ring pair's COAL_US coalescing time runs out and the MSI-X message for filled reply descriptors is sent. -/
  | coalescingTimeExpiry (k : Fin 4)
  /-- PTP_SYNC_INTERVAL (R283): At logSyncInterval, or the announce or delay-request interval, a PTP clock sends its next Sync, Announce or Delay_Req message. -/
  | ptpSyncInterval (d : Fin 2) (what : Fin 3)
  /-- IGMP_UNSOLICITED_REPORT (R262): The IGMPv3 report timer runs out and Ganen sends the repeated unsolicited report, or its delayed answer to a query. -/
  | igmpUnsolicitedReport (f : Fin 256)
  /-- SFP_MODABS_CHANGE (R455): SFP_n_MODABS changes when a module is inserted or removed, and Ganen reads the module identity over SFP_n_SCL and SFP_n_SDA. -/
  | sfpModabsChange (k : Fin 4) (present : Bool)
  deriving DecidableEq, Repr

end Sys2Proof
end

