-- ==== Sys2Proof/Decode.lean ====
section
/-! DEFINITION. The decoding of words. No row of spec/opcode_table.json gives bits: the rows are steps of the part, so no word spells
a command by the table. The slots of a Facet's bundles have encodings of their own (R165, Tables FACET-3 to FACET-7): `decodeSlot`
says which of the rows a slot word is, and `slotWord` is the word that a row's fields make. -/

namespace Sys2Proof

/-- The command that a word spells by the table's bits: none, for no row gives any. -/
def decodeTableWord (_nbits _w : Nat) : Option Instr := none

/-! ### Slots of a bundle -/

/-- The opcodes of the scalar slot (Table FACET-5): bits [31:24]. Opcode 0 is NOP's, whose other bits must be 0. -/
def scalarOp : Nat → Option (Issue → Instr)
  | 0x00 => some .nop
  | 0x01 => some .add
  | 0x02 => some .sub
  | 0x03 => some .addi
  | 0x04 => some .mul
  | 0x05 => some .mulh
  | 0x06 => some .and
  | 0x07 => some .or
  | 0x08 => some .xor
  | 0x09 => some .shl
  | 0x0A => some .shr
  | 0x0B => some .sra
  | 0x0C => some .min
  | 0x0D => some .max
  | 0x0E => some .cmpeq
  | 0x0F => some .cmplt
  | 0x10 => some .cmpltu
  | 0x18 => some .pand
  | 0x19 => some .por
  | 0x1A => some .pnot
  | 0x1B => some .pmov
  | 0x20 => some .movi
  | 0x21 => some .movhi
  | 0x22 => some .mfs
  | 0x23 => some .mts
  | 0x30 => some .jmp
  | 0x31 => some .bnz
  | 0x32 => some .dbnz
  | 0x33 => some .call
  | 0x34 => some .ret
  | 0x38 => some .loop
  | 0x3F => some .endRun
  | 0x40 => some .get
  | 0x41 => some .put
  | 0x42 => some .gwait
  | _ => none

/-- The opcodes of the vector slot (Table FACET-6). -/
def vectorOp : Nat → Option (Issue → Instr)
  | 0x00 => some .nop
  | 0x01 => some .vadd
  | 0x02 => some .vsub
  | 0x03 => some .vneg
  | 0x04 => some .vabs
  | 0x05 => some .vmin
  | 0x06 => some .vmax
  | 0x07 => some .vand
  | 0x08 => some .vor
  | 0x09 => some .vxor
  | 0x0A => some .vshl
  | 0x0B => some .vsra
  | 0x10 => some .vmpy
  | 0x11 => some .vmac
  | 0x12 => some .vmsc
  | 0x13 => some .vmacs
  | 0x14 => some .aclr
  | 0x15 => some .aext
  | 0x16 => some .ains
  | 0x17 => some .ashr
  | 0x20 => some .vcmpy
  | 0x21 => some .vcmac
  | 0x22 => some .vcmacj
  | 0x23 => some .vbfly
  | 0x30 => some .vsplat
  | 0x31 => some .vperm
  | 0x32 => some .vsel
  | 0x33 => some .vextr
  | 0x38 => some .vcmpeq
  | 0x39 => some .vcmplt
  | 0x3A => some .vcmple
  | 0x3C => some .vnorm
  | 0x3D => some .vcrc
  | 0x3E => some .vmov
  | _ => none

/-- The opcodes of a memory slot (Table FACET-7): bits [31:28]. -/
def memoryOp : Nat → Option (Issue → Instr)
  | 0x0 => some .nop
  | 0x1 => some .ldW
  | 0x2 => some .stW
  | 0x3 => some .ldV
  | 0x4 => some .stV
  | 0x5 => some .ldB
  | 0x6 => some .ldP
  | 0x7 => some .stP
  | _ => none

/-- What slot `n` of a bundle of Facet `k` issues: slot 0 is the scalar slot, 1 the vector slot, 2 and 3 the memory slots, and
the last ends the bundle. None where the opcode is reserved (R166). -/
def decodeSlot (k : Fin 64) (n : Fin 4) (w : Word) : Option Instr :=
  if n.val < 2 then
    let i : Issue := { k := k, f := BitVec.ofNat 28 (w.toNat % 2 ^ 24), last := false }
    ((if n.val = 0 then scalarOp else vectorOp) (w.toNat / 2 ^ 24)).map fun c => c i
  else
    let i : Issue := { k := k, f := BitVec.ofNat 28 (w.toNat % 2 ^ 28), m := ⟨n.val % 2, Nat.mod_lt _ (by decide)⟩, last := n.val == 3 }
    (memoryOp (w.toNat / 2 ^ 28)).map fun c => c i

/-- The word of a register-form slot (Table FACET-3). -/
def slotWord (op : Nat) (sat : Bool) (pred d a b rnd mod : Nat) : Word :=
  BitVec.ofNat 32 (op * 2 ^ 24 + (if sat then 2 ^ 23 else 0) + pred * 2 ^ 20 + d * 2 ^ 15 + a * 2 ^ 10 + b * 2 ^ 5 + rnd * 2 ^ 3 + mod)

/-- The word of a memory slot (Table FACET-4). -/
def memWord (op pred dr base : Nat) (upd circ : Bool) (off : Int) : Word :=
  BitVec.ofNat 32 (op * 2 ^ 28 + pred * 2 ^ 25 + dr * 2 ^ 20 + base * 2 ^ 15 + (if upd then 2 ^ 14 else 0) + (if circ then 2 ^ 13 else 0)) |||
    ((BitVec.ofInt 13 off).zeroExtend 32)

end Sys2Proof
end

