-- ==== Sys2Proof/Config.lean ====
section
/-! DEFINITION. What the spec leaves open: constants with no body, so that no proof can see their values. Each takes the
state's counter of free values, and any operand it depends on (log 2). -/

namespace Sys2Proof.Config

/-- The seed that Ganen draws for an object's decorrelator (R73) or for a feed's probe (R141): how it chooses is its own. -/
opaque seed : Nat → Word

/-- The exponent and the words of a 512-point transform in a format of so many bits, and the outputs of the inverse transform from a
spectrum's exponent and words: R107 gives the formats and not the transforms' arithmetic, and R91 makes each a function of its
input. -/
opaque fftExp : Nat → List Int → Int
opaque fftWord : Nat → List Int → Nat → Int × Int
opaque ifft : Int → List (Int × Int) → Nat → Int

/-- The place of a channel's block in Crown's block buffers, in units of 128 bytes (Table ARCH-10 gives their size alone). -/
opaque crownPlace : Nat → Nat

/-- The first sequence number of a transmit flow's packets (R269). -/
opaque rtpStart : Nat → Nat

/-- The boot ROM's code, by address (R27). -/
opaque romByte : Nat → Byte

/-- The contents of a unit's memory after a loss that the spec does not describe, and other bytes it leaves open. -/
opaque freeByte : Nat → Nat → Byte

/-- A number that the spec leaves open, by place. -/
opaque freeInt : Nat → Nat → Int

/-- A word that the spec leaves open, by place. -/
opaque freeWord : Nat → Nat → Word

/-- Distinct coefficients of a half-band stage in Q2.30, the centre first (Table LOUPE-2 gives their number, not their values). -/
opaque halfBand : Nat → Nat → Int

/-- Coefficients of band q's filter at a render rate, Q2.30 (R141 gives the band, not the values). -/
opaque bandPass : Bool → Nat → Nat → Int

/-- Coefficients of the ASRC's interpolator by phase and tap, Q2.30, but for phase 0 (Table PORT-3 gives a response, not values). -/
opaque asrcTap : Nat → Nat → Int

/-- Words of the masking estimate (R142: in fixed point, whose words the spec does not give), by the place in the estimate and the
exact value in 2^-30 of the word's unit. -/
opaque maskWord : Nat → Int → Int

/-- A sample of a deconvolved response (R137), by whether the stimulus is MLS, what is captured (of MLS, the circular
cross-correlation), the chain delay to remove in 1/64 sample, and the sample's place. -/
opaque deconv : Bool → (Nat → Int) → Nat → Nat → Int

end Sys2Proof.Config
end

