-- ==== Sys2Proof/Machine/Num.lean ====
section
/-! DEFINITION. Number helpers: sparse tables, bit fields, byte order, rounding and saturation. -/

namespace Sys2Proof.Machine

/-- What key `k` holds in a sparse table whose other keys hold `d`. -/
def mget {α : Type} (d : α) : SMap α → Nat → α
  | [], _ => d
  | (a, v) :: t, k => if a = k then v else mget d t k

/-- Whether key `k` is listed. -/
def mhas {α : Type} : SMap α → Nat → Bool
  | [], _ => false
  | (a, _) :: t, k => if a = k then true else mhas t k

/-- What key `k` holds, if listed. -/
def mfind {α : Type} : SMap α → Nat → Option α
  | [], _ => none
  | (a, v) :: t, k => if a = k then some v else mfind t k

/-- Set key `k`, keeping rising keys. -/
def mset {α : Type} : SMap α → Nat → α → SMap α
  | [], k, v => [(k, v)]
  | (a, w) :: t, k, v =>
    if k < a then (k, v) :: (a, w) :: t
    else if a = k then (k, v) :: t
    else (a, w) :: mset t k v

/-- Drop key `k`. -/
def mdel {α : Type} : SMap α → Nat → SMap α
  | [], _ => []
  | (a, w) :: t, k => if a = k then mdel t k else (a, w) :: mdel t k

/-- Change what key `k` holds by a function. -/
def mmod {α : Type} (d : α) (m : SMap α) (k : Nat) (f : α → α) : SMap α :=
  mset m k (f (mget d m k))

/-- The bits `[lo + len - 1 : lo]` of a number. -/
def bitsOf (w lo len : Nat) : Nat := w / 2 ^ lo % 2 ^ len

/-- The bits `[lo + len - 1 : lo]` of a word, as a number. -/
def wbits (w : Word) (lo len : Nat) : Nat := bitsOf w.toNat lo len

/-- Bit `i` of a word. -/
def wbit (w : Word) (i : Nat) : Bool := w.getLsbD i

/-- The word whose bits `[lo + len - 1 : lo]` are `v`, and 0 elsewhere. -/
def wfield (lo len v : Nat) : Word := BitVec.ofNat 32 (v % 2 ^ len * 2 ^ lo)

/-- The mask of bits `[lo + len - 1 : lo]`. -/
def wmask (lo len : Nat) : Word := BitVec.ofNat 32 ((2 ^ len - 1) * 2 ^ lo)

/-- Replace bits `[lo + len - 1 : lo]` of a word. -/
def wput (w : Word) (lo len v : Nat) : Word :=
  (w &&& ~~~ (wmask lo len)) ||| wfield lo len v

/-- 1 for true, 0 for false. -/
def b2n (b : Bool) : Nat := if b then 1 else 0

/-- Divide by `2 ^ s`, truncating toward minus infinity (R169, RND 0). -/
def shrFloor (x : Int) (s : Nat) : Int := x / (2 ^ s : Int)

/-- Divide by a positive `d`, to nearest, ties to even (R169, RND 1; the rounding of every station). -/
def divEven (x : Int) (d : Nat) : Int :=
  let q := x / (d : Int)
  let r := x % (d : Int)
  if 2 * r < d then q else if 2 * r > d then q + 1 else if q % 2 = 0 then q else q + 1

/-- Shift right by `s`, to nearest, ties to even. -/
def shrEven (x : Int) (s : Nat) : Int := divEven x (2 ^ s)

/-- Shift right by `s`, to nearest, ties away from zero (R169, RND 2). -/
def shrAway (x : Int) (s : Nat) : Int :=
  if s = 0 then x
  else if x ≥ 0 then (x + 2 ^ (s - 1)) / (2 ^ s : Int)
  else - ((-x + 2 ^ (s - 1)) / (2 ^ s : Int))

/-- The largest signed number of `w` bits. -/
def smax (w : Nat) : Int := 2 ^ (w - 1) - 1

/-- The smallest signed number of `w` bits. -/
def smin (w : Nat) : Int := - 2 ^ (w - 1)

/-- Clamp to the signed range of `w` bits (R8, R168). -/
def sat (w : Nat) (x : Int) : Int := if x > smax w then smax w else if x < smin w then smin w else x

/-- Whether clamping changes the number. -/
def saturates (w : Nat) (x : Int) : Bool := decide (x > smax w) || decide (x < smin w)

/-- Wrap to the signed range of `w` bits, in two's complement. -/
def wrap (w : Nat) (x : Int) : Int := (BitVec.ofInt w x).toInt

/-- Clamp between two bounds. -/
def clampI (lo hi x : Int) : Int := if x < lo then lo else if x > hi then hi else x

/-- A number as `n` bytes, most significant first (R10: KCP packets). -/
def beBytes : Nat → Nat → List Byte
  | 0, _ => []
  | n + 1, v => BitVec.ofNat 8 (v / 256 ^ n) :: beBytes n v

/-- A number as `n` bytes, least significant first (R10: registers, memory, descriptors). -/
def leBytes : Nat → Nat → List Byte
  | 0, _ => []
  | n + 1, v => BitVec.ofNat 8 v :: leBytes n (v / 256)

/-- The number that bytes spell, most significant first. -/
def beNat : List Byte → Nat
  | [] => 0
  | b :: t => b.toNat * 256 ^ t.length + beNat t

/-- The number that bytes spell, least significant first. -/
def leNat : List Byte → Nat
  | [] => 0
  | b :: t => b.toNat + 256 * leNat t

/-- `n` bytes from offset `o`. -/
def slice (bs : List Byte) (o n : Nat) : List Byte := (bs.drop o).take n

/-- The big-endian number at offset `o`, of `n` bytes. -/
def beAt (bs : List Byte) (o n : Nat) : Nat := beNat (slice bs o n)

/-- The big-endian signed number at offset `o`, of `n` bytes. -/
def beIntAt (bs : List Byte) (o n : Nat) : Int := (BitVec.ofNat (8 * n) (beAt bs o n)).toInt

/-- The little-endian number at offset `o`, of `n` bytes. -/
def leAt (bs : List Byte) (o n : Nat) : Nat := leNat (slice bs o n)

/-- A signed number as `n` big-endian bytes. -/
def beInt (n : Nat) (v : Int) : List Byte := beBytes n (BitVec.ofInt (8 * n) v).toNat

/-- `n` zero bytes. -/
def zeros (n : Nat) : List Byte := List.replicate n 0

/-- Entry `i` of a list, or a default. -/
def nth {α : Type} (d : α) (l : List α) (i : Nat) : α := l.getD i d

/-- The sum of a list of integers. -/
def isum (l : List Int) : Int := l.foldl (· + ·) 0

/-- The sum of a list of numbers. -/
def nsum (l : List Nat) : Nat := l.foldl (· + ·) 0

/-- The smallest power of two exponent with `2 ^ k ≥ n` within fuel, used for sizes. -/
def isPow2 (n : Nat) : Bool := n ≠ 0 && n == 2 ^ Nat.log2 n

/-- Whole number square root, rounded down. -/
def isqrt (n : Nat) : Nat := Nat.rec n (fun _ x => if x * x ≤ n then x else (x + n / x) / 2) (2 * (Nat.log2 n + 2))

/-- The 32-bit sample of an integer (already in range). -/
def smp (x : Int) : Word := BitVec.ofInt 32 x

end Sys2Proof.Machine
end

