-- ==== Sys2Proof/Machine/Crypto.lean ====
section
/-! DEFINITION. The check codes and the cryptography the spec names: CRC-32C (R191), the IEEE 802.3 CRC-32 (R252),
SHA-256, HMAC-SHA-256 (R200) and ECDSA P-256 (R436). -/

namespace Sys2Proof.Machine

/-- One bit of a reflected CRC. -/
def crcBit (poly c : Word) : Word := if c.getLsbD 0 then (c >>> 1) ^^^ poly else c >>> 1

/-- One byte of a reflected CRC. -/
def crcByte (poly c : Word) (b : Byte) : Word :=
  Nat.rec (c ^^^ b.setWidth 32) (fun _ x => crcBit poly x) 8

/-- A reflected CRC continued over bytes, without the final exclusive-or. -/
def crcOver (poly : Word) (c : Word) (bs : List Byte) : Word := bs.foldl (crcByte poly) c

/-- CRC-32C: polynomial 0x1EDC_6F41 reflected, initial value and final exclusive-or all ones (R191). -/
def crc32c (bs : List Byte) : Word := crcOver 0x82F63B78 0xFFFFFFFF bs ^^^ 0xFFFFFFFF

/-- CRC-32C continued from a seed, with the final exclusive-or applied (R355). -/
def crc32cSeed (seed : Word) (bs : List Byte) : Word := crcOver 0x82F63B78 seed bs ^^^ 0xFFFFFFFF

/-- The IEEE 802.3 CRC-32 (R252). -/
def crc32eth (bs : List Byte) : Word := crcOver 0xEDB88320 0xFFFFFFFF bs ^^^ 0xFFFFFFFF

/-- The Carat of a channel-block (R365): channel identifier, block number and sixteen samples, little-endian. -/
def carat (chan : Nat) (block : Nat) (samples : List Word) : Word :=
  crc32c (leBytes 4 chan ++ leBytes 8 block ++ (samples.map (fun w => leBytes 4 w.toNat)).flatten)

/-! ### SHA-256 -/

/-- The first 64 primes, whose roots give the constants of the hash. -/
def primes64 : List Nat := ((List.range 312).drop 2).filter fun p => ((List.range p).drop 2).all fun q => p % q ≠ 0

/-- The largest number of `w` bits whose `k`-th power is at most `n`, bit by bit from the top. -/
def natRoot (k n w : Nat) : Nat := (List.range w).foldr (fun i r => if (r + 2 ^ i) ^ k ≤ n then r + 2 ^ i else r) 0

/-- The first 32 bits of the fraction of the `k`-th root of a number below 312. -/
def rootBits (k p : Nat) : Word := BitVec.ofNat 32 (natRoot k (p * 2 ^ (32 * k)) 37)

/-- Words packed in one number, the first in its highest bits. -/
def unpackWords (n v : Nat) : List Word := (List.range n).map fun i => BitVec.ofNat 32 (v / 2 ^ (32 * (n - 1 - i)))

/-- The constant of each round: the cube root of its prime (`shaK_roots` in Laws/Ops.lean). -/
def shaK : List Word := unpackWords 64
  0x428a2f9871374491b5c0fbcfe9b5dba53956c25b59f111f1923f82a4ab1c5ed5d807aa9812835b01243185be550c7dc372be5d7480deb1fe9bdc06a7c19bf174e49b69c1efbe47860fc19dc6240ca1cc2de92c6f4a7484aa5cb0a9dc76f988da983e5152a831c66db00327c8bf597fc7c6e00bf3d5a7914706ca63511429296727b70a852e1b21384d2c6dfc53380d13650a7354766a0abb81c2c92e92722c85a2bfe8a1a81a664bc24b8b70c76c51a3d192e819d6990624f40e3585106aa07019a4c1161e376c082748774c34b0bcb5391c0cb34ed8aa4a5b9cca4f682e6ff3748f82ee78a5636f84c878148cc7020890befffaa4506cebbef9a3f7c67178f2

/-- The chaining value at the start: the square roots of the first 8 primes (`shaInit_roots`). -/
def shaInit : List Word := unpackWords 8 0x6a09e667bb67ae853c6ef372a54ff53a510e527f9b05688c1f83d9ab5be0cd19

/-- Exclusive-or of a word turned right by each amount. -/
def turned (x : Word) (l : List Nat) : Word := l.foldl (fun y n => y ^^^ x.rotateRight n) 0

/-- The hash in mid-block: the chaining words, newest first, and the 16 words of the schedule that come next. -/
structure ShaRun where
  vs : List Word
  ws : List Word

/-- One round. The schedule moves on by a word; the fifth chaining word takes the first part of the round's sum. -/
def ShaRun.round (r : ShaRun) (k : Word) : ShaRun :=
  let v := fun i => nth 0 r.vs i
  let w := fun i => nth 0 r.ws i
  let pick := v 6 ^^^ (v 4 &&& (v 5 ^^^ v 6))
  let most := (v 0 &&& (v 1 ||| v 2)) ||| (v 1 &&& v 2)
  let sum := v 7 + turned (v 4) [6, 11, 25] + pick + k + w 0
  let next := w 0 + (turned (w 1) [7, 18] ^^^ (w 1 >>> 3)) + w 9 + (turned (w 14) [17, 19] ^^^ (w 14 >>> 10))
  { vs := (sum + turned (v 0) [2, 13, 22] + most) :: r.vs.take 3 ++ [v 3 + sum] ++ (r.vs.drop 4).take 3, ws := r.ws.drop 1 ++ [next] }

/-- The chaining value after one block of 64 bytes. -/
def shaBlock (h : List Word) (blk : List Byte) : List Word :=
  let r := shaK.foldl ShaRun.round { vs := h, ws := (List.range 16).map fun i => BitVec.ofNat 32 (beAt blk (4 * i) 4) }
  h.zipWith (· + ·) r.vs

/-- A message with its mark, zeros and length in bits, to whole blocks. -/
def shaPadded (bs : List Byte) : List Byte :=
  let used := bs.length + 9
  bs ++ 0x80 :: zeros ((used + 63) / 64 * 64 - used) ++ beBytes 8 (8 * bs.length)

/-- SHA-256. PRESUMED, log 178. -/
def sha256 (bs : List Byte) : List Byte :=
  let m := shaPadded bs
  (((List.range (m.length / 64)).foldl (fun h i => shaBlock h (slice m (64 * i) 64)) shaInit).map fun w => beBytes 4 w.toNat).flatten

/-- HMAC-SHA-256 with a key of at most 64 bytes. -/
def hmac256 (key bs : List Byte) : List Byte :=
  let k := key ++ zeros (64 - key.length)
  let x := fun (c : Byte) => k.map (· ^^^ c)
  sha256 (x 0x5c ++ sha256 (x 0x36 ++ bs))

/-! ### ECDSA over P-256 -/

/-- The field prime. -/
def p256P : Nat := 2 ^ 256 - 2 ^ 224 + 2 ^ 192 + 2 ^ 96 - 1
/-- The group order. -/
def p256N : Nat := 0xffffffff00000000ffffffffffffffffbce6faada7179e84f3b9cac2fc632551
/-- The curve constant b. -/
def p256B : Nat := 0x5ac635d8aa3a93e7b3ebbd55769886bc651d06b0cc53b0f63bce3c3e27d2604b
/-- The base point. -/
def p256G : Nat × Nat :=
  (0x6b17d1f2e12c4247f8bce6e563a440f277037d812deb33a0f4a13945d898c296,
   0x4fe342e2fe1a7f9b8ee7eb4a7c0f9e162bce33576b315ececbb6406837bf51f5)

/-- `b ^ e mod m` over 256 exponent bits. -/
def powMod (b e m : Nat) : Nat :=
  (List.range 256).foldr (fun i acc => let s := acc * acc % m; if e.testBit i then s * b % m else s) (1 % m)

/-- Inverse modulo a prime. -/
def invMod (x m : Nat) : Nat := powMod (x % m) (m - 2) m

/-- Sum of two points; none is the point at infinity. -/
def p256Add : Option (Nat × Nat) → Option (Nat × Nat) → Option (Nat × Nat)
  | none, q => q
  | p, none => p
  | some (x1, y1), some (x2, y2) =>
    let m := p256P
    if x1 = x2 ∧ (y1 + y2) % m = 0 then none
    else
      let l :=
        if x1 = x2 then 3 * (x1 * x1 % m + (m - 1)) % m * invMod (2 * y1) m % m
        else (y2 + m - y1) * invMod (x2 + m - x1) m % m
      let x3 := (l * l + 2 * m - x1 - x2) % m
      some (x3, (l * (x1 + m - x3) + m - y1) % m)

/-- Multiple of a point. -/
def p256Mul (k : Nat) (p : Nat × Nat) : Option (Nat × Nat) :=
  (List.range 256).foldr (fun i acc =>
    let d := p256Add acc acc
    if k.testBit i then p256Add d (some p) else d) none

/-- ECDSA P-256 with SHA-256: the message, the public key (x then y) and the signature (r then s), big-endian (R436). -/
def ecdsaVerify (msg key sig : List Byte) : Bool :=
  let x := beAt key 0 32
  let y := beAt key 32 32
  let r := beAt sig 0 32
  let s := beAt sig 32 32
  let m := p256P
  let onCurve := y * y % m == (x * x % m * x + (m - 3) * x + p256B) % m
  if x ≥ m || y ≥ m || !onCurve || r = 0 || r ≥ p256N || s = 0 || s ≥ p256N then false
  else
    let z := beNat (sha256 msg)
    let w := invMod s p256N
    match p256Add (p256Mul (z * w % p256N) p256G) (p256Mul (r * w % p256N) (x, y)) with
    | none => false
    | some (px, _) => px % p256N == r

end Sys2Proof.Machine
end

