-- ==== Sys2Proof/Machine/Float.lean ====
section
/-! DEFINITION. IEEE 754 single precision and its elementary functions, as R470 lays them down: every step a binary32
operation rounded to nearest with ties to even, and every elementary function the nearest binary32 to the exact value.

An exact value is held as a dyadic number. The elementary functions are evaluated in fixed point with far more
fraction bits than a binary32 result can need, and rounded once (log 12). -/

namespace Sys2Proof.Machine

/-- A dyadic number `m * 2 ^ e`. -/
structure Dyadic where
  m : Int
  e : Int
  deriving DecidableEq, Repr

/-- Positive infinity. -/
def F32.inf : F32 := 0x7F800000
/-- The quiet not-a-number every invalid step gives. -/
def F32.nan : F32 := 0x7FC00000
/-- Zero. -/
def F32.zero : F32 := 0
/-- One. -/
def F32.one : F32 := 0x3F800000
/-- One half. -/
def F32.half : F32 := 0x3F000000

/-- Round `(-1)^neg * m * 2^e` to binary32, to nearest, ties to even; `sticky` says that a positive amount below one
unit of `m` was dropped. -/
def F32.round (neg : Bool) (m : Nat) (e : Int) (sticky : Bool) : F32 :=
  let sgn : Nat := if neg then 2 ^ 31 else 0
  if m = 0 then BitVec.ofNat 32 sgn
  else
    let len : Int := Nat.log2 m + 1
    let q : Int := max (len - 24 + e) (-149)
    let sh := q - e
    let mant : Nat :=
      if sh ≤ 0 then m * 2 ^ (-sh).toNat
      else
        let s := sh.toNat
        let d := 2 ^ s
        let h := m / d
        let r := m % d
        if 2 * r > d || (2 * r == d && sticky) then h + 1
        else if 2 * r == d then (if h % 2 = 0 then h else h + 1)
        else h
    let enc := (q + 149).toNat * 2 ^ 23 + mant
    if enc ≥ 0x7F800000 then BitVec.ofNat 32 (sgn + 0x7F800000) else BitVec.ofNat 32 (sgn + enc)

/-- The binary32 nearest to a dyadic number. -/
def F32.ofDy (d : Dyadic) : F32 := F32.round (decide (d.m < 0)) d.m.natAbs d.e false

/-- The binary32 nearest to an integer. -/
def F32.ofInt (i : Int) : F32 := F32.ofDy ⟨i, 0⟩

/-- The binary32 nearest to `n / d`. -/
def F32.ofRat (n : Int) (d : Nat) : F32 :=
  if n = 0 then 0
  else
    let k : Nat := 64 + Nat.log2 d
    let num := n.natAbs * 2 ^ k
    F32.round (decide (n < 0)) (num / d) (-(k : Int)) (num % d != 0)

/-- Exponent field. -/
def F32.expo (x : F32) : Nat := x.toNat / 2 ^ 23 % 256
/-- Fraction field. -/
def F32.frac (x : F32) : Nat := x.toNat % 2 ^ 23
/-- Sign. -/
def F32.neg? (x : F32) : Bool := x.getLsbD 31
/-- Not a number. -/
def F32.isNan (x : F32) : Bool := x.expo == 255 && x.frac != 0
/-- Infinite. -/
def F32.isInf (x : F32) : Bool := x.expo == 255 && x.frac == 0
/-- Zero of either sign. -/
def F32.isZero (x : F32) : Bool := x.toNat % 2 ^ 31 == 0

/-- The exact value of a finite binary32. -/
def F32.dy (x : F32) : Dyadic :=
  let m : Nat := if x.expo = 0 then x.frac else x.frac + 2 ^ 23
  let e : Int := if x.expo = 0 then -149 else (x.expo : Int) - 150
  ⟨if x.neg? then -(m : Int) else m, e⟩

/-- Exact sum of dyadic numbers. -/
def Dyadic.add (a b : Dyadic) : Dyadic :=
  let e := min a.e b.e
  ⟨a.m * 2 ^ (a.e - e).toNat + b.m * 2 ^ (b.e - e).toNat, e⟩

/-- Exact comparison. -/
def Dyadic.lt (a b : Dyadic) : Bool :=
  let e := min a.e b.e
  decide (a.m * 2 ^ (a.e - e).toNat < b.m * 2 ^ (b.e - e).toNat)

/-- Negation. -/
def F32.neg (x : F32) : F32 := x ^^^ 0x80000000
/-- Absolute value. -/
def F32.abs (x : F32) : F32 := x &&& 0x7FFFFFFF

/-- Addition. -/
def F32.add (a b : F32) : F32 :=
  if a.isNan || b.isNan then F32.nan
  else if a.isInf then (if b.isInf && a.neg? != b.neg? then F32.nan else a)
  else if b.isInf then b
  else
    let s := a.dy.add b.dy
    if s.m = 0 then (if a.neg? && b.neg? then 0x80000000 else 0) else F32.ofDy s

/-- Subtraction. -/
def F32.sub (a b : F32) : F32 := F32.add a b.neg

/-- Multiplication. -/
def F32.mul (a b : F32) : F32 :=
  let neg := a.neg? != b.neg?
  let sgn : F32 := if neg then 0x80000000 else 0
  if a.isNan || b.isNan then F32.nan
  else if a.isInf || b.isInf then (if a.isZero || b.isZero then F32.nan else F32.inf ||| sgn)
  else
    let x := a.dy
    let y := b.dy
    F32.round neg (x.m.natAbs * y.m.natAbs) (x.e + y.e) false

/-- Division. -/
def F32.div (a b : F32) : F32 :=
  let neg := a.neg? != b.neg?
  let sgn : F32 := if neg then 0x80000000 else 0
  if a.isNan || b.isNan then F32.nan
  else if a.isInf then (if b.isInf then F32.nan else F32.inf ||| sgn)
  else if b.isInf then sgn
  else if b.isZero then (if a.isZero then F32.nan else F32.inf ||| sgn)
  else
    let x := a.dy
    let y := b.dy
    let num := x.m.natAbs * 2 ^ 64
    F32.round neg (num / y.m.natAbs) (x.e - y.e - 64) (num % y.m.natAbs != 0)

/-- Square root. -/
def F32.sqrt (a : F32) : F32 :=
  if a.isNan then F32.nan
  else if a.isZero then a
  else if a.neg? then F32.nan
  else if a.isInf then a
  else
    let x := a.dy
    let odd := x.e % 2 != 0
    let m := x.m.natAbs * 2 ^ (64 + (if odd then 1 else 0))
    let e := (x.e - 64 - (if odd then 1 else 0)) / 2
    let r := isqrt m
    F32.round false r e (r * r != m)

/-- `a < b` on numbers. -/
def F32.lt (a b : F32) : Bool :=
  if a.isNan || b.isNan then false
  else if a.isInf || b.isInf then
    (if a == b then false else (a.isInf && a.neg?) || (b.isInf && !b.neg?))
  else a.dy.lt b.dy

/-- `a ≤ b` on numbers. -/
def F32.le (a b : F32) : Bool := !(a.isNan || b.isNan) && !(F32.lt b a)

/-- The smaller of two. -/
def F32.min (a b : F32) : F32 := if F32.lt b a then b else a
/-- The larger of two. -/
def F32.max (a b : F32) : F32 := if F32.lt a b then b else a

/-- A single-precision number as a fixed-point integer with `n` fraction bits and `w` bits in all: rounded to nearest,
ties to even, and saturated (R470). -/
def F32.toFix (x : F32) (w n : Nat) : Int :=
  if x.isNan then 0
  else if x.isInf then (if x.neg? then smin w else smax w)
  else
    let d := x.dy
    let e := d.e + n
    sat w (if e ≥ 0 then d.m * 2 ^ e.toNat else divEven d.m (2 ^ (-e).toNat))

/-- The single-precision value of a fixed-point integer with `n` fraction bits. -/
def F32.ofFix (i : Int) (n : Nat) : F32 := F32.ofDy ⟨i, -(n : Int)⟩

/-! ### Fixed point with many fraction bits -/

/-- Fraction bits of the working format. DEDUCED, log 12. -/
def fxBits : Nat := 400
/-- One in the working format. -/
def fxOne : Int := 2 ^ fxBits
/-- Product in the working format. -/
def fxMul (a b : Int) : Int := a * b / fxOne
/-- Quotient in the working format. -/
def fxDiv (a b : Int) : Int := if b = 0 then 0 else a * fxOne / b

/-- A dyadic number in the working format. -/
def fxOfDy (d : Dyadic) : Int :=
  let e := d.e + fxBits
  if e ≥ 0 then d.m * 2 ^ e.toNat else d.m / (2 ^ (-e).toNat : Int)

/-- `2 * atanh t` by its series, for `|t| ≤ 1/3`. -/
def fxAtanh2 (t : Int) : Int :=
  let t2 := fxMul t t
  let go : Nat → Int × Int := fun n =>
    Nat.rec (t, t) (fun k st => let p := fxMul st.1 t2; (p, st.2 + p / (2 * (k : Int) + 3))) n
  2 * (go 140).2

/-- ln 2. -/
def fxLn2 : Int := fxAtanh2 (fxOne / 3)
/-- ln 10 = 3 ln 2 + ln (5/4). -/
def fxLn10 : Int := 3 * fxLn2 + fxAtanh2 (fxOne / 9)

/-- arctan t by its series, for small t. -/
def fxAtanSmall (t : Int) : Int :=
  let t2 := fxMul t t
  (Nat.rec (t, t) (fun k st => let p := -(fxMul st.1 t2); (p, st.2 + p / (2 * (k : Int) + 3))) 220 : Int × Int).2

/-- arctan t for t in [0, 1], by halving the angle twice. -/
def fxAtan (t : Int) : Int :=
  let halve : Int → Int := fun u =>
    fxDiv u (fxOne + (isqrt ((fxOne * fxOne + u * u).toNat) : Int))
  4 * fxAtanSmall (halve (halve t))

/-- π by Machin's formula. -/
def fxPi : Int := 4 * (4 * fxAtanSmall (fxOne / 5) - fxAtanSmall (fxOne / 239))

/-- exp r for |r| ≤ 1 by its series. -/
def fxExpSmall (r : Int) : Int :=
  (Nat.rec (fxOne, fxOne) (fun k st => let p := fxMul st.1 r / ((k : Int) + 1); (p, st.2 + p)) 90 : Int × Int).2

/-- sin r for |r| ≤ 1. -/
def fxSinSmall (r : Int) : Int :=
  let r2 := fxMul r r
  (Nat.rec (r, r) (fun k st => let p := -(fxMul st.1 r2) / ((2 * (k : Int) + 2) * (2 * (k : Int) + 3)); (p, st.2 + p)) 50 : Int × Int).2

/-- cos r for |r| ≤ 1. -/
def fxCosSmall (r : Int) : Int :=
  let r2 := fxMul r r
  (Nat.rec (fxOne, fxOne) (fun k st => let p := -(fxMul st.1 r2) / ((2 * (k : Int) + 1) * (2 * (k : Int) + 2)); (p, st.2 + p)) 50 : Int × Int).2

/-- Round a fixed-point value times `2 ^ k` to binary32; bits beyond 250 are noise and are rounded off first, so that an
exact tie is seen as one. -/
def F32.ofFx (x : Int) (k : Int) : F32 :=
  let cut : Nat := 120
  F32.ofDy ⟨divEven x (2 ^ cut), k - fxBits + cut⟩

/-- e ^ (v), v in the working format, as binary32. -/
def fxExpTo (v : Int) : F32 :=
  let k := v / fxLn2
  let r := v - k * fxLn2
  if k > 200 then F32.inf else if k < -200 then 0 else F32.ofFx (fxExpSmall r) k

/-- exp x. -/
def F32.exp (x : F32) : F32 :=
  if x.isNan then F32.nan
  else if x.isInf then (if x.neg? then 0 else F32.inf)
  else if x.isZero then F32.one
  else if F32.lt 0x43480000 x.abs then (if x.neg? then 0 else F32.inf)
  else fxExpTo (fxOfDy x.dy)

/-- 10 ^ x. -/
def F32.exp10 (x : F32) : F32 :=
  if x.isNan then F32.nan
  else if x.isInf then (if x.neg? then 0 else F32.inf)
  else if F32.lt 0x42C80000 x.abs then (if x.neg? then 0 else F32.inf)
  else
    let v := fxOfDy x.dy
    if v % fxOne = 0 then
      let n := v / fxOne
      if n ≥ 0 then F32.ofInt (10 ^ n.toNat) else F32.ofRat 1 (10 ^ (-n).toNat)
    else fxExpTo (fxMul v fxLn10)

/-- ln of a positive dyadic number, in the working format. -/
def fxLnDy (d : Dyadic) : Int :=
  let len := Nat.log2 d.m.natAbs
  let y := fxOfDy ⟨d.m, -(len : Int)⟩
  let k := d.e + len
  k * fxLn2 + fxAtanh2 (fxDiv (y - fxOne) (y + fxOne))

/-- ln x. -/
def F32.ln (x : F32) : F32 :=
  if x.isNan then F32.nan
  else if x.isZero then F32.inf ||| 0x80000000
  else if x.neg? then F32.nan
  else if x.isInf then x
  else F32.ofFx (fxLnDy x.dy) 0

/-- log10 x. -/
def F32.log10 (x : F32) : F32 :=
  if x.isNan then F32.nan
  else if x.isZero then F32.inf ||| 0x80000000
  else if x.neg? then F32.nan
  else if x.isInf then x
  else F32.ofFx (fxDiv (fxLnDy x.dy) fxLn10) 0

/-- x ^ y for x ≥ 0. -/
def F32.pow (x y : F32) : F32 :=
  if y.isZero then F32.one
  else if x.isNan || y.isNan || x.neg? then F32.nan
  else if x.isZero then (if y.neg? then F32.inf else 0)
  else if x.isInf then (if y.neg? then 0 else F32.inf)
  else if y.isInf then (if x == F32.one then F32.one else if F32.lt F32.one x != y.neg? then F32.inf else 0)
  else
    let v := fxMul (fxOfDy y.dy) (fxLnDy x.dy)
    if v > 200 * fxOne then F32.inf else if v < -200 * fxOne then 0 else fxExpTo v

/-- The quadrant and remainder of an angle: `v = q * π/2 + r`. -/
def fxQuad (v : Int) : Int × Int :=
  let h := fxPi / 2
  let q := divEven (v) h.natAbs
  (q % 4, v - q * h)

/-- sin of a fixed-point angle. -/
def fxSin (v : Int) : Int :=
  match fxQuad v with
  | (0, r) => fxSinSmall r
  | (1, r) => fxCosSmall r
  | (2, r) => - fxSinSmall r
  | (_, r) => - fxCosSmall r

/-- sin x. -/
def F32.sin (x : F32) : F32 :=
  if x.isNan || x.isInf then F32.nan else if x.isZero then x else F32.ofFx (fxSin (fxOfDy x.dy)) 0

/-- cos x. -/
def F32.cos (x : F32) : F32 :=
  if x.isNan || x.isInf then F32.nan else F32.ofFx (fxSin (fxOfDy x.dy + fxPi / 2)) 0

/-- The angle of (x, y), fixed point, from exact dyadic coordinates. -/
def fxAtan2 (y x : Dyadic) : Int :=
  let e := min y.e x.e
  let yi := y.m * 2 ^ (y.e - e).toNat
  let xi := x.m * 2 ^ (x.e - e).toNat
  let ay := yi.natAbs
  let ax := xi.natAbs
  let base : Int :=
    if ay = 0 ∧ ax = 0 then 0
    else if ay ≤ ax then fxAtan ((ay : Int) * fxOne / ax)
    else fxPi / 2 - fxAtan ((ax : Int) * fxOne / ay)
  let right := if xi < 0 then fxPi - base else base
  if yi < 0 then - right else right

/-- atan2 y x. -/
def F32.atan2 (y x : F32) : F32 :=
  if y.isNan || x.isNan || y.isInf || x.isInf then F32.nan
  else if y.isZero && !x.neg? then y
  else if y.isZero && x.isZero then (if y.neg? then 0xC0490FDB else 0x40490FDB)
  else
    let r := F32.ofFx (fxAtan2 y.dy x.dy) 0
    if y.isZero && y.neg? then r.neg else r

/-- asin x. -/
def F32.asin (x : F32) : F32 :=
  if x.isNan || F32.lt F32.one x.abs then F32.nan
  else if x.isZero then x
  else
    let v := fxOfDy x.dy
    let c : Int := isqrt ((fxOne * fxOne - v * v).toNat)
    F32.ofFx (fxAtan2 ⟨v, 0⟩ ⟨c, 0⟩) 0

/-- π, its nearest single-precision value (R470). -/
def F32.pi : F32 := 0x40490FDB

/-- 10 ^ (gain / 2000) for a gain in 0.01 dB: the quotient is rounded first (R470). -/
def F32.dbGain (g : Int) : F32 := F32.exp10 (F32.div (F32.ofInt g) (F32.ofInt 2000))

end Sys2Proof.Machine
end

