-- ==== Sys2Proof/Machine/Layout.lean ====
section
/-! DEFINITION. Directions, layout solves and panning laws (R34, R54 to R58, R64 to R70, R471), in single precision. -/

namespace Sys2Proof.Machine

/-- Sum of products `(a1 b1 + a2 b2) + a3 b3`, in the order of R471. -/
def U3.dot (a b : U3) : F32 :=
  F32.add (F32.add (F32.mul a.x b.x) (F32.mul a.y b.y)) (F32.mul a.z b.z)

/-- Cross product, each component `a b - c d` (R471). -/
def U3.cross (a b : U3) : U3 :=
  { x := F32.sub (F32.mul a.y b.z) (F32.mul a.z b.y),
    y := F32.sub (F32.mul a.z b.x) (F32.mul a.x b.z),
    z := F32.sub (F32.mul a.x b.y) (F32.mul a.y b.x) }

/-- Componentwise sum, difference, product by a number and quotient by a number. -/
def U3.add (a b : U3) : U3 := ⟨F32.add a.x b.x, F32.add a.y b.y, F32.add a.z b.z⟩
def U3.sub (a b : U3) : U3 := ⟨F32.sub a.x b.x, F32.sub a.y b.y, F32.sub a.z b.z⟩
def U3.scale (k : F32) (a : U3) : U3 := ⟨F32.mul k a.x, F32.mul k a.y, F32.mul k a.z⟩
def U3.ovr (a : U3) (k : F32) : U3 := ⟨F32.div a.x k, F32.div a.y k, F32.div a.z k⟩

/-- The length of a vector. -/
def U3.len (a : U3) : F32 := F32.sqrt (U3.dot a a)

/-- A position in mm as single-precision numbers. -/
def V3.toU (p : V3) : U3 := ⟨F32.ofInt p.x, F32.ofInt p.y, F32.ofInt p.z⟩

/-- A whole number in single precision. -/
def fN (n : Nat) : F32 := F32.ofInt n

/-- A fraction in single precision. -/
def fR (n : Int) (d : Nat) : F32 := F32.ofRat n d

/-- An angle given in degrees, in radians: `deg * π / 180`. -/
def fDeg (d : F32) : F32 := F32.div (F32.mul d F32.pi) (fN 180)

/-- The unit direction of an azimuth and elevation (R34). -/
def dirOf (az el : F32) : U3 :=
  ⟨(F32.mul (F32.sin az) (F32.cos el)).neg, F32.mul (F32.cos az) (F32.cos el), F32.sin el⟩

/-- Distance, azimuth and elevation of a point from the listening reference, given the previous direction (R34). -/
def polar (ref : V3) (p : U3) (az0 el0 : F32) : F32 × F32 × F32 :=
  let v := U3.sub p ref.toU
  let r := U3.len v
  if F32.lt r F32.one then (r, az0, el0)
  else if v.x.isZero && v.y.isZero then
    (r, az0, if v.z.neg? then F32.neg (fDeg (fN 90)) else fDeg (fN 90))
  else (r, F32.atan2 v.x.neg v.y, F32.asin (F32.div v.z r))

/-- The angle between two unit directions, in radians, from their chord. DEDUCED, log 73. -/
def angle (a b : U3) : F32 :=
  let d := U3.sub a b
  F32.mul (fN 2) (F32.asin (F32.div (F32.min (U3.len d) (fN 2)) (fN 2)))

/-- Whether two directions lie within `deg` degrees. -/
def within (a b : U3) (deg : F32) : Bool := F32.le (angle a b) (fDeg deg)

/-- The index with the smallest key, ties to the lower index. -/
def argMin (l : List (Nat × F32)) : Option Nat :=
  (l.foldl (fun (acc : Option (Nat × F32)) e =>
    match acc with
    | none => some e
    | some b => if F32.lt e.2 b.2 then some e else some b) none).map (·.1)

/-- Insert by a rising key. -/
def insKey (x : F32 × Nat) : List (F32 × Nat) → List (F32 × Nat)
  | [] => [x]
  | y :: t => if F32.lt x.1 y.1 then x :: y :: t else y :: insKey x t

/-! ### The solve (R55 to R57, R471) -/

/-- The members of a zone's layout, in ascending feed index (R54). -/
def layoutFeeds (feeds : SMap Feed) (z : Nat) : List (Nat × Feed) :=
  feeds.filter fun e => e.2.enable && !e.2.aux && !e.2.withdrawn && e.2.zone == z

/-- A real speaker with its direction, taken afresh in each solve (R34, R471). -/
def realSpeaker (ref : V3) (e : Nat × Feed) : Speaker :=
  let v := U3.sub e.2.pos.toU ref.toU
  let q := polar ref e.2.pos.toU 0 0
  { feed := some e.1, pos := e.2.pos, dir := if F32.lt q.1 F32.one then dirOf 0 0 else v.ovr v.len, az := q.2.1 }

/-- The distance of a feed from the listening reference. -/
def feedDist (ref : V3) (f : Feed) : F32 := (U3.sub f.pos.toU ref.toU).len

/-- Whether some two entries of a list stand in a relation. -/
def anyPair {α : Type} (p : α → α → Bool) : List α → Bool
  | [] => false
  | a :: t => t.any (p a) || anyPair p t

/-- The lowest reason for which a solve fails, 0 for none (Table PAV-2). -/
def solveReason (zn : Zone) (fs : List (Nat × Feed)) : Nat :=
  if zn.method = 0 then
    let far := fs.filter fun e => F32.lt F32.one (feedDist zn.ref e.2)
    let ds := far.map fun e => (realSpeaker zn.ref e).dir
    if anyPair (fun a b => F32.lt (angle a b) (fDeg F32.half)) ds then 1
    else if far.length < fs.length then 2 else 0
  else if anyPair (fun a b => decide (a.2.pos = b.2.pos)) fs then 3 else 0

/-- The virtual speakers across one gap of azimuth, evenly spaced with no spacing above 90° (R57). The order of the operations that
place them, and azimuths past 180° left as they come, are the model's. DESIGN CHOICE, log 73. -/
def gapSpeakers (az gap : F32) : List Speaker :=
  if F32.lt (fDeg (fN 120)) gap then
    let k := if F32.le gap (fDeg (fN 180)) then 1 else if F32.le gap (fDeg (fN 270)) then 2 else 3
    (List.range k).map fun j =>
      let a := F32.add az (F32.div (F32.mul gap (fN (j + 1))) (fN (k + 1)))
      { feed := none, dir := ⟨(F32.sin a).neg, F32.cos a, 0⟩ }
  else []

/-- Gaps between neighbours of a list of azimuths that rises, the last gap, `first + 2π - last`, closing the circle. DESIGN CHOICE,
log 73. -/
def gapsOf (first : F32) : List F32 → List (F32 × F32)
  | [] => []
  | [a] => [(a, F32.sub (F32.add first (F32.mul (fN 2) F32.pi)) a)]
  | a :: b :: t => (a, F32.sub b a) :: gapsOf first (b :: t)

/-- Virtual speakers of three or more real ones, in the order of R57. -/
def virtuals (real : List Speaker) : List Speaker :=
  let up : U3 := ⟨0, 0, F32.one⟩
  let dn : U3 := ⟨0, 0, F32.one.neg⟩
  let v1 : List Speaker := if real.any (fun s => within s.dir up (fN 20)) then [] else [{ feed := none, dir := up }]
  let v2 : List Speaker := if real.any (fun s => within s.dir dn (fN 20)) then [] else [{ feed := none, dir := dn }]
  let flat := real.filter fun s => F32.lt (F32.abs (F32.asin s.dir.z)) (fDeg (fN 45))
  let azs := ((flat.map fun s => (s.az, 0)).foldl (fun acc x => insKey x acc) []).map (·.1)
  let v3 : List Speaker :=
    match azs with
    | [] => [fN 0, fDeg (fN 90), F32.pi, (fDeg (fN 90)).neg].map fun a =>
        { feed := none, dir := ⟨(F32.sin a).neg, F32.cos a, 0⟩ }
    | a :: t => (gapsOf a (a :: t)).flatMap fun g => gapSpeakers g.1 g.2
  v1 ++ v2 ++ v3

/-- A stored single-precision number as an exact integer in units of 2^-149. -/
def exactI (x : F32) : Int := x.dy.m * 2 ^ (x.dy.e + 149).toNat

/-- A vector of exact integers. -/
def exactV (u : U3) : Int × Int × Int := (exactI u.x, exactI u.y, exactI u.z)

/-- Exact difference, cross product and dot product. -/
def xsub (a b : Int × Int × Int) : Int × Int × Int := (a.1 - b.1, a.2.1 - b.2.1, a.2.2 - b.2.2)
def xcross (a b : Int × Int × Int) : Int × Int × Int :=
  (a.2.1 * b.2.2 - a.2.2 * b.2.1, a.2.2 * b.1 - a.1 * b.2.2, a.1 * b.2.1 - a.2.1 * b.1)
def xdot (a b : Int × Int × Int) : Int := a.1 * b.1 + a.2.1 * b.2.1 + a.2.2 * b.2.2

/-- The exact vector of vertex `i`. -/
def vtx (ps : List (Int × Int × Int)) (i : Nat) : Int × Int × Int := nth (0, 0, 0) ps i

/-- The triangle that the hull gives on vertices `i < j < k`, with its orientation: `i` must come first among the vertices
of its face, and the other two must be an edge of the face's polygon (the fan of R471). -/
def hullTri (ps : List (Int × Int × Int)) (i j k : Nat) : Option (Nat × Nat × Nat) :=
  let pi := vtx ps i
  let nrm := xcross (xsub (vtx ps j) pi) (xsub (vtx ps k) pi)
  let side := fun q => xdot nrm (xsub (vtx ps q) pi)
  let idx := List.range ps.length
  if nrm == (0, 0, 0) then none
  else
    let below := idx.all fun q => decide (side q ≤ 0)
    let above := idx.all fun q => decide (side q ≥ 0)
    if !(below || above) || (below && above) then none
    else
      let face := idx.filter fun q => side q == 0
      let e := xsub (vtx ps k) (vtx ps j)
      let off := (face.filter fun q => q != j && q != k).map fun q =>
        xdot nrm (xcross e (xsub (vtx ps q) (vtx ps j)))
      let edge := off.all (fun d => decide (d > 0)) || off.all (fun d => decide (d < 0))
      if face.head? == some i && edge then some (if below then (i, j, k) else (i, k, j)) else none

/-- All triangles of the hull in ascending index (R471). -/
def hull (ps : List (Int × Int × Int)) : List (Nat × Nat × Nat) :=
  let n := ps.length
  (List.range n).flatMap fun i =>
    ((List.range n).filter (i < ·)).flatMap fun j =>
      ((List.range n).filter (j < ·)).filterMap fun k => hullTri ps i j k

/-- The stored inverse of a triangle (R471). -/
def mkTri (ds : List U3) (t : Nat × Nat × Nat) : Tri :=
  let l1 := nth {} ds t.1
  let l2 := nth {} ds t.2.1
  let l3 := nth {} ds t.2.2
  let det := U3.dot l1 (U3.cross l2 l3)
  { a := t.1, b := t.2.1, c := t.2.2,
    r1 := (U3.cross l2 l3).ovr det, r2 := (U3.cross l3 l1).ovr det, r3 := (U3.cross l1 l2).ovr det }

/-- The plane of two speakers: its basis and the inverse of the two directions in it (R56, R471). Opposite directions take
the plane with the z axis, or with the y axis where they lie on z. DEDUCED, log 74. -/
def mkPlane (l1 l2 : U3) : Plane :=
  let c := U3.dot l1 l2
  let w := U3.sub l2 (U3.scale c l1)
  let opposite := decide (exactV l1 = xsub (0, 0, 0) (exactV l2))
  let ax : U3 := if l1.x.isZero && l1.y.isZero then ⟨0, F32.one, 0⟩ else ⟨0, 0, F32.one⟩
  let w' := if opposite then U3.sub ax (U3.scale (U3.dot ax l1) l1) else w
  let e2 := w'.ovr w'.len
  let s := U3.dot l2 e2
  { e1 := l1, e2 := e2, i11 := F32.one, i12 := (F32.div c s).neg, i21 := 0, i22 := F32.div F32.one s }

/-- A successful solve of a zone's layout (R56, R57, R471). -/
def solve (zn : Zone) (fs : List (Nat × Feed)) : Layout :=
  let real := fs.map (realSpeaker zn.ref)
  if zn.method = 1 then { method := 1, spk := real }
  else if real.length < 2 then { spk := real }
  else if real.length = 2 then
    { spk := real, plane := some (mkPlane (nth {} (real.map (·.dir)) 0) (nth {} (real.map (·.dir)) 1)) }
  else
    let all := real ++ virtuals real
    let ds := all.map (·.dir)
    { spk := all, tris := (hull (ds.map exactV)).map (mkTri ds) }

/-- Whether two vertices share an edge of the hull, the fan's diagonals included. -/
def Layout.adjacent (l : Layout) (i j : Nat) : Bool :=
  i != j && l.tris.any fun t => [t.a, t.b, t.c].contains i && [t.a, t.b, t.c].contains j

/-- How many real, and how many virtual, speakers a layout holds. -/
def Layout.reals (l : Layout) : Nat := (l.spk.filter fun s => s.feed.isSome).length
def Layout.virtuals (l : Layout) : Nat := (l.spk.filter fun s => s.feed.isNone).length

/-! ### Panning laws -/

/-- Gains by place in the vertex order. -/
abbrev Vec := List F32

/-- A vector that is zero but at some places. -/
def vecAt (n : Nat) (at' : List (Nat × F32)) : Vec :=
  (List.range n).map fun i => (at'.find? fun e => e.1 == i).elim (0 : F32) (·.2)

/-- Scale to unit power: squares summed in ascending index, and each gain over the root; a vector that is all zero stays so (R64,
R65, R70). -/
def unitPower (v : Vec) : Vec :=
  let n := F32.sqrt (v.foldl (fun a g => F32.add a (F32.mul g g)) 0)
  if v.all F32.isZero then v else v.map fun g => F32.div g n

/-- The three gains of a triangle for a direction (R471). -/
def triGains (t : Tri) (u : U3) : F32 × F32 × F32 := (U3.dot t.r1 u, U3.dot t.r2 u, U3.dot t.r3 u)

/-- The smallest of three. -/
def min3 (g : F32 × F32 × F32) : F32 := F32.min (F32.min g.1 g.2.1) g.2.2

/-- A negative gain becomes 0. -/
def clip0 (g : F32) : F32 := if F32.lt g 0 then 0 else g

/-- The triangle that R64 uses for a direction. -/
def pickTri (ts : List Tri) (u : U3) : Option Tri :=
  match ts.find? fun t => F32.le (fR (-1) 100000) (min3 (triGains t u)) with
  | some t => some t
  | none =>
    ts.foldl (fun acc t =>
      match acc with
      | none => some t
      | some b => if F32.lt (min3 (triGains b u)) (min3 (triGains t u)) then some t else some b) none

/-- Panning on the arc of two speakers (R56). -/
def panTwo (p : Plane) (l1 l2 : U3) (u : U3) : Vec :=
  let x := U3.dot p.e1 u
  let y := U3.dot p.e2 u
  let root := F32.sqrt F32.half
  let q := U3.add (U3.scale x p.e1) (U3.scale y p.e2)
  let near : Vec :=
    let d1 := angle (q.ovr q.len) l1
    let d2 := angle (q.ovr q.len) l2
    if F32.lt d1 d2 then [F32.one, 0] else if F32.lt d2 d1 then [0, F32.one] else [root, root]
  if x.isZero && y.isZero then [root, root]
  else if exactV l1 == xsub (0, 0, 0) (exactV l2) then near
  else
    let g1 := F32.add (F32.mul p.i11 x) (F32.mul p.i12 y)
    let g2 := F32.add (F32.mul p.i21 x) (F32.mul p.i22 y)
    if F32.lt g1 0 && F32.lt g2 0 then near else unitPower [clip0 g1, clip0 g2]

/-- Vector-base panning of a unit direction (R56, R64). -/
def panVector (l : Layout) (u : U3) : Vec :=
  match l.spk, l.plane with
  | [], _ => []
  | [_], _ => [F32.one]
  | [s1, s2], some p => panTwo p s1.dir s2.dir u
  | spk, _ =>
    match pickTri l.tris u with
    | none => List.replicate spk.length 0
    | some t =>
      let (g1, g2, g3) := triGains t u
      let (g1, g2, g3) := (clip0 g1, clip0 g2, clip0 g3)
      let n := F32.sqrt (F32.add (F32.add (F32.mul g1 g1) (F32.mul g2 g2)) (F32.mul g3 g3))
      vecAt spk.length [(t.a, F32.div g1 n), (t.b, F32.div g2 n), (t.c, F32.div g3 n)]

/-- The squared distance of a speaker from a point. -/
def dist2 (p : U3) (s : Speaker) : F32 := let v := U3.sub p s.pos.toU; U3.dot v v

/-- The places of the `n` smallest keys, ties to the lower place. -/
def smallest (n : Nat) (keys : List (F32 × Nat)) : List Nat :=
  ((keys.foldl (fun acc x => insKey x acc) []).take n).map (·.2)

/-- Distance-based panning of a point, over candidates that exclusion leaves (R65, R69). -/
def panDistance (l : Layout) (rho : Nat) (bb : F32) (dense : Bool) (excl : Nat → Bool) (p : U3) : Vec :=
  let keys := ((l.spk.zipIdx).filter fun e => !excl e.2).map fun e => (dist2 p e.1, e.2)
  let cand := if dense then keys.map (·.2) else smallest 64 keys
  let a := F32.div (fN rho) (fR 60206 100)
  let dOf := fun i => F32.sqrt (F32.add (dist2 p (nth { feed := none, dir := {} } l.spk i)) (F32.mul bb bb))
  let zero := if rho = 0 then none else cand.find? fun i => (dOf i).isZero
  unitPower ((List.range l.spk.length).map fun i =>
    if !cand.contains i then 0
    else match zero with
      | some j => if i = j then F32.one else 0
      | none => F32.pow (dOf i) a.neg)

/-- Power sum of weighted vectors: `sqrt (Σ weight * g²)` (R66, R67). -/
def powerSum (n : Nat) (vs : List (F32 × Vec)) : Vec :=
  (List.range n).map fun i =>
    F32.sqrt (vs.foldl (fun acc e => let g := nth 0 e.2 i; F32.add acc (F32.mul e.1 (F32.mul g g))) 0)

/-- The 19 directions of a spread source (R67). -/
def spreadDirs (u : U3) (az el theta : F32) : List U3 :=
  let e1 : U3 := ⟨(F32.cos az).neg, (F32.sin az).neg, 0⟩
  let e2 : U3 := ⟨F32.mul (F32.sin az) (F32.sin el), (F32.mul (F32.cos az) (F32.sin el)).neg, F32.cos el⟩
  let at' := fun (beta phi : F32) =>
    U3.add (U3.scale (F32.cos beta) u)
      (U3.scale (F32.sin beta) (U3.add (U3.scale (F32.cos phi) e1) (U3.scale (F32.sin phi) e2)))
  u :: ((List.range 6).map fun i => at' (F32.div theta (fN 2)) (fDeg (fN (60 * i))))
    ++ ((List.range 12).map fun i => at' theta (fDeg (fN (30 * i))))

/-- A Q0.16 parameter as a number: the top code stands for 1 (R7). -/
def q16 (v : Nat) : F32 := if v ≥ 65535 then F32.one else fR v 65536

/-- The divergence sources of an object: direction, azimuth and power weight (Table PAV-4). -/
def sources (u : U3) (az el : F32) (delta : Nat) : List (U3 × F32 × F32) :=
  if delta = 0 then [(u, az, F32.one)]
  else
    let d := q16 delta
    let turn := F32.mul (fDeg (fN 90)) d
    let l := F32.add az turn
    let r := F32.sub az turn
    [(u, az, F32.sub F32.one d), (dirOf l el, l, F32.div d (fN 2)), (dirOf r el, r, F32.div d (fN 2))]

/-- Whether region `k` holds a position, bounds included (R69). -/
def Excl.holds (e : Excl) (p : V3) : Bool :=
  e.on && decide (e.lo.x ≤ p.x) && decide (p.x ≤ e.hi.x) && decide (e.lo.y ≤ p.y) && decide (p.y ≤ e.hi.y)
    && decide (e.lo.z ≤ p.z) && decide (p.z ≤ e.hi.z)

/-- Whether an object's mask excludes a speaker (R69). -/
def excluded (zn : Zone) (mask : Nat) (s : Speaker) : Bool :=
  s.feed.isSome && (zn.excl.zipIdx).any fun e => decide (mask / 2 ^ e.2 % 2 = 1) && e.1.holds s.pos

/-- Add to each of some places a share of a power: `g = sqrt (g² + gv² / k)` (R58, R69). -/
def share (v : Vec) (nb : List Nat) (gv : F32) : Vec :=
  v.zipIdx.map fun e =>
    if nb.contains e.2 then
      F32.sqrt (F32.add (F32.mul e.1 e.1) (F32.div (F32.mul gv gv) (fN nb.length)))
    else e.1

/-- The real speaker nearest in angle to a place, among some (R58, R69). -/
def nearestTo (l : Layout) (d : U3) (ok : Nat → Bool) : List Nat :=
  (argMin ((l.spk.zipIdx).filterMap fun e =>
    if e.1.feed.isSome && ok e.2 then some (e.2, angle e.1.dir d) else none)).toList

/-- Fold the speaker at place `x` into its neighbours that `ok` admits. -/
def foldOne (l : Layout) (ok : Nat → Bool) (v : Vec) (x : Nat) : Vec :=
  let gv := nth 0 v x
  if gv.isZero then v
  else
    let real := fun j => (nth { feed := none, dir := {} } l.spk j).feed.isSome && ok j
    let nb := (List.range l.spk.length).filter fun j => l.adjacent x j && real j
    let nb := if nb.isEmpty then nearestTo l (nth { feed := none, dir := {} } l.spk x).dir ok else nb
    (share v nb gv).set x 0

/-- The virtual fold (R58), in the order of R57. -/
def foldVirtual (l : Layout) (v : Vec) : Vec :=
  ((l.spk.zipIdx).filter fun e => e.1.feed.isNone).foldl (fun v e => foldOne l (fun _ => true) v e.2) v

/-- The exclusion fold of vector-base panning, in feed order (R69). -/
def foldExcluded (l : Layout) (ex : Nat → Bool) (v : Vec) : Vec :=
  ((List.range l.spk.length).filter ex).foldl (fun v x => foldOne l (fun j => !ex j) v x) v

/-- Truncation of a sparse object's vector to its 64 largest gains, ties to the lower feed (R70): the vector, and whether a
non-zero gain was discarded. -/
def truncate64 (v : Vec) : Vec × Bool :=
  let keep := smallest 64 (v.zipIdx.map fun e => (F32.neg e.1, e.2))
  let w := v.zipIdx.map fun e => if keep.contains e.2 then e.1 else (0 : F32)
  (w, v.zipIdx.any fun e => !keep.contains e.2 && !e.1.isZero)

/-- Snap (R68): the speaker an object is snapped to, in one layout, given the one it was snapped to. -/
def snapTo (l : Layout) (zn : Zone) (o : Obj) (u : U3) (was : Option Nat) : Option Nat :=
  if !o.snap then none
  else
    let spk := (l.spk.zipIdx).filter fun e => e.1.feed.isSome && !excluded zn o.exclMask e.1
    let tol := fDeg (fR o.snapTol 100)
    let near := spk.filterMap fun e =>
      let a := angle e.1.dir u
      if F32.le a tol then some (e.1.feed.getD 0, a) else none
    match was.bind fun w => near.find? fun e => e.1 == w with
    | some cur =>
      match argMin (near.filter fun e => F32.le (F32.add e.2 (fDeg F32.one)) cur.2) with
      | some f => some f
      | none => some cur.1
    | none => argMin near

/-- The panning vector of an object in one layout, steps 5 to 9 of Table PAV-3: the new snap state, the gains by feed,
whether truncation discarded a gain, and whether every speaker is excluded. -/
def panObject (l : Layout) (zn : Zone) (o : Obj) (p : U3) (r az el : F32) (was : Option Nat) :
    Option Nat × List (Nat × F32) × Bool × Bool :=
  let v := U3.sub p zn.ref.toU
  let u := if F32.lt r F32.one then dirOf az el else v.ovr r
  let n := l.spk.length
  let ex := fun i => excluded zn o.exclMask (nth { feed := none, dir := {} } l.spk i)
  let reals := (List.range n).filter fun i => (nth { feed := none, dir := {} } l.spk i).feed.isSome
  let allEx := !reals.isEmpty && reals.all ex
  let byFeed := fun (w : Vec) => (w.zipIdx).filterMap fun e =>
    ((nth { feed := none, dir := {} } l.spk e.2).feed).bind fun f => if e.1.isZero then none else some (f, e.1)
  let snapped := snapTo l zn o u was
  match snapped with
  | some f => (some f, [(f, F32.one)], false, false)
  | none =>
    if allEx then (none, [], false, true)
    else
      let srcs := sources u az el o.diverge
      let one := fun (src : U3 × F32 × F32) =>
        if l.method = 1 then
          let at' := if src.1 == u then p else U3.add zn.ref.toU (U3.scale r src.1)
          panDistance l zn.rho (F32.add (fN zn.blur) (F32.mul (q16 o.spread) r)) o.dense ex at'
        else if o.spread = 0 then panVector l src.1
        else
          let dirs := spreadDirs src.1 src.2.1 el (F32.mul F32.pi (q16 o.spread))
          powerSum n (dirs.map fun d => (fR 1 19, panVector l d))
      let g := match srcs with
        | [s] => one s
        | _ => powerSum n (srcs.map fun s => (s.2.2, one s))
      let g := if l.method = 1 then g else foldExcluded l ex (foldVirtual l g)
      let (g, cut) := if o.dense then (g, false) else truncate64 g
      (none, byFeed (unitPower g), cut, false)

/-- The crossfade of two panning vectors at `w = j / L` (R61), over the feeds of either. -/
def layoutMix (j len : Nat) (old new : List (Nat × F32)) : List (Nat × F32) :=
  let w := F32.div (fN j) (fN len)
  let of := fun (v : List (Nat × F32)) f => (v.find? fun e => e.1 == f).elim (0 : F32) (·.2)
  let fs := (old ++ new).foldl (fun (acc : SMap Unit) e => mset acc e.1 ()) []
  fs.map fun e =>
    let a := of old e.1
    let b := of new e.1
    (e.1, F32.sqrt (F32.add (F32.mul (F32.mul (F32.sub F32.one w) a) a) (F32.mul (F32.mul w b) b)))

end Sys2Proof.Machine
end

