-- ==== Sys2Proof/Machine/Pavilion.lean ====
section
/-! DEFINITION. Pavilion's work on one object and one block: position, delay target, air absorption, gains (R38 to R40,
R63, R71 to R80), in single precision and in the order of Table PAV-3. -/

namespace Sys2Proof.Machine

/-- A sample period in units of 1/3 ns: 62500 at 48 kHz and 31250 at 96 kHz. -/
def tsUnits (rate96 : Bool) : Nat := if rate96 then 31250 else 62500

/-- The render rate in Hz. -/
def fsHz (rate96 : Bool) : Nat := if rate96 then 96000 else 48000

/-- B(n) in units of 1/3 ns from the epoch: `16 (n + 1) ts` (R47). -/
def boundaryUnits (rate96 : Bool) (n : Nat) : Nat := 16 * (n + 1) * tsUnits rate96

/-- The mid-time of block `b`, which is `B(b) - T/2` (R17). -/
def midUnits (rate96 : Bool) (b : Nat) : Int := (boundaryUnits rate96 b : Int) - 8 * tsUnits rate96

/-- A span of 1/3 ns units in seconds, rounded once to single precision. -/
def fSec (d : Int) : F32 := F32.ofRat d 3000000000

/-- The velocity of R40, in mm/s. -/
def velOf (o : Obj) (held : List PosSample) : U3 :=
  if o.velMode = 1 then o.vel.toU
  else match held.reverse with
    | [] => {}
    | p2 :: t =>
      match t.find? fun p1 => decide (p2.t - p1.t ≥ 3000000) with
      | none => {}
      | some p1 => (U3.sub p2.pos.toU p1.pos.toU).ovr (fSec (p2.t - p1.t))

/-- The position of an object at mid-time `m` (R38). Where none was evaluated for the previous block, `prev` is the last one that was,
with its own time, or else the position parameter at `m`. DESIGN CHOICE, log 75. -/
def evalPos (o : Obj) (rt : ObjRt) (m : Int) : U3 :=
  let held := rt.held
  let prev : U3 × Int := if rt.hasPrev then (rt.prevPos, rt.prevT) else (o.pos.toU, m)
  let atOr := fun (s : Option PosSample) => match s with
    | some a => (a.pos.toU, a.t)
    | none => prev
  match held.find? fun s => decide (s.t > m) with
  | some b =>
    let a := atOr ((held.filter fun s => decide (s.t ≤ m)).getLast?)
    let k := fSec (m - a.2)
    let d := fSec (b.t - a.2)
    let go := fun (x y : F32) => F32.add x (F32.div (F32.mul (F32.sub y x) k) d)
    let q := b.pos.toU
    ⟨go a.1.x q.x, go a.1.y q.y, go a.1.z q.z⟩
  | none =>
    let a := atOr held.getLast?
    let h := fSec (min (m - a.2) 300000000)
    U3.add a.1 (U3.scale h (velOf o held))

/-- The delay target in samples, before the limits: `r / c * fs` (R78). -/
def delayTarget (zn : Zone) (fs : Nat) (r : F32) : F32 := F32.mul (F32.div r (fN zn.c)) (fN fs)

/-- The limits of Table PAV-5: the target clamped, and whether the upper limit acts (R80). -/
def clampDelay (ext : Bool) (d : F32) : F32 × Bool :=
  let hi := fN (if ext then 131072 else 4091)
  if F32.lt d (fN 4) then (fN 4, false) else if F32.lt hi d then (hi, true) else (d, false)

/-- The air-absorption coefficient for a distance, Q1.31 (R77). -/
def airCoef (zn : Zone) (fs : Nat) (r : F32) : Int :=
  let a := F32.min (F32.mul (F32.div (fN zn.alpha) (fN 1000)) (F32.div r (fN 1000))) (fN 60)
  if a.isZero then 0
  else
    let fc := F32.div (fN 10000) (F32.sqrt (F32.sub (F32.exp10 (F32.div a (fN 20))) F32.one))
    if F32.le (F32.mul (fR 45 100) (fN fs)) fc then 0
    else (F32.exp (F32.div (F32.mul (F32.mul (F32.ofInt (-2)) F32.pi) fc) (fN fs))).toFix 32 31

/-- The distance gain (R71). -/
def distGain (o : Obj) (r : F32) : F32 :=
  let ref := fN o.distRef
  let k := fN (max o.knee o.distRef)
  if o.distModel = 0 || F32.le r ref then F32.one
  else if o.distModel = 1 || F32.le r k then F32.div ref r
  else F32.div (F32.mul ref k) (F32.mul r r)

/-- A KCP gain as a number, 0 for mute (R9, R72). -/
def kcpGain (g : Int) : F32 := if g = -32768 then 0 else F32.dbGain g

/-- A single-precision gain as Q5.27. -/
def gainQ (g : F32) : Int := g.toFix 32 27

/-- One smoothed gain's next block (R75), from its raw target. -/
def smoothGain (s : Nat) (g : GainSt) (raw : F32) : GainSt :=
  if s < 2 then { aim := raw, step := 0, tgt := raw, left := 0, prevQ := g.tgtQ, tgtQ := gainQ raw }
  else
    let (aim, step, left) :=
      if raw == g.aim then (g.aim, g.step, g.left)
      else (raw, F32.div (F32.sub raw g.tgt) (fN s), s)
    let (tgt, left) :=
      if left > 0 then (if left = 1 then (aim, 0) else (F32.add g.tgt step, left - 1)) else (aim, left)
    { aim := aim, step := step, tgt := tgt, left := left, prevQ := g.tgtQ, tgtQ := gainQ tgt }

/-- Whether a gain has left nothing to move. -/
def GainSt.idle (g : GainSt) : Bool := g.tgt.isZero && g.aim.isZero && g.left == 0 && g.prevQ == 0 && g.tgtQ == 0

/-- Move a row's gains to a block's raw targets. -/
def nextGains (s : Nat) (old : SMap GainSt) (raw : List (Nat × F32)) : SMap GainSt :=
  let keys := (old.map fun e => e.1) ++ raw.map fun e => e.1
  let merged := keys.foldl (fun (acc : SMap GainSt) f =>
    if mhas acc f then acc
    else mset acc f (smoothGain s (mget {} old f) ((raw.find? fun e => e.1 == f).elim (0 : F32) (·.2)))) []
  merged.filter fun e => !e.2.idle

/-- Gains whose ramp starts at their target (R98). DEDUCED, log 79. -/
def startAtTarget (g : SMap GainSt) : SMap GainSt := g.map fun e => (e.1, { e.2 with prevQ := e.2.tgtQ })

/-- The gains of the last block held, with no ramp (R85). -/
def holdGains (g : SMap GainSt) : SMap GainSt := g.map fun e => (e.1, { e.2 with tgtQ := e.2.prevQ })

/-- What a block of Pavilion's work on an object raises beside its results. -/
structure PavFlags where
  trunc : Bool := false
  clamp : Bool := false
  clampBegins : Bool := false
  slew : Bool := false
  deriving DecidableEq, Repr

/-- The delay of an object with Doppler on for block `b` (R78, R80 to R83): the first block after assignment or after
Doppler comes on starts at its target, a large change jumps, and every other slews. -/
def delayStep (zn : Zone) (rt : ObjRt) (b : Nat) (d : F32) : ObjRt × Bool :=
  let diff := F32.sub d rt.dPrev
  if rt.assigned || (rt.dopOn && rt.dopFade == some b) then ({ rt with dPrev := d, dTgt := d }, false)
  else if rt.place.isSome && rt.place.map (·.start) == some b then ({ rt with dPrev := d, dTgt := d }, false)
  else if rt.jump.isSome || rt.place.isSome then ({ rt with dTgt := rt.dPrev }, false)
  else if zn.jump ≠ 0 && F32.lt (fN zn.jump) diff.abs then
    ({ rt with jump := some { start := b, oldD := rt.dPrev }, dPrev := d, dTgt := d }, false)
  else ({ rt with dTgt := d }, F32.lt (fN 8) diff.abs)

/-- Pavilion's work on an object of an enabled zone for block `b` (Table PAV-3). `j` is the block's place in a running
layout crossfade, from 1. -/
def pavObject (zn : Zone) (zr : ZoneRt) (j : Nat) (o : Obj) (rt : ObjRt) (rate96 : Bool) (b : Nat) : ObjRt × PavFlags :=
  let fs := fsHz rate96
  let m := midUnits rate96 b
  let rt := { rt with held := rt.held.map fun s => if s.untimed then { s with t := m, untimed := false } else s }
  let p := evalPos o rt m
  let (r, az, el) := polar zn.ref p rt.az rt.el
  let (d, clamp0) := clampDelay o.ext (delayTarget zn fs r)
  let clamp := clamp0 && rt.dopOn
  let (rt1, slew) := if rt.dopOn then delayStep zn rt b d else ({ rt with dPrev := d, dTgt := d }, false)
  let gd := distGain o r
  let live := panObject zr.live zn o p r az el rt.snapLive
  let old := zr.outgoing.map fun l => panObject l zn o p r az el rt.snapOut
  let vec := match old with
    | some ov => layoutMix j zn.xfade ov.2.1 live.2.1
    | none => live.2.1
  let base := F32.mul (kcpGain o.gain) gd
  let gains := vec.map fun e => (e.1, F32.mul base e.2)
  let gains := if rt.shed then [] else gains
  let wide := !o.dense && o.spread ≠ 0
  let s2 := F32.div (q16 o.spread) (fN 2)
  let dir := if wide then gains.map fun e => (e.1, F32.mul e.2 (F32.sqrt (F32.sub F32.one s2))) else gains
  let dif := if wide then gains.map fun e => (e.1, F32.mul e.2 (F32.sqrt s2)) else []
  let prior := fun (g : SMap GainSt) => if rt.fromZero then [] else g
  let atTgt := rt.atTarget && !rt.fromZero
  let s := if rt.shed || rt.unshed || atTgt then 1 else o.smooth
  let direct := nextGains s (prior rt.direct) dir
  let diffuse := nextGains s (prior rt.diffuse) dif
  let fin := fun g => if atTgt then startAtTarget g else g
  ({ rt1 with
      prevPos := p, prevT := m, hasPrev := true, az := az, el := el,
      snapLive := live.1, snapOut := (old.map (·.1)).join,
      airPrev := rt.airA, airA := if o.air then airCoef zn fs r else 0,
      direct := fin direct, diffuse := fin diffuse,
      fromZero := false, atTarget := false, unshed := false, assigned := false,
      excludedAll := live.2.2.2, clamped := clamp },
   { trunc := live.2.2.1 || (old.map (·.2.2.1)).getD false, clamp := clamp,
     clampBegins := clamp && !rt.clamped, slew := slew })

/-! ### Check words (R85) -/

/-- A word that a check covers, little-endian. -/
def chkWord (x : Int) : List Byte := leBytes 4 (BitVec.ofInt 32 x).toNat

/-- The entries of a gain list: feed and target. -/
def listBytes (g : SMap GainSt) : List Byte := (g.map fun e => leBytes 4 e.1 ++ chkWord e.2.tgtQ).flatten

/-- The check word of a gain list: CRC-32C over the object index, the block number and the entries. DESIGN CHOICE, log 196. -/
def listCheck (o b : Nat) (r : ObjRt) : Word := crc32c (leBytes 4 o ++ leBytes 8 b ++ listBytes r.direct ++ listBytes r.diffuse)

/-- The check word of the propagation parameters. DESIGN CHOICE, log 196. -/
def parCheck (o b : Nat) (r : ObjRt) : Word := crc32c (leBytes 4 o ++ leBytes 8 b ++ leBytes 4 r.dTgt.toNat ++ chkWord r.airA)

/-- Pavilion's results for block `b` carry their check words. -/
def ObjRt.stamp (r : ObjRt) (o b : Nat) : ObjRt := { r with listChk := listCheck o b r, parChk := parCheck o b r }

/-! ### The decorrelator (R73, R141) -/

/-- One shift of the 32-bit Fibonacci register with taps 32, 22, 2, 1: the feedback enters at bit 0. DEDUCED, log 72. -/
def lfsr32 (r : Word) : Word :=
  let fb := (r.getLsbD 31).xor ((r.getLsbD 21).xor ((r.getLsbD 1).xor (r.getLsbD 0)))
  (r <<< 1) ||| (if fb then 1 else 0)

/-- The register after `n` shifts. -/
def lfsrN (r : Word) (n : Nat) : Word := Nat.rec r (fun _ x => lfsr32 x) n

/-- The six sections that a seed gives (R73). -/
def decorrelator (seed : Word) : List Biq :=
  let start : Word := if seed = 0 then 1 else seed
  let draw := fun (k : Nat) => F32.ofRat (lfsrN start (32 * (k + 1))).toNat (2 ^ 32)
  (List.range 6).map fun i =>
    let th := F32.div (F32.mul F32.pi (F32.add (fN i) (draw (2 * i)))) (fN 6)
    let r := F32.add F32.half (F32.mul (fR 4 10) (draw (2 * i + 1)))
    let a1 := (F32.mul (F32.mul (F32.ofInt (-2)) r) (F32.cos th)).toFix 32 30
    let a2 := (F32.mul r r).toFix 32 30
    { b0 := a2, b1 := a1, b2 := 0x40000000, a1 := a1, a2 := a2 }

end Sys2Proof.Machine
end

