-- ==== Sys2Proof/Machine/Chain.lean ====
section
/-! DEFINITION. The arithmetic of the object chain, the matrix and the feed chain over one block of 16 samples (R74, R77 to
R84, R90, R97 to R109, R475), and a channel-block with its Carat (R365). Samples and gains are integers in Q5.27. -/

namespace Sys2Proof.Machine

/-- Round a product to Q5.27 from `f` more fraction bits, to nearest with ties to even, and saturate. -/
def roundQ (f : Nat) (x : Int) : Int := sat 32 (shrEven x f)

/-- The gain at sample `k` of a ramp over `n` samples (R74). -/
def rampN (n : Nat) (p t : Int) (k : Nat) : Int := p + divEven ((t - p) * (k + 1)) n

/-- The gain at sample `k` of a block. -/
def ramp (p t : Int) (k : Nat) : Int := rampN 16 p t k

/-- The weights of a crossfade at position `t`, (old, new) in Q2.30 (R97). -/
def xweights (equalGain : Bool) (n t : Nat) : Int × Int :=
  if t + 1 ≥ n then (0, 0x40000000)
  else
    let w := F32.div (fN (t + 1)) (fN n)
    let q := fun (x : F32) => (F32.max 0 (F32.min F32.one x)).toFix 32 30
    if equalGain then (q (F32.sub F32.one w), q w)
    else
      let a := F32.div (F32.mul F32.pi w) (fN 2)
      (q (F32.cos a), q (F32.sin a))

/-- Two samples under weights. -/
def mixW (w : Int × Int) (a b : Int) : Int := roundQ 30 (w.1 * a + w.2 * b)

/-- The position in samples of sample `k` of block `b` in a crossfade that starts at block `s`. -/
def xpos (s b k : Nat) : Nat := 16 * (b - s) + k

/-- Sixteen samples by a function. -/
def block16 (f : Nat → Int) : List Int := (List.range 16).map f

/-- A channel-block with a valid Carat, or with the complement of it (R365, R367). -/
def mkBlk (chan num : Nat) (smp : List Int) : Blk :=
  { num := num, carat := carat chan num (smp.map (BitVec.ofInt 32)), smp := smp }

/-- A poisoned block (R367). -/
def poison (b : Blk) : Blk := { b with carat := ~~~b.carat }

/-- A check's result (R368). -/
inductive Check where
  | good | poisoned | failed
  deriving DecidableEq, Repr

/-- Check a stored block against the block number the consumer expects (R368). -/
def checkBlk (chan num : Nat) : Option Blk → Check
  | none => .failed
  | some b =>
    let c := carat chan num (b.smp.map (BitVec.ofInt 32))
    if b.num ≠ num then .failed else if b.carat = c then .good else if b.carat = ~~~c then .poisoned else .failed

/-- Channel identifiers (R366). -/
def chId (stage index : Nat) : Nat := stage * 2 ^ 28 + index

/-! ### Biquads (R103) -/

/-- One sample of a section: its state, its output, and whether it saturated. -/
def biqStep (c : Biq) (s : BiqSt) (x : Int) : BiqSt × Int × Bool :=
  let acc := c.b0 * x + c.b1 * s.x1 + c.b2 * s.x2 - shrEven (c.a1 * s.y1) 30 - shrEven (c.a2 * s.y2) 30
  let y := sat 72 acc
  ({ x1 := x, x2 := s.x1, y1 := y, y2 := s.y1 }, roundQ 30 y, saturates 72 acc || saturates 32 (shrEven y 30))

/-- One sample through a cascade. -/
def biqCascade : List Biq → List BiqSt → Int → List BiqSt × Int × Bool
  | c :: cs, s :: ss, x =>
    let (s', y, f) := biqStep c s x
    let (ss', z, g) := biqCascade cs ss y
    (s' :: ss', z, f || g)
  | _, ss, x => (ss, x, false)

/-- A block through a cascade. -/
def biqBlock (cs : List Biq) (ss : List BiqSt) : List Int → List BiqSt × List Int × Bool
  | [] => (ss, [], false)
  | x :: t =>
    let (s1, y, f) := biqCascade cs ss x
    let (s2, ys, g) := biqBlock cs s1 t
    (s2, y :: ys, f || g)

/-! ### The fractional delay (R79) -/

/-- The modified Bessel function of order 0 of `7 sqrt q`, fixed point: its series in `49 q / 4`. -/
def bessel7 (q : Int) : Int :=
  let u := 49 * q / 4
  (Nat.rec (fxOne, fxOne) (fun k st =>
    let p := fxMul st.1 u / (((k : Int) + 1) * ((k : Int) + 1)); (p, st.2 + p)) 80 : Int × Int).2

/-- The window-sinc value `h (j - p/256)` up to the common factor 1 / I0(7), fixed point. -/
def sincTap (p : Nat) (j : Int) : Int :=
  let num := 256 * j - p
  let t := num * fxOne / 256
  let sinc := if num = 0 then fxOne else fxDiv (fxSin (fxMul fxPi t)) (fxMul fxPi t)
  let q := fxOne - fxMul t t / 16
  fxMul sinc (bessel7 (if q < 0 then 0 else q))

/-- The eight Q2.30 coefficients of a phase, adjusted to sum to 1 (R79). DEDUCED, log 70. -/
def phaseCoefs (p : Nat) : List Int :=
  let h := (List.range 8).map fun (i : Nat) => sincTap p ((i : Int) - 3)
  let tot := isum h
  let c := h.map fun x => divEven (x * 2 ^ 30 * (if tot < 0 then -1 else 1)) tot.natAbs
  let rest := 2 ^ 30 - isum c
  let best := (c.zipIdx).foldl (fun (b : Nat × Nat) e => if e.1.natAbs > b.1 then (e.1.natAbs, e.2) else b) (0, 0)
  (c.zipIdx).map fun e => if e.2 = best.2 then e.1 + rest else e.1

/-- The phase and whole part of a delay: nearest of 256 steps, ties to the even phase (R79). -/
def phaseOf (d : F32) : Nat × Nat :=
  let e := d.dy.e + 8
  let steps := (if e ≥ 0 then d.dy.m * 2 ^ e.toNat else divEven d.dy.m (2 ^ (-e).toNat)).toNat
  (steps / 256, steps % 256)

/-- Read a line, newest first, at a fractional delay. -/
def readTap (line : List Int) (d : F32) : Int :=
  let (n0, ph) := phaseOf d
  roundQ 30 (sat 72 (isum (((phaseCoefs ph).zipIdx).map fun e => e.1 * nth 0 line (n0 + e.2 - 3))))

/-! ### The object chain -/

/-- The delay at sample `k` of the block (R78). -/
def delayAt (rt : ObjRt) (k : Nat) : F32 :=
  let diff := F32.sub rt.dTgt rt.dPrev
  let step := F32.max (F32.ofInt (-8)) (F32.min (fN 8) diff)
  F32.add rt.dPrev (F32.div (F32.mul step (fN (k + 1))) (fN 16))

/-- The delayed or undelayed signal at sample `k` of block `b`, the line holding sample `k` as its newest (R78 to R83). -/
def objTap (rt : ObjRt) (b k : Nat) (x : Int) (line : List Int) : Int :=
  let cur := readTap line (delayAt rt k)
  let tap := match rt.place, rt.jump with
    | some f, _ => mixW (xweights false 64 (xpos f.start b k)) (readTap line f.oldD) cur
    | none, some f => mixW (xweights false 64 (xpos f.start b k)) (readTap line f.oldD) cur
    | none, none => cur
  match rt.dopFade with
  | some s =>
    let w := xweights false 64 (xpos s b k)
    if rt.dopOn then mixW w x tap else mixW w tap x
  | none => if rt.dopOn then tap else x

/-- One air-absorption section, one sample: `(1 - a) x + a y`, the coefficient in Q1.31 (R77). -/
def airStep (a x y : Int) : Int := if a = 0 then x else roundQ 31 ((2 ^ 31 - a) * x + a * y)

/-- The line length in force (Table PAV-5). -/
def lineLen (rt : ObjRt) : Nat := if rt.extOn || rt.place.isSome then 131080 else 4096

/-- The line after a sample, newest first. A write that is lost leaves what its place held (R84). -/
def pushLine (rt : ObjRt) (lost : Bool) (x : Int) : List Int :=
  ((if lost then nth 0 rt.line (lineLen rt - 1) else x) :: rt.line).take (lineLen rt)

/-- The object chain of one block: line, delay, air absorption. -/
def objDirect (rt : ObjRt) (b : Nat) (late lost : Bool) : Nat → List Int → ObjRt × List Int
  | _, [] => (rt, [])
  | k, x :: t =>
    let line := pushLine rt lost x
    let v := if late then 0 else objTap rt b k x line
    let y1 := airStep rt.airA v rt.air1
    let y2 := airStep rt.airA y1 rt.air2
    let (rt', ys) := objDirect { rt with line := line, air1 := y1, air2 := y2 } b late lost (k + 1) t
    (rt', (if late then 0 else y2) :: ys)

/-- The object chain of block `b` on its input (R78 to R84, R98): the object as it then runs, its direct row and, where the
decorrelator runs, its diffuse row. `wide` says whether either side of a route crossfade has a diffuse row. -/
def objChain (rt : ObjRt) (b : Nat) (late lost wide : Bool) (src : List Int) : ObjRt × List Int × Option (List Int) :=
  let (rt1, dir) := objDirect { rt with pre := src } b late lost 0 src
  let rt2 := { rt1 with dPrev := if rt.dopOn || rt.dopFade.isSome then delayAt rt 15 else rt.dTgt }
  if wide then
    let st := if rt2.decoSt.isEmpty then List.replicate 6 ({} : BiqSt) else rt2.decoSt
    let (st', dif, _) := biqBlock rt2.deco st dir
    ({ rt2 with decoSt := st' }, dir, some (if late then block16 fun _ => 0 else dif))
  else ({ rt2 with decoSt := [] }, dir, none)

/-- An object that renders nothing: its line alone is written (R81). -/
def lineOnly (rt : ObjRt) (lost : Bool) (src : List Int) : ObjRt := src.foldl (fun r x => { r with line := pushLine r lost x }) rt

/-- The object-chain input under a change of source (R98): the old source under the old weight and the new under the new. -/
def mixSource (xf : Option Xfade) (b : Nat) (old new : List Int) : List Int :=
  match xf with
  | none => new
  | some x => block16 fun k => mixW (xweights x.equalGain x.n (xpos x.start b k)) (nth 0 old k) (nth 0 new k)

/-! ### The matrix (R89, R90, R98) -/

/-- A gain under a crossfade weight, rounded to Q5.27 before the multiply (R90). -/
def weigh (w g : Int) : Int := if w = 0x40000000 then g else roundQ 30 (w * g)

/-- The weights of an object's route crossfade at a sample, full on the new side where none runs. -/
def xfAt (xf : Option Xfade) (b k : Nat) : Int × Int :=
  match xf with
  | none => (0, 0x40000000)
  | some x => xweights x.equalGain x.n (xpos x.start b k)

/-- A held gain of an object: under R41 it too ramps to mute over one block. -/
def heldGain (rt : ObjRt) (b k : Nat) (g : Int) : Int := if !rt.shed then g else if rt.shedAt = b then ramp g 0 k else 0

/-- The products of an object's panned rows toward a feed at sample `k`. -/
def rowTerm (rt : ObjRt) (b f k : Nat) (dir dif : List Int) : Int :=
  let w := if rt.xfPan then xfAt rt.xf b k else (0, 0x40000000)
  let g := fun (row : SMap GainSt) => let s := mget {} row f; weigh w.2 (ramp s.prevQ s.tgtQ k)
  let o := fun (row : SMap Int) => weigh w.1 (heldGain rt b k (mget 0 row f))
  (g rt.direct + o rt.oldDirect) * nth 0 dir k + (g rt.diffuse + o rt.oldDiffuse) * nth 0 dif k

/-- A column of the matrix at sample `k` before rounding, saturated once to the accumulator's 72 bits (R90). DESIGN CHOICE, log 195. -/
def columnAcc (terms : List Int) : Int := sat 72 (isum terms)

/-- The rounded column and whether it saturated. -/
def columnOut (terms : List Int) : Int × Bool :=
  let a := columnAcc terms
  (roundQ 27 a, saturates 32 (shrEven a 27))

/-! ### The feed chain -/

/-- One block under a ramped gain (R101, R102). -/
def gainBlock (p t : Int) (x : List Int) : List Int := block16 fun k => roundQ 27 (ramp p t k * nth 0 x k)

/-- A trim in Q5.27 (R101). -/
def trimQ (g : Int) : Int := gainQ (kcpGain g)

/-- The output trim with Loupe's compensation: the sum limited, a user mute overriding (R101). -/
def outTrimCode (user comp : Int) : Int := if user = -32768 then -32768 else clampI (-32767) 2400 (user + comp)

/-- The delay of R105: the sum limited to 0 to 2048, and whether it is limited. -/
def alignDelay (user : Nat) (comp : Int) : Nat × Bool :=
  let d := (user : Int) + comp
  if d < 0 then (0, true) else if d > 2048 then (2048, true) else (d.toNat, false)

/-- Delay alignment over a block: the line, newest first, and the output (R105). -/
def alignBlock (d : Nat) (fade : Option (Nat × Nat)) (b : Nat) (line : List Int) : Nat → List Int → List Int × List Int
  | _, [] => (line, [])
  | k, x :: t =>
    let l := (x :: line).take 2049
    let y := match fade with
      | none => nth 0 l d
      | some (s, old) => mixW (xweights false 64 (xpos s b k)) (nth 0 l old) (nth 0 l d)
    let (l', ys) := alignBlock d fade b l (k + 1) t
    (l', y :: ys)

/-- Tail partitions of a length. -/
def partsOf (len : Nat) : Nat := if len ≤ 256 then 0 else (len - 256) / 256

/-- The transform of a span of 512 samples, oldest first, in words of `w` bits (R107). DESIGN CHOICE, log 182. -/
def spectrumOf (w : Nat) (x : List Int) : Spectrum :=
  if x.all (· == 0) then {}
  else
    { exp := sat 8 (Config.fftExp w x)
      words := (List.range 256).map fun i => let q := Config.fftWord w x i; (sat w q.1, sat w q.2) }

/-- The spectrum of partition `p`, from 1: taps 256 p to 256 p + 255, in 24-bit block-floating words. -/
def partSpectrum (f : Fir) (p : Nat) : Spectrum :=
  spectrumOf 24 (((List.range 256).map fun i => nth 0 f.taps (256 * p + i)) ++ List.replicate 256 0)

/-- One word of a product of spectra: word 0 is two real products, every other a complex one. -/
def wordMul (i : Nat) (a b : Int × Int) : Int × Int :=
  if i = 0 then (a.1 * b.1, a.2 * b.2) else (a.1 * b.1 - a.2 * b.2, a.1 * b.2 + a.2 * b.1)

/-- A product of spectra, with its exponent. -/
def specMul (a b : Spectrum) : Spectrum :=
  if a.words.isEmpty || b.words.isEmpty then {}
  else { exp := a.exp + b.exp, words := (List.range 256).map fun i => wordMul i (nth (0, 0) a.words i) (nth (0, 0) b.words i) }

/-- An exact sum of spectra. -/
def specAdd (a b : Spectrum) : Spectrum :=
  if a.words.isEmpty then b
  else if b.words.isEmpty then a
  else
    let e := min a.exp b.exp
    let up := fun (s : Spectrum) (x : Int) => x * 2 ^ (s.exp - e).toNat
    { exp := e
      words := (List.range 256).map fun i =>
        let x := nth (0, 0) a.words i
        let y := nth (0, 0) b.words i
        (up a x.1 + up b y.1, up a x.2 + up b y.2) }

/-- Every partition of a filter against the delay line: partition `p` meets the segment `p - 1` before the newest. -/
def accumulate (f : Fir) (fdl : List Spectrum) : Spectrum :=
  ((List.range (partsOf f.len)).map fun i => specMul (nth {} fdl i) (partSpectrum f (i + 1))).foldl specAdd {}

/-- The tail of a filter over the 256 outputs that follow a segment, in Q7.57 (R107, R108). DESIGN CHOICE, log 182. -/
def tailFrom (f : Fir) (fdl : List Spectrum) : List Int :=
  let y := accumulate f fdl
  if y.words.isEmpty then [] else (List.range 256).map fun t => Config.ifft y.exp y.words t

/-- The head of a filter on a history whose newest entry is the present sample, plus a tail output, before rounding. -/
def firAcc (f : Fir) (h : List Int) (tail : Int) : Int :=
  sat 72 (isum ((List.range (min f.len 256)).map fun k => nth 0 f.taps k * nth 0 h k) + tail)

/-- One sample of a filter and whether it saturated; length 0 passes the sample (R106). -/
def firOut (f : Fir) (h : List Int) (tail : Int) : Int × Bool :=
  if f.len = 0 then (nth 0 h 0, false)
  else let a := firAcc f h tail; (roundQ 30 a, saturates 32 (shrEven a 30))

/-- Samples of history: two segments. -/
def histLen : Nat := 512

/-- The FIR stage over a block (R106 to R108, R117). -/
def firBlock (rt : FeedRt) (b : Nat) : Nat → List Int → FeedRt × List Int × Bool
  | _, [] => (rt, [], false)
  | k, x :: t =>
    let h := (x :: rt.hist).take histLen
    let tl := fun (f : Fir) (tail : List Int) => if f.len ≤ 256 then 0 else nth 0 tail rt.since
    let (ya, fa) := firOut rt.fir h (tl rt.fir rt.tail)
    let (y, fb) := match rt.ab with
      | none => (ya, false)
      | some ab =>
        let (yb, fb) := firOut ab.b h (tl ab.b rt.tailB)
        let w := xweights ab.equalGain ab.n (xpos ab.start b k)
        (mixW w ya yb, fb || saturates 32 (shrEven (w.1 * ya + w.2 * yb) 30))
    let (rt', ys, g) := firBlock { rt with hist := h, since := rt.since + 1 } b (k + 1) t
    (rt', y :: ys, fa || fb || g)

/-- A segment ends with the block before `b` where `(b - 1) mod 16` is the feed's tail phase (R108). -/
def tailDue (f b : Nat) : Bool := b % 16 == (f + 1) % 16

/-- The tail of the B filter of a crossfade, from the same delay line (R117). -/
def FeedRt.tailOfB (rt : FeedRt) : List Int := (rt.ab.map fun a => tailFrom a.b rt.fdl).getD []

/-- Recompute the tail of the segment in hand with new coefficients (R112). -/
def retail (rt : FeedRt) : FeedRt := { rt with tail := tailFrom rt.fir rt.fdl, tailB := rt.tailOfB }

/-- The segment that has ended enters the delay line, and its tails are computed. -/
def newSegment (rt : FeedRt) : FeedRt :=
  let x := (List.range 512).map fun i => nth 0 rt.hist (511 - i)
  retail { rt with since := 0, fdl := (spectrumOf 32 x :: rt.fdl).take 63 }

/-- The limiter over a block (R109): the gain held in Q2.30, the output, and whether any gain was below 1. The formula stands as it is
where single precision takes |y| past thr by more than the rule's one bit. DEDUCED, log 71. -/
def limBlock (on : Bool) (thr rel : F32) (g : Int) : List Int → Int × List Int × Bool
  | [] => (g, [], false)
  | x :: t =>
    if !on then
      let (g', ys, f) := limBlock on thr rel 0x40000000 t
      (g', x :: ys, f)
    else
      let ax := F32.ofFix x.natAbs 27
      let need := if F32.le ax thr then F32.one else F32.div thr ax
      let held := F32.ofFix g 30
      let gn := F32.min need (F32.sub F32.one (F32.mul (F32.sub F32.one held) rel))
      let gq := gn.toFix 32 30
      let (g', ys, f) := limBlock on thr rel gq t
      (g', roundQ 30 (x * gq) :: ys, f || decide (gq < 0x40000000))

/-- The flags that a block of a feed chain raises. -/
structure ChainFlags where
  biqSat : Bool := false
  firSat : Bool := false
  limit : Bool := false
  deriving DecidableEq, Repr

/-- The feed chain of block `b` on its column (R100 to R109, R475), with Loupe's compensation gain, and what Loupe makes of
the block at the point of injection (R136, R140); last, that block. -/
def feedChain (f : Nat) (c : Chain) (comp : Int) (inj : List Int → List Int) (fs : Nat) (rt : FeedRt) (b : Nat)
    (col : List Int) :
    FeedRt × List Int × ChainFlags × List Int :=
  let it := trimQ c.inTrim
  let pt : Int := if c.invert then -0x8000000 else 0x8000000
  let ot := trimQ (outTrimCode c.outTrim comp)
  let from' := fun (prev tgt : Int) => if rt.fresh then tgt else prev
  let x1 := gainBlock (from' rt.inTrimQ it) it col
  let x2 := gainBlock (from' rt.polQ pt) pt x1
  let (bq, x3, sb) := biqBlock c.biq rt.biq x2
  let (ln, x4) := alignBlock rt.d rt.dFade b rt.line 0 x3
  let rt1 := if tailDue f b then newSegment rt else rt
  let (rt2, x5, sf) := firBlock rt1 b 0 x4
  let thr := F32.dbGain c.limThr
  let rel := F32.exp (F32.div (F32.ofInt (-1000)) (F32.mul (fN c.limRel) (fN fs)))
  let (g, x6, lim) := limBlock c.limOn thr rel rt.limG x5
  let x7 := gainBlock (from' rt.outTrimQ ot) ot (inj x6)
  let x8 := if rt.fresh then gainBlock 0 0x8000000 x7 else if rt.ringOut then gainBlock 0x8000000 0 x7 else x7
  ({ rt2 with inTrimQ := it, polQ := pt, outTrimQ := ot, biq := bq, line := ln, limG := g, limiting := lim, fresh := false },
   x8, { biqSat := sb, firSat := sf, limit := lim }, x6)

/-- A chain's zero state (R475). -/
def freshFeed (rt : FeedRt) (c : Chain) (d : Nat × Bool) : FeedRt :=
  { on := true, fresh := true, fir := rt.fir, ab := rt.ab, d := d.1, delayLimit := d.2, shadow := rt.shadow,
    direct := rt.direct, last := rt.last, heldBlocks := rt.heldBlocks, leaving := rt.leaving,
    inTrimQ := trimQ c.inTrim, polQ := if c.invert then -0x8000000 else 0x8000000 }

/-- The conditions on a biquad set (R104): `-1 < a2 < 1` and `|a1| < 1 + a2`. -/
def Biq.stable (c : Biq) : Bool :=
  decide (-0x40000000 < c.a2) && decide (c.a2 < 0x40000000) && decide ((c.a1.natAbs : Int) < 0x40000000 + c.a2)

/-- The lengths that R106 allows at a rate. -/
def firLenOk (rate96 : Bool) (len : Nat) : Bool :=
  len == 0 || (len ≥ 256 && len % 256 == 0 && len ≤ (if rate96 then 8192 else 16384))

/-- Bytes of a feed's set in the shadow bank (R111). -/
def firBytes (len : Nat) : Nat := 64 + (if len = 0 then 0 else 1024) + 1536 * partsOf len

/-- Entry: a port or network sample of `w` bits to Q5.27 (R25). -/
def entryQ (w : Nat) (x : Int) : Int := shrEven (x * 2 ^ (32 - w)) 4

/-- Exit: a Q5.27 sample to `w` bits, saturating (R8, R26). -/
def exitW (w : Nat) (x : Int) : Int :=
  let q := sat 32 (x * 16)
  if w ≥ 32 then q else sat w (shrEven q (32 - w))

end Sys2Proof.Machine
end

