-- ==== Sys2Proof/Machine/RegMap.lean ====
section
/-! DEFINITION. The peripheral register map (Tables ARCH-7, PAV-6, LOUPE-12, FACET-12, KCP-9, NET-10, TIME-8, TIME-10, PORT-7,
PORT-9, MEM-8, MEM-10, MEM-12, INTEG-5, PAIR-10, PWR-11): where each register is, its reset value and its fields by access
type (Table SCOPE-7). A bit that no field claims is reserved (R13). -/

namespace Sys2Proof.Machine

/-- A register: its reset value and, by access type, the bits of its fields. -/
structure RegInfo where
  reset : Word := 0
  ro : Word := 0
  rw : Word := 0
  w1c : Word := 0
  w1s : Word := 0
  wo : Word := 0
  /-- Bits that a lock bit guards, and that bit's place (in this register, or in the lock register given). -/
  rwl : Word := 0
  lockBit : Nat := 31
  lockOff : Nat := 0
  deriving DecidableEq, Repr

/-- Every bit that some field claims. -/
def RegInfo.defined (r : RegInfo) : Word := r.ro ||| r.rw ||| r.w1c ||| r.w1s ||| r.wo ||| r.rwl

def allBits : Word := 0xFFFFFFFF
/-- A read-only register with the fields of a mask. -/
def rRO (m : Word) (reset : Word := 0) : Option RegInfo := some { ro := m, reset := reset }
/-- A plain register with the fields of a mask. -/
def rRW (m : Word) (reset : Word := 0) : Option RegInfo := some { rw := m, reset := reset }
/-- A register of sticky bits. -/
def rW1C (m : Word) : Option RegInfo := some { w1c := m }
/-- A register that only acts on a write. -/
def rWO (m : Word) : Option RegInfo := some { wo := m }

/-- The two words of counters `0` to `n - 1` at `base`. -/
def cntInfo (off base n : Nat) : Option RegInfo :=
  if off ≥ base ∧ off < base + 8 * n then (if off % 8 = 0 then rRO allBits else rRO 0x8000FFFF) else none

/-- The first of two answers that is given. -/
def orElse (a b : Option RegInfo) : Option RegInfo := match a with | some x => some x | none => b

def sysRegs (o : Nat) : Option RegInfo :=
  if o = 0 then rRO allBits 0x9012 else if o = 4 then rRO allBits 0xB0 else if o = 8 then rRO 0xFFFF00F8
  else if o = 0x10 ∨ o = 0x14 then rRO allBits else none

def pmuRegs (o : Nat) : Option RegInfo :=
  if o = 0 then rRO 0x1CF else if o = 4 then rW1C 0xF else if o = 8 then rRW 0x33
  else if o = 0xC then rRO 0x3FFFF 0xFF else if o = 0x10 then rRO allBits 0x11 else if o = 0x14 then rRO 0xFFF
  else if o = 0x18 then rRO 0x7FF else if o = 0x1C then rWO 0xF else if o = 0x20 then rRW 7
  else if o = 0x24 then rRW 0x7F 0x40 else if o = 0x28 then rRO allBits
  else if 0x30 ≤ o ∧ o < 0x48 then rRO allBits else if o = 0x48 then rWO 1 else none

def clkselRegs (o : Nat) : Option RegInfo :=
  if o = 0 then rRW 0xFFFF0FF1 0x012C00A0 else if o = 4 then rRO 0x373 0x70 else if o = 8 then rW1C 0x3F
  else if o = 0xC then rRW allBits 0x03020100 else if o = 0x10 then rRW allBits 0xFFFF0504
  else if o = 0x14 ∨ o = 0x18 then rRO allBits
  else if 0x20 ≤ o ∧ o < 0x80 then
    (if o % 16 = 0 then rRO 0x771F 0x5500 else if o % 16 = 4 ∨ o % 16 = 8 then rRO allBits else none)
  else none

def timeRegs (o : Nat) : Option RegInfo :=
  if o = 0 then rRW 1 else if o = 8 then rW1C 0xF else if o = 0xC then rWO 1 else if o = 0x10 then rRW allBits 0xA3333
  else if 0x20 ≤ o ∧ o < 0x80 then
    (match o % 32 with
     | 0 => rRO allBits | 4 => rRO allBits | 8 => rRO 0x3FFFFFFF | 12 => rRO 0xFFFF
     | 16 => rRW allBits | 20 => rRW allBits | 24 => rWO allBits | _ => none)
  else if o = 0x80 then rWO 1 else if o = 0xA0 ∨ o = 0xA4 then rRO allBits
  else if o = 0xA8 ∨ o = 0xAC then rRW allBits else if o = 0xB0 then rRW allBits 0x28000000
  else if 0x100 ≤ o ∧ o < 0x178 then cntInfo o 0x100 15
  else if 0x200 ≤ o ∧ o < 0x400 then
    (match o % 32 with
     | 0 => if o = 0x2A0 then rRW 0xF 4 else some { rw := 9, ro := 6, reset := 4 }
     | 4 => rRW allBits | 8 => rRW allBits | 12 => rRW 0x3FFFFFFF | 16 => rRW allBits | 20 => rRW allBits | _ => none)
  else if 0x400 ≤ o ∧ o < 0x520 then
    (match o % 32 with
     | 0 => some { rw := 3, wo := 0x100 } | 4 => rRO 0x10F | 8 => rRO allBits | 12 => rRO allBits | 16 => rRO 0x3FFFFFFF
     | _ => none)
  else if 0x600 ≤ o ∧ o < 0x6C0 then
    (match o % 32 with
     | 0 => some { wo := 0x10000, w1c := 0x100, ro := 0x1F } | 4 => rRO 0x8000FFFF | 8 => rRO allBits | 12 => rRO allBits
     | 16 => rRO 0x3FFFFFFF | 24 => rRW 0xFFFF | 28 => rRW 0xFFFF | _ => none)
  else none

/-- One network port's registers; `mg` for a management port. -/
def netportRegs (mg : Bool) (o : Nat) : Option RegInfo :=
  if o = 0 then rRW 0x0F0F1F01 (if mg then 0 else 0x01000100) else if o = 4 then rRO 0x3CF else if o = 8 then rW1C 0x3F
  else if o = 0xC then rRW 0xFFFF else if o = 0x10 ∨ o = 0x18 ∨ o = 0x20 ∨ o = 0x24 then rRW allBits
  else if o = 0x14 then rRW 0xFFFF else if o = 0x1C then rRW 0x8000FFFF
  else if o = 0x28 then (if mg then some { rw := 0xFFFF, ro := 0x10000, reset := 0x14B43 } else rRW 0x1FFFF 0x4B43)
  else if o = 0x2C then rRW 0x0FFFFFFF 0x003C03E8 else if 0x40 ≤ o ∧ o < 0x80 then rRW allBits
  else if o = 0x80 then rWO 1 else if 0x90 ≤ o ∧ o < 0xF0 then cntInfo o 0x90 12
  else if 0x100 ≤ o ∧ o < 0x180 then
    (match o % 32 with
     | 0 => rRW allBits | 4 => rRW allBits | 8 => rRW 0x1FFF 0x10 | 12 => rRW 0xFFF | 16 => rRO 0xFFF
     | 20 => rRW 0xF1 0x70 | _ => none)
  else none

def netRegs (o : Nat) : Option RegInfo :=
  if o < 0x60000 then netportRegs (o / 0x10000 ≥ 4) (o % 0x10000) else none

def flowtabRegs (o : Nat) : Option RegInfo :=
  if o = 0 then rRO 0x3FF else if o = 4 then rW1C 1
  else if 0x1000 ≤ o ∧ o < 0x3000 then (if o % 16 = 12 then rRW 0x870101FF else rRW allBits)
  else none

def dmaRegs (o : Nat) : Option RegInfo :=
  if o = 0 then rRO allBits else if o = 4 ∨ o = 8 then rW1C allBits else if o = 0x80 then rWO 1
  else if 0x90 ≤ o ∧ o < 0xA0 then cntInfo o 0x90 2
  else if 0x1000 ≤ o ∧ o < 0x1800 then
    (match o % 64 with
     | 0 => some { rw := 0x70F00, w1s := 3, reset := 0x30000 } | 4 => rRO 0x3F07 | 8 => rRW allBits | 12 => rRW allBits
     | 16 => rRO allBits | 20 => rRO allBits | 24 => rRO allBits | _ => none)
  else none

/-- The default priority of a master toward a target (Table MEM-1); `none` where no path exists. -/
def prioOf (m t : Nat) : Option Nat :=
  let row : List (Option Nat) := match m with
    | 0 | 1 => [some 8, some 8, some 8, some 8, none, none, none, some 8, some 8]
    | 2 => [some 4, none, some 4, none, some 4, none, none, some 4, none]
    | 3 => [some 10, none, some 14, none, some 10, none, none, none, none]
    | 4 => [some 6, none, none, some 6, none, none, none, some 6, none]
    | 5 => [none, none, none, none, none, some 12, none, none, none]
    | 6 => [none, none, some 9, none, none, none, some 9, none, none]
    | 7 => [some 13, none, some 13, none, none, none, some 6, none, none]
    | _ => []
  (row[t]?).join

/-- The default priority words of a master; a path that does not exist reads 0. -/
def prioLo (m : Nat) : Nat := nsum ((List.range 8).map fun t => (prioOf m t).getD 0 * 16 ^ t)
def prioHi (m : Nat) : Nat := (prioOf m 8).getD 0

def busmxRegs (o : Nat) : Option RegInfo :=
  if o = 0 then rRO 0xFF else if o = 4 then rW1C 7
  else if o = 8 then some { rwl := 0x1F, w1s := 0x80000000, reset := 0xE, lockOff := 8 }
  else if o = 0x10 then rRO 0xCFFF else if o = 0x14 ∨ o = 0x18 then rRO allBits
  else if 0x40 ≤ o ∧ o < 0x80 then
    (if o % 8 = 0 then rRW allBits (BitVec.ofNat 32 (prioLo ((o - 0x40) / 8)))
     else rRW 0xF (BitVec.ofNat 32 (prioHi ((o - 0x40) / 8))))
  else if o = 0x80 then rWO 1 else if 0x90 ≤ o ∧ o < 0xB0 then cntInfo o 0x90 4 else none

def dramcRegs (o : Nat) : Option RegInfo :=
  if o = 0 then rRO 0xF else if o = 4 then rW1C 0xF else if o = 8 then rRO 0xFF33 else if o = 0xC then rRO 0xFFFF
  else if o = 0x10 ∨ o = 0x14 then rRO allBits else if o = 0x18 then rRW 0xFFFF 0x100
  else if 0x20 ≤ o ∧ o < 0x40 then
    let p := (o - 0x20) / 8
    (if o % 8 = 0 then rRW 0x7FFF (nth 0 [0x7D0, 0xC80, 0, 0x7D0] p) else rRW 0x7FF (nth 0 [0x40, 0x40, 0x400, 0x80] p))
  else if 0x40 ≤ o ∧ o < 0x50 then rRO 0xFFFFFF else if o = 0x80 then rWO 1
  else if 0x90 ≤ o ∧ o < 0xC0 then cntInfo o 0x90 6 else none

def tdmRegs (o : Nat) : Option RegInfo :=
  if o = 0 then rRO allBits else if o = 0x80 then rWO 1 else if 0x100 ≤ o ∧ o < 0x110 then rRO 0x33FFFF
  else if 0x800 ≤ o ∧ o < 0xC00 then cntInfo (o % 64) 0 5
  else if 0x1000 ≤ o ∧ o < 0x1400 then
    (match o % 64 with
     | 0 => rRW 0xFFC73FFF 0x02800808 | 4 => rRO 0x1F | 8 => rW1C 0xFF | 12 => rWO 1 | 16 => rRW allBits | 20 => rRW allBits
     | 24 => rRO allBits | 28 => rRO allBits | 32 => rRO allBits 0x40000000 | 36 => rRO allBits | _ => none)
  else none

def sidetoneRegs (o : Nat) : Option RegInfo :=
  if o = 0 then rRO 0x7F else if o = 4 then rW1C 3 else if o = 0x80 then rWO 1 else if 0x90 ≤ o ∧ o < 0x98 then cntInfo o 0x90 1
  else if 0x1000 ≤ o ∧ o < 0x1400 then
    (match o % 16 with | 0 => rRW 0x81FF01FF | 4 => rRW 0xFFFF 0x8000 | 8 => rRO allBits | _ => none)
  else none

def loupeRegs (o : Nat) : Option RegInfo :=
  if o = 0 then rRO 0x7F0007 else if o = 4 then rW1C 0x1F else if o = 0x10 then some { rw := 3, w1s := 0x100, reset := 1 }
  else if o = 0x14 ∨ o = 0x18 then rRO allBits else if o = 0x80 then rWO 1 else if 0x90 ≤ o ∧ o < 0xA8 then cntInfo o 0x90 3
  else if 0x100 ≤ o ∧ o < 0x140 then rRW 0x031F013F 0x000E0000 else if 0x140 ≤ o ∧ o < 0x180 then rRO 0xFFFF0007 else none

def facetctlRegs (o : Nat) : Option RegInfo :=
  if o = 0 then rRO 0x3F3F3F00 else if o = 4 then rW1C 0x1FF else if 0x10 ≤ o ∧ o < 0x20 then rRO allBits
  else if o = 0x80 then rWO 1 else if 0x90 ≤ o ∧ o < 0xB8 then cntInfo o 0x90 5
  else if 0x1000 ≤ o ∧ o < 0x2000 then
    let base := o - o % 64
    (match o % 64 with
     | 0 => some { rw := 0x10FFF, wo := 0x20000, w1s := 0x40000 } | 4 => rRO 0x0FFF0F07 | 8 => rRW 0x7FFFF | 12 => rRW 0x7FFFF
     | 16 => rRW 0x7F 0x10 | 20 => rRO 0x8007FFFF
     | 24 | 28 | 32 | 36 => some { rwl := 0xFFFFFF, lockBit := 18, lockOff := base }
     | _ => none)
  else none

def pavRegs (o : Nat) : Option RegInfo :=
  if o = 0 then rRO 0xFF0001 else if o = 4 then rW1C 7 else if 0x40 ≤ o ∧ o < 0x80 then rRO 0xFFFF0FF9
  else if o = 0x80 then rWO 1 else if 0x90 ≤ o ∧ o < 0xB0 then cntInfo o 0x90 4 else none

def pairRegs (o : Nat) : Option RegInfo :=
  if o = 0 then rRW 0xFFFF0003 0x000A0002 else if o = 4 then rRO 0x00FF00FF else if o = 8 then rW1C 0xFF
  else if o = 0xC then rRO allBits else if o = 0x10 then rRO 0x3FFFF else if o = 0x14 then rRO allBits
  else if o = 0x18 then rRO 0xFFFF else if o = 0x80 then rWO 1 else if 0x90 ≤ o ∧ o < 0xC0 then cntInfo o 0x90 6 else none

def integRegs (o : Nat) : Option RegInfo :=
  if o = 0 then rRO 0xFFFF000F else if o = 4 then rW1C 0xF
  else if o = 8 then some { rwl := 3, w1s := 0x80000000, reset := 3, lockOff := 8 }
  else if o = 0xC then rW1C 1 else if o = 0x10 then rRO allBits else if o = 0x14 ∨ o = 0x18 ∨ o = 0x1C then rRW allBits
  else if o = 0x20 then rRW allBits 0x40000 else if o = 0x24 then rRW 0xFF 0x18 else if o = 0x28 then rRO 0xFFFF01FF
  else if o = 0x80 then rWO 1 else if 0x90 ≤ o ∧ o < 0xB8 then cntInfo o 0x90 5 else none

def pcieRegs (o : Nat) : Option RegInfo :=
  if o = 0 then rRO 0xFF 1 else if o = 4 then rRO 0x1F else if o = 8 then rRW 0x10F 4
  else if 0x1000 ≤ o ∧ o < 0x1400 then
    let k := (o - 0x1000) / 0x100
    (match o % 0x100 with
     | 0 => rRW allBits | 4 => rRW allBits | 8 => rRW 0x1FFF 0x10 | 0xC => rRW 0xFFF | 0x10 => rRO 0xFFF
     | 0x20 => rRW allBits | 0x24 => rRW allBits | 0x28 => rRW 0x1FFF 0x10 | 0x2C => rRW 0xFFF | 0x30 => rRO 0xFFF
     | 0x40 => rRW 0x03FF0FF1 (BitVec.ofNat 32 (16 * k)) | 0x44 => some { w1c := 0x101, ro := 0xF0 }
     | 0x48 => rRW allBits | 0x4C => rRW allBits | _ => none)
  else if 0x8000 ≤ o ∧ o < 0x8100 then (if o % 16 = 12 then rRW 1 1 else rRW allBits) else if o = 0x9000 then rRO allBits else none

def secRegs (o : Nat) : Option RegInfo :=
  if o = 0 then rRO 0xFF1B else if o = 4 then rW1C 7 else if o = 8 then rRO 7 else none

/-- A block's registers by its number in Table ARCH-7, from 0x4000_0000 in steps of 1 MiB. -/
def blockRegs (blk o : Nat) : Option RegInfo :=
  match blk with
  | 0 => sysRegs o | 1 => pmuRegs o | 2 => clkselRegs o | 3 => timeRegs o | 4 => netRegs o | 5 => flowtabRegs o | 6 => dmaRegs o
  | 7 => busmxRegs o | 8 => dramcRegs o | 9 => tdmRegs o | 10 => sidetoneRegs o | 11 => loupeRegs o | 12 => facetctlRegs o
  | 13 => pavRegs o | 14 => pairRegs o | 15 => integRegs o | 16 => pcieRegs o | 17 => secRegs o | _ => none

/-- The register at a control-core address. -/
def regInfo (a : Nat) : Option RegInfo :=
  if 0x40000000 ≤ a ∧ a < 0x41200000 ∧ a % 4 = 0 then blockRegs ((a - 0x40000000) / 0x100000) (a % 0x100000) else none

/-- Bases of the blocks (Table ARCH-7). -/
def aSys : Nat := 0x40000000
def aPmu : Nat := 0x40100000
def aClksel : Nat := 0x40200000
def aTime : Nat := 0x40300000
def aNet (k : Nat) : Nat := 0x40400000 + 0x10000 * k
def aFlowtab : Nat := 0x40500000
def aDma : Nat := 0x40600000
def aBusmx : Nat := 0x40700000
def aDramc : Nat := 0x40800000
def aTdm : Nat := 0x40900000
def aSide : Nat := 0x40A00000
def aLoupe : Nat := 0x40B00000
def aFacetctl : Nat := 0x40C00000
def aPav : Nat := 0x40D00000
def aPair : Nat := 0x40E00000
def aInteg : Nat := 0x40F00000
def aPcie : Nat := 0x41000000
def aSec : Nat := 0x41100000

end Sys2Proof.Machine
end

