-- ==== Sys2Proof/Machine/TypesOut.lean ====
section
/-! DEFINITION. What the device gives to the outside, as the record of its outputs. -/

namespace Sys2Proof.Machine

/-- A Bezel frame that the unit sends (Table PAIR-5). PRESUMED, log 157. -/
inductive Bezel where
  /-- The unit's heartbeat: the stamp of its L at transmission is `peerL`, and `ownL` is the receiver's to fill. -/
  | heartbeat (h : Heartbeat)
  | notice (cls : Nat)
  | delta (c : Closed)
  | deltaAgain (c : Closed) (segs : List Nat)
  | resend (segs : List Nat)
  | ack (seq : Nat)
  | mark (seq : Nat) (commit : Bool)
  /-- A background object: 1 a large payload, 3 the image. -/
  | staging (what index : Nat)
  /-- A background object with what it says (R474, R212, R225). -/
  | staged (o : StagedObj)
  | recon (carats : List (Nat × Word))
  | reconData (blocks : List (Nat × Word × List Int))
  | transplant (t : Transplant)
  deriving DecidableEq, Repr

/-- An output. DEDUCED, log 40; DESIGN CHOICE, log 121. -/
inductive OutMsg where
  /-- A KCP packet on UDP. -/
  | udp (p : OutPkt)
  /-- Bytes shifted out of the SPI slave. -/
  | spi (bytes : List Byte)
  /-- A write to host memory by PCIe. -/
  | host (addr : Nat) (bytes : List Byte)
  /-- An MSI-X message. -/
  | msix (vec : Nat)
  /-- A completion of a BAR2 request: 0 successful, 1 Unsupported Request, 2 Completer Abort. -/
  | bar2 (status : Nat) (data : Word)
  /-- The response to a bus master: identifier, bus error, bytes read. -/
  | bus (master id : Nat) (error : Bool) (data : List Byte)
  /-- A frame on a network port, with the ring that held it. -/
  | frame (port ring : Nat) (bytes : List Byte)
  /-- A control frame or message that Ganen or the engine builds: port, kind, fields. -/
  | net (port : Nat) (kind : String) (fields : List Nat)
  /-- A media packet: flow, port, and the frame with its FCS (R269). -/
  | media (flow port : Nat) (frame : List Byte)
  /-- The media frame in progress ends with an inverted FCS (R271). -/
  | mediaCut (flow port : Nat)
  /-- A TDM frame of a port: one word a slot; `none` where the slot is not driven. -/
  | tdm (port : Nat) (slots : List (Option Int))
  /-- A comparator's event, or the PPS_OUT edge. -/
  | pulse (cmp : Nat) (low : Bool) (width : Nat)
  | bezel (b : Bezel)
  /-- A PMBus command and its data. -/
  | pmbus (cmd data : Nat)
  /-- Level of READY. -/
  | ready (level : Bool)
  deriving DecidableEq, Repr

end Sys2Proof.Machine
end

