-- ==== Sys2Proof/Machine/State.lean ====
section
/-! DEFINITION. The machine's state: everything the spec gives the block, and the queue of the commands that wait. -/

namespace Sys2Proof.Machine

/-- The block (01 to 16). -/
structure State where
  /-- Commands that wait, first in first out. -/
  pending : List Instr
  /-- The model's own counter of free values (log 2). -/
  freeCtr : Nat
  /-- What the device has given to the outside, newest first. -/
  out : List OutMsg
  pins : Pins
  /-- Register words that differ from their reset values, by control-core address. -/
  regs : SMap Word
  /-- Counters: hardware ones by the address of their _LO word, Ganen's own above 2^36 (R221). -/
  cnts : SMap Cnt
  power : Power
  sec : Sec
  boot : Boot
  kcp : Kcp
  delta : Delta
  render : Render
  integ : Integ
  pair : Pair
  time : TimeU
  loupe : Loupe
  facets : Facets
  mem : Mem
  dma : Dma
  net : Net
  ports : Ports
  deriving DecidableEq, Repr

/-- Why a step can stop with a fault. DEDUCED, log 16. -/
inductive Fault where
  /-- A write carried a 1 in a reserved field of a register: R13 does not define the effect. Raised by every command that
  writes a register by address. Safe: the model stops where the part goes on. -/
  | reservedField
  deriving DecidableEq, Repr

/-- Why a step can be refused. -/
inductive Refusal where
  /-- The command has no meaning yet. Raised by the dispatcher alone. Safe. -/
  | notModelled (mnemonic : String)
  deriving DecidableEq, Repr

/-- The machine right after reset (log 3 to 11 name the values that the spec does not give). -/
def State.reset : State :=
  { pending := [], freeCtr := 0, out := [], pins := {}, regs := [], cnts := [], power := {}, sec := {}, boot := {},
    kcp := {}, delta := {}, render := {}, integ := {}, pair := {}, time := {},
    loupe := {}, facets := {}, mem := {}, dma := {}, net := {}, ports := {} }

end Sys2Proof.Machine
end

