-- ==== Sys2Proof/Machine/Ops.lean ====
section
/-! DEFINITION. The operations that every meaning shares: free values, registers, counters, time, the unit's role, sending
packets and events, inclusion records and FAULT_N, and the acceptance of an entry into the state delta. -/

namespace Sys2Proof.Machine

/-! ### Free values (log 2) -/

/-- The present count of free values, and the state that has used it. DESIGN CHOICE, log 2. -/
def State.fresh (s : State) : Nat × State := (s.freeCtr, { s with freeCtr := s.freeCtr + 1 })

/-! ### Registers (R12, R27) -/

/-- The reset value of the register at an address. DESIGN CHOICE, log 11. -/
def regReset (a : Nat) : Word := ((regInfo a).map (·.reset)).getD 0

/-- The stored word of a register. -/
def State.reg (s : State) (a : Nat) : Word := (mfind s.regs a).getD (regReset a)

/-- Store a register's word; the table lists only words that differ from reset. -/
def State.setReg (s : State) (a : Nat) (w : Word) : State :=
  { s with regs := if w = regReset a then mdel s.regs a else mset s.regs a w }

/-- Set bits of a stored register. -/
def State.raise (s : State) (a : Nat) (m : Word) : State := s.setReg a (s.reg a ||| m)

/-- Clear bits of a stored register. -/
def State.lower (s : State) (a : Nat) (m : Word) : State := s.setReg a (s.reg a &&& ~~~m)

/-- Put a field into a stored register. -/
def State.putReg (s : State) (a lo len v : Nat) : State := s.setReg a (wput (s.reg a) lo len v)

/-- The 64-bit number in two registers, low word first. -/
def State.reg64 (s : State) (a : Nat) : Nat := (s.reg a).toNat + 2 ^ 32 * (s.reg (a + 4)).toNat

/-- Store a 64-bit number in two registers, low word first. -/
def State.setReg64 (s : State) (a : Nat) (v : Nat) : State :=
  (s.setReg a (BitVec.ofNat 32 v)).setReg (a + 4) (BitVec.ofNat 32 (v / 2 ^ 32))

/-! ### Counters (R381, R382) -/

/-- Where a counter stops. -/
def cntMax : Nat := 2 ^ 48 - 1

/-- Add to a saturating count: the new count, and SAT. -/
def satAdd (v n : Nat) (sat : Bool) : Nat × Bool := if v + n ≥ cntMax then (cntMax, true) else (v + n, sat)

/-- Count `n` occurrences. -/
def Cnt.add (c : Cnt) (n : Nat) : Cnt := let r := satAdd c.live n c.sat; { c with live := r.1, sat := r.2 }

/-- Capture and clear; `byGanen` adds the capture into Ganen's accumulator (R382). -/
def Cnt.capture (byGanen : Bool) (c : Cnt) : Cnt :=
  let a := if byGanen then satAdd c.acc c.live (c.accSat || c.sat) else (c.acc, c.accSat)
  { live := 0, sat := false, cap := c.live, capSat := c.sat, acc := a.1, accSat := a.2 }

/-- Count `n` occurrences at counter `k`. -/
def State.count (s : State) (k : Nat) (n : Nat := 1) : State :=
  if n = 0 then s else { s with cnts := mmod {} s.cnts k (Cnt.add · n) }

/-- Snapshot and clear every counter whose key lies in a range (R382). -/
def State.snapCnts (s : State) (lo hi : Nat) (byGanen : Bool) : State :=
  { s with cnts := s.cnts.map fun e => if lo ≤ e.1 ∧ e.1 < hi then (e.1, e.2.capture byGanen) else e }

/-- The words of a counter register pair: what the last snapshot captured (R381). -/
def Cnt.lo (c : Cnt) : Word := BitVec.ofNat 32 c.cap
def Cnt.hi (c : Cnt) : Word := BitVec.ofNat 32 (c.cap / 2 ^ 32 + b2n c.capSat * 2 ^ 31)

/-- A counter as KCP returns it (R226): eight bytes with SAT in bit 63. -/
def Cnt.kcp (c : Cnt) : List Byte := beBytes 8 (c.acc + b2n c.accSat * 2 ^ 63)

/-- Keys of the counters that Ganen keeps itself (R221, R119, R233): device, sessions, feeds, objects, flows. -/
def kDev (i : Nat) : Nat := 2 ^ 36 + i
def kSess (x i : Nat) : Nat := 2 ^ 36 + 0x1000 + 16 * x + i
def kFeed (f i : Nat) : Nat := 2 ^ 36 + 0x10000 + 16 * f + i
def kObj (o i : Nat) : Nat := 2 ^ 36 + 0x20000 + 16 * o + i
def kFlow (f i : Nat) : Nat := 2 ^ 36 + 0x30000 + 16 * f + i

/-! ### Time (R277 to R280) -/

/-- L in whole nanoseconds. -/
def State.lNs (s : State) : Nat := s.time.l / 2 ^ 48

/-- Time by the free-running counter, in nanoseconds (R280). -/
def State.frcNs (s : State) (count : Nat) : Nat :=
  s.reg64 (aTime + 0xA8) + count * (s.reg (aTime + 0xB0)).toNat / 2 ^ 24

/-- TIME_CTL.LOADED. -/
def State.loaded (s : State) : Bool := wbit (s.reg aTime) 0

/-- The time that records and events carry, in ns (R213, R280). -/
def State.nowNs (s : State) : Nat := if s.loaded then s.lNs else s.frcNs s.time.frc

def secOf (ns : Nat) : Nat := ns / 1000000000
def nsOf (ns : Nat) : Nat := ns % 1000000000

/-- A time field (R226). -/
def timeBytes (ns : Nat) : List Byte := beBytes 8 (secOf ns) ++ beBytes 4 (nsOf ns)

/-! ### Role and gate (R387, Table PAIR-11) -/

/-- PAIR_CTL.PAIR_EN. -/
def State.pairEn (s : State) : Bool := wbit (s.reg aPair) 0

/-- KCP_STATUS.ROLE: 0 lone, 1 active, 2 standby, 3 cold standby. -/
def State.role (s : State) : Nat :=
  if s.pair.claim then (if s.pairEn then 1 else 0)
  else if s.pairEn then (if s.pair.sync = 5 then 2 else 3)
  else if s.pair.ilkB then 0 else 3

/-- A standby, in step or cold. -/
def State.standby (s : State) : Bool := s.role == 2 || s.role == 3

/-- The gate is open while the unit drives ILK_A low and sees ILK_B high (R387). -/
def State.gate (s : State) : Bool := s.pair.claim && s.pair.ilkB

/-- The peer's synchronisation state, from its last heartbeat; 0 with none seen. -/
def State.peerSync (s : State) : Nat := match s.pair.peer with | some h => h.sync.val | none => 0

/-- The peer's role code; 0 where no peer is seen. DEDUCED, log 166. -/
def State.peerRole (s : State) : Nat :=
  match s.pair.peer with
  | some h => if s.pair.lane0 && s.pair.lane1 && s.pair.beat then h.role.val else 0
  | none => 0

/-- The Bezel link is up (R394). -/
def State.linkUp (s : State) : Bool := s.pair.lane0 && s.pair.lane1 && s.pair.beat

/-- Whether a delta needs the standby's acknowledgement (R400, R401). -/
def State.paired (s : State) : Bool := s.role == 1 && s.peerSync == 5 && !s.pair.peerCold

/-- Ganen runs and serves (R434, R373). -/
def State.serving (s : State) : Bool := s.boot.phase == .ready && !s.integ.restarting && s.power.st ≠ 3 && !s.time.lostSys

/-! ### Outputs -/

/-- Give something to the outside. -/
def State.emit (s : State) (o : OutMsg) : State := { s with out := o :: s.out }

def State.bezel (s : State) (b : Bezel) : State := s.emit (.bezel b)

/-- Send an MSI-X message, or hold it pending where its vector is masked (Table KCP-9). PRESUMED, log 149. -/
def State.msix (s : State) (v : Nat) : State :=
  if wbit (s.reg (aPcie + 0x800C + 16 * v)) 0 then s.raise (aPcie + 0x9000) (BitVec.ofNat 32 (2 ^ v)) else s.emit (.msix v)

/-! ### Sending packets -/

/-- Session `x`. -/
def State.sess (s : State) (x : Nat) : Session := nth {} s.kcp.sess x

/-- Change session `x`. -/
def State.setSess (s : State) (x : Nat) (f : Session → Session) : State :=
  { s with kcp := { s.kcp with sess := s.kcp.sess.modify x f } }

/-- Ring pair `k`. -/
def State.ring (s : State) (k : Nat) : Ring := nth {} s.kcp.rings k

/-- Change ring pair `k`. -/
def State.setRing (s : State) (k : Nat) (f : Ring → Ring) : State :=
  { s with kcp := { s.kcp with rings := s.kcp.rings.modify k f } }

/-- Base of ring pair `k`'s registers. -/
def aRing (k : Nat) : Nat := aPcie + 0x1000 + 0x100 * k

/-- The fixed payload of a reply (Table KCP-4). -/
def replyBytes (r : ReplyRec) : List Byte :=
  beBytes 2 r.status ++ beBytes 2 r.unit ++ beBytes 2 r.reason ++ zeros 2 ++ beBytes 8 r.boundary ++
    beBytes 2 r.touched ++ beBytes 2 r.succeeded

/-- The payload of a packet that the device sends. -/
def Body.payload : Body → List Byte
  | .reply r _ data => replyBytes r ++ data
  | .event sec ns pl _ => beBytes 8 sec ++ beBytes 4 ns ++ pl

/-- The flags of a packet that the device sends (Table KCP-2). -/
def OutPkt.flags (p : OutPkt) : Nat :=
  (match p.body with
   | .reply _ dup _ => 1 + 8 * b2n dup
   | .event _ _ _ loss => 2 + 16 * b2n loss) + 4 * b2n p.tagged

/-- The bytes of a packet up to its Carat (Table KCP-1). -/
def OutPkt.core (p : OutPkt) : List Byte :=
  let pl := p.body.payload
  let h := beBytes 2 0x4B43 ++ [1, BitVec.ofNat 8 p.flags] ++ beBytes 4 (pl.length + 24) ++ beBytes 4 p.seq ++
    [BitVec.ofNat 8 p.session, 0] ++ beBytes 2 p.op ++ beBytes 4 p.txn ++ pl
  h ++ beBytes 4 (crc32c h).toNat

/-- The bytes of a packet (Table KCP-1). -/
def OutPkt.bytes (p : OutPkt) : List Byte := p.core ++ p.tag

/-! ### Ganen's frames on the network ports (R250, R256, R258) -/

def State.np (s : State) (k : Nat) : NetPort := nth {} s.net.port k
def State.modNp (s : State) (k : Nat) (f : NetPort → NetPort) : State := { s with net := { s.net with port := s.net.port.modify k f } }

/-- The network domain runs (Table PWR-1). -/
def State.netOn (s : State) : Bool := nth 0 s.power.dom 3 == 1 || nth 0 s.power.dom 3 == 2

/-- A frame of Ganen's leaves on port `k`, and TX_FRAMES counts it. -/
def State.sendOwn (s : State) (k : Nat) (f : OwnFrame) : State :=
  (s.emit (match f with | .kcp p => .udp p | .msg kind fields => .net k kind fields)).count (aNet k + 0xC0)

/-- Ganen places a frame on the express ring (2) or the pre-emptable one (3): it leaves at once, waits while a pause holds the
transmitter, or is returned unsent where the link is down. DEDUCED, log 120. -/
def State.place (s : State) (k r : Nat) (f : OwnFrame) : State :=
  if !(s.np k).up || !s.netOn then s
  else if (s.np k).pause ≠ 0 then s.modNp k fun p => { p with own := p.own ++ [(r, f)] }
  else s.sendOwn k f

/-- What waits on a ring of Ganen's leaves. -/
def State.flushOwn (s : State) (k r : Nat) : State :=
  let l := (s.np k).own.filter fun e => e.1 == r
  l.foldl (fun s e => s.sendOwn k e.2) (s.modNp k fun p => { p with own := p.own.filter fun e => e.1 != r })

/-- The outputs are disabled: a media frame in progress ends with an inverted FCS (R271). -/
def State.cutMedia (s : State) : State :=
  (List.range 4).foldl (fun s k => match (s.np k).sending with
    | some (f, e) => (if s.lNs < e then s.emit (.mediaCut f k) else s).modNp k fun p => { p with sending := none }
    | none => s) s

/-- A UDP packet with the tag of its session's key (R200); without a key it goes untagged. -/
def State.sign (s : State) (p : OutPkt) : OutPkt :=
  match (if p.tagged then nth none s.sec.keys p.session else none) with
  | some k => { p with tag := (hmac256 k.key p.core).take 16 }
  | none => { p with tagged := false }

/-- Fill reply buffers with bytes: the buffers' addresses, lengths and pieces, or `none` while too few are posted. -/
def cutBuffers : List (Nat × Nat) → List Byte → Option (List (Nat × List Byte) × List (Nat × Nat))
  | bufs, [] => some ([], bufs)
  | [], _ :: _ => none
  | (a, n) :: t, b :: bs =>
    if n = 0 then none else
    match cutBuffers t ((b :: bs).drop n) with
    | none => none
    | some (ps, rest) => some ((a, (b :: bs).take n) :: ps, rest)

/-- Write one filled buffer of ring `k`: data, descriptor status, head write-back, then the message or its coalescing
(R216, Table KCP-10). -/
def fillOne (k : Nat) (isFirst isLast isEvent : Bool) (addr : Nat) (bs : List Byte) (s : State) : State :=
  let b := aRing k
  let size := wbits (s.reg (b + 0x28)) 0 13
  let head := (s.reg (b + 0x30)).toNat
  let desc := s.reg64 (b + 0x20) + 16 * head + 12
  let stat := 2 ^ 31 + b2n isFirst * 2 ^ 30 + b2n isLast * 2 ^ 29 + b2n isEvent * 2 ^ 28 + bs.length % 2 ^ 17
  let head' := if size = 0 then 0 else (head + 1) % size
  let s := ((s.emit (.host addr bs)).emit (.host desc (leBytes 4 stat))).setReg (b + 0x30) (BitVec.ofNat 32 head')
  let wb := s.reg64 (b + 0x48)
  let s := if wb = 0 then s else s.emit (.host wb (leBytes 4 ((s.reg (b + 0x10)).toNat + head' * 2 ^ 16)))
  let ctl := s.reg (b + 0x40)
  let n := (s.ring k).coal + 1
  if wbits ctl 16 10 = 0 ∨ (wbits ctl 8 4 ≠ 0 ∧ n ≥ wbits ctl 8 4) then
    (s.setRing k fun r => { r with coal := 0 }).msix (wbits ctl 4 4)
  else s.setRing k fun r => { r with coal := n }

/-- Write the buffers of one packet. -/
def fillAll (k : Nat) (isEvent : Bool) : Bool → List (Nat × List Byte) → State → State
  | _, [], s => s
  | first, (a, bs) :: t, s => fillAll k isEvent false t (fillOne k first t.isEmpty isEvent a bs s)

/-- Deliver what waits for ring `k` while buffers are posted; `fuel` bounds the number of packets. DEDUCED, log 151. -/
def flushRing (k : Nat) : Nat → State → State
  | 0, s => s
  | fuel + 1, s =>
    match (s.ring k).waiting with
    | [] => s
    | p :: t =>
      match cutBuffers (s.ring k).posted p.bytes with
      | none => s
      | some (ps, rest) =>
        let ev := match p.body with | .event .. => true | _ => false
        flushRing k fuel (fillAll k ev true ps (s.setRing k fun r => { r with posted := rest, waiting := t }))

/-- Deliver a packet on its transport (R216, R219, R220). DEDUCED, log 47. -/
def State.deliver (s : State) (p : OutPkt) : State :=
  match p.ep with
  | .udp k _ _ => s.place k.val 2 (.kcp (s.sign p))
  | .spi => { s with kcp := { s.kcp with spiOut := s.kcp.spiOut ++ [p] } }
  | .pcie k =>
    let s := s.setRing k.val fun r => { r with waiting := r.waiting ++ [p] }
    flushRing k.val (s.ring k.val).waiting.length s

/-- Send an event of a session that is due it: its sequence advances (R213, R215). -/
def sendEvent (code txn : Nat) (payload : List Byte) (x : Nat) (s : State) : State :=
  let ss := s.sess x
  if ss.isOpen && ss.mask.testBit (code / 256 % 16) then
    let s' := s.setSess x fun q => { q with evSeq := (q.evSeq + 1) % 2 ^ 32, loss := false }
    s'.deliver { ep := ss.ep, session := x, seq := ss.evSeq, op := code, txn := txn, tagged := ss.tagged,
                 body := .event (secOf s.nowNs) (nsOf s.nowNs) payload ss.loss }
  else s

/-- An event that concerns a transaction, to every session that is due it (R213, R214). -/
def State.eventTxn (s : State) (code txn : Nat) (payload : List Byte) : State :=
  if s.standby || !s.serving then s else (List.range 8).foldl (fun s x => sendEvent code txn payload x s) s

/-- An event to every session, whatever the role (R406's exception). -/
def State.eventAny (s : State) (code : Nat) (payload : List Byte) : State :=
  (List.range 8).foldl (fun s x => sendEvent code 0 payload x s) s

/-- An event to every session that is due it; a standby sends none (R214, R406). -/
def State.event (s : State) (code : Nat) (payload : List Byte) : State :=
  if s.standby || !s.serving then s else s.eventAny code payload

/-- Device-event MSI-X message (R217). -/
def State.devIrq (s : State) : State :=
  let c := s.reg (aPcie + 8)
  if wbit c 8 then s.msix (wbits c 0 4) else s

/-! ### Synchronisation and the interlock (R389, R407) -/

/-- PEER_STATE (R415). -/
def State.peerState (s : State) : State := s.event 0x8A02 ([BitVec.ofNat 8 s.peerRole, BitVec.ofNat 8 (b2n s.linkUp)] ++ zeros 2)

/-- Return to COLD (R407). -/
def State.toCold (s : State) : State :=
  if s.pair.sync = 0 then s else
  { s with pair := { s.pair with sync := 0, keeper := if s.pair.claim then s.pair.keeper else .off, verifyCount := 0, imageDone := false, records := 0 } }

/-- Lose step: SYNC_LOSS, its count, and COLD (R395, R400, R411). -/
def State.loseStep (s : State) : State :=
  if s.pair.sync = 0 then s else (((s.raise (aPair + 8) 4).count (aPair + 0xA8)).toCold)

/-- Release ILK_A; `warned` says whether the peer is synchronised, which turns the keeper off with the drivers (Table PAIR-2). -/
def State.releaseIlk (s : State) (synced : Bool) : State :=
  let s := if s.gate then s.cutMedia else s
  { s with pair := { s.pair with claim := false, tie := false, keeper := if synced || !s.pair.claim then .off else .on } }

/-! ### Inclusion records and FAULT_N (R364, R376 to R380, R473) -/

/-- Conditions that hold FAULT_N asserted (R380). -/
def State.persist (s : State) : Bool :=
  s.time.lostOsc || s.time.lostSys || s.time.lostAudio || s.time.lostDram || s.pins.supplyBad != 0 ||
  wbit (s.reg (aInteg + 0x28)) 8 || s.mem.dramFailed || s.power.dom.any (· == 6) || s.facets.noSpare || s.integ.stopped

/-- FAULT_N is asserted (R380). -/
def State.faultN (s : State) : Bool :=
  s.pins.porLow || s.boot.phase != .ready || wbit (s.reg (aInteg + 0xC)) 0 || s.persist

/-- Unit of a class (Table INTEG-7); CDC_QUEUE and CARAT_EXIT name theirs by place. -/
def classUnit (cls : Nat) : Nat :=
  if cls = 1 then 7 else if cls = 2 ∨ cls = 3 ∨ cls = 0x80 then 11 else if cls = 4 ∨ cls = 0x21 then 12
  else if cls = 0x10 ∨ cls = 0x11 ∨ cls = 0x12 then 1 else if cls = 0x40 ∨ cls = 0x41 then 5
  else if cls = 0x42 ∨ cls = 0x50 ∨ cls = 0x53 ∨ cls = 0x54 then 2 else if cls = 0x51 then 3
  else if cls = 0x70 ∨ cls = 0x71 then 4 else if cls = 0x90 ∨ cls = 0x91 then 10 else 9

/-- A record as KCP carries it: every field big-endian; Check covers the stored, little-endian image (R376). -/
def Incl.stored (r : Incl) : List Byte :=
  let b := leBytes 2 r.cls ++ [BitVec.ofNat 8 (b2n r.dev), BitVec.ofNat 8 r.unit] ++ leBytes 4 r.seq ++ leBytes 8 r.sec ++
    leBytes 4 r.ns ++ leBytes 2 r.flags ++ leBytes 2 r.inst ++ leBytes 8 r.block ++ leBytes 8 r.addr ++
    ((r.detail.map fun w => leBytes 4 w.toNat).flatten ++ zeros 16).take 16 ++ leBytes 4 r.rep
  b ++ leBytes 4 (crc32c b).toNat

def Incl.kcp (r : Incl) : List Byte :=
  beBytes 2 r.cls ++ [BitVec.ofNat 8 (b2n r.dev), BitVec.ofNat 8 r.unit] ++ beBytes 4 r.seq ++ beBytes 8 r.sec ++
    beBytes 4 r.ns ++ beBytes 2 r.flags ++ beBytes 2 r.inst ++ beBytes 8 r.block ++ beBytes 8 r.addr ++
    ((r.detail.map fun w => beBytes 4 w.toNat).flatten ++ zeros 16).take 16 ++ beBytes 4 r.rep ++ beBytes 4 (leAt r.stored 60 4)

/-- What a detector reports. -/
structure Det where
  cls : Nat
  dev : Bool
  inst : Nat := 0
  unit : Option Nat := none
  flags : Nat := 0
  addr : Nat := 0
  detail : List Word := []
  deriving DecidableEq, Repr

/-- Keep the newest `n` entries. -/
def newest {α : Type} (n : Nat) (l : List α) : List α := l.drop (l.length - n)

/-- Write a record into the Table ring (R376, R377). -/
def State.writeRecord (s : State) (r : Incl) : State :=
  let seq := (s.reg (aInteg + 0x10)).toNat
  let r := { r with seq := seq }
  let full := s.integ.log.length ≥ 1024
  let lost := full && (match s.integ.log.head? with | some o => s.integ.uncopied.contains o.seq | none => false)
  let drop := (s.integ.log.head?.map (·.seq))
  let unc := if lost then s.integ.uncopied.filter fun q => some q != drop else s.integ.uncopied
  let s := { s with integ := { s.integ with log := newest 1024 (s.integ.log ++ [r]), uncopied := unc ++ [seq] } }
  let s := (s.setReg (aInteg + 0x10) (BitVec.ofNat 32 (seq + 1))).count (aInteg + 0x90)
  if lost then (s.raise (aInteg + 4) 1).count (aInteg + 0xA0) else s

/-- The record of a detection, stamped (R376). -/
def State.recordOf (s : State) (d : Det) (released : Bool) (rep : Nat) : Incl :=
  { cls := d.cls, dev := d.dev, unit := d.unit.getD (classUnit d.cls), sec := secOf s.nowNs, ns := nsOf s.nowNs,
    flags := d.flags + b2n (!s.loaded) + 32 * b2n released, inst := d.inst,
    block := if s.render.run then s.render.n + 2 else 0, addr := d.addr, detail := d.detail, rep := rep }

/-- A D record with a synchronised peer releases the interlock and sends NOTICE (R389), outside STANDBY and SLEEP (R419). -/
def State.mayRelease (s : State) : Bool := s.pairEn && s.pair.claim && s.peerSync == 5 && decide (s.power.st < 2)

/-- The effect of a D detection besides its record: FAULT, the release, and the loss of synchronisation (R364, R380, R389, R407). -/
def State.devFault (s : State) (cls : Nat) : State :=
  let s1 := s.raise (aInteg + 0xC) 1
  let s2 := if s.mayRelease then
      let r := (s1.bezel (.notice cls)).releaseIlk true
      { r with pair := { r.pair with releasedFault := true } }
    else s1
  s2.toCold

/-- Report a detection (R363, R364, R376 to R378, R380). -/
def State.report (s : State) (d : Det) : State :=
  let unit := d.unit.getD (classUnit d.cls)
  let rel := d.dev && s.mayRelease
  let wasStandby := s.standby
  let s1 := if d.dev then s.devFault d.cls else s
  let sameCls := fun (e : Nat × Nat × Nat × Bool × Nat) => e.1 == d.cls && e.2.1 == unit && e.2.2.1 == d.inst
  let again := fun (e : Nat × Nat × Nat × Bool × Nat) =>
    if sameCls e then (e.1, e.2.1, e.2.2.1, e.2.2.2.1, e.2.2.2.2 + 1) else e
  if s.integ.recent.any sameCls then
    ({ s1 with integ := { s1.integ with recent := s1.integ.recent.map again } }).count (aInteg + 0x98)
  else
    let r := s.recordOf d rel 0
    let seq := (s.reg (aInteg + 0x10)).toNat
    let s2 := s1.writeRecord r
    let s3 := { s2 with integ := { s2.integ with recent := s2.integ.recent ++ [(d.cls, unit, d.inst, d.dev, 0)] } }
    if d.dev && !wasStandby && s.serving then s3.eventAny 0x8000 ({ r with seq := seq }).kcp else s3

/-! ### Acceptance into the delta (R19, R201) -/

/-- The boundary at which something accepted now takes effect (R19). -/
def State.acceptAt (s : State) : Nat := if s.delta.cutoff then s.render.n + 2 else s.render.n + 1

/-- Enter something in the pending state delta. -/
def State.enter (s : State) (e : Entry) : State :=
  { s with delta := { s.delta with entries := s.delta.entries ++ [e] } }

/-! ### The render's tables -/

def State.zone (s : State) (z : Nat) : Zone := mget {} s.render.zones z
def State.zoneRt (s : State) (z : Nat) : ZoneRt := mget {} s.render.zoneRt z
def State.obj (s : State) (o : Nat) : Obj := mget {} s.render.objs o
def State.objRt (s : State) (o : Nat) : ObjRt := mget {} s.render.objRt o
def State.feed (s : State) (f : Nat) : Feed := mget {} s.render.feeds f
def State.chain (s : State) (f : Nat) : Chain := mget {} s.render.chains f
def State.feedRt (s : State) (f : Nat) : FeedRt := mget {} s.render.feedRt f
def State.routeRt (s : State) (r : Nat) : RouteRt := mget {} s.render.routes r

def State.modZone (s : State) (z : Nat) (f : Zone → Zone) : State :=
  { s with render := { s.render with zones := mmod {} s.render.zones z f } }
def State.modZoneRt (s : State) (z : Nat) (f : ZoneRt → ZoneRt) : State :=
  { s with render := { s.render with zoneRt := mmod {} s.render.zoneRt z f } }
def State.modObj (s : State) (o : Nat) (f : Obj → Obj) : State :=
  { s with render := { s.render with objs := mmod {} s.render.objs o f } }
def State.modObjRt (s : State) (o : Nat) (f : ObjRt → ObjRt) : State :=
  { s with render := { s.render with objRt := mmod {} s.render.objRt o f } }
def State.modFeed (s : State) (f : Nat) (g : Feed → Feed) : State :=
  { s with render := { s.render with feeds := mmod {} s.render.feeds f g } }
def State.modChain (s : State) (f : Nat) (g : Chain → Chain) : State :=
  { s with render := { s.render with chains := mmod {} s.render.chains f g } }
def State.modFeedRt (s : State) (f : Nat) (g : FeedRt → FeedRt) : State :=
  { s with render := { s.render with feedRt := mmod {} s.render.feedRt f g } }
def State.modRoute (s : State) (r : Nat) (g : RouteRt → RouteRt) : State :=
  { s with render := { s.render with routes := mmod {} s.render.routes r g } }

/-- Whether any zone is enabled. -/
def State.anyZone (s : State) : Bool := s.render.zones.any fun e => e.2.enable

/-- The render rate in Hz. -/
def State.fs (s : State) : Nat := if s.render.rate96 then 96000 else 48000

/-- Keys a sparse table lists. -/
def keys {α : Type} (m : SMap α) : List Nat := m.map (·.1)

end Sys2Proof.Machine
end

