-- ==== Sys2Proof/Machine/Kcp.lean ====
section
/-! DEFINITION. The Kortum Command Protocol (07): a command as Ganen handles it, what an opcode says of itself, the checks of
Table KCP-3 up to check 11, and replies. -/

namespace Sys2Proof.Machine

/-! ### Status codes (Table KCP-5) -/

def stOK : Nat := 0
def stPartial : Nat := 1
def stPending : Nat := 2
def stStaged : Nat := 3
def stBadVersion : Nat := 0x101
def stBadHeader : Nat := 0x102
def stUnknown : Nat := 0x103
def stBadLength : Nat := 0x104
def stNoSession : Nat := 0x201
def stStale : Nat := 0x202
def stNotPermitted : Nat := 0x203
def stNotActive : Nat := 0x204
def stBadParam : Nat := 0x301
def stCapacity : Nat := 0x302
def stBusy : Nat := 0x303
def stConflict : Nat := 0x304
def stTooLate : Nat := 0x305
def stTxnNone : Nat := 0x401
def stTxnNotEligible : Nat := 0x402
def stTxnFull : Nat := 0x403
def stTxnLimit : Nat := 0x404
def stRolledBack : Nat := 0x405
def stUnitFailed : Nat := 0x501
def stInternal : Nat := 0x502

/-- A rejection. DEDUCED, log 26. -/
def reject (status : Nat) (unit : Nat := 0) (reason : Nat := 0) : ReplyRec := { status := status, unit := unit, reason := reason }

/-! ### A command -/

/-- A command that has passed its framing: what an opcode's rules see. DEDUCED, log 28. -/
structure Cmd where
  ep : Endpoint
  sess : Nat
  seq : Nat
  op : Nat
  txn : Nat
  tagged : Bool
  payload : List Byte
  otpFault : Bool := false
  deriving DecidableEq, Repr

/-- The field of `n` bytes at offset `o` from byte 0 of the packet (R222). -/
def Cmd.at (c : Cmd) (o n : Nat) : Nat := beAt c.payload (o - 20) n

/-- The signed field of `n` bytes at offset `o`. -/
def Cmd.int (c : Cmd) (o n : Nat) : Int := beIntAt c.payload (o - 20) n

/-- The bytes from offset `o`. -/
def Cmd.bytes (c : Cmd) (o : Nat) : List Byte := c.payload.drop (o - 20)

/-- Length of the payload. -/
def Cmd.plen (c : Cmd) : Nat := c.payload.length

/-- A position or velocity at offset `o`. -/
def Cmd.v3 (c : Cmd) (o : Nat) : V3 := { x := c.int o 4, y := c.int (o + 4) 4, z := c.int (o + 8) 4 }

/-- A time field (R226), in ns from the epoch; 0 for untimed. -/
def Cmd.time (c : Cmd) (o : Nat) : Nat := c.at o 8 * 1000000000 + c.at (o + 8) 4

/-- A time field whose nanoseconds are out of range. -/
def Cmd.badTime (c : Cmd) (o : Nat) : Bool := c.at (o + 8) 4 > 999999999

/-- A time more than 10 s after the current media time (R39, R209). -/
def tooFar (s : State) (ns : Nat) : Bool := ns > s.lNs + 10000000000

/-- The offset of the first parameter that breaks its range. -/
def firstBad : List (Bool × Nat) → Option Nat
  | [] => none
  | (bad, o) :: t => if bad then some o else firstBad t

/-- Checks of a field that a Mask selects (R223). -/
def sel (mask bit : Nat) (bad : Bool) (o : Nat) : Bool × Nat := (mask.testBit bit && bad, o)

/-- A Mask of 0, or one that sets a bit its layout does not define (R223). -/
def badMask (mask bits : Nat) : Bool := mask = 0 || mask ≥ 2 ^ bits

/-! ### What an opcode says of itself -/

/-- An opcode's rules. `atOnce` says that the command is handled at once (R202, R474) by `run`; another is prepared, entered
in the delta, and applied by `apply` at its boundary, with the units that failed to prepare. PRESUMED, log 27. -/
structure OpSpec where
  txn : Bool := false
  standby : Bool := false
  spi : Bool := false
  atOnce : Cmd → State → Bool := fun _ _ => true
  units : Cmd → State → List Nat := fun _ _ => [1]
  len : Cmd → Bool := fun c => c.plen == 4
  permit : Cmd → State → Option Nat := fun _ _ => none
  param : Cmd → State → Option Nat := fun _ _ => none
  busy : Cmd → State → Option ReplyRec := fun _ _ => none
  run : Cmd → State → State × ReplyRec × List Byte := fun _ s => (s, reject stOK, [])
  data : Cmd → State → List Byte := fun _ _ => []
  apply : Cmd → List Nat → State → State := fun _ _ s => s
  scalars : Cmd → State → Nat := fun _ _ => 0
  firs : Cmd → State → List (Nat × Nat) := fun _ _ => []
  /-- What enters the delta, or is staged, in the command's place, and the state beside it (R225). -/
  accept : Cmd → State → Cmd × State := fun c s => (c, s)
  /-- What a command whose parameters fail leaves behind (R225). -/
  spoil : Cmd → State → State := fun _ s => s
  /-- Feeds that the command changes beside those of a safe-load set (Table KCP-7). -/
  feeds : Cmd → State → List Nat := fun _ _ => []
  /-- Random draws that the accepted command calls for, by kind (0 decorrelator, 1 probe, 2 RTP) and index (Table PAIR-7). -/
  seeds : Cmd → State → List (Nat × Nat) := fun _ _ => []
  /-- The header's Transaction field is the command's own operand (R205, R208, R210). -/
  ownTxn : Bool := false
  /-- What follows the reply to a command that was answered OK. -/
  after : Cmd → State → State := fun _ s => s

/-! ### Framing: checks 1 to 5 -/

/-- The header and payload of a packet, as the Carat covers them. -/
def packetHead (op : Nat) (p : Packet) : List Byte :=
  beBytes 2 p.magic.toNat ++ [p.version, p.flags] ++ beBytes 4 p.length.toNat ++ beBytes 4 p.seq.toNat ++
    [p.session, p.reserved] ++ beBytes 2 op ++ beBytes 4 p.txn.toNat ++ p.payload

/-- A packet's bytes as they arrive. -/
def wire (op : Nat) (p : Packet) : List Byte := packetHead op p ++ beBytes 4 p.carat.toNat ++ p.tag

/-- AUTH. -/
def hasAuth (p : Packet) : Bool := p.flags.getLsbD 2

/-- Arrives by UDP. -/
def isUdp (e : Endpoint) : Bool := match e with | .udp .. => true | _ => false
def isSpi (e : Endpoint) : Bool := match e with | .spi => true | _ => false
def isPcie (e : Endpoint) : Bool := match e with | .pcie _ => true | _ => false

/-- The packet that bytes spell, with its opcode; `none` below the 24 bytes that a header and a Carat need. -/
def parsePacket (e : Endpoint) (b : List Byte) : Option (Nat × Packet) :=
  if b.length < 24 then none
  else
    let tag := if isUdp e && (nth 0 b 3).getLsbD 2 && decide (40 ≤ b.length) then 16 else 0
    let n := b.length - 4 - tag
    some (beAt b 14 2, {
      ep := e, received := b.length, magic := BitVec.ofNat 16 (beAt b 0 2), version := nth 0 b 2, flags := nth 0 b 3
      length := BitVec.ofNat 32 (beAt b 4 4), seq := BitVec.ofNat 32 (beAt b 8 4), session := nth 0 b 12, reserved := nth 0 b 13
      txn := BitVec.ofNat 32 (beAt b 16 4), payload := (b.take n).drop 20, carat := BitVec.ofNat 32 (beAt b n 4), tag := b.drop (n + 4) })

/-- The largest packet of a transport, its tag included (R192); NETPORT_CTL.JUMBO selects jumbo frames. -/
def packetLimit (s : State) (e : Endpoint) : Nat :=
  match e with
  | .pcie _ => 65560
  | .spi => 4096
  | .udp k _ _ => if wbit (s.reg (aNet k.val)) 17 then 8972 else 1472

/-- Check 1. -/
def badFrame (s : State) (p : Packet) : Bool :=
  let tag := if isUdp p.ep && hasAuth p then 16 else 0
  let n := p.length.toNat
  p.magic ≠ 0x4B43 || n < 24 || n % 4 ≠ 0 || n + tag > packetLimit s p.ep || n + tag ≠ p.received || p.payload.length + 24 ≠ n

/-- Check 2. -/
def badCarat (op : Nat) (p : Packet) : Bool := crc32c (packetHead op p) ≠ p.carat

/-- The tag of R200 under a session's key, if its slot holds one. -/
def tagOf (s : State) (op : Nat) (p : Packet) : Option (List Byte) :=
  (nth none s.sec.keys p.session.toNat).map fun k => (hmac256 k.key (packetHead op p ++ beBytes 4 p.carat.toNat)).take 16

/-- Lifecycle FIELD or RETURN. -/
def State.locked (s : State) : Bool := s.sec.lifecycle == 2 || s.sec.lifecycle == 3

/-- Check 3. -/
def badTag (s : State) (op : Nat) (p : Packet) : Bool :=
  isUdp p.ep && (if hasAuth p then tagOf s op p ≠ some p.tag else s.locked)

/-- Check 5. -/
def badHeader (p : Packet) : Bool :=
  (p.flags &&& 0xFB) ≠ 0 || p.reserved ≠ 0 || (hasAuth p && !isUdp p.ep)

/-! ### Sessions: checks 6 and 7 (R196 to R198) -/

/-- Whether session `x` is open and bound to an endpoint. -/
def State.bound (s : State) (x : Nat) (e : Endpoint) : Bool := (s.sess x).isOpen && (s.sess x).ep == e

/-- What the window says of an arriving number. -/
inductive SeqIs where
  | new | stale | dup
  deriving DecidableEq, Repr

/-- The test of R197 and the new H and window. -/
def seqTest (h seen q : Nat) : SeqIs × Nat × Nat :=
  let d := (q + 2 ^ 32 - h) % 2 ^ 32
  if 1 ≤ d ∧ d < 2 ^ 31 then (.new, q, (seen * 2 ^ (min d 64) + 1) % 2 ^ 64)
  else
    let back := (h + 2 ^ 32 - q) % 2 ^ 32
    if back > 63 then (.stale, h, seen)
    else if seen.testBit back then (.dup, h, seen)
    else (.new, h, seen + 2 ^ back)

/-- Numbers still in the window keep their replies. -/
def pruneReplies (h : Nat) (l : List (Nat × Option ReplyRec)) : List (Nat × Option ReplyRec) :=
  l.filter fun e => (h + 2 ^ 32 - e.1) % 2 ^ 32 ≤ 63

/-- Consume a number. DEDUCED, log 23. -/
def State.takeSeq (s : State) (x q : Nat) : State :=
  s.setSess x fun t =>
    let r := seqTest t.h t.seen q
    { t with h := r.2.1, seen := r.2.2, replies := pruneReplies r.2.1 (t.replies ++ [(q, none)]) }

/-- A session closed (R196): its transaction goes, its pending commits stay. -/
def Session.shut (t : Session) : Session := { t with isOpen := false, txn := none }

/-- Close a session. -/
def State.closeSess (s : State) (x : Nat) : State := s.setSess x Session.shut

/-- What a peer is told of a session (Table PAIR-7). -/
def Session.image (t : Session) : SessImage :=
  { isOpen := t.isOpen, ep := t.ep, h := t.h, seen := t.seen, evSeq := t.evSeq, mask := t.mask, idle := t.idle,
    tagged := t.tagged, txn := t.txn, timed := t.timed, ver := t.ver }

/-- What the delta carries of a session at each change (Table PAIR-7). -/
def State.sessEntry (s : State) (x : Nat) : Entry :=
  .session x (s.sess x).image

/-- A session as `f` leaves it is staged at the peer (R474). -/
def State.stageAs (s : State) (x : Nat) (f : Session → Session) : State :=
  if s.paired then
    let s1 := s.setSess x fun t => { t with ver := t.ver + 1 }
    s1.bezel (.staged (.session x (f (s1.sess x)).image))
  else s

/-- A change of a session is staged at the peer. -/
def State.stageSess (s : State) (x : Nat) : State := s.stageAs x id

/-! ### Replies (R194, R198, R202) -/

/-- Whether a reply answers a packet that consumed its number (R197): a query never does, and an open without a tag only where it
opens. -/
def consumed (op : Nat) (tagged : Bool) (r : ReplyRec) : Bool := op ≠ 3 && (op ≠ 1 || tagged || r.status = stOK)

/-- Send a reply. -/
def State.sendReply (s : State) (ep : Endpoint) (x q op txn : Nat) (tagged : Bool) (r : ReplyRec) (data : List Byte) : State :=
  s.deliver { ep := ep, session := x, seq := q, op := op, txn := txn, tagged := tagged, body := .reply r false data }

/-- Record a reply beside its number in the window, and send it. An open with a tag consumes its number in the session that it names,
whoever holds it. -/
def State.reply (s : State) (ep : Endpoint) (x q op txn : Nat) (tagged : Bool) (r : ReplyRec) (data : List Byte) : State :=
  let note := fun (e : Nat × Option ReplyRec) => if e.1 = q ∧ e.2 = none then (e.1, some r) else e
  let s' := if (s.bound x ep || (op = 1 && tagged)) && consumed op tagged r then
      s.setSess x fun t => { t with replies := t.replies.map note }
    else s
  s'.sendReply ep x q op txn tagged r data

def State.replyTo (s : State) (c : Cmd) (r : ReplyRec) (data : List Byte) : State :=
  s.reply c.ep c.sess c.seq c.op c.txn c.tagged r data

/-- The reply of a packet that fails before its number is tested. -/
def State.turnAway (s : State) (c : Cmd) (status : Nat) : State :=
  s.sendReply c.ep c.sess c.seq c.op c.txn c.tagged (reject status 1) []

/-- Units touched, as the reply's bit field. -/
def unitBits (us : List Nat) : Nat := nsum (us.map fun u => 2 ^ u)

/-! ### Units (R204, Table KCP-6) -/

/-- Why a unit cannot prepare: the failed power domain, or none (R195). -/
def unitDown (s : State) (u : Nat) : Option Nat :=
  let failed := fun (d : Nat) => nth 0 s.power.dom d == 6
  let one := fun (d : Nat) => if failed d then some d else none
  if u = 2 then one 2
  else if u = 3 ∨ u = 5 then (if [4, 5, 6, 7].all failed then some 4 else none)
  else if u = 4 then one 8 else if u = 6 then one 3 else if u = 8 then one 9
  else if u = 9 then (if failed 10 then some 10 else if s.mem.dramFailed then some 0xFFFF else none)
  else none

/-- The units of a command that cannot prepare. -/
def failedUnits (s : State) (us : List Nat) : List Nat := us.filter fun u => (unitDown s u).isSome

/-- The reply of a command by what its units answer (R204); `k` is its boundary. -/
def unitReply (s : State) (us : List Nat) (k : Nat) : ReplyRec :=
  let bad := failedUnits s us
  match bad with
  | [] => { status := stOK, boundary := k, touched := unitBits us, succeeded := unitBits us }
  | u :: _ =>
    if bad.length = us.length then
      { status := stUnitFailed, unit := u, reason := (unitDown s u).getD 0xFFFF, touched := unitBits us }
    else
      { status := stPartial, unit := u, reason := stUnitFailed, boundary := k, touched := unitBits us,
        succeeded := unitBits (us.filter fun x => !bad.contains x) }

/-! ### Permission: check 10 (R203, R220) -/

/-- What an opcode may do on this transport, and in this role. -/
def notAllowed (spec : OpSpec) (c : Cmd) (s : State) : Option Nat :=
  if isSpi c.ep && !spec.spi then some stNotPermitted
  else match spec.permit c s with
    | some st => some st
    | none => if s.standby && !spec.standby then some stNotActive else none

/-! ### Transactions: check 11 (R205 to R207) -/

/-- Bytes that a session's open transaction may stage (R206). -/
def stageLimit : Nat := 2 ^ 20

/-- The rules for a command that carries an identifier. -/
def txnCheck (spec : OpSpec) (c : Cmd) (s : State) : Option Nat :=
  if c.txn = 0 || spec.ownTxn then none
  else match (s.sess c.sess).txn with
    | none => some stTxnNone
    | some t =>
      if t.id ≠ c.txn then some stTxnNone
      else if !spec.txn then some stTxnNotEligible
      else if t.bytes + c.plen > stageLimit then some stTxnFull
      else none

/-- Stage a command whose packet carried `n` bytes of payload (R206). -/
def State.stage (s : State) (c : Cmd) (n : Nat) : State :=
  s.setSess c.sess fun q => { q with txn := q.txn.map fun t =>
    { t with cmds := t.cmds ++ [{ seq := c.seq, op := c.op, payload := c.payload }], bytes := t.bytes + n } }

/-! ### Targets and groups (R44, R224) -/

/-- Whether a Target code names something. -/
def badTarget (t : Nat) : Bool := !(t < 1024 || (0x8000 ≤ t && t < 0x8040))

/-- The feeds that a Target names, as the groups stand in `s`. -/
def targets (s : State) (t : Nat) : List Nat :=
  if t < 1024 then [t]
  else (s.render.feeds.filter fun e => e.2.groups.testBit (t - 0x8000)).map (·.1)

/-- Members of zone `z`'s layout (R54). -/
def State.layoutOf (s : State) (z : Nat) : List (Nat × Feed) := layoutFeeds s.render.feeds z

end Sys2Proof.Machine
end

