-- ==== Sys2Proof/Machine/Zones.lean ====
section
/-! DEFINITION. Zones, feeds and layout solves: the opcodes of group 0x01 (R31 to R33, R42 to R44, R52 to R62, R231, R232, R246). -/

namespace Sys2Proof.Machine

/-! ### Solves (R55, R59 to R61) -/

/-- Ask for a solve of a zone (R55). It starts once everything that the boundary in hand changes has been applied, since solves run
below command interpretation; where one runs, it follows that one's end (R59). A standby never solves (R60). DEDUCED, log 186. -/
def State.startSolve (s : State) (z : Nat) : State := if s.standby then s else s.modZoneRt z fun r => { r with again := true }

/-- A solve of a zone starts, on its input as it stands. -/
def State.beginSolve (s : State) (z : Nat) : State :=
  let zn := s.zone z
  let fs := s.layoutOf z
  let why := solveReason zn fs
  let l := if why = 0 then solve zn fs else {}
  s.modZoneRt z fun r => { r with
    solving := true, again := false, failed := false, reason := 0,
    run := { l with enabled := zn.enable, method := zn.method }, runReason := why }

/-- A solve that was asked for starts, unless the zone's last one still runs. -/
def State.solveAsked (s : State) (z : Nat) : State :=
  if (s.zoneRt z).again && !(s.zoneRt z).solving then s.beginSolve z else s

/-- A solve ends: its structure is pending, or it fails (R55, R59, R60). DEDUCED, log 77. -/
def State.solveDone (s : State) (z us : Nat) (tooBig : Bool) : State :=
  let r := s.zoneRt z
  if !r.solving then s
  else
    let why := if r.runReason ≠ 0 then r.runReason else if tooBig then 4 else 0
    let s1 :=
      if why = 0 then s.modZoneRt z fun q => { q with solving := false, lastUs := us, pending := some q.run, failed := false, reason := 0 }
      else
        let empty := !r.live.enabled
        let none' : Layout := { enabled := r.run.enabled, method := r.run.method }
        ((s.modZoneRt z fun q => { q with
            solving := false, lastUs := us, failed := true, reason := why,
            pending := if empty then some none' else q.pending }).raise (aPav + 4) 2).event 0x8100
          [BitVec.ofNat 8 z, BitVec.ofNat 8 why, 0, 0]
    if r.again then s1.beginSolve z else s1

/-- The snap state of a zone's objects goes with the outgoing layout, and the new one starts from a copy (R68). -/
def State.copySnaps (s : State) (z : Nat) : State :=
  { s with render := { s.render with objRt := s.render.objRt.map fun e =>
      if (s.obj e.1).zone = z then (e.1, { e.2 with snapOut := e.2.snapLive }) else e } }

/-- A layout becomes the live one at the boundary in hand (R60, R61). -/
def State.switchLayout (s : State) (z : Nat) (l : Layout) : State :=
  ((s.modZoneRt z fun r => { r with outgoing := some r.live, live := l, xStart := s.render.n + 2 }).copySnaps z).event 0x8101
    ([BitVec.ofNat 8 z, 0] ++ beBytes 2 (((s.zoneRt z).gen + 1) % 2 ^ 16) ++ beBytes 8 s.render.n)

/-- Switch in a zone's oldest waiting layout, unless a crossfade runs. -/
def State.switchDue (s : State) (z : Nat) : State :=
  match (s.zoneRt z).outgoing, (s.zoneRt z).due with
  | none, l :: t => (s.modZoneRt z fun r => { r with due := t }).switchLayout z l
  | _, _ => s

/-- The LAYOUT entry takes effect (R60). -/
def State.layoutEntry (s : State) (z : Nat) (l : Layout) : State :=
  (s.modZoneRt z fun r => { r with entered := r.entered.drop 1, due := r.due ++ [l] }).switchDue z

/-- Place of block `b` in a zone's layout crossfade, from 1, at most its length, which is the zone's at that block. DESIGN CHOICE,
log 76. -/
def layoutPlace (zn : Zone) (r : ZoneRt) (b : Nat) : Nat := min zn.xfade (b + 1 - r.xStart)

/-- The old layout is discarded once the block at w = 1 has been computed (R61). DEDUCED, log 76. -/
def State.layoutXfadeEnd (s : State) (z : Nat) : State :=
  let r := s.zoneRt z
  if r.outgoing.isSome && s.render.n + 3 ≥ r.xStart + (s.zone z).xfade then
    s.modZoneRt z fun q => { q with outgoing := none, gen := (q.gen + 1) % 2 ^ 16 }
  else s

/-- The solve state code of Table PAV-8. -/
def ZoneRt.code (r : ZoneRt) : Nat :=
  if r.failed then 4 else if r.outgoing.isSome then 3 else if r.solving then 1
  else if r.pending.isSome || !r.entered.isEmpty || !r.due.isEmpty then 2 else 0

/-- PAV_ZONE_STATUS_z (Table PAV-8). -/
def zoneStatus (s : State) (z : Nat) : Word :=
  let r := s.zoneRt z
  BitVec.ofNat 32 (r.gen * 2 ^ 16 + r.code * 2 ^ 8 + r.reason * 2 ^ 4 + b2n (r.live.virtuals ≠ 0) * 8 + r.live.method)

/-! ### Withdrawal (R54) -/

/-- Whether a feed is a member of its zone's layout. -/
def Feed.member (f : Feed) : Bool := f.enable && !f.aux && !f.withdrawn && f.zone != 0xFF

/-- Start the solves that a change of a feed from `a` to `b` calls for (R55). -/
def State.resolveFor (s : State) (a b : Feed) : State :=
  let touch := fun (s : State) (z : Nat) => s.startSolve z
  if a.member then
    if b.member then
      if a.zone = b.zone then (if a.pos = b.pos then s else touch s a.zone) else touch (touch s a.zone) b.zone
    else touch s a.zone
  else if b.member then touch s b.zone else s

/-- Change a feed, with the solves that follow. -/
def State.changeFeed (s : State) (f : Nat) (g : Feed → Feed) : State :=
  (s.modFeed f g).resolveFor (s.feed f) (g (s.feed f))

/-- Withdraw a feed of role LAYOUT. -/
def State.withdraw (s : State) (f : Nat) : State :=
  if (s.feed f).aux then s else s.changeFeed f fun q => { q with withdrawn := true }

/-- End a feed's withdrawal. -/
def State.unwithdraw (s : State) (f : Nat) : State := s.changeFeed f fun q => { q with withdrawn := false }

/-! ### ZONE_SET and ZONE_EXCL_SET (R231) -/

/-- A zone is enabled: gains of its objects, and of their routes, start from 0 (R74, R95). -/
def State.zoneStarts (s : State) (z : Nat) : State :=
  let os := (s.render.objs.filter fun e => e.2.zone == z).map (·.1)
  let s1 := os.foldl (fun s o => s.modObjRt o fun r => { r with fromZero := true }) s
  { s1 with render := { s1.render with routes := s1.render.routes.map fun e =>
      match e.2.cur with
      | some r => if os.contains r.obj then (e.1, { e.2 with prevQ := 0, tgtQ := 0 }) else e
      | none => e } }

/-- A zone is disabled: it renders nothing, so what a route crossfade holds of it, or for its objects, is heard no more (R32, R36). -/
def State.zoneStops (s : State) (z : Nat) : State :=
  { s with render := { s.render with objRt := s.render.objRt.map fun e =>
      if (s.obj e.1).zone = z ∨ e.2.oldZone = z then (e.1, { e.2 with oldDirect := [], oldDiffuse := [], oldZone := 0xFF }) else e } }

/-- The zone that a ZONE_SET gives. -/
def zoneSet (c : Cmd) (zn : Zone) : Zone :=
  let m := c.at 24 4
  let on := fun (b : Nat) => m.testBit b
  { zn with
    enable := if on 0 then c.at 28 1 == 1 else zn.enable
    method := if on 1 then c.at 29 1 else zn.method
    xfade := if on 2 then c.at 30 2 else zn.xfade
    ref := if on 3 then c.v3 32 else zn.ref
    c := if on 4 then c.at 44 4 else zn.c
    rho := if on 5 then c.at 48 2 else zn.rho
    alpha := if on 6 then c.at 50 2 else zn.alpha
    blur := if on 7 then c.at 52 4 else zn.blur
    jump := if on 8 then c.at 56 2 else zn.jump }

def specZoneSet : OpSpec where
  txn := true
  atOnce := fun _ _ => false
  units := fun _ _ => [2]
  len := fun c => c.plen == 40
  param := fun c _ =>
    let m := c.at 24 4
    firstBad [(c.at 20 2 > 15, 20), (badMask m 9, 24), sel m 0 (c.at 28 1 > 1) 28, sel m 1 (c.at 29 1 > 1) 29,
      sel m 2 (c.at 30 2 = 0 || c.at 30 2 > 256) 30, sel m 4 (c.at 44 4 < 300000 || c.at 44 4 > 360000) 44,
      sel m 5 (c.at 48 2 > 2400) 48, sel m 6 (c.at 50 2 > 1000) 50, sel m 7 (c.at 52 4 > 100000) 52,
      sel m 8 (c.at 56 2 ≠ 0 && (c.at 56 2 < 9 || c.at 56 2 > 4096)) 56]
  apply := fun c bad s =>
    if bad.contains 2 then s else
    let z := c.at 20 2
    let a := s.zone z
    let b := zoneSet c a
    let s1 := s.modZone z fun _ => b
    let s2 := if !a.enable && b.enable then s1.zoneStarts z else if a.enable && !b.enable then s1.zoneStops z else s1
    if a.enable ≠ b.enable ∨ a.ref ≠ b.ref ∨ a.method ≠ b.method then s2.startSolve z else s2

def specZoneExclSet : OpSpec where
  txn := true
  atOnce := fun _ _ => false
  units := fun _ _ => [2]
  len := fun c => c.plen == 28
  param := fun c _ =>
    firstBad [(c.at 20 2 > 15, 20), (c.at 22 1 > 7, 22), (c.at 23 1 > 1, 23), (c.int 24 4 > c.int 28 4, 24),
      (c.int 32 4 > c.int 36 4, 32), (c.int 40 4 > c.int 44 4, 40)]
  apply := fun c bad s =>
    if bad.contains 2 then s else
    let e : Excl :=
      { on := c.at 23 1 == 1, lo := { x := c.int 24 4, y := c.int 32 4, z := c.int 40 4 },
        hi := { x := c.int 28 4, y := c.int 36 4, z := c.int 44 4 } }
    s.modZone (c.at 20 2) fun zn => { zn with excl := zn.excl.set (c.at 22 1) e }

/-- A position in a payload. -/
def v3Bytes (v : V3) : List Byte := beInt 4 v.x ++ beInt 4 v.y ++ beInt 4 v.z

/-- Bytes 28 to 59 of Table CMD-3. -/
def zoneBytes (zn : Zone) : List Byte :=
  [BitVec.ofNat 8 (b2n zn.enable), BitVec.ofNat 8 zn.method] ++ beBytes 2 zn.xfade ++ v3Bytes zn.ref ++ beBytes 4 zn.c ++
    beBytes 2 zn.rho ++ beBytes 2 zn.alpha ++ beBytes 4 zn.blur ++ beBytes 2 zn.jump ++ zeros 2

/-- A region as ZONE_READ gives it. -/
def exclBytes (e : Excl) : List Byte :=
  [BitVec.ofNat 8 (b2n e.on), 0, 0, 0] ++ beInt 4 e.lo.x ++ beInt 4 e.hi.x ++ beInt 4 e.lo.y ++ beInt 4 e.hi.y ++
    beInt 4 e.lo.z ++ beInt 4 e.hi.z

/-- A read's answer. -/
def readOk (s : State) (us : List Nat) (data : List Byte) : State × ReplyRec × List Byte :=
  (s, { status := stOK, touched := unitBits us, succeeded := unitBits us }, data)

def specZoneRead : OpSpec where
  standby := true
  units := fun _ _ => [2]
  param := fun c _ => firstBad [(c.at 20 2 > 15, 20)]
  run := fun c s =>
    let zn := s.zone (c.at 20 2)
    readOk s [2] (zoneBytes zn ++ (zn.excl.map exclBytes).flatten ++ beBytes 2 (s.layoutOf (c.at 20 2)).length ++ zeros 2)

/-! ### FEED_SET (R232, R43) -/

/-- A destination code that Table CMD-5 does not define. -/
def badDest (d : Nat) : Bool :=
  let t := d / 2 ^ 28
  let rest := d % 2 ^ 28
  if t = 0 then rest ≠ 0 else if t = 1 then rest ≥ 2 ^ 9
  else if t = 2 then rest ≥ 2 ^ 16 || rest / 64 < 256 || rest / 64 > 511 else true

/-- The destination code of a TDM output slot. -/
def slotDest (port slot : Nat) : Nat := 2 ^ 28 + port * 32 + slot

/-- The output slot that side-tone route `r` holds, while it is enabled (Table PORT-9). -/
def sideHolds (s : State) (r : Nat) : Option Nat :=
  let w := s.reg (aSide + 0x1000 + 16 * r)
  if wbit w 31 then some (slotDest (wbits w 21 4) (wbits w 16 5)) else none

/-- What already carries a destination, besides feed `f`: a feed or a side-tone route (R43). -/
def destTaken (s : State) (f d : Nat) : Option Nat :=
  match s.render.feeds.find? fun e => e.1 ≠ f && e.2.dest.contains d with
  | some e => some e.1
  | none => (List.range 64).find? fun r => sideHolds s r == some d

/-- The four destinations of a FEED_SET. -/
def feedDests (c : Cmd) : List Nat := [c.at 52 4, c.at 56 4, c.at 60 4, c.at 64 4]

/-- The feed that a FEED_SET gives; `bad` names the units that failed to prepare. -/
def feedSet (c : Cmd) (bad : List Nat) (f : Feed) : Feed :=
  let m := c.at 24 4
  let on := fun (b u : Nat) => m.testBit b && !bad.contains u
  { f with
    enable := if on 0 3 then c.at 28 1 == 1 else f.enable
    zone := if on 1 2 then c.at 29 1 else f.zone
    aux := if on 2 2 then c.at 30 1 == 1 else f.aux
    pos := if on 3 2 then c.v3 32 else f.pos
    groups := if on 4 3 then c.at 44 8 else f.groups
    dest := if on 5 3 then feedDests c else f.dest }

def specFeedSet : OpSpec where
  txn := true
  feeds := fun c _ => [c.at 20 2]
  atOnce := fun _ _ => false
  units := fun _ _ => [2, 3]
  len := fun c => c.plen == 48
  param := fun c s =>
    let m := c.at 24 4
    let g := feedSet c [] (s.feed (c.at 20 2))
    firstBad [(c.at 20 2 > 1023, 20), (badMask m 6, 24), sel m 0 (c.at 28 1 > 1) 28,
      sel m 1 (c.at 29 1 > 15 && c.at 29 1 ≠ 0xFF) 29, sel m 2 (c.at 30 1 > 1) 30,
      sel m 5 (badDest (c.at 52 4)) 52, sel m 5 (badDest (c.at 56 4)) 56, sel m 5 (badDest (c.at 60 4)) 60,
      sel m 5 (badDest (c.at 64 4)) 64, (!g.aux && g.zone == 0xFF, if m.testBit 2 then 30 else 29)]
  busy := fun c s =>
    if (c.at 24 4).testBit 5 then
      ((feedDests c).filter (· ≠ 0)).findSome? fun d => (destTaken s (c.at 20 2) d).map fun i => reject stConflict 3 i
    else none
  apply := fun c bad s => s.changeFeed (c.at 20 2) (feedSet c bad)

/-- Bytes 28 to 67 of Table CMD-4. -/
def feedBytes (f : Feed) : List Byte :=
  [BitVec.ofNat 8 (b2n f.enable), BitVec.ofNat 8 f.zone, BitVec.ofNat 8 (b2n f.aux), 0] ++ v3Bytes f.pos ++ beBytes 8 f.groups ++
    (f.dest.map (beBytes 4)).flatten

def specFeedRead : OpSpec where
  standby := true
  units := fun _ _ => [3]
  param := fun c _ => firstBad [(c.at 20 2 > 1023, 20)]
  run := fun c s =>
    let f := s.feed (c.at 20 2)
    let live := f.zone < 16 && (s.zoneRt f.zone).live.spk.any fun p => p.feed == some (c.at 20 2)
    readOk s [3] (feedBytes f ++ beBytes 4 (b2n f.withdrawn + 2 * b2n live))

def specFeedWithdraw : OpSpec where
  txn := true
  feeds := fun c s => targets s (c.at 20 2)
  atOnce := fun _ _ => false
  units := fun _ _ => [2]
  param := fun c s => firstBad [(badTarget (c.at 20 2) || (c.at 20 2 < 1024 && (s.feed (c.at 20 2)).aux), 20)]
  apply := fun c bad s => if bad.contains 2 then s else (targets s (c.at 20 2)).foldl State.withdraw s

def specLayoutStatus : OpSpec where
  standby := true
  units := fun _ _ => [2]
  param := fun c _ => firstBad [(c.at 20 2 > 15, 20)]
  run := fun c s =>
    let r := s.zoneRt (c.at 20 2)
    readOk s [2] (beBytes 4 (zoneStatus s (c.at 20 2)).toNat ++ beBytes 2 r.live.reals ++ beBytes 2 r.live.virtuals ++
      beBytes 2 r.live.tris.length ++ zeros 2 ++ beBytes 4 r.lastUs)

def specLayoutResolve : OpSpec where
  txn := true
  atOnce := fun _ _ => false
  units := fun _ _ => [2]
  param := fun c _ => firstBad [(c.at 20 2 > 15, 20)]
  apply := fun c bad s => if bad.contains 2 then s else s.startSolve (c.at 20 2)

/-! ### The events of solves and switches -/

/-- SOLVE_COMPLETE (R59, R55). -/
def execSolveComplete (z : Fin 16) (us : Nat) (tooBig : Bool) (s : State) : Host.Outcome State Fault Refusal :=
  .next (s.solveDone z.val us tooBig)

/-- LAYOUT_SWITCH_ENTRY (R60): the pending layout's switch is accepted. -/
def execLayoutSwitchEntry (z : Fin 16) (s : State) : Host.Outcome State Fault Refusal :=
  match (s.zoneRt z.val).pending with
  | none => .next s
  | some l => .next ((s.modZoneRt z.val fun r => { r with pending := none, entered := r.entered ++ [l] }).enter (.layout z.val l))

/-- LAYOUT_XFADE_END (R61). -/
def execLayoutXfadeEnd (z : Fin 16) (s : State) : Host.Outcome State Fault Refusal := .next (s.layoutXfadeEnd z.val)

end Sys2Proof.Machine
end

