-- ==== Sys2Proof/Machine/Objects.lean ====
section
/-! DEFINITION. Objects, positions and route changes: the opcodes of groups 0x02 and 0x03 (R35 to R41, R80 to R83, R87,
R93 to R99, R233 to R236, R246). -/

namespace Sys2Proof.Machine

/-! ### Matrix weight (R93) -/

/-- Weight of an object without a crossfade. DEDUCED, log 68. -/
def objWeight (s : State) (o : Obj) : Nat :=
  if o.zone = 0xFF then 0 else if o.dense then (s.layoutOf o.zone).length else 256

/-- The zone that an object is in once the changes that wait have been made. -/
def zoneAhead (s : State) (o : Nat) : Nat :=
  (s.objRt o).waiting.foldl (fun z w => match w.ch with | .zone z' => z' | _ => z) (s.obj o).zone

/-- The object as the changes that wait leave it. -/
def objAhead (s : State) (o : Nat) : Obj :=
  (s.objRt o).waiting.foldl (fun q w => match w.ch with | .zone z => { q with zone := z } | .dense d => { q with dense := d } | _ => q) (s.obj o)

/-- A change that waits is one of an object's own. -/
def Waiting.own (w : Waiting) : Bool := match w.ch with | .zone _ | .dense _ | .source _ => true | _ => false

/-- The greatest weight of an object: with the old side of the crossfade that runs, or as the old side of the one that waits (R93,
R99). -/
def objPeak (s : State) (o : Nat) : Nat :=
  let r := s.objRt o
  objWeight s (s.obj o) + max r.oldW (if r.waiting.any Waiting.own then objWeight s (objAhead s o) else 0)

/-- The greatest weight that changes which wait can bring: what a commit is held to. DEDUCED, log 68. -/
def matrixPeak (s : State) : Nat :=
  let waits := (s.render.objRt.map fun e => e.2.waiting).flatten
  let asks := fun (r : Nat) => waits.any fun w => match w.ch with
    | .create r' .. | .change r' .. => r' == r | _ => false
  let new := ((waits.filterMap fun w => match w.ch with | .create r .. => some r | _ => none).eraseDups).filter fun r => !mhas s.render.routes r
  nsum (((s.render.objs.map (·.1)) ++ ((s.render.objRt.filter fun e => !mhas s.render.objs e.1).map (·.1))).map (objPeak s)) +
  nsum (s.render.routes.map fun e => b2n e.2.cur.isSome + max (b2n e.2.old.isSome) (b2n (asks e.1))) + new.length

/-- Weight in use (Table MIX-2). -/
def matrixWeight (s : State) : Nat :=
  nsum (s.render.objs.map fun e => objWeight s e.2 + (s.objRt e.1).oldW) +
  nsum ((s.render.objRt.filter fun e => !mhas s.render.objs e.1).map fun e => e.2.oldW) +
  nsum (s.render.routes.map fun e => b2n e.2.cur.isSome + b2n e.2.old.isSome)

/-- The limit at the render rate. -/
def matrixLimit (s : State) : Nat := if s.render.rate96 then 557056 else 1114112

/-! ### Route changes (R96 to R99) -/

/-- A crossfade runs on an object since an earlier boundary; one that starts at this boundary is joined, not waited for. -/
def State.xfBusy (s : State) (o : Nat) : Bool :=
  match (s.objRt o).xf with | some x => x.start ≠ s.render.n + 2 | none => false

/-- Start, or join, the object's crossfade at this boundary; `own` for a change of the object's own zone, dense flag or source,
`pan` where its panned rows change sides. -/
def State.beginXf (s : State) (o n : Nat) (eg own pan : Bool) : State :=
  let w := objWeight s (s.obj o)
  s.modObjRt o fun r =>
    let fresh := r.xf.isNone
    let held := fun (g : SMap GainSt) => g.map fun e => (e.1, e.2.tgtQ)
    if n = 0 && fresh then r else
    { r with
      xf := if n = 0 then r.xf else some { start := s.render.n + 2, n := n, equalGain := eg }
      xfPan := r.xfPan || pan
      oldDirect := if pan && !r.xfPan then held r.direct else r.oldDirect
      oldDiffuse := if pan && !r.xfPan then held r.diffuse else r.oldDiffuse
      oldZone := if pan && !r.xfPan then (s.obj o).zone else r.oldZone
      oldW := if own && !r.xfOwn then w else r.oldW
      xfOwn := r.xfOwn || own }

/-- What an object keeps once it is unassigned and its last crossfade has ended (R36); a muted object stays muted (R41). -/
def ObjRt.cleared (r : ObjRt) : ObjRt := { held := r.held, waiting := r.waiting, seed := r.seed, shed := r.shed, shedAt := r.shedAt }

/-- Objects that a change concerns. -/
def chObjects (s : State) (o : Nat) : RouteCh → List Nat
  | .zone _ | .dense _ | .source _ => [o]
  | .create _ o' _ _ _ _ => [o']
  | .change r o' _ _ _ _ => match (s.routeRt r).cur with | some q => if q.obj = o' then [o'] else [q.obj, o'] | none => [o']
  | .delete r => match (s.routeRt r).cur with | some q => [q.obj] | none => [o]

/-- A route's gain target before ramps (Table MIX-3): its own gain, times the object's where it follows. -/
def routeGain (o : Obj) (q : Route) : Int :=
  if q.follow then (if q.gain = -32768 ∨ o.gain = -32768 then 0 else gainQ (F32.mul (kcpGain q.gain) (kcpGain o.gain)))
  else gainQ (kcpGain q.gain)

/-- Carry out a route change at the boundary in hand. DEDUCED, log 55. -/
def State.doRouteCh (s : State) (o : Nat) (ch : RouteCh) (n : Nat) (eg : Bool) : State :=
  match ch with
  | .zone z =>
    let old := (s.obj o).zone
    if old = z then s else
    let s1 := (s.beginXf o n eg true true).modObj o fun q => { q with zone := z }
    if old = 0xFF then
      s1.modObjRt o fun r => { r with
        assigned := true, fromZero := true, release := false, line := [], air1 := 0, air2 := 0, direct := [], diffuse := [],
        deco := decorrelator (BitVec.ofNat 32 r.seed), decoSt := List.replicate 6 {}, dopOn := (s.obj o).doppler,
        dopFade := none, dopWait := none, extOn := (s.obj o).ext, place := none, jump := none }
    else if z = 0xFF then
      s1.modObjRt o fun r => if n = 0 then r.cleared else { r with release := true, direct := [], diffuse := [] }
    else s1.modObjRt o fun r => { r with atTarget := true, snapLive := none, snapOut := none, direct := [], diffuse := [] }
  | .dense d =>
    if (s.obj o).dense = d then s else
    ((s.beginXf o n eg true true).modObj o fun q => { q with dense := d }).modObjRt o fun r =>
      { r with atTarget := true, direct := [], diffuse := [] }
  | .source c =>
    let old := (s.obj o).source
    if old = c then s else
    ((s.beginXf o n eg true false).modObj o fun q => { q with source := c }).modObjRt o fun r =>
      if n = 0 then r else { r with oldSource := if r.oldSource.isSome then r.oldSource else some old }
  | .create r o' f tap gain follow =>
    let q : Route := { obj := o', feed := f, tap := tap, gain := gain, follow := follow }
    let g := routeGain (s.obj o') q
    (s.beginXf o' n eg false false).modRoute r fun t => { t with cur := some q, fadingIn := n ≠ 0, prevQ := g, tgtQ := g }
  | .change r o' f tap _ _ =>
    match (s.routeRt r).cur with
    | none => s
    | some q =>
      let q' := { q with obj := o', feed := f, tap := tap }
      let g := routeGain (s.obj o') q'
      let s1 := (s.beginXf q.obj n eg false false)
      let s2 := if o' = q.obj then s1 else s1.beginXf o' n eg false false
      s2.modRoute r fun t => { t with
        cur := some q', fadingIn := n ≠ 0, prevQ := g, tgtQ := g
        old := if n = 0 then none else if t.fadingIn then t.old else some q
        oldQ := if t.fadingIn then t.oldQ else t.tgtQ }
  | .delete r =>
    match (s.routeRt r).cur with
    | none => s
    | some q =>
      (s.beginXf q.obj n eg false false).modRoute r fun t => { t with
        cur := none, fadingIn := false
        old := if n = 0 then none else if t.fadingIn then t.old else some q
        oldQ := if t.fadingIn then t.oldQ else t.tgtQ }

/-- A route change falls due: it takes effect, or waits on a running crossfade (R99); each object that it waits on counts it once. -/
def State.routeCh (s : State) (o : Nat) (w : Waiting) : State :=
  let busy := (chObjects s o w.ch).filter s.xfBusy
  match busy with
  | [] => s.doRouteCh o w.ch w.n w.equalGain
  | b :: _ =>
    let new := busy.filter fun x => !w.counted.contains x
    new.foldl (fun s x => s.count (kObj x 2))
      (s.modObjRt b fun r => { r with waiting := r.waiting ++ [{ w with counted := w.counted ++ new }] })

/-- Changes that waited on an object whose crossfade has ended take effect at the boundary in hand. -/
def State.releaseWaiting (s : State) (o : Nat) : State :=
  let r := s.objRt o
  if r.xf.isSome then s
  else r.waiting.foldl (fun s w => s.routeCh o w) (s.modObjRt o fun q => { q with waiting := [] })

/-- An object's route crossfade ends, once its last sample has been rendered (R97, R98). -/
def State.endXf (s : State) (o : Nat) : State :=
  match (s.objRt o).xf with
  | none => s
  | some x =>
    if 16 * (s.render.n + 3) < x.n + 16 * x.start then s
    else
      let gone := (s.obj o).zone = 0xFF
      let s1 := s.modObjRt o fun r =>
        let r' := { r with xf := none, xfPan := false, oldDirect := [], oldDiffuse := [], oldSource := none, oldZone := 0xFF, oldW := 0, xfOwn := false }
        if r.release && gone then r'.cleared else r'
      { s1 with render := { s1.render with routes := s1.render.routes.map fun e =>
          let drop := match e.2.old with | some q => q.obj == o | none => false
          let inn := match e.2.cur with | some q => q.obj == o | none => false
          (e.1, { e.2 with old := if drop then none else e.2.old, fadingIn := if inn then false else e.2.fadingIn }) } }

/-! ### Positions (R38, R39) -/

/-- A position sample arrives at an object: what is held, and whether it is stale (Table MODEL-3A). `ns` is 0 for untimed. -/
def holdSample (mid : Int) (held : List PosSample) (ns : Nat) (p : V3) : List PosSample × Bool :=
  if ns = 0 then ([{ t := mid, pos := p }], false)
  else
    let t : Int := 3 * (ns : Int)
    match held.getLast? with
    | some l => if t < l.t then (held, true) else (newest 4 (held ++ [{ t := t, pos := p }]), false)
    | none => ([{ t := t, pos := p }], false)

/-- Take a sample at the boundary in hand. -/
def State.posSample (s : State) (o ns : Nat) (p : V3) : State :=
  let r := holdSample (midUnits s.render.rate96 (s.render.n + 2)) (s.objRt o).held ns p
  let s1 := (s.modObj o fun q => if r.2 then q else { q with pos := p }).modObjRt o fun q => { q with held := r.1 }
  if r.2 then s1.count (kObj o 0) else s1

/-! ### OBJECT_SET (R233) -/

/-- A source code that Table MIX-1 does not define. -/
def badSource (c : Nat) : Bool :=
  let t := c / 2 ^ 14
  let r := c % 2 ^ 14
  if t = 0 then r ≠ 0 else if t = 1 then r ≥ 2 ^ 9 else if t = 3 then r ≥ 16 else false

/-- A KCP gain outside −32767 to +2400 and mute. -/
def badGain (g : Int) : Bool := g > 2400

/-- Doppler is turned on or off at the boundary in hand (R83). -/
def State.setDoppler (s : State) (o : Nat) (d : Bool) : State :=
  let s1 := s.modObj o fun q => { q with doppler := d }
  if (s.obj o).zone = 0xFF then s1
  else s1.modObjRt o fun r =>
    if r.dopFade.isSome then { r with dopWait := some d }
    else if r.dopOn = d then r
    else { r with dopOn := d, dopFade := some (s.render.n + 2) }

/-- Delay placement changes at the boundary in hand (R81). -/
def State.setPlacement (s : State) (o : Nat) (e : Bool) : State :=
  let s1 := s.modObj o fun q => { q with ext := e }
  if (s.obj o).zone = 0xFF then s1
  else s1.modObjRt o fun r =>
    if r.extOn = e then r
    else if e then { r with extOn := true, line := r.line.take 4096 }
    else if r.dopOn && F32.lt (fN 4091) r.dPrev then
      { r with extOn := false, place := some { start := s.render.n + 2, oldD := r.dPrev } }
    else { r with extOn := false, line := r.line.take 4096 }

/-- The fields of an OBJECT_SET that are plain parameters. -/
def objectSet (c : Cmd) (q : Obj) : Obj :=
  let m := c.at 24 4
  let on := fun (b : Nat) => m.testBit b
  { q with
    velMode := if on 2 then c.at 29 1 else q.velMode
    vel := if on 3 then c.v3 44 else q.vel
    gain := if on 4 then c.int 56 2 else q.gain
    spread := if on 5 then c.at 58 2 else q.spread
    diverge := if on 6 then c.at 60 2 else q.diverge
    distModel := if on 7 then c.at 30 1 else q.distModel
    distRef := if on 8 then c.at 64 4 else q.distRef
    knee := if on 9 then c.at 68 4 else q.knee
    air := if on 11 then (c.at 72 1).testBit 1 else q.air
    prio := if on 12 then c.at 31 1 else q.prio
    exclMask := if on 14 then c.at 73 1 else q.exclMask
    snap := if on 15 then (c.at 72 1).testBit 3 else q.snap
    snapTol := if on 15 then c.at 62 2 else q.snapTol
    smooth := if on 16 then c.at 74 1 else q.smooth }

/-- The units that an OBJECT_SET touches: the matrix for a route change, Pavilion for the rest. -/
def objectUnits (m : Nat) : List Nat :=
  let route := m.testBit 0 || m.testBit 13 || m.testBit 18
  let other := m % 2 ^ 18 - (m % 2) - (if m.testBit 13 then 2 ^ 13 else 0) ≠ 0
  (if other then [2] else []) ++ (if route then [3] else [])

def specObjectSet : OpSpec where
  txn := true
  seeds := fun c s =>
    if (c.at 24 4).testBit 0 && zoneAhead s (c.at 20 2) == 0xFF && c.at 28 1 ≠ 0xFF then [(0, c.at 20 2)] else []
  atOnce := fun _ _ => false
  units := fun c _ => objectUnits (c.at 24 4)
  len := fun c => c.plen == 64
  param := fun c _ =>
    let m := c.at 24 4
    let route := m.testBit 0 || m.testBit 13 || m.testBit 18
    firstBad [(c.at 20 2 > 1023, 20), (badMask m 19, 24), sel m 0 (c.at 28 1 > 15 && c.at 28 1 ≠ 0xFF) 28,
      sel m 2 (c.at 29 1 > 1) 29, sel m 7 (c.at 30 1 > 2) 30, sel m 4 (badGain (c.int 56 2)) 56,
      sel m 15 (c.at 62 2 > 18000) 62, sel m 8 (c.at 64 4 = 0 || c.at 64 4 > 1000000) 64,
      sel m 9 (c.at 68 4 = 0 || c.at 68 4 > 1000000) 68,
      ((m.testBit 10 || m.testBit 11 || m.testBit 13 || m.testBit 15) && c.at 72 1 > 15, 72),
      sel m 16 (c.at 74 1 > 64) 74, sel m 17 (c.at 75 1 > 1) 75, sel m 18 (badSource (c.at 76 2)) 76,
      (route && c.at 78 2 > 4096, 78), (route && c.at 80 1 > 1, 80)]
  apply := fun c bad s =>
    let o := c.at 20 2
    let m := c.at 24 4
    let n := c.at 78 2
    let eg := c.at 80 1 == 1
    let ch := fun (b : Nat) (r : RouteCh) (s : State) =>
      if m.testBit b && !bad.contains 3 then s.routeCh o { ch := r, n := n, equalGain := eg } else s
    let s1 := if bad.contains 2 then s else
      let was := s.obj o
      let s1 := s.modObj o (objectSet c)
      let s1 := if m.testBit 4 && was.gain == -32768 && c.int 56 2 ≠ -32768 then s1.modObjRt o fun r => { r with fromZero := true } else s1
      let s1 := if m.testBit 1 then s1.posSample o 0 (c.v3 32) else s1
      let s1 := if m.testBit 10 then s1.setDoppler o ((c.at 72 1).testBit 0) else s1
      if m.testBit 17 then s1.setPlacement o (c.at 75 1 == 1) else s1
    ch 18 (.source (c.at 76 2)) (ch 13 (.dense ((c.at 72 1).testBit 2)) (ch 0 (.zone (c.at 28 1)) s1))

/-! ### OBJECT_POS_BULK (R234) -/

/-- The entries of a bulk payload: object and position. -/
def bulkEntries (c : Cmd) : List (Nat × V3) :=
  (List.range (c.at 32 2)).map fun i => (c.at (36 + 16 * i) 2, c.v3 (40 + 16 * i))

/-- Whether an index appears twice. -/
def hasDup : List Nat → Bool
  | [] => false
  | x :: t => t.contains x || hasDup t

/-- The entry of a bulk payload that is out of range or repeated: its offset. -/
def badEntry (c : Cmd) : Option Nat :=
  let os := (bulkEntries c).map (·.1)
  (os.zipIdx.find? fun e => e.1 > 1023 || (os.take e.2).contains e.1).map fun e => 36 + 16 * e.2

/-- How many entries of a bulk payload are stale. -/
def staleCount (c : Cmd) (s : State) : Nat :=
  ((bulkEntries c).filter fun e => (holdSample 0 (s.objRt e.1).held (c.time 20) e.2).2).length

/-- Take every entry of a bulk payload. -/
def State.posBulk (s : State) (c : Cmd) : State :=
  (bulkEntries c).foldl (fun s e => s.posSample e.1 (c.time 20) e.2) s

/-- What R234 rejects of a bulk payload. -/
def bulkParam (c : Cmd) (s : State) : Option Nat :=
  match firstBad [(c.badTime 20, 28), (tooFar s (c.time 20), 20), (c.at 32 2 = 0 || c.at 32 2 > 1024, 32)] with
  | some o => some o
  | none => badEntry c

def specObjectPosBulk : OpSpec where
  txn := true
  atOnce := fun _ _ => false
  units := fun _ _ => [2]
  len := fun c => c.plen ≥ 16 && c.plen == 16 + 16 * c.at 32 2
  param := bulkParam
  data := fun c s => beBytes 2 (staleCount c s) ++ zeros 2
  apply := fun c bad s => if bad.contains 2 then s else s.posBulk c

/-! ### OBJECT_READ and OBJECT_RESTORE -/

/-- A single-precision position to the nearest mm. -/
def mmOf (x : F32) : Int := let d := x.dy; if d.e ≥ 0 then d.m * 2 ^ d.e.toNat else divEven d.m (2 ^ (-d.e).toNat)

/-- Bytes 28 to 83 of Table CMD-6 as OBJECT_READ gives them. -/
def objectBytes (q : Obj) (r : ObjRt) : List Byte :=
  let p : V3 := if r.hasPrev then { x := mmOf r.prevPos.x, y := mmOf r.prevPos.y, z := mmOf r.prevPos.z } else q.pos
  [BitVec.ofNat 8 q.zone, BitVec.ofNat 8 q.velMode, BitVec.ofNat 8 q.distModel, BitVec.ofNat 8 q.prio] ++ v3Bytes p ++
    v3Bytes q.vel ++ beInt 2 q.gain ++ beBytes 2 q.spread ++ beBytes 2 q.diverge ++ beBytes 2 q.snapTol ++ beBytes 4 q.distRef ++
    beBytes 4 q.knee ++ [BitVec.ofNat 8 (b2n q.doppler + 2 * b2n q.air + 4 * b2n q.dense + 8 * b2n q.snap),
      BitVec.ofNat 8 q.exclMask, BitVec.ofNat 8 q.smooth, BitVec.ofNat 8 (b2n q.ext)] ++ beBytes 2 q.source ++ zeros 6

/-- A counter that Ganen keeps, as KCP returns it: the accumulator after a capture (R382). -/
def State.kcnt (s : State) (k : Nat) : List Byte := ((mget {} s.cnts k).capture true).kcp

/-- DEDUCED, log 78. -/
def specObjectRead : OpSpec where
  standby := true
  units := fun _ _ => [2]
  param := fun c _ => firstBad [(c.at 20 2 > 1023, 20)]
  run := fun c s =>
    let o := c.at 20 2
    let r := s.objRt o
    let st := b2n r.excludedAll + 2 * b2n r.clamped + 4 * b2n r.snapLive.isSome + 8 * b2n r.shed + 16 * b2n r.xf.isSome
    let (k, s1) := s.fresh
    let none' := (Config.freeWord k 0).toNat % 2 ^ 16
    readOk s1 [2] (objectBytes (s.obj o) r ++ beBytes 4 st ++ beBytes 2 (r.snapLive.getD none') ++ zeros 2 ++
      s.kcnt (kObj o 0) ++ s.kcnt (kObj o 1) ++ s.kcnt (kObj o 2))

/-- Render Facets that Table ARCH-9 wants (R29). -/
def renderCount (s : State) : Nat := if s.anyZone then (if s.render.rate96 then 48 else 40) else 0

/-- Facets in a state of Table FACET-9. -/
def facetsIn (s : State) (c : Nat) : Nat := (s.facets.st.filter (· == c)).length

/-- Whether fewer Facets render than the load asks for (R41). -/
def renderShort (s : State) : Bool := facetsIn s 2 < renderCount s

/-- Whether the Facets that the next boundary can give the render, spares beyond four among them, are too few (R29). -/
def allocShort (s : State) : Bool := facetsIn s 1 + facetsIn s 2 + (facetsIn s 4 - 4) < renderCount s

def specObjectRestore : OpSpec where
  txn := true
  atOnce := fun _ _ => false
  units := fun _ _ => [2]
  param := fun c _ => firstBad [(c.at 20 2 > 1023, 20), (c.at 22 2 = 0 || c.at 20 2 + c.at 22 2 > 1024, 22)]
  busy := fun c s =>
    let shed := (List.range (c.at 22 2)).any fun i => (s.objRt (c.at 20 2 + i)).shed
    if shed && allocShort s then some (reject stCapacity 5 5) else none
  apply := fun c bad s =>
    if bad.contains 2 then s else
    (List.range (c.at 22 2)).foldl (fun s i =>
      let o := c.at 20 2 + i
      if (s.objRt o).shed then
        s.modObjRt o fun r => { r with shed := false, unshed := true, fromZero := true, oldDirect := [], oldDiffuse := [] }
      else s) s

/-! ### Routes (R94, R236) -/

/-- A direct write runs that names a feed (R114). -/
def directOn (s : State) (f : Nat) : Bool := match s.render.direct with | some d => d.feeds.any fun e => e.1 == f | none => false

/-- The route that a waiting change would give. -/
def waitingRoute (w : Waiting) : Option (Nat × Nat × Nat × Nat) :=
  match w.ch with
  | .create r o f tap _ _ => some (r, o, f, tap)
  | .change r o f tap _ _ => some (r, o, f, tap)
  | _ => none

/-- Routes held by index, those that wait to be created or changed among them. -/
def heldRoutes (s : State) : List (Nat × Nat × Nat × Nat) :=
  (s.render.routes.filterMap fun (e : Nat × RouteRt) => e.2.cur.map fun q => (e.1, q.obj, q.feed, q.tap)) ++
  (s.render.objRt.map fun (e : Nat × ObjRt) => e.2.waiting.filterMap waitingRoute).flatten

/-- The route that a waiting change concerns. -/
def Waiting.route (w : Waiting) : Option Nat :=
  match w.ch with | .create r .. | .change r .. | .delete r => some r | _ => none

/-- Whether a waiting change creates route `r`. -/
def Waiting.creates (r : Nat) (w : Waiting) : Bool := match w.ch with | .create r' .. => r' == r | _ => false

/-- A waiting creation of route `r`. -/
def waitingCreate (s : State) (r : Nat) : Bool := s.render.objRt.any fun e => e.2.waiting.any (Waiting.creates r)

/-- A later command on route `r` takes the place of what waits for it (R20, R99). -/
def State.dropWaiting (s : State) (r : Nat) : State :=
  { s with render := { s.render with objRt := s.render.objRt.map fun (e : Nat × ObjRt) =>
      (e.1, { e.2 with waiting := e.2.waiting.filter fun w => w.route != some r }) } }

/-- Whether an index is used. -/
def routeUsed (s : State) (r : Nat) : Bool := (s.routeRt r).cur.isSome || waitingCreate s r

def specRouteSet : OpSpec where
  txn := true
  feeds := fun c s => match (s.routeRt (c.at 20 2)).cur with | some q => [q.feed] | none => []
  atOnce := fun _ _ => false
  units := fun _ _ => [3]
  len := fun c => c.plen == 16
  param := fun c _ =>
    firstBad [(c.at 20 2 > 16383, 20), (c.at 22 2 > 1023, 22), (c.at 24 2 > 1023, 24), (c.at 26 1 > 1, 26), (c.at 27 1 > 1, 27),
      (badGain (c.int 28 2), 28), (c.at 30 2 > 4096, 30), (c.at 32 1 > 1, 32)]
  busy := fun c s =>
    if directOn s (c.at 24 2) then some (reject stConflict 3 (c.at 24 2)) else
    ((heldRoutes s).find? fun (e : Nat × Nat × Nat × Nat) => e.1 ≠ c.at 20 2 && e.2 == (c.at 22 2, c.at 24 2, c.at 26 1)).map fun e => reject stConflict 3 e.1
  apply := fun c bad s =>
    if bad.contains 3 then s else
    let r := c.at 20 2
    let o := c.at 22 2
    let g := c.int 28 2
    let fl := c.at 27 1 == 1
    let w := fun (ch : RouteCh) => ({ ch := ch, n := c.at 30 2, equalGain := c.at 32 1 == 1 } : Waiting)
    match (s.routeRt r).cur with
    | some q =>
      let s1 := (s.dropWaiting r).modRoute r fun t => { t with cur := some { q with gain := g, follow := fl } }
      if q.obj = o ∧ q.feed = c.at 24 2 ∧ q.tap = c.at 26 1 then s1
      else s1.routeCh o (w (.change r o (c.at 24 2) (c.at 26 1) g fl))
    | none => (s.dropWaiting r).routeCh o (w (.create r o (c.at 24 2) (c.at 26 1) g fl))
  scalars := fun c s =>
    match (s.routeRt (c.at 20 2)).cur with
    | some q => b2n (q.obj ≠ c.at 22 2) + b2n (q.feed ≠ c.at 24 2) + b2n (q.tap ≠ c.at 26 1) + b2n (q.follow ≠ (c.at 27 1 == 1)) +
        b2n (q.gain ≠ c.int 28 2)
    | none => 5

def specRouteDelete : OpSpec where
  txn := true
  atOnce := fun _ _ => false
  units := fun _ _ => [3]
  len := fun c => c.plen == 8
  param := fun c s =>
    firstBad [(c.at 20 2 > 16383 || !routeUsed s (c.at 20 2), 20), (c.at 22 2 > 4096, 22), (c.at 24 1 > 1, 24)]
  busy := fun c s => match (s.routeRt (c.at 20 2)).cur with
    | some q => if directOn s q.feed then some (reject stConflict 3 q.feed) else none
    | none => none
  apply := fun c bad s =>
    if bad.contains 3 then s else
    let r := c.at 20 2
    match (s.routeRt r).cur with
    | some q => (s.dropWaiting r).routeCh q.obj { ch := .delete r, n := c.at 22 2, equalGain := c.at 24 1 == 1 }
    | none => s.dropWaiting r
  scalars := fun _ _ => 1

def specRouteRead : OpSpec where
  standby := true
  units := fun _ _ => [3]
  param := fun c _ => firstBad [(c.at 20 2 > 16383, 20)]
  run := fun c s =>
    let t := s.routeRt (c.at 20 2)
    let show' := fun (q : Route) (st : Nat) => beBytes 2 q.obj ++ beBytes 2 q.feed ++
      [BitVec.ofNat 8 q.tap, BitVec.ofNat 8 (b2n q.follow)] ++ beInt 2 q.gain ++ [BitVec.ofNat 8 st, 0, 0, 0]
    readOk s [3] (match t.cur, t.old with
      | some q, _ => show' q (if t.fadingIn then 2 else 1)
      | none, some q => show' q 3
      | none, none => zeros 12)

def specMatrixStatus : OpSpec where
  standby := true
  units := fun _ _ => [3]
  run := fun _ s =>
    readOk s [3] (beBytes 4 (matrixWeight s) ++ beBytes 4 (matrixLimit s) ++
      beBytes 2 (s.render.routes.filter fun e => e.2.cur.isSome).length ++
      beBytes 2 (s.render.objRt.filter fun e => e.2.xf.isSome).length)

/-! ### The ends of crossfades -/

/-- Whether 64 samples from a block have been rendered. -/
def done64 (s : State) (start : Nat) : Bool := s.render.n + 3 ≥ start + 4

/-- ROUTE_XFADE_END (R97 to R99). -/
def execRouteXfadeEnd (o : Fin 1024) (s : State) : Host.Outcome State Fault Refusal := .next (s.endXf o.val)

/-- DELAY_JUMP_XFADE_END (R82): slewing resumes. -/
def execDelayJumpXfadeEnd (o : Fin 1024) (s : State) : Host.Outcome State Fault Refusal :=
  match (s.objRt o.val).jump with
  | some f => .next (if done64 s f.start then s.modObjRt o.val fun r => { r with jump := none } else s)
  | none => .next s

/-- DOPPLER_XFADE_END (R83): a waiting change takes effect at the next boundary. -/
def execDopplerXfadeEnd (o : Fin 1024) (s : State) : Host.Outcome State Fault Refusal :=
  match (s.objRt o.val).dopFade with
  | some b => .next (if done64 s b then s.modObjRt o.val fun r => { r with dopFade := none } else s)
  | none => .next s

/-- PLACEMENT_XFADE_END (R81): the extended line is released. -/
def execPlacementXfadeEnd (o : Fin 1024) (s : State) : Host.Outcome State Fault Refusal :=
  match (s.objRt o.val).place with
  | some f => .next (if done64 s f.start then s.modObjRt o.val fun r => { r with place := none, line := r.line.take 4096 } else s)
  | none => .next s

end Sys2Proof.Machine
end

