-- ==== Sys2Proof/Machine/Filters.lean ====
section
/-! DEFINITION. Feed chains and filters: the opcodes of groups 0x04 and 0x05 (R100 to R119, R225, R236 to R238, R246). -/

namespace Sys2Proof.Machine

/-! ### Pieced objects (R225) -/

/-- The unfinished object that a piece continues: of its session, opcode and name, inside the same transaction or outside any. -/
def State.objectOf (s : State) (c : Cmd) (name : Nat) : Option (List Byte) :=
  (s.kcp.pieces.find? fun p => p.session == c.sess && p.op == c.op && p.name == name && p.txn == c.txn).map (·.bytes)

/-- Another session has opened the object. -/
def piecesBusy (s : State) (c : Cmd) (name : Nat) : Bool :=
  s.kcp.pieces.any fun p => p.op == c.op && p.name == name && p.session ≠ c.sess

/-- Discard an unfinished object. -/
def State.dropPieces (s : State) (x op name : Nat) : State :=
  { s with kcp := { s.kcp with pieces := s.kcp.pieces.filter fun p => !(p.session == x && p.op == op && p.name == name) } }

/-- A pieced opcode's fields: the object's name, the Offset, the data, FINAL, and the bytes before the data with Offset 0. -/
structure PieceFields where
  name : Nat
  off : Nat
  data : List Byte
  final : Bool
  head : List Byte

/-- A piece that does not follow the one before it. -/
def State.pieceGap (s : State) (c : Cmd) (f : PieceFields) : Bool := f.off ≠ 0 && (s.objectOf c f.name).map List.length ≠ some f.off

/-- The object up to the end of this piece. -/
def State.objectSoFar (s : State) (c : Cmd) (f : PieceFields) : List Byte :=
  if f.off = 0 then f.data else (s.objectOf c f.name).getD [] ++ f.data

/-- A piece is taken: an earlier one is held, and its command keeps the fields before the data; the FINAL one completes the object,
and its command carries the whole of it. DEDUCED, log 200. -/
def State.takePiece (s : State) (c : Cmd) (f : PieceFields) : Cmd × State :=
  let all := s.objectSoFar c f
  let s1 := s.dropPieces c.sess c.op f.name
  if f.final then ({ c with payload := f.head ++ all }, s1)
  else
    let p : Pieces := { session := c.sess, op := c.op, name := f.name, txn := c.txn, bytes := all }
    ({ c with payload := f.head }, { s1 with kcp := { s1.kcp with pieces := s1.kcp.pieces ++ [p] } })

/-- A piece that does not follow costs its object. -/
def State.spoilPiece (s : State) (c : Cmd) (f : PieceFields) : State :=
  if s.pieceGap c f then s.dropPieces c.sess c.op f.name else s

/-- An earlier piece outside a transaction: it travels to the peer (R398) and is held. -/
def State.runPiece (s : State) (c : Cmd) (f : PieceFields) : State :=
  let s1 := if s.paired then s.bezel (.staged (.command c.sess 0 { seq := c.seq, op := c.op, payload := c.payload })) else s
  (s1.takePiece c f).2

/-- PIECED_OBJECT_DISCARD (R225): an object left unfinished for 10 s goes; the outcome is a TIMER entry. -/
def execPiecedObjectDiscard (x : Fin 8) (op name : Nat) (s : State) : Host.Outcome State Fault Refusal :=
  if s.kcp.pieces.any fun p => p.session == x.val && p.op == op && p.name == name then
    .next ((s.dropPieces x.val op name).enter (.timer (.pieces x.val op name)))
  else .next s

/-! ### Delay alignment (R105) -/

/-- Loupe's terms of a feed (R151). -/
def State.comp (s : State) (f : Nat) : Comp := mget {} s.loupe.comp f

/-- Bring a feed's delay to what its parameters ask for at the boundary in hand. -/
def State.align (s : State) (f : Nat) : State :=
  let d := alignDelay (s.chain f).delay (s.comp f).delay
  s.modFeedRt f fun r =>
    if !r.on then { r with d := d.1, delayLimit := d.2, dFade := none, dWait := false }
    else if r.d = d.1 then { r with delayLimit := d.2, dWait := false }
    else if r.dFade.isSome then { r with dWait := true }
    else { r with dFade := some (s.render.n + 2, r.d), d := d.1, delayLimit := d.2, dWait := false }

/-- ALIGN_DELAY_XFADE_END (R105): a waiting change takes effect at the next boundary. -/
def execAlignDelayXfadeEnd (f : Fin 1024) (s : State) : Host.Outcome State Fault Refusal :=
  match (s.feedRt f.val).dFade with
  | some (b, _) => .next (if done64 s b then s.modFeedRt f.val fun r => { r with dFade := none } else s)
  | none => .next s

/-! ### CHAIN_SET and BIQUAD_SET (R236) -/

/-- The chain that a CHAIN_SET gives. -/
def chainSet (c : Cmd) (q : Chain) : Chain :=
  let m := c.at 24 4
  let on := fun (b : Nat) => m.testBit b
  { q with
    inTrim := if on 0 then c.int 28 2 else q.inTrim
    invert := if on 1 then c.at 30 1 == 1 else q.invert
    delay := if on 2 then c.at 32 2 else q.delay
    limOn := if on 3 then c.at 31 1 == 1 else q.limOn
    limThr := if on 4 then c.int 34 2 else q.limThr
    limRel := if on 5 then c.at 36 2 else q.limRel
    outTrim := if on 6 then c.int 38 2 else q.outTrim }

/-- How many bits of a number are set, among the lowest 64. -/
def popCount (n : Nat) : Nat := ((List.range 64).filter fun i => n.testBit i).length

/-- A target feed on which a direct write runs (R114, Table KCP-7). -/
def directConflict (s : State) (fs : List Nat) : Option ReplyRec := (fs.find? (directOn s)).map fun f => reject stConflict 3 f

def specChainSet : OpSpec where
  txn := true
  atOnce := fun _ _ => false
  units := fun _ _ => [3]
  len := fun c => c.plen == 20
  param := fun c _ =>
    let m := c.at 24 4
    firstBad [(badTarget (c.at 20 2), 20), (badMask m 7, 24), sel m 0 (badGain (c.int 28 2)) 28, sel m 1 (c.at 30 1 > 1) 30,
      sel m 3 (c.at 31 1 > 1) 31, sel m 2 (c.at 32 2 > 2048) 32, sel m 4 (c.int 34 2 < -4000 || c.int 34 2 > 2400) 34,
      sel m 5 (c.at 36 2 = 0 || c.at 36 2 > 5000) 36, sel m 6 (badGain (c.int 38 2)) 38]
  busy := fun c s => directConflict s (targets s (c.at 20 2))
  apply := fun c bad s =>
    if bad.contains 3 then s else
    (targets s (c.at 20 2)).foldl (fun s f =>
      let s1 := s.modChain f (chainSet c)
      if (c.at 24 4).testBit 2 then s1.align f else s1) s
  scalars := fun c s => popCount (c.at 24 4) * (targets s (c.at 20 2)).length

/-- A coefficient section at offset `o`. -/
def biqAt (c : Cmd) (o : Nat) : Biq :=
  { b0 := c.int o 4, b1 := c.int (o + 4) 4, b2 := c.int (o + 8) 4, a1 := c.int (o + 12) 4, a2 := c.int (o + 16) 4 }

/-- Replace sections from `i` on. -/
def setSections (l : List Biq) (i : Nat) : List Biq → List Biq
  | [] => l
  | b :: t => setSections (l.set i b) (i + 1) t

/-- The sections that a BIQUAD_SET carries. -/
def biqSections (c : Cmd) : List Biq := (List.range (c.at 23 1)).map fun i => biqAt c (24 + 20 * i)

def specBiquadSet : OpSpec where
  txn := true
  atOnce := fun _ _ => false
  units := fun _ _ => [3]
  len := fun c => c.plen ≥ 4 && c.plen == 4 + 20 * c.at 23 1
  param := fun c _ =>
    firstBad ([(badTarget (c.at 20 2), 20), (c.at 22 1 > 15, 22), (c.at 23 1 = 0 || c.at 22 1 + c.at 23 1 > 16, 23)] ++
      ((biqSections c).zipIdx.map fun e => (!e.1.stable, 24 + 20 * e.2)))
  busy := fun c s => directConflict s (targets s (c.at 20 2))
  apply := fun c bad s =>
    if bad.contains 3 then s else
    (targets s (c.at 20 2)).foldl (fun s f => s.modChain f fun q => { q with biq := setSections q.biq (c.at 22 1) (biqSections c) }) s
  scalars := fun c s => 5 * c.at 23 1 * (targets s (c.at 20 2)).length

/-- Bytes 28 to 39 of CHAIN_SET. -/
def chainBytes (q : Chain) : List Byte :=
  beInt 2 q.inTrim ++ [BitVec.ofNat 8 (b2n q.invert), BitVec.ofNat 8 (b2n q.limOn)] ++ beBytes 2 q.delay ++ beInt 2 q.limThr ++
    beBytes 2 q.limRel ++ beInt 2 q.outTrim

def biqBytes (b : Biq) : List Byte := beInt 4 b.b0 ++ beInt 4 b.b1 ++ beInt 4 b.b2 ++ beInt 4 b.a1 ++ beInt 4 b.a2

def specChainRead : OpSpec where
  standby := true
  units := fun _ _ => [3]
  param := fun c _ => firstBad [(c.at 20 2 > 1023, 20)]
  run := fun c s =>
    let f := c.at 20 2
    let q := s.chain f
    let r := s.feedRt f
    readOk s [3] (chainBytes q ++ beInt 2 (s.comp f).gain ++ beInt 2 (s.comp f).delay ++ beBytes 2 r.d ++ zeros 2 ++
      (q.biq.map biqBytes).flatten ++ beBytes 4 r.fir.len ++ beBytes 2 r.fir.entry ++ zeros 2)

/-! ### FEED_STATUS (R119) -/

/-- Whether a route crossfade feeds feed `f`: through panned rows, through a steady route of the object, or as a change of a
route. -/
def feedXfade (s : State) (f : Nat) : Bool :=
  (s.render.objRt.any fun e => e.2.xf.isSome && (e.2.xfPan || e.2.oldSource.isSome) &&
    (mhas e.2.direct f || mhas e.2.diffuse f || mhas e.2.oldDirect f || mhas e.2.oldDiffuse f ||
      ((e.2.oldSource.isSome || e.2.release) &&
        s.render.routes.any fun t => match t.2.cur with | some q => q.obj == e.1 && q.feed == f | none => false))) ||
  s.render.routes.any fun e => (match e.2.old with | some q => q.feed == f | none => false) ||
    (e.2.fadingIn && match e.2.cur with | some q => q.feed == f | none => false)

/-- The feed status word (Table MIX-8). -/
def feedStatus (s : State) (f : Nat) : Nat :=
  let q := s.feed f
  let ch := s.chain f
  let r := s.feedRt f
  partsOf r.fir.len * 2 ^ 24 + b2n (r.fir.len ≠ 0) * 2 ^ 23 + b2n r.shadow * 2 ^ 11 + b2n r.ab.isSome * 2 ^ 10 +
    b2n r.direct * 2 ^ 9 + b2n r.delayLimit * 2 ^ 8 + b2n r.limiting * 2 ^ 7 +
    b2n (ch.inTrim == -32768 || ch.outTrim == -32768) * 2 ^ 6 + b2n (feedXfade s f) * 2 ^ 5 + b2n r.caratSub * 2 ^ 4 +
    b2n q.aux * 2 + b2n q.enable

def specFeedStatus : OpSpec where
  standby := true
  units := fun _ _ => [3]
  param := fun c _ => firstBad [(c.at 20 2 > 1023, 20)]
  run := fun c s =>
    let f := c.at 20 2
    readOk s [3] (beBytes 4 (feedStatus s f) ++ s.kcnt (kFeed f 0) ++ s.kcnt (kFeed f 1) ++ s.kcnt (kFeed f 2) ++ s.kcnt (kFeed f 3))

/-! ### The library (R237) -/

/-- Entries that a staged set, a direct write or an A/B crossfade uses. -/
def entriesInUse (s : State) : List Nat :=
  (if s.render.shadow.st = 1 ∨ s.render.shadow.st = 2 ∨ s.render.shadow.st = 4 then s.render.shadow.set.map (·.2.entry) else []) ++
  (match s.render.direct with | some d => d.feeds.map (·.2.entry) | none => [])

/-- Bytes that the library uses, each entry in the format of R107. -/
def libBytes (s : State) : Nat := nsum (s.render.lib.map fun e => firBytes e.2.len)

def libName (c : Cmd) : Nat := c.at 20 2
def libFinal (c : Cmd) : Bool := c.at 28 1 == 1

/-- FILTER_LIB_WRITE as a piece. -/
def libPiece (c : Cmd) : PieceFields where
  name := libName c
  off := c.at 24 4
  data := c.bytes 32
  final := libFinal c
  head := c.payload.take 4 ++ zeros 4 ++ (c.payload.drop 8).take 4

/-- Words of a coefficient image. -/
def tapsOf (bs : List Byte) : Nat → List Int
  | 0 => []
  | n + 1 => beIntAt bs 0 4 :: tapsOf (bs.drop 4) n

/-- A piece as it then stands must follow the last, and the FINAL piece must end at byte Taps × 4. -/
def libParam (c : Cmd) (s : State) : Option Nat :=
  let f := libPiece c
  firstBad [(f.name > 4095, 20), (!firLenOk s.render.rate96 (c.at 22 2), 22), (c.at 28 1 > 1, 28), (s.pieceGap c f, 24),
    (f.final && f.off + f.data.length ≠ 4 * c.at 22 2, 24)]

def specFilterLibWrite : OpSpec where
  txn := true
  atOnce := fun c _ => !libFinal c
  units := fun _ _ => [9]
  len := fun c => c.plen ≥ 12
  param := libParam
  spoil := fun c s => s.spoilPiece c (libPiece c)
  busy := fun c s =>
    if piecesBusy s c (libName c) then some (reject stBusy 3 (libName c))
    else if libFinal c && (entriesInUse s).contains (libName c) then some (reject stBusy 3 (libName c)) else none
  run := fun c s => (s.runPiece c (libPiece c), { status := stOK, touched := unitBits [9], succeeded := unitBits [9] }, [])
  accept := fun c s => s.takePiece c (libPiece c)
  apply := fun c bad s =>
    if bad.contains 9 || !libFinal c then s
    else
      let f : Fir := { len := c.at 22 2, entry := libName c, taps := tapsOf (c.bytes 32) (c.at 22 2) }
      { s with render := { s.render with lib := mset s.render.lib (libName c) f } }

def specFilterLibFree : OpSpec where
  txn := true
  atOnce := fun _ _ => false
  units := fun _ _ => [9]
  param := fun c s => firstBad [(c.at 20 2 > 4095 || !mhas s.render.lib (c.at 20 2), 20)]
  busy := fun c s => if (entriesInUse s).contains (c.at 20 2) then some (reject stBusy 3 (c.at 20 2)) else none
  apply := fun c bad s =>
    if bad.contains 9 then s else { s with render := { s.render with lib := mdel s.render.lib (c.at 20 2) } }

/-! ### Sets of filters (R238) -/

/-- The pairs of a list from offset `o`. -/
def firPairs (c : Cmd) (o : Nat) : List (Nat × Nat) :=
  (List.range (c.at 20 2)).map fun i => (c.at (o + 4 * i) 2, c.at (o + 4 * i + 2) 2)

/-- The filter of a library entry; 0xFFFF is bypass. -/
def firOf (s : State) (e : Nat) : Fir := if e = 0xFFFF then {} else mget {} s.render.lib e

/-- A list with the filters it names. -/
def firSet (s : State) (c : Cmd) (o : Nat) : List (Nat × Fir) := (firPairs c o).map fun e => (e.1, firOf s e.2)

/-- The offset of a pair that names no feed or no filled entry, repeats a feed, or has a length the rate does not allow. -/
def badPairs (s : State) (c : Cmd) (o : Nat) : Option Nat :=
  let l := firPairs c o
  firstBad (l.zipIdx.map fun e => (e.1.1 > 1023 || (l.take e.2).any (fun q => q.1 == e.1.1), o + 4 * e.2)) |>.or
    (firstBad (l.zipIdx.map fun e => (e.1.2 ≠ 0xFFFF && (!mhas s.render.lib e.1.2 || !firLenOk s.render.rate96 (firOf s e.1.2).len), o + 4 * e.2 + 2)))

/-- A running operation that holds one of a list's feeds: a direct write or an A/B crossfade (R114, R118). -/
def firConflict (s : State) (fs : List Nat) : Option ReplyRec :=
  match directConflict s fs with
  | some r => some r
  | none => (fs.find? fun f => (s.feedRt f).ab.isSome).map fun f => reject stConflict 3 f

/-- A feed takes a new filter at the boundary in hand, its tail recomputed (R112). -/
def State.swapFir (s : State) (e : Nat × Fir) : State :=
  s.modFeedRt e.1 fun r => retail { r with fir := e.2, shadow := true }

/-- Swap a set in: the copy-back begins (R112). -/
def State.swapSet (s : State) (set : List (Nat × Fir)) (owner : Nat) : State :=
  let s1 := set.foldl State.swapFir s
  let old := if s.render.shadow.st = 3 ∧ s.render.shadow.since = s.render.n then s.render.shadow.set else []
  { s1 with render := { s1.render with shadow := { st := 3, set := old ++ set, ab := false, since := s.render.n, owner := owner } } }

/-- A transaction, as the shadow bank's owner. -/
def txnKey (c : Cmd) : Nat := if c.txn = 0 then 0 else (c.sess + 1) * 2 ^ 32 + c.txn

/-- Whether the shadow bank can be claimed (R112): free, or held by this very commit. -/
def shadowFree (s : State) (c : Cmd) : Bool :=
  let h := s.render.shadow
  h.st == 0 || (c.txn ≠ 0 && h.st == 3 && h.owner == txnKey c && h.since == s.render.n)

def specFilterStage : OpSpec where
  txn := true
  atOnce := fun _ _ => false
  units := fun _ _ => [3]
  len := fun c => c.plen ≥ 4 && c.plen == 4 + 4 * c.at 20 2
  param := fun c s => (firstBad [(c.at 20 2 = 0 || c.at 20 2 > 128, 20)]).or (badPairs s c 24)
  busy := fun c s =>
    if !shadowFree s c then some (reject stBusy 3 0xFFFF) else firConflict s ((firPairs c 24).map (·.1))
  apply := fun c bad s =>
    if bad.contains 3 then s
    else if c.txn ≠ 0 then s.swapSet (firSet s c 24) (txnKey c)
    else { s with render := { s.render with shadow := { st := 1, set := firSet s c 24 } } }
  firs := fun c s => (firSet s c 24).map fun e => (e.1, e.2.len)

def specFilterSwap : OpSpec where
  txn := true
  atOnce := fun _ _ => false
  units := fun _ _ => [3]
  busy := fun _ s =>
    if s.render.shadow.st ≠ 2 then some (reject stBusy 3 0xFFFF) else firConflict s (s.render.shadow.set.map (·.1))
  apply := fun c bad s => if bad.contains 3 then s else if s.render.shadow.st = 2 then s.swapSet s.render.shadow.set (txnKey c) else s
  firs := fun _ s => s.render.shadow.set.map fun e => (e.1, e.2.len)

def specFilterDiscard : OpSpec where
  txn := true
  atOnce := fun _ _ => false
  units := fun _ _ => [3]
  apply := fun _ bad s =>
    if bad.contains 3 then s
    else if s.render.shadow.st = 1 ∨ s.render.shadow.st = 2 then { s with render := { s.render with shadow := {} } } else s

def specFilterAb : OpSpec where
  txn := true
  atOnce := fun _ _ => false
  units := fun _ _ => [3]
  len := fun c => c.plen ≥ 8 && c.plen == 8 + 4 * c.at 20 2
  param := fun c s =>
    (firstBad [(c.at 20 2 = 0 || c.at 20 2 > 64, 20), (c.at 22 2 < 16 || c.at 22 2 > 16384, 22), (c.at 24 1 > 1, 24)]).or (badPairs s c 28)
  busy := fun c s =>
    if s.render.shadow.st ≠ 0 then some (reject stBusy 3 0xFFFF)
    else match firConflict s ((firPairs c 28).map (·.1)) with
      | some r => some r
      | none => if allocShort s then some (reject stCapacity 3 5) else none
  apply := fun c bad s =>
    if bad.contains 3 then s else
    let set := firSet s c 28
    let fade := fun (b : Fir) (r : FeedRt) =>
      let r1 := { r with
        shadow := true, ab := some { b := b, start := s.render.n + 2, n := c.at 22 2, equalGain := c.at 24 1 == 1 } }
      { r1 with tailB := r1.tailOfB }
    let s1 := set.foldl (fun s e => s.modFeedRt e.1 (fade e.2)) s
    { s1 with render := { s1.render with shadow := { st := 4, set := set, ab := true, since := s.render.n, owner := txnKey c } } }
  firs := fun c s => (firSet s c 28).map fun e => (e.1, e.2.len)

/-- The units of a direct write, feed by feed in ascending index, head first (R115). -/
def directUnits (set : List (Nat × Fir)) : List (Nat × Nat) :=
  let feeds := ((List.range 1024).filter fun f => set.any fun e => e.1 == f)
  (feeds.map fun f => match set.find? fun e => e.1 == f with
    | some e => if e.2.len = 0 then [] else (List.range (partsOf e.2.len + 1)).map fun u => (f, u)
    | none => []).flatten

def specFilterDirect : OpSpec where
  txn := false
  atOnce := fun _ _ => false
  units := fun _ _ => [3]
  len := fun c => c.plen ≥ 4 && c.plen == 4 + 4 * c.at 20 2
  param := fun c s =>
    ((firstBad [(c.at 20 2 = 0 || c.at 20 2 > 1024, 20)]).or (badPairs s c 24)).or
      (firstBad ((firPairs c 24).zipIdx.map fun e => ((firOf s e.1.2).len ≠ (s.feedRt e.1.1).fir.len, 24 + 4 * e.2 + 2)))
  busy := fun c s =>
    let fs := (firPairs c 24).map (·.1)
    match firConflict s fs with
    | some r => some r
    | none =>
      let pend := s.render.shadow.st == 1 || s.render.shadow.st == 2
      match fs.find? fun f => pend && s.render.shadow.set.any fun e => e.1 == f with
      | some f => some (reject stConflict 3 f)
      | none => if s.render.direct.isSome then some (reject stBusy 3 0xFFFF) else none
  apply := fun c bad s =>
    if bad.contains 3 then s else
    let set := firSet s c 24
    { s with render := { s.render with direct := some { feeds := set, left := directUnits set, count := set.length } } }

/-- The feeds' filters with those of a running A/B in place of the old ones. -/
def firLens (s : State) : List Nat := s.render.feedRt.map fun e => match e.2.ab with | some a => a.b.len | none => e.2.fir.len

/-- Taps and tail partitions in use (Table MIX-5). -/
def tapsUsed (s : State) : Nat := nsum (firLens s)
def partsUsed (s : State) : Nat := nsum ((firLens s).map partsOf)

def specFilterRead : OpSpec where
  standby := true
  units := fun _ _ => [3]
  run := fun _ s =>
    let h := s.render.shadow
    let st := if h.st ≠ 0 then h.st else if s.render.direct.isSome then 5 else 0
    readOk s [3] (beBytes 4 (tapsUsed s) ++ beBytes 4 (partsUsed s) ++ [BitVec.ofNat 8 st, 0] ++ beBytes 2 h.set.length ++
      beBytes 2 s.render.lib.length ++ zeros 2 ++ beBytes 8 (libBytes s))

/-! ### Events of the shadow bank -/

/-- FILTER_STAGING_COMPLETE (R113): SHADOW_READY. -/
def execFilterStagingComplete (s : State) : Host.Outcome State Fault Refusal :=
  if s.render.shadow.st = 1 then
    .next (({ s with render := { s.render with shadow := { s.render.shadow with st := 2 } } }).event 0x8500
      (beBytes 2 s.render.shadow.set.length ++ zeros 2))
  else .next s

/-- The bank is free: its feeds run from the live bank. -/
def State.freeShadow (s : State) : State :=
  let s1 := s.render.shadow.set.foldl (fun s e => s.modFeedRt e.1 fun r => { r with shadow := false }) s
  { s1 with render := { s1.render with shadow := {} } }

/-- FIR_COPY_BACK_COMPLETE (R112): SHADOW_FREE, four cycles after the swap. -/
def execFirCopyBackComplete (s : State) : Host.Outcome State Fault Refusal :=
  let h := s.render.shadow
  if h.st = 3 ∧ h.ab = false ∧ s.render.n ≥ h.since + 4 then .next (s.freeShadow.event 0x8501 []) else .next s

/-- AB_XFADE_END (R117): the B filters stand alone and their copy-back begins. -/
def execAbXfadeEnd (s : State) : Host.Outcome State Fault Refusal :=
  let h := s.render.shadow
  let ovr := h.set.all fun e => match (s.feedRt e.1).ab with
    | some a => decide (16 * (s.render.n + 3) ≥ a.n + 16 * a.start) | none => true
  if h.st = 4 && ovr then
    let s1 := h.set.foldl (fun s e => s.modFeedRt e.1 fun r => match r.ab with
      | some a => { r with fir := a.b, ab := none, tail := r.tailB, tailB := [] } | none => r) s
    .next { s1 with render := { s1.render with shadow := { h with st := 3, since := s.render.n } } }
  else .next s

/-- AB_COPY_BACK_COMPLETE (R117): AB_DONE. -/
def execAbCopyBackComplete (s : State) : Host.Outcome State Fault Refusal :=
  let h := s.render.shadow
  if h.st = 3 ∧ h.ab = true then .next (s.freeShadow.event 0x8503 (beBytes 2 h.set.length ++ zeros 2)) else .next s

end Sys2Proof.Machine
end

