-- ==== Sys2Proof/Machine/Time.lean ====
section
/-! DEFINITION. Time bases, comparators, captures and stamps (R277 to R289). -/

namespace Sys2Proof.Machine

/-! ### Bases -/

/-- Time base `b` (0 A, 1 B, 2 L), in 2^-48 ns. -/
def State.base (s : State) (b : Nat) : Nat := if b = 0 then s.time.a else if b = 1 then s.time.b else s.time.l

/-- Set time base `b`. -/
def State.setBase (s : State) (b v : Nat) : State :=
  if b = 0 then { s with time := { s.time with a := v } }
  else if b = 1 then { s with time := { s.time with b := v } }
  else { s with time := { s.time with l := v } }

/-- The signed rate word of base `b`. -/
def State.rate (s : State) (b : Nat) : Int := (s.reg (aTime + 0x30 + 0x20 * b)).toInt

/-- Set the rate word of base `b`, kept within its 32 bits. -/
def State.setRate (s : State) (b : Nat) (r : Int) : State := s.setReg (aTime + 0x30 + 0x20 * b) (BitVec.ofInt 32 (sat 32 r))

/-- Step base `b` by a signed number of nanoseconds (R277). -/
def State.stepBase (s : State) (b : Nat) (ns : Int) : State := s.setBase b ((s.base b : Int) + ns * 2 ^ 48).toNat

/-- A twentieth of the crystal's period: the free-running counter counts every 20, through POR_N too (R280). -/
def State.crystal (s : State) : State :=
  let t := s.time
  if t.lostOsc then s
  else
    let roll := t.frcPhase + 1 ≥ 20
    { s with time := { t with frcPhase := if roll then 0 else t.frcPhase + 1, frc := if roll then t.frc + 1 else t.frc } }

/-- One cycle of the 500 MHz clock (R277). A domain's base follows L while the device is its master (R283). -/
def State.tick (s : State) : State :=
  let t := s.time
  let go := fun (b : Nat) => if t.lostSys then s.base b else ((s.base b : Int) + 2 ^ 49 + s.rate b * 2 ^ 9).toNat
  let l := go 2
  let m := fun (d : Nat) => (nth {} t.ptp d).st == 2
  { s with time := { t with a := if m 0 then l else go 0, b := if m 1 then l else go 1, l := l } }

/-- The number of the last boundary at or before a time of L (R47). -/
def blockAt (rate96 : Bool) (ns : Nat) : Nat := 3 * ns / (16 * tsUnits rate96) - 1

/-- B(n) in 2^-48 ns, rounded up. -/
def boundaryBase (rate96 : Bool) (n : Nat) : Nat := (boundaryUnits rate96 n * 2 ^ 48 + 2) / 3

/-- A write with no 1 in a reserved field acts; another has no defined effect (R13). -/
def guardWrite (a : Nat) (v : Word) (s : State) : Host.Outcome State Fault Refusal :=
  match regInfo a with
  | none => .next s
  | some i => if v &&& ~~~i.defined ≠ 0 then .fault .reservedField else .next s

/-- As `guardWrite`, for a write to a register whose effect is `f`. -/
def guarded (a : Nat) (v : Word) (f : State) : Host.Outcome State Fault Refusal := guardWrite a v f

/-! ### Register writes of the TIME block -/

/-- TIME_SNAP (R279, R280). -/
def State.timeSnap (s : State) (v : Word) : State :=
  if wbit v 0 then
    { s with time := { s.time with snap :=
      { a := s.time.a, b := s.time.b, l := if s.loaded then s.time.l else s.frcNs s.time.frc * 2 ^ 48, frc := s.time.frc } } }
  else s

/-- TIME_ADJ_NS_b (R277): the step is applied whole. -/
def State.timeAdj (s : State) (b : Nat) (v : Word) : State :=
  s.stepBase b ((s.reg (aTime + 0x34 + 0x20 * b)).toInt * 1000000000 + v.toInt)

/-- The time a comparator is programmed for, in ns. -/
def State.cmpNs (s : State) (i : Nat) : Nat :=
  s.reg64 (aTime + 0x204 + 0x20 * i) * 1000000000 + wbits (s.reg (aTime + 0x20C + 0x20 * i)) 0 30

/-- Whether comparator `i`'s base has reached its time; comparators 0 to 4 fire early by TIME_TRIG_LEAD (R286, R287). -/
def State.cmpDue (s : State) (i : Nat) : Bool :=
  let b := wbits (s.reg (aTime + 0x200 + 0x20 * i)) 1 2
  let lead := if i ≤ 4 then (s.reg (aTime + 0x10)).toNat * 2 ^ 32 else 0
  s.base b + lead ≥ s.cmpNs i * 2 ^ 48

/-- A comparator that is armed with its time already past sets CMP_LATE (R286). -/
def State.cmpArmed (s : State) (i : Nat) : State :=
  if wbit (s.reg (aTime + 0x200 + 0x20 * i)) 0 && s.cmpDue i then s.raise (aTime + 8) 4 else s

/-- TIME_CMP_CTL_i: BASE is fixed at L on every comparator but 5 (Table TIME-9). -/
def State.cmpCtl (s : State) (i : Nat) (v : Word) : State :=
  let a := aTime + 0x200 + 0x20 * i
  let was := wbit (s.reg a) 0
  let s1 := s.setReg a (if i = 5 then v &&& 0xF else (v &&& 9) ||| 4)
  if was then s1 else s1.cmpArmed i

/-- COMPARATOR_FIRE (R286 to R288): the event leaves, and a periodic comparator advances by its period; one without a period
fires once and is disarmed. DEDUCED, log 127. -/
def State.cmpFire (s : State) (i : Nat) : State :=
  let a := aTime + 0x200 + 0x20 * i
  let c := s.reg a
  if wbit c 0 && s.cmpDue i then
    let s1 := s.emit (.pulse i (wbit c 3) (s.reg (a + 0x14)).toNat)
    let p := (s.reg (a + 0x10)).toNat
    if p = 0 then s1.lower a 1
    else
      let t := s.cmpNs i + p
      (s1.setReg64 (a + 4) (secOf t)).setReg (a + 0xC) (BitVec.ofNat 32 (nsOf t))
  else s

def execComparatorFire (i : Fin 16) (s : State) : Host.Outcome State Fault Refusal := .next (s.cmpFire i.val)

/-! ### Captures (R289) -/

/-- An edge on capture input `c`, stamped where TIME_CAPT_CTL_c selects it. -/
def State.capture (s : State) (c : Nat) (rising : Bool) : State :=
  let e := wbits (s.reg (aTime + 0x400 + 0x20 * c)) 0 2
  if e.testBit (if rising then 0 else 1) then
    let held := nth [] s.time.capt c
    if held.length < 8 then { s with time := { s.time with capt := s.time.capt.set c (held ++ [s.lNs]) } }
    else
      (({ s with time := { s.time with captOvf := s.time.captOvf.set c true } }).raise (aTime + 8) 2).count (aTime + 0x100 + 8 * (6 + c))
  else s

def execCaptureEdge (c : Fin 9) (rising : Bool) (s : State) : Host.Outcome State Fault Refusal := .next (s.capture c.val rising)

/-- A write of TIME_CAPT_CTL_c: EDGE, and POP. -/
def State.captCtl (s : State) (c : Nat) (v : Word) : State :=
  let s1 := s.setReg (aTime + 0x400 + 0x20 * c) (v &&& 3)
  if wbit v 8 then { s1 with time := { s1.time with capt := s1.time.capt.modify c List.tail } } else s1

/-- A write of TIME_TXTS_STATUS_k: OVF by 1, and POP. -/
def State.txtsStatus (s : State) (k : Nat) (v : Word) : State :=
  let a := aTime + 0x600 + 0x20 * k
  let s1 := if wbit v 8 then s.lower a 0x100 else s
  if wbit v 16 then { s1 with time := { s1.time with txts := s1.time.txts.modify k List.tail } } else s1

/-- A stamp of port `k`, taken at its PCS now in L and carried to the medium by the port's receive (0x18) or transmit (0x1C)
correction, in 1/16 ns (R284). DEDUCED, log 204. -/
def State.stamp (s : State) (k : Nat) (tx : Bool) : Nat :=
  let lat := (s.reg (aTime + 0x600 + 0x20 * k + (if tx then 0x1C else 0x18))).toNat * 2 ^ 44
  (if tx then s.time.l + lat else s.time.l - lat) / 2 ^ 48

/-- A transmit stamp enters port `k`'s queue, or is dropped when it is full (R285): the state, and whether it was kept. -/
def State.txStamp (s : State) (k tag : Nat) : State × Bool :=
  let q := nth [] s.time.txts k
  if q.length < 16 then ({ s with time := { s.time with txts := s.time.txts.set k (q ++ [(tag, s.stamp k true)]) } }, true)
  else (((s.raise (aTime + 0x600 + 0x20 * k) 0x100).raise (aTime + 8) 1).count (aTime + 0x100 + 8 * k), false)

/-- A write of TIME_ERR: clearing CAPT_OVF clears every input's OVF (Table TIME-9). -/
def State.timeErr (s : State) (v : Word) : State :=
  let s1 := s.lower (aTime + 8) v
  if wbit v 1 then { s1 with time := { s1.time with captOvf := List.replicate 9 false } } else s1

def execTimeSnap (v : Word) (s : State) : Host.Outcome State Fault Refusal := guarded (aTime + 0xC) v (s.timeSnap v)
def execTimeAdjNs (b : Fin 3) (v : Word) (s : State) : Host.Outcome State Fault Refusal :=
  guarded (aTime + 0x38 + 0x20 * b.val) v (s.timeAdj b.val v)
def execCaptPop (c : Fin 9) (v : Word) (s : State) : Host.Outcome State Fault Refusal :=
  guarded (aTime + 0x400 + 0x20 * c.val) v (s.captCtl c.val v)
def execTxtsPop (k : Fin 6) (v : Word) (s : State) : Host.Outcome State Fault Refusal :=
  guarded (aTime + 0x600 + 0x20 * k.val) v (s.txtsStatus k.val v)

/-- A stamp of L expressed in base `b` (R279): the offset of one instant and the bases' rate words. -/
def State.stampIn (s : State) (b ns : Nat) : Nat :=
  let age : Int := (s.time.l : Int) - (ns : Int) * 2 ^ 48
  let scaled := age * (2 ^ 40 + s.rate b) / (2 ^ 40 + s.rate 2)
  if b = 2 then ns else (((s.base b : Int) - scaled) / 2 ^ 48).toNat

/-! ### Opcodes -/

def specTriggerSet : OpSpec where
  txn := true
  atOnce := fun _ _ => false
  units := fun _ _ => [7]
  len := fun c => c.plen == 24
  param := fun c _ =>
    firstBad [(c.at 20 1 > 2, 20), (c.at 21 1 > 1, 21), (c.at 22 1 > 1, 22), (c.badTime 24, 32),
      (c.at 36 4 < 1000 || c.at 36 4 > 1000000000, 36), (c.at 40 4 < 100 || c.at 40 4 + 100 > c.at 36 4, 40)]
  apply := fun c bad s =>
    if bad.contains 7 then s else
    let a := aTime + 0x200 + 0x20 * 5
    let s1 := (((s.setReg64 (a + 4) (c.at 24 8)).setReg (a + 0xC) (BitVec.ofNat 32 (c.at 32 4))).setReg (a + 0x10)
      (BitVec.ofNat 32 (c.at 36 4))).setReg (a + 0x14) (BitVec.ofNat 32 (c.at 40 4))
    (s1.setReg a (BitVec.ofNat 32 (c.at 21 1 + 2 * c.at 20 1 + 8 * c.at 22 1))).cmpArmed 5

def specCaptureRead : OpSpec where
  standby := true
  units := fun _ _ => [7]
  param := fun c _ => firstBad [(c.at 20 1 > 8, 20), (c.at 21 1 > 2, 21)]
  run := fun c s =>
    let i := c.at 20 1
    let l := nth [] s.time.capt i
    let s1 := { s with time := { s.time with capt := s.time.capt.set i [] } }
    readOk' s1 ([BitVec.ofNat 8 l.length, BitVec.ofNat 8 (b2n (nth false s.time.captOvf i)), 0, 0] ++
      (l.map fun t => timeBytes (s.stampIn (c.at 21 1) t)).flatten)
where readOk' (s : State) (d : List Byte) : State × ReplyRec × List Byte :=
  (s, { status := stOK, touched := unitBits [7], succeeded := unitBits [7] }, d)

def specTimeRead : OpSpec where
  standby := true
  units := fun _ _ => [7]
  run := fun _ s =>
    let t := fun (b : Nat) => timeBytes (s.base b / 2 ^ 48)
    (s, { status := stOK, touched := unitBits [7], succeeded := unitBits [7] },
      t 0 ++ t 1 ++ timeBytes s.nowNs ++ beInt 4 (s.rate 0) ++ beInt 4 (s.rate 1) ++ beInt 4 (s.rate 2) ++
        timeBytes (s.frcNs s.time.frc) ++ beBytes 4 (b2n s.loaded))

end Sys2Proof.Machine
end

