-- ==== Sys2Proof/Machine/Refs.lean ====
section
/-! DEFINITION. PTP domains, the reference ensemble, the selector, the phase pull and holdover (R281 to R301, R303, R305). -/

namespace Sys2Proof.Machine

/-! ### Reading and changing references -/

def State.ref (s : State) (r : Nat) : Ref := nth {} s.time.refs r
def State.modRef (s : State) (r : Nat) (f : Ref → Ref) : State :=
  { s with time := { s.time with refs := s.time.refs.modify r f } }
def State.modSel (s : State) (f : Sel → Sel) : State := { s with time := { s.time with sel := f s.time.sel } }
def State.slot (s : State) (d : Nat) : Ptp := nth {} s.time.ptp d
def State.modPtp (s : State) (d : Nat) (f : Ptp → Ptp) : State :=
  { s with time := { s.time with ptp := s.time.ptp.modify d f } }

/-- DEGRADED (R293). -/
def Ref.degraded (r : Ref) : Bool := decide (r.level > r.intrinsic)

/-- REF_QUALITY. -/
def State.refQuality (s : State) (r : Nat) : State :=
  let q := s.ref r
  s.event 0x8801 [BitVec.ofNat 8 r, BitVec.ofNat 8 q.level, BitVec.ofNat 8 (b2n q.degraded), 0]

/-- Intrinsic level of a PTP grandmaster (Table TIME-4). -/
def ptpLevel (cls acc : Nat) : Nat :=
  if cls = 6 then (if acc ≤ 0x21 then 1 else 2) else if cls = 13 then 2 else if cls = 7 ∨ cls = 14 then 3
  else if cls = 52 ∨ cls = 58 ∨ cls = 187 ∨ cls = 193 then 4 else if cls = 248 then 5 else if cls = 255 ∨ cls = 0 then 7 else 6

/-- Intrinsic level of reference `r` (R291). -/
def intrinsicOf (s : State) (r : Nat) : Nat :=
  let q := s.ref r
  if q.cfgLevel ≠ 0 then q.cfgLevel
  else if r ≤ 1 then (if (s.slot r).hasGm then ptpLevel (s.slot r).gmClass (s.slot r).gmAcc else q.intrinsic)
  else if r = 3 then (if q.grade = 1 then 1 else if q.grade = 2 then 4 else 5)
  else 5

/-- A reference whose level or DEGRADED has changed says so. -/
def State.noteQuality (s : State) (r : Nat) (old : Ref) : State :=
  if (s.ref r).level ≠ old.level ∨ (s.ref r).degraded ≠ old.degraded then s.refQuality r else s

/-- Seconds of wait-to-restore (CLKSEL_CTL.WTR). DEDUCED, log 128. -/
def State.wtrLen (s : State) : Nat := wbits (s.reg aClksel) 16 16

/-- Start the wait-to-restore timer, where it runs at all (R295). -/
def State.startWtr (s : State) (r : Nat) : State :=
  if s.time.sel.ever && (s.time.sel.st == 1 || s.time.sel.st == 2) && s.wtrLen ≠ 0 then
    s.modRef r fun q => { q with wtr := true, wtrLeft := s.wtrLen }
  else s

/-- Set a reference's intrinsic level: a level that was not degraded follows it (R291, R293). -/
def State.setIntrinsic (s : State) (r i : Nat) : State :=
  let q := s.ref r
  let lvl := if i = 7 then 7 else if q.level = 7 then (if q.intrinsic = 7 then i else 7)
    else if q.level = q.intrinsic then i else max q.level i
  let s1 := s.modRef r fun t => { t with intrinsic := i, level := lvl, wtr := t.wtr && lvl ≠ 7 }
  let s2 := if q.level = 7 ∧ lvl ≠ 7 ∧ q.present then s1.startWtr r else s1
  s2.noteQuality r q

/-! ### Selection (R294 to R297) -/

/-- The priority table: reference codes in order. -/
def State.prio (s : State) : List Nat :=
  ((List.range 4).map fun i => wbits (s.reg (aClksel + 0xC)) (8 * i) 8) ++
  ((List.range 4).map fun i => wbits (s.reg (aClksel + 0x10)) (8 * i) 8)

/-- The reference that the active has selected is absent at this standby (R303). -/
def State.refAbsent (s : State) : Bool :=
  s.standby && (match s.time.sel.sel with | some r => !(s.ref r).present | none => false)

/-- A reference is eligible (R294, R295). -/
def State.eligible (s : State) (r : Nat) : Bool :=
  let q := s.ref r
  let timed := q.wtr && (s.time.sel.st == 1 || s.time.sel.st == 2)
  q.enable && q.present && decide (1 ≤ q.level) && decide (q.level ≤ 6) && !timed && !(q.misaligned && s.anyZone) &&
    !(decide (r ≤ 1) && (s.slot r).st == 2)

/-- The preferred reference of those eligible: the lowest level, then the first in the table. -/
def State.preferred (s : State) : Option Nat :=
  let c := s.prio.filter fun r => r ≤ 5 && s.eligible r
  c.foldl (fun (b : Option Nat) r => match b with
    | none => some r
    | some x => if (s.ref r).level < (s.ref x).level then some r else some x) none

/-- A code in an event. -/
def refByte (r : Option Nat) : Byte := BitVec.ofNat 8 (r.getD 0xFF)

/-- A decision of the active goes into the delta, and both units make it at the delta's boundary (R303). -/
def State.enterRef (s : State) (ref : Option Nat) (cause : Nat) : State :=
  let same := fun (e : Entry) => match e with | .reference r _ => r == ref | _ => false
  if s.delta.entries.any same then s else s.enter (.reference ref cause)

/-- REF_SWITCH and CLKSEL_ERR.SWITCH. DEDUCED, log 126. -/
def State.refSwitched (s : State) (src dst : Option Nat) (cause : Nat) : State :=
  if src = dst then s
  else (s.raise (aClksel + 8) 0x10).event 0x8800 [refByte src, refByte dst, BitVec.ofNat 8 cause, 0]

/-- Select reference `r`: the rate stays continuous and the pull begins, or, with no zone enabled, L is to be stepped
(R296, R298, R301). -/
def State.selectRef (s : State) (r cause : Nat) (forced : Bool) : State :=
  let src := s.time.sel.sel
  let first := s.time.sel.st == 0
  let s1 := if s.time.sel.st = 3 then s.event 0x8802 [2, 0, 0, 0] else s
  let s2 := s1.modSel fun t => { t with
    st := 1, sel := some r, forced := forced, ever := true, u := s.rate 2 - (s.ref r).freq, outSpec := s.time.lostOsc,
    stepTo := if s.anyZone then none else some r }
  s2.refSwitched src (some r) (if first && cause ≠ 4 && cause ≠ 7 then 6 else cause)

/-- Sample standard deviation of the mean of a list, rounded down. -/
def meanDev (l : List Int) : Nat :=
  let n := l.length
  if n < 2 then 0 else
  let m := divEven (isum l) n
  isqrt ((isum (l.map fun x => (x - m) * (x - m))).toNat / (n * (n - 1)))

/-- L enters holdover (R300). -/
def State.enterHold (s : State) (cause : Nat) : State :=
  let src := s.time.sel.sel
  let l := s.time.sel.inTol
  let short := l.length < 60
  let s1 := s.modSel fun t => { t with
    st := 3, sel := none, forced := false, holdS := 0, stepTo := none, outSpec := short || s.time.lostOsc, fu := meanDev l }
  let s2 := if short then s1 else s1.setRate 2 (divEven (isum l) 60)
  let s3 := ((s2.raise (aClksel + 8) 0x20).refSwitched src none cause).event 0x8802 [0, 0, 0, 0]
  if short then s3.event 0x8802 [1, 0, 0, 0] else s3

/-- Whether a forced reference may stay (R297). -/
def State.forceOk (s : State) (r : Nat) : Bool :=
  (s.ref r).present && decide ((s.ref r).level < 7) && !(s.ref r).misaligned

/-- What R294 decides: a reference to select, or none for holdover, with its cause. `ended` says that a force has ended. -/
def refChoice (s : State) (ended : Bool) : Option (Option Nat × Nat) :=
  match s.time.sel.sel with
  | none => s.preferred.map fun p => (some p, 2)
  | some c =>
    let q := s.ref c
    if s.eligible c && s.prio.contains c then
      match s.preferred with
      | some p =>
        if p = c then none
        else if ended then some (some p, 5)
        else if (s.ref p).level < q.level then some (some p, 2)
        else if wbit (s.reg aClksel) 0 then some (some p, 3)
        else none
      | none => none
    else some (s.preferred, if ended then 5 else if q.present && q.enable then 1 else 0)

/-- Carry a decision out. -/
def State.toRef (s : State) (ref : Option Nat) (cause : Nat) : State :=
  match ref with
  | some r => s.selectRef r cause false
  | none => s.enterHold cause

/-- Decide again (R294): a unit of a pair in the delta, a lone one at once. -/
def State.decide' (s : State) (ended : Bool) : State :=
  match refChoice s ended with
  | some (ref, cause) => if s.role = 1 then s.enterRef ref cause else s.toRef ref cause
  | none => s

/-- Re-evaluate the selection, unless Ganen restarts (R373): a force ends where its reference is lost, disqualified or misaligned. -/
def State.reselect (s : State) (ended : Bool := false) : State :=
  if s.role = 2 || s.integ.restarting then s
  else if s.time.sel.forced then
    match s.time.sel.sel with
    | some c => if (s.ref c).present && decide ((s.ref c).level < 7) then s
        else (s.modSel fun t => { t with forced := false }).decide' true
    | none => s
  else s.decide' ended

/-- Phase limits of R296, ns. -/
def misalignedAt (e : Int) : Bool := decide (e.natAbs > 1000000)

/-- Store what is measured of a reference: its rate is L's with the frequency against L (R290, R298). DEDUCED, log 206. -/
def State.measure (s : State) (r : Nat) (m : RefMeas) : State :=
  s.modRef r fun q => { q with phase := m.phase, freq := s.rate 2 + m.freq, misaligned := misalignedAt m.phase, grade := m.grade }

/-- A reference is lost (R290). -/
def State.refLost (s : State) (r : Nat) : State :=
  if (s.ref r).present then
    ((s.modRef r fun q => { q with present := false, wtr := false, ovr := 0, inTol := 0 }).refQuality r).reselect
  else s

def execReferenceLost (r : Fin 6) (s : State) : Host.Outcome State Fault Refusal := .next (s.refLost r.val)

/-- A reference's conditions have held for 1 s (R290, R295); a PTP domain's cannot hold outside SLAVE. -/
def State.refPresent (s : State) (r : Nat) (m : RefMeas) : State :=
  if (s.ref r).present || (decide (r ≤ 1) && (s.slot r).st != 1) then s
  else
    let s1 := (s.measure r m).modRef r fun q => { q with present := true, ovr := 0, inTol := 0 }
    ((s1.startWtr r).setIntrinsic r (intrinsicOf s1 r)).reselect

def execReferencePresent (r : Fin 6) (m : RefMeas) (s : State) : Host.Outcome State Fault Refusal := .next (s.refPresent r.val m)

/-- WAIT_TO_RESTORE_END (R295): the outcome is a TIMER entry. -/
def execWaitToRestoreEnd (r : Fin 6) (s : State) : Host.Outcome State Fault Refusal :=
  if (s.ref r.val).wtr && !s.integ.restarting then
    .next (((s.modRef r.val fun q => { q with wtr := false, wtrLeft := 0 }).enter (.timer (.waitToRestore r.val))).reselect)
  else .next s

/-! ### Deviation (R293) -/

/-- A sorted list with `x` put in. -/
def insertI (x : Int) : List Int → List Int
  | [] => [x]
  | y :: t => if x ≤ y then x :: y :: t else y :: insertI x t

/-- The median of a list: of an even number, the mean of the middle two. -/
def median (l : List Int) : Int :=
  let q := l.foldr insertI []
  let n := q.length
  if n = 0 then 0 else if n % 2 = 1 then nth 0 q (n / 2) else divEven (nth 0 q (n / 2 - 1) + nth 0 q (n / 2)) 2

/-- The rest of the ensemble for reference `r`: the other present references, and OSC_IN once its offset is learned. -/
def restOf (s : State) (r : Nat) : List Int :=
  ((List.range 6).filter fun x => x ≠ r && (s.ref x).present).map (fun x => (s.ref x).freq) ++
  (if s.time.sel.oscRates.length ≥ 1000 && !s.time.lostOsc then [divEven (isum s.time.sel.oscRates) 1000] else [])

/-- Deviation of a reference, ppb. -/
def devOf (s : State) (r : Nat) : Int :=
  match restOf s r with
  | [] => 0
  | l => divEven (((s.ref r).freq - median l) * 1000000000) (2 ^ 40)

/-- One second of a reference's level rules. -/
def Ref.second (q : Ref) (d : Int) : Ref :=
  let a := d.natAbs
  let q := { q with dev := d }
  if a > q.disq then { q with level := 7, ovr := 0, inTol := 0, wtr := false }
  else if a > q.tol then
    if q.ovr + 1 ≥ q.dwell then { q with ovr := 0, inTol := 0, level := if q.level < 6 then q.level + 1 else q.level }
    else { q with ovr := q.ovr + 1, inTol := 0 }
  else if q.inTol + 1 ≥ q.dwell then
    { q with ovr := 0, inTol := 0, level := if q.level = 7 then q.intrinsic else if q.level > q.intrinsic then q.level - 1 else q.level }
  else { q with ovr := 0, inTol := q.inTol + 1 }

/-- One second of reference `r`. -/
def State.refSecond (s : State) (r : Nat) : State :=
  let old := s.ref r
  if !old.present then s else
  let s1 := s.modRef r fun q => q.second (devOf s r)
  let s2 := if old.level = 7 ∧ (s1.ref r).level ≠ 7 then s1.startWtr r else s1
  s2.noteQuality r old

/-- The selector's histories of L's rate (R293, R300). -/
def State.rateSecond (s : State) : State :=
  if s.time.sel.st ≠ 2 then s else
  match s.time.sel.sel with
  | none => s
  | some r =>
    let q := s.ref r
    let l := (s.rate 2 :: s.time.sel.rates).take 60
    s.modSel fun t => { t with
      rates := l, inTol := if q.dev.natAbs ≤ q.tol then l else t.inTol,
      oscRates := if q.level ≤ 2 then (s.rate 2 :: t.oscRates).take 1000 else t.oscRates }

/-- DEVIATION_EVAL (R293): each second, every present reference is measured and judged, and the timers of R295 run. -/
def State.deviation (s : State) (ms : List RefMeas) : State :=
  let s1 := (List.range 6).foldl (fun s r => if (s.ref r).present then match ms[r]? with
    | some m => let t := s.measure r m; t.setIntrinsic r (intrinsicOf t r)
    | none => s else s) s
  let s2 := (List.range 6).foldl State.refSecond s1
  let s3 := if s2.time.sel.st = 1 ∨ s2.time.sel.st = 2 then
      (List.range 6).foldl (fun s r => s.modRef r fun q => { q with wtrLeft := q.wtrLeft - 1 }) s2 else s2
  s3.rateSecond.reselect

def execDeviationEval (ms : List RefMeas) (s : State) : Host.Outcome State Fault Refusal :=
  .next (if s.integ.restarting then s else s.deviation ms)

/-! ### The pull (R298) -/

/-- The slope in 2^-40. -/
def State.slope (s : State) : Nat :=
  let v := wbits (s.reg aClksel) 4 8
  (if v = 0 ∨ v > 100 then 10 else v) * 2 ^ 40 / 10000000

/-- The correction of one control step. -/
def pullU (slope : Nat) (locked : Bool) (u e : Int) : Int :=
  let sl : Int := slope
  if locked then clampI (-sl) sl (divEven (e * 2 ^ 40) 10000000000)
  else
    let m : Int := min slope (isqrt (2 * slope * e.natAbs * 2 ^ 40 / 1000000000))
    let aim := if e < 0 then -m else m
    let a := divEven sl 1000
    u + clampI (-a) a (aim - u)

/-- PULL_STEP: one control step of the selected reference. -/
def State.pull (s : State) (m : RefMeas) : State :=
  match s.time.sel.sel with
  | none => s
  | some r =>
    if !(s.ref r).present || s.time.sel.stepTo.isSome || !(s.time.sel.st == 1 || s.time.sel.st == 2) then s
    else
      let was := (s.ref r).misaligned
      let s1 := s.measure r m
      let lock := s.time.sel.st == 2 || decide (m.phase.natAbs ≤ 50)
      let u := pullU s.slope lock s.time.sel.u m.phase
      let s2 := (s1.modSel fun t => { t with st := if lock then 2 else 1, u := u }).setRate 2 ((s1.ref r).freq + u)
      if misalignedAt m.phase ≠ was then s2.reselect else s2

/-- L's rate word holds while Ganen restarts (R373). -/
def execPullStep (m : RefMeas) (s : State) : Host.Outcome State Fault Refusal := .next (if s.integ.restarting then s else s.pull m)

/-- A step of L to the reference newly selected, at the boundary in hand with no zone enabled (R296): STEP_L is set, and the
bases of a mastered domain follow with the next cycle. -/
def State.stepL (s : State) : State :=
  match s.time.sel.stepTo with
  | none => s
  | some r =>
    let s1 := s.modSel fun t => { t with stepTo := none }
    if s.anyZone || !(s.ref r).present || (s.ref r).phase = 0 then s1
    else
      let s2 := (s1.stepBase 2 (s.ref r).phase).raise (aTime + 8) 8
      (s2.modRef r fun q => { q with phase := 0, misaligned := false }).modSel fun t => { t with u := 0 }

/-! ### Holdover (R301) -/

/-- Drift of the oscillator in `t` seconds, in 2^-40. DEDUCED, log 129. -/
def driftAt (stab t : Nat) : Nat := stab * t * 2 ^ 40 / (3600 * 1000000000)

/-- phase_err of R301, ns. -/
def phaseErr (q : Sel) : Nat :=
  q.fu * q.holdS * 1000000000 / 2 ^ 40 + q.stab * q.holdS * q.holdS / (2 * 3600)

/-- HOLDOVER_EVAL: each second of holdover. -/
def execHoldoverEval (s : State) : Host.Outcome State Fault Refusal :=
  let q := s.time.sel
  if q.st ≠ 3 || s.integ.restarting then .next s
  else
    let s1 := s.modSel fun t => { t with holdS := t.holdS + 1 }
    let q1 := s1.time.sel
    let bad := (q1.fu + driftAt q1.stab q1.holdS) * 1000000 > 2 ^ 40 || phaseErr q1 > q1.holdLimit
    if bad && !q.outSpec then .next ((s1.modSel fun t => { t with outSpec := true }).event 0x8802 [1, 0, 0, 0]) else .next s1

/-- A decision of the active takes effect in both units (R303): the standby gives its cause as 7, and holds L's rate where it lacks the
reference; the active leaves out a reference that has been lost since. -/
def State.refApply (s : State) (ref : Option Nat) (cause : Nat) : State :=
  let there := match ref with
    | some r => s.time.sel.sel == some r || (s.role ≠ 2 && !(s.ref r).present)
    | none => s.time.sel.st == 3
  if s.role = 3 || there then s else s.toRef ref (if s.role = 2 then 7 else cause)

/-! ### PTP (R281 to R283) -/

/-- Domain number in force. -/
def Ptp.dom (p : Ptp) : Nat := p.domain.getD (if p.profile = 0 then 127 else 0)
/-- logAnnounceInterval in force. -/
def Ptp.ann (p : Ptp) : Int := p.logAnn.getD (if p.profile = 0 then -2 else 1)

/-- A slot leaves SLAVE: its reference is lost (R290). -/
def State.leaveSlave (s : State) (d st : Nat) : State :=
  let was := (s.slot d).st
  let s1 := s.modPtp d fun p => { p with st := st, steered := false, hasGm := p.hasGm && st = 1 }
  if was = 1 ∧ st ≠ 1 then s1.refLost d else s1

/-- An offset of a slave (R282): the first, and one above 100 µs, is removed by a step; another through the rate word, which
the servo chooses. DEDUCED, log 125. -/
def State.steer (s : State) (d : Nat) (offset : Int) : State :=
  let p := s.slot d
  if !p.steered || offset.natAbs > 100000 then (s.stepBase d (-offset)).modPtp d fun q => { q with steered := true }
  else
    let (k, s1) := s.fresh
    s1.setRate d (Config.freeInt k d)

/-- A slot's message (R281 to R283). -/
def State.ptpMessage (s : State) (d : Nat) (m : PtpMsg) : State :=
  let p := s.slot d
  if !p.enable then s else
  match m with
  | .announce dom src cls acc key own =>
    if dom ≠ p.dom then s
    else if own && p.master then (if p.st = 2 then s else (s.leaveSlave d 2).reselect)
    else if p.hasGm && src ≠ p.gmSrc && key ≥ p.gmKey then s
    else
      let enter := p.st ≠ 1 || !p.hasGm || src ≠ p.gmSrc
      let s1 := s.modPtp d fun q => { q with
        st := 1, hasGm := true, gmSrc := src, gmClass := cls, gmAcc := acc, gmKey := key, steered := q.steered && !enter }
      (s1.setIntrinsic d (intrinsicOf s1 d)).reselect
  | .sync dom seq two origin arrival =>
    if dom ≠ p.dom || p.st ≠ 1 then s
    else if two then s.modPtp d fun q => { q with syncSeq := seq, syncAt := arrival }
    else s.steer d (arrival - origin - p.delay)
  | .followUp dom seq origin =>
    if dom ≠ p.dom || p.st ≠ 1 || seq ≠ p.syncSeq then s else s.steer d (p.syncAt - origin - p.delay)
  | .delayResp dom delay => if dom ≠ p.dom || p.st ≠ 1 then s else s.modPtp d fun q => { q with delay := delay }
  | .delayReq dom seq => if dom ≠ p.dom || p.st ≠ 2 then s else s.place p.port 2 (.msg "Delay_Resp" [dom, seq, s.base d / 2 ^ 48])

/-- PTP_MESSAGE: one that comes while Ganen restarts is lost (R373). -/
def execPtpMessage (d : Fin 2) (m : PtpMsg) (s : State) : Host.Outcome State Fault Refusal :=
  .next (if s.integ.restarting then s else s.ptpMessage d.val m)

/-- PTP_ANNOUNCE_TIMEOUT (R290, R283): announceReceiptTimeout ends; a master-capable slot becomes master. -/
def execPtpAnnounceTimeout (d : Fin 2) (s : State) : Host.Outcome State Fault Refusal :=
  let p := s.slot d.val
  if !p.enable || p.st = 2 || s.integ.restarting then .next s else .next ((s.leaveSlave d.val (if p.master then 2 else 0)).reselect)

/-- PTP_SYNC_INTERVAL: the intervals of a master's Sync (0) and Announce (1), and of a slave's Delay_Req (2). -/
def execPtpSyncInterval (d : Fin 2) (what : Fin 3) (s : State) : Host.Outcome State Fault Refusal :=
  let p := s.slot d.val
  if s.integ.restarting then .next s
  else if p.st = 2 ∧ what.val = 0 then
    .next (((s.place p.port 2 (.msg "Sync" [p.dom, p.seqSync])).place p.port 2 (.msg "Follow_Up" [p.dom, p.seqSync, s.base d.val / 2 ^ 48])).modPtp
      d.val fun q => { q with seqSync := (q.seqSync + 1) % 2 ^ 16 })
  else if p.st = 2 ∧ what.val = 1 then
    .next ((s.place p.port 2 (.msg "Announce" [p.dom, p.seqAnn, 248, 0xFE, p.prio1, p.prio2])).modPtp d.val fun q =>
      { q with seqAnn := (q.seqAnn + 1) % 2 ^ 16 })
  else if p.st = 1 ∧ what.val = 2 then
    .next ((s.place p.port 2 (.msg "Delay_Req" [p.dom, p.seqDly])).modPtp d.val fun q => { q with seqDly := (q.seqDly + 1) % 2 ^ 16 })
  else .next s

/-! ### Opcodes -/

/-- The slot that a PTP_SET gives. -/
def ptpSet (c : Cmd) (p : Ptp) : Ptp :=
  let on := fun (b : Nat) => (c.at 24 4).testBit b
  { p with
    enable := if on 0 then c.at 28 1 == 1 else p.enable
    domain := if on 1 then some (c.at 29 1) else p.domain
    profile := if on 2 then c.at 30 1 else p.profile
    master := if on 3 then c.at 31 1 == 1 else p.master
    port := if on 4 then c.at 32 1 else p.port
    l2 := if on 5 then c.at 33 1 == 1 else p.l2
    prio1 := if on 6 then c.at 34 1 else p.prio1
    prio2 := if on 6 then c.at 35 1 else p.prio2
    logSync := if on 7 then c.int 36 1 else p.logSync
    logAnn := if on 7 then some (c.int 37 1) else p.logAnn
    annTo := if on 7 then c.at 38 1 else p.annTo
    logDly := if on 7 then c.int 39 1 else p.logDly }

/-- Outside two bounds. -/
def outI (lo hi v : Int) : Bool := decide (v < lo) || decide (v > hi)

def specPtpSet : OpSpec where
  txn := true
  atOnce := fun _ _ => false
  units := fun _ _ => [7]
  len := fun c => c.plen == 20
  param := fun c _ =>
    let m := c.at 24 4
    firstBad [(c.at 20 1 > 1, 20), (badMask m 8, 24), sel m 0 (c.at 28 1 > 1) 28, sel m 1 (c.at 29 1 > 127) 29,
      sel m 2 (c.at 30 1 > 1) 30, sel m 3 (c.at 31 1 > 1) 31, sel m 4 (c.at 32 1 > 5) 32, sel m 5 (c.at 33 1 > 1) 33,
      sel m 7 (outI (-7) 0 (c.int 36 1)) 36, sel m 7 (outI (-3) 3 (c.int 37 1)) 37,
      sel m 7 (c.at 38 1 < 2 || c.at 38 1 > 10) 38, sel m 7 (outI (-7) 5 (c.int 39 1)) 39]
  busy := fun c s =>
    let d := c.at 20 1
    let p := ptpSet c (s.slot d)
    let q := s.slot (1 - d)
    if p.enable && q.enable && p.port = q.port && p.dom = q.dom then some (reject stConflict 7 p.port) else none
  apply := fun c bad s =>
    if bad.contains 7 then s else
    let d := c.at 20 1
    let p := s.slot d
    let q := ptpSet c p
    let s1 := s.modPtp d fun _ => q
    let restart := p.enable ≠ q.enable || p.dom ≠ q.dom || p.profile ≠ q.profile || p.port ≠ q.port || p.l2 ≠ q.l2 ||
      (p.st == 2 && !q.master)
    if restart then (s1.leaveSlave d 0).reselect else s1

/-- Nominal rates of a reference. -/
def badNominal (r v : Nat) : Bool := if r = 2 then v > 2 else if r = 4 then v > 5 else v ≠ 0

/-- The reference that a REF_INPUT_SET gives. -/
def refSet (c : Cmd) (q : Ref) : Ref :=
  let on := fun (b : Nat) => (c.at 24 4).testBit b
  { q with
    enable := if on 0 then c.at 28 1 == 1 else q.enable
    cfgLevel := if on 1 then c.at 29 1 else q.cfgLevel
    rate := if on 2 then c.at 30 1 else q.rate
    tol := if on 3 then c.at 32 4 else q.tol
    disq := if on 4 then c.at 36 4 else q.disq
    dwell := if on 5 then c.at 40 2 else q.dwell }

def specRefInputSet : OpSpec where
  txn := true
  atOnce := fun _ _ => false
  units := fun _ _ => [7]
  len := fun c => c.plen == 32
  param := fun c s =>
    let m := c.at 24 4
    let r := c.at 20 1
    let q := refSet c (s.ref r)
    firstBad [(r > 6, 20), (badMask m 8 || (if r = 6 then m % 64 ≠ 0 else m ≥ 64), 24), sel m 0 (c.at 28 1 > 1) 28,
      sel m 1 (c.at 29 1 > 6 || (c.at 29 1 = 0 && !(r = 0 || r = 1 || r = 3))) 29, sel m 2 (badNominal r (c.at 30 1)) 30,
      sel m 3 (c.at 32 4 = 0 || c.at 32 4 > 100000 || (!m.testBit 4 && q.disq ≤ q.tol)) 32,
      sel m 4 (q.disq ≤ q.tol || c.at 36 4 > 1000000) 36, sel m 5 (c.at 40 2 = 0 || c.at 40 2 > 3600) 40,
      sel m 6 (c.at 44 4 < 1000 || c.at 44 4 > 1000000000) 44, sel m 7 (c.at 48 4 = 0 || c.at 48 4 > 100000) 48]
  apply := fun c bad s =>
    if bad.contains 7 then s else
    let m := c.at 24 4
    let r := c.at 20 1
    if r = 6 then s.modSel fun t => { t with
      holdLimit := if m.testBit 6 then c.at 44 4 else t.holdLimit, stab := if m.testBit 7 then c.at 48 4 else t.stab }
    else
      let s1 := s.modRef r (refSet c)
      ((if m.testBit 1 then s1.setIntrinsic r (intrinsicOf s1 r) else s1)).reselect

/-- The offset of the first entry of a priority table that is undefined or repeated. -/
def badPrio (l : List Nat) : Option Nat :=
  (l.zipIdx.find? fun e => (e.1 > 5 && e.1 ≠ 0xFF) || (e.1 ≠ 0xFF && (l.take e.2).contains e.1)).map fun e => 20 + e.2

def specRefPrioritySet : OpSpec where
  txn := true
  atOnce := fun _ _ => false
  units := fun _ _ => [7]
  len := fun c => c.plen == 16
  param := fun c _ =>
    (badPrio ((List.range 8).map fun i => c.at (20 + i) 1)).or
      (firstBad [(c.at 28 1 > 1, 28), (c.at 30 2 > 3600, 30), (c.at 32 2 = 0 || c.at 32 2 > 100, 32)])
  apply := fun c bad s =>
    if bad.contains 7 then s else
    let w := fun (o : Nat) => BitVec.ofNat 32 (c.at o 1 + 2 ^ 8 * c.at (o + 1) 1 + 2 ^ 16 * c.at (o + 2) 1 + 2 ^ 24 * c.at (o + 3) 1)
    (((s.setReg (aClksel + 0xC) (w 20)).setReg (aClksel + 0x10) (w 24)).setReg aClksel
      (BitVec.ofNat 32 (c.at 30 2 * 2 ^ 16 + c.at 32 2 * 16 + c.at 28 1))).reselect

def specRefForce : OpSpec where
  txn := true
  atOnce := fun _ _ => false
  units := fun _ _ => [7]
  param := fun c _ => firstBad [(c.at 20 1 > 5 && c.at 20 1 ≠ 0xFF, 20), (c.at 21 1 > 1, 21)]
  busy := fun c s =>
    let r := c.at 20 1
    let step := c.at 21 1 == 1
    let q := s.ref r
    let fails := r ≠ 0xFF && (!q.present || q.level ≥ 7 || (q.misaligned && !step))
    if fails || (step && s.anyZone) then some (reject stConflict 7 r) else none
  apply := fun c bad s =>
    if bad.contains 7 then s else
    let r := c.at 20 1
    if r = 0xFF then
      if s.time.sel.forced then (s.modSel fun t => { t with forced := false }).reselect true else s
    else if s.time.sel.sel = some r then s.modSel fun t =>
      { t with forced := true, stepTo := if c.at 21 1 = 1 && (s.ref r).misaligned && !s.anyZone then some r else t.stepTo }
    else s.selectRef r (if s.role = 2 then 7 else 4) true

/-- CLKSEL_STATUS. -/
def clkselStatus (s : State) : Word :=
  let t := s.time.sel
  BitVec.ofNat 32 (b2n t.outSpec * 2 ^ 9 + b2n t.forced * 2 ^ 8 + t.sel.getD 7 * 16 + t.st)

/-- CLKSEL_REF_STATUS_r. -/
def refStatusWord (s : State) (r : Nat) : Word :=
  let q := s.ref r
  BitVec.ofNat 32 (q.intrinsic * 2 ^ 12 + q.level * 2 ^ 8 + b2n q.wtr * 16 + b2n q.misaligned * 8 + b2n q.degraded * 4 +
    b2n (s.eligible r) * 2 + b2n q.present)

/-- CLKSEL_PHASE. -/
def clkselPhase (s : State) : Word :=
  match s.time.sel.sel with | some r => BitVec.ofInt 32 (sat 32 (s.ref r).phase) | none => 0

/-- CLKSEL_HOLD_EST. -/
def holdEst (s : State) : Word :=
  if s.time.sel.st = 3 then BitVec.ofNat 32 (min (phaseErr s.time.sel) (2 ^ 32 - 1)) else 0

def specRefStatus : OpSpec where
  standby := true
  units := fun _ _ => [7]
  run := fun _ s =>
    let w := fun (x : Word) => beBytes 4 x.toNat
    (s, { status := stOK, touched := unitBits [7], succeeded := unitBits [7] },
      w (clkselStatus s) ++ w (clkselPhase s) ++ w (holdEst s) ++
        ((List.range 6).map fun r => w (refStatusWord s r) ++ beInt 4 (s.ref r).dev ++ beInt 4 (sat 32 (s.ref r).phase) ++
          beBytes 4 (if (s.ref r).wtr then (s.ref r).wtrLeft else 0)).flatten)

end Sys2Proof.Machine
end

