-- ==== Sys2Proof/Machine/Integrity.lean ====
section
/-! DEFINITION. The integrity unit's own events (13): lockstep, the restart of the control complex, thermal samples, dual-clock
queues, coalescing, FAULT_N's clearing write, counter snapshots and the reading of the log. -/

namespace Sys2Proof.Machine

/-- A signed number as a word of Detail. -/
def wordI (x : Int) : Word := BitVec.ofInt 32 x
/-- A number as a word of Detail. -/
def wordN (x : Nat) : Word := BitVec.ofNat 32 x

/-! ### Restart of the control complex (R371 to R373) -/

/-- The unit stops rendering until POR_N (R373, R380). DEDUCED, log 66. -/
def State.stopUnit (s : State) : State :=
  { s with integ := { s.integ with stopped := true, restarting := false } }

/-- The control complex is reset: what it had not yet closed is gone, UDP datagrams are lost, and Loupe pauses (R373).
DEDUCED, log 154. -/
def State.restart (s : State) : State :=
  { s with
    integ := { s.integ with restarting := true, missed := 0 }
    delta := { s.delta with entries := [], closed := none, cutoff := false, acked := false, rolled := [] }
    kcp := { s.kcp with rx := s.kcp.rx.filter fun e => !isUdp e.1, pieces := [] } }

/-- A lockstep mismatch or a stall: a restart, or the unit's stop where a restart already runs. -/
def State.controlFault (s : State) : State :=
  if s.integ.stopped then s.restart else if s.integ.restarting then s.stopUnit else s.restart

/-- LOCKSTEP (R371, R373). -/
def execLockstep (core : Fin 2) (pc : Nat) (s : State) : Host.Outcome State Fault Refusal :=
  let r := s.report { cls := 0x10, dev := true, inst := core.val, detail := [wordN pc] }
  .next (if s.integ.restarting then r.stopUnit else r.controlFault)

/-- GANEN_STALL's record: the last closed block, low word first. -/
def State.stallRecord (s : State) : State :=
  s.report { cls := 0x11, dev := true, detail := [wordN s.integ.lastClosed, wordN (s.integ.lastClosed / 2 ^ 32)] }

/-- GANEN_RESTART_TIMEOUT (R373). -/
def execGanenRestartTimeout (s : State) : Host.Outcome State Fault Refusal :=
  .next (if s.integ.restarting then s.stallRecord.stopUnit else s)

/-! ### Temperature (R374, R4) -/

/-- The grade's greatest junction temperature, 0.01 °C. -/
def State.tjMax (s : State) : Int := if s.sec.gradeE then 10500 else 9500

/-- THERMAL_SAMPLE: the fourth sample in a row above the maximum detects THERMAL, which holds until a sample is not. DEDUCED, log 153. -/
def execThermalSample (t : Int) (s : State) : Host.Outcome State Fault Refusal :=
  let s1 := s.putReg (aInteg + 0x28) 16 16 (BitVec.ofInt 16 t).toNat
  if t > s.tjMax then
    let n := s.integ.hot + 1
    let s2 := { s1 with integ := { s1.integ with hot := min n 4 } }
    if n = 4 then
      .next (((s2.raise (aInteg + 0x28) 0x100).raise (aInteg + 4) 8).report { cls := 3, dev := true, detail := [wordI t] })
    else .next s2
  else .next (({ s1 with integ := { s1.integ with hot := 0 } }).lower (aInteg + 0x28) 0x100)

/-! ### Dual-clock queues (R24, R367) -/

/-- The unit on the far side of a crossing (Table INTEG-7). -/
def crossUnit : Crossing → Nat
  | .media => 6 | .mgmt => 6 | .bezel => 10 | .audioIo => 8 | .tdmPort => 8 | .loupe => 4 | .facetStation => 5
  | .dramPort => 9 | .pcie => 1

/-- Poison the channel-blocks named. -/
def State.poisonBlocks (s : State) (chans : List Nat) : State :=
  let mark := fun (e : Nat × Blk) => if chans.contains e.1 then (e.1, poison e.2) else e
  { s with render := { s.render with blocks := s.render.blocks.map mark } }

/-- Queues that carry what an input window collects. -/
def inward : Crossing → Bool
  | .media | .audioIo | .tdmPort | .loupe => true
  | .mgmt | .bezel | .facetStation | .dramPort | .pcie => false

/-- A queue failed: the input channels named lose samples of the open window, whose block is poisoned when it is made; of every
other channel the blocks at hand are poisoned (R24). DEDUCED, log 155. -/
def State.queueLost (s : State) (q : Crossing) (chans : List Nat) : State :=
  let late := fun (c : Nat) => inward q && c < 2 ^ 28
  let s1 := s.poisonBlocks (chans.filter fun c => !late c)
  { s1 with render := { s1.render with cdcBad := (s1.render.cdcBad ++ chans.filter late).eraseDups } }

/-- CDC_QUEUE: an inclusion (N for a TDM port's queue, R318), and the blocks that the queue carries are poisoned. -/
def execCdcQueue (q : Crossing) (inst : Nat) (dir : Bool) (chans : List Nat) (s : State) : Host.Outcome State Fault Refusal :=
  .next ((s.report { cls := 0x22, dev := q != .tdmPort, inst := inst, unit := some (crossUnit q), detail := [wordN (b2n dir)] }).queueLost q chans)

/-! ### Coalescing (R378) -/

/-- REPEAT_RECORD: the second of a record ends; where detections were coalesced, one record carries their number. DEDUCED, log 152. -/
def execRepeatRecord (cls unit inst : Nat) (s : State) : Host.Outcome State Fault Refusal :=
  let same := fun (e : Nat × Nat × Nat × Bool × Nat) => e.1 == cls && e.2.1 == unit && e.2.2.1 == inst
  match s.integ.recent.find? same with
  | none => .next s
  | some e =>
    let s1 := { s with integ := { s.integ with recent := s.integ.recent.filter fun x => !same x } }
    if e.2.2.2.2 = 0 then .next s1
    else
      let dev := e.2.2.2.1
      let r := s1.recordOf { cls := cls, dev := dev, inst := inst, unit := some unit, flags := 16 } false e.2.2.2.2
      let seq := (s1.reg (aInteg + 0x10)).toNat
      let s2 := s1.writeRecord r
      let s3 := if dev then s2.raise (aInteg + 0xC) 1 else s2
      .next (if dev then s3.event 0x8000 ({ r with seq := seq }).kcp else s3)

/-! ### FAULT (R380) -/

/-- Clear FAULT unless a persistent condition holds. -/
def State.clearFault (s : State) : State := if s.persist then s else s.lower (aInteg + 0xC) 1

/-- INTEG_FAULT_WRITE. DEDUCED, log 156. -/
def execIntegFaultWrite (v : Word) (s : State) : Host.Outcome State Fault Refusal :=
  guarded (aInteg + 0xC) v (if wbit v 0 then s.clearFault else s)

/-! ### Counter snapshots (R381, R382) -/

/-- The addresses of the CNT_SNAP registers. -/
def snapRegs : List Nat :=
  [aTime + 0x80, aDma + 0x80, aBusmx + 0x80, aDramc + 0x80, aTdm + 0x80, aSide + 0x80, aLoupe + 0x80, aFacetctl + 0x80,
   aPav + 0x80, aPair + 0x80, aInteg + 0x80] ++ (List.range 6).map fun k => aNet k + 0x80

/-- The counters of the block that a CNT_SNAP register belongs to. -/
def snapSpan (a : Nat) : Nat := if 0x40400000 ≤ a ∧ a < 0x40500000 then 0x10000 else 0x100000

/-- A write of a CNT_SNAP register, by Ganen or by another. -/
def State.cntSnap (s : State) (a : Nat) (v : Word) (byGanen : Bool) : State :=
  if wbit v 0 && snapRegs.contains a then s.snapCnts (a - 0x80) (a - 0x80 + snapSpan a) byGanen else s

def execCntSnap (addr : Nat) (v : Word) (s : State) : Host.Outcome State Fault Refusal :=
  if snapRegs.contains addr then guarded addr v (s.cntSnap addr v false) else .next s

/-! ### The log over KCP (R379) -/

/-- The records that are held, in Table or in the DRAM copy, in order. -/
def heldRecords (s : State) : List Incl :=
  (s.integ.dram.filter fun r => !(s.integ.log.any fun q => q.seq == r.seq)) ++ s.integ.log

/-- Whether sequence `a` is at or after `b`, modulo 2^32. -/
def seqAfter (a b : Nat) : Bool := decide ((a + 2 ^ 32 - b) % 2 ^ 32 < 2 ^ 31)

/-- D records after INTEG_LOG_ACK. -/
def unacked (s : State) : Nat :=
  let ack := (s.reg (aInteg + 0x14)).toNat
  ((heldRecords s).filter fun r => r.dev && seqAfter r.seq ((ack + 1) % 2 ^ 32)).length

/-- The records that a DIAG_INCLUSION_READ returns. -/
def inclusionPick (c : Cmd) (s : State) : List Incl :=
  ((heldRecords s).filter fun r => seqAfter r.seq (c.at 20 4)).take (c.at 24 2)

def specDiagInclusionRead : OpSpec where
  standby := true
  spi := true
  units := fun _ _ => [12]
  len := fun c => c.plen == 8
  param := fun c _ => firstBad [(c.at 24 2 = 0 || c.at 24 2 > 16, 24), (c.at 26 1 > 1, 26)]
  run := fun c s =>
    let l := inclusionPick c s
    let s1 := match l.getLast? with
      | some r =>
        if c.at 26 1 = 1 then
          let t := s.setReg (aInteg + 0x14) (wordN r.seq)
          if unacked t = 0 then t.clearFault else t
        else s
      | none => s
    readOk s1 [12] (beBytes 4 ((l.head?.map (·.seq)).getD (c.at 20 4)) ++ beBytes 2 l.length ++ zeros 2 ++ (l.map Incl.kcp).flatten)

/-! ### Registers derived from the state (Table INTEG-6) -/

/-- INTEG_STATUS. -/
def integStatus (s : State) : Word :=
  wordN (min (unacked s) 0xFFFF * 2 ^ 16 +
    b2n (s.reg64 (aInteg + 0x18) ≠ 0 && !wbit (s.reg (aInteg + 4)) 1 && !s.integ.uncopied.isEmpty) * 8 +
    b2n s.integ.restarting * 4 + b2n s.persist * 2 + b2n s.faultN)

/-- INTEG_MON_STATUS. -/
def monStatus (s : State) : Word := (s.reg (aInteg + 0x28) &&& 0xFFFF0100) ||| wordN s.pins.supplyBad

end Sys2Proof.Machine
end

