-- ==== Sys2Proof/Machine/Memory.lean ====
section
/-! DEFINITION. The memories and the DRAM controller (R27, R28, R340 to R349, R370, R377): bytes at addresses, regions, errors,
initialisation, training and power-down. -/

namespace Sys2Proof.Machine

/-! ### Bytes -/

/-- What an unlisted address reads as: every memory is written with zeros at start-up (log 9). DESIGN CHOICE, log 9. -/
def memEmpty : Byte := 0

/-- The byte at an address. -/
def cellGet : List Host.Cell → Nat → Byte
  | [], _ => memEmpty
  | (x, b) :: t, a => if x = a then b else cellGet t a

/-- Set the byte at an address, keeping rising addresses and no entry equal to what an unlisted address reads as. -/
def cellSet : List Host.Cell → Nat → Byte → List Host.Cell
  | [], a, v => if v = memEmpty then [] else [(a, v)]
  | (x, b) :: t, a, v =>
    if a < x then (if v = memEmpty then (x, b) :: t else (a, v) :: (x, b) :: t)
    else if x = a then (if v = memEmpty then t else (a, v) :: t)
    else (x, b) :: cellSet t a v

/-- Every address of a list is above a bound, rising, with no empty entry. -/
def cellsAbove : Nat → List Host.Cell → Bool
  | _, [] => true
  | lo, (x, b) :: t => decide (lo < x) && b != memEmpty && cellsAbove x t

/-- The canonical form. -/
def Memory.wf : List Host.Cell → Bool
  | [] => true
  | (x, b) :: t => b != memEmpty && cellsAbove x t

/-- Set bytes from an address on. -/
def cellsSet (m : List Host.Cell) (a : Nat) : List Byte → List Host.Cell
  | [] => m
  | v :: t => cellsSet (cellSet m a v) (a + 1) t

/-- Clear every address of a span. -/
def cellsClear (m : List Host.Cell) (lo hi : Nat) : List Host.Cell := m.filter fun c => !(decide (lo ≤ c.1) && decide (c.1 < hi))

/-- `n` bytes of memory from an address. -/
def State.memBytes (s : State) (a n : Nat) : List Byte := (List.range n).map fun i => cellGet s.mem.bytes (a + i)

/-- Write bytes of memory. -/
def State.memWrite (s : State) (a : Nat) (bs : List Byte) : State :=
  { s with mem := { s.mem with bytes := cellsSet s.mem.bytes a bs } }

/-- Clear a span of memory. -/
def State.memClear (s : State) (lo hi : Nat) : State := { s with mem := { s.mem with bytes := cellsClear s.mem.bytes lo hi } }

def secLo : Nat := 0x10070000
def secHi : Nat := 0x10080000
def dramLo : Nat := 0x800000000

/-- Usable bytes of DRAM: 7/8 of what is installed (R343). -/
def State.dramSize (s : State) : Nat := s.mem.capacity * 2 ^ 30 * 7 / 8

/-- What an address names (Table ARCH-6). -/
inductive Region where
  | rom | table | secure | crown | facet | periph | dram | nothing
  deriving DecidableEq, Repr

/-- The region of an address (R27, R28). PRESUMED, log 139. -/
def State.region (s : State) (a : Nat) : Region :=
  if a < 0x40000 then .rom
  else if 0x10000000 ≤ a ∧ a < secLo then .table
  else if secLo ≤ a ∧ a < secHi then .secure
  else if 0x20000000 ≤ a ∧ a < 0x26000000 then .crown
  else if 0x30000000 ≤ a ∧ a < 0x34000000 ∧ a % 0x100000 < 0x90000 then .facet
  else if 0x40000000 ≤ a ∧ a < 0x41200000 ∧ !(decide (0x40460000 ≤ a) && decide (a < 0x40500000)) then .periph
  else if dramLo ≤ a ∧ a < dramLo + s.dramSize then .dram
  else .nothing

/-- The inclusion ring in Table (R377): record `q` lies at the place of its sequence. -/
def ringByte (s : State) (a : Nat) : Byte :=
  let slot := (a - 0x10060000) / 64
  match s.integ.log.find? fun r => r.seq % 1024 == slot with
  | some r => nth 0 r.stored ((a - 0x10060000) % 64)
  | none => cellGet s.mem.bytes a

/-- Where the block buffers and the user kernels' partition begin in Crown: Table ARCH-10's partitions in the table's order, from
Crown's first address. DESIGN CHOICE, log 139. -/
def crownBlocks : Nat := 0x24E00000
def crownUser : Nat := 0x25A00000

/-- The image of a channel-block in its buffer: samples, then the Carat, little-endian (R365). -/
def Blk.image (b : Blk) : List Byte := (b.smp.map fun x => leBytes 4 (BitVec.ofInt 32 x).toNat).flatten ++ leBytes 4 b.carat.toNat

/-- A byte of the block buffers of Crown, where the spec gives no channel's place (log 139). -/
def blockByte (s : State) (a : Nat) : Byte :=
  let at' := fun (e : Nat × Blk) => crownBlocks + 128 * (Config.crownPlace e.1 % 0x8000)
  match s.render.blocks.find? fun e => decide (at' e ≤ a) && decide (a < at' e + 68) with
  | some e => nth 0 e.2.image (a - at' e)
  | none => cellGet s.mem.bytes a

/-- A byte as a master reads it; the boot ROM's contents are the device's own. -/
def State.readByte (s : State) (a : Nat) : Byte :=
  if a < 0x40000 then Config.romByte a
  else if 0x10060000 ≤ a ∧ a < secLo then ringByte s a
  else if crownBlocks ≤ a ∧ a < crownBlocks + 0x400000 then blockByte s a
  else cellGet s.mem.bytes a

/-- Bytes as a master reads them. -/
def State.readBytes (s : State) (a n : Nat) : List Byte := (List.range n).map fun i => s.readByte (a + i)

/-! ### Errors of the memories (R340, R342, R345) -/

/-- The record of an uncorrectable word of a region; `scrub` marks a scrubber's. -/
def State.eccReport (s : State) (r : Region) (inst a synd : Nat) (dev scrub : Bool) : State :=
  let d := fun (cls : Nat) (dv : Bool) (s : State) =>
    s.report { cls := cls, dev := dv, inst := inst, addr := a, detail := [wordN synd], flags := if scrub then 4 else 0 }
  match r with
  | .table | .secure => d 0x30 true s
  | .crown => d 0x31 true s
  | .dram =>
    let s1 := { s with mem := { s.mem with ueAddr := (a - dramLo) / 64 * 64 + dramLo } }
    d 0x32 dev ((s1.raise (aDramc + 4) 2).count (aDramc + 0x98))
  | _ => s

/-- A corrected word: the DRAM controller counts its own, and FACETCTL those of the Facets (R163). -/
def State.eccCorrected (s : State) (r : Region) : State :=
  match r with
  | .dram => (s.raise (aDramc + 4) 1).count (aDramc + 0x90)
  | .facet => s.count (aFacetctl + 0x90)
  | _ => s

/-- The bank of a Crown address (R342). -/
def crownBank (a : Nat) : Nat := a / 64 % 32

/-! ### The DRAM controller (R346 to R349) -/

/-- The controller fails (R349): every content is lost, and the filter library with it (Table MEM-4). DEDUCED, log 147. -/
def State.dramFail (s : State) (cause : Nat) (training : Bool) : State :=
  let s1 := { s with mem := { s.mem with st := 5, down := [] } }
  let s2 := (s1.raise (aDramc + 4) (if training then 0xC else 8)).memClear dramLo (dramLo + 2 ^ 40)
  ({ s2 with render := { s2.render with lib := [] } }).report { cls := 0x33, dev := true, inst := cause }

/-- DRAM_INIT_DONE (R346): the mark reaches the end; a group above it that was accessed before reads zero. DEDUCED, log 205. -/
def execDramInitDone (s : State) : Host.Outcome State Fault Refusal :=
  if s.mem.st = 3 then .next { s with mem := { s.mem with initDone := true, mark := s.dramSize / 2 ^ 20 } } else .next s

/-- DRAM_READ_RETRAIN (R348): the read delays are set anew, where the part finds them. DESIGN CHOICE,
log 184. -/
def execDramReadRetrain (s : State) : Host.Outcome State Fault Refusal :=
  if s.mem.st = 3 then
    let (k, s1) := s.fresh
    let put := fun (e : Word × Nat) => wput e.1 0 8 (Config.freeWord k e.2).toNat
    .next { s1 with mem := { s1.mem with train := s1.mem.train.zipIdx.map put } }
  else .next s

/-- DRAM_POWER_DOWN (R348): an idle rank enters power-down, unless the timer is off. -/
def execDramPowerDown (ch : Fin 2) (rank : Fin 2) (s : State) : Host.Outcome State Fault Refusal :=
  let r := ch.val * 2 + rank.val
  if s.mem.st = 3 ∧ rank.val < s.mem.ranks ∧ s.reg (aDramc + 0x18) ≠ 0 ∧ !s.mem.down.contains r then
    .next { s with mem := { s.mem with down := s.mem.down ++ [r] } }
  else .next s

/-- Depth of port `p`'s bucket, in 1/500 byte. -/
def State.regDepth (s : State) (p : Nat) : Nat := wbits (s.reg (aDramc + 0x24 + 8 * p)) 0 11 * 1024 * 500

/-- Buckets fill over 2 ns (R347). -/
def State.fillBuckets (s : State) : State :=
  let fill := fun (e : Nat × Nat) => min (s.regDepth e.2) (e.1 + wbits (s.reg (aDramc + 0x20 + 8 * e.2)) 0 15)
  { s with mem := { s.mem with tokens := s.mem.tokens.zipIdx.map fill } }

/-- A transaction of `n` bytes takes tokens at port `p`, after any wait for them (R347). -/
def State.takeTokens (s : State) (p n : Nat) : State :=
  if wbits (s.reg (aDramc + 0x20 + 8 * p)) 0 15 = 0 then s
  else
    let have' := nth 0 s.mem.tokens p
    let left := have' - n * 500
    let s1 := { s with mem := { s.mem with tokens := s.mem.tokens.set p left } }
    if have' < n * 500 then s1.count (aDramc + 0xA0 + 8 * p) else s1

/-! ### The log's copy (R377) -/

/-- Where the DRAM ring begins, and its length in records. -/
def State.logBase (s : State) : Nat := s.reg64 (aInteg + 0x18)
def State.logLen (s : State) : Nat := (s.reg (aInteg + 0x20)).toNat

/-- LOG_COPY: the oldest record not yet copied goes to the DRAM ring; with DRAM FAILED the copy stops. -/
def execLogCopy (s : State) : Host.Outcome State Fault Refusal :=
  if s.logBase = 0 then .next s
  else if s.mem.dramFailed then .next (s.raise (aInteg + 4) 2)
  else match s.integ.uncopied with
    | [] => .next s
    | q :: t =>
      let s1 := { s with integ := { s.integ with uncopied := t } }
      match s.integ.log.find? fun r => r.seq == q with
      | none => .next s1
      | some r =>
        let s2 := { s1 with integ := { s1.integ with dram := newest s.logLen (s1.integ.dram ++ [r]) } }
        .next (s2.memWrite (s.logBase + 64 * (q % s.logLen)) r.stored)

/-! ### DRAMC registers -/

def dramcStatus (s : State) : Word := wordN (b2n s.mem.initDone * 8 + s.mem.st)
def dramcCfg (s : State) : Word := wordN (s.mem.capacity * 2 ^ 8 + s.mem.density * 16 + s.mem.ranks)

/-! ### Targets and hangs (Table MEM-1, R335, R337) -/

/-- The target code of an address for a master (Table MEM-1); 15 where no path leads to it. -/
def busTarget (s : State) (m a : Nat) : Nat :=
  let t := match s.region a with
    | .rom => 8 | .table => 0 | .secure => 1 | .crown => 2 | .facet => 2 | .periph => 7
    | .dram => (([3, 4, 5, 6] : List Nat).find? fun t => (prioOf m t).isSome).getD 15
    | .nothing => 15
  if (prioOf m t).isSome then t else 15

/-- The record of a hang. -/
def State.hangRecord (s : State) (q : BusReq) (t : Nat) : State :=
  let info := b2n q.user * 2 ^ 15 + b2n q.write.isSome * 2 ^ 14 + q.id.val * 2 ^ 8 + t * 16 + q.master.val
  let s1 := ((s.raise (aBusmx + 4) 1).setReg (aBusmx + 0x10) (wordN info)).setReg64 (aBusmx + 0x14) q.addr
  (s1.count (aBusmx + 0x90)).report
    { cls := 0x20, dev := !q.user, inst := q.master.val, addr := q.addr, flags := b2n q.user * 8, detail := [wordN info] }

end Sys2Proof.Machine
end

