-- ==== Sys2Proof/Machine/FacetCore.lean ====
section
/-! DEFINITION. A Facet: its registers, the bundle in hand, results in flight, loops, faults and stops (R162 to R178, R180). -/

namespace Sys2Proof

/-! ### Fields of a slot (Tables FACET-3 and FACET-4) -/

def Issue.bits (i : Issue) (lo len : Nat) : Nat := Machine.bitsOf i.f.toNat lo len
def Issue.sat (i : Issue) : Bool := i.f.getLsbD 23
def Issue.pred (i : Issue) : Nat := i.bits 20 3
def Issue.d (i : Issue) : Nat := i.bits 15 5
def Issue.a (i : Issue) : Nat := i.bits 10 5
def Issue.b (i : Issue) : Nat := i.bits 5 5
def Issue.rnd (i : Issue) : Nat := i.bits 3 2
def Issue.mod (i : Issue) : Nat := i.bits 0 3
def Issue.imm10 (i : Issue) : Int := (BitVec.ofNat 10 (i.bits 0 10)).toInt
/-- Long form. -/
def Issue.lpred (i : Issue) : Nat := i.bits 21 3
def Issue.ld (i : Issue) : Nat := i.bits 16 5
def Issue.imm16 (i : Issue) : Nat := i.bits 0 16
def Issue.mPred (i : Issue) : Nat := i.bits 25 3
def Issue.dr (i : Issue) : Nat := i.bits 20 5
def Issue.base (i : Issue) : Nat := i.bits 15 5
def Issue.upd (i : Issue) : Bool := i.f.getLsbD 14
def Issue.circ (i : Issue) : Bool := i.f.getLsbD 13
def Issue.off (i : Issue) : Int := (BitVec.ofNat 13 (i.bits 0 13)).toInt
def Issue.mSlot (i : Issue) : Nat := 2 + i.m.val

end Sys2Proof

namespace Sys2Proof.Machine

/-! ### Registers -/

def State.core (s : State) (k : Nat) : FacetCore := mget {} s.facets.core k
def State.setCore (s : State) (k : Nat) (c : FacetCore) : State :=
  { s with facets := { s.facets with core := mset s.facets.core k c } }
def State.fst (s : State) (k : Nat) : Nat := nth 0 s.facets.st k
def State.setFst (s : State) (k v : Nat) : State := { s with facets := { s.facets with st := s.facets.st.set k v } }

/-- The local memory of Facet `k` in the address map (R27). -/
def facetBase (k : Nat) : Nat := 0x30000000 + k * 0x100000

/-- The physical register of a vector name (R175). -/
def physV (car r : Nat) : Nat :=
  if r < 16 then r else 16 + 4 * (((r - 16) / 4 + 4 - car % 4) % 4) + (r - 16) % 4

def zeroLanes : List Word := List.replicate 16 0
def FacetCore.rS (c : FacetCore) (r : Nat) : Word := mget 0 c.s r
def FacetCore.rV (c : FacetCore) (r : Nat) : List Word := mget zeroLanes c.v (physV c.carousel r)
def FacetCore.rP (c : FacetCore) (r : Nat) : Nat := if r = 0 then 0xFFFF else mget 0 c.p r
def FacetCore.rA (c : FacetCore) (r : Nat) : List Int := mget (List.replicate 16 0) c.a r

/-- Put lanes into a list. -/
def setLanes {α : Type} (l : List α) : List (Nat × α) → List α
  | [] => l
  | (i, x) :: t => setLanes (l.set i x) t

/-- A result lands. -/
def FacetCore.land (c : FacetCore) : Land → FacetCore
  | .s r w => { c with s := mset c.s r w }
  | .v r ls => { c with v := mset c.v r (setLanes (mget zeroLanes c.v r) ls) }
  | .a r ls _ => { c with a := mset c.a r (setLanes (c.rA r) ls) }
  | .p r bits mask =>
    if r = 0 then c else { c with p := mset c.p r ((c.rP r &&& (0xFFFF ^^^ mask)) ||| (bits &&& mask)) }
  | .sp i w =>
    if i = 4 then { c with satf := w.getLsbD 0 }
    else if 8 ≤ i ∧ i < 12 then { c with cb := c.cb.set (i - 8) (w.toNat / 64 * 64) }
    else c
  | .satf => { c with satf := true }

/-- Whether one result lands before another: the earlier cycle, then the lower slot (R167). -/
def landsBefore (a b : Nat × Nat × Land) : Bool := a.1 < b.1 || (a.1 == b.1 && a.2.1 < b.2.1)

def insertLand (x : Nat × Nat × Land) : List (Nat × Nat × Land) → List (Nat × Nat × Land)
  | [] => [x]
  | y :: t => if landsBefore x y then x :: y :: t else y :: insertLand x t

/-- Results whose cycle has come land in order. DEDUCED, log 81. -/
def FacetCore.landDue (c : FacetCore) : FacetCore :=
  let due := c.flight.filter fun e => e.1 ≤ c.issued
  due.foldl (fun c e => c.land e.2.2) { c with flight := c.flight.filter fun e => e.1 > c.issued }

/-- The results of a bundle that ends are on their way, and the transfer that it starts is outstanding. -/
def FacetCore.keep (c : FacetCore) : FacetCore :=
  { c with flight := c.made.foldl (fun l x => insertLand x l) c.flight, made := [], xfers := c.xfers ++ c.newX.toList, newX := none }

/-- The bundle in hand is forgotten, with all that it would have done. -/
def FacetCore.clearBundle (c : FacetCore) : FacetCore :=
  { c with
    made := [], newX := none, stored := false, used := 0, stores := [], branch := none, newLoop := none, skip := none, wide := false,
    ending := false, hold := false }

/-- Every result lands: the run has ended. -/
def FacetCore.drain (c : FacetCore) : FacetCore := c.flight.foldl (fun c e => c.land e.2.2) { c with flight := [] }

/-- A result starts its way with its bundle. -/
def FacetCore.send (c : FacetCore) (slot lat : Nat) (x : Land) : FacetCore :=
  { c with made := c.made ++ [(c.issued + lat, slot, x)] }

/-- An accumulator as a following VMAC or VMSC sees it (R167). -/
def FacetCore.rAfwd (c : FacetCore) (r : Nat) : List Int :=
  c.flight.foldl (fun l e => match e.2.2 with | .a r' ls true => if r' = r then setLanes l ls else l | _ => l) (c.rA r)

/-! ### Legality -/

/-- Which fields of the register form an instruction uses: the others must be 0 (R166), RND 3 is illegal, and D, A and B name
no more than their bits allow. -/
structure Uses where
  sat : Bool := false
  d : Nat := 32
  a : Nat := 32
  b : Nat := 32
  rnd : Bool := false
  mod : Bool := false
  deriving DecidableEq, Repr

/-- The register form is legal. DEDUCED, log 82. -/
def legalR (i : Issue) (u : Uses) : Bool :=
  (u.sat || !i.sat) && i.d < max u.d 1 && i.a < max u.a 1 && i.b < max u.b 1 && i.rnd ≠ 3 && (u.rnd || i.rnd == 0) &&
    (u.mod || i.mod == 0)

/-- A value brought into `w` bits: clamped under SAT, else wrapped (R168), with whether it was clamped. -/
def fit (w : Nat) (sat' : Bool) (x : Int) : Int × Bool := if sat' then (sat w x, saturates w x) else (wrap w x, false)

/-- Discard `n` low bits as RND states (R169). -/
def roundBy (rnd : Nat) (x : Int) (n : Nat) : Int := if rnd = 0 then shrFloor x n else if rnd = 1 then shrEven x n else shrAway x n

/-! ### Stops (R176, R177, R181) -/

/-- Severity of a stop (Table FACET-8). -/
def stopDev (cause st : Nat) : Bool := cause ≤ 3 || st == 2

/-- The kernel of a Facet. -/
def State.kernelOf (s : State) (k : Nat) : Option (Nat × Kernel) := s.facets.kernels.find? fun e => e.2.facet == k
def State.modKernel (s : State) (n : Nat) (f : Kernel → Kernel) : State :=
  { s with facets := { s.facets with kernels := s.facets.kernels.map fun e => if e.1 = n then (e.1, f e.2) else e } }

/-- A Facet enters QUARANTINE; for the third time within 24 hours it becomes FAILED instead (R186). -/
def State.quarantine (s : State) (k : Nat) : State :=
  let now := s.lNs
  let l := ((mget [] s.facets.quar k).filter fun t => now < t + 86400 * 1000000000) ++ [now]
  let s1 := { s with facets := { s.facets with quar := mset s.facets.quar k l } }
  s1.setFst k (if l.length ≥ 3 then 7 else 5)

/-- A user Facet's kernel is suspended (R177, R181): it no longer runs, and the event says so. -/
def State.suspendKernel (s : State) (k cause : Nat) : State :=
  match s.kernelOf k with
  | none => s
  | some (n, _) =>
    ((s.modKernel n fun q => { q with suspended := true }).lower (aFacetctl + 0x1000 + 0x40 * k) 0x10000).event 0x8002
      [BitVec.ofNat 8 n, BitVec.ofNat 8 k, BitVec.ofNat 8 cause, 0]

/-- A Facet stops on a fault: nothing of the bundle in hand is done (R176), and what earlier bundles computed lands. `flags` and
`addr` go into the record. DEDUCED, log 81. -/
def State.facetFault (s : State) (k cause flags addr : Nat) : State :=
  let c := s.core k
  let st := s.fst k
  let s1 := (s.setCore k { c.clearBundle.drain with run := false }).raise (aFacetctl + 4) (wordN (2 ^ (cause - 1)))
  let s2 := { s1 with facets := { s1.facets with fault := mset s1.facets.fault k (cause, c.pc) } }
  let s3 := s2.report {
    cls := 0x40, dev := stopDev cause st, inst := k, flags := flags, addr := addr, detail := [wordN cause, wordN c.pc] }
  if st = 2 then
    if mhas s3.facets.stopped k then s3 else { s3 with facets := { s3.facets with stopped := mset s3.facets.stopped k s3.lNs } }
  else
    let s4 := if st = 3 then s3.suspendKernel k cause else s3
    if cause ≤ 3 ∧ (st = 1 ∨ st = 3 ∨ st = 4) then s4.quarantine k else s4

/-- A Facet stops on a fault that its own bundle meets. -/
def State.facetStop (s : State) (k cause : Nat) : State := s.facetFault k cause 0 0

/-! ### The bundle -/

/-- Predicates of a LOOP in a pass (R175). -/
def loopPreds (l : LoopSt) : List (Nat × Nat) :=
  (List.range 4).map fun s => (4 + s, if s < l.stages ∧ s ≤ l.pass ∧ l.pass + 1 ≤ s + l.count then 0xFFFF else 0)

def FacetCore.setPreds (c : FacetCore) (l : List (Nat × Nat)) : FacetCore :=
  { c with p := l.foldl (fun p e => mset p e.1 e.2) c.p }

def noPreds : List (Nat × Nat) := [(4, 0), (5, 0), (6, 0), (7, 0)]

/-- LOOPREM. -/
def loopRem (l : LoopSt) : Nat := l.count - 1 - l.pass

/-- The next bundle, with loops (R175). DEDUCED, log 87. -/
def FacetCore.advance (c : FacetCore) : FacetCore :=
  match c.branch, c.newLoop, c.skip with
  | some t, _, _ =>
    let c1 := if c.loop.isSome then ({ c with loop := none }).setPreds noPreds else c
    { c1 with pc := t % 4096, cyc := c.cyc + 4 }
  | none, some l, _ => ({ c with loop := some l, pc := (c.pc + 1) % 4096, cyc := c.cyc + 1 }).setPreds (loopPreds l)
  | none, none, some t => { c with pc := t % 4096, cyc := c.cyc + 1 }
  | none, none, none =>
    match c.loop with
    | some l =>
      if c.pc = l.start + l.len - 1 then
        let c1 := { c with carousel := (c.carousel + 1) % 4, cyc := c.cyc + 1 }
        if l.pass + 2 ≥ l.count + l.stages then ({ c1 with loop := none, pc := (c.pc + 1) % 4096 }).setPreds noPreds
        else let l' := { l with pass := l.pass + 1 }; ({ c1 with loop := some l', pc := l.start }).setPreds (loopPreds l')
      else { c with pc := (c.pc + 1) % 4096, cyc := c.cyc + 1 }
    | none => { c with pc := (c.pc + 1) % 4096, cyc := c.cyc + 1 }

/-- Bytes of a store, where each is stored at all. -/
def storeCells (m : List Host.Cell) (a : Nat) : List (Option Byte) → List Host.Cell
  | [] => m
  | b :: t => storeCells (match b with | some v => cellSet m a v | none => m) (a + 1) t

/-- The stores of the bundle reach memory. DEDUCED, log 88. -/
def State.doStores (s : State) (k : Nat) (l : List (Nat × List (Option Byte))) : State :=
  { s with mem := { s.mem with bytes := l.foldl (fun m e => storeCells m (facetBase k + e.1) e.2) s.mem.bytes } }

/-- The Facet clock, MHz (Table ARCH-3). -/
def State.facetMHz (s : State) : Nat := if s.power.point = 0 then 1000 else if s.power.point = 1 then 800 else 500

/-- A run ends: results in flight land, and FACET_USED says how long it took and whether the budget ran out. -/
def State.endRun (s : State) (k : Nat) (ovr : Bool) : State :=
  let c := s.core k
  let s1 := s.setCore k { c.clearBundle.drain with run := false }
  let ns := if ovr then (mget (0, 0) s.facets.live k).2 else c.cyc * 1000 / s.facetMHz
  let done := fun (e : Nat × Kernel) =>
    if e.2.facet = k then (e.1, { e.2 with ovr := if ovr then e.2.ovr else 0, held := none }) else e
  { s1 with facets := { s1.facets with used := mset s1.facets.used k (ns, ovr), kernels := s1.facets.kernels.map done } }

/-- Whether a bundle leaves no memory slot free: both slots access memory, and no cycle without issue follows (R173). -/
def FacetCore.crowded (c : FacetCore) : Bool := c.used ≥ 2 && c.branch.isNone

/-- The bundle ends: a stalled one counts its cycle and issues again; another lands its stores and moves on. -/
def State.endBundle (s : State) (k : Nat) : State :=
  let c := s.core k
  if c.hold then s.setCore k { c.clearBundle with cyc := c.cyc + 1, full := 0 }
  else
    let s1 := s.doStores k c.stores
    let c1 := { c.keep.advance.clearBundle with
      issued := c.issued + 1, hot := c.wide, full := if c.crowded then c.full + 1 else 0 }
    let s2 := s1.setCore k c1.landDue
    if c.ending then s2.endRun k false else s2

/-- One slot of a Facet's run: checks of the fetch, legality, then its effect; the last slot ends the bundle. A Facet with no run in
hand issues nothing. DESIGN CHOICE, log 90. -/
def State.slotStep (s : State) (i : Issue) (ok : Bool) (body : State → FacetCore → State × FacetCore × Nat) : State :=
  let k := i.k.val
  if !(s.core k).run then s
  else
    let s0 := if i.pmem = .corrected then s.count (aFacetctl + 0x90) else s
    let c := s0.core k
    if c.hold then (if i.last then s0.endBundle k else s0)
    else if i.pmem = .uncorrectable then s0.facetStop k 3
    else if !ok then s0.facetStop k 4
    else
      let r := body s0 c
      if r.2.2 ≠ 0 then (r.1.setCore k r.2.1).facetStop k r.2.2
      else
        let s1 := r.1.setCore k r.2.1
        if i.last then s1.endBundle k else s1

/-- A slot that touches no memory. -/
def State.regSlot (s : State) (i : Issue) (ok : Bool) (body : FacetCore → FacetCore) : State :=
  s.slotStep i ok fun s c => (s, body c, 0)

/-! ### Scalar forms -/

/-- Predicate bit 0 decides a scalar result. -/
def FacetCore.on (c : FacetCore) (p : Nat) : Bool := (c.rP p).testBit 0

/-- A scalar result from an exact integer. -/
def FacetCore.sendS (c : FacetCore) (i : Issue) (lat : Nat) (x : Int) : FacetCore :=
  if c.on i.pred then
    let r := fit 32 i.sat x
    let c1 := c.send 0 lat (.s i.d (smp r.1))
    if r.2 then c1.send 0 lat .satf else c1
  else c

/-- An arithmetic scalar instruction of two registers. -/
def State.scalar2 (s : State) (i : Issue) (sat' rnd : Bool) (lat : Nat) (f : Word → Word → Int) : State :=
  s.regSlot i (legalR i { sat := sat', rnd := rnd }) fun c => c.sendS i lat (f (c.rS i.a) (c.rS i.b))

/-- A comparison: a predicate all ones or zeros. -/
def State.scalarCmp (s : State) (i : Issue) (f : Word → Word → Bool) : State :=
  s.regSlot i (legalR i { d := 8 }) fun c =>
    if c.on i.pred then c.send 0 1 (.p i.d (if f (c.rS i.a) (c.rS i.b) then 0xFFFF else 0) 0xFFFF) else c

/-- A predicate operation. -/
def State.predOp (s : State) (i : Issue) (u : Uses) (f : FacetCore → Nat) : State :=
  s.regSlot i (legalR i u) fun c => if c.on i.pred then c.send 0 1 (.p i.d (f c) 0xFFFF) else c

/-! ### Vector forms -/

/-- Lanes whose predicate bit is set, with a value each. -/
def FacetCore.lanes {α : Type} (c : FacetCore) (p : Nat) (f : Nat → α) : List (Nat × α) :=
  ((List.range 16).filter fun l => (c.rP p).testBit l).map fun l => (l, f l)

/-- Vector results from exact integers. -/
def FacetCore.sendV (c : FacetCore) (i : Issue) (d lat : Nat) (f : Nat → Int) : FacetCore :=
  let l := c.lanes i.pred fun n => fit 32 i.sat (f n)
  let c1 := c.send 1 lat (.v (physV c.carousel d) (l.map fun e => (e.1, smp e.2.1)))
  if l.any fun e => e.2.2 then c1.send 1 lat .satf else c1

/-- Lane `n` of a vector register as a signed number. -/
def FacetCore.vI (c : FacetCore) (r n : Nat) : Int := (nth 0 (c.rV r) n).toInt
def FacetCore.vW (c : FacetCore) (r n : Nat) : Word := nth 0 (c.rV r) n

/-- A lane instruction of vectors A and B. -/
def State.vec2 (s : State) (i : Issue) (u : Uses) (lat : Nat) (f : FacetCore → Nat → Int) : State :=
  s.regSlot i (legalR i u) fun c => c.sendV i i.d lat (f c)

/-- A comparison of lanes into a predicate. -/
def State.vecCmp (s : State) (i : Issue) (f : Int → Int → Bool) : State :=
  s.regSlot i (legalR i { d := 8 }) fun c =>
    let bits := nsum ((List.range 16).map fun n => if f (c.vI i.a n) (c.vI i.b n) then 2 ^ n else 0)
    c.send 1 1 (.p i.d bits (c.rP i.pred))

/-- Accumulator results from exact integers. -/
def FacetCore.sendA (c : FacetCore) (i : Issue) (lat : Nat) (fwd : Bool) (f : Nat → Int) : FacetCore :=
  let l := c.lanes i.pred fun n => fit 72 i.sat (f n)
  let c1 := c.send 1 lat (.a i.d (l.map fun e => (e.1, e.2.1)) fwd)
  if l.any fun e => e.2.2 then c1.send 1 lat .satf else c1

/-- A multiplier instruction: its residue check, and the issue interval of R166. -/
def State.mulSlot (s : State) (i : Issue) (u : Uses) (wide : Bool) (body : FacetCore → FacetCore) : State :=
  s.slotStep i (legalR i u && !(s.core i.k.val).hot) fun s c =>
    if i.residue then (s, c, 1) else (s, { body c with wide := wide }, 0)

/-- Real and imaginary parts of a complex product at lane `n`. -/
def FacetCore.cmul (c : FacetCore) (i : Issue) (conj : Bool) (n : Nat) : Int :=
  let e := n / 2 * 2
  let ar := c.vI i.a e
  let ai := c.vI i.a (e + 1)
  let br := c.vI i.b e
  let bi := if conj then -(c.vI i.b (e + 1)) else c.vI i.b (e + 1)
  if n % 2 = 0 then ar * br - ai * bi else ar * bi + ai * br

/-! ### Memory forms (R170) -/


/-- A base moved by `d`: under a circular update of `slot` it wraps into its buffer where it leaves it. -/
def FacetCore.moveBase (c : FacetCore) (slot : Nat) (circ : Bool) (b d : Int) : Int :=
  let cb : Int := (nth 0 c.cb (2 * slot) : Nat)
  let len : Int := (nth 0 c.cb (2 * slot + 1) : Nat)
  if circ && len ≠ 0 && (b + d < cb || b + d ≥ cb + len) then cb + (b + d - cb) % len else b + d

/-- The address of an access, and BASE after it. -/
def memAddr (c : FacetCore) (i : Issue) (size : Nat) : Nat × Word :=
  let b : Int := (c.rS i.base).toNat
  let d := i.off * size
  if i.upd then (b.toNat, BitVec.ofInt 32 (c.moveBase i.m.val i.circ b d)) else ((BitVec.ofInt 32 (b + d)).toNat, c.rS i.base)

/-- Bytes that a load sees: inside the destination of a GET not yet waited for, the granule is either its old or its new value,
which no rule settles (R172). DESIGN CHOICE, log 89. -/
def State.loadBytes (s : State) (k : Nat) (c : FacetCore) (a n : Nat) : List Byte × State :=
  let now := s.memBytes (facetBase k + a) n
  match c.xfers.find? fun x => !x.put && x.localA ≤ a && a < x.localA + x.len with
  | none => (now, s)
  | some x =>
    let (j, s1) := s.fresh
    let other := if x.done then slice x.old (a - x.localA) n else s.readBytes (x.remote + (a - x.localA)) n
    (if Config.freeInt j 0 % 2 = 0 then now else other, s1)


/-- A load of `size` bytes: `f` is what lands. DEDUCED, log 85. -/
def State.loadSlot (s : State) (i : Issue) (size regs : Nat) (f : FacetCore → List Byte → Land) : State :=
  s.slotStep i (i.dr < regs && (i.upd || !i.circ)) fun s c =>
    if !c.on i.mPred then (s, c, 0)
    else
      let (a, b) := memAddr c i size
      if a % size ≠ 0 ∨ a + size > 0x80000 then (s, c, 5)
      else if i.dmem = .uncorrectable then (s, c, 2)
      else
        let s1 := if i.dmem = .corrected then s.count (aFacetctl + 0x90) else s
        let (bs, s2) := s1.loadBytes i.k.val c a size
        let c1 := { c with used := c.used + 1 }.send i.mSlot 3 (f c bs)
        (s2, if i.upd then c1.send i.mSlot 1 (.s i.base b) else c1, 0)

/-- A store of `size` bytes; two in one bundle are illegal, whatever their predicates (R166). -/
def State.storeSlot (s : State) (i : Issue) (size regs : Nat) (all : Bool) (f : FacetCore → List (Option Byte)) : State :=
  s.slotStep i (i.dr < regs && (i.upd || !i.circ) && !(s.core i.k.val).stored) fun s c =>
    let live := if all then c.rP i.mPred ≠ 0 else c.on i.mPred
    let (a, b) := memAddr c i size
    let c0 := { c with stored := true }
    let c1 := if i.upd && c.on i.mPred then c0.send i.mSlot 1 (.s i.base b) else c0
    if !live then (s, c1, 0)
    else if a % size ≠ 0 ∨ a + size > 0x80000 then (s, c, 5)
    else (s, { c1 with used := c.used + 1, stores := [(a, f c)] }, 0)

/-- A word's bytes as a store carries them. -/
def storeWord (w : Word) : List (Option Byte) := (leBytes 4 w.toNat).map some

/-! ### Girdle transfers (R171 to R173, R182) -/

/-- Whether a span lies in a window of Facet `k`: `o` is 0x18 for the read-write window and 0x20 for the read-only one. -/
def State.inWin (s : State) (k o a n : Nat) : Bool :=
  let r := aFacetctl + 0x1000 + 0x40 * k
  let b := (s.reg (r + o)).toNat * 65536
  let l := (s.reg (r + o + 4)).toNat * 65536
  decide (b ≤ a) && decide (a + n ≤ b + l)

/-- GET or PUT: local address in A, remote in B, length in D, tag in MOD. -/
def State.girdle (s : State) (i : Issue) (put : Bool) : State :=
  s.slotStep i (legalR i { mod := true }) fun s c =>
    let k := i.k.val
    if !c.on i.pred then (s, c, 0)
    else if c.xfers.any fun x => x.tag == i.mod && !x.done then (s, { c with hold := true }, 0)
    else
      let la := (c.rS i.a).toNat
      let ra := (c.rS i.b).toNat
      let n := (c.rS i.d).toNat
      if la % 64 ≠ 0 ∨ ra % 64 ≠ 0 ∨ n % 64 ≠ 0 ∨ n < 64 ∨ n > 65536 ∨ la + n > 0x80000 then (s, c, 5)
      else if !(s.inWin k 0x18 ra n || (!put && s.inWin k 0x20 ra n)) then (s, c, 6)
      else
        let x : Xfer := { tag := i.mod, put := put, localA := la, remote := ra, len := n, old := s.memBytes (facetBase k + la) n }
        let clr := 0xFF ^^^ 2 ^ i.mod
        let rest := c.xfers.filter fun y => y.tag ≠ i.mod
        (s, { c with gdone := c.gdone &&& clr, gerr := c.gerr &&& clr, xfers := rest, newX := some x }, 0)

/-- The bytes that a PUT carries: in each granule, what its source held at the start or what it holds now (R172). -/
def putBytes (s : State) (k j : Nat) (x : Xfer) : List Byte :=
  ((List.range (x.len / 64)).map fun g =>
    let now := s.memBytes (facetBase k + x.localA + 64 * g) 64
    if Config.freeInt j g % 2 = 0 then slice x.old (64 * g) 64 else now).flatten

/-- Whether two transfers reach a line in common. -/
def Xfer.meets (x y : Xfer) : Bool := decide (x.remote < y.remote + y.len) && decide (y.remote < x.remote + x.len)

/-- PUTs whose data must have arrived before that of the last of `l`, in issue order: those that share a line with it, or with one
of them (R171). -/
def putsBefore (l : List Xfer) (x : Xfer) : List Xfer :=
  (l.filter fun y => y.put && !y.sent).foldr (fun y acc => if (x :: acc).any y.meets then y :: acc else acc) []

/-- Every byte of a span lies where a memory answers (R27, R28, R345). -/
def State.spanOk (s : State) (a n : Nat) : Bool :=
  s.region a != .nothing && s.region a != .periph && s.region (a + n - 1) == s.region a && !(s.region a == .dram && s.mem.dramFailed)

/-- The data of a PUT arrives. -/
def State.putArrives (k : Nat) (s : State) (x : Xfer) : State :=
  let (j, s1) := s.fresh
  let c := s1.core k
  let s2 := s1.setCore k { c with xfers := c.xfers.map fun y => if y.tag = x.tag then { y with sent := true } else y }
  if s2.spanOk x.remote x.len then s2.memWrite x.remote (putBytes s1 k j x) else s2

/-- An uncorrectable word that a master reads: a Facet's own memory stops its Facet (R163, Table FACET-8). -/
def State.wordFault (s : State) (r : Region) (inst a synd : Nat) (dev scrub : Bool) : State :=
  if r = .facet then
    s.facetFault ((a - 0x30000000) / 0x100000) (if a % 0x100000 < 0x80000 then 2 else 3) (if scrub then 4 else 0) a
  else s.eccReport r inst a synd dev scrub

/-- A transfer completes, or ends in a bus error: its GSTAT bits say so (R171). The data of the PUTs before it that share a line
arrives first; `chk` is what the check of a PUT's local words finds. DESIGN CHOICE, log 193. -/
def State.girdleDone (s : State) (k tag : Nat) (error : Bool) (chk : WordCheck) : State :=
  let c := s.core k
  match c.xfers.find? fun x => x.tag == tag && !x.done with
  | none => s
  | some x =>
    let bit := 2 ^ tag
    let err := error || !s.spanOk x.remote x.len
    let mark := fun (y : Xfer) => if y.tag = tag then { y with done := true } else y
    let c1 := { c with gdone := c.gdone ||| bit, gerr := if err then c.gerr ||| bit else c.gerr, xfers := c.xfers.map mark }
    let s1 := s.setCore k c1
    if err then s1
    else if x.put then
      if x.sent then s1
      else if chk = .uncorrectable then s1.facetFault k 2 0 (facetBase k + x.localA)
      else
        let s2 := if chk = .corrected then s1.count (aFacetctl + 0x90) else s1
        (putsBefore (c.xfers.takeWhile fun y => y.tag ≠ tag) x ++ [x]).foldl (State.putArrives k) s2
    else s1.memWrite (facetBase k + x.localA) (s.readBytes x.remote x.len)

end Sys2Proof.Machine
end

