-- ==== Sys2Proof/Machine/FacetIsa.lean ====
section
/-! DEFINITION. The instructions of a Facet (Tables FACET-5 to FACET-7), one definition each. -/

namespace Sys2Proof.Machine

/-! ### Scalar slot (Table FACET-5) -/


/-- NOP (R165): an all-zero slot. -/
def execNop (i : Issue) (s : State) : Host.Outcome State Fault Refusal := .next (s.regSlot i (i.f = 0) fun c => c)

/-- ADD -/
def execAdd (i : Issue) (s : State) : Host.Outcome State Fault Refusal := .next (s.scalar2 i true false 1 fun a b => a.toInt + b.toInt)

/-- SUB -/
def execSub (i : Issue) (s : State) : Host.Outcome State Fault Refusal := .next (s.scalar2 i true false 1 fun a b => a.toInt - b.toInt)

/-- ADDI -/
def execAddi (i : Issue) (s : State) : Host.Outcome State Fault Refusal := .next (s.regSlot i true fun c => c.sendS i 1 ((c.rS i.a).toInt + i.imm10))

/-- MUL: the low 32 bits, or the clamped product. -/
def execMul (i : Issue) (s : State) : Host.Outcome State Fault Refusal := .next (s.scalar2 i true false 3 fun a b => a.toInt * b.toInt)

/-- MULH: bits [63:32] of the signed product. -/
def execMulh (i : Issue) (s : State) : Host.Outcome State Fault Refusal := .next (s.scalar2 i true false 3 fun a b => shrFloor (a.toInt * b.toInt) 32)

/-- AND -/
def execAnd (i : Issue) (s : State) : Host.Outcome State Fault Refusal := .next (s.scalar2 i false false 1 fun a b => (a &&& b).toInt)

/-- OR -/
def execOr (i : Issue) (s : State) : Host.Outcome State Fault Refusal := .next (s.scalar2 i false false 1 fun a b => (a ||| b).toInt)

/-- XOR -/
def execXor (i : Issue) (s : State) : Host.Outcome State Fault Refusal := .next (s.scalar2 i false false 1 fun a b => (a ^^^ b).toInt)

/-- SHL -/
def execShl (i : Issue) (s : State) : Host.Outcome State Fault Refusal := .next (s.scalar2 i true false 1 fun a b => a.toInt * 2 ^ wbits b 0 5)

/-- SHR: logical. -/
def execShr (i : Issue) (s : State) : Host.Outcome State Fault Refusal := .next (s.scalar2 i false false 1 fun a b => (a >>> wbits b 0 5).toInt)

/-- SRA: rounded by RND. -/
def execSra (i : Issue) (s : State) : Host.Outcome State Fault Refusal := .next (s.scalar2 i true true 1 fun a b => roundBy i.rnd a.toInt (wbits b 0 5))

/-- MIN -/
def execMin (i : Issue) (s : State) : Host.Outcome State Fault Refusal := .next (s.scalar2 i true false 1 fun a b => min a.toInt b.toInt)

/-- MAX -/
def execMax (i : Issue) (s : State) : Host.Outcome State Fault Refusal := .next (s.scalar2 i true false 1 fun a b => max a.toInt b.toInt)

/-- CMPEQ -/
def execCmpeq (i : Issue) (s : State) : Host.Outcome State Fault Refusal := .next (s.scalarCmp i fun a b => a == b)

/-- CMPLT -/
def execCmplt (i : Issue) (s : State) : Host.Outcome State Fault Refusal := .next (s.scalarCmp i fun a b => decide (a.toInt < b.toInt))

/-- CMPLTU -/
def execCmpltu (i : Issue) (s : State) : Host.Outcome State Fault Refusal := .next (s.scalarCmp i fun a b => decide (a.toNat < b.toNat))

/-- PAND -/
def execPand (i : Issue) (s : State) : Host.Outcome State Fault Refusal := .next (s.predOp i { d := 8, a := 8, b := 8 } fun c => c.rP i.a &&& c.rP i.b)

/-- POR -/
def execPor (i : Issue) (s : State) : Host.Outcome State Fault Refusal := .next (s.predOp i { d := 8, a := 8, b := 8 } fun c => c.rP i.a ||| c.rP i.b)

/-- PNOT -/
def execPnot (i : Issue) (s : State) : Host.Outcome State Fault Refusal := .next (s.predOp i { d := 8, a := 8, b := 0 } fun c => 0xFFFF ^^^ c.rP i.a)

/-- PMOV: bits [15:0] of S_A. -/
def execPmov (i : Issue) (s : State) : Host.Outcome State Fault Refusal := .next (s.predOp i { d := 8, b := 0 } fun c => wbits (c.rS i.a) 0 16)

/-- A long-form slot that writes S_D. -/
def State.longS (s : State) (i : Issue) (f : FacetCore → Word) : State :=
  s.regSlot i true fun c => if c.on i.lpred then c.send 0 1 (.s i.ld (f c)) else c

/-- MOVI -/
def execMovi (i : Issue) (s : State) : Host.Outcome State Fault Refusal := .next (s.longS i fun _ => BitVec.ofInt 32 (BitVec.ofNat 16 i.imm16).toInt)

/-- MOVHI: the low half is kept. -/
def execMovhi (i : Issue) (s : State) : Host.Outcome State Fault Refusal := .next (s.longS i fun c => wput (c.rS i.ld) 16 16 i.imm16)

/-- A special register as MFS reads it (Table FACET-2). -/
def specialReg (s : State) (k : Nat) (c : FacetCore) (x : Nat) : Word :=
  match x with
  | 0 => wordN k
  | 1 => wordN c.blk
  | 2 => wordN (c.blk / 2 ^ 32)
  | 3 => wordN c.cyc
  | 4 => wordN (b2n c.satf)
  | 5 => wordN ((c.loop.map loopRem).getD 0)
  | 6 => wordN c.carousel
  | 7 => wordN (c.gdone + 256 * c.gerr)
  | 8 => wordN (nth 0 c.cb 0)
  | 9 => wordN (nth 0 c.cb 1)
  | 10 => wordN (nth 0 c.cb 2)
  | 11 => wordN (nth 0 c.cb 3)
  | 12 => wordN ((mget (0, 0) s.facets.live k).2 * s.facetMHz / 1000 - c.cyc)
  | _ => 0

/-- MFS -/
def execMfs (i : Issue) (s : State) : Host.Outcome State Fault Refusal := .next (s.slotStep i (legalR i { b := 0 }) fun s c =>
    (s, if c.on i.pred then c.send 0 1 (.s i.d (specialReg s i.k.val c i.a)) else c, 0))

/-- MTS: indices 13 to 31 are illegal. DEDUCED, log 83 and 84. -/
def execMts (i : Issue) (s : State) : Host.Outcome State Fault Refusal := .next (s.regSlot i (legalR i { d := 13, b := 0 }) fun c =>
    if c.on i.pred then c.send 0 1 (.sp i.d (c.rS i.a)) else c)

/-- JMP -/
def execJmp (i : Issue) (s : State) : Host.Outcome State Fault Refusal := .next (s.regSlot i (i.ld = 0 && i.imm16 < 4096) fun c =>
    if c.on i.lpred then { c with branch := some i.imm16 } else c)

/-- The bundle a displacement leads to, from the branch bundle. -/
def branchTo (c : FacetCore) (i : Issue) : Nat := ((c.pc : Int) + i.imm10 + 4096).toNat

/-- BNZ -/
def execBnz (i : Issue) (s : State) : Host.Outcome State Fault Refusal := .next (s.regSlot i (!i.sat && i.d = 0) fun c =>
    if c.on i.pred && c.rS i.a ≠ 0 then { c with branch := some (branchTo c i) } else c)

/-- DBNZ (R174): A counts down, and the branch is taken while it is not 0. -/
def execDbnz (i : Issue) (s : State) : Host.Outcome State Fault Refusal := .next (s.regSlot i (i.d = 0) fun c =>
    if c.on i.pred then
      let r := fit 32 i.sat ((c.rS i.a).toInt - 1)
      let c1 := c.send 0 1 (.s i.a (smp r.1))
      let c2 := if r.2 then c1.send 0 1 .satf else c1
      if r.1 ≠ 0 then { c2 with branch := some (branchTo c i) } else c2
    else c)

/-- CALL: S31 takes the return index. -/
def execCall (i : Issue) (s : State) : Host.Outcome State Fault Refusal := .next (s.regSlot i (i.ld = 0 && i.imm16 < 4096) fun c =>
    if c.on i.lpred then { c.send 0 1 (.s 31 (wordN ((c.pc + 1) % 4096))) with branch := some i.imm16 } else c)

/-- RET: jump to S31. -/
def execRet (i : Issue) (s : State) : Host.Outcome State Fault Refusal := .next (s.regSlot i (legalR i { d := 0, a := 0, b := 0 }) fun c =>
    if c.on i.pred then { c with branch := some (wbits (c.rS 31) 0 12) } else c)

/-- LOOP (R175): illegal inside a LOOP body; a count of 0 skips the body. -/
def execLoop (i : Issue) (s : State) : Host.Outcome State Fault Refusal := .next (s.slotStep i (!i.sat && i.d = 0 && (s.core i.k.val).loop.isNone) fun s c =>
    if !c.on i.pred then (s, c, 0) else
    let n := (c.rS i.a).toNat
    let len := i.bits 2 8 + 1
    if n = 0 then (s, { c with skip := some (c.pc + 1 + len) }, 0)
    else (s, { c with newLoop := some { start := c.pc + 1, len := len, count := n, stages := i.bits 0 2 + 1 } }, 0))

/-- END (R179): the run ends with this bundle. -/
def execEndRun (i : Issue) (s : State) : Host.Outcome State Fault Refusal := .next (s.regSlot i (legalR i { d := 0, a := 0, b := 0 }) fun c =>
    if c.on i.pred then { c with ending := true } else c)

/-- GET (R171) -/
def execGet (i : Issue) (s : State) : Host.Outcome State Fault Refusal := .next (s.girdle i false)

/-- PUT (R171) -/
def execPut (i : Issue) (s : State) : Host.Outcome State Fault Refusal := .next (s.girdle i true)

/-- GWAIT (R172): the bundle waits until every tag of S_A[7:0] is complete. -/
def execGwait (i : Issue) (s : State) : Host.Outcome State Fault Refusal := .next (s.regSlot i (legalR i { d := 0, b := 0 }) fun c =>
    if !c.on i.pred then c else
    let m := wbits (c.rS i.a) 0 8
    if c.xfers.any fun x => m.testBit x.tag && !x.done then { c with hold := true }
    else { c with xfers := c.xfers.filter fun x => !m.testBit x.tag })

/-! ### Vector slot (Table FACET-6) -/

/-- VADD -/
def execVadd (i : Issue) (s : State) : Host.Outcome State Fault Refusal := .next (s.vec2 i { sat := true } 1 fun c n => c.vI i.a n + c.vI i.b n)

/-- VSUB -/
def execVsub (i : Issue) (s : State) : Host.Outcome State Fault Refusal := .next (s.vec2 i { sat := true } 1 fun c n => c.vI i.a n - c.vI i.b n)

/-- VNEG -/
def execVneg (i : Issue) (s : State) : Host.Outcome State Fault Refusal := .next (s.vec2 i { sat := true, b := 0 } 1 fun c n => -(c.vI i.a n))

/-- VABS -/
def execVabs (i : Issue) (s : State) : Host.Outcome State Fault Refusal := .next (s.vec2 i { sat := true, b := 0 } 1 fun c n => (c.vI i.a n).natAbs)

/-- VMIN -/
def execVmin (i : Issue) (s : State) : Host.Outcome State Fault Refusal := .next (s.vec2 i { sat := true } 1 fun c n => min (c.vI i.a n) (c.vI i.b n))

/-- VMAX -/
def execVmax (i : Issue) (s : State) : Host.Outcome State Fault Refusal := .next (s.vec2 i { sat := true } 1 fun c n => max (c.vI i.a n) (c.vI i.b n))

/-- VAND -/
def execVand (i : Issue) (s : State) : Host.Outcome State Fault Refusal := .next (s.vec2 i {} 1 fun c n => (c.vW i.a n &&& c.vW i.b n).toInt)

/-- VOR -/
def execVor (i : Issue) (s : State) : Host.Outcome State Fault Refusal := .next (s.vec2 i {} 1 fun c n => (c.vW i.a n ||| c.vW i.b n).toInt)

/-- VXOR -/
def execVxor (i : Issue) (s : State) : Host.Outcome State Fault Refusal := .next (s.vec2 i {} 1 fun c n => (c.vW i.a n ^^^ c.vW i.b n).toInt)

/-- VSHL: by S_B[4:0]. -/
def execVshl (i : Issue) (s : State) : Host.Outcome State Fault Refusal := .next (s.vec2 i { sat := true } 1 fun c n => c.vI i.a n * 2 ^ wbits (c.rS i.b) 0 5)

/-- VSRA: by S_B[4:0], rounded by RND. -/
def execVsra (i : Issue) (s : State) : Host.Outcome State Fault Refusal := .next (s.vec2 i { sat := true, rnd := true } 1 fun c n => roundBy i.rnd (c.vI i.a n) (wbits (c.rS i.b) 0 5))

/-- VMPY -/
def execVmpy (i : Issue) (s : State) : Host.Outcome State Fault Refusal := .next (s.mulSlot i { sat := true, d := 8 } false fun c => c.sendA i 3 true fun n => c.vI i.a n * c.vI i.b n)

/-- VMAC -/
def execVmac (i : Issue) (s : State) : Host.Outcome State Fault Refusal := .next (s.mulSlot i { sat := true, d := 8 } false fun c =>
    let acc := c.rAfwd i.d
    c.sendA i 3 true fun n => nth 0 acc n + c.vI i.a n * c.vI i.b n)

/-- VMSC -/
def execVmsc (i : Issue) (s : State) : Host.Outcome State Fault Refusal := .next (s.mulSlot i { sat := true, d := 8 } false fun c =>
    let acc := c.rAfwd i.d
    c.sendA i 3 true fun n => nth 0 acc n - c.vI i.a n * c.vI i.b n)

/-- VMACS: one scalar for every lane. -/
def execVmacs (i : Issue) (s : State) : Host.Outcome State Fault Refusal := .next (s.mulSlot i { sat := true, d := 8 } false fun c =>
    let acc := c.rA i.d
    c.sendA i 3 false fun n => nth 0 acc n + c.vI i.a n * (c.rS i.b).toInt)

/-- ACLR -/
def execAclr (i : Issue) (s : State) : Host.Outcome State Fault Refusal := .next (s.regSlot i (legalR i { d := 8, a := 0, b := 0 }) fun c => c.sendA i 1 false fun _ => 0)

/-- AEXT: an accumulator, shifted, rounded and brought to 32 bits. -/
def execAext (i : Issue) (s : State) : Host.Outcome State Fault Refusal := .next (s.regSlot i (legalR i { sat := true, a := 8, rnd := true }) fun c =>
    let acc := c.rA i.a
    c.sendV i i.d 2 fun n => roundBy i.rnd (nth 0 acc n) i.b)

/-- AINS -/
def execAins (i : Issue) (s : State) : Host.Outcome State Fault Refusal := .next (s.regSlot i (legalR i { sat := true, d := 8 }) fun c => c.sendA i 1 false fun n => c.vI i.a n * 2 ^ i.b)

/-- ASHR -/
def execAshr (i : Issue) (s : State) : Host.Outcome State Fault Refusal := .next (s.regSlot i (legalR i { sat := true, d := 8, a := 0, rnd := true }) fun c =>
    let acc := c.rA i.d
    c.sendA i 1 false fun n => roundBy i.rnd (nth 0 acc n) i.b)

/-- VCMPY: complex lanes 2i and 2i + 1. -/
def execVcmpy (i : Issue) (s : State) : Host.Outcome State Fault Refusal := .next (s.mulSlot i { sat := true, d := 8 } true fun c => c.sendA i 3 false fun n => c.cmul i false n)

/-- VCMAC -/
def execVcmac (i : Issue) (s : State) : Host.Outcome State Fault Refusal := .next (s.mulSlot i { sat := true, d := 8 } true fun c =>
    let acc := c.rA i.d
    c.sendA i 3 false fun n => nth 0 acc n + c.cmul i false n)

/-- VCMACJ: with V_B conjugated. -/
def execVcmacj (i : Issue) (s : State) : Host.Outcome State Fault Refusal := .next (s.mulSlot i { sat := true, d := 8 } true fun c =>
    let acc := c.rA i.d
    c.sendA i 3 false fun n => nth 0 acc n + c.cmul i true n)

/-- VBFLY: a butterfly; D is even. -/
def execVbfly (i : Issue) (s : State) : Host.Outcome State Fault Refusal := .next (s.slotStep i (legalR i { sat := true, rnd := true } && i.d % 2 = 0 && !(s.core i.k.val).hot) fun s c =>
    if i.residue then (s, c, 1) else
    let t := fun (n : Nat) => roundBy i.rnd (c.vI i.b n * c.vI ((i.b + 1) % 32) n) 31
    let c1 := c.sendV i i.d 4 fun n => c.vI i.a n + t n
    (s, { c1.sendV i (i.d + 1) 4 fun n => c.vI i.a n - t n with wide := true }, 0))

/-- VSPLAT -/
def execVsplat (i : Issue) (s : State) : Host.Outcome State Fault Refusal := .next (s.vec2 i { b := 0 } 1 fun c _ => (c.rS i.a).toInt)

/-- VPERM -/
def execVperm (i : Issue) (s : State) : Host.Outcome State Fault Refusal := .next (s.vec2 i {} 1 fun c n => c.vI i.a ((c.vW i.b n).toNat % 16))

/-- VSEL: by the bits of P(MOD). -/
def execVsel (i : Issue) (s : State) : Host.Outcome State Fault Refusal := .next (s.vec2 i { mod := true } 1 fun c n => if (c.rP i.mod).testBit n then c.vI i.a n else c.vI i.b n)

/-- VEXTR -/
def execVextr (i : Issue) (s : State) : Host.Outcome State Fault Refusal := .next (s.regSlot i (legalR i { b := 16 }) fun c => if c.on i.pred then c.send 1 1 (.s i.d (c.vW i.a i.b)) else c)

/-- VCMPEQ -/
def execVcmpeq (i : Issue) (s : State) : Host.Outcome State Fault Refusal := .next (s.vecCmp i fun a b => decide (a = b))

/-- VCMPLT -/
def execVcmplt (i : Issue) (s : State) : Host.Outcome State Fault Refusal := .next (s.vecCmp i fun a b => decide (a < b))

/-- VCMPLE -/
def execVcmple (i : Issue) (s : State) : Host.Outcome State Fault Refusal := .next (s.vecCmp i fun a b => decide (a ≤ b))

/-- Redundant sign bits of a lane: how far it can move left and keep its sign. -/
def signBits (x : Int) : Nat := 31 - Nat.log2 (2 * (if x < 0 then (-x - 1).toNat else x.toNat) + 1)

/-- VNORM: the least of the 16 lanes. -/
def execVnorm (i : Issue) (s : State) : Host.Outcome State Fault Refusal := .next (s.regSlot i (legalR i { sat := true, b := 0 }) fun c =>
    if c.on i.pred then c.send 1 2 (.s i.d (wordN (((List.range 16).map fun n => signBits (c.vI i.a n)).foldl min 31))) else c)

/-- VCRC: the CRC-32C of earlier bytes, which S_B holds, continued over the 64 bytes of V_A (R365). DEDUCED, log 86. -/
def execVcrc (i : Issue) (s : State) : Host.Outcome State Fault Refusal := .next (s.regSlot i (legalR i {}) fun c =>
    if c.on i.pred then
      c.send 1 4 (.s i.d (crc32cSeed (~~~(c.rS i.b)) ((c.rV i.a).map fun w => leBytes 4 w.toNat).flatten))
    else c)

/-- VMOV -/
def execVmov (i : Issue) (s : State) : Host.Outcome State Fault Refusal := .next (s.vec2 i { b := 0 } 1 fun c n => c.vI i.a n)

/-! ### Memory slots (Table FACET-7) -/

/-- LD.W -/
def execLdW (i : Issue) (s : State) : Host.Outcome State Fault Refusal := .next (s.loadSlot i 4 32 fun _ bs => .s i.dr (wordN (leNat bs)))

/-- ST.W -/
def execStW (i : Issue) (s : State) : Host.Outcome State Fault Refusal := .next (s.storeSlot i 4 32 false fun c => storeWord (c.rS i.dr))

/-- LD.V: only lanes whose predicate bit is set are written. -/
def execLdV (i : Issue) (s : State) : Host.Outcome State Fault Refusal := .next (s.loadSlot i 64 32 fun c bs => .v (physV c.carousel i.dr) (c.lanes i.mPred fun n => wordN (leAt bs (4 * n) 4)))

/-- ST.V: the lanes whose predicate bit is set. -/
def execStV (i : Issue) (s : State) : Host.Outcome State Fault Refusal := .next (s.storeSlot i 64 32 true fun c =>
    ((List.range 16).map fun n =>
      if (c.rP i.mPred).testBit n then storeWord (c.vW i.dr n) else List.replicate 4 none).flatten)

/-- LD.B: one word for every lane. -/
def execLdB (i : Issue) (s : State) : Host.Outcome State Fault Refusal := .next (s.loadSlot i 4 32 fun c bs => .v (physV c.carousel i.dr) (c.lanes i.mPred fun _ => wordN (leNat bs)))

/-- LD.P -/
def execLdP (i : Issue) (s : State) : Host.Outcome State Fault Refusal := .next (s.loadSlot i 4 8 fun _ bs => .p i.dr (leNat bs % 2 ^ 16) 0xFFFF)

/-- ST.P -/
def execStP (i : Issue) (s : State) : Host.Outcome State Fault Refusal := .next (s.storeSlot i 4 8 false fun c => storeWord (wordN (c.rP i.dr)))

end Sys2Proof.Machine
end

