-- ==== Sys2Proof/Machine/Facet.lean ====
section
/-! DEFINITION. The Facet array as Ganen and FACETCTL run it (R41, R178 to R189, R230, R370): roles, budgets, replacement,
self-test, scrubbing and user kernels. -/

namespace Sys2Proof.Machine

/-- Base of Facet `k`'s registers. -/
def aFacet (k : Nat) : Nat := aFacetctl + 0x1000 + 0x40 * k

/-! ### Girdle (R171, R173) -/

/-- FACET_GRES_k's N. -/
def gresN (s : State) (k : Nat) : Nat := wbits (s.reg (aFacet k + 16)) 0 7

/-- GIRDLE_RESERVATION_STALL (R173): a request has waited N - 1 cycles of a run without a free slot, and the core issues nothing for
a cycle. Where the run has left a slot free since, there is no stall. -/
def execGirdleReservationStall (k : Fin 64) (s : State) : Host.Outcome State Fault Refusal :=
  let c := s.core k
  .next (if c.run && decide (gresN s k ≤ c.full + 1) then
      (s.setCore k { c with cyc := c.cyc + 1, full := 0 }).count (aFacetctl + 0xB0)
    else s)

/-- GIRDLE_TRANSFER_COMPLETE (R171). -/
def execGirdleTransferComplete (k : Fin 64) (tag : Fin 8) (r : GirdleEnd) (s : State) : Host.Outcome State Fault Refusal :=
  .next (match r with | .busError => s.girdleDone k tag true .clean | .whole chk => s.girdleDone k tag false chk)

/-! ### Budgets (R180, R181, R184) -/

/-- The record of an overrun: cause 7. -/
def State.overrun (s : State) (k : Nat) (dev : Bool) : State :=
  let pc := (s.core k).pc
  let s1 := (s.endRun k true).raise (aFacetctl + 4) 0x40
  let s2 := { s1 with facets := { s1.facets with fault := mset s1.facets.fault k (7, pc) } }
  s2.report { cls := 0x40, dev := dev, inst := k, detail := [wordN 7, wordN pc] }

/-- A user kernel's overrun (R181). -/
def State.userOverrun (s : State) (k : Nat) : State :=
  let s1 := (s.overrun k false).count (aFacetctl + 0xA8)
  match s1.kernelOf k with
  | none => s1
  | some (n, q) =>
    let s2 := s1.modKernel n fun q => { q with ovr := q.ovr + 1 }
    if q.ovr + 1 > q.limit then s2.suspendKernel k 7 else s2

/-- A render Facet's overrun: the second within 16 consecutive cycles makes it faulty (R184). -/
def State.renderOverrun (s : State) (k : Nat) : State :=
  let s1 := (s.overrun k true).count (aFacetctl + 0xA0)
  let l := (mget [] s1.facets.ovr k).filter fun b => s.render.n < b + 16
  let s2 := { s1 with facets := { s1.facets with ovr := mset s1.facets.ovr k (l ++ [s.render.n]) } }
  if l.isEmpty then s2 else { s2 with facets := { s2.facets with stopped := mset s2.facets.stopped k s2.lNs } }

/-- BUDGET_EXPIRY: the Facet stops issuing. DEDUCED, log 95. -/
def execBudgetExpiry (k : Fin 64) (s : State) : Host.Outcome State Fault Refusal :=
  if !(s.core k).run then .next s
  else if s.fst k = 3 then .next (s.userOverrun k)
  else if s.fst k = 2 ∧ !mhas s.facets.stopped k then .next (s.renderOverrun k)
  else .next s

/-! ### Render roles (R29, R178, R179, R184) -/

/-- A Facet takes a render role: its runs start at each boundary, at an entry bundle of Ganen's firmware that the spec does not
give. DESIGN CHOICE, log 194. -/
def State.toRender (s : State) (k : Nat) : State :=
  let (i, s1) := s.fresh
  (s1.setReg (aFacet k) ((s1.reg (aFacet k) &&& 0x40000) ||| 0x10000 ||| wordN (Config.freeInt i 0 % 4096).toNat)).setFst k 2

/-- A Facet leaves its role for state `c`: no further runs. -/
def State.endRole (s : State) (k c : Nat) : State :=
  (((s.lower (aFacet k) 0x10000).setCore k { (s.core k).clearBundle.drain with run := false })).setFst k c

/-- When the stage of a Facet's work must be complete, in ns from the boundary (Table ARCH-2). -/
def stageEnd (rate96 : Bool) : Work → Nat
  | .kernel => 0
  | .objects _ => if rate96 then 80000 else 130000
  | .matrix _ => if rate96 then 125000 else 230000
  | .chains _ => if rate96 then 158000 else 310000

/-- The RENDER Facets that run, the highest first. -/
def facetsToShed (s : State) : List Nat := ((List.range 64).filter fun k => s.fst k == 2 && !mhas s.facets.stopped k).reverse

/-! ### Replacement (R185, R188) -/

/-- The lowest Facet in a state. -/
def lowest (s : State) (c : Nat) : Option Nat := (List.range 64).find? fun k => s.fst k == c

/-- What a feed chain has lost with its Facet (Table FACET-11). -/
def FeedRt.lost (r : FeedRt) : FeedRt :=
  { r with
    biq := List.replicate 16 {}, line := [], hist := [], tail := [], tailB := [],
    limG := 0x40000000, limiting := false }

/-- What an object chain has lost with its Facet. DEDUCED, log 80. -/
def ObjRt.lost (r : ObjRt) : ObjRt :=
  { r with air1 := 0, air2 := 0, decoSt := [], assigned := true, dPrev := r.dTgt, jump := none }

/-- The carried state that a replaced Facet's channels restart from. -/
def State.losesWork (s : State) : Work → State
  | .kernel => s
  | .objects os => os.foldl (fun s o => s.modObjRt o.val ObjRt.lost) s
  | .matrix fs =>
    let put := fun (e : Nat × GainSt) => if fs.any fun f => f.val == e.1 then (e.1, { e.2 with prevQ := e.2.tgtQ }) else e
    let row := fun (q : Option Route) => match q with | some r => fs.any fun f => f.val == r.feed | none => false
    { s with render := { s.render with
        objRt := s.render.objRt.map fun e => (e.1, { e.2 with direct := e.2.direct.map put, diffuse := e.2.diffuse.map put })
        routes := s.render.routes.map fun e => (e.1, if row e.2.cur then { e.2 with prevQ := e.2.tgtQ } else e.2) } }
  | .chains fs => fs.foldl (fun s f => s.modFeedRt f.val FeedRt.lost) s

/-- Stopped render Facets whose replacement is due: 20 µs have passed. -/
def replaceDue (s : State) : List Nat := (keys s.facets.stopped).filter fun k => decide (mget 0 s.facets.stopped k + 20000 ≤ s.lNs)

/-- A failed render Facet goes to QUARANTINE. -/
def State.retire (s : State) (k : Nat) : State :=
  let s1 := (s.endRole k (s.fst k)).quarantine k
  { s1 with facets := { s1.facets with stopped := mdel s1.facets.stopped k, ovr := mdel s1.facets.ovr k } }

/-- SPARE_REPLACEMENT: at a boundary 20 µs or more after the stop, the lowest spare takes the role, for the lowest Facet first. -/
def execSpareReplacement (k : Fin 64) (w : Work) (s : State) : Host.Outcome State Fault Refusal :=
  if !(replaceDue s).contains k.val || (replaceDue s).any (· < k.val) then .next s
  else match lowest s 4 with
    | some j => .next ((((s.retire k).toRender j).losesWork w).count (aFacetctl + 0x98))
    | none => .next s

/-- SELFTEST_COMPLETE (R186). -/
def execSelftestComplete (k : Fin 64) (pass : Bool) (s : State) : Host.Outcome State Fault Refusal :=
  if s.fst k ≠ 6 then .next s
  else if pass then .next (s.setFst k 4)
  else .next ((s.setFst k 7).raise (aFacetctl + 4) 0x100)

/-! ### What a boundary does to roles (R29, R178, R179, R186, R187) -/

/-- Facets move from one state to another, lowest first, at most `n`. DEDUCED, log 92. -/
def State.moveFacets (s : State) (src dst : Nat) : Nat → State
  | 0 => s
  | n + 1 => match lowest s src with
    | none => s
    | some k => (if dst = 2 then s.toRender k else s.setFst k dst).moveFacets src dst n

/-- A stopped render Facet for which no spare exists (R187). -/
def State.noSpareFor (s : State) (k : Nat) : State :=
  let s1 := { s with facets := { s.facets with noSpare := true } }
  let s2 := (((s1.retire k).raise (aFacetctl + 4) 0x80).report { cls := 0x41, dev := true, inst := k })
  s2.event 0x8001 ([BitVec.ofNat 8 k] ++ zeros 3)

/-- Roles at a boundary: quarantined Facets go to test, the spare pool refills, and the render count of Table ARCH-9 is held, from
below and from above. DEDUCED, log 93. -/
def State.facetBoundary (s : State) : State :=
  let s0 := { s with facets := { s.facets with
    st := s.facets.st.map fun c => if c = 5 then 6 else c
    live := (List.range 64).map fun k => (k, (wbits (s.reg (aFacet k + 8)) 0 19, wbits (s.reg (aFacet k + 12)) 0 19)) } }
  let s1 := s0.moveFacets 1 4 (4 - facetsIn s0 4)
  let s2 := if s1.anyZone then s1 else (keys s1.facets.stopped).foldl State.retire s1
  let s3 := if (lowest s2 4).isNone then (replaceDue s2).foldl State.noSpareFor s2 else s2
  let want := renderCount s3
  let s4 := ((facetsToShed s3).take (facetsIn s3 2 - want)).foldl (fun s k => s.endRole k 1) s3
  let s5 := s4.moveFacets 1 2 (want - facetsIn s4 2)
  let s6 := s5.moveFacets 4 2 (want - facetsIn s5 2)
  if s6.facets.noSpare && facetsIn s6 2 ≥ want then { s6 with facets := { s6.facets with noSpare := false } } else s6

/-! ### FACETCTL's registers (R189) -/

/-- A write of FACET_CTL_k (Table FACET-14). -/
def State.facetCtl (s : State) (k : Nat) (v : Word) : State :=
  let a := aFacet k
  if wbit v 17 then
    let s1 := (s.setReg a (v &&& 0x10FFF)).setFst k 1
    { s1 with facets := { s1.facets with core := mdel s1.facets.core k } }
  else s.setReg a ((v &&& 0x10FFF) ||| ((s.reg a ||| v) &&& 0x40000))

/-- FACET_RESET, FACET_WIN_LOCK and FACET_RUN_SET are writes of FACET_CTL_k. -/
def execFacetReset (k : Fin 64) (v : Word) (s : State) : Host.Outcome State Fault Refusal := guarded (aFacet k) v (s.facetCtl k v)
def execFacetWinLock (k : Fin 64) (v : Word) (s : State) : Host.Outcome State Fault Refusal := guarded (aFacet k) v (s.facetCtl k v)
def execFacetRunSet (k : Fin 64) (v : Word) (s : State) : Host.Outcome State Fault Refusal := guarded (aFacet k) v (s.facetCtl k v)

def facetctlStatus (s : State) : Word := wordN (facetsIn s 3 * 2 ^ 24 + facetsIn s 4 * 2 ^ 16 + facetsIn s 2 * 2 ^ 8)

/-- Facets `[32 h + 31 : 32 h]` in a state, one bit each. -/
def facetMap (s : State) (c h : Nat) : Word := wordN (nsum ((List.range 32).map fun k => if s.fst (32 * h + k) = c then 2 ^ k else 0))

def facetState (s : State) (k : Nat) : Word :=
  let f := mget (0, 0) s.facets.fault k
  wordN (f.2 * 2 ^ 16 + f.1 * 2 ^ 8 + s.fst k)

def facetUsed (s : State) (k : Nat) : Word :=
  let u := mget (0, false) s.facets.used k
  wordN (b2n u.2 * 2 ^ 31 + u.1 % 2 ^ 19)

/-! ### Patrol scrubbing (R370) -/

/-- SCRUB_WORD: the scrubber of a memory (0 Table with the secure part, 1 Crown, 2 a Facet's memories, 3 DRAM) reads a word.
DEDUCED, log 94. -/
def execScrubWord (m : Fin 4) (inst addr synd : Nat) (c : WordCheck) (s : State) : Host.Outcome State Fault Refusal :=
  if !wbit (s.reg (aInteg + 8)) 0 then .next s
  else match c with
    | .clean => .next s
    | .corrected =>
      let s1 := s.count (aInteg + 0xA8)
      .next (if m = 2 then s1.count (aFacetctl + 0x90) else if m = 3 then s1.eccCorrected .dram else s1)
    | .uncorrectable =>
      let s1 := (s.count (aInteg + 0xB0)).raise (aInteg + 4) 4
      .next (if m = 2 then s1.facetFault inst (if addr % 0x100000 < 0x80000 then 2 else 3) 4 addr
        else s1.eccReport (if m = 0 then .table else if m = 1 then .crown else .dram) inst addr synd false true)

/-! ### User kernels (R183, R230) -/

/-- Table FACET-10's fields. -/
def kLe (img : List Byte) (o n : Nat) : Nat := leAt img o n

/-- The cycle in units of 1/3 ns: T × 3 is an integer at either rate. -/
def cycle3 (rate96 : Bool) : Nat := if rate96 then 500000 else 1000000

/-- Whether an image breaks Table FACET-10. -/
def badImage (rate96 : Bool) (img : List Byte) : Bool :=
  let f := kLe img
  let pz := f 8 4
  let dz := f 16 4
  img.length < 64 || f 0 4 ≠ 0x46544B31 || f 4 2 ≠ 1 || f 6 2 ≠ 0 || pz % 16 ≠ 0 || pz < 16 || pz > 65536 || f 12 4 ≥ pz / 16 ||
    dz % 64 ≠ 0 || dz > 524288 || f 20 4 % 64 ≠ 0 || f 20 4 + dz > 0x80000 || f 24 4 < 1000 || 3 * f 24 4 > cycle3 rate96 ||
    3 * (f 24 4 + f 28 4) > cycle3 rate96 || f 32 4 % 65536 ≠ 0 || f 32 4 > 6 * 2 ^ 20 || f 36 2 < 2 || f 36 2 > 64 ||
    f 38 2 < 1 || f 38 2 > 255 || (slice img 44 20).any (· != 0) || img.length ≠ 64 + pz + dz ||
    (crc32c (img.drop 44)).toNat ≠ f 40 4

/-- Units of 64 KiB of the user partition. -/
def shareFree (s : State) (at' n : Nat) : Bool :=
  decide (at' + n ≤ 96) && s.facets.kernels.all fun e => decide (at' + n ≤ e.2.shareAt) || decide (e.2.shareAt + e.2.share ≤ at')

/-- The lowest place of a Crown share. -/
def sharePlace (s : State) (n : Nat) : Option Nat := if n = 0 then some 0 else (List.range 97).find? fun a => shareFree s a n

def kSlot (c : Cmd) : Nat := c.at 20 1
def kFinal (c : Cmd) : Bool := c.at 21 1 == 1

/-- SYS_KERNEL_LOAD as a piece. -/
def kPiece (c : Cmd) : PieceFields where
  name := kSlot c
  off := c.at 24 4
  data := c.bytes 28
  final := kFinal c
  head := c.payload.take 4 ++ zeros 4

/-- The image as the FINAL piece completes it. -/
def kImage (s : State) (c : Cmd) : List Byte := s.objectSoFar c (kPiece c)

/-- Write a kernel into a Facet: it is reset, its windows open on its share and on the block buffers, and its budget is set.
DEDUCED, log 91. -/
def State.loadKernel (s : State) (n k : Nat) (img : List Byte) : State :=
  let f := kLe img
  let share := f 32 4 / 65536
  let place := match mfind s.facets.kernels n with | some q => q.shareAt | none => (sharePlace s share).getD 0
  let seq := (s.facets.kernels.map (·.2.seq)).foldl max 0 + 1
  let q : Kernel := {
    facet := k, entry := f 12 4, budget := f 24 4, start := f 28 4, shareAt := place, share := share, limit := f 38 2, seq := seq, img := img }
  let base := facetBase k
  let s1 := (s.facetCtl k 0x20000).setFst k 3
  let s2 := { s1 with facets := { s1.facets with kernels := mset s1.facets.kernels n q } }
  let s3 := ((s2.memClear base (base + 0x80000)).memWrite (base + 0x80000) (slice img 64 (f 8 4))).memWrite (base + f 20 4)
    (img.drop (64 + f 8 4))
  let a := aFacet k
  (((((((s3.setReg a (wordN q.entry)).setReg (a + 8) (wordN q.start)).setReg (a + 12) (wordN q.budget)).setReg (a + 16)
    (wordN (f 36 2))).setReg (a + 0x18) (wordN (crownUser / 65536 + place))).setReg (a + 0x1C) (wordN share)).setReg (a + 0x20)
    (wordN (crownBlocks / 65536))).setReg (a + 0x24) 64

/-- A load that finds no Facet in IDLE, or no place for its share, part way through a set: its kernel has neither until the set's end
(R206). -/
def State.holdKernel (s : State) (n : Nat) (img : List Byte) : State :=
  let f := kLe img
  let q : Kernel := {
    facet := 64, entry := f 12 4, budget := f 24 4, start := f 28 4, shareAt := 0, share := 0, limit := f 38 2
    seq := (s.facets.kernels.map (·.2.seq)).foldl max 0 + 1, img := img }
  { s with facets := { s.facets with kernels := mset s.facets.kernels n q } }

/-- Units of its share that an image asks for. -/
def shareOf (img : List Byte) : Nat := kLe img 32 4 / 65536

/-- A kernel takes the lowest Facet in IDLE, and its share; or it waits for the set's end. -/
def State.placeKernel (s : State) (n : Nat) (img : List Byte) : State :=
  match lowest s 1, sharePlace s (shareOf img) with
  | some k, some _ => s.loadKernel n k img
  | _, _ => s.holdKernel n img

def specSysKernelLoad : OpSpec where
  spi := true
  txn := true
  atOnce := fun c _ => !kFinal c
  units := fun _ _ => [5]
  len := fun c => c.plen ≥ 8
  param := fun c s =>
    let p := kPiece c
    firstBad [(p.name > 19, 20), (c.at 21 1 > 1, 21), (s.pieceGap c p, 24), (p.final && badImage s.render.rate96 (kImage s c), 28)]
  spoil := fun c s => s.spoilPiece c (kPiece c)
  busy := fun c s =>
    if piecesBusy s c (kSlot c) then some (reject stBusy 5 (kSlot c))
    else if !kFinal c then none
    else if mhas s.facets.kernels (kSlot c) then some (reject stBusy 5 (kSlot c))
    else if (sharePlace s (shareOf (kImage s c))).isNone then some (reject stCapacity 5 10)
    else if (lowest s 1).isNone then some (reject stCapacity 5 5) else none
  run := fun c s => (s.runPiece c (kPiece c), { status := stOK, touched := unitBits [5], succeeded := unitBits [5] }, [])
  data := fun c s => if kFinal c then [BitVec.ofNat 8 ((lowest s 1).getD 0), 0, 0, 0] else []
  accept := fun c s => s.takePiece c (kPiece c)
  apply := fun c bad s => if bad.contains 5 || !kFinal c then s else s.placeKernel (kSlot c) (c.bytes 28)

/-- Start or stop a kernel. -/
def State.runKernel (s : State) (n : Nat) (go : Bool) : State :=
  match mfind s.facets.kernels n with
  | none => s
  | some q =>
    let s1 := s.modKernel n fun q => { q with run := go, suspended := false, ovr := 0 }
    let a := aFacet q.facet
    if q.facet ≥ 64 then s1 else
    if go then s1.raise a 0x10000 else s1.lower a 0x10000

/-- Kernels that wait for a Facet. -/
def unplaced (s : State) : List (Nat × Kernel) := s.facets.kernels.filter fun e => e.2.facet ≥ 64

/-- A waiting kernel takes its Facet and its share at the set's end; it keeps its place in the order of loading, and starts where it
was started. -/
def State.settleKernel (s : State) (e : Nat × Kernel) : State :=
  let s1 := { s with facets := { s.facets with kernels := mdel s.facets.kernels e.1 } }
  match lowest s1 1, sharePlace s1 (shareOf e.2.img) with
  | some k, some _ =>
    let s2 := (s1.loadKernel e.1 k e.2.img).modKernel e.1 fun q => { q with seq := e.2.seq }
    if e.2.run then s2.runKernel e.1 true else s2
  | _, _ => s

/-- The waiting kernels in the order of loading. -/
def State.settleKernels (s : State) : State :=
  let l := unplaced s
  ((List.range l.length).filterMap fun i => l.find? fun e => (l.filter fun x => x.2.seq < e.2.seq).length == i).foldl State.settleKernel s

/-- Kernels for which no Facet or share is left go. -/
def State.dropUnplaced (s : State) : State :=
  { s with facets := { s.facets with kernels := s.facets.kernels.filter fun e => !(e.2.facet ≥ 64) } }

/-- The limit that a waiting kernel meets: no Facet in IDLE, or no room for its share. -/
def kernelLimit (s : State) : Option ReplyRec :=
  match unplaced s with
  | [] => none
  | e :: _ => some (reject stCapacity 5 (if (sharePlace s (shareOf e.2.img)).isNone then 10 else 5))

/-- The kernel slot is empty. -/
def noKernel (s : State) (n : Nat) : Bool := n > 19 || !mhas s.facets.kernels n

def specSysKernelRun : OpSpec where
  spi := true
  txn := true
  atOnce := fun _ _ => false
  units := fun _ _ => [5]
  param := fun c s => firstBad [(noKernel s (kSlot c), 20), (c.at 21 1 > 1, 21)]
  apply := fun c bad s => if bad.contains 5 then s else s.runKernel (kSlot c) (c.at 21 1 == 1)

/-- A kernel leaves its Facet, which returns to IDLE where the Facet still holds it. -/
def State.unloadKernel (s : State) (n : Nat) : State :=
  match mfind s.facets.kernels n with
  | none => s
  | some q =>
    let s1 := { s with facets := { s.facets with kernels := mdel s.facets.kernels n } }
    if q.facet ≥ 64 then s1 else
    let s2 := ((s1.lower (aFacet q.facet) 0x10000).setReg (aFacet q.facet + 0x1C) 0).setReg (aFacet q.facet + 0x24) 0
    if s.fst q.facet = 3 then s2.setFst q.facet 1 else s2

def specSysKernelUnload : OpSpec where
  spi := true
  txn := true
  atOnce := fun _ _ => false
  units := fun _ _ => [5]
  param := fun c s => firstBad [(noKernel s (kSlot c), 20)]
  apply := fun c bad s => if bad.contains 5 then s else s.unloadKernel (kSlot c)

/-- Bytes that a reply may carry after its first `n` result bytes (R192). -/
def replyRoom (s : State) (c : Cmd) (n : Nat) : Nat := packetLimit s c.ep - (24 + 20 + n) - 16 * b2n c.tagged

def specSysKernelRead : OpSpec where
  spi := true
  standby := true
  units := fun _ _ => [5]
  len := fun c => c.plen == 12
  param := fun c s =>
    let size := if c.at 21 1 = 0 then 0x80000 else ((mfind s.facets.kernels (kSlot c)).map (·.share)).getD 0 * 65536
    firstBad [(noKernel s (kSlot c), 20), (c.at 21 1 > 1, 21), (c.at 24 4 % 4 ≠ 0 || c.at 24 4 ≥ size, 24),
      (c.at 28 4 % 4 ≠ 0 || c.at 28 4 < 4 || c.at 24 4 + c.at 28 4 > size || c.at 28 4 > replyRoom s c 4, 28)]
  run := fun c s =>
    match mfind s.facets.kernels (kSlot c) with
    | none => (s, reject stBadParam 5 20, [])
    | some q =>
      let a := (if c.at 21 1 = 0 then facetBase q.facet else crownUser + 65536 * q.shareAt) + c.at 24 4
      let m := q.held.getD s.mem.bytes
      readOk s [5] (beBytes 4 (c.at 28 4) ++ (List.range (c.at 28 4)).map fun i => cellGet m (a + i))

/-- The bytes that a kernel can have written: its Facet's data memory and its share. -/
def kernelCells (s : State) (q : Kernel) : List Host.Cell :=
  let lo := crownUser + 65536 * q.shareAt
  let b := facetBase q.facet
  s.mem.bytes.filter fun e =>
    (decide (b ≤ e.1) && decide (e.1 < b + 0x80000)) || (decide (lo ≤ e.1) && decide (e.1 < lo + 65536 * q.share))

def specDiagFacetRetry : OpSpec where
  standby := true
  spi := true
  units := fun _ _ => [5]
  param := fun c _ => firstBad [(c.at 20 1 > 63, 20)]
  busy := fun c s => if s.fst (c.at 20 1) ≠ 7 then some (reject stConflict 5 (c.at 20 1)) else none
  run := fun c s => readOk (s.setFst (c.at 20 1) 6) [5] []

/-- A kernel beyond the first eight whose Facet the render configuration would need (R183). -/
def kernelInWay (s : State) : Option Nat :=
  if !allocShort s then none
  else
    let order := s.facets.kernels.map fun e => (e.2.seq, e.1)
    let later := order.filter fun e => (order.filter fun x => x.1 < e.1).length ≥ 8
    (later.find? fun e => later.all fun x => x.1 ≤ e.1).map (·.2)

end Sys2Proof.Machine
end

