-- ==== Sys2Proof/Machine/LoupeFront.lean ====
section
/-! DEFINITION. Loupe's front end and what it adds to feeds (R120 to R137, R140 to R142, R160): decimators, DC blockers,
resets, states of inputs, stimuli and probes. -/

namespace Sys2Proof.Machine

def State.lin (s : State) (n : Nat) : LIn := nth {} s.loupe.ins n
def State.modLin (s : State) (n : Nat) (f : LIn → LIn) : State :=
  { s with loupe := { s.loupe with ins := s.loupe.ins.modify n f } }

/-- LOUPE_IN_CFG_n. -/
def aLin (n : Nat) : Nat := aLoupe + 0x100 + 4 * n
def inMode (w : Word) : Nat := wbits w 0 3
def inRate96 (w : Word) : Bool := wbit w 8

/-! ### Decimation (R123, R125, R126) -/

/-- Length of one arm of a half-band stage: taps are twice this and one more (Table LOUPE-2; 6 and 7 are the bridge stages
B1 and B2 of Table PORT-5). -/
def halfArm (i : Nat) : Nat := nth 25 [5, 5, 7, 11, 29, 29, 25, 25] i

/-- The output of a stage on its history. DESIGN CHOICE, log 96. -/
def halfOut (i : Nat) (h : List Int) : Int :=
  let c := halfArm i
  let pair := fun (j : Nat) => Config.halfBand i (j + 1) * (nth 0 h (c - (2 * j + 1)) + nth 0 h (c + (2 * j + 1)))
  sat 72 (Config.halfBand i 0 * nth 0 h c + isum ((List.range ((c + 1) / 2)).map pair))

/-- A sample passes the stages from `i` on: their states, the output if there is one, and how many stage outputs saturated.
DEDUCED, log 97. -/
def halfChain (i : Nat) : Nat → List HalfSt → Int → List HalfSt × Option Int × Nat
  | 0, st, x => (st, some x, 0)
  | n + 1, st, x =>
    let q := nth {} st i
    let h := (x :: q.hist).take (2 * halfArm i + 1)
    let st1 := st.set i { hist := h, phase := !q.phase }
    if q.phase then
      let a := halfOut i h
      let r := halfChain (i + 1) n st1 (roundQ 30 a)
      (r.1, r.2.1, r.2.2 + b2n (saturates 32 (shrEven a 30)))
    else (st1, none, 0)

/-- The first stage of an input by its configuration, and how many stages it passes. -/
def stagesOf (w : Word) : Nat × Nat :=
  let first := if inMode w = 3 then 6 - wbits w 4 2 else 0
  (first, (if inRate96 w then 5 else 6) - first)

/-- A raw bit or slot word in Q5.27. -/
def measEntry (w : Word) (x : Int) : Int := if inMode w = 3 then entryQ 32 x else if x = 1 then 0x8000000 else -0x8000000

/-- What input `n` samples: in a PDM mode its edge of the ball that DAT_SEL names, in mode 3 its slot of the pair's ball. -/
def rawOf (s : State) (lines : List MeasLine) (n : Nat) : List Int :=
  let w := s.reg (aLin n)
  let on := fun (b : Nat) => lines.filter fun e => e.ball.val == b
  let ball := if wbit w 3 then n ^^^ 1 else n
  match inMode w with
  | 1 => ((on ball).map (·.rise)).flatten
  | 2 => ((on ball).map (·.fall)).flatten
  | 3 => ((((on (n / 2 * 2)).map (·.rise)).flatten.zipIdx.filter fun e => e.2 % 2 == n % 2).map (·.1))
  | _ => []

/-- The chain's group delay in 1/64 sample of its output rate (Table LOUPE-3). -/
def chainDelay (w : Word) : Nat :=
  let (first, n) := stagesOf w
  nsum ((List.range n).map fun i => halfArm (first + i) * 64 / 2 ^ (n - i))

/-- The raw samples of a cycle pass the stages: states, decimated samples in order, saturated outputs. -/
def decimate (w : Word) : List HalfSt → List Int → List HalfSt × List Int × Nat
  | st, [] => (st, [], 0)
  | st, x :: t =>
    let r := halfChain (stagesOf w).1 (stagesOf w).2 st (measEntry w x)
    let q := decimate w r.1 t
    (q.1, r.2.1.toList ++ q.2.1, r.2.2 + q.2.2)

/-- The DC blocker (R128). DEDUCED, log 98. -/
def dcBlock (shift : Nat) (freeze bypass : Bool) : Int → List Int → Int × List Int
  | m, [] => (m, [])
  | m, x :: t =>
    let m1 := if freeze || bypass then m else wrap 64 (m + shrEven (x * 2 ^ 32 - m) shift)
    let y := if bypass then x else sat 32 (shrEven (x * 2 ^ 32 - m1) 32)
    let r := dcBlock shift freeze bypass m1 t
    (r.1, y :: r.2)

/-- Samples of a block at an output rate. -/
def outLen (s : State) (w : Word) : Nat :=
  if inRate96 w == s.render.rate96 then 16 else if inRate96 w then 32 else 8

/-- Whether the running job freezes input `n`'s blocker (R129, Table LOUPE-4). -/
def jobFreezes (s : State) (n : Nat) : Bool :=
  match s.loupe.job.bind (mfind s.loupe.jobs ·) with
  | some j => j.freeze && j.inputs.testBit n
  | none => false

/-- The window of input `n` closes on the raw samples since the last boundary (R124, R127, R131). An input that is STUCK outputs
zeros from the boundary after it became so. -/
def State.measClose (s : State) (n : Nat) (raw : List Int) : State :=
  let w := s.reg (aLin n)
  let q := s.lin n
  let len := outLen s w
  let put := fun (q : LIn) (out : List Int) => { q with out := out, hist := newest 304 (q.hist ++ out) }
  if q.st = 0 then s.modLin n fun q => { put q (List.replicate len 0) with satLast := false, satN := 0, live := false }
  else
    let d := decimate w q.stages raw
    let r := dcBlock q.shift q.freeze q.bypass q.m d.2.1
    let out := if q.st = 2 || (q.st == 3 && q.live) then (r.2 ++ List.replicate len 0).take len else List.replicate len 0
    let s1 := s.modLin n fun q => { put q out with
      stages := d.1, m := r.1, satLast := d.2.2 ≠ 0, satN := d.2.2, live := q.st == 2, shift := wbits w 16 5,
      freeze := wbit w 24 || jobFreezes s n, bypass := wbit w 25 }
    if d.2.2 = 0 then s1 else (s1.raise (aLoupe + 4) 1).count (aLoupe + 0x90) d.2.2

/-- The source code of measurement input `n` (Table MIX-1). -/
def measSource (n : Nat) : Nat := 3 * 2 ^ 14 + n

/-- Whether input `n` runs, out of SETTLING and STUCK, at the render rate (R143). -/
def micRuns (s : State) (n : Nat) : Bool := (s.lin n).st == 2 && inRate96 (s.reg (aLin n)) == s.render.rate96

/-- Carats of the measurement blocks of block `b`; an input that is Off has one of zeros (Table LOUPE-1). -/
def measCarats (s : State) (b : Nat) : List (Nat × Word) :=
  (List.range 16).map fun n => (n, (mkBlk (chId 0 (measSource n)) b (s.lin n).out).carat)

/-- A job's step captures the block of every captured input (R137). -/
def State.captureStep (s : State) : State :=
  let add := fun (q : LJob) (n : Nat) =>
    { q with caps := mmod [] q.caps n (· ++ (s.lin n).out), sats := mmod 0 q.sats n (· + (s.lin n).satN) }
  let one := fun (q : LJob) =>
    if q.going && decide (q.start ≤ s.render.n) then ((List.range 16).filter fun n => q.inputs.testBit n).foldl add q else q
  { s with loupe := { s.loupe with jobs := s.loupe.jobs.map fun e => if s.loupe.job == some e.1 then (e.1, one e.2) else e } }

/-- All windows close; an active unit of a pair enters the Carats in the delta (R160). -/
def State.measAll (s : State) (lines : List MeasLine) : State :=
  let s1 := ((List.range 16).foldl (fun t n => t.measClose n (rawOf s lines n)) s).captureStep
  let b := s.render.n + 2
  let l := measCarats s1 b
  let s2 := { s1 with loupe := { s1.loupe with carats := newest 256 (s1.loupe.carats ++ l.map fun e => (b, e.1, e.2)) } }
  if s2.role == 1 then s2.enter (.loupe (.carats b l)) else s2

/-- One Carat of the active against the standby's own. -/
def State.measCompare1 (b : Nat) (s : State) (e : Nat × Word) : State :=
  match (s.loupe.carats.find? fun q => q.1 == b && q.2.1 == e.1).map (·.2.2) with
  | none => s
  | some own =>
    if own = e.2 then s
    else (s.raise (aLoupe + 4) 0x10).report { cls := 0x71, dev := false, inst := e.1, detail := [e.2, own] }

/-- The standby compares the active's Carats with its own (R160). -/
def State.measCompare (s : State) (b : Nat) (l : List (Nat × Word)) : State :=
  if s.standby then l.foldl (State.measCompare1 b) s else s

/-! ### States of inputs (R124, R131) -/

def State.linEvent (s : State) (n : Nat) : State := s.event 0x8608 ([BitVec.ofNat 8 n, BitVec.ofNat 8 (s.lin n).st] ++ zeros 2)

/-- Whether the going step of a job captures input `n`. -/
def captures (s : State) (n : Nat) : Option (Nat × LJob) :=
  match s.loupe.job with
  | none => none
  | some j => match mfind s.loupe.jobs j with
    | some q => if q.going && q.inputs.testBit n then some (j, q) else none
    | none => none

def State.modJob (s : State) (j : Nat) (f : LJob → LJob) : State :=
  { s with loupe := { s.loupe with jobs := s.loupe.jobs.map fun e => if e.1 = j then (e.1, f e.2) else e } }

/-- The step of a job is abandoned: repeated once, and INVALID the second time (Table LOUPE-6). -/
def State.spoilStep (s : State) (j : Nat) (q : LJob) : State :=
  let s1 := s.modJob j fun q => { q with going := false, invalid := q.again }
  if s.standby then s1
  else if q.again then s1.enter (.loupe (.jobStep j (q.step + 1) false)) else s1.enter (.loupe (.jobStep j q.step true))

def State.spoil (s : State) (n : Nat) : State := match captures s n with | some (j, q) => s.spoilStep j q | none => s

/-- LOUPE_STUCK: PDM inputs alone have the detector. -/
def execLoupeStuck (n : Fin 16) (s : State) : Host.Outcome State Fault Refusal :=
  let w := s.reg (aLin n.val)
  if (inMode w = 1 ∨ inMode w = 2) ∧ ((s.lin n.val).st = 1 ∨ (s.lin n.val).st = 2) then
    let s1 := ((s.spoil n.val).modLin n.val fun q => { q with st := 3 }).raise (aLoupe + 4) 2
    .next (((s1.count (aLoupe + 0xA0)).report { cls := 0x70, dev := false, inst := n.val }).linEvent n.val)
  else .next s

/-- STUCK_RECOVER. -/
def execStuckRecover (n : Fin 16) (s : State) : Host.Outcome State Fault Refusal :=
  if (s.lin n.val).st = 3 then .next (((s.spoil n.val).modLin n.val fun q => { q with st := 1 }).linEvent n.val) else .next s

/-- SETTLING_END. -/
def execSettlingEnd (n : Fin 16) (s : State) : Host.Outcome State Fault Refusal :=
  if (s.lin n.val).st = 1 then .next (s.modLin n.val fun q => { q with st := 2 }) else .next s

/-! ### Synchronised reset (R130, R132) -/

/-- The reset takes place at the boundary in hand. A STUCK input stays so: it leaves STUCK by its data alone (R124). DEDUCED, log 197. -/
def State.syncReset (s : State) (clear : Bool) : State :=
  let one := fun (q : LIn) =>
    { q with stages := List.replicate 6 {}, m := if clear then 0 else q.m, st := if q.st = 2 then 1 else q.st }
  let s0 := match s.loupe.job.bind fun j => (mfind s.loupe.jobs j).map fun q => (j, q) with
    | some (j, q) => if q.going then s.spoilStep j q else s
    | none => s
  let s1 := { s0 with loupe := { s0.loupe with ins := s0.loupe.ins.map one, syncBlk := s0.render.n } }
  s1.lower (aLoupe + 0x10) 0x100

/-- An edge of LOUPE_SYNC requests a reset: a command accepted now. It reaches a standby through the delta (R158). CLEAR_DCB is read
when the reset is requested, so that both units clear alike. DESIGN CHOICE, log 197. -/
def State.askReset (s : State) : State := if s.standby then s else s.enter (.loupe (.syncReset (wbit (s.reg (aLoupe + 0x10)) 1)))

/-- A write of REQ requests a reset in this unit alone, as of a command accepted now (R19, R161). -/
def State.reqReset (s : State) : State :=
  if s.loupe.reqIn ≠ 0 then s else { s with loupe := { s.loupe with reqIn := if s.delta.cutoff then 2 else 1 } }

/-- A reset that REQ asked for takes place; CLEAR_DCB is read then. DEDUCED, log 197. -/
def State.reqBoundary (s : State) : State :=
  let n := s.loupe.reqIn
  let s1 := { s with loupe := { s.loupe with reqIn := n - 1 } }
  if n = 1 then s1.syncReset (wbit (s.reg (aLoupe + 0x10)) 1) else s1

/-- Two render cycles in ns, in units of 1/3. -/
def twoCycles (s : State) : Nat := 2 * cycle3 s.render.rate96

/-- LOUPE_SYNC_EDGE. -/
def execLoupeSyncEdge (s : State) : Host.Outcome State Fault Refusal :=
  if !wbit (s.reg (aLoupe + 0x10)) 0 then .next s
  else
    let soon := match s.loupe.lastEdge with | some t => decide (3 * (s.lNs - t) < twoCycles s) | none => false
    if soon then .next ((s.raise (aLoupe + 4) 4).count (aLoupe + 0x98))
    else .next ({ s with loupe := { s.loupe with lastEdge := some s.lNs } }).askReset

/-- A write of LOUPE_SYNC_CTL. -/
def State.syncCtl (s : State) (v : Word) : State :=
  let a := aLoupe + 0x10
  let s1 := s.setReg a ((v &&& 3) ||| (s.reg a &&& 0x100))
  if wbit v 8 then (s1.raise a 0x100).reqReset else s1

/-- LOUPE_SYNC_REQ. -/
def execLoupeSyncReq (v : Word) (s : State) : Host.Outcome State Fault Refusal := guarded (aLoupe + 0x10) v (s.syncCtl v)

/-! ### Configuration (R120, R121, R125) -/

/-- Whether a configuration's own fields are out of range. DEDUCED, log 109. -/
def badInCfg (w : Word) : Bool :=
  inMode w > 3 || wbits w 16 5 < 8 || wbits w 16 5 > 20 || (inMode w == 3 && wbits w 4 2 == 0 && inRate96 w)

/-- Whether a write of LOUPE_IN_CFG_n would set CFG_ERR. -/
def inCfgErr (s : State) (n : Nat) (v : Word) : Bool :=
  let mate := s.reg (aLin (n ^^^ 1))
  let paired := n % 2 == 1 && inMode mate == 3
  let old := s.reg (aLin n)
  badInCfg v || (paired && (inMode v ≠ inMode old || wbits v 4 2 ≠ wbits old 4 2)) || (n % 2 == 1 && !paired && inMode v == 3) ||
    (n % 2 == 0 && inMode v == 3 && wbits v 4 2 == 0 && inRate96 mate)

/-- An input takes a configuration; leaving Off it settles, which disturbs a step that captures it. -/
def State.setInCfg (s : State) (n : Nat) (v : Word) : State :=
  let s1 := s.setReg (aLin n) v
  if inMode v = 0 then s1.modLin n fun q => { q with st := 0 }
  else if (s.lin n).st = 0 then (s1.spoil n).modLin n fun q => { q with st := 1 } else s1

/-- A write of LOUPE_IN_CFG_n. -/
def State.inCfg (s : State) (n : Nat) (v : Word) : State :=
  if inCfgErr s n v then s.raise (aLoupe + 4) 8
  else
    let was := inMode (s.reg (aLin n))
    let m := n + 1
    let s1 := s.setInCfg n v
    if n % 2 = 1 then s1
    else if inMode v = 3 then s1.setInCfg m (wput (wput (s.reg (aLin m)) 0 3 3) 4 2 (wbits v 4 2))
    else if was = 3 then s1.setInCfg m (wput (s.reg (aLin m)) 0 3 0) else s1

/-- LOUPE_IN_CFG_WRITE. -/
def execLoupeInCfgWrite (n : Fin 16) (v : Word) (s : State) : Host.Outcome State Fault Refusal :=
  guarded (aLin n.val) v (s.inCfg n.val v)

/-! ### Stimuli (R134, R135) -/

/-- Feedback taps of an MLS register. -/
def mlsTaps (m : Nat) : List Nat :=
  nth [] [[12, 6, 4, 1], [13, 4, 3, 1], [14, 5, 3, 1], [15, 14], [16, 15, 13, 4], [17, 14], [18, 11], [19, 6, 2, 1], [20, 17]] (m - 12)

/-- A Fibonacci register of `m` bits after one step; its output is bit `m`. -/
def lfsrStep (m : Nat) (taps : List Nat) (r : Nat) : Nat :=
  (r * 2 + (nsum (taps.map fun t => b2n (r.testBit (t - 1)))) % 2) % 2 ^ m

/-- The register after `n` steps. -/
def lfsrAt (m : Nat) (taps : List Nat) (r : Nat) : Nat → Nat
  | 0 => r
  | n + 1 => lfsrStep m taps (lfsrAt m taps r n)

/-- Length of one MLS period. -/
def LJob.period (j : LJob) : Nat := 2 ^ j.order - 1

/-- Samples of a step's stimulus. -/
def LJob.stimLen (j : LJob) (fs : Nat) : Nat := if j.mls then j.reps * j.period else (j.dur + j.tail) * fs / 1000

/-- Sample `t` of the sweep (R134). -/
def LJob.sweep (j : LJob) (fs t : Nat) : Int :=
  let n := j.dur * fs / 1000
  if t ≥ n then 0
  else
    let fN' := fun (x : Nat) => F32.ofInt x
    let tdur := F32.div (fN' j.dur) (fN' 1000)
    let k := F32.ln (F32.div (fN' j.f2) (fN' j.f1))
    let sec := F32.div (fN' t) (fN' fs)
    let e := F32.sub (F32.exp (F32.div (F32.mul sec k) tdur)) F32.one
    let ph := F32.mul (F32.div (F32.mul (F32.mul (F32.mul (fN' 2) F32.pi) (fN' j.f1)) tdur) k) e
    let edge := fs / 100
    let near := min t (n - 1 - t)
    let fade := if near ≥ edge then F32.one
      else F32.mul F32.half (F32.sub F32.one (F32.cos (F32.div (F32.mul F32.pi (fN' near)) (fN' edge))))
    (F32.mul (F32.mul (F32.dbGain j.level) (F32.sin ph)) fade).toFix 32 27

/-- Sample `t` of the stimulus of the `i`-th feed of a step of `g` feeds. -/
def LJob.stim (j : LJob) (fs i g t : Nat) : Int :=
  if t ≥ j.stimLen fs then 0
  else if j.mls then
    let at' := (t + i * (j.period / g)) % j.period
    let bit := (lfsrAt j.order (mlsTaps j.order) (2 ^ j.order - 1) at').testBit (j.order - 1)
    let a := (F32.dbGain j.level).toFix 32 27
    if bit then a else -a
  else j.sweep fs t

/-! ### What Loupe adds to a feed (R136, R140, R141) -/

/-- The running job, where it acts on a zone. -/
def State.zoneJob (s : State) (z : Nat) : Option LJob :=
  match s.loupe.job.bind (mfind s.loupe.jobs ·) with
  | some j => if j.zone = z then some j else none
  | none => none

/-- How a job treats a feed in block `b`: the place in the step it is excited in, and whether its programme is off. -/
def injected (s : State) (f b : Nat) : Option (LJob × Nat × Nat) × Bool :=
  match s.zoneJob (s.feed f).zone with
  | none => (none, false)
  | some j =>
    let fs := nth [] j.steps j.step
    if j.going && b ≥ j.start && fs.contains f && !j.disabled.contains f then (some (j, fs.idxOf f, fs.length), true)
    else (none, j.mute)

/-- The slot that probes a feed. -/
def slotOf (s : State) (f : Nat) : Option (Nat × Slot) :=
  (s.loupe.slots.zipIdx.findSome? fun e => e.1.bind fun q => if q.feed = f then some (e.2, q) else none)

/-- Parity of the ones in a number below 64. -/
def parity6 (x : Nat) : Bool := (nsum ((List.range 6).map fun i => b2n (x.testBit i))) % 2 == 1

/-- Band `q` of a probe over a block: the filter's state and its output. -/
def bandBlock (coefs : Biq) : BiqSt → List Int → BiqSt × List Int
  | st, [] => (st, [])
  | st, x :: t =>
    let r := biqStep coefs st x
    let q := bandBlock coefs r.1 t
    (q.1, r.2.1 :: q.2)

def bandCoefs (rate96 : Bool) (q : Nat) : Biq :=
  let c := Config.bandPass rate96 q
  { b0 := c 0, b1 := c 1, b2 := c 2, a1 := c 3, a2 := c 4 }

/-- The probe margin of a feed's zone, in 0.1 dB. -/
def State.zoneMargin (s : State) (f : Nat) : Nat := (mget {} s.loupe.zones (s.feed f).zone).margin

/-- Ten to the power of `x` / 1000: what `x` hundredths of a dB are as a ratio of powers, in 2^-30. -/
def powerOf (x : Int) : Int := (F32.dbGain (2 * x)).toFix 64 30

/-- The decay of the masking estimate over a block, exp(-T / 20 ms), in 2^-30. -/
def maskDecay (fs : Nat) : Int := (F32.exp (F32.div (F32.ofInt (-800)) (F32.ofInt fs))).toFix 64 30

/-- How band `r` masks band `q`, in 2^-30: 12 dB a band upward, 24 dB a band downward. -/
def spread (r q : Nat) : Int := if r ≤ q then powerOf (-(1200 * ((q : Int) - r))) else powerOf (-(2400 * ((r : Int) - q)))

/-- Sum of squares. -/
def energy (x : List Int) : Int := isum (x.map fun v => v * v)

/-- The masking estimate of a block (R142), of powers in 2^-58: the smoothed band powers and the targets. -/
def maskStep (fs margin : Nat) (mask bands : List Int) (pw : Int) : List Int × List Int :=
  let a := maskDecay fs
  let sm := List.zipWith (fun s p => Config.maskWord 0 (a * s + (2 ^ 30 - a) * p)) mask bands
  let m := (List.range 32).map fun q => (sm.zipIdx.map fun e => Config.maskWord 1 (e.1 * spread e.2 q)).foldl max 0
  let down := powerOf (-(1000 + 10 * (margin : Int)))
  let aim := m.map fun y => let t := Config.maskWord 2 (y * down); if t < 72400197 then 0 else t
  let cap := Config.maskWord 3 (pw * down)
  (sm, if isum aim > cap then aim.map fun y => Config.maskWord 4 (y * cap * 2 ^ 30 / isum aim) else aim)

/-- The probe of slot `j` in block `b`, on programme `x` at the injection point (R141, R142): the slot after it, the probe, and
the probe's bands. A silent programme has no probe. DESIGN CHOICE, log 99. -/
def probeBlock (s : State) (j b : Nat) (q : Slot) (x : List Int) : Slot × List Int × List (List Int) :=
  let sgn : Int := if parity6 (j &&& (b % 64)) then -1 else 1
  let noise := s.loupe.chips.map fun c => sgn * c * 0x8000000
  let silent := x.all (· == 0)
  let run := fun (st : List BiqSt) (y : List Int) => (List.range 32).map fun i => bandBlock (bandCoefs s.render.rate96 i) (nth {} st i) y
  let prog := run q.pbp x
  let m := maskStep s.fs (s.zoneMargin q.feed) q.mask (prog.map fun e => energy e.2) (energy x)
  let aim := if silent then List.replicate 32 0 else m.2.map fun t => Config.maskWord 5 (isqrt (t.toNat * 2 ^ 56))
  let outs := run q.bp noise
  let comp := (List.range 32).map fun i =>
    block16 fun k => roundQ 27 (ramp (if silent then 0 else nth 0 q.lvl i) (nth 0 aim i) k * nth 0 (nth ({}, []) outs i).2 k)
  ({ q with lvl := aim, bp := outs.map (·.1), mask := m.1, pbp := prog.map (·.1) },
    block16 fun k => sat 32 (isum (comp.map fun c => nth 0 c k)), comp)

/-- The block that leaves the injection point of a feed. DEDUCED, log 106. -/
def inject (s : State) (f b : Nat) (x : List Int) : List Int :=
  let j := injected s f b
  let was := s.loupe.gated.contains f
  let base := match j.1 with
    | some (q, i, g) => block16 fun k => q.stim s.fs i g (16 * (b - q.start) + k)
    | none =>
      if j.2 then (if was then List.replicate 16 0 else gainBlock 0x8000000 0 x)
      else if was then gainBlock 0 0x8000000 x else x
  match slotOf s f with
  | some (n, q) =>
    if (s.zoneJob (s.feed f).zone).isSome then base
    else let p := (probeBlock s n b q x).2.1; block16 fun k => sat 32 (nth 0 base k + nth 0 p k)
  | none => base

/-- The reference of a block joins a slot's: the probe and its bands after the output trim, which ramps from `p` to `t` (R140).
Samples of blocks that were not made are zeros. -/
def Slot.refer (q : Slot) (b : Nat) (p t : Int) (probe : List Int) (comp : List (List Int)) : Slot :=
  let trim := fun (k : Nat) (v : Int) => roundQ 27 (ramp p t k * v)
  let new := (List.range 16).map fun k => trim k (nth 0 probe k) :: comp.map fun c => trim k (nth 0 c k)
  let gap := List.replicate (min 4096 (16 * b - q.next)) []
  let far := q.corr.foldl (fun a c => max a (c.first.toNat)) 0
  { q with hist := (new.reverse ++ gap ++ q.hist).take (far + 1024 + 352), next := 16 * b + 16 }

/-- What Loupe keeps of a feed after its block; the output trim went from `p` to `t`. -/
def State.injectDone (s : State) (f b : Nat) (x : List Int) (p t : Int) : State :=
  let g := s.loupe.gated.filter (· ≠ f)
  let s1 := { s with loupe := { s.loupe with gated := if (injected s f b).2 then g ++ [f] else g } }
  match slotOf s f with
  | some (n, q) =>
    let r := probeBlock s n b q x
    { s1 with loupe := { s1.loupe with slots := s1.loupe.slots.set n (some (r.1.refer b p t r.2.1 r.2.2)) } }
  | none => s1

/-- The noise of the next block (R141). -/
def State.noiseBlock (s : State) : State :=
  if !(s.loupe.zones.any fun e => e.2.audit) then s
  else
    let step := lfsrStep 32 [32, 22, 2, 1]
    let regs := (List.range 16).foldl (fun (l : List Nat) _ => l ++ [step (l.getLastD 0)]) [s.loupe.noise]
    let chips := (regs.take 16).map fun r => if r.testBit 31 then (1 : Int) else -1
    { s with loupe := { s.loupe with noise := regs.getLastD 0, chips := chips } }

/-! ### Registers (R161) -/

def loupeStatus (s : State) : Word :=
  wordN ((s.loupe.slots.filter (·.isSome)).length * 2 ^ 16 + b2n s.loupe.job.isSome * 4 +
    b2n (s.loupe.zones.any fun e => e.2.audit) * 2 + b2n (s.loupe.ins.any fun q => q.st ≠ 0))

def linStatus (s : State) (n : Nat) : Word :=
  let q := s.lin n
  wordN ((BitVec.ofInt 64 q.m).toNat / 2 ^ 48 * 2 ^ 16 + b2n q.satLast * 4 + q.st)

end Sys2Proof.Machine
end

