-- ==== Sys2Proof/Machine/Correlate.lean ====
section
/-! DEFINITION. Loupe's correlators (R143 to R145): which feeds are audited and at which microphones, the windows, the sums that an
integration holds, and what they say of the path. -/

namespace Sys2Proof.Machine

def State.lz (s : State) (z : Nat) : LZone := mget {} s.loupe.zones z
def State.modLz (s : State) (z : Nat) (f : LZone → LZone) : State :=
  { s with loupe := { s.loupe with zones := mmod {} s.loupe.zones z f } }
def State.lf (s : State) (f : Nat) : LFeed := mget {} s.loupe.feeds f
def State.modLf (s : State) (f : Nat) (g : LFeed → LFeed) : State :=
  { s with loupe := { s.loupe with feeds := mmod {} s.loupe.feeds f g } }

/-- Whether this unit's policy decides (R159, R373). -/
def State.decides (s : State) : Bool := s.serving && !s.standby

/-- A feed is audited (R143). -/
def audited (s : State) (f : Nat) : Bool :=
  let q := s.feed f
  let z := s.lz q.zone
  q.zone ≠ 0xFF && z.audit && q.enable && (!q.aux || z.aux) && !q.withdrawn && (s.chain f).outTrim ≠ -32768 &&
    (s.zoneJob q.zone).isNone && (List.range 16).any fun n => z.mics.testBit n && micRuns s n

/-- Squared distance from a feed to a microphone's position in its zone. -/
def micDist (s : State) (f n : Nat) : Int :=
  let p := (s.feed f).pos
  let m := mget {} s.loupe.mic (16 * n + (s.feed f).zone)
  (p.x - m.x) ^ 2 + (p.y - m.y) ^ 2 + (p.z - m.z) ^ 2

/-- The nearest `n` of a list of microphones, ties to the lower index. -/
def nearest (s : State) (f : Nat) : Nat → List Nat → List Nat
  | 0, _ => []
  | n + 1, l =>
    match l.find? fun m => l.all fun x => micDist s f m < micDist s f x || (micDist s f m == micDist s f x && m ≤ x) with
    | none => []
    | some m => m :: nearest s f n (l.filter (· ≠ m))

/-- The microphones a feed is correlated with. DEDUCED, log 103. -/
def micsOf (s : State) (f : Nat) : List Nat :=
  nearest s f 4 ((List.range 16).filter fun n => (s.lz (s.feed f).zone).mics.testBit n && micRuns s n)

/-- A feed's reference at a microphone. -/
def LFeed.refAt (q : LFeed) (m : Nat) : Option MicRef := q.refs.find? fun r => r.mic == m

/-! ### Windows (R144) -/

/-- The lag at which feed `f` is expected at microphone `m`, in samples: its reference arrival, or the distance at the zone's
speed of sound, with the chain's delay. -/
def lagExpected (s : State) (f m : Nat) : Int :=
  let chain : Int := chainDelay (s.reg (aLin m))
  match (s.lf f).refAt m with
  | some r => divEven (4 * r.tau + chain) 64
  | none => divEven (((isqrt (micDist s f m).toNat * s.fs * 64 : Nat) : Int) / (max 1 (s.zone (s.feed f).zone).c) + chain) 64

/-- The first lag of the window: 256 samples before the lag expected, or so that a peak met near an end stands in the middle.
DEDUCED, log 198. -/
def lagFirst (s : State) (f m : Nat) : Int :=
  match mfind (s.lf f).centre m with
  | some c => c - 512
  | none => lagExpected s f m - 256

/-- The correlators of a slot that begins. -/
def newCorrs (s : State) (f : Nat) : List Corr := (micsOf s f).map fun m => { mic := m, first := lagFirst s f m }

/-! ### Sums (R144) -/

/-- Part `i` of the reference's sample number `x`: the sum is part 0, band `q` part `q` + 1. -/
def Slot.refAt (q : Slot) (i : Nat) (x : Int) : Int :=
  if x < q.next then nth 0 (nth [] q.hist (q.next - 1 - x).toNat) i else 0

/-- The place of the largest square. -/
def peakOf (c : List Int) : Nat :=
  (c.zipIdx.foldl (fun (b : Nat × Int) e => if e.1 * e.1 > b.2 then (e.2, e.1 * e.1) else b) (0, 0)).1

/-- Sixteen samples of a microphone, from sample `i` on, join its correlator. The terms beside the correlation are taken at the
peak as it stands. DEDUCED, log 198. -/
def Corr.add (k : Corr) (q : Slot) (i : Int) (x : List Int) : Corr :=
  let dot := fun (part : Nat) (lag : Int) => isum (x.zipIdx.map fun e => e.1 * q.refAt part (i + e.2 - lag))
  let sq := fun (part : Nat) (lag : Int) => isum (x.zipIdx.map fun e => q.refAt part (i + e.2 - lag) ^ 2)
  let c := k.c.zipIdx.map fun e => e.1 + dot 0 (k.first + e.2)
  let lag := k.first + peakOf c
  let band := fun (e : (Int × Int × Nat) × Nat) =>
    let p := sq (e.2 + 1) lag
    (e.1.1 + dot (e.2 + 1) lag, e.1.2.1 + p, e.1.2.2 + b2n (p ≠ 0))
  { k with c := c, p2 := k.p2 + sq 0 lag, m2 := k.m2 + energy x, n := k.n + 16, bands := k.bands.zipIdx.map band }

/-- A block joins the correlators of every slot whose microphones run: the block that closed 18 cycles ago, for which the
reference of every lag is at hand. -/
def State.correlate (s : State) : State :=
  let i := 16 * ((s.render.n : Int) - 18)
  let one := fun (q : Slot) =>
    { q with corr := q.corr.map fun k =>
        if micRuns s k.mic && (s.lin k.mic).hist.length == 304 then k.add q i ((s.lin k.mic).hist.take 16) else k }
  if s.decides then { s with loupe := { s.loupe with slots := s.loupe.slots.map (Option.map one) } } else s

/-! ### What an integration says (R145) -/

/-- 10 log10 of `a` / `b` in 0.01 dB; a ratio of zero lies below every other, a ratio to zero above. DEDUCED, log 198. -/
def decibels (a b : Nat) : Int :=
  if a = 0 then -32768
  else if b = 0 then 32767
  else
    let e : Int := (a.log2 : Int) - b.log2
    let m := F32.ln (F32.div (F32.ofRat a (2 ^ a.log2)) (F32.ofRat b (2 ^ b.log2)))
    (F32.div (F32.mul (F32.ofInt 1000) (F32.add m (F32.mul (F32.ofInt e) (F32.ln (F32.ofInt 2))))) (F32.ln (F32.ofInt 10))).toFix 32 0

/-- 20 log10 of the size of `a` / `b`. -/
def decibels2 (a b : Int) : Int := decibels (a * a).toNat (b * b).toNat

/-- The peak's offset from place `i` by a parabola through the sizes beside it, as a fraction of the samples. -/
def parabola (c : List Int) (i : Nat) : Int × Nat :=
  let y := fun (k : Nat) => ((nth 0 c k).natAbs : Int)
  let a := if i = 0 then 0 else y (i - 1)
  let b := y (i + 1)
  let d := 2 * (2 * y i - a - b)
  if d ≤ 0 then (0, 1) else (b - a, d.toNat)

/-- What a correlator says, `delay` being the chain's in 1/64 sample. -/
def Corr.result (k : Corr) (delay : Nat) : MicResult :=
  let i := peakOf k.c
  let c := nth 0 k.c i
  let out := (k.c.zipIdx.filter fun e => e.2 + 16 < i || i + 16 < e.2).map fun e => e.1 * e.1
  let off := parabola k.c i
  let blocks := k.n / 16
  { mic := BitVec.toFin (BitVec.ofNat 4 k.mic)
    snr := decibels (c * c * out.length).toNat (isum out).toNat
    ratio := decibels (k.p2 * k.n).toNat k.m2.toNat
    gain := decibels2 c k.p2
    bands := k.bands.map fun b => (decibels2 b.1 b.2.1, decide (2 * b.2.2 ≥ blocks))
    arrival := divEven (off.1 * 16 * 4 + (64 * (k.first + i) - delay) * off.2) (4 * off.2)
    peakLag := k.first + i
    edge := decide (i < 8) || decide (1016 ≤ i) }

/-- What the integration of a slot gives at each microphone. -/
def slotResults (s : State) (q : Slot) : List MicResult := q.corr.map fun k => k.result (chainDelay (s.reg (aLin k.mic)))

/-! ### An offline response (R137) -/

/-- Circular cross-correlation of what was captured after the pre-roll with the sequence of the `i`-th feed of `g`, at lag `t`. -/
def LJob.circular (j : LJob) (cap : List Int) (i g t : Nat) : Int :=
  let p := j.period
  isum ((List.range ((j.reps - 1) * p)).map fun n => nth 0 cap (p + n) * j.stim 1 i g (p + (n + p - t % p) % p))

/-- Sample `t` of a response of feed `i` of `g` at an input whose chain has `delay`. DESIGN CHOICE, log 100. -/
def LJob.response (j : LJob) (delay i g : Nat) (cap : List Int) (t : Nat) : Int :=
  sat 32 (Config.deconv j.mls (if j.mls then j.circular cap i g else nth 0 cap) delay t)

/-- A response's record: peak level, its position in 1/16 sample, saturated capture samples, and the energy ratio, whose noise
floor the spec does not define. -/
def respRecord (h : List Int) (clipped : Nat) (ratio : Int) : RespFacts :=
  let i := peakOf h
  let off := parabola h i
  { peak := decibels2 (nth 0 h i) 0x8000000, pos := divEven (off.1 * 16 + 16 * (i : Int) * off.2) off.2, clipped := clipped, ratio := ratio }

end Sys2Proof.Machine
end

