-- ==== Sys2Proof/Machine/Loupe.lean ====
section
/-! DEFINITION. Loupe's policy (R138, R143 to R160, R239 to R241): the audit's slots and verdicts, actions, compensation, drift,
offline jobs and the Loupe commands. -/

namespace Sys2Proof.Machine

/-! ### Flags, events and entries -/

/-- The flags word of Table LOUPE-7. -/
def LFeed.flags (q : LFeed) : Nat :=
  b2n q.quiet + 2 * b2n q.edge + 4 * b2n q.weak + 8 * b2n q.refs.isEmpty + 16 * b2n q.vetoed + 32 * b2n q.compLimit +
    64 * b2n q.micSuspect

/-- LOUPE_VERDICT, and the entry that carries the decision, where a verdict or state has changed (R154, R159). -/
def State.noteVerdict (s : State) (f : Nat) (old : LFeed) : State :=
  let q := s.lf f
  if q.verdict = old.verdict ∧ q.st = old.st then s
  else
    (s.event 0x8600 (beBytes 2 f ++ [BitVec.ofNat 8 q.verdict, BitVec.ofNat 8 q.st] ++ beBytes 2 q.flags ++ zeros 2)).enter
      (.loupe (.verdict f q.verdict q.st q.flags q.confirmAt))

/-! ### Actions (R155 to R157) -/

def State.modAct (s : State) (id : Nat) (g : LAction → LAction) : State :=
  { s with loupe := { s.loupe with acts := s.loupe.acts.map fun e => if e.1 = id then (e.1, g e.2) else e } }
def State.delAct (s : State) (id : Nat) : State := { s with loupe := { s.loupe with acts := mdel s.loupe.acts id } }

/-- An action is entered in the delta; a withdrawal beyond the zone's limit sends its feed to LOST instead. -/
def State.takeAct (s : State) (id : Nat) : State :=
  match mfind s.loupe.acts id with
  | none => s
  | some a =>
    let z := (s.feed a.feed).zone
    let recent := ((s.lz z).withdrawn.filter fun t => s.nowNs < t + 64000000000)
    if a.kind = 2 ∧ recent.length ≥ (s.lz z).wdLimit then
      let s1 := (s.delAct id).modLf a.feed fun q => { q with st := 4, confirmAt := none }
      ((s1.noteVerdict a.feed (s.lf a.feed)).enter (.loupe (.cancel id false))).event 0x8605 ([BitVec.ofNat 8 z, 1] ++ zeros 2 ++ beBytes 2 a.feed ++ zeros 2)
    else
      let s1 := if a.kind = 2 then s.modLz z fun q => { q with withdrawn := recent ++ [s.nowNs] } else s
      (s1.modAct id fun q => { q with entered := true }).enter (.loupe (.action id))

/-- Create an action and announce it; with a confirm time of 0 it is taken at once. -/
def State.createAct (s : State) (f kind : Nat) (target : Int) : State :=
  let id := s.loupe.nextAct
  let due := s.nowNs + (s.lz (s.feed f).zone).confirm * 100000000
  let s1 := { s with loupe := { s.loupe with
    acts := mset s.loupe.acts id { feed := f, kind := kind, target := target, due := due }, nextAct := (id + 1) % 2 ^ 16 } }
  let s2 := (s1.enter (.loupe (.create id f kind target due))).event 0x8602
    (beBytes 2 id ++ beBytes 2 f ++ [BitVec.ofNat 8 kind, 0] ++ beInt 2 target ++ timeBytes due)
  if due = s.nowNs then s2.takeAct id else s2

/-- Cancel a pending action; the event gives the cause: 0 veto, 1 non-LOST result, 2 policy change. -/
def State.cancelAct (s : State) (id cause : Nat) : State :=
  match mfind s.loupe.acts id with
  | none => s
  | some a =>
    ((s.delAct id).enter (.loupe (.cancel id (cause == 0)))).event 0x8604
      (beBytes 2 id ++ beBytes 2 a.feed ++ [BitVec.ofNat 8 cause] ++ zeros 3)

/-- Pending actions of a feed of the kinds that `p` selects. -/
def pendingActs (s : State) (f : Nat) (p : Nat → Bool) : List Nat :=
  (s.loupe.acts.filter fun e => e.2.feed == f && p e.2.kind && !e.2.entered).map (·.1)

/-- Compensation actions replace those pending (R151, R154). -/
def State.compensate (s : State) (f : Nat) (gain delay : Int) : State :=
  if (s.lz (s.feed f).zone).policy = 0 then s
  else
    let drop := fun (s : State) (id : Nat) => (s.delAct id).enter (.loupe (.cancel id false))
    let s1 := (pendingActs s f (· < 2)).foldl drop s
    (s1.createAct f 0 gain).createAct f 1 delay

/-- An action takes effect at the boundary in hand; a standby dates a withdrawal by it (R157). -/
def State.doAct (s : State) (id : Nat) : State :=
  match mfind s.loupe.acts id with
  | none => s
  | some a =>
    let old := s.lf a.feed
    let s1 := s.delAct id
    let s2 := match a.kind with
      | 0 => s1.modLf a.feed fun q => { q with gainTgt := a.target }
      | 1 => s1.modLf a.feed fun q => { q with delTgt := a.target }
      | _ =>
        let s' := if s.standby then s1.modLz (s.feed a.feed).zone fun q => { q with withdrawn := q.withdrawn ++ [s.nowNs] } else s1
        (s'.withdraw a.feed).modLf a.feed fun q => { q with st := 5, confirmAt := none }
    let s3 := if s2.standby then s2 else s2.noteVerdict a.feed old
    s3.event 0x8603 (beBytes 2 id ++ beBytes 2 a.feed ++ beBytes 8 s.render.n)

/-! ### Verdicts (R145 to R148, R154) -/

/-- The path's deviations from a reference at a microphone: level, bands, delay (R145, R146). -/
structure Devs where
  lev : Int
  bands : List (Int × Bool)
  del : Int
  deriving DecidableEq, Repr

/-- DEDUCED, log 102. -/
def devsAt (eps : Int) (r : MicRef) (m : MicResult) : Devs :=
  let lev := m.gain - r.g
  { lev := lev, bands := m.bands.zipIdx.map fun e => (e.1.1 - nth 0 r.h e.2 - lev, e.1.2),
    del := m.arrival - r.tau - divEven (eps * r.tau) 1000000000 }

/-- Every deviation is within `k` quarters of its tolerance. -/
def within' (z : LZone) (k : Nat) (d : Devs) : Bool :=
  decide (4 * d.lev.natAbs ≤ k * z.levTol) &&
    decide ((d.bands.filter fun b => b.2 && decide (4 * b.1.natAbs > k * z.bandTol)).length < z.bandCnt) &&
    decide (4 * d.del.natAbs ≤ k * z.delTol * 16)

/-- What an integration says. -/
inductive Judged where
  | nothing
  /-- LOST by every condition but a microphone's own health. -/
  | suspect (mics : List Nat)
  | verdict (v : Nat) (best : MicResult)
  deriving DecidableEq, Repr

/-- The result with the highest snr_meas. -/
def bestOf : List MicResult → Option MicResult
  | [] => none
  | m :: t => match bestOf t with | some b => if b.snr > m.snr then some b else some m | none => some m

/-- Whether another feed has shown microphone `m` healthy since `t` (R147). -/
def healthy (s : State) (f m t : Nat) : Bool :=
  s.loupe.heard.any fun e => e.1 / 1024 == m && e.1 % 1024 ≠ f && decide (e.2 ≥ t)

/-- snr_exp at a microphone. -/
def snrExp (q : LFeed) (m : MicResult) : Option Int := (q.refAt m.mic.val).map fun r => r.g + m.ratio

/-- The rows of Table LOUPE-8 that are tested from 1 s. -/
def judge (s : State) (f since : Nat) (ms : List MicResult) : Judged :=
  let q := s.lf f
  let z := s.lz (s.feed f).zone
  let strong := ms.filter fun m => decide (m.snr ≥ 2000) && !m.edge
  let devs := strong.filterMap fun m => (q.refAt m.mic.val).map fun r => (m, devsAt z.eps r m)
  let fallen := (devs.filter fun e => decide (e.1.gain - ((q.refAt e.1.mic.val).map (·.g)).getD 0 ≤ -2000)).map (·.1)
  let expected := ms.filter fun m => match snrExp q m with | some e => decide (e ≥ 2000) | none => false
  let ok := fun (l : List MicResult) => l.filter fun m => healthy s f m.mic.val since
  let silent := fun (l : List MicResult) => !l.isEmpty && l.all fun m => decide (m.snr < 600)
  match bestOf (ok fallen) with
  | some b => .verdict 3 b
  | none =>
    let deaf := if silent (ok expected) then bestOf (ok expected) else none
    if let some b := deaf then .verdict 3 b
    else if !fallen.isEmpty then .suspect (fallen.map (·.mic.val))
    else if silent expected && (ok expected).isEmpty then .suspect (expected.map (·.mic.val))
    else match bestOf strong with
      | none => .nothing
      | some b =>
        if devs.isEmpty then .verdict 0 b
        else
          let k := if q.verdict = 2 then 3 else 4
          .verdict (if devs.all fun e => within' z k e.2 then 1 else 2) b

/-- Store a reference from the microphones that have a conclusive result. -/
def State.learn (s : State) (f : Nat) (refs : List MicRef) : State :=
  let s1 := s.modLf f fun q => { q with refs := refs, learn := false }
  (s1.event 0x8601 (beBytes 2 f ++ zeros 2)).enter (.loupe (.learned f refs))

/-- A feed takes a verdict: the transitions of Table LOUPE-9. -/
def State.takeVerdict (s : State) (f v : Nat) (lev del : Int) : State :=
  let old := s.lf f
  let layout := !(s.feed f).aux
  let z := s.lz (s.feed f).zone
  if v = 3 then
    let enters := old.st = 1 || old.st = 2 || old.st = 4
    let s1 := s.modLf f fun q => { q with
      verdict := 3, st := if enters then 3 else q.st
      confirmAt := if enters then some (s.nowNs + z.confirm * 100000000) else q.confirmAt }
    let s2 := s1.noteVerdict f old
    if enters && z.policy == 2 && layout && !old.vetoed then s2.createAct f 2 0 else s2
  else
    let s1 := (pendingActs s f (· == 2)).foldl (fun s id => s.cancelAct id 1) s
    let s2 := s1.modLf f fun q => { q with verdict := v, st := v, vetoed := false, confirmAt := none }
    let s3 := s2.noteVerdict f old
    if v = 2 then s3.compensate f (-lev) (-(divEven del 16))
    else if old.st = 2 then s3.compensate f 0 0 else s3

/-! ### Drift (R152) -/

/-- τ_ref of a feed, at its best microphone where it has a reference there. -/
def tauRef (q : LFeed) : Option Int :=
  match q.best.bind q.refAt with
  | some r => some r.tau
  | none => q.refs.head?.map (·.tau)

/-- The drift reference of a zone: the feed named, or the audited feed with the smallest τ_ref. -/
def driftRefTau (s : State) (z : Nat) : Option Int :=
  let d := (s.lz z).driftRef
  if d ≠ 0xFFFF then tauRef (s.lf d)
  else ((keys s.loupe.feeds).filter fun f => (s.feed f).zone == z && audited s f).foldl (fun (b : Option Int) f =>
    match b, tauRef (s.lf f) with
    | none, t => t
    | some x, some t => some (min x t)
    | some x, none => some x) none

/-- New drift targets of a zone's feeds. -/
def State.aimDrift (s : State) (z : Nat) : State :=
  let q := s.lz z
  if !q.drift || q.policy = 0 then s
  else match driftRefTau s z with
    | none => s
    | some r =>
      let aim := fun (t : Int) => -(divEven (q.eps * (t - r)) 16000000000)
      let one := fun (e : Nat × LFeed) =>
        if (s.feed e.1).zone = z then (e.1, { e.2 with driftTgt := ((tauRef e.2).map aim).getD e.2.driftTgt }) else e
      { s with loupe := { s.loupe with feeds := s.loupe.feeds.map one } }

/-- A Δ / τ_ref joins the zone's; at eight the estimate is their median. DEDUCED, log 101. -/
def State.driftRatio (s : State) (z : Nat) (delta tau : Int) : State :=
  if tau ≤ 0 then s
  else
    let l := (s.lz z).ratios ++ [divEven (delta * 1000000000) tau.toNat]
    if l.length < 8 then s.modLz z fun q => { q with ratios := l }
    else
      let e := median l
      ((s.modLz z fun q => { q with ratios := [], eps := e }).aimDrift z).enter (.loupe (.drift z e))

/-! ### Results of a slot -/

def State.modSlot (s : State) (j : Nat) (f : Slot → Slot) : State :=
  { s with loupe := { s.loupe with slots := s.loupe.slots.modify j fun q => q.map f } }

/-- Slots held for confirmation. -/
def confirmSlots (s : State) : Nat :=
  (s.loupe.slots.filter fun q => match q with | some x => (s.lf x.feed).st == 3 | none => false).length

/-- A slot's integration starts again, with windows of its own. -/
def State.restartSlot (s : State) (j : Nat) : State :=
  s.modSlot j fun q => { q with start := s.nowNs, corr := newCorrs s q.feed }

/-- A slot's integration ends: a feed in LOST_CONFIRM keeps it, where no more than 16 are held so (R149, R150). -/
def State.endSlot (s : State) (j f : Nat) : State :=
  let keep := (s.lf f).st == 3 && decide (confirmSlots s ≤ 16)
  (s.restartSlot j).enter (.loupe (.release j keep))

/-- What the audit record takes of a conclusive result. -/
def State.recordResult (s : State) (f : Nat) (b : MicResult) (weak : Bool) : State :=
  let q := s.lf f
  let d := (q.refAt b.mic.val).map fun r => devsAt (s.lz (s.feed f).zone).eps r b
  s.modLf f fun q => { q with
    lev := (d.map (·.lev)).getD q.lev, arrival := b.arrival, delDev := (d.map (·.del)).getD q.delDev, snr := b.snr,
    bands := (d.map fun x => x.bands.map (·.1)).getD q.bands, best := some b.mic.val, weak := weak, quiet := false,
    edge := false, micSuspect := false, lastAt := some s.nowNs }

/-- Microphones of the weak row of Table LOUPE-8. -/
def weakRow (q : LFeed) (ms : List MicResult) : List MicResult :=
  ms.filter fun m => (match snrExp q m with | some e => decide (e ≥ 2000) | none => false) &&
    decide (m.snr ≥ 600) && decide (m.snr < 2000) && !m.edge

/-- A conclusive result (R146 to R148, R152, R154). A learn command takes its reference from it whatever the verdict.
DEDUCED, log 102. -/
def State.conclude (s : State) (j f v : Nat) (b : MicResult) (ms : List MicResult) (weak : Bool) : State :=
  let q := s.lf f
  let z := (s.feed f).zone
  let strong := ms.filter fun m => decide (m.snr ≥ 2000) && !m.edge
  let shown := if weak then strong ++ weakRow q ms else strong
  let s1 := s.recordResult f b weak
  let learns := q.learn || (q.refs.isEmpty && (s.lz z).autoLearn)
  let refs := (if strong.isEmpty then [b] else strong).map fun m =>
    ({ mic := m.mic.val, g := m.gain, tau := m.arrival, h := m.bands.map (·.1) } : MicRef)
  let s2 := if v ≠ 3 then
      { s1 with loupe := { s1.loupe with heard := shown.foldl (fun h m => mset h (1024 * m.mic.val + f) s.nowNs) s1.loupe.heard } }
    else s1
  let s3 := if learns then
      let t := s2.learn f refs
      if v = 3 then t.takeVerdict f 3 0 0 else t.takeVerdict f 1 0 0
    else if v = 0 then s2
    else
      let r := s2.lf f
      let s' := match q.refAt b.mic.val with
        | some x => if v = 3 then s2 else s2.driftRatio z (b.arrival - x.tau) x.tau
        | none => s2
      s'.takeVerdict f v r.lev r.delDev
  s3.endSlot j f

/-- Results at the microphones that the feed is correlated with, and the new centres where a peak lies near an end (R144). -/
def State.noteEdges (s : State) (f : Nat) (ms : List MicResult) : State :=
  let edges := ms.filter (·.edge)
  if edges.isEmpty then s
  else s.modLf f fun q => { q with edge := true, centre := edges.foldl (fun c m => mset c m.mic.val m.peakLag) q.centre }

/-- CONCLUSIVE_RESULT of a slot that probes feed `f`: tested from 1 s of integration. -/
def execConclusiveResult (j : Fin 64) (f : Fin 1024) (s : State) : Host.Outcome State Fault Refusal :=
  match nth none s.loupe.slots j.val with
  | none => .next s
  | some q =>
    if q.feed ≠ f.val || !s.decides || !audited s q.feed || s.nowNs < q.start + 1000000000 then .next s
    else
      let ms := slotResults s q
      match judge s q.feed q.since ms with
      | .verdict v b => .next ((s.noteEdges q.feed ms).conclude j.val q.feed v b ms false)
      | _ => .next s

/-- MAXIMUM_DWELL of a slot that probes feed `g`: the weak row takes precedence over OK. -/
def execMaximumDwell (j : Fin 64) (g : Fin 1024) (s : State) : Host.Outcome State Fault Refusal :=
  match nth none s.loupe.slots j.val with
  | none => .next s
  | some q =>
    if q.feed ≠ g.val || !s.decides || !audited s q.feed || s.nowNs < q.start + (s.lz (s.feed q.feed).zone).dwell * 100000000 then .next s
    else
      let f := q.feed
      let ms := slotResults s q
      let s1 := s.noteEdges f ms
      let weak := bestOf (weakRow (s.lf f) ms)
      match judge s f q.since ms with
      | .verdict v b => .next (if v = 1 && weak.isSome then s1.conclude j.val f 2 b ms true else s1.conclude j.val f v b ms false)
      | .suspect l =>
        let s2 := (s1.modLf f fun q => { q with micSuspect := true }).event 0x8606 (beBytes 2 f ++ beBytes 2 (nsum (l.map fun m => 2 ^ m)))
        .next (s2.endSlot j.val f)
      | .nothing =>
        match weak with
        | some b => .next (s1.conclude j.val f 2 b ms true)
        | none => .next ((s1.modLf f fun q => { q with quiet := true }).endSlot j.val f)

/-- ACTION_DUE_TIME: an action's confirm time ends, or a feed's confirm timer where no withdrawal is pending. -/
def execActionDueTime (f : Fin 1024) (id : Option Nat) (s : State) : Host.Outcome State Fault Refusal :=
  if !s.decides then .next s
  else match id with
    | some a =>
      match mfind s.loupe.acts a with
      | some q => .next (if !q.entered && q.due ≤ s.nowNs then s.takeAct a else s)
      | none => .next s
    | none =>
      let q := s.lf f.val
      let due := match q.confirmAt with | some t => decide (t ≤ s.nowNs) | none => false
      let held := s.loupe.acts.any fun e => e.2.feed == f.val && e.2.kind == 2
      if q.st == 3 && due && !held then
        .next (((s.modLf f.val fun q => { q with st := 4, confirmAt := none }).noteVerdict f.val q).enter (.timer (.confirm f.val)))
      else .next s

/-! ### Compensation totals (R151, R152) -/

/-- A total's target within the zone's limit, and whether the limit acts. -/
def limited (lim : Nat) (x : Int) : Int × Bool := (clampI (-lim) lim x, decide (x.natAbs > lim))

def gainAim (s : State) (f : Nat) : Int × Bool := limited (s.lz (s.feed f).zone).gainLim (s.lf f).gainTgt
def delayAim (s : State) (f : Nat) : Int × Bool := limited (s.lz (s.feed f).zone).delLim ((s.lf f).delTgt + (s.lf f).driftTgt)

/-- One step toward a target. -/
def toward (x t : Int) : Int := if x < t then x + 1 else if x > t then x - 1 else x

/-- COMP_STEP: every gain total moves by 0.01 dB, but where a job holds its zone. -/
def execCompStep (s : State) : Host.Outcome State Fault Refusal :=
  let step := fun (e : Nat × LFeed) =>
    let a := gainAim s e.1
    if (s.zoneJob (s.feed e.1).zone).isSome then e
    else (e.1, { e.2 with gain := toward e.2.gain a.1, compLimit := a.2 || (delayAim s e.1).2 })
  .next { s with loupe := { s.loupe with feeds := s.loupe.feeds.map step } }

/-- DRIFT_STEP: a feed's delay total moves by one sample, at most every 10 s. -/
def execDriftStep (f : Fin 1024) (s : State) : Host.Outcome State Fault Refusal :=
  let q := s.lf f.val
  let z := (s.feed f.val).zone
  let a := (delayAim s f.val).1
  let soon := match q.stepAt with | some t => decide (s.nowNs < t + 10000000000) | none => false
  if q.delay == a || soon || (s.zoneJob z).isSome then .next s
  else
    let drifts := q.driftCur ≠ q.driftTgt
    let s1 := s.modLf f.val fun q => { q with
      delay := toward q.delay a, driftCur := toward q.driftCur q.driftTgt, stepAt := some s.nowNs }
    let zq := s.lz z
    let quiet := match zq.driftEv with | some t => decide (s.nowNs < t + 10000000000) | none => false
    if drifts && !quiet then
      .next ((s1.modLz z fun q => { q with driftEv := some s.nowNs }).event 0x8607
        ([BitVec.ofNat 8 z] ++ zeros 3 ++ beInt 4 (divEven zq.eps 1000)))
    else .next s1

/-- The totals come into force at a boundary (R101, R105). -/
def State.compBoundary (s : State) : State :=
  (keys s.loupe.feeds).foldl (fun s f =>
    let q := s.lf f
    let c := s.comp f
    if c.gain = q.gain ∧ c.delay = q.delay then s
    else ({ s with loupe := { s.loupe with comp := mset s.loupe.comp f { gain := q.gain, delay := q.delay } } }).align f) s

/-! ### Slots at a boundary (R149, R150) -/

def State.setSlot (s : State) (j : Nat) (q : Option Slot) : State :=
  { s with loupe := { s.loupe with slots := s.loupe.slots.set j q } }

/-- The first free slot. -/
def freeSlot (s : State) : Option Nat := (List.range 64).find? fun j => (nth none s.loupe.slots j).isNone

/-- The slot whose feed began most recently, outside confirmation. -/
def youngest (s : State) : Option Nat :=
  let l := s.loupe.slots.zipIdx.filterMap fun e => e.1.bind fun q => if (s.lf q.feed).st = 3 then none else some (q.since, e.2)
  (l.find? fun e => l.all fun x => x.1 ≤ e.1).map (·.2)

def newSlot (s : State) (f : Nat) : Option Slot :=
  some { feed := f, since := s.nowNs, start := s.nowNs, next := 16 * (s.render.n + 2), corr := newCorrs s f }

/-- A feed in LOST_CONFIRM takes a slot. DEDUCED, log 104. -/
def State.confirmSlot (s : State) (f : Nat) : State :=
  if confirmSlots s ≥ 16 then s
  else match (freeSlot s).or (youngest s) with
    | some j => s.setSlot j (newSlot s f)
    | none => s

/-- Fill free slots with the next audited feeds in order. -/
def State.fillSlots (s : State) : List Nat → State
  | [] => s
  | f :: t =>
    match freeSlot s with
    | none => s
    | some j =>
      if audited s f && (slotOf s f).isNone && (s.lf f).st ≠ 3 then
        let s1 := s.setSlot j (newSlot s f)
        ({ s1 with loupe := { s1.loupe with lastFeed := f } }).fillSlots t
      else s.fillSlots t

/-- The audit's schedule at a boundary, a disabled feed's mark in a going step, the correlators, and the noise of the next block. -/
def State.loupeBoundary (s : State) : State :=
  let drop := fun (q : Option Slot) => match q with | some x => if audited s x.feed then some x else none | none => none
  let s1 := { s with loupe := { s.loupe with slots := s.loupe.slots.map drop } }
  let some' := s1.loupe.zones.any fun e => e.2.audit
  let s2 := if !some' then s1 else
    let lost := (keys s1.loupe.feeds).filter fun f => (s1.lf f).st == 3 && audited s1 f && (slotOf s1 f).isNone
    let s' := lost.foldl (fun s f => s.confirmSlot f) s1
    s'.fillSlots ((List.range 1024).map fun i => (s'.loupe.lastFeed + 1 + i) % 1024)
  let s3 := match s2.loupe.job with
    | none => s2
    | some j => s2.modJob j fun q =>
      if !q.going then q else
      let gone := (nth [] q.steps q.step).filter fun f => !(s2.feed f).enable && !q.disabled.contains f
      { q with disabled := q.disabled ++ gone }
  s3.correlate.compBoundary.noiseBlock

/-! ### Offline jobs (R133 to R138) -/

/-- A job ends: the event gives the index of its last completed step; with none completed the spec gives no index.
DESIGN CHOICE, log 108. -/
def State.endJob (s : State) (j result : Nat) : State :=
  match mfind s.loupe.jobs j with
  | none => s
  | some q =>
    let s1 := s.modJob j fun q => { q with result := result, going := false }
    let s2 := { s1 with loupe := { s1.loupe with job := none } }
    let (k, s3) := s2.fresh
    let last := if q.step = 0 then (Config.freeWord k 0).toNat % 2 ^ 16 else q.step - 1
    s3.event 0x8609 (beBytes 2 j ++ [BitVec.ofNat 8 (result - 1), 0] ++ beBytes 2 last ++ zeros 2)

/-- Responses of a step: the feed each belongs to; a sweep gives one for the step. -/
def LJob.respFeeds (q : LJob) (step : Nat) : List Nat :=
  let fs := nth [] q.steps step
  if q.mls then fs else fs.take 1

/-- Captured inputs. -/
def LJob.ins (q : LJob) : List Nat := (List.range 16).filter fun n => q.inputs.testBit n

/-- Records of the steps before `step`. -/
def LJob.before (q : LJob) (step : Nat) : Nat := nsum ((List.range step).map fun i => (q.respFeeds i).length * q.ins.length)

/-- The pairs of feed and input of a step's responses, in order (R137). -/
def LJob.pairs (q : LJob) (step : Nat) : List (Nat × Nat) :=
  ((q.respFeeds step).map fun f => q.ins.map fun n => (f, n)).flatten

/-- The responses of a feed are zeros: it was disabled, or every feed of a sweep's step was. -/
def LJob.dead (q : LJob) (f : Nat) : Bool :=
  if q.mls then q.disabled.contains f else (nth [] q.steps q.step).all fun x => q.disabled.contains x

/-- The records of the step join the job's: of each response in order. -/
def LJob.addRecs (q : LJob) (rs : List RespFacts) (invalid : Bool) : LJob :=
  let one := fun (e : (Nat × Nat) × Nat) =>
    let r := nth { peak := 0, pos := 0, clipped := 0, ratio := 0 } rs e.2
    ({ step := q.step, feed := e.1.1, input := e.1.2,
       status := if invalid then 3 else if q.dead e.1.1 then 2 else b2n (r.clipped ≠ 0), facts := r } : JobRec)
  { q with recs := q.recs ++ (q.pairs q.step).zipIdx.map one }

/-- The samples of a response of the step in hand at an input: zeros of a disabled feed. -/
def stepResponse (s : State) (q : LJob) (e : Nat × Nat) : List Int :=
  let fs := nth [] q.steps q.step
  if q.dead e.1 then List.replicate q.len 0
  else (List.range q.len).map (q.response (chainDelay (s.reg (aLin e.2))) (fs.idxOf e.1) fs.length (mget [] q.caps e.2))

/-- JOB_STEP_COMPLETE of a step, of the running job: the responses and their records are written in order, and the next step is entered in the delta. The spec
does not say what a response's noise floor is. DESIGN CHOICE, log 100. -/
def execJobStepComplete (step : Nat) (s : State) : Host.Outcome State Fault Refusal :=
  match s.loupe.job.bind fun j => (mfind s.loupe.jobs j).map fun q => (j, q) with
  | none => .next s
  | some (j, q) =>
    if !q.going || step ≠ q.step || 16 * (s.render.n - q.start) < q.stimLen s.fs then .next s
    else
      let (k, s1) := s.fresh
      let hs := (q.pairs q.step).map (stepResponse s q)
      let at' := q.base + 4 * q.len * q.before q.step
      let put := fun (s : State) (e : List Int × Nat) => s.memWrite (at' + 4 * q.len * e.2) (e.1.map fun x => leBytes 4 (smp x).toNat).flatten
      let s2 := hs.zipIdx.foldl put s1
      let rs := ((q.pairs q.step).zip hs).zipIdx.map fun e => respRecord e.1.2 (mget 0 q.sats e.1.1.2) (Config.freeInt k e.2)
      let s3 := s2.modJob j fun q => { q.addRecs rs false with going := false }
      .next (if s.standby then s3 else s3.enter (.loupe (.jobStep j (q.step + 1) false)))

/-- A JOB STEP entry takes effect at the boundary in hand: a step starts, or the job ends. -/
def State.jobStep (s : State) (j step : Nat) (again : Bool) : State :=
  match mfind s.loupe.jobs j with
  | none => s
  | some q =>
    if s.loupe.job ≠ some j then s
    else
      let s1 := if q.invalid && !again then s.modJob j fun q => { q.addRecs [] true with invalid := false } else s
      if step < q.steps.length then
        s1.modJob j fun q => { q with step := step, going := true, start := s.render.n + 2, again := again, disabled := [], caps := [], sats := [] }
      else (s1.modJob j fun q => { q with step := step }).endJob j 1

/-- A Loupe decision takes effect (R159); what the active has already done it does not do again. -/
def State.loupeDec (s : State) : LoupeDec → State
  | .verdict f v st flags confirmAt =>
    if !s.standby then s else s.modLf f fun q => { q with
      verdict := v, st := st, confirmAt := confirmAt, quiet := flags.testBit 0, edge := flags.testBit 1, weak := flags.testBit 2, vetoed := flags.testBit 4,
      compLimit := flags.testBit 5, micSuspect := flags.testBit 6 }
  | .learned f refs => if s.standby then s.modLf f fun q => { q with refs := refs, learn := false } else s
  | .create id f kind target due =>
    if !s.standby then s else
    { s with loupe := { s.loupe with
        acts := mset s.loupe.acts id { feed := f, kind := kind, target := target, due := due }, nextAct := (id + 1) % 2 ^ 16 } }
  | .action id => s.doAct id
  | .cancel id veto =>
    if !s.standby then s else
    match mfind s.loupe.acts id with
    | some a => (s.delAct id).modLf a.feed fun q => { q with vetoed := q.vetoed || (veto && a.kind == 2) }
    | none => s
  | .drift z e => if s.standby then (s.modLz z fun q => { q with eps := e, ratios := [] }).aimDrift z else s
  | .release j keep =>
    if keep then s.restartSlot j else s.setSlot j none
  | .syncReset clear => s.syncReset clear
  | .jobStep j step again => s.jobStep j step again
  | .carats b l => s.measCompare b l

/-! ### LOUPE_ZONE_SET and LOUPE_INPUT_SET (R239, R240) -/

def lzoneSet (c : Cmd) (z : LZone) : LZone :=
  let m := c.at 24 4
  let on := fun (b : Nat) => m.testBit b
  { z with
    audit := if on 0 then c.at 28 1 == 1 else z.audit
    policy := if on 1 then c.at 29 1 else z.policy
    mics := if on 2 then c.at 30 2 else z.mics
    aux := if on 3 then c.at 32 1 == 1 else z.aux
    autoLearn := if on 4 then c.at 33 1 == 1 else z.autoLearn
    margin := if on 5 then c.at 34 1 else z.margin
    dwell := if on 6 then c.at 36 2 else z.dwell
    confirm := if on 7 then c.at 38 2 else z.confirm
    levTol := if on 8 then c.at 40 2 else z.levTol
    bandTol := if on 9 then c.at 42 2 else z.bandTol
    bandCnt := if on 10 then c.at 35 1 else z.bandCnt
    delTol := if on 11 then c.at 44 2 else z.delTol
    gainLim := if on 12 then c.at 46 2 else z.gainLim
    delLim := if on 13 then c.at 48 2 else z.delLim
    drift := if on 14 then c.at 50 1 == 1 else z.drift
    driftRef := if on 15 then c.at 52 2 else z.driftRef
    wdLimit := if on 16 then c.at 51 1 else z.wdLimit }

/-- The policy becomes report only: terms hold, pending actions are cancelled (R153). -/
def State.reportOnly (s : State) (z : Nat) : State :=
  let mine := fun (f : Nat) => (s.feed f).zone == z
  let ids := (s.loupe.acts.filter fun e => mine e.2.feed && !e.2.entered).map (·.1)
  let s1 := ids.foldl (fun s id => s.cancelAct id 2) s
  let hold := fun (e : Nat × LFeed) =>
    if mine e.1 then (e.1, { e.2 with gainTgt := e.2.gain, delTgt := e.2.delay, driftTgt := 0, driftCur := 0 }) else e
  { s1 with loupe := { s1.loupe with feeds := s1.loupe.feeds.map hold } }

/-- Whether any zone's audit is enabled. -/
def auditOn (s : State) : Bool := s.loupe.zones.any fun e => e.2.audit

def specLoupeZoneSet : OpSpec where
  txn := true
  atOnce := fun _ _ => false
  units := fun _ _ => [4]
  len := fun c => c.plen == 36
  seeds := fun c s => if c.at 24 4 % 2 = 1 ∧ c.at 28 1 = 1 ∧ !auditOn s then [(1, 0)] else []
  param := fun c s =>
    let m := c.at 24 4
    let out := fun (o n lo hi : Nat) => c.at o n < lo || c.at o n > hi
    firstBad [(c.at 20 2 > 15, 20), (badMask m 17, 24), sel m 0 (c.at 28 1 > 1) 28, sel m 1 (c.at 29 1 > 2) 29,
      sel m 3 (c.at 32 1 > 1) 32, sel m 4 (c.at 33 1 > 1) 33, sel m 5 (c.at 34 1 > 200) 34, sel m 10 (out 35 1 1 32) 35,
      sel m 6 (out 36 2 20 3000) 36, sel m 7 (c.at 38 2 > 6000) 38, sel m 8 (out 40 2 50 1200) 40, sel m 9 (out 42 2 100 2400) 42,
      sel m 11 (out 44 2 1 1024) 44, sel m 12 (c.at 46 2 > 1200) 46, sel m 13 (c.at 48 2 > 2048) 48, sel m 14 (c.at 50 1 > 1) 50,
      sel m 16 (c.at 51 1 = 0) 51,
      sel m 15 (c.at 52 2 ≠ 0xFFFF && (c.at 52 2 > 1023 || (s.feed (c.at 52 2)).zone ≠ c.at 20 2)) 52]
  apply := fun c bad s =>
    if bad.contains 4 then s else
    let z := c.at 20 2
    let a := s.lz z
    let s1 := s.modLz z (lzoneSet c)
    if a.policy ≠ 0 ∧ (s1.lz z).policy = 0 then s1.reportOnly z else s1

/-- DEDUCED, log 110. -/
def specLoupeInputSet : OpSpec where
  txn := true
  atOnce := fun _ _ => false
  units := fun _ _ => [4]
  len := fun c => c.plen == 24
  param := fun c s =>
    let m := c.at 24 4
    firstBad [(c.at 20 1 > 15, 20), ((c.at 21 1 > 15 && c.at 21 1 ≠ 0xFF) || (m.testBit 1 && c.at 21 1 = 0xFF), 21), (badMask m 2, 24),
      sel m 0 (c.at 20 1 ≤ 15 && inCfgErr s (c.at 20 1) (wordN (c.at 28 4))) 28]
  apply := fun c bad s =>
    if bad.contains 4 then s else
    let n := c.at 20 1
    let s1 := if (c.at 24 4).testBit 0 then s.inCfg n (wordN (c.at 28 4) &&& 0x031F013F) else s
    if (c.at 24 4).testBit 1 then
      { s1 with loupe := { s1.loupe with mic := mset s1.loupe.mic (16 * n + c.at 21 1) (c.v3 32) } }
    else s1

def specLoupeSync : OpSpec where
  txn := true
  atOnce := fun _ _ => false
  units := fun _ _ => [4]
  param := fun c _ => firstBad [(c.at 20 1 > 1, 20)]
  apply := fun c bad s => if bad.contains 4 then s else s.syncReset (c.at 20 1 == 1 || wbit (s.reg (aLoupe + 0x10)) 1)

/-! ### Jobs by command (R133, R241) -/

def pad4 (n : Nat) : Nat := (n + 3) / 4 * 4

/-- Steps of a list of feeds by their sizes. -/
def cutSteps : List Nat → List Nat → List (List Nat)
  | [], _ => []
  | n :: t, fs => fs.take n :: cutSteps t (fs.drop n)

/-- The job that LOUPE_JOB_START describes. -/
def jobOf (c : Cmd) : LJob :=
  let n := c.at 42 2
  let sizes := (List.range n).map fun i => c.at (64 + i) 1
  let feeds := (List.range (c.at 60 2)).map fun i => c.at (64 + pad4 n + 2 * i) 2
  { zone := c.at 20 1, mls := c.at 21 1 == 1, level := c.int 22 2, f1 := c.at 24 2, f2 := c.at 26 2, dur := c.at 28 2,
    tail := c.at 30 2, order := c.at 32 1, reps := c.at 33 1, inputs := c.at 34 2, len := c.at 36 4, mute := c.at 40 1 == 1,
    freeze := c.at 41 1 == 1, base := c.at 44 8, steps := cutSteps sizes feeds }

/-- Whether two spans of addresses meet. -/
def meets (a n b m : Nat) : Bool := decide (a < b + m) && decide (b < a + n)

def jobParam (c : Cmd) (s : State) : Option Nat :=
  let q := jobOf c
  let n := c.at 42 2
  let sizes := (List.range n).map fun i => c.at (64 + i) 1
  let g := (sizes.foldl max 1)
  let need := 4 * q.len * q.before q.steps.length
  let idle := q.ins.any fun i => !micRuns s i
  let log := if s.logBase = 0 then false else meets q.base (c.at 52 8) s.logBase (64 * s.logLen)
  firstBad [(q.zone > 15, 20), (c.at 21 1 > 1, 21), (outI (-6000) 0 q.level, 22), (q.f1 < 10 || q.f1 > 1000, 24),
    (q.f2 < 1000 || 100 * q.f2 > 45 * s.fs, 26), (q.dur < 500 || q.dur > 30000, 28), (q.tail > 2000, 30),
    (q.order < 12 || q.order > 20, 32), (q.reps < 2 || q.reps > 16, 33), (q.inputs = 0 || idle, 34),
    (q.len < 1024 || q.len > 65536 || q.len % 16 ≠ 0 || (q.mls && q.len > q.period / g), 36), (c.at 40 1 > 1, 40), (c.at 41 1 > 1, 41),
    (n = 0 || n > 1024, 42), (q.base < dramLo || q.base + c.at 52 8 > dramLo + s.dramSize || log, 44), (c.at 52 8 < need, 52),
    (c.at 60 2 ≠ nsum sizes, 60)] |>.or
    (firstBad (sizes.zipIdx.map fun e => (e.1 = 0 || e.1 > 16, 64 + e.2))) |>.or
    (firstBad (q.steps.flatten.zipIdx.map fun e => (e.1 > 1023 || (s.feed e.1).zone ≠ q.zone, 64 + pad4 n + 2 * e.2)))

def specLoupeJobStart : OpSpec where
  atOnce := fun _ _ => false
  units := fun _ _ => [4]
  len := fun c => c.plen == 44 + pad4 (c.at 42 2) + pad4 (2 * c.at 60 2)
  param := jobParam
  busy := fun _ s => s.loupe.job.map fun _ => reject stBusy 4 0xFFFF
  data := fun _ s => beBytes 2 s.loupe.nextJob ++ zeros 2
  apply := fun c bad s =>
    if bad.contains 4 then s else
    let j := s.loupe.nextJob
    let q := { jobOf c with going := true, start := s.render.n + 2 }
    { s with loupe := { s.loupe with jobs := mset s.loupe.jobs j q, nextJob := (j + 1) % 2 ^ 16, job := some j } }

def specLoupeJobAbort : OpSpec where
  atOnce := fun _ _ => false
  units := fun _ _ => [4]
  param := fun c s => firstBad [(s.loupe.job ≠ some (c.at 20 2), 20)]
  apply := fun c bad s => if bad.contains 4 then s else s.endJob (c.at 20 2) 2

/-! ### References, vetoes and terms by command (R148, R156, R240) -/

/-- Whether a job has ended. -/
def jobEnded (s : State) (j : Nat) : Bool := match mfind s.loupe.jobs j with | some q => q.result ≠ 0 | none => false

/-- A feed's references from a job's responses: the arrival is the peak's position; the spec does not say how the gains come
of a response. -/
def jobRefs (k : Nat) (q : LJob) (f : Nat) : List MicRef :=
  (q.recs.filter fun r => r.feed == f && (r.status == 0 || r.status == 1)).map fun r =>
    { mic := r.input, g := Config.freeInt k (64 * r.input), tau := r.facts.pos,
      h := (List.range 32).map fun i => Config.freeInt k (64 * r.input + 1 + i) }

/-- A feed learns from a job. DEDUCED, log 107. -/
def State.learnFrom (s : State) (j f : Nat) : State :=
  match mfind s.loupe.jobs j with
  | none => s
  | some q =>
    let (k, s1) := s.fresh
    let refs := jobRefs k q f
    if refs.isEmpty then s1
    else
      let old := s.lf f
      let s2 := (s1.modLf f fun x => { x with refs := refs, learn := false, st := if x.st = 0 then 1 else x.st }).event 0x8601
        (beBytes 2 f ++ zeros 2)
      if s2.standby then s2 else s2.noteVerdict f old

def specLoupeLearn : OpSpec where
  txn := true
  atOnce := fun _ _ => false
  units := fun _ _ => [4]
  param := fun c s => firstBad [(badTarget (c.at 20 2), 20), (c.at 22 2 ≠ 0xFFFF && !jobEnded s (c.at 22 2), 22)]
  apply := fun c bad s =>
    if bad.contains 4 then s else
    (targets s (c.at 20 2)).foldl (fun s f =>
      if c.at 22 2 = 0xFFFF then s.modLf f fun q => { q with learn := true } else s.learnFrom (c.at 22 2) f) s

/-- A veto marks the feed of a withdrawal. -/
def State.vetoAct (s : State) (id : Nat) : State :=
  match mfind s.loupe.acts id with
  | none => s
  | some a =>
    let s1 := s.cancelAct id 0
    if a.kind = 2 then s1.modLf a.feed fun q => { q with vetoed := true } else s1

/-- Whether an action can still be vetoed. DEDUCED, log 105. -/
def vetoable (s : State) (id : Nat) : Bool := match mfind s.loupe.acts id with | some a => !a.entered | none => false

def specLoupeVeto : OpSpec where
  atOnce := fun _ _ => false
  units := fun _ _ => [4]
  busy := fun c s => if vetoable s (c.at 20 2) then none else some (reject stTooLate 4 0)
  accept := fun c s => (c, s.vetoAct (c.at 20 2))

def specLoupeCompClear : OpSpec where
  txn := true
  feeds := fun c s => targets s (c.at 20 2)
  atOnce := fun _ _ => false
  units := fun _ _ => [4]
  param := fun c _ => firstBad [(badTarget (c.at 20 2), 20)]
  apply := fun c bad s =>
    if bad.contains 4 then s else
    (targets s (c.at 20 2)).foldl (fun s f => s.modLf f fun q => { q with gainTgt := 0, delTgt := 0 }) s

/-! ### Reads (R145, R246) -/

/-- The audit record. -/
def auditBytes (s : State) (f k : Nat) : List Byte :=
  let q := s.lf f
  let age := match q.lastAt with
    | some t => min ((s.nowNs - t) / 1000000) (2 ^ 32 - 1)
    | none => (Config.freeWord k 0).toNat
  [BitVec.ofNat 8 q.verdict, BitVec.ofNat 8 q.st] ++ beInt 2 q.lev ++ beInt 4 q.arrival ++ beInt 4 q.delDev ++ beInt 2 q.snr ++
    beBytes 2 q.flags ++ beBytes 4 age ++ beInt 2 (s.comp f).gain ++ beInt 2 (s.comp f).delay ++
    ((List.range 32).map fun i => beInt 2 (nth 0 q.bands i)).flatten

def specLoupeAuditRead : OpSpec where
  standby := true
  units := fun _ _ => [4]
  param := fun c _ => firstBad [(c.at 20 2 > 1023, 20)]
  run := fun c s =>
    let (k, s1) := s.fresh
    readOk s1 [4] (auditBytes s (c.at 20 2) k ++ [BitVec.ofNat 8 ((s.lf (c.at 20 2)).best.getD 0xFF)] ++ zeros 3)

def recBytes (r : JobRec) : List Byte :=
  beBytes 2 r.step ++ beBytes 2 r.feed ++ [BitVec.ofNat 8 r.input, BitVec.ofNat 8 r.status] ++ beInt 2 r.facts.peak ++
    beInt 4 r.facts.pos ++ beBytes 4 r.facts.clipped ++ beInt 2 r.facts.ratio ++ zeros 2

/-- Responses of a job. -/
def respCount (s : State) (j : Nat) : Nat := match mfind s.loupe.jobs j with | some q => q.before q.steps.length | none => 0

def specLoupeJobRead : OpSpec where
  standby := true
  units := fun _ _ => [4]
  len := fun c => c.plen == 8
  param := fun c s =>
    firstBad [((mfind s.loupe.jobs (c.at 20 2)).isNone, 20), (c.at 22 2 = 0 || c.at 22 2 > 64, 22),
      (decide (c.at 24 4 ≥ respCount s (c.at 20 2)), 24)]
  run := fun c s =>
    match mfind s.loupe.jobs (c.at 20 2) with
    | none => (s, reject stBadParam 4 20, [])
    | some q =>
      let l := (q.recs.drop (c.at 24 4)).take (c.at 22 2)
      readOk s [4] ([BitVec.ofNat 8 q.result, 0] ++ beBytes 2 l.length ++ beBytes 4 (q.before q.steps.length) ++ (l.map recBytes).flatten)

/-- LOUPE_DERIVE (R139): how the taps come of a response is Ganen's own; they are open values. -/
def specLoupeDerive : OpSpec where
  atOnce := fun _ _ => false
  units := fun _ _ => [4, 9]
  len := fun c => c.plen == 12
  param := fun c s =>
    let n := respCount s (c.at 20 2)
    firstBad [(!jobEnded s (c.at 20 2), 20), (c.at 22 2 + n > 4096, 22), (!firLenOk s.render.rate96 (c.at 24 2), 24),
      (c.at 26 2 > 1200, 26)]
  busy := fun c s =>
    ((List.range (respCount s (c.at 20 2))).find? fun i => (entriesInUse s).contains (c.at 22 2 + i)).map
      fun i => reject stBusy 3 (c.at 22 2 + i)
  data := fun c s => beBytes 2 (respCount s (c.at 20 2)) ++ zeros 2
  apply := fun c bad s =>
    if bad.contains 4 || bad.contains 9 then s else
    let (k, s1) := s.fresh
    let len := c.at 24 2
    let put := fun (l : SMap Fir) (i : Nat) =>
      let taps := (List.range len).map fun t => wrap 32 (Config.freeInt k (i * len + t))
      mset l (c.at 22 2 + i) ({ len := len, entry := c.at 22 2 + i, taps := taps } : Fir)
    { s1 with render := { s1.render with lib := (List.range (respCount s (c.at 20 2))).foldl put s1.render.lib } }

/-- At the boundary after a takeover, the job in hand ends ABORTED. -/
def State.loupeTakenOver (s : State) : State :=
  if s.loupe.ending then
    let s1 := { s with loupe := { s.loupe with ending := false } }
    match s.loupe.job with
    | some j => s1.endJob j 2
    | none => s1
  else s

end Sys2Proof.Machine
end

