-- ==== Sys2Proof/Machine/Ports.lean ====
section
/-! DEFINITION. The audio ports, their sample-rate converters and bridges, and side-tone (R306 to R328). -/

namespace Sys2Proof.Machine

def State.port (s : State) (p : Nat) : Port := nth {} s.ports.port p
def State.modPort (s : State) (p : Nat) (f : Port → Port) : State :=
  { s with ports := { s.ports with port := s.ports.port.modify p f } }

/-! ### Configuration (R306, R308, R309, Table PORT-8) -/

def aPort (p : Nat) : Nat := aTdm + 0x1000 + 0x40 * p
/-- TDM_CTL_p. -/
def State.pctl (s : State) (p : Nat) : Word := s.reg (aPort p)
def ctlSlots (w : Word) : Nat := wbits w 3 5 + 1
def ctlWidth (w : Word) : Nat := nth 32 [16, 24, 32] (wbits w 10 2)
def ctlRate (w : Word) : Nat := nth 48000 [48000, 96000, 192000] (wbits w 12 2)
def ctlMaster (w : Word) : Bool := wbits w 1 2 == 3
/-- The frame-clock group, where the port belongs to one. -/
def ctlGroup (w : Word) : Option Nat := if wbit w 18 then some (wbits w 16 2) else none
def ctlTimeout (w : Word) : Nat := wbits w 22 10

/-- Every slot of a port, as bits. -/
def slotMask (w : Word) : Nat := 2 ^ ctlSlots w - 1

/-- A configuration holds no reserved code and no combination that Table PORT-1 and R308 exclude. DEDUCED, log 131. -/
def ctlOk (w : Word) : Bool :=
  wbits w 12 2 ≠ 3 && wbits w 10 2 ≠ 3 && wbits w 8 2 ≠ 3 && (wbits w 1 2 == 0 || wbits w 1 2 == 3) && ctlTimeout w ≥ 1 &&
    ctlTimeout w ≤ 1000 && (if wbits w 8 2 = 2 then ctlSlots w ≥ 8 else ctlSlots w == 2) && ctlSlots w * ctlRate w ≤ 1536000 &&
    (!ctlMaster w || (ctlWidth w ≠ 24 && [2, 8, 16, 32].contains (ctlSlots w)))

/-- The first port of the same group whose rate or clocking a configuration of port `p` would contradict (R309). -/
def groupClash (s : State) (p : Nat) (w : Word) : Option Nat :=
  match ctlGroup w with
  | none => none
  | some g => (List.range 16).find? fun x =>
      x ≠ p && ctlGroup (s.pctl x) == some g && (ctlRate (s.pctl x) ≠ ctlRate w || ctlMaster (s.pctl x) ≠ ctlMaster w)

/-- Two ports share a frame clock (R321). DEDUCED, log 132. -/
def sharedClock (a b : Nat) (wa wb : Word) : Bool :=
  a == b || (ctlGroup wa).isSome && ctlGroup wa == ctlGroup wb || (ctlMaster wa && ctlMaster wb && ctlRate wa == ctlRate wb)

/-! ### Side-tone's registers -/

def aRoute (r : Nat) : Nat := aSide + 0x1000 + 16 * r
def routeOn (w : Word) : Bool := wbit w 31
def routeIn (w : Word) : Nat × Nat := (wbits w 5 4, wbits w 0 5)
def routeOut (w : Word) : Nat × Nat := (wbits w 21 4, wbits w 16 5)

/-- An enabled route that a configuration of port `p` would leave without a shared clock. -/
def routeClash (s : State) (p : Nat) (w : Word) : Option Nat :=
  let cfg := fun (x : Nat) => if x = p then w else s.pctl x
  (List.range 64).find? fun r =>
    let q := s.reg (aRoute r)
    let a := (routeIn q).1
    let b := (routeOut q).1
    routeOn q && (a == p || b == p) && !sharedClock a b (cfg a) (cfg b)

/-- Whether any port is a master (R324). -/
def anyMaster (s : State) : Option Nat := (List.range 16).find? fun p => ctlMaster (s.pctl p)

/-! ### States (R312, R313) -/

/-- PORT_STATE. -/
def State.portEvent (s : State) (p : Nat) : State :=
  s.event 0x8900 [BitVec.ofNat 8 p, BitVec.ofNat 8 (s.port p).st, BitVec.ofNat 8 (b2n (s.port p).locked), 0]

/-- Take a state. -/
def State.portTo (s : State) (p st : Nat) : State :=
  if (s.port p).st = st then s else (s.modPort p fun q => { q with st := st }).portEvent p

/-- A stopped port holds nothing on its way. -/
def Port.halted (q : Port) : Port :=
  { q with
    st := 0, locked := false, back := 0, agree := 0, zeroOut := false, zeroIn := false, inOpen := 0, outOpen := 0, inQ := [],
    inMasks := [], inHist := [], inPos := 0, outQ := [], outHist := [], outPos := 0, inPrev := [], outPrev := [], bridgeIn := [], side := []
    ratio := 0x40000000 }

/-- STARTING begins. -/
def State.portStarting (s : State) (p : Nat) : State :=
  (s.modPort p fun q => { q with inOpen := 0, outOpen := 0, began := s.lNs }).portTo p 2

/-- The sample of every slot that the render gave for the last period before a cycle's first (R313). -/
def Port.lastOut (q : Port) (first : Nat) : SMap Int :=
  match q.outQ.find? fun e => e.1 + 1 == first with
  | some e => e.2.zipIdx.foldl (fun a x => mset a x.2 x.1) []
  | none => []

/-- RUN is set: a master enters STARTING at once, a slave LOCKING. DEDUCED, log 134. -/
def State.portStart (s : State) (p : Nat) : State :=
  let s1 := s.raise (aPort p) 1
  if (s.port p).st ≠ 0 then s1
  else if ctlMaster (s.pctl p) then
    let first := 16 * (s.render.n + 1) * ctlRate (s.pctl p) / s.fs
    (s1.modPort p fun q => { q with locked := true, ratio := 0x40000000, outPrev := q.lastOut first }).portStarting p
  else s1.portTo p 1

/-- RUN is cleared: the port enters STOPPING; one whose channels pass nothing is STOPPED at once. DEDUCED, log 130. -/
def State.portStop (s : State) (p : Nat) : State :=
  let s1 := s.lower (aPort p) 1
  let q := s.port p
  if q.st = 0 ∨ q.st = 4 then s1
  else if q.st = 2 ∨ q.st = 3 then (s1.modPort p fun q => { q with began := s.lNs }).portTo p 4
  else (s1.modPort p Port.halted).portEvent p

/-- Every channel has switched: STARTING becomes RUNNING, STOPPING becomes STOPPED. -/
def State.portSwitched (s : State) (p : Nat) : State :=
  let q := s.port p
  let all := slotMask (s.pctl p)
  if q.st = 2 ∧ q.inOpen = all ∧ q.outOpen = all then s.portTo p 3
  else if q.st = 4 ∧ q.inOpen = 0 ∧ q.outOpen = 0 then (s.modPort p Port.halted).portEvent p
  else s

/-- PORT_ZC_TIMEOUT. -/
def execPortZcTimeout (p : Fin 16) (s : State) : Host.Outcome State Fault Refusal :=
  let q := s.port p.val
  if (q.st = 2 ∨ q.st = 4) ∧ s.lNs ≥ q.began + ctlTimeout (s.pctl p.val) * 1000000 then
    let m := if q.st = 2 then slotMask (s.pctl p.val) else 0
    let s1 := (s.modPort p.val fun q => { q with inOpen := m, outOpen := m }).raise (aPort p.val + 8) 0x40
    .next ((s1.count (aTdm + 0x800 + 0x40 * p.val + 32)).portSwitched p.val)
  else .next s

/-- Whether a sample is a zero crossing (R313). DEDUCED, log 137. -/
def crossing (prev : Option Int) (x : Int) : Bool :=
  x == 0 || match prev with | some p => decide (p < 0) != decide (x < 0) | none => false

/-- A channel's gate over samples: whether it passes, what it passes, and the last sample tested. A lost port passes what had arrived as
it did (R317). -/
def gateRun (st : Nat) (pass : Bool) (prev : Option Int) : List Int → Bool × List Int × Option Int
  | [] => (pass, [], prev)
  | x :: t =>
    let p := if st = 2 then pass || crossing prev x else if st = 4 then pass && !crossing prev x else if st = 5 then pass else st == 3
    let r := gateRun st p (some x) t
    (r.1, (if p then x else 0) :: r.2.1, r.2.2)

/-- Set or clear bit `i` of a number. -/
def putBit (n i : Nat) (b : Bool) : Nat := if b then n ||| 2 ^ i else n - (if n.testBit i then 2 ^ i else 0)

/-! ### The sample-rate converter (R314, R315) -/

/-- Coefficients at a phase: phase 0 passes the middle sample. -/
def asrcCoefs (ph : Nat) : List Int :=
  if ph = 0 then [0, 0x40000000, 0, 0] else (List.range 4).map (Config.asrcTap ph)

/-- A channel's output from the last four frames, newest first, in Q1.31 (Table ARCH-5). -/
def asrcOut (hist : List (List Int)) (frac slot : Nat) : Int :=
  let c := asrcCoefs (frac / 2 ^ 20)
  roundQ 30 (sat 72 (isum ((List.range 4).map fun i => nth 0 c i * nth 0 (nth [] hist i) slot)))

/-- Take `n` frames from a queue into the history; an empty queue gives zeros. -/
def pull' : Nat → List (Nat × List Int) → List (List Int) → List (Nat × List Int) × List (List Int)
  | 0, q, h => (q, h)
  | n + 1, [], h => pull' n [] (([] :: h).take 4)
  | n + 1, x :: t, h => pull' n t ((x.2 :: h).take 4)

/-- One output sample of every channel: position, queue, history, frame. -/
def asrcStep (step slots : Nat) (st : Nat × List (Nat × List Int) × List (List Int)) :
    (Nat × List (Nat × List Int) × List (List Int)) × List Int :=
  let pos := st.1 + step
  let r := pull' (pos / 2 ^ 30) st.2.1 st.2.2
  let frac := pos % 2 ^ 30
  ((frac, r.1, r.2), (List.range slots).map fun i => asrcOut r.2 frac i)

/-- `n` output samples. DEDUCED, log 136. -/
def asrcRun (step slots : Nat) : Nat → Nat × List (Nat × List Int) × List (List Int) →
    (Nat × List (Nat × List Int) × List (List Int)) × List (List Int)
  | 0, st => (st, [])
  | n + 1, st =>
    let r := asrcStep step slots st
    let q := asrcRun step slots n r.1
    (q.1, r.2 :: q.2)

/-! ### Rate bridges (R319) -/

/-- Decimation by one stage. -/
def halveRun (i : Nat) : HalfSt → List Int → HalfSt × List Int
  | st, [] => (st, [])
  | st, x :: t =>
    let h := (x :: st.hist).take (2 * halfArm i + 1)
    let r := halveRun i { hist := h, phase := !st.phase } t
    (r.1, if st.phase then roundQ 30 (halfOut i h) :: r.2 else r.2)

/-- Interpolation by one stage: its output is doubled. -/
def doubleRun (i : Nat) : HalfSt → List Int → HalfSt × List Int
  | st, [] => (st, [])
  | st, x :: t =>
    let n := 2 * halfArm i + 1
    let h1 := (x :: st.hist).take n
    let h2 := (0 :: h1).take n
    let r := doubleRun i { st with hist := h2 } t
    (r.1, roundQ 30 (2 * halfOut i h1) :: roundQ 30 (2 * halfOut i h2) :: r.2)

/-- Stages between two rates, in the order the signal takes them: 7 is B2 (192 and 96 kHz), 6 is B1 (96 and 48 kHz). -/
def bridgeStages (src dst : Nat) : List Nat :=
  let lo := min src dst
  let hi := max src dst
  let l := (if lo < 96000 ∧ hi ≥ 96000 then [6] else []) ++ (if lo < 192000 ∧ hi ≥ 192000 then [7] else [])
  if src > dst then l.reverse else l

/-- A channel's block through its bridge. -/
def bridgeRun (up : Bool) : List Nat → List HalfSt → List Int → List HalfSt × List Int
  | [], st, x => (st, x)
  | i :: t, st, x =>
    let r := if up then doubleRun i (nth {} st (i - 6)) x else halveRun i (nth {} st (i - 6)) x
    bridgeRun up t (st.set (i - 6) r.1) r.2

def noBridge : List HalfSt := [{}, {}]

/-! ### The window closes on the ports (R16, R306 to R320) -/

/-- Samples of the port's rate in a cycle, and the first of the window that closes at B(n). -/
def portSpan (s : State) (w : Word) : Nat × Nat := (16 * ctlRate w / s.fs, 16 * s.render.n * ctlRate w / s.fs)

/-- The frames of a window after the converter: a master's by their number, two sample periods after each frame's start; a
slave's by interpolation. -/
def portFrames (s : State) (p : Nat) : Port × List (List Int) :=
  let w := s.pctl p
  let q := s.port p
  let (n, first) := portSpan s w
  if ctlMaster w then
    let get := fun (i : Nat) => ((q.inQ.find? fun e => e.1 + 2 == i).map (·.2)).getD []
    let stay := fun (i : Nat) => decide (i + 2 ≥ first + n)
    ({ q with inQ := q.inQ.filter fun e => stay e.1, inMasks := q.inMasks.filter fun e => stay e.1 }, (List.range n).map fun i => get (first + i))
  else
    let r := asrcRun q.ratio.toNat (ctlSlots w) n (q.inPos, q.inQ, q.inHist)
    ({ q with inPos := r.1.1, inQ := r.1.2.1, inHist := r.1.2.2 }, r.2)

/-- The input masks of the frames of a window: a master's as each frame had it, a slave's as it stands. -/
def portMasks (s : State) (p : Nat) : List Nat :=
  let w := s.pctl p
  let q := s.port p
  let (n, first) := portSpan s w
  (List.range n).map fun i =>
    if ctlMaster w then (match q.inMasks.find? fun e => e.1 + 2 == first + i with | some e => e.2 | none => q.inAct) else q.inAct

/-- A channel's gate and mask, its conversion to Q5.27 (R25), and its bridge. -/
def portChannel (s : State) (p slot : Nat) (frames : List (List Int)) (masks : List Nat) (q : Port) : Port :=
  let w := s.pctl p
  let x := frames.map fun f => nth 0 f slot
  let g := gateRun q.st (q.inOpen.testBit slot) (mfind q.inPrev slot) x
  let y := List.zipWith (fun m v => if m.testBit slot then shrEven v 4 else 0) masks g.2.1
  let b := bridgeRun (ctlRate w < s.fs) (bridgeStages (ctlRate w) s.fs) (mget noBridge q.bridgeIn slot) y
  { q with
    inOpen := putBit q.inOpen slot g.1, inPrev := (match g.2.2 with | some v => mset q.inPrev slot v | none => q.inPrev),
    bridgeIn := mset q.bridgeIn slot b.1, blk := q.blk ++ [b.2] }

/-- The shadows of the masks become the active masks (R311). -/
def State.maskLatch (s : State) (p : Nat) : State :=
  s.modPort p fun q => { q with maskWait := 0, inAct := (s.reg (aPort p + 0x10)).toNat, outAct := (s.reg (aPort p + 0x14)).toNat }

/-- Port `p`'s window closes. A stopped port's masks do not wait for a frame. -/
def State.portClose (s : State) (p : Nat) : State :=
  if (s.port p).st = 0 then
    let s1 := if (s.port p).maskWait = 0 then s else s.maskLatch p
    s1.modPort p fun q => { q with blk := [], bad := false }
  else
    let r := portFrames s p
    let q := (List.range (ctlSlots (s.pctl p))).foldl (fun q i => portChannel s p i r.2 (portMasks s p) q) { r.1 with blk := [] }
    (s.modPort p fun _ => if q.st = 5 then { q with inOpen := 0 } else q).portSwitched p

/-- The block that a TDM source carries, and whether it is poisoned. -/
def tdmBlock (s : State) (p slot : Nat) : List Int × Bool :=
  let q := s.port p
  let x := nth [] q.blk slot
  (if q.st = 2 ∨ q.st = 3 ∨ q.st = 4 ∨ q.st = 5 then (x ++ List.replicate 16 0).take 16 else List.replicate 16 0, q.bad)

/-- The exit block that leaves toward a slot now. -/
def slotExit (s : State) (p slot : Nat) : List Int :=
  match s.render.feeds.find? fun e => e.2.dest.contains (slotDest p slot) with
  | some e => ((s.feedRt e.1).leaving ++ List.replicate 16 0).take 16
  | none => List.replicate 16 0

/-- Rows of samples become frames. -/
def transpose16 (n : Nat) (rows : List (List Int)) : List (List Int) := (List.range n).map fun i => rows.map fun r => nth 0 r i

/-- The block that begins to leave is handed to port `p`'s transmitter, a stopped one's too (R313), through its bridge and into Q1.31
(R8, R26). -/
def State.portHand (s : State) (p : Nat) : State :=
  let w := s.pctl p
  let one := fun (a : SMap (List HalfSt) × List (List Int)) (slot : Nat) =>
    let b := bridgeRun (s.fs < ctlRate w) (bridgeStages s.fs (ctlRate w)) (mget noBridge a.1 slot) (slotExit s p slot)
    (mset a.1 slot b.1, a.2 ++ [b.2])
  let r := (List.range (ctlSlots w)).foldl one ((s.port p).bridgeOut, [])
  let n := 16 * ctlRate w / s.fs
  let first := 16 * (s.render.n + 1) * ctlRate w / s.fs
  let fs := (transpose16 n r.2).zipIdx.map fun e => (first + e.2, e.1.map fun x => sat 32 (16 * x))
  s.modPort p fun q => { q with bridgeOut := r.1, outQ := newest (8 * n) (q.outQ ++ fs), bad := false }

/-! ### Side-tone (R321, R322) -/

def State.route' (s : State) (r : Nat) : SideRt := mget {} s.ports.side r
def State.modSide (s : State) (r : Nat) (f : SideRt → SideRt) : State :=
  { s with ports := { s.ports with side := mmod {} s.ports.side r f } }

/-- The gain that a route's registers ask for. -/
def sideGain (s : State) (r : Nat) : Int :=
  if routeOn (s.reg (aRoute r)) then trimQ (BitVec.ofNat 16 (wbits (s.reg (aRoute r + 4)) 0 16)).toInt else 0

/-- A change starts a ramp from the current value. -/
def State.sideAim (s : State) (r : Nat) : State :=
  let g := sideGain s r
  if (s.route' r).tgt = g then s else s.modSide r fun q => { q with src := q.cur, tgt := g, k := 0, armAt := s.lNs }

/-- The sum of the routes into a slot of output frame `idx`: each reads the frame two periods earlier. -/
def sideSum (s : State) (p slot idx : Nat) : Option Int :=
  let rs := (List.range 64).filter fun r =>
    routeOut (s.reg (aRoute r)) == (p, slot) && (routeOn (s.reg (aRoute r)) || (s.route' r).cur ≠ 0)
  let term := fun (r : Nat) =>
    let i := routeIn (s.reg (aRoute r))
    let f := (((s.port i.1).side.find? fun e => e.1 + 2 == idx).map (·.2)).getD []
    (s.route' r).cur * nth 0 f i.2
  if rs.isEmpty then none else some (sat 72 (isum (rs.map term)))

/-- The gains of the routes into port `p` move one step at an output frame that starts at or after the ramp's boundary; L is read to
the ns. -/
def State.sideStep (s : State) (p : Nat) : State :=
  let rate := ctlRate (s.pctl p)
  let due := fun (q : SideRt) => q.k < 64 && decide ((s.lNs + 1) * rate ≥ q.armAt * rate + 1000000000)
  let one := fun (e : Nat × SideRt) =>
    if (routeOut (s.reg (aRoute e.1))).1 = p && due e.2 then
      (e.1, { e.2 with cur := rampN 64 e.2.src e.2.tgt e.2.k, k := e.2.k + 1 })
    else e
  { s with ports := { s.ports with side := s.ports.side.map one } }

/-! ### A frame (R306, R307, R311, R313, R317, R318) -/

/-- The frame that ends used the masks in force at its start; those that wait latch with the next (R311). -/
def State.maskStep (s : State) (p : Nat) : State :=
  if (s.port p).maskWait = 1 then s.maskLatch p else s.modPort p fun q => { q with maskWait := q.maskWait - 1 }

/-- The render's sample for every slot of an output frame, in Q1.31: a frame starts one sample period after what it carries
leaves; a slave's come through the converter. -/
def State.outFrame (s : State) (p idx : Nat) : State × List Int :=
  let w := s.pctl p
  let q := s.port p
  let n := ctlSlots w
  if ctlMaster w then
    let f := ((q.outQ.find? fun e => e.1 + 1 == idx).map (·.2)).getD []
    (s.modPort p fun q => { q with outQ := q.outQ.filter fun e => e.1 + 1 > idx }, (List.range n).map fun i => nth 0 f i)
  else
    let step := 2 ^ 60 / max 1 q.ratio.toNat
    let r := asrcStep step n (q.outPos, q.outQ, q.outHist)
    (s.modPort p fun q => { q with outPos := r.1.1, outQ := r.1.2.1, outHist := r.1.2.2 }, r.2)

/-- One slot of an output frame: gates by state, then the width; `none` where the slot is not driven. After a loss of the system
PLL it carries zeros (R302). -/
def State.outSlot (s : State) (p slot idx : Nat) (x : Int) : State × Option Int :=
  let w := s.pctl p
  let q := s.port p
  let side := if s.integ.pllStop then none else sideSum s p slot idx
  let v := match side with | some a => sat 32 (shrEven a 27) | none => x
  let ovr := match side with | some a => saturates 32 (shrEven a 27) | none => false
  let g := gateRun q.st (q.outOpen.testBit slot) (mfind q.outPrev slot) [v]
  let s1 := s.modPort p fun q => { q with outOpen := putBit q.outOpen slot g.1, outPrev := mset q.outPrev slot v }
  let s2 := if ovr then (s1.raise (aSide + 4) 1).count (aSide + 0x90) else s1
  let y := if q.zeroOut || s.integ.pllStop then 0 else nth 0 g.2.1 0
  (s2, if q.outAct.testBit slot then some (sat (ctlWidth w) (shrEven y (32 - ctlWidth w))) else none)

/-- Every slot of an output frame. -/
def State.outSlots (s : State) (p idx : Nat) (xs : List Int) : Nat → State × List (Option Int)
  | 0 => (s, [])
  | n + 1 =>
    let slot := ctlSlots (s.pctl p) - (n + 1)
    let r := s.outSlot p slot idx (nth 0 xs slot)
    let q := r.1.outSlots p idx xs n
    (q.1, r.2 :: q.2)

/-- A frame is transmitted; only the unit whose gate is open drives the line (R325). -/
def State.portTx (s : State) (p idx : Nat) : State :=
  let q := s.port p
  if q.st = 0 ∨ q.st = 5 then s
  else
    let (s1, xs) := (s.sideStep p).outFrame p idx
    let r := s1.outSlots p idx xs (ctlSlots (s.pctl p))
    let s2 := r.1.modPort p fun q => { q with zeroOut := false }
    if s.gate then s2.emit (.tdm p r.2) else s2

/-- A frame is received. -/
def State.portRx (s : State) (p : Nat) (f : TdmFrame) : State :=
  let w := s.pctl p
  let q := s.port p
  let zero := f.glitch || q.zeroIn || f.ovr
  let words := (List.range (ctlSlots w)).map fun i => if zero then 0 else nth 0 f.slots i * 2 ^ (32 - ctlWidth w)
  let open' := fun (i : Nat) => q.st == 3 || ((q.st == 2 || q.st == 4) && q.inOpen.testBit i)
  let side := (List.range (ctlSlots w)).map fun i => if open' i then nth 0 words i else 0
  s.modPort p fun q => { q with
    inQ := newest 128 (q.inQ ++ [(f.idx, words)]), inMasks := newest 128 (q.inMasks ++ [(f.idx, q.inAct)])
    side := newest 4 (q.side ++ [(f.idx, side)]), zeroIn := false }

/-- A faulty frame (R317): the port realigns; the eighth in a row that agrees is a change of rate. DEDUCED, log 138. -/
def State.portGlitch (s : State) (p : Nat) (agree : Bool) : State :=
  let n := if agree then (s.port p).agree + 1 else 1
  let s1 := ((s.modPort p fun q => { q with agree := n, zeroOut := true }).raise (aPort p + 8) 1).count (aTdm + 0x800 + 0x40 * p + 16)
  if n ≥ 8 then (s1.modPort p fun q => { q with agree := 0, locked := false }).portTo p 1 else s1

/-- Queue errors (R318): zeros, counts and an inclusion that is no device fault. -/
def State.portQueue (s : State) (p : Nat) (f : TdmFrame) : State :=
  let a := aTdm + 0x800 + 0x40 * p
  let note := fun (s : State) (dir : Bool) =>
    s.report { cls := 0x22, dev := false, inst := p, unit := some 8, detail := [wordN (b2n dir)] }
  let s1 := if f.ovr then
    note (((s.modPort p fun q => { q with bad := true }).raise (aPort p + 8) 0x10).count (a + 8)) false else s
  if f.under then note (((s1.modPort p fun q => { q with zeroOut := true }).raise (aPort p + 8) 8).count a) true else s1

/-- TDM_FRAME, at the frame's end. DEDUCED, log 187. -/
def execTdmFrame (p : Fin 16) (f : TdmFrame) (s : State) : Host.Outcome State Fault Refusal :=
  let slave := !ctlMaster (s.pctl p.val)
  if s.time.lostSys then .next s
  else
    let s0 := s.modPort p.val fun q => { q with meas := if slave then f.meas else 0x40000000 }
    let st := (s.port p.val).st
    if st = 0 then .next s0
    else if st = 5 then
      let n := (s.port p.val).back + 1
      let s1 := s0.modPort p.val fun q => { q with back := n }
      .next ((if n ≥ 3 then (s1.modPort p.val fun q => { q with back := 0, inQ := [], inMasks := [] }).portTo p.val 1 else s1).maskStep p.val)
    else
      let s1 := s0.portQueue p.val f
      let s2 := (s1.portTx p.val f.idx).portRx p.val f
      let s3 := if slave && f.glitch then s2.portGlitch p.val f.agree else s2.modPort p.val fun q => { q with agree := 0 }
      .next ((s3.maskStep p.val).portSwitched p.val)

/-- A write of TDM_CMD_p: the masks latch at the next frame start, or one frame later where the write falls within the last
four bit clocks of a frame (R311). -/
def State.maskApply (s : State) (p : Nat) (v : Word) (late : Bool) : State :=
  if wbit v 0 then s.modPort p fun q => { q with maskWait := if q.maskWait ≠ 0 then q.maskWait else if late then 2 else 1 } else s

/-- MASK_APPLY. -/
def execMaskApply (p : Fin 16) (v : Word) (late : Bool) (s : State) : Host.Outcome State Fault Refusal :=
  guarded (aPort p.val + 0xC) v (s.maskApply p.val v late)

/-! ### Clocks (R315 to R317) -/

/-- Ganen's servo at the delta cut-off: the applied ratio is an open value within the converter's range. DESIGN CHOICE, log 135. -/
def State.servo (s : State) (p : Nat) : State :=
  let st := (s.port p).st
  if ctlMaster (s.pctl p) ∨ st = 0 ∨ st = 5 ∨ st = 6 then s
  else
    let (k, s1) := s.fresh
    s1.enter (.asrc p (wordN (2 ^ 29 + (Config.freeWord k p).toNat % (3 * 2 ^ 29 + 1))))

/-- ASRC_LOCK: the active enters the lock, with the phase that its servo sets. -/
def execAsrcLock (p : Fin 16) (s : State) : Host.Outcome State Fault Refusal :=
  if (s.port p.val).st = 1 && s.decides then
    let (k, s1) := s.fresh
    .next (s1.enter (.asrcLock p.val (wordN ((Config.freeWord k 0).toNat % 2 ^ 30))))
  else .next s

/-- Frames numbered below `i` move from a queue into the interpolator's history. -/
def alignQueue (i : Nat) (q : List (Nat × List Int)) (h : List (List Int)) : List (Nat × List Int) × List (List Int) :=
  (q.filter fun e => i ≤ e.1, (((q.filter fun e => e.1 < i).reverse.map (·.2)) ++ h).take 4)

/-- A lock takes effect. The queues stand so that a received sample's media time is its frame start plus two periods, and a sample
leaves one period after the render gives it (R48); from here on counts alone move them. DEDUCED, log 135. -/
def State.asrcLocked (s : State) (p : Nat) (phase : Word) : State :=
  let first := 16 * (s.render.n + 1) * ctlRate (s.pctl p) / s.fs
  let i := alignQueue (first - 1) (s.port p).inQ (s.port p).inHist
  let o := alignQueue first (s.port p).outQ (s.port p).outHist
  let s1 := s.modPort p fun q => { q with
    locked := true, inPos := phase.toNat, outPos := phase.toNat, inQ := i.1, inHist := i.2, outQ := o.1, outHist := o.2 }
  if (s.port p).st = 1 then s1.portStarting p else s1

/-- NO_LOCK. -/
def execNoLock (p : Fin 16) (s : State) : Host.Outcome State Fault Refusal :=
  .next (if (s.port p.val).st = 1 then s.raise (aPort p.val + 8) 0x20 else s)

/-- A port's clock stops. -/
def State.portLost (s : State) (p : Nat) : State :=
  if (s.port p).st = 0 ∨ (s.port p).st = 5 ∨ ctlMaster (s.pctl p) then s
  else
    let s1 := s.modPort p fun q => { q with locked := false, meas := 0, back := 0, outOpen := 0, outQ := [], side := [] }
    ((s1.raise (aPort p + 8) 2).count (aTdm + 0x800 + 0x40 * p + 24)).portTo p 5

/-- PORT_CLOCK_LOST: of a port, or of the frame clock of its whole group. -/
def execPortClockLost (p : Fin 16) (fcg : Bool) (s : State) : Host.Outcome State Fault Refusal :=
  match fcg, ctlGroup (s.pctl p.val) with
  | true, some g => .next (((List.range 16).filter fun x => ctlGroup (s.pctl x) == some g).foldl (fun s x => s.portLost x) s)
  | _, _ => .next (s.portLost p.val)

/-- PORT_RANGE and PORT_RANGE_RECOVER. -/
def execPortRange (p : Fin 16) (s : State) : Host.Outcome State Fault Refusal :=
  let st := (s.port p.val).st
  if st = 0 ∨ st = 5 ∨ st = 6 ∨ ctlMaster (s.pctl p.val) then .next s
  else .next (((s.modPort p.val fun q => { q with locked := false, inOpen := 0, outOpen := 0 }).raise (aPort p.val + 8) 4).portTo p.val 6)

def execPortRangeRecover (p : Fin 16) (s : State) : Host.Outcome State Fault Refusal :=
  .next (if (s.port p.val).st = 6 then s.portTo p.val 1 else s)

/-- Ports whose frame clock derives from L realign with one frame of zeros (R296, Table TIME-7). -/
def State.realign (s : State) : State :=
  (List.range 16).foldl (fun s p =>
    if ctlMaster (s.pctl p) then s.modPort p fun q => { q with zeroOut := true, zeroIn := true } else s) s

/-! ### Register writes (R327, R328) -/

/-- A write of TDM_CTL_p. DEDUCED, log 133. -/
def State.tdmCtl (s : State) (p : Nat) (v : Word) : State :=
  let old := s.pctl p
  let other := (old ^^^ v) &&& 0x003FFFFE
  let master := ctlMaster v && s.pairEn
  if !ctlOk v || (groupClash s p v).isSome || master || ((s.port p).st ≠ 0 && other ≠ 0) then s.raise (aPort p + 8) 0x80
  else
    let s1 := s.setReg (aPort p) v
    if wbit v 0 && !wbit old 0 then s1.portStart p else if !wbit v 0 && wbit old 0 then s1.portStop p else s1

def execTdmCtlWrite (p : Fin 16) (v : Word) (s : State) : Host.Outcome State Fault Refusal :=
  guarded (aPort p.val) v (s.tdmCtl p.val v)

/-- Whether a feed carries an output slot. -/
def feedHolds (s : State) (o : Nat × Nat) : Option Nat :=
  (s.render.feeds.find? fun e => e.2.dest.contains (slotDest o.1 o.2)).map (·.1)

/-- A write of SIDETONE_CTL_r. -/
def State.sideCtl (s : State) (r : Nat) (v : Word) : State :=
  let old := s.reg (aRoute r)
  let i := (routeIn v).1
  let o := (routeOut v).1
  let moved := ((old ^^^ v) &&& 0x01FF01FF) ≠ 0
  if (routeOn old && moved) || (routeOn v && (!sharedClock i o (s.pctl i) (s.pctl o) || (feedHolds s (routeOut v)).isSome)) then
    s.raise (aSide + 4) 2
  else (s.setReg (aRoute r) v).sideAim r

def execSidetoneCtlWrite (r : Fin 64) (v : Word) (s : State) : Host.Outcome State Fault Refusal :=
  guarded (aRoute r.val) v (s.sideCtl r.val v)

/-- A write of SIDETONE_GAIN_r. -/
def State.sideGainWrite (s : State) (r : Nat) (v : Word) : State := (s.setReg (aRoute r + 4) (v &&& 0xFFFF)).sideAim r

def execSidetoneGainWrite (r : Fin 64) (v : Word) (s : State) : Host.Outcome State Fault Refusal :=
  guarded (aRoute r.val + 4) v (s.sideGainWrite r.val v)

/-! ### Commands (R243, R310, R321, R324, R326) -/

/-- Code of a slot width. -/
def widthCode (w : Nat) : Nat := if w = 16 then 0 else if w = 24 then 1 else if w = 32 then 2 else 3

/-- The configuration that a PORT_SET gives. -/
def portSet (c : Cmd) (w : Word) : Word :=
  let m := c.at 24 4
  let put := fun (b : Nat) (w : Word) (lo len v : Nat) => if m.testBit b then wput w lo len v else w
  let w := put 0 w 8 2 (c.at 28 1)
  let w := put 1 w 3 5 (c.at 29 1 - 1)
  let w := put 2 w 10 2 (widthCode (c.at 30 1))
  let w := put 3 w 1 2 (c.at 31 1)
  let w := put 4 w 12 2 (c.at 32 1)
  let w := if m.testBit 5 then (if c.at 33 1 = 0xFF then wput w 16 3 0 else wput (wput w 16 2 (c.at 33 1)) 18 1 1) else w
  put 6 w 22 10 (c.at 34 2)

/-- The offset of the parameter that makes a port's new configuration impossible. -/
def portBad (c : Cmd) (s : State) : Option Nat :=
  let m := c.at 24 4
  let w := portSet c (s.pctl (c.at 20 1))
  let n := ctlSlots w
  firstBad [(c.at 20 1 > 15, 20), (badMask m 7, 24), sel m 0 (c.at 28 1 > 2) 28, sel m 1 (c.at 29 1 = 0 || c.at 29 1 > 32) 29,
    sel m 2 (widthCode (c.at 30 1) = 3) 30, sel m 3 (c.at 31 1 ≠ 0 && c.at 31 1 ≠ 3) 31, sel m 4 (c.at 32 1 > 2) 32,
    sel m 5 (c.at 33 1 > 3 && c.at 33 1 ≠ 0xFF) 33, sel m 6 (c.at 34 2 = 0 || c.at 34 2 > 1000) 34,
    ((if wbits w 8 2 = 2 then n < 8 else n ≠ 2) || n * ctlRate w > 1536000 || (ctlMaster w && !([2, 8, 16, 32] : List Nat).contains n), 29),
    (ctlMaster w && ctlWidth w = 24, 30)]

def specPortSet : OpSpec where
  txn := true
  atOnce := fun _ _ => false
  units := fun _ _ => [8]
  len := fun c => c.plen == 16
  param := portBad
  busy := fun c s =>
    let p := c.at 20 1
    let w := portSet c (s.pctl p)
    if (s.port p).st ≠ 0 && c.at 24 4 ≠ 0x40 then some (reject stBusy 8 p)
    else match groupClash s p w with
      | some x => some (reject stConflict 8 x)
      | none =>
        if ctlMaster w && s.pairEn then some (reject stConflict 8 p)
        else (routeClash s p w).map fun r => reject stConflict 8 r
  apply := fun c bad s =>
    if bad.contains 8 then s else
    let p := c.at 20 1
    s.setReg (aPort p) (portSet c (s.pctl p))

def specPortMask : OpSpec where
  txn := true
  atOnce := fun _ _ => false
  units := fun _ _ => [8]
  len := fun c => c.plen == 12
  param := fun c _ => firstBad [(c.at 20 1 > 15, 20), (c.at 21 1 > 1, 21)]
  apply := fun c bad s =>
    if bad.contains 8 then s else
    let p := c.at 20 1
    let s1 := (s.setReg (aPort p + 0x10) (wordN (c.at 24 4))).setReg (aPort p + 0x14) (wordN (c.at 28 4))
    if c.at 21 1 = 1 then s1.maskApply p 1 false else s1

def specPortRun : OpSpec where
  txn := true
  atOnce := fun _ _ => false
  units := fun _ _ => [8]
  param := fun c _ => firstBad [(c.at 20 1 > 15, 20), (c.at 21 1 > 1, 21)]
  apply := fun c bad s =>
    if bad.contains 8 then s else if c.at 21 1 = 1 then s.portStart (c.at 20 1) else s.portStop (c.at 20 1)

/-- The register word that a SIDETONE_SET asks for. -/
def sideWord (c : Cmd) : Word := wordN (c.at 21 1 * 2 ^ 31 + c.at 24 2 % 512 * 2 ^ 16 + c.at 22 2 % 512)

def specSidetoneSet : OpSpec where
  txn := true
  atOnce := fun _ _ => false
  units := fun _ _ => [8]
  len := fun c => c.plen == 8
  param := fun c _ =>
    firstBad [(c.at 20 1 > 63, 20), (c.at 21 1 > 1, 21), (c.at 22 2 > 511, 22), (c.at 24 2 > 511, 24), (badGain (c.int 26 2), 26)]
  busy := fun c s =>
    let r := c.at 20 1
    let old := s.reg (aRoute r)
    let v := sideWord c
    let i := (routeIn v).1
    let o := (routeOut v).1
    if routeOn old && ((old ^^^ v) &&& 0x01FF01FF) ≠ 0 then some (reject stBusy 8 r)
    else if !routeOn v then none
    else if !sharedClock i o (s.pctl i) (s.pctl o) then some (reject stConflict 8 o)
    else (feedHolds s (routeOut v)).map fun f => reject stConflict 8 f
  apply := fun c bad s =>
    if bad.contains 8 then s else
    let r := c.at 20 1
    ((s.setReg (aRoute r) (sideWord c)).setReg (aRoute r + 4) (wordN (c.at 26 2))).sideAim r

/-! ### Registers -/

def tdmStatusP (s : State) (p : Nat) : Word :=
  let q := s.port p
  wordN (b2n (q.maskWait ≠ 0) * 16 + b2n q.locked * 8 + q.st)

def tdmStatus (s : State) : Word :=
  wordN (nsum ((List.range 16).map fun p => b2n ((s.port p).st ≠ 0) * 2 ^ p + b2n (s.reg (aPort p + 8) ≠ 0) * 2 ^ (16 + p)))

def fcgStatus (s : State) (g : Nat) : Word :=
  let ms := (List.range 16).filter fun p => ctlGroup (s.pctl p) == some g
  match ms with
  | [] => 0
  | m :: _ =>
    let runs := ms.any fun p => let st := (s.port p).st; if ctlMaster (s.pctl p) then st ≠ 0 else (s.port p).meas ≠ 0
    wordN (b2n runs * 2 ^ 21 + b2n (ctlMaster (s.pctl m)) * 2 ^ 20 + wbits (s.pctl m) 12 2 * 2 ^ 16 + nsum (ms.map fun p => 2 ^ p))

def sideStatus (s : State) : Word := wordN (((List.range 64).filter fun r => routeOn (s.reg (aRoute r))).length)
def sideCur (s : State) (r : Nat) : Word := smp (s.route' r).cur

def specPortRead : OpSpec where
  standby := true
  units := fun _ _ => [8]
  param := fun c _ => firstBad [(c.at 20 1 > 15, 20)]
  run := fun c s =>
    let p := c.at 20 1
    let q := s.port p
    readOk s [8] (beBytes 4 (tdmStatusP s p).toNat ++ beBytes 4 q.meas.toNat ++ beBytes 4 q.ratio.toNat ++ beBytes 4 q.inAct ++
      beBytes 4 q.outAct ++ ((List.range 5).map fun i => s.kcnt (aTdm + 0x800 + 0x40 * p + 8 * i)).flatten)

end Sys2Proof.Machine
end

