-- ==== Sys2Proof/Machine/Net.lean ====
section
/-! DEFINITION. Network ports and media flows (R248 to R276). -/

namespace Sys2Proof.Machine

def State.flow (s : State) (f : Nat) : Flow := mget {} s.net.flows f
def State.flowRt (s : State) (f : Nat) : FlowRt := mget {} s.net.rt f
def State.modFlowRt (s : State) (f : Nat) (g : FlowRt → FlowRt) : State := { s with net := { s.net with rt := mmod {} s.net.rt f g } }

def isMedia (k : Nat) : Bool := k < 4

/-- Counter `c` of port `k` (Table NET-8). -/
def State.netCount (s : State) (k c : Nat) (n : Nat := 1) : State := s.count (aNet k + 0x90 + 8 * c) n
def State.netErr (s : State) (k bit : Nat) : State := s.raise (aNet k + 8) (wordN (2 ^ bit))

def netCtl (s : State) (k bit : Nat) : Bool := wbit (s.reg (aNet k)) bit

/-- Speed code of a port as it stands: 1 is 1 Gb/s, 2 is 10 Gb/s, 3 is 25 Gb/s. -/
def speedCode (s : State) (k : Nat) : Nat :=
  if !isMedia k then 1 else if wbits (s.reg (aNet k)) 8 3 = 1 && !(s.np k).reduced then 3 else 2

/-- NETPORT_STATUS (Table NET-9). -/
def netStatus (s : State) (k : Nat) : Word :=
  let p := s.np k
  wordN (p.preempt * 2 ^ 8 + b2n (p.pause ≠ 0) * 2 ^ 7 + b2n p.reduced * 2 ^ 6 + (if p.up then speedCode s k else 0) * 2 + b2n p.up)

/-- Unit MAC, service MAC and their addresses. -/
def unitMac (s : State) (k : Nat) : Nat := wbits (s.reg (aNet k + 0x14)) 0 16 * 2 ^ 32 + (s.reg (aNet k + 0x10)).toNat
def svcMac (s : State) (k : Nat) : Nat := wbits (s.reg (aNet k + 0x1C)) 0 16 * 2 ^ 32 + (s.reg (aNet k + 0x18)).toNat
def svcOn (s : State) (k : Nat) : Bool := isMedia k && wbit (s.reg (aNet k + 0x1C)) 31
def unitIp (s : State) (k : Nat) : Nat := (s.reg (aNet k + 0x20)).toNat
def svcIp (s : State) (k : Nat) : Nat := (s.reg (aNet k + 0x24)).toNat
/-- DEDUCED, log 118. -/
def maxFrame (s : State) (k : Nat) : Nat := if netCtl s k 17 then 9022 else 1522

/-! ### Addresses (R252) -/

def isGroup (mac : Nat) : Bool := mac.testBit 40
def bcast : Nat := 2 ^ 48 - 1
/-- The Ethernet address of an IPv4 group. -/
def groupMac (ip : Nat) : Nat := 0x01005E000000 + ip % 2 ^ 23
def isMulticast (ip : Nat) : Bool := ip / 2 ^ 28 == 14

/-- Index of the hash filter. -/
def hashIndex (mac : Nat) : Nat := wbits (crc32eth (beBytes 6 mac)) 23 9

def hashPass (s : State) (k mac : Nat) : Bool :=
  let i := hashIndex mac
  wbit (s.reg (aNet k + 0x40 + 4 * (i / 32))) (i % 32)

/-- The address filter. -/
def addrPass (s : State) (k mac : Nat) : Bool :=
  mac == unitMac s k || (svcOn s k && mac == svcMac s k) || mac == bcast || (netCtl s k 18 && !isGroup mac) ||
    (netCtl s k 19 && isGroup mac) || (isGroup mac && hashPass s k mac)

/-- PTP group addresses, on Ethernet and of 224.0.1.129 and 224.0.0.107 (IEEE 1588). PRESUMED, log 111. -/
def ptpGroups : List Nat := [0x011B19000000, 0x0180C200000E, groupMac 0xE0000181, groupMac 0xE000006B]

/-! ### The flow table (R276) -/

def aEntry (e : Nat) : Nat := aFlowtab + 0x1000 + 16 * e
/-- FLOWTAB_CTL_e. -/
def entryCtl (s : State) (e : Nat) : Word := s.reg (aEntry e + 12)
def entryValid (s : State) (e : Nat) : Bool := wbit (entryCtl s e) 31
def entryPort (s : State) (e : Nat) : Nat := wbits (entryCtl s e) 24 3

/-- The part of a VLAN field that names the VLAN: tagged and VID. -/
def vlanKey (v : Nat) : Nat := v % 2 ^ 13

/-- What an entry is looked up by. -/
def entryKey (s : State) (e : Nat) : Nat × Nat × Nat × Nat :=
  let u := s.reg (aEntry e + 4)
  (entryPort s e, (s.reg (aEntry e)).toNat, wbits u 16 16, vlanKey (wbits u 0 16))

/-- Entries that take part in lookup. -/
def validEntries (s : State) : List Nat := (List.range 512).filter fun e => entryValid s e

def flowtabStatus (s : State) : Word := wordN (validEntries s).length

/-- A write of FLOWTAB_CTL_e: VALID stays clear where another valid entry has the same key. -/
def State.flowtabCtl (s : State) (e : Nat) (v : Word) : State :=
  let s1 := s.setReg (aEntry e + 12) (v &&& 0x870101FF)
  if wbit v 31 && (validEntries s1).any (fun x => x ≠ e && entryKey s1 x == entryKey s1 e) then
    (s1.lower (aEntry e + 12) 0x80000000).raise (aFlowtab + 4) 1
  else s1

/-- FLOWTAB_CTL_WRITE. -/
def execFlowtabCtlWrite (e : Fin 512) (v : Word) (s : State) : Host.Outcome State Fault Refusal :=
  guarded (aEntry e.val + 12) v (s.flowtabCtl e.val v)

/-- Ganen's hash bits of a port: its flow-table groups and PTP's. DEDUCED, log 112. -/
def State.hashRefresh (s : State) (k : Nat) : State :=
  let ips := ((validEntries s).filter fun e => entryPort s e = k).map fun e => (s.reg (aEntry e)).toNat
  let idx := (ptpGroups ++ (ips.filter isMulticast).map groupMac).map hashIndex
  let word := fun (i : Nat) => nsum ((List.range 32).map fun j => if idx.contains (32 * i + j) then 2 ^ j else 0)
  (List.range 16).foldl (fun s i => s.setReg (aNet k + 0x40 + 4 * i) (wordN (word i))) s

/-- Ganen's entries of a receive flow: entry `f` for the primary port and `256 + f` for the secondary. DEDUCED, log 113. -/
def State.flowEntries (s : State) (f : Nat) (w : Flow) : State :=
  let put := fun (s : State) (e port path : Nat) =>
    let c := 2 ^ 31 + port * 2 ^ 24 + path * 2 ^ 16 + b2n w.position * 2 ^ 8 + f
    (((((s.lower (aEntry e + 12) 0x80000000).setReg (aEntry e) (wordN w.dst)).setReg (aEntry e + 4)
      (wordN (w.udp * 2 ^ 16 + w.vlan))).setReg (aEntry e + 8) (wordN w.src)).flowtabCtl e (wordN c))
  let off := fun (s : State) (e : Nat) => s.lower (aEntry e + 12) 0x80000000
  let s0 := off (off s f) (256 + f)
  let s1 := if w.enable then put s0 f w.prim 0 else s0
  let s2 := if w.enable && w.sec ≠ 0xFF then put s1 (256 + f) w.sec 1 else s1
  (List.range 6).foldl (fun s k => s.hashRefresh k) s2

/-! ### Flows (R260, R261, R265) -/

/-- Samples per packet (Table NET-6). -/
def pktSamples (rate96 : Bool) (w : Flow) : Nat := nth 6 [6, 12, 16, 48] w.pt * (if rate96 then 2 else 1)
def smpBytes (w : Flow) : Nat := if w.l24 then 3 else 2
/-- Bytes of the RTP payload. -/
def rtpBytes (rate96 : Bool) (w : Flow) : Nat := w.ch * pktSamples rate96 w * smpBytes w
/-- Samples of the link offset, rounded down and up. -/
def linkFloor (s : State) (w : Flow) : Nat := w.link * s.fs / 1000000000
def linkCeil (s : State) (w : Flow) : Nat := (w.link * s.fs + 999999999) / 1000000000
/-- Playout depth D (R265). -/
def depth (s : State) (w : Flow) : Nat := linkCeil s w + pktSamples s.render.rate96 w + 16

def isRx (f : Nat) : Bool := f < 256
/-- Admitted receive media flows. -/
def rxMedia (s : State) : List (Nat × Flow) := s.net.flows.filter fun e => isRx e.1 && e.2.enable && !e.2.position

/-- Bytes of the playout pool in use (R265). -/
def playoutUse (s : State) : Nat := nsum ((rxMedia s).map fun e => e.2.ch * smpBytes e.2 * depth s e.2)
def playoutMax : Nat := 4063232

/-- Ports that a flow names. -/
def flowPorts (w : Flow) : List Nat := if w.sec = 0xFF then [w.prim] else [w.prim, w.sec]
def usesPort (w : Flow) (k : Nat) : Bool := (flowPorts w).contains k

/-- Two receive flows take the same datagrams. -/
def sameKey (a b : Flow) : Bool :=
  a.dst == b.dst && a.udp == b.udp && vlanKey a.vlan == vlanKey b.vlan && (flowPorts a).any fun k => usesPort b k

/-- The source code of a receive-flow channel (Table MIX-1). -/
def flowSource (f ch : Nat) : Nat := 2 * 2 ^ 14 + 64 * f + ch

/-- The flow that a FLOW_SET gives. -/
def flowSet (c : Cmd) (w : Flow) : Flow :=
  let m := c.at 24 4
  let pick := fun (b : Nat) (x y : Nat) => if m.testBit b then x else y
  let pickB := fun (b : Nat) (x y : Bool) => if m.testBit b then x else y
  { enable := pickB 0 (c.at 28 1 == 1) w.enable, position := pickB 1 (c.at 29 1 == 1) w.position, prim := pick 2 (c.at 30 1) w.prim,
    sec := pick 3 (c.at 31 1) w.sec, dst := pick 4 (c.at 32 4) w.dst, src := pick 5 (c.at 36 4) w.src, udp := pick 6 (c.at 40 2) w.udp,
    vlan := pick 7 (c.at 42 2) w.vlan, l24 := pickB 8 (c.at 44 1 == 1) w.l24, ch := pick 9 (c.at 45 1) w.ch,
    pt := pick 10 (c.at 46 1) w.pt, ptype := pick 11 (c.at 47 1) w.ptype, link := pick 12 (c.at 48 4) w.link,
    diff := pick 13 (c.at 52 4) w.diff, ssrc := pick 14 (c.at 56 4) w.ssrc, dscp := pick 15 (c.at 60 1) w.dscp }

/-- A change that clears a receive flow's buffer and record (R262). -/
def restarts (a b : Flow) : Bool :=
  !b.enable || a.enable != b.enable || a.position != b.position || a.prim ≠ b.prim || a.sec ≠ b.sec || a.dst ≠ b.dst || a.src ≠ b.src ||
    a.udp ≠ b.udp || a.vlan ≠ b.vlan || a.l24 != b.l24 || a.ch ≠ b.ch || a.pt ≠ b.pt || a.link ≠ b.link

/-- A flow's playout is cleared, with what it gave to the window that has just closed (R51, R88, R262). DEDUCED,
log 190. -/
def State.clearPlayout (s : State) (f : Nat) : State :=
  let mine := fun (c : Nat) => decide (flowSource f 0 ≤ c) && decide (c ≤ flowSource f 63)
  { s with render := { s.render with
    playout := s.render.playout.filter fun e => !mine e.1
    blocks := s.render.blocks.filter fun e => !(e.1 / 2 ^ 28 == 0 && mine (e.1 % 2 ^ 28)) } }

/-- An IGMP message of a flow on every port that it names (R262): kind, group, source filter. -/
def State.igmp (s : State) (kind : String) (w : Flow) : State :=
  (flowPorts w).foldl (fun s k => s.place k 3 (.msg kind [w.dst, w.src])) s

/-- A flow joins a group. -/
def joins (f : Nat) (w : Flow) : Bool := isRx f && w.enable && isMulticast w.dst

/-- The next hop of a unicast destination (R270). -/
def nextHop (s : State) (k : Nat) (ip : Nat) : Nat :=
  let h := 2 ^ (32 - (s.np k).ipBits)
  if ip / h = unitIp s k / h ∨ (s.np k).gateway = 0 then ip else (s.np k).gateway

/-- ARP requests for a transmit flow's destination. -/
def State.arpAsk (s : State) (w : Flow) : State :=
  (flowPorts w).foldl (fun s k => s.place k 3 (.msg "arp-request" [nextHop s k w.dst])) s

/-- NET_LINK (R250). -/
def State.netLink (s : State) (k : Nat) : State :=
  let code := if (s.np k).up then nth 0 [0, 3, 1, 2] (speedCode s k) else 0
  s.event 0x8700 ([BitVec.ofNat 8 k, BitVec.ofNat 8 code] ++ zeros 2)

/-! ### Rings (R254, R255, Table NET-5) -/

def aNetRing (k r : Nat) : Nat := aNet k + 0x100 + 0x20 * r
def ringSize (s : State) (k r : Nat) : Nat := wbits (s.reg (aNetRing k r + 8)) 0 13
def ringHead (s : State) (k r : Nat) : Nat := (s.reg (aNetRing k r + 16)).toNat
def ringTail (s : State) (k r : Nat) : Nat := (s.reg (aNetRing k r + 12)).toNat
def ringOn (s : State) (k r : Nat) : Bool := wbit (s.reg (aNetRing k r + 20)) 0
def bufSize (s : State) (k r : Nat) : Nat := 2 ^ (wbits (s.reg (aNetRing k r + 20)) 4 4 + 4)

/-- Descriptors between HEAD and TAIL. -/
def ringHeld (s : State) (k r : Nat) : Nat :=
  let n := ringSize s k r
  if !ringOn s k r || n = 0 then 0 else (ringTail s k r + n - ringHead s k r) % n

/-- Address of the descriptor at HEAD. -/
def descAddr (s : State) (k r : Nat) : Nat := s.reg64 (aNetRing k r) + 32 * ringHead s k r

/-- HEAD moves on. -/
def State.ringNext (s : State) (k r : Nat) : State :=
  s.setReg (aNetRing k r + 16) (wordN ((ringHead s k r + 1) % max 1 (ringSize s k r)))

/-- Write back the descriptor at HEAD where a memory holds it: status, stamp and tag. DEDUCED, log 119. -/
def State.descDone (s : State) (k r status ns tag : Nat) : State :=
  let a := descAddr s k r
  let s1 := if s.spanOk a 32 then
      s.memWrite (a + 12) (leBytes 4 status ++ leBytes 8 (secOf ns) ++ leBytes 4 (nsOf ns) ++ leBytes 2 tag)
    else s
  s1.ringNext k r

/-- The first address of a ring's next `n` buffers, for `len` bytes of a frame, that no memory answers (R28): a descriptor's or its
buffer's. -/
def ringHole (s : State) (k r len : Nat) : Nat → Nat → Option Nat
  | _, 0 => none
  | i, n + 1 =>
    let a := s.reg64 (aNetRing k r) + 32 * ((ringHead s k r + i) % max 1 (ringSize s k r))
    let b := leNat (s.readBytes a 8)
    if !s.spanOk a 32 then some a
    else if !s.spanOk b (min len (bufSize s k r)) then some b
    else if len ≤ bufSize s k r then none
    else ringHole s k r (len - bufSize s k r) (i + 1) n

/-- A ring access that ends in a bus error is recorded (Table MEM-2). DEDUCED, log 201. -/
def State.engHang (s : State) (a : Nat) (write : Bool) : State :=
  let q : BusReq := { master := 3, addr := a, size := 1, write := if write then some [] else none }
  s.hangRecord q (busTarget s 3 a)

/-- Fill buffers with a frame; `none` when they run out, with the state in which the filled ones are returned DISCARD. -/
def fillRing (k r tag ns : Nat) (first : Bool) : Nat → List Byte → State → Option State
  | 0, _, _ => none
  | n + 1, bs, s =>
    let len := bufSize s k r
    let now := bs.take len
    let rest := bs.drop len
    let status := 2 ^ 31 + b2n first * 2 ^ 30 + b2n rest.isEmpty * 2 ^ 29 + b2n first * 2 ^ 25 + now.length
    let s1 := (s.memWrite (leNat (s.readBytes (descAddr s k r) 8)) now).descDone k r status ns tag
    if rest.isEmpty then some s1 else fillRing k r tag ns false n rest s1

/-- Return `n` posted buffers with DISCARD. -/
def discardRing (k r : Nat) : Nat → State → State
  | 0, s => s
  | n + 1, s => discardRing k r n (s.descDone k r (2 ^ 31 + 2 ^ 28) 0 0xFFFF)

/-- Buffers that a frame of `len` bytes takes. -/
def ringNeeds (s : State) (k r len : Nat) : Nat := max 1 ((len + bufSize s k r - 1) / bufSize s k r)

/-- A frame to a receive ring: the state, and whether it was kept. -/
def State.toRing (s : State) (k r tag : Nat) (bs : List Byte) : State × Bool :=
  let held := ringHeld s k r
  match ringHole s k r bs.length 0 held with
  | some a => (discardRing k r (min held (ringNeeds s k r bs.length)) (s.engHang a true), false)
  | none =>
    match fillRing k r tag (s.stamp k false) true held bs s with
    | some s1 => (s1.netCount k 0, true)
    | none => (((discardRing k r held s).netCount k 5).netErr k 1, false)

/-! ### Frames (R251, R253) -/

/-- A frame without its FCS, parted (R253): addresses, PCP and VID where tagged, EtherType, contents. -/
structure Frame where
  dst : Nat
  src : Nat
  tag : Option Nat
  etype : Nat
  body : List Byte
  deriving DecidableEq, Repr

def parseFrame (bs : List Byte) : Frame :=
  let t := beAt bs 12 2
  if t = 0x8100 then
    { dst := beAt bs 0 6, src := beAt bs 6 6, tag := some (beAt bs 14 2), etype := beAt bs 16 2, body := (bs.drop 18).take (bs.length - 22) }
  else { dst := beAt bs 0 6, src := beAt bs 6 6, tag := none, etype := t, body := (bs.drop 14).take (bs.length - 18) }

/-- VID of a frame; a tag with VID 0 is none. -/
def Frame.vid (f : Frame) : Option Nat := match f.tag with | some t => if t % 2 ^ 12 = 0 then none else some (t % 2 ^ 12) | none => none

/-- Ones' complement sum of 16-bit words. -/
def sum16 : List Byte → Nat
  | [] => 0
  | [a] => a.toNat * 256
  | a :: b :: t => a.toNat * 256 + b.toNat + sum16 t

def folded (n : Nat) : Nat := let m := n % 65536 + n / 65536; m % 65536 + m / 65536

/-- An IPv4 datagram. -/
structure Ipv4 where
  src : Nat
  dst : Nat
  proto : Nat
  frag : Bool
  /-- A fragment after the first: it has no UDP header. -/
  later : Bool
  sumOk : Bool
  body : List Byte
  deriving DecidableEq, Repr

def parseIp (f : Frame) : Option Ipv4 :=
  let b := f.body
  if f.etype ≠ 0x0800 ∨ b.length < 20 ∨ beAt b 0 1 / 16 ≠ 4 then none
  else
    let h := beAt b 0 1 % 16 * 4
    some { src := beAt b 12 4, dst := beAt b 16 4, proto := beAt b 9 1, frag := beAt b 6 2 % 2 ^ 14 ≠ 0,
           later := beAt b 6 2 % 2 ^ 13 ≠ 0,
           sumOk := folded (sum16 (b.take h)) == 0xFFFF, body := (b.take (beAt b 2 2)).drop h }

/-- UDP ports, whether the checksum holds or is 0, and the payload. -/
def parseUdp (p : Ipv4) : Nat × Nat × Bool × List Byte :=
  let b := p.body
  let len := beAt b 4 2
  let pseudo := beBytes 4 p.src ++ beBytes 4 p.dst ++ beBytes 2 17 ++ beBytes 2 len
  (beAt b 0 2, beAt b 2 2, beAt b 6 2 == 0 || folded (sum16 (pseudo ++ b.take len)) == 0xFFFF, (b.take len).drop 8)

/-- The entry that a UDP datagram matches (R253, R276). -/
def lookup (s : State) (k : Nat) (f : Frame) (dst port : Nat) : Option Nat :=
  let want := fun (e : Nat) =>
    let key := entryKey s e
    let v := key.2.2.2
    let vlanOk := if v.testBit 12 then f.vid == some (v % 2 ^ 12) else f.vid == none
    key.1 == k && key.2.1 == dst && key.2.2.1 == port && vlanOk
  (validEntries s).find? want

/-- A VID that the port takes (R251). -/
def vlanPass (s : State) (k : Nat) (f : Frame) : Bool :=
  match f.vid with
  | none => true
  | some v =>
    wbits (s.reg (aNet k + 12)) 0 12 == v || (validEntries s).any fun e => entryPort s e == k && (entryKey s e).2.2.2 % 2 ^ 12 == v

/-! ### Depacketising (R263 to R268) -/

/-- The number congruent to `x` modulo `m` that lies nearest `near`. -/
def nearestMod (m x near : Nat) : Nat :=
  let d := (x + m - near % m) % m
  if d < m / 2 then near + d else if near + d ≥ m then near + d - m else near + d

/-- The sample number of the present media time. -/
def State.sampleNow (s : State) : Nat := s.lNs * s.fs / 1000000000

/-- First sample number of the open window. -/
def State.openSample (s : State) : Nat := 16 * (s.render.n + 1)

/-- Samples as stored, in Q5.27 (R8). -/
def sampleOf (w : Flow) (bs : List Byte) : Int :=
  if w.l24 then beIntAt bs 0 3 * 2 ^ 4 else beIntAt bs 0 2 * 2 ^ 12

/-- A sample of a packet reaches its place. -/
def placeOne (w : Flow) (f first : Nat) (pl : List Byte) (k ch : Nat) (m : SMap (SMap Int)) : SMap (SMap Int) :=
  mmod [] m (flowSource f ch) fun q => mset q (first + k) (sampleOf w (pl.drop ((k * w.ch + ch) * smpBytes w)))

/-- Every sample of a packet whose window is open reaches its place. -/
def State.placeAll (s : State) (w : Flow) (f first n : Nat) (pl : List Byte) : State :=
  let ks := (List.range n).filter fun k => first + k ≥ s.openSample
  let one := fun (m : SMap (SMap Int)) (k : Nat) => (List.range w.ch).foldl (fun m ch => placeOne w f first pl k ch m) m
  { s with render := { s.render with playout := ks.foldl one s.render.playout } }

/-- The extended sequence number of a packet, and whether it resets the record (R266). -/
def extendSeq (rt : FlowRt) (q : Nat) : Nat × Bool :=
  match rt.newest with
  | none => (2 ^ 16 + q, true)
  | some (n, _) => let e := nearestMod (2 ^ 16) q n; (e, decide (e > n + 512))

/-- A path delivers a packet: it is UP, and its counter moves. -/
def State.pathSeen (s : State) (f path : Nat) : State :=
  let s1 := s.count (kFlow f path)
  s1.modFlowRt f fun r => if path = 0 then { r with upA := true, lastA := s.lNs } else { r with upB := true, lastB := s.lNs }

/-- Note a further copy: DUP, its path, and SKEW by the lag where it is the other path's first. -/
def State.dupSeen (s : State) (f path e : Nat) (w : Flow) : State :=
  let has := fun (r : PktRec) => if path = 0 then r.a else r.b
  let note := fun (r : PktRec) => if r.seq = e then { r with a := r.a || path == 0, b := r.b || path == 1 } else r
  let lag := match (s.flowRt f).recs.find? fun r => r.seq = e && !has r with | some r => some (s.lNs - r.at') | none => none
  (s.count (kFlow f 2)).modFlowRt f fun r =>
    { r with recs := r.recs.map note, skew := match lag with | some l => decide (l > w.diff) | none => r.skew }

/-- Note a packet's number: the record is reset by a sender that has restarted, and the newest number moves on (R266). -/
def State.recSeen (s : State) (f e place : Nat) (fresh : Bool) : State :=
  s.modFlowRt f fun r =>
    let top := match r.newest with | some (n, p) => if fresh || decide (e > n) then (e, place) else (n, p) | none => (e, place)
    { r with recs := if fresh then [] else r.recs.filter (fun x => x.seq + 512 > top.1), newest := some top, acct := if fresh then e else r.acct }

/-- Keep a placed packet in the record. -/
def State.recPlaced (s : State) (f path e : Nat) : State :=
  s.modFlowRt f fun r =>
    { r with recs := r.recs ++ [{ seq := e, a := path == 0, b := path == 1, both := r.upA && r.upB, at' := s.lNs }] }

/-- A packet that has passed R263. DEDUCED, log 116. -/
def State.depacket (s : State) (f path : Nat) (w : Flow) (q ts : Nat) (pl : List Byte) : State :=
  let s1 := s.pathSeen f path
  let n := pktSamples s.render.rate96 w
  let first := nearestMod (2 ^ 32) ts s.sampleNow + linkFloor s w
  let (e, fresh) := extendSeq (s.flowRt f) q
  let dup := w.sec ≠ 0xFF && !fresh && (s.flowRt f).recs.any fun r => r.seq == e
  if dup then s1.dupSeen f path e w
  else
    let s2 := s1.recSeen f e first fresh
    if first + n - 1 ≥ s.openSample + depth s w then s2.count (kFlow f 6)
    else
      let s3 := if first < s.openSample then s2.count (kFlow f 5) else s2
      if first + n ≤ s.openSample then s3 else (s3.placeAll w f first n pl).recPlaced f path e

/-- A datagram of a media flow at the depacketiser. -/
def State.rtp (s : State) (f path : Nat) (b : List Byte) : State :=
  let w := s.flow f
  let bad := b.length < 12 || beAt b 0 1 / 64 ≠ 2 || beAt b 0 1 / 16 % 2 == 1 || beAt b 0 1 % 16 ≠ 0 || beAt b 1 1 % 128 ≠ w.ptype ||
    b.length - 12 ≠ rtpBytes s.render.rate96 w
  if bad then s.count (kFlow f 7) else s.depacket f path w (beAt b 2 2) (beAt b 4 4) (b.drop 12)

/-- A path goes DOWN. -/
def State.pathDown (s : State) (f : Nat) (second : Bool) : State :=
  s.modFlowRt f fun r => if second then { r with upB := false } else { r with upA := false }

/-- PATH_DOWN. -/
def execPathDown (f : Fin 256) (second : Bool) (s : State) : Host.Outcome State Fault Refusal :=
  let r := s.flowRt f.val
  let w := s.flow f.val
  let wait := max 1000000 (8 * pktSamples s.render.rate96 w * 1000000000 / s.fs)
  let up := if second then r.upB else r.upA
  let last := if second then r.lastB else r.lastA
  .next (if up && decide (s.lNs ≥ last + wait) then s.pathDown f.val second else s)

/-- The block of a flow channel whose window closes at the boundary in hand (R16, R88, R267). -/
def flowBlock (s : State) (code : Nat) : List Int :=
  let f := code % 2 ^ 14 / 64
  let w := s.flow f
  let q := mget [] s.render.playout code
  (List.range 16).map fun j => if w.enable && !w.position && code % 64 < w.ch then mget 0 q (16 * s.render.n + j) else 0

/-- Packets of a flow whose last window has closed, up to the newest number received: those that brought nothing are LOST, those
that only one of two paths brought while both were UP are RECOVERED. DEDUCED, log 115. -/
def closePkts (n stop : Nat) (top : Nat × Nat) (recs : List PktRec) (two : Bool) : Nat → Nat → Nat × Nat × Nat
  | 0, e => (e, 0, 0)
  | fuel + 1, e =>
    if e ≤ top.1 ∧ top.2 + e * n + n ≤ stop + top.1 * n then
      let r := closePkts n stop top recs two fuel (e + 1)
      match recs.find? fun x => x.seq == e with
      | none => (r.1, r.2.1 + 1, r.2.2)
      | some x => (r.1, r.2.1, r.2.2 + b2n (two && x.both && (x.a != x.b)))
    else (e, 0, 0)

/-- A flow's window closes: what it counts, and what its buffer lets go. Called with `render.n` at the boundary in hand. -/
def State.flowClose (s : State) (f : Nat) : State :=
  let w := s.flow f
  let rt := s.flowRt f
  let n := pktSamples s.render.rate96 w
  let stop := 16 * (s.render.n + 1)
  let got := (mget [] s.render.playout (flowSource f 0)).any fun e => decide (16 * s.render.n ≤ e.1) && decide (e.1 < stop)
  let trim := fun (e : Nat × SMap Int) =>
    if decide (flowSource f 0 ≤ e.1) && decide (e.1 ≤ flowSource f 63) then (e.1, e.2.filter fun x => decide (x.1 ≥ stop)) else e
  let s1 := { s with render := { s.render with playout := (s.render.playout.map trim).filter fun e => !e.2.isEmpty } }
  let s2 := s1.modFlowRt f fun r => { r with receiving := got }
  match rt.newest with
  | none => s2
  | some top =>
    let c := closePkts n stop top rt.recs (w.sec ≠ 0xFF) (stop + 1) rt.acct
    ((s2.count (kFlow f 4) c.2.1).count (kFlow f 3) c.2.2).modFlowRt f fun r => { r with acct := c.1 }

/-- Every receive flow's window closes. -/
def State.netClose (s : State) : State := (rxMedia s).foldl (fun s e => s.flowClose e.1) s

/-! ### Frames that Ganen takes from a ring (R262, R270) -/

/-- Flows that a query or an answer concerns are marked. -/
def State.onFlows (s : State) (p : Nat → Flow → Bool) (g : FlowRt → FlowRt) : State :=
  s.net.flows.foldl (fun s e => if p e.1 e.2 then s.modFlowRt e.1 g else s) s

/-- ARP: a request for an address of the device is answered, and an answer resolves the flows that await it. -/
def State.arpIn (s : State) (k : Nat) (b : List Byte) : State :=
  let op := beAt b 6 2
  let ip := beAt b 24 4
  if op = 1 then
    if ip = unitIp s k then s.place k 3 (.msg "arp-reply" [ip, unitMac s k])
    else if svcOn s k && ip == svcIp s k && s.gate then s.place k 3 (.msg "arp-reply" [ip, svcMac s k]) else s
  else
    let mac := beAt b 8 6
    s.onFlows (fun f w => !isRx f && w.enable && usesPort w k && nextHop s k w.dst == beAt b 14 4) fun r =>
      { r with mac := mset r.mac k mac }

/-- A fragment of a datagram to the KCP port of a port where KCP is enabled; one after the first names no port. DEDUCED, log 117. -/
def kcpFragment (s : State) (k : Nat) (p : Ipv4) : Bool :=
  let kr := s.reg (aNet k + 0x28)
  p.proto == 17 && p.frag && wbit kr 16 && p.dst == unitIp s k && (p.later || (parseUdp p).2.1 == wbits kr 0 16)

/-- A frame of ring 0. -/
def State.bestEffort (s : State) (k : Nat) (f : Frame) : State :=
  if f.etype = 0x0806 then s.arpIn k f.body
  else match parseIp f with
    | none => s
    | some p =>
      if p.proto = 2 ∧ beAt p.body 0 1 = 0x11 then
        let g := beAt p.body 4 4
        s.onFlows (fun x w => joins x w && usesPort w k && (g == 0 || g == w.dst)) fun r => { r with query := true }
      else if p.proto = 1 ∧ beAt p.body 0 1 = 8 ∧ p.dst = unitIp s k then s.place k 3 (.msg "icmp-echo-reply" [p.src, beAt p.body 4 4])
      else if s.serving && kcpFragment s k p then s.count (kDev 0)
      else s

/-! ### Media packets (R256, R258, R269 to R271) -/

/-- Nanoseconds of a packet time. -/
def pktNs (s : State) (w : Flow) : Nat := pktSamples s.render.rate96 w * 1000000000 / s.fs

/-- A checksum field over bytes whose own field is 0. -/
def inetSum (bs : List Byte) : Nat := 0xFFFF - folded (sum16 bs)

/-- The RTP packet (R269): samples interleaved by channel. -/
def rtpPacket (w : Flow) (p : TxPkt) : List Byte :=
  let n := ((p.smp.map List.length).foldl max 0)
  let pl := (List.range n).map fun j => (p.smp.map fun c => beInt (smpBytes w) (nth 0 c j)).flatten
  [0x80, BitVec.ofNat 8 w.ptype] ++ beBytes 2 p.seq ++ beBytes 4 p.ts ++ beBytes 4 w.ssrc ++ pl.flatten

/-- The UDP datagram that carries it, from a port's service address. -/
def udpPacket (src : Nat) (w : Flow) (rtp : List Byte) : List Byte :=
  let len := rtp.length + 8
  let head := beBytes 2 w.udp ++ beBytes 2 w.udp ++ beBytes 2 len
  let c := inetSum (beBytes 4 src ++ beBytes 4 w.dst ++ beBytes 2 17 ++ beBytes 2 len ++ head ++ zeros 2 ++ rtp)
  head ++ beBytes 2 (if c = 0 then 0xFFFF else c) ++ rtp

/-- The IPv4 datagram: DSCP, don't-fragment set, the port's TTL. DESIGN CHOICE, log 202. -/
def ipPacket (src ttl : Nat) (w : Flow) (udp : List Byte) : List Byte :=
  let a := [0x45, BitVec.ofNat 8 (4 * w.dscp)] ++ beBytes 2 (udp.length + 20) ++ zeros 2 ++ [0x40, 0, BitVec.ofNat 8 ttl, 17]
  let b := beBytes 4 src ++ beBytes 4 w.dst
  a ++ beBytes 2 (inetSum (a ++ zeros 2 ++ b)) ++ b ++ udp

/-- The frame of a media packet on a port, with its FCS. -/
def mediaFrame (s : State) (k : Nat) (w : Flow) (mac : Nat) (p : TxPkt) : List Byte :=
  let tag := if w.vlan.testBit 12 then [0x81, 0x00] ++ beBytes 2 (w.vlan - 2 ^ 12) else []
  let b := beBytes 6 mac ++ beBytes 6 (svcMac s k) ++ tag ++ [0x08, 0x00] ++
    ipPacket (svcIp s k) (s.np k).ttl w (udpPacket (svcIp s k) w (rtpPacket w p))
  b ++ leBytes 4 (crc32eth b).toNat

/-- The destination address of a flow's packets on a port (R270). -/
def destMac (s : State) (f k : Nat) : Option Nat :=
  let w := s.flow f
  if isMulticast w.dst then some (groupMac w.dst) else mfind (s.flowRt f).mac k

/-- Bits in a nanosecond on a port. -/
def gigabits (s : State) (k : Nat) : Nat := nth 1 [1, 1, 10, 25] (speedCode s k)

/-- A media packet is sent on a port. DEDUCED, log 123. -/
def State.sendMedia (s : State) (f k mac : Nat) (p : TxPkt) : State :=
  let bs := mediaFrame s k (s.flow f) mac p
  let s1 := s.modNp k fun q => { q with sending := some (f, s.lNs + 8 * bs.length / gigabits s k + 1) }
  ((s1.emit (.media f k bs)).netCount k 6).count (kFlow f 10)

/-- A media packet that the port cannot send is dropped. -/
def State.dropMedia (s : State) (f k : Nat) : State := ((s.netCount k 7).netErr k 5).count (kFlow f 11)

/-- A built packet at its instant, on one port: unresolved, dropped, waiting or sent. -/
def State.offerMedia (s : State) (f k : Nat) (p : TxPkt) : State :=
  match destMac s f k with
  | none => s.count (kFlow f 12)
  | some mac =>
    if !(s.np k).up || !s.netOn then s.dropMedia f k
    else if (s.np k).pause ≠ 0 then s.modNp k fun q => { q with wait := q.wait ++ [(f, p)] }
    else s.sendMedia f k mac p

/-- A packet at its instant: gated away, or offered to each port (R269 to R271). -/
def State.offer (s : State) (f : Nat) (p : TxPkt) : State :=
  if !s.gate then s else (flowPorts (s.flow f)).foldl (fun s k => s.offerMedia f k p) s

/-- A sample that has left the render toward a transmit-flow channel, in the flow's encoding. -/
def sentSample (s : State) (w : Flow) (f ch i : Nat) : Int :=
  let b := mget [] s.net.sent (64 * f + ch)
  let x := match b.find? fun e => e.1 == i / 16 with | some e => nth 0 e.2 (i % 16) | none => 0
  if w.l24 then sat 24 (shrEven x 4) else sat 16 (shrEven x 12)

/-- The packet of interval `i`, whose end is its instant. -/
def buildPkt (s : State) (f i : Nat) : TxPkt :=
  let w := s.flow f
  let n := pktSamples s.render.rate96 w
  { seq := (s.flowRt f).seq, ts := i * n % 2 ^ 32, at' := (i + 1) * n * 1000000000 / s.fs,
    smp := (List.range w.ch).map fun ch => (List.range n).map fun j => sentSample s w f ch (i * n + j) }

/-- PACKET_TRANSMIT of transmit flow 256 + f: the packet whose interval has just ended. During a change of the render rate it carries
zeros (R45). -/
def execPacketTransmit (f : Fin 256) (s : State) : Host.Outcome State Fault Refusal :=
  let x := 256 + f.val
  let w := s.flow x
  let rt := s.flowRt x
  let n := pktSamples s.render.rate96 w
  let i := s.sampleNow / n - 1
  let isDone := match rt.done with | some d => decide (i ≤ d) | none => false
  if !w.enable || isDone || decide (i * n < rt.since) || !(s.render.run || s.render.changing) then .next s
  else
    let p := buildPkt s x i
    .next ((s.modFlowRt x fun r => { r with seq := (r.seq + 1) % 2 ^ 16, done := some i, pkt := some p }).offer x p)

/-- A packet's transmission has not begun one packet time after its instant. -/
def isLate (s : State) (e : Nat × TxPkt) : Bool := e.2.at' + pktNs s (s.flow e.1) ≤ s.lNs

/-- TX_LATE_DROP: the oldest late packet that waits at a port is dropped. -/
def execTxLateDrop (k : Fin 4) (s : State) : Host.Outcome State Fault Refusal :=
  match (s.np k.val).wait.find? (isLate s) with
  | none => .next s
  | some e => .next ((s.modNp k.val fun q => { q with wait := q.wait.erase e }).dropMedia e.1 k.val)

/-- What waits at a port is sent, but for what is late. -/
def State.sendWaiting (s : State) (k : Nat) : State :=
  let one := fun (s : State) (e : Nat × TxPkt) =>
    if isLate s e then s.dropMedia e.1 k
    else match destMac s e.1 k with
      | some mac => if s.gate then s.sendMedia e.1 k mac e.2 else s
      | none => s
  (s.np k).wait.foldl one (s.modNp k fun q => { q with wait := [] })

/-- The transmitter resumes, in the order of R256. -/
def State.resume (s : State) (k : Nat) : State := ((s.sendWaiting k).flushOwn k 2).flushOwn k 3

/-- PAUSE_EXPIRY. -/
def execPauseExpiry (k : Fin 6) (s : State) : Host.Outcome State Fault Refusal :=
  .next (if (s.np k.val).pause = 0 then s else (s.modNp k.val fun p => { p with pause := 0 }).resume k.val)

/-- The output gate opens (R271): each flow's newest packet goes out where its instant lies less than a packet time back, and each
service address is announced. -/
def State.netActive (s : State) : State :=
  let one := fun (s : State) (e : Nat × FlowRt) =>
    match e.2.pkt with
    | some p => if (s.flow e.1).enable && !isLate s (e.1, p) then s.offer e.1 p else s
    | none => s
  let s1 := s.net.rt.foldl one s
  (List.range 4).foldl (fun s k => if svcOn s k then s.place k 3 (.msg "gratuitous-arp" [svcIp s k, svcMac s k]) else s) s1

/-! ### FRAME_RECEIVED -/

/-- A UDP datagram that matches a flow-table entry. DEDUCED, log 117. -/
def State.flowFrame (s : State) (k e : Nat) (p : Ipv4) (bs : List Byte) : State :=
  let c := entryCtl s e
  let f := wbits c 0 8
  let u := parseUdp p
  let src := (s.reg (aEntry e + 8)).toNat
  if src ≠ 0 ∧ src ≠ p.src then s.count (kFlow f 8)
  else if !p.sumOk || !u.2.2.1 then s.count (kFlow f 7)
  else if wbit c 8 then
    let r := s.toRing k 1 f bs
    if r.2 then { r.1 with net := { r.1.net with pos := r.1.net.pos ++ [(f, u.2.2.2)] } } else r.1
  else (s.netCount k 0).rtp f (b2n (wbit c 16)) u.2.2.2

/-- Ring 1: the frame is PTP's or KCP's. -/
def State.kcpFrame (s : State) (k : Fin 6) (p : Ipv4) (bs : List Byte) : State :=
  let u := parseUdp p
  if !p.sumOk || !u.2.2.1 then s.netCount k.val 3
  else
    let r := s.toRing k.val 1 0xFFFF bs
    if r.2 then
      let ep : Endpoint := .udp k (wordN p.src) (BitVec.ofNat 16 u.1)
      { r.1 with kcp := { r.1.kcp with rx := r.1.kcp.rx ++ [(ep, u.2.2.2)] } }
    else r.1

/-- Classification (Table NET-4). -/
def State.classify (s : State) (k : Fin 6) (f : Frame) (bs : List Byte) : State :=
  let best := fun (s : State) => let r := s.toRing k.val 0 0xFFFF bs; if r.2 then r.1.bestEffort k.val f else r.1
  if f.etype = 0x88F7 then (s.toRing k.val 1 0xFFFF bs).1
  else match parseIp f with
    | none => best s
    | some p =>
      let u := parseUdp p
      if p.proto ≠ 17 then best s
      else if !p.later && (u.2.1 == 319 || u.2.1 == 320) then (s.toRing k.val 1 0xFFFF bs).1
      else if p.frag then best s
      else match lookup s k.val f p.dst u.2.1 with
        | some e => s.flowFrame k.val e p bs
        | none =>
          let kr := s.reg (aNet k.val + 0x28)
          if wbit kr 16 && p.dst == unitIp s k.val && u.2.1 == wbits kr 0 16 then s.kcpFrame k p bs else best s

/-- FRAME_RECEIVED: the frame with its FCS, whether a symbol was in error, whether the FIFO was full, and whether it is a
Verify or Respond mPacket. -/
def execFrameReceived (k : Fin 6) (bs : List Byte) (symbol fifo mPacket : Bool) (s : State) : Host.Outcome State Fault Refusal :=
  let f := parseFrame bs
  let n := bs.length
  let fcs := symbol || n < 4 || leAt bs (n - 4) 4 ≠ (crc32eth (bs.take (n - 4))).toNat
  if !(s.np k.val).up || !s.netOn then .next s
  else if fcs then .next (s.netCount k.val 1)
  else if n < 64 || n > maxFrame s k.val then .next (s.netCount k.val 2)
  else if mPacket then .next s
  else if f.etype = 0x8808 then
    if beAt f.body 0 2 = 1 then
      let s1 := (s.modNp k.val fun p => { p with pause := beAt f.body 2 2 }).netCount k.val 8
      .next (if beAt f.body 2 2 = 0 then s1.resume k.val else s1)
    else .next (s.netCount k.val 3)
  else if fifo then .next ((s.netCount k.val 4).netErr k.val 0)
  else if !addrPass s k.val f.dst || !vlanPass s k.val f then .next (s.netCount k.val 3)
  else .next (s.classify k f bs)

/-! ### Position flows (R235) -/

/-- The command that a position datagram stands for: bytes 20 onward of an OBJECT_POS_BULK payload. -/
def posCmd (b : List Byte) : Cmd :=
  { ep := .spi, sess := 0, seq := 0, op := 0x0201, txn := 0, tagged := false, payload := (b.drop 8).take (b.length - 12) }

/-- A datagram that R235 passes. -/
def posOk (s : State) (f : Nat) (b : List Byte) : Bool :=
  let c := posCmd b
  let n := b.length
  let q := beAt b 4 4
  let newer := match (s.flowRt f).pos with
    | none => true
    | some h => let d := (q + 2 ^ 32 - h) % 2 ^ 32; decide (1 ≤ d) && decide (d < 2 ^ 31)
  n ≥ 28 && n == 28 + 16 * c.at 32 2 && beAt b 0 4 == 0x4B504F53 && crc32c (b.take (n - 4)) == BitVec.ofNat 32 (beAt b (n - 4) 4) &&
    newer && (bulkParam c s).isNone

/-- POSITION_DATAGRAM: Ganen takes a datagram that a ring holds, or one that arrives at once. -/
def execPositionDatagram (f : Fin 256) (b : List Byte) (s : State) : Host.Outcome State Fault Refusal :=
  let s1 := { s with net := { s.net with pos := s.net.pos.erase (f.val, b) } }
  let w := s.flow f.val
  if !s.serving || !w.enable || !w.position || s.standby then .next s1
  else if posOk s1 f.val b then
    .next ((s1.modFlowRt f.val fun r => { r with pos := some (beAt b 4 4) }).enter (.position ((b.drop 8).take (b.length - 12))))
  else .next (s1.count (kFlow f.val 9))

/-! ### Rings to transmit (R250, R256, R257, R259) -/

/-- Return the frames at a transmit ring's HEAD unsent. -/
def returnUnsent (k r : Nat) : Nat → State → State
  | 0, s => s
  | n + 1, s =>
    let a := descAddr s k r
    let s1 := if s.spanOk a 32 then s.memWrite (a + 12) (leBytes 4 (2 ^ 31 + 2 ^ 27)) else s
    returnUnsent k r n (s1.ringNext k r)

/-- Everything queued on the transmit rings of a port whose link is down goes back (R250). -/
def State.unsent (s : State) (k : Nat) : State :=
  let s1 := returnUnsent k 2 (ringHeld s k 2) s
  returnUnsent k 3 (ringHeld s1 k 3) s1

/-- RING_FRAME_TRANSMIT: the express ring's frame goes before the pre-emptable ring's, which may leave in fragments.
DESIGN CHOICE, log 120. -/
def execRingFrameTransmit (k : Fin 6) (frags : Nat) (s : State) : Host.Outcome State Fault Refusal :=
  let p := s.np k.val
  let r := if ringHeld s k.val 2 ≠ 0 then 2 else 3
  if !s.netOn || ringHeld s k.val r = 0 then .next s
  else if !p.up then .next (s.unsent k.val)
  else if p.pause ≠ 0 then .next s
  else
    let a := descAddr s k.val r
    let d := s.readBytes a 32
    let n := leAt d 8 4
    if !s.spanOk a 32 then .next ((s.engHang a false).descDone k.val r (2 ^ 31 + 2 ^ 28) 0 0xFFFF)
    else if !s.spanOk (leAt d 0 8) (max 1 n) then .next ((s.engHang (leAt d 0 8) false).descDone k.val r (2 ^ 31 + 2 ^ 28) 0 (leAt d 28 2))
    else
    let bs := s.readBytes (leAt d 0 8) n
    let ask := (leAt d 12 4).testBit 26
    let tag := leAt d 28 2
    let s1 := (s.emit (.frame k.val r bs)).netCount k.val 6
    let s2 := if r = 3 && p.preempt == 2 then s1.netCount k.val 10 frags else s1
    let st := if ask then s2.txStamp k.val tag else (s2, false)
    let status := 2 ^ 31 + 2 ^ 30 + 2 ^ 29 + b2n st.2 * 2 ^ 25 + n % 2 ^ 16
    .next (st.1.descDone k.val r status (if st.2 then s.stamp k.val true else 0) tag)

/-- A pause leaves a management port: with quanta 0xFFFF, or 0 to let its partner go on. -/
def State.sendPause (s : State) (k q : Nat) : State :=
  ((s.modNp k fun p => { p with pausing := q ≠ 0 }).emit (.net k "pause" [q])).netCount k 9

/-- A port that may pause its partner (R259). -/
def pauses (s : State) (k : Nat) : Bool := !isMedia k && netCtl s k 16 && (s.np k).up

/-- Both rings again hold at least one quarter: the partner goes on. -/
def State.pauseEnd (s : State) (k : Nat) : State :=
  let enough := fun (r : Nat) => decide (ringHeld s k r * 4 ≥ ringSize s k r)
  if pauses s k && (s.np k).pausing && enough 0 && enough 1 then s.sendPause k 0 else s

/-- PAUSE_TX of NETPORT_4 + k: the first pause, or its repeat after 16384 quanta. -/
def execPauseTx (k : Fin 2) (s : State) : Host.Outcome State Fault Refusal :=
  let p := 4 + k.val
  let few := fun (r : Nat) => decide (ringHeld s p r * 8 < ringSize s p r)
  .next (if pauses s p && (few 0 || few 1) then s.sendPause p 0xFFFF else s.pauseEnd p)

/-- A write of NETPORT_RING_TAIL_r: frames queued while the link is down go back (R250); posted buffers may end a pause. -/
def State.ringTailWrite (s : State) (k r : Nat) (v : Word) : State :=
  let s1 := s.setReg (aNetRing k r + 12) (v &&& 0xFFF)
  if r < 2 then s1.pauseEnd k else if (s1.np k).up then s1 else s1.unsent k

/-- NETPORT_RING_TAIL. -/
def execNetportRingTail (k : Fin 6) (r : Fin 4) (v : Word) (s : State) : Host.Outcome State Fault Refusal :=
  guarded (aNetRing k.val r.val + 12) v (s.ringTailWrite k.val r.val v)

/-! ### Links (R250, R257, R272) -/

/-- PREEMPT after the link comes up or the field is set: verification begins where it is on. -/
def State.preemptStart (s : State) (k : Nat) : State :=
  s.modNp k fun p => { p with preempt := if isMedia k && netCtl s k 24 && p.up then 1 else 0 }

/-- The link is lost. -/
def State.linkDown (s : State) (k : Nat) : State :=
  if !(s.np k).up then s
  else
    let w := (s.np k).wait
    let s1 := s.modNp k fun p => { p with up := false, pause := 0, preempt := 0, wait := [], own := [], pausing := false, sending := none }
    let s2 := w.foldl (fun s e => s.dropMedia e.1 k) s1
    (((s2.unsent k).netCount k 11).netErr k 2).netLink k

/-- LINK_DOWN. -/
def execLinkDown (k : Fin 6) (s : State) : Host.Outcome State Fault Refusal := .next (s.linkDown k.val)

/-- LINK_UP. -/
def execLinkUp (k : Fin 6) (s : State) : Host.Outcome State Fault Refusal :=
  if (s.np k.val).up || !netCtl s k.val 0 || !s.netOn then .next s
  else .next (((s.modNp k.val fun p => { p with up := true, restoring := false }).preemptStart k.val).netLink k.val)

/-- PREEMPT_VERIFY_DONE. -/
def execPreemptVerifyDone (k : Fin 4) (ok : Bool) (s : State) : Host.Outcome State Fault Refusal :=
  if (s.np k.val).preempt ≠ 1 then .next s
  else if ok then .next (s.modNp k.val fun p => { p with preempt := 2 })
  else .next ((s.modNp k.val fun p => { p with preempt := 3 }).netErr k.val 4)

/-- An enabled flow, a PTP slot or a KCP session uses a port (R272). DEDUCED, log 124. -/
def portInUse (s : State) (k : Nat) : Bool :=
  (s.net.flows.any fun e => e.2.enable && usesPort e.2 k) || (s.time.ptp.any fun p => p.enable && p.port == k) ||
    s.kcp.sess.any fun q => q.isOpen && (match q.ep with | .udp x _ _ => x.val == k | _ => false)

/-- SPEED_REDUCTION: the quiet time has run. -/
def execSpeedReduction (k : Fin 4) (s : State) : Host.Outcome State Fault Refusal :=
  if netCtl s k.val 25 && (s.np k.val).up && speedCode s k.val == 3 && !portInUse s k.val then
    .next ((s.linkDown k.val).modNp k.val fun p => { p with reduced := true })
  else .next s

/-- A reduced port returns to 25 Gb/s. -/
def State.speedBack (s : State) (k : Nat) : State :=
  if (s.np k).reduced then (s.linkDown k).modNp k fun p => { p with reduced := false, restoring := true } else s

/-- LP_FAIL. -/
def execLpFail (k : Fin 4) (s : State) : Host.Outcome State Fault Refusal :=
  if (s.np k.val).reduced && !(s.np k.val).up then .next (((s.speedBack k.val).lower (aNet k.val) 0x2000000).netErr k.val 3) else .next s

/-- SPEED_RESTORE. -/
def execSpeedRestore (k : Fin 4) (s : State) : Host.Outcome State Fault Refusal := .next (s.speedBack k.val)

/-- Every reduced port that has come into use returns to 25 Gb/s. -/
def State.speedCheck (s : State) : State :=
  (List.range 4).foldl (fun s k => if portInUse s k then s.speedBack k else s) s

/-- ARP_REFRESH of transmit flow 256 + f. DEDUCED, log 122. -/
def execArpRefresh (f : Fin 256) (s : State) : Host.Outcome State Fault Refusal :=
  let w := s.flow (256 + f.val)
  .next (if w.enable && !isMulticast w.dst then s.arpAsk w else s)

/-- IGMP_UNSOLICITED_REPORT: the repeat of a join's report, or the delayed answer to a query. -/
def execIgmpUnsolicitedReport (f : Fin 256) (s : State) : Host.Outcome State Fault Refusal :=
  let w := s.flow f.val
  let rt := s.flowRt f.val
  if !joins f.val w then .next s
  else if rt.query then .next ((s.igmp "igmp-report" w).modFlowRt f.val fun r => { r with query := false })
  else if rt.reports ≠ 0 then .next ((s.igmp "igmp-report" w).modFlowRt f.val fun r => { r with reports := r.reports - 1 })
  else .next s

/-! ### NETPORT_SET (R249) and a direct write of NETPORT_CTL -/

/-- A change of mode or FEC retrains; PREEMPT follows its field. -/
def State.ctlApplied (s : State) (k : Nat) (old : Word) : State :=
  let w := s.reg (aNet k)
  let change := (old ^^^ w) &&& 0x1F00
  let s1 := if change ≠ 0 then (s.linkDown k).modNp k fun p => { p with reduced := false, restoring := false } else s
  let s2 := if !wbit w 0 then s1.linkDown k else s1
  let s3 := if !wbit w 25 then s2.speedBack k else s2
  if wbit (old ^^^ w) 24 then s3.preemptStart k else s3

/-- A write of NETPORT_CTL. -/
def State.netCtlWrite (s : State) (k : Nat) (v : Word) : State :=
  let m : Word := if isMedia k then 0x030E1F01 else 0x0C0F1F01
  (s.setReg (aNet k) (v &&& m)).ctlApplied k (s.reg (aNet k))

/-- FEC offered by a port in a mode (Table NET-1). -/
def fecOk (k mode fec : Nat) : Bool := if !isMedia k then fec == 0 else if mode = 1 then fec ≤ 2 else fec ≤ 1

def specNetportSet : OpSpec where
  txn := true
  atOnce := fun _ _ => false
  units := fun _ _ => [6]
  len := fun c => c.plen == 56
  param := fun c s =>
    let k := c.at 20 1
    let m := c.at 24 4
    let med := isMedia k
    let mode := if m.testBit 0 then c.at 28 1 else wbits (s.reg (aNet k)) 8 3
    let fec := if m.testBit 1 then c.at 29 1 else wbits (s.reg (aNet k)) 11 2
    firstBad [(k > 5, 20), (badMask m 11, 24), sel m 0 (c.at 28 1 > 1) 28, (m.testBit 0 && !fecOk k mode fec, 28), sel m 1 (!fecOk k mode fec) 29,
      sel m 2 (c.at 30 1 > 1) 30, sel m 3 (!med || c.at 31 1 > 1) 31, sel m 3 (c.at 32 1 = 0 || c.at 32 1 > 128) 32,
      sel m 4 (!med || c.at 33 1 > 1) 33, sel m 4 (c.at 34 2 = 0 || c.at 34 2 > 3600) 34, sel m 4 (c.at 36 4 = 0 || c.at 36 4 > 10000) 36,
      sel m 5 (med || c.at 40 1 > 3) 40, sel m 6 (c.at 41 1 = 0) 41, sel m 9 (c.at 56 1 < 8 || c.at 56 1 > 30) 56, sel m 10 (!med) 64]
  apply := fun c bad s =>
    if bad.contains 6 then s
    else
      let k := c.at 20 1
      let m := c.at 24 4
      let a := aNet k
      let put := fun (b : Nat) (s : State) (g : State → State) => if m.testBit b then g s else s
      let old := s.reg a
      let s1 := put 0 s fun s => s.putReg a 8 3 (c.at 28 1)
      let s2 := put 1 s1 fun s => s.putReg a 11 2 (c.at 29 1)
      let s3 := put 2 s2 fun s => s.putReg a 17 1 (c.at 30 1)
      let s4 := put 3 s3 fun s => (s.putReg a 24 1 (c.at 31 1)).modNp k fun p => { p with verify := c.at 32 1 }
      let s5 := put 4 s4 fun s => ((s.putReg a 25 1 (c.at 33 1)).putReg (a + 0x2C) 16 12 (c.at 34 2)).putReg (a + 0x2C) 0 16 (c.at 36 4)
      let s6 := put 5 s5 fun s => s.putReg a 26 2 (c.at 40 1)
      let s7 := put 6 s6 fun s => s.modNp k fun p => { p with ttl := c.at 41 1 }
      let s8 := put 7 s7 fun s => s.setReg (a + 12) (wordN (c.at 42 2))
      let s9 := put 8 s8 fun s => (s.setReg (a + 0x14) (wordN (c.at 44 2))).setReg (a + 0x10) (wordN (c.at 46 4))
      let s10 := put 9 s9 fun s =>
        (s.setReg (a + 0x20) (wordN (c.at 52 4))).modNp k fun p => { p with ipBits := c.at 56 1, gateway := c.at 60 4 }
      let s11 := put 10 s10 fun s =>
        ((s.setReg (a + 0x1C) (wordN (c.at 64 2 + 2 ^ 31))).setReg (a + 0x18) (wordN (c.at 66 4))).setReg (a + 0x24) (wordN (c.at 72 4))
      let s12 := s11.ctlApplied k old
      put 3 s12 fun s => s.preemptStart k

def specNetportRead : OpSpec where
  standby := true
  units := fun _ _ => [6]
  param := fun c _ => firstBad [(c.at 20 1 > 5, 20)]
  run := fun c s =>
    let k := c.at 20 1
    let s1 := s.snapCnts (aNet k + 0x90) (aNet k + 0xF0) true
    readOk s1 [6] (beBytes 4 (netStatus s k).toNat ++ zeros 4 ++
      ((List.range 12).map fun i => (mget {} s1.cnts (aNet k + 0x90 + 8 * i)).kcp).flatten)

def specNetKcpSet : OpSpec where
  txn := true
  atOnce := fun _ _ => false
  units := fun _ _ => [6]
  param := fun c _ => firstBad [(c.at 20 2 = 0, 20), (c.at 22 1 > 15, 22)]
  apply := fun c bad s =>
    if bad.contains 6 then s
    else ((List.range 6).foldl (fun s k =>
      s.setReg (aNet k + 0x28) (wordN (c.at 20 2 + b2n (!isMedia k || (c.at 22 1).testBit k) * 2 ^ 16))) s).speedCheck

/-! ### FLOW_SET, FLOW_DELETE and FLOW_READ (R261, R262, R274, Table CMD-11) -/

/-- What R242 and Table CMD-11 reject of a FLOW_SET. -/
def flowParam (c : Cmd) (s : State) : Option Nat :=
  let f := c.at 20 2
  let m := c.at 24 4
  let w := flowSet c (s.flow f)
  let rx := isRx f
  let med := !w.position
  firstBad [(f > 511, 20), (badMask m 16, 24), sel m 0 (c.at 28 1 > 1) 28, sel m 1 (c.at 29 1 > b2n rx) 29,
    (w.prim > (if med then 3 else 5), 30), sel m 3 (if med then c.at 31 1 > 3 && c.at 31 1 ≠ 0xFF else c.at 31 1 ≠ 0) 31,
    sel m 5 (!rx && c.at 36 4 ≠ 0) 36, sel m 8 (c.at 44 1 > b2n med) 44,
    sel m 9 (if med then c.at 45 1 = 0 || c.at 45 1 > 64 else c.at 45 1 ≠ 0) 45, sel m 10 (c.at 46 1 > (if med then 3 else 0)) 46,
    sel m 11 (if med then c.at 47 1 < 96 || c.at 47 1 > 127 else c.at 47 1 ≠ 0) 47, sel m 12 (!(rx && med) && c.at 48 4 ≠ 0) 48,
    sel m 13 (if rx && med && w.sec ≠ 0xFF then c.at 52 4 > 4000000 else c.at 52 4 ≠ 0) 52, sel m 14 (rx && c.at 56 4 ≠ 0) 56,
    sel m 15 (if rx then c.at 60 1 ≠ 0 else c.at 60 1 > 63) 60, (s.locked && w.position && w.src = 0, 36)]

/-- The flow as a FLOW_SET leaves it; a position flow keeps no media field. DEDUCED, log 114. -/
def flowMade (c : Cmd) (w : Flow) : Flow :=
  let v := flowSet c w
  if v.position then { v with sec := 0xFF, link := 0, diff := 0 } else v

/-- The checks of R261 that come before the pool's. -/
def flowBusy (c : Cmd) (s : State) : Option ReplyRec :=
  let f := c.at 20 2
  let w := flowMade c (s.flow f)
  let n := pktSamples s.render.rate96 w
  let media := isRx f && !w.position
  let tooBig := fun (k : Nat) => rtpBytes s.render.rate96 w > (if netCtl s k 17 then 8960 else 1460)
  if w.sec == w.prim then some (reject stBadParam 6 31)
  else if media && (decide (w.link * s.fs < n * 1000000000 + w.diff * s.fs) || decide (w.link > 20000000)) then some (reject stBadParam 6 48)
  else if !w.position && (flowPorts w).any tooBig then some (reject stCapacity 6 7)
  else if isRx f then (s.net.flows.find? fun e => isRx e.1 && e.1 ≠ f && e.2.enable && sameKey e.2 w).map fun e => reject stConflict 6 e.1
  else none

/-- A flow takes a new form at the boundary in hand. -/
def State.setFlow (s : State) (f : Nat) (w : Flow) : State :=
  let old := s.flow f
  let s1 := { s with net := { s.net with flows := if w = ({} : Flow) then mdel s.net.flows f else mset s.net.flows f w } }
  if isRx f then
    let s2 := if restarts old w then (s1.clearPlayout f).modFlowRt f fun _ => {} else s1
    let s3 := if joins f old && (!joins f w || old.dst ≠ w.dst || flowPorts old ≠ flowPorts w) then s2.igmp "igmp-leave" old else s2
    let s4 := if joins f w && restarts old w then (s3.igmp "igmp-report" w).modFlowRt f fun r => { r with reports := 1 } else s3
    (s4.flowEntries f w).speedCheck
  else
    let form := !old.enable || old.l24 != w.l24 || old.ch ≠ w.ch || old.pt ≠ w.pt
    let s2 := if w.enable && form then s1.modFlowRt f fun r => { r with since := s.openSample, done := none } else s1
    let ask := w.enable && !isMulticast w.dst && (!old.enable || old.dst ≠ w.dst || flowPorts old ≠ flowPorts w)
    (if ask then (s2.modFlowRt f fun r => { r with mac := [] }).arpAsk w else s2).speedCheck

def specFlowSet : OpSpec where
  txn := true
  atOnce := fun _ _ => false
  units := fun _ _ => [6]
  len := fun c => c.plen == 44
  param := flowParam
  busy := flowBusy
  seeds := fun c s => if !isRx (c.at 20 2) && (flowMade c (s.flow (c.at 20 2))).enable && !(s.flow (c.at 20 2)).enable then [(2, c.at 20 2)] else []
  apply := fun c bad s => if bad.contains 6 then s else s.setFlow (c.at 20 2) (flowMade c (s.flow (c.at 20 2)))

/-- The feed that names a channel of a transmit flow: a deletion's CONFLICT carries its index. DEDUCED, log 188. -/
def flowFed (s : State) (f : Nat) : Option Nat :=
  (s.render.feeds.find? fun e => e.2.dest.any fun d => d / 2 ^ 28 == 2 && d % 2 ^ 28 / 64 == f).map (·.1)

def specFlowDelete : OpSpec where
  txn := true
  atOnce := fun _ _ => false
  units := fun _ _ => [6]
  param := fun c _ => firstBad [(c.at 20 2 > 511, 20)]
  busy := fun c s => (flowFed s (c.at 20 2)).map fun i => reject stConflict 6 i
  apply := fun c bad s => if bad.contains 6 then s else s.setFlow (c.at 20 2) ({} : Flow)

/-- The flow status word (Table NET-7). -/
def flowStatus (s : State) (f : Nat) : Nat :=
  let w := s.flow f
  let r := s.flowRt f
  let unresolved := (flowPorts w).any fun k => (destMac s f k).isNone
  let red := w.enable && (flowPorts w).any fun k => (s.np k).reduced || (s.np k).restoring
  b2n (!isRx f && w.enable && unresolved) * 128 + b2n r.skew * 64 + b2n red * 32 + b2n r.receiving * 16 +
    b2n r.upB * 8 + b2n r.upA * 4 + b2n w.enable * 2 + b2n w.enable

/-- Whether counter `i` of FLOW_READ applies to a flow (R274). -/
def counterFor (f : Nat) (w : Flow) (i : Nat) : Bool :=
  if i ≥ 10 then !isRx f
  else if i = 9 then isRx f && w.position
  else if i = 7 ∨ i = 8 then isRx f
  else isRx f && !w.position && (w.sec ≠ 0xFF || (i ≠ 1 && i ≠ 2 && i ≠ 3))

def specFlowRead : OpSpec where
  standby := true
  units := fun _ _ => [6]
  param := fun c _ => firstBad [(c.at 20 2 > 511, 20)]
  run := fun c s =>
    let f := c.at 20 2
    let s1 := s.snapCnts (kFlow f 0) (kFlow f 13) true
    readOk s1 [6] (beBytes 4 (flowStatus s f) ++ zeros 4 ++ ((List.range 13).map fun i =>
      if counterFor f (s.flow f) i then (mget {} s1.cnts (kFlow f i)).kcp else zeros 8).flatten)

/-- At a boundary, the block that begins to leave is kept for the packets of its transmit flows (R48, R269). -/
def State.netHand (s : State) : State :=
  let one := fun (m : SMap (List (Nat × List Int))) (e : Nat × Feed) =>
    let x := ((s.feedRt e.1).leaving ++ List.replicate 16 0).take 16
    let dest := (e.2.dest.filter fun d => d / 2 ^ 28 == 2).map fun d => d % 2 ^ 28
    dest.foldl (fun m d => mmod [] m d fun q => newest 8 (q ++ [(s.render.n + 1, x)])) m
  { s with net := { s.net with sent := s.render.feeds.foldl one s.net.sent } }

/-- Ganen starts the network: the hash bits of PTP on every port. -/
def State.netInit (s : State) : State := (List.range 6).foldl (fun s k => s.hashRefresh k) s

end Sys2Proof.Machine
end

