-- ==== Sys2Proof/Machine/Pairing.lean ====
section
/-! DEFINITION. The interlock, the Bezel link's heartbeats and notices, input reconciliation, carried state, and the opcodes of a
pair (R385 to R395, R403 to R416). -/

namespace Sys2Proof.Machine

/-! ### The interlock (R387 to R393) -/

/-- The peer says that the selected reference is absent there (R303). -/
def peerLacksRef (s : State) : Bool := match s.pair.peer with | some h => h.refAbsent | none => false

/-- PEER_STATE is sent where the peer's role, its synchronisation state or the link has changed between two states (R415), where the
peer newly cannot pair (R386), and where it newly lacks the selected reference (R303). -/
def State.peerNews (s : State) (old : State) : State :=
  if s.peerRole ≠ old.peerRole ∨ s.peerSync ≠ old.peerSync ∨ s.linkUp ≠ old.linkUp ∨
    (wbit (s.reg (aPair + 8)) 7 && !wbit (old.reg (aPair + 8)) 7) ∨ (peerLacksRef s && !peerLacksRef old) then s.peerState else s

/-- The unit may claim its line (R388, R419), ILK_B aside. DEDUCED, log 159. -/
def State.canClaim (s : State) : Bool := s.boot.phase == .ready && !s.integ.stopped && !s.pair.releasedFault && !s.pins.porLow &&
  decide (s.power.st < 2)

/-- TAKEOVER (R415): the new role, the cause and the boundary. -/
def takeoverBytes (role cause n : Nat) : List Byte := [BitVec.ofNat 8 role, BitVec.ofNat 8 cause] ++ zeros 2 ++ beBytes 8 n

/-- What a slot holds, in Q1.31: the last sample of the feed that it carries. -/
def heldSlot (s : State) (p slot : Nat) : Int :=
  match s.render.feeds.find? fun e => e.2.dest.contains (slotDest p slot) with | some e => sat 32 (16 * (s.feedRt e.1).last) | none => 0

/-- What is left of the current block is replaced by the held samples. -/
def State.holdBlock (s : State) : State :=
  let slots := fun (p : Nat) (e : Nat × List Int) => (e.1, e.2.zipIdx.map fun x => heldSlot s p x.2)
  let ports := s.ports.port.zipIdx.map fun (q : Port × Nat) => { q.1 with outQ := q.1.outQ.map (slots q.2) }
  let chan := fun (d : Nat) => match s.render.feeds.find? fun e => e.2.dest.contains (2 * 2 ^ 28 + d) with
    | some e => (s.feedRt e.1).last | none => 0
  let cur := fun (d : Nat) (x : Nat × List Int) => if x.1 = s.render.n + 1 then (x.1, List.replicate 16 (chan d)) else x
  { s with
    ports := { s.ports with port := ports }
    net := { s.net with sent := s.net.sent.map fun e => (e.1, e.2.map (cur e.1)) } }

/-- The unit's outputs are held, then ramp to zero, and stay muted (R412). A slot's held value is what the previous active
drove, which the unit reads back. DESIGN CHOICE, log 162. -/
def State.coldHold (s : State) : State :=
  let (k, s1) := s.fresh
  let read := fun (e : Nat × Feed) => e.2.dest.any fun d => d / 2 ^ 28 == 1
  let fs := (s.render.feeds.filter read).map (·.1)
  let s2 := (fs.foldl (fun s f => s.modFeedRt f fun r => { r with last := sat 32 (Config.freeInt k f) }) s1).holdBlock
  { s2 with pair := { s2.pair with muted := true, coldAt := some s.render.n, unmuteAt := none } }

/-- What the new active does with Loupe (R138, R159): every running slot starts again, and a job ends ABORTED. -/
def State.loupeTakeover (s : State) : State :=
  let again := fun (q : Slot) => { q with start := s.lNs, corr := newCorrs s q.feed }
  let s1 := { s with loupe := { s.loupe with slots := s.loupe.slots.map (Option.map again) } }
  { s1 with loupe := { s1.loupe with ending := s1.loupe.job.isSome } }

/-- The cause of a claim (R415). DEDUCED, log 160. -/
def claimCause (s : State) : Nat :=
  if !s.pairEn then 4
  else if s.pair.sync ≠ 5 then (if s.pair.peer.isNone then 4 else 5)
  else match s.pair.handover with
    | some h => h.2
    | none => if s.pair.notice.isSome then 0 else 1

/-- The unit drives ILK_A low, and its gate opens where ILK_B reads high (R387, R391). -/
def State.claimLine (s : State) : State :=
  let cause := claimCause s
  let cold := s.pairEn && cause == 5
  -- a delta that was acknowledged is applied at the boundary; a partial one is discarded (R400, R402)
  let d := if s.delta.held.isSome then { s.delta with marked := true } else { s.delta with rxSegs := [], rxNames := [], rxWhole := none }
  let s1 := { s with
    delta := d
    pair := { s.pair with claim := true, tie := false, sync := 0, keeper := .on, notice := none, handover := none, awaiting := false, verifyCount := 0 } }
  let resume := fun (q : Session) => { q with evSeq := (q.evSeq + 1024) % 2 ^ 32, loss := true }
  let s2 := if s.pairEn && cause ≠ 4 then ({ s1 with kcp := { s1.kcp with sess := s1.kcp.sess.map resume } }).loupeTakeover else s1
  let s3 := if cold then s2.coldHold else s2
  let s4 := if s3.gate then s3.netActive else s3
  let s5 := if s.pairEn then s4.count (aPair + 0x90) else s4
  s5.eventAny 0x8A00 (takeoverBytes s5.role cause s.render.n)

/-- Claim where R388 allows it. -/
def State.tryClaim (s : State) : State := if s.canClaim && s.pair.ilkB && !s.pair.claim then s.claimLine else s

/-- ILK_B_EDGE: ILK_B rises through the synchroniser and the filter. -/
def execIlkBEdge (s : State) : Host.Outcome State Fault Refusal :=
  -- a delta that was acknowledged is applied at the boundary (R400)
  let s1 := { s with
    pair := { s.pair with ilkB := true, tie := false }
    delta := { s.delta with marked := s.delta.marked || (s.delta.held.isSome && !s.pair.claim) } }
  .next (if s.pair.claim then (if s.gate then s1 else s1.netActive) else s1.tryClaim)

/-- ILK_B_FALL: the peer drives its line. -/
def execIlkBFall (s : State) : Host.Outcome State Fault Refusal :=
  let s1 := { s with pair := { s.pair with ilkB := false, awaiting := false } }
  if s.pair.claim then
    if s.pair.ilkB then .next (({ s1 with pair := { s1.pair with tie := true } }).cutMedia.count (aPair + 0xB8)) else .next s1
  else .next { s1 with pair := { s1.pair with keeper := if s.pair.keeper == .on then .off else s.pair.keeper } }

/-- The peer's strap equals this unit's. -/
def strapsEqual (s : State) : Bool := match s.pair.peer with | some h => h.preferred == s.pins.preferred | none => false

/-- CLAIM_TIE_TIMEOUT: 2 µs, or 2 µs and the random delay, after both claimed. -/
def execClaimTieTimeout (s : State) : Host.Outcome State Fault Refusal :=
  if !s.pair.tie then .next s
  else
    let s1 := if strapsEqual s then s.raise (aPair + 8) 0x40 else s
    if strapsEqual s || !s.pins.preferred then .next (s1.releaseIlk false) else .next s1

/-- ILK_FAULT: ILK_A reads against what the unit drives for 1 µs. -/
def execIlkFault (s : State) : Host.Outcome State Fault Refusal := .next ((s.raise (aPair + 8) 0x20).peerState)

/-- NOTICE_RX. -/
def execNoticeRx (cls : Nat) (s : State) : Host.Outcome State Fault Refusal :=
  .next (if s.pairEn then { s with pair := { s.pair with notice := some cls } } else s)

/-- HANDOVER_FAIL: 1 µs after the release the peer has not claimed. -/
def execHandoverFail (s : State) : Host.Outcome State Fault Refusal :=
  if s.pair.awaiting then
    let s1 := { s with pair := { s.pair with claim := true, sync := 0, keeper := .on, awaiting := false } }
    .next ((if s1.gate then s1.netActive else s1).raise (aPair + 8) 0x10)
  else .next s

/-- The boundary of a handover or reclaim comes: the active releases and stays a synchronised standby (R413, R414). -/
def State.handoverBoundary (s : State) : State :=
  match s.pair.handover with
  | some (k, cause) =>
    if s.pair.claim && decide (k ≤ s.render.n) then
      let s1 := s.releaseIlk true
      let s2 := { s1 with pair := { s1.pair with sync := 5, keeper := .tracking, awaiting := true, handover := none, syncAt := s.lNs } }
      s2.eventAny 0x8A00 (takeoverBytes s2.role cause k)
    else s
  | none => s

/-- The boundary of an agreed handover that lies at the end of the cycle in hand, past its cut-off (R413). -/
def State.handingOver (s : State) : Bool :=
  match s.pair.handover with | some (k, _) => s.pair.claim && s.delta.cutoff && k == s.render.n + 1 | none => false

/-! ### The Bezel link (R386, R394, R395, R424) -/

/-- A peer that cannot pair with this unit (R386). DEDUCED, log 158. -/
def incompatible (s : State) (h : Heartbeat) : Bool :=
  h.stepping ≠ 0xB0 || h.ganen ≠ s.boot.ganenVersion || h.rate96 ≠ s.render.rate96 || h.dram ≠ s.mem.capacity

def peerBad (s : State) : Bool := match s.pair.peer with | some h => incompatible s h | none => true

/-- BEZEL_LINK: a lane has lost lock, or heartbeats have stopped, for 100 µs. -/
def execBezelLink (lane : Fin 2) (s : State) : Host.Outcome State Fault Refusal :=
  if s.linkUp then
    let p := if lane = 0 then { s.pair with lane0 := false, beat := false } else { s.pair with lane1 := false, beat := false }
    let s1 := ((({ s with pair := p }).raise (aPair + 8) 2).count (aPair + 0xB0)).report { cls := 0x91, dev := false, inst := lane.val }
    .next s1.peerState
  else .next s

/-! ### Input reconciliation (R403, R404) -/

/-- Input channel-blocks that an object with a zone names: their channel identifiers. -/
def reconChans (s : State) : List Nat :=
  let srcs := (s.render.objs.filter fun e => e.2.zone ≠ 0xFF && e.2.source ≠ 0).map (·.2.source)
  (s.render.blocks.filter fun e => e.1 / 2 ^ 28 == 0 && srcs.contains (e.1 % 2 ^ 16)).map (·.1)

def State.blk (s : State) (c : Nat) : Option Blk := mfind s.render.blocks c

/-- At a boundary the standby sends its input Carats. -/
def State.reconSend (s : State) : State :=
  if s.pairEn && !s.pair.claim && decide (1 ≤ s.pair.sync) then
    let cs := (reconChans s).filterMap fun c => (s.blk c).map fun b => (c, b.carat)
    ({ s with pair := { s.pair with reconDone := false, reconCount := 0 } }).bezel (.recon cs)
  else s

/-- RECON_RX: the active returns the blocks that differ. -/
def execReconRx (carats : List (Nat × Word)) (s : State) : Host.Outcome State Fault Refusal :=
  if s.role = 1 then
    let differs := fun (e : Nat × Word) => match s.blk e.1 with
      | some b => if b.carat ≠ e.2 then some (e.1, b.carat, b.smp) else none
      | none => none
    .next (s.bezel (.reconData (carats.filterMap differs)))
  else .next s

/-- The standby loses step over its inputs (R404). -/
def State.reconOverflow (s : State) : State := (s.raise (aPair + 8) 8).loseStep

/-- RECON_DATA_RX. -/
def execReconDataRx (blocks : List (Nat × Word × List Int)) (last : Bool) (s : State) : Host.Outcome State Fault Refusal :=
  if s.pairEn && !s.pair.claim && !s.pair.reconDone then
    let n := s.pair.reconCount + blocks.length
    if n > 256 then .next s.reconOverflow
    else
      let put := fun (m : SMap Blk) (b : Nat × Word × List Int) =>
        match mfind m b.1 with | some o => mset m b.1 { o with carat := b.2.1, smp := b.2.2 } | none => m
      let s1 := { s with
        render := { s.render with blocks := blocks.foldl put s.render.blocks }
        pair := { s.pair with reconCount := n, reconDone := last } }
      .next (s1.count (aPair + 0xA0) blocks.length)
  else .next s

/-- RECON_DEADLINE. -/
def execReconDeadline (s : State) : Host.Outcome State Fault Refusal :=
  .next (if s.pairEn && !s.pair.claim && decide (1 ≤ s.pair.sync) && !s.pair.reconDone then s.reconOverflow else s)

/-! ### Carried state (R409) -/

/-- Objects that are rendered, and feeds that run. -/
def liveObjs (s : State) : List Nat := (s.render.objs.filter fun e => e.2.zone ≠ 0xFF).map (·.1)
def liveFeeds (s : State) : List Nat := (s.render.feeds.filter fun e => e.2.enable).map (·.1)

/-- Every carried-state record with its size, objects first, then feeds, then side-tone. -/
def carried (s : State) : List (Transplant × Nat) :=
  let o := (liveObjs s).map fun i => let r := s.objRt i; (Transplant.object i r, 256 + 16 * (r.direct.length + r.diffuse.length))
  let f := (liveFeeds s).map fun i => (Transplant.feed i (s.feedRt i), 768)
  o ++ f ++ [(Transplant.sidetone ((List.range 64).map fun r => (s.route' r).cur), 256)]

/-- As many records as fit in what is left of a cycle's room. -/
def fitRecords : Nat → List (Transplant × Nat) → List Transplant
  | _, [] => []
  | room, (t, n) :: l => if n ≤ room then t :: fitRecords (room - n) l else []

/-- At a boundary the active sends records to a peer in STATE. -/
def State.carrySend (s : State) : State :=
  if s.role = 1 then
    if s.peerSync = 2 then
      let ts := fitRecords (26 * 1024) ((carried s).drop s.pair.records)
      ts.foldl (fun s t => s.bezel (.transplant t)) { s with pair := { s.pair with records := s.pair.records + ts.length } }
    else { s with pair := { s.pair with records := 0 } }
  else s

/-- TRANSPLANT_RX: a standby in STATE loads a record; the last one ends STATE. DEDUCED, log 163. -/
def execTransplantRx (t : Transplant) (s : State) : Host.Outcome State Fault Refusal :=
  if s.pairEn && !s.pair.claim && s.pair.sync == 2 then
    let s1 := match t with
      | .object o rt => s.modObjRt o fun _ => rt
      | .feed f rt => s.modFeedRt f fun _ => rt
      | .sidetone g => g.zipIdx.foldl (fun (s : State) (e : Int × Nat) => s.modSide e.2 fun q => { q with cur := e.1 }) s
    let n := s.pair.records + 1
    let all := n ≥ (liveObjs s).length + (liveFeeds s).length + 1
    .next { s1 with pair := { s1.pair with records := if all then 0 else n, sync := if all then 3 else 2 } }
  else .next s

/-! ### Synchronisation (R407, R410, R411) -/

/-- A cold standby whose health and peer let it synchronise. -/
def mayStart (s : State) : Bool :=
  s.role == 3 && s.pairEn && s.linkUp && s.pair.sync == 0 && !s.persist && s.power.st == 0 && !peerBad s && s.peerRole == 1

/-- Synchronisation starts: the standby waits for the image. -/
def State.startSync (s : State) : State :=
  { s with
    pair := { s.pair with sync := 1, records := 0, verifyCount := 0, imageDone := false, staged := [] }
    delta := { s.delta with kept := [], held := none, marked := false, rxSegs := [], rxNames := [], rxWhole := none } }

/-- AUTO_SYNC_START: 1 s of health has passed. -/
def execAutoSyncStart (s : State) : Host.Outcome State Fault Refusal :=
  .next (if mayStart s && wbit (s.reg aPair) 1 then s.startSync else s)

/-- SYNC_SETTLE_END: every history span has passed. -/
def execSyncSettleEnd (s : State) : Host.Outcome State Fault Refusal :=
  .next (if s.pair.sync = 3 && !s.pair.claim then { s with pair := { s.pair with sync := 4, verifyCount := 0 } } else s)

/-- SYNC_VERIFIED: 64 cycles in a row have agreed. -/
def execSyncVerified (s : State) : Host.Outcome State Fault Refusal :=
  if s.pair.sync = 4 && !s.pair.claim && decide (s.pair.verifyCount ≥ 64) then
    .next { s with pair := { s.pair with sync := 5, keeper := .tracking, releasedFault := false, syncAt := s.lNs } }
  else .next s

/-- The standby's own stage 1 and exit Carats against the active's (R411). DEDUCED, log 165. -/
def State.compareCarats (s : State) (cs : List (Nat × Word)) : State :=
  let bad := cs.any fun e => s.pair.exits.any fun x => x.1 == e.1 && x.2 != e.2
  if s.pair.claim || !s.pairEn then s
  else if s.pair.sync = 5 then (if bad then s.loseStep else s)
  else if s.pair.sync = 4 then
    if bad then { s with pair := { s.pair with sync := 2, records := 0, verifyCount := 0 } }
    else { s with pair := { s.pair with verifyCount := s.pair.verifyCount + 1 } }
  else s

/-! ### Reclaim (R413) -/

/-- The first boundary at least four cycles ahead. DEDUCED, log 161. -/
def handoverAt (s : State) : Nat := s.render.n + 5

/-- The peer, preferred and healthy, may reclaim. -/
def mayReclaim (s : State) : Bool :=
  s.role == 1 && s.peerSync == 5 && s.pair.handover.isNone && wbits (s.reg aPair) 16 16 ≠ 0xFFFF &&
    (match s.pair.peer with | some h => h.preferred && !h.unhealthy | none => false)

/-- RECLAIM_HOLDOFF_EXPIRY. -/
def execReclaimHoldoffExpiry (s : State) : Host.Outcome State Fault Refusal :=
  if mayReclaim s then .next ((s.enter (.handover (handoverAt s) 3)).event 0x8A01 (beBytes 8 (handoverAt s))) else .next s

/-! ### Registers (R416) -/

/-- PAIR_STATUS. -/
def pairStatus (s : State) : Word :=
  let pref := match s.pair.peer with | some h => h.preferred | none => false
  wordN (s.pair.sync * 2 ^ 21 + b2n s.pair.muted * 2 ^ 20 + s.peerRole * 2 ^ 18 + s.role * 2 ^ 16 + b2n s.pair.lane1 * 2 ^ 7 +
    b2n s.pair.lane0 * 2 ^ 6 + b2n s.linkUp * 2 ^ 5 + b2n pref * 2 ^ 4 + b2n s.pins.preferred * 2 ^ 3 + b2n s.gate * 2 ^ 2 +
    b2n s.pair.ilkB * 2 + b2n s.pair.claim)

/-- The unit's own heartbeat (Table PAIR-5, R386, R424). -/
def ownBeat (s : State) : Heartbeat :=
  { role := Fin.ofNat 4 s.role, sync := Fin.ofNat 8 s.pair.sync, preferred := s.pins.preferred, unhealthy := s.persist, stepping := 0xB0
    ganen := s.boot.ganenVersion, rate96 := s.render.rate96, dram := s.mem.capacity, status := pairStatus s, peerL := s.lNs, ownL := 0
    refused := s.power.tell.map (Fin.ofNat 11 ·), refAbsent := s.refAbsent }

/-- HEARTBEAT_TX. -/
def execHeartbeatTx (s : State) : Host.Outcome State Fault Refusal :=
  .next (if s.pairEn then ({ s with power := { s.power with tell := none } }).bezel (.heartbeat (ownBeat s)) else s)

/-- PAIR_PEER_OFFSET. -/
def peerOffset (s : State) : Int := match s.pair.peer with | some h => sat 32 (h.peerL - h.ownL) | none => 0

/-- PAIR_HOLDOFF_LEFT: counts down while the preferred unit stands synchronised; 0, its reset value, while pairing is off. DEDUCED,
log 189. -/
def holdLeft (s : State) : Nat :=
  let h := wbits (s.reg aPair) 16 16
  let run := (s.role == 1 && s.peerSync == 5) || s.role == 2
  if h = 0xFFFF then 0xFFFF else if !s.pairEn then 0 else if run then h - (s.lNs - s.pair.syncAt) / 1000000000 else h

/-- A hold-off that PAIR_SET takes. -/
def holdOk (h : Nat) : Bool := (1 ≤ h && h ≤ 3600) || h == 0xFFFF

/-- PAIR_CTL takes a value; a PAIR_EN that breaks R324 and a hold-off out of range are ignored. -/
def State.pairCtl (s : State) (v : Word) : State :=
  let en := wbit v 0 && ((anyMaster s).isNone || s.pairEn)
  let h := if holdOk (wbits v 16 16) then wbits v 16 16 else wbits (s.reg aPair) 16 16
  let s1 := s.setReg aPair (wordN (h * 2 ^ 16 + b2n (wbit v 1) * 2 + b2n en))
  if en then s1 else s1.toCold

/-! ### Opcodes (R244, R414, R415) -/

def specPairSet : OpSpec where
  standby := true
  units := fun _ _ => [10]
  param := fun c _ => firstBad [(c.at 20 1 > 1, 20), (!holdOk (c.at 22 2), 22)]
  busy := fun c s => if c.at 20 1 = 1 then (anyMaster s).map fun p => reject stConflict 10 p else none
  run := fun c s =>
    let s1 := s.pairCtl (wordN (c.at 22 2 * 2 ^ 16 + b2n (wbit (s.reg aPair) 1) * 2 + c.at 20 1))
    readOk s1 [10] []

/-- Whether UNMUTE applies (R412). -/
def mayUnmute (s : State) : Bool := s.pair.muted && s.pair.claim && s.pair.unmuteAt.isNone

def specPairSync : OpSpec where
  standby := true
  units := fun _ _ => [10]
  param := fun c _ => firstBad [(c.at 20 1 > 4, 20)]
  busy := fun c s =>
    if c.at 20 1 = 0 && !mayStart s || c.at 20 1 = 2 && !mayUnmute s then some (reject stConflict 10 0xFFFF) else none
  run := fun c s =>
    let s1 := match c.at 20 1 with
      | 0 => s.startSync
      | 1 => if s.pair.claim then s else s.toCold
      | 2 => { s with pair := { s.pair with unmuteAt := some (s.render.n + 1) } }
      | 3 => s.raise aPair 2
      | _ => s.lower aPair 2
    readOk s1 [10] []

def specPairHandover : OpSpec where
  standby := true
  units := fun _ _ => [10]
  len := fun c => c.plen == 8
  busy := fun c s =>
    let k := c.at 20 8
    if s.role ≠ 1 || s.peerSync ≠ 5 || s.pair.handover.isSome || (k ≠ 0 && decide (k < handoverAt s)) then some (reject stConflict 10 0xFFFF)
    else none
  run := fun c s =>
    let k := if c.at 20 8 = 0 then handoverAt s else c.at 20 8
    (s.enter (.handover k 2), { status := stOK, boundary := k, touched := unitBits [10], succeeded := unitBits [10] }, [])

def specPairStatus : OpSpec where
  standby := true
  spi := true
  units := fun _ _ => [10]
  run := fun _ s =>
    let s1 := s.snapCnts (aPair + 0x90) (aPair + 0xC0) true
    let peer := match s.pair.peer with | some h => h.status.toNat | none => 0
    readOk s1 [10] (beBytes 4 (pairStatus s).toNat ++ beBytes 4 (s.reg (aPair + 8)).toNat ++ beBytes 4 peer ++ beInt 4 (peerOffset s) ++
      beBytes 2 (holdLeft s) ++ zeros 6 ++ ((List.range 6).map fun i => (mget {} s1.cnts (aPair + 0x90 + 8 * i)).kcp).flatten)

end Sys2Proof.Machine
end

