-- ==== Sys2Proof/Machine/Power.lean ====
section
/-! DEFINITION. Power states, operating points, clocks and supplies (R302, R374, R417 to R431, R443 to R448), with the heartbeat
that carries a peer's refusal (R424). -/

namespace Sys2Proof.Machine

/-! ### Domains (R417, R418) -/

/-- Condition of domain `d` in state `st` (Table PWR-1), as a code of R442. -/
def domCond (st d : Nat) : Nat :=
  if d = 0 then 1
  else if d = 1 then (if st = 3 then 0 else 1)
  else if d = 2 ∨ d = 3 then (if st = 3 then 0 else if st = 2 then 2 else 1)
  else if d = 8 ∨ d = 9 then (if st ≥ 2 then 0 else 1)
  else if d = 10 then (if st ≥ 2 then 3 else 1)
  else if st = 0 then 1 else 0

def State.dom (s : State) (d : Nat) : Nat := nth 0 s.power.dom d
def State.setDom (s : State) (d c : Nat) : State := { s with power := { s.power with dom := s.power.dom.set d c } }
def State.setDemand (s : State) (d : Nat) (b : Bool) : State := { s with power := { s.power with demand := s.power.demand.set d b } }
def State.setJob (s : State) (j : Option PmuJob) : State := { s with power := { s.power with job := j } }

/-- Peripheral blocks of a domain, by their number in Table ARCH-7. -/
def domBlocks (d : Nat) : List Nat :=
  if d = 1 then [0, 2, 3, 14, 15, 16] else if d = 2 then [6, 7, 12, 13] else if d = 3 then [4, 5] else if d = 8 then [11]
  else if d = 9 then [9, 10] else if d = 10 then [8] else []

/-- Registers of a domain that goes off: parameters, which Ganen saves and restores, stay; the rest is as after reset. -/
def State.loseRegs (s : State) (d : Nat) : State :=
  let mine := fun (a : Nat) => (domBlocks d).contains ((a - 0x40000000) / 0x100000) && decide (0x40000000 ≤ a) && decide (a < 0x41200000)
  let keep := fun (e : Nat × Word) => match regInfo e.1 with
    | some i => let w := (e.2 &&& (i.rw ||| i.rwl)) ||| (i.reset &&& ~~~(i.rw ||| i.rwl)); if w = i.reset then none else some (e.1, w)
    | none => none
  { s with
    regs := s.regs.filterMap fun e => if mine e.1 then keep e else some e
    cnts := s.cnts.filter fun e => !mine e.1 }

/-- Facets of a quarter. -/
def quarter (d : Nat) : List Nat := (List.range 16).map fun i => 16 * (d - 4) + i

/-- Crown is off: blocks, delay lines and filter histories are lost (R418). -/
def State.crownLost (s : State) : State :=
  let t := s.memClear 0x20000000 0x26000000
  { t with render := { t.render with
      blocks := [], objRt := t.render.objRt.map fun e => (e.1, { e.2.lost with line := [] })
      feedRt := t.render.feedRt.map fun e => (e.1, e.2.lost) } }

/-- A Facet quarter is off: the filter states of the chains that it carried are lost (R418). No zone is enabled then. -/
def State.chainsLost (s : State) : State :=
  { s with render := { s.render with
      objRt := s.render.objRt.map fun e => (e.1, e.2.lost), feedRt := s.render.feedRt.map fun e => (e.1, e.2.lost) } }

/-- The time unit is off: slots and references keep their parameters, and nothing is selected (R418). -/
def TimeU.off (t : TimeU) : TimeU :=
  { t with
    capt := List.replicate 9 [], txts := List.replicate 6 []
    ptp := t.ptp.map fun p => { p with st := 0, hasGm := false, steered := false }
    refs := t.refs.map fun q =>
      { enable := q.enable, cfgLevel := q.cfgLevel, rate := q.rate, tol := q.tol, disq := q.disq, dwell := q.dwell }
    sel := { holdLimit := t.sel.holdLimit, stab := t.sel.stab } }

/-- A domain goes off: what it held is lost (R418). -/
def State.domOff (s : State) (d : Nat) : State :=
  let s1 := s.loseRegs d
  if d = 1 then
    { ((s1.memClear 0x10000000 secLo).lower aTime 1) with
      kcp := {}, delta := { s1.delta with entries := [], closed := none, held := none, kept := [] }
      time := s1.time.off }
  else if d = 2 then { s1.crownLost with dma := {} }
  else if d = 3 then (List.range 6).foldl (fun s k => s.linkDown k) s1
  else if d = 8 then { s1 with loupe := { s1.loupe with ins := List.replicate 16 {}, slots := List.replicate 64 none, lastEdge := none } }
  else if d = 9 then { s1 with ports := { s1.ports with port := List.replicate 16 {} } }
  else if d = 10 then { s1 with mem := { s1.mem with st := 0 } }
  else if 4 ≤ d ∧ d ≤ 7 then
    (quarter d).foldl (fun s k =>
      let t := (s.memClear (0x30000000 + 0x100000 * k) (0x30000000 + 0x100000 * k + 0x100000)).setFst k (if s.fst k = 7 then 7 else 0)
      { t with facets := { t.facets with core := mdel t.facets.core k, stopped := mdel t.facets.stopped k } }) s1.chainsLost
  else s1

/-- A domain is reduced, or held in self-refresh. -/
def State.domReduce (s : State) (d : Nat) : State :=
  if d = 2 then s.crownLost
  else if d = 3 then (List.range 4).foldl (fun s k => s.linkDown k) s
  else if d = 10 then { s with mem := { s.mem with st := if s.mem.st = 3 then 4 else s.mem.st, down := [] } }
  else s

/-- A domain is awake: a Facet quarter holds IDLE Facets and the kernels that Ganen reloads; measurement inputs settle in the
configuration that Ganen restores; DRAM leaves self-refresh (R418). -/
def State.domUp (s : State) (d : Nat) : State :=
  if 4 ≤ d ∧ d ≤ 7 then
    let s1 := (quarter d).foldl (fun s k => if s.fst k = 0 then s.setFst k 1 else s) s
    let mine := s1.facets.kernels.filter fun e => (quarter d).contains e.2.facet && s1.fst e.2.facet == 1
    mine.foldl (fun s e =>
      let t := s.loadKernel e.1 e.2.facet e.2.img
      { t with facets := { t.facets with kernels := mset t.facets.kernels e.1 { e.2 with run := false } } }) s1
  else if d = 8 then (List.range 16).foldl (fun s n => s.setInCfg n (s.reg (aLin n))) s
  else if d = 10 then { s with mem := { s.mem with st := if s.mem.st = 4 then 3 else s.mem.st } }
  else s

/-- DRAM trained and initialised anew: every content is lost (Table MEM-4). -/
def State.dramFresh (s : State) : State :=
  let s1 := s.memClear dramLo (dramLo + 2 ^ 40)
  { s1 with
    mem := { s1.mem with st := 3, initDone := false, mark := 1024, down := [] }
    render := { s1.render with lib := [] }
    time := { s1.time with lostDram := false } }

/-! ### Outcomes -/

/-- PWR_RESULT (R441, R247). -/
def State.pwrResult (s : State) (state result dom reason : Nat) : State :=
  s.event 0x8C00 ((([state, result, dom, reason] : List Nat)).map (BitVec.ofNat 8))

/-- A unit starts or stops asserting READY. -/
def State.readyPin (s : State) (b : Bool) : State := s.emit (.ready b)

/-! ### Entries (R420 to R424) -/

def stopOrder : List Nat := [8, 9, 7, 6, 5, 4, 3, 10, 2, 1]
def wakeOrder : List Nat := [1, 2, 10, 3, 4, 5, 6, 7, 9, 8]

/-- Domains that an entry into `t` asks, in order. -/
def toAsk (s : State) (t : Nat) : List Nat :=
  stopOrder.filter fun d => s.dom d ≠ 6 && s.dom d ≠ domCond t d && (s.dom d == 1 || s.dom d == 2) && domCond t d ≠ 1

/-- Domains that a return to `t` wakes, in order. -/
def toWake (s : State) (t : Nat) : List Nat := wakeOrder.filter fun d => s.dom d ≠ 6 && s.dom d ≠ domCond t d

/-- A domain that went off while an access waited for it is woken on demand (R423). -/
def State.wakeDemanded (s : State) : State :=
  (List.range 11).foldl (fun s d => if nth false s.power.demand d && s.dom d == 0 then s.setDom d 4 else s) s

/-- The state is entered: every domain has granted. -/
def State.enterState (s : State) (t : Nat) : State :=
  let s0 := { s with power := { s.power with st := t, target := t, job := none } }
  let s1 := s0.wakeDemanded
  let s2 := if t = 0 then s1 else s1.toCold
  if t = 3 then ({ s2 with render := { s2.render with run := false } }).readyPin false else s2

/-- The next domain is asked, or the entry ends; PWR_RESULT goes out while Ganen still serves. DEDUCED, log 167. -/
def State.askNext (s : State) (t : Nat) (ask stopped : List Nat) : State :=
  match ask with
  | [] => s.enterState t
  | d :: _ => (s.setJob (some (.entry t ask stopped false))).setDom d 5

/-- Why a domain refuses (Table PWR-3). -/
def refusal (s : State) (t d : Nat) : Option Nat :=
  if 4 ≤ d ∧ d ≤ 7 then
    if s.anyZone then some 1
    else if s.facets.kernels.any fun e => e.2.run && (quarter d).contains e.2.facet then some 2 else none
  else if d = 9 ∧ t ≥ 2 then
    if s.ports.port.any (fun p => p.st ≠ 0) || (List.range 64).any (fun r => routeOn (s.reg (aRoute r))) then some 3 else none
  else if d = 3 ∧ t ≥ 2 then (if (List.range 4).any (fun k => portInUse s k) then some 4 else none)
  else if d = 8 then (if s.loupe.job.isSome then some 5 else none)
  else none

/-- Count a refusal (R422). -/
def State.countRefusal (s : State) (d reason t : Nat) : State :=
  let n := min 0xFFFF (nth 0 s.power.refuse d + 1)
  (({ s with power := { s.power with refuse := s.power.refuse.set d n } }).setReg (aPmu + 0xC) (wordN (t * 2 ^ 16 + reason * 2 ^ 8 + d))).raise
    (aPmu + 4) 1

/-- An aborted entry has woken what it stopped. -/
def State.undone (s : State) (t d reason : Nat) : State :=
  let s1 := { s with power := { s.power with job := none, target := s.power.st } }
  (s1.countRefusal d reason t).pwrResult t 1 d reason

/-- An entry aborts: the domain that was asked goes on, and the stopped ones are woken. -/
def State.abortEntry (s : State) (d reason : Nat) : State :=
  match s.power.job with
  | some (.entry t ask stopped _) =>
    let s0 := { s with power := { s.power with tell := if s.pairEn && reason != 9 then some d else s.power.tell } }
    let s1 := match ask with | a :: _ => s0.setDom a (domCond s.power.st a) | [] => s0
    match stopped with
    | [] => s1.undone t d reason
    | x :: _ => (s1.setJob (some (.undo t stopped d reason))).setDom x 4
  | _ => s

/-- A state request begins at a boundary. -/
def State.pwrBegin (s : State) (t : Nat) : State :=
  if s.power.job.isSome then s
  else if t = s.power.st then s.pwrResult t 0 0xFF 0
  else if t > s.power.st then
    let s1 := { s with power := { s.power with target := t, wakeAfter := false } }
    match toAsk s1 t with
    | [] => (s1.pwrResult t 0 0xFF 0).enterState t
    | ask => s1.askNext t ask []
  else
    let s1 := { s with power := { s.power with target := t } }
    match toWake s1 t with
    | [] => (s1.enterState t).pwrResult t 0 0xFF 0
    | d :: l => (s1.setJob (some (.back t (d :: l) none))).setDom d 4

/-- DOMAIN_GRANT. -/
def execDomainGrant (d : Fin 11) (s : State) : Host.Outcome State Fault Refusal :=
  match s.power.job with
  | some (.entry t (a :: rest) stopped _) =>
    if a ≠ d.val ∨ (refusal s t d.val).isSome then .next s
    else
      let s0 := if rest.isEmpty then s.pwrResult t 0 0xFF 0 else s
      let s1 := (s0.setDom a (domCond t a)).setDemand a false
      let s2 := if domCond t a = 0 then s1.domOff a else s1.domReduce a
      .next (s2.askNext t rest (a :: stopped))
  | _ => .next s

/-- DOMAIN_DELAY: the domain asks again; nothing changes until it answers. -/
def execDomainDelay (_d : Fin 11) (s : State) : Host.Outcome State Fault Refusal := .next s

/-- A domain that is asked refuses. -/
def State.refuses (s : State) (d reason : Nat) : State :=
  match s.power.job with
  | some (.entry _ (a :: _) _ _) => if a = d then s.abortEntry d reason else s
  | _ => s

/-- Whether a DMA channel runs. -/
def dmaRuns (s : State) : Bool := s.dma.ch.any fun c => c.job ≠ .idle

/-- DOMAIN_DELAY_EXPIRED. -/
def execDomainDelayExpired (d : Fin 11) (s : State) : Host.Outcome State Fault Refusal :=
  .next (s.refuses d.val (if d.val = 10 && dmaRuns s then 6 else 7))

/-- DOMAIN_REFUSE: a reason of Table PWR-3 whose condition holds. -/
def execDomainRefuse (d : Fin 11) (reason : Fin 12) (s : State) : Host.Outcome State Fault Refusal :=
  match refusal s s.power.target d.val with
  | some r => .next (if r = reason.val then s.refuses d.val r else s)
  | none => .next s

/-! ### Waking (R425 to R427) -/

/-- The next domain of a return or an undoing is woken, or it ends. -/
def State.wakeNext (s : State) : State :=
  match s.power.job with
  | some (.undo t left d reason) =>
    match left with
    | [] => s.undone t d reason
    | x :: _ => s.setDom x 4
  | some (.back t left failed) =>
    match left with
    | [] => (s.enterState t).pwrResult t 0 (failed.getD 0xFF) (if failed.isSome then 10 else 0)
    | x :: _ => s.setDom x 4
  | _ => s

/-- The domain at the head of a job is done with. -/
def State.dropHead (s : State) (d : Nat) (bad : Bool) : State :=
  match s.power.job with
  | some (.undo t (x :: left) r q) => if x = d then (s.setJob (some (.undo t left r q))).wakeNext else s
  | some (.back t (x :: left) f) => if x = d then (s.setJob (some (.back t left (if bad then some d else f)))).wakeNext else s
  | _ => s

/-- What a domain becomes when it is ready. -/
def readyCond (s : State) (d : Nat) : Nat :=
  match s.power.job with
  | some (.back t (x :: _) _) => if x = d then domCond t d else if nth false s.power.demand d then 1 else domCond s.power.st d
  | _ => if nth false s.power.demand d then 1 else domCond s.power.st d

/-- A waking domain is ready: it takes its condition, and what waits for it goes on. -/
def State.domReady (s : State) (d : Nat) : State :=
  if s.dom d ≠ 4 then s
  else
    let c := readyCond s d
    let s1 := if d = 10 && s.mem.dramFailed then s.dramFresh else s
    let s2 := (s1.setDom d c).domUp d
    let s3 := if c = 0 then s2.domOff d else if c = 2 ∨ c = 3 then s2.domReduce d else s2
    s3.dropHead d false

/-- Power-good (or lock, where `lock`) came late: the domain is off and FAILED. -/
def State.domLate (s : State) (d : Fin 11) (lock : Bool) : State :=
  if s.dom d.val ≠ 4 then s
  else
    let s1 := ((s.setDom d.val 6).setDemand d.val false).domOff d.val
    let s2 := (s1.raise (aPmu + 4) 2).report { cls := 0x80, dev := true, inst := d.val, detail := [wordN (b2n lock)] }
    let s3 := s2.event 0x8C01 ([BitVec.ofNat 8 d.val, BitVec.ofNat 8 (b2n lock)] ++ zeros 2)
    let s4 := if d.val = 10 then s3.dramFail 2 false else s3
    s4.dropHead d.val true

/-- A domain that may be retried (R427, Table MEM-4). DEDUCED, log 171. -/
def mayRetry (s : State) (d : Nat) : Bool := decide (2 ≤ d) && decide (d ≤ 10) && (s.dom d == 6 || (d == 10 && s.mem.dramFailed && s.dom d ≠ 4))

/-- A FAILED domain is woken again. -/
def State.retryDomain (s : State) (d : Nat) : State := if mayRetry s d then s.setDom d 4 else s

/-- PMU_RETRY_WRITE. -/
def execPmuRetryWrite (v : Word) (s : State) : Host.Outcome State Fault Refusal := guarded (aPmu + 0x1C) v (s.retryDomain (wbits v 0 4))

/-- A wake source fires (R423, R425). It replaces a request that waits for its boundary; while a change of point runs, the return
waits for it. DEDUCED, log 207. -/
def State.wakeSource (s : State) : State :=
  match s.power.job with
  | some (.entry ..) => s.abortEntry 0 8
  | none => if s.power.st = 0 then s else s.pwrBegin 0
  | some (.undo ..) | some (.back ..) => s
  | some (.begin' _) => if s.power.st = 0 then s else (s.setJob none).pwrBegin 0
  | some _ => { s with power := { s.power with wakeAfter := true } }

/-- WAKE_N_EDGE. -/
def execWakeNEdge (s : State) : Host.Outcome State Fault Refusal :=
  .next (if wbit (s.reg (aPmu + 0x20)) 0 then s.wakeSource else s)

/-- A magic frame of port `k` (R273). -/
def isMagic (s : State) (k : Nat) (bs : List Byte) : Bool :=
  let f := parseFrame bs
  let pat := List.replicate 6 (0xFF : Byte) ++ (List.replicate 16 (beBytes 6 (unitMac s k))).flatten
  (f.dst == unitMac s k || f.dst == bcast) && (List.range (bs.length + 1)).any fun i => (bs.drop i).take 102 == pat

/-- A KCP wake frame of port `k`; its tag is not checked. -/
def isKcpWake (s : State) (k : Nat) (bs : List Byte) : Bool :=
  match parseIp (parseFrame bs) with
  | none => false
  | some p =>
    let u := parseUdp p
    let b := u.2.2.2
    let n := beAt b 4 4
    p.proto == 17 && p.dst == unitIp s k && u.2.1 == wbits (s.reg (aNet k + 0x28)) 0 16 && beAt b 0 2 == 0x4B43 && beAt b 2 1 == 1 &&
      beAt b 14 2 == 0x0C00 && beAt b 20 1 == 0 && decide (n ≥ 4) && crc32c (b.take (n - 4)) == BitVec.ofNat 32 (beAt b (n - 4) 4)

/-- WAKE_FRAME on NETPORT_4 + k, in SLEEP. -/
def execWakeFrame (k : Fin 2) (bs : List Byte) (s : State) : Host.Outcome State Fault Refusal :=
  let p := 4 + k.val
  let magic := netCtl s p 26 && !s.locked && isMagic s p bs
  let kcp := netCtl s p 27 && isKcpWake s p bs
  if s.power.st = 3 && wbit (s.reg (aPmu + 0x20)) (1 + k.val) && (magic || kcp) then .next s.wakeSource else .next s

/-! ### Operating points (R428 to R431) -/

/-- Core voltage of a point, mV (Table PWR-7). -/
def pointMv (p : Nat) : Nat := nth 800 [800, 720, 650] p

/-- VOUT_COMMAND goes to the regulator. -/
def State.vout (s : State) (p : Nat) : State := ({ s with power := { s.power with voltCmd := p } }).emit (.pmbus 0x21 (pointMv p))

/-- A change of point begins: a lowering at a boundary changes the clock first, a raising commands the voltage first. DEDUCED, log 168. -/
def State.pointBegin (s : State) (p : Nat) : State :=
  if p > 2 then s
  else if p = s.power.point then s.pwrResult (4 + p) 0 0xFF 0
  else if p > s.power.point then ((({ s with power := { s.power with point := p } }).setJob (some (.lowered p)))).vout p
  else (s.setJob (some (.raising p))).vout p

/-- At a boundary: a waiting request begins, a confirmed raising takes its clock, and a return that waited begins. -/
def State.pmuBoundary (s : State) : State :=
  match s.power.job with
  | some (.begin' t) => (s.setJob none).pwrBegin t
  | some (.point p) => (s.setJob none).pointBegin p
  | some (.raised p) => (({ s with power := { s.power with point := p } }).setJob none).pwrResult (4 + p) 0 0xFF 0
  | some _ => s
  | none => if s.power.wakeAfter then ({ s with power := { s.power with wakeAfter := false } }).wakeSource else s

/-- VOLTAGE_CONFIRMED: what READ_VOUT and STATUS_WORD return. -/
def execVoltageConfirmed (mv : Nat) (status : BitVec 16) (s : State) : Host.Outcome State Fault Refusal :=
  let s1 := s.putReg (aPmu + 0x28) 0 16 mv
  let ok := fun (p : Nat) => status == 0 && decide (mv + 10 ≥ pointMv p) && decide (mv ≤ pointMv p + 10)
  match s.power.job with
  | some (.lowered p) =>
    if ok p then .next ((({ s1 with power := { s1.power with volt := p } }).setJob none).pwrResult (4 + p) 0 0xFF 0) else .next s1
  | some (.raising p) => if ok p then .next (({ s1 with power := { s1.power with volt := p } }).setJob (some (.raised p))) else .next s1
  | _ => .next s1

/-- VOLTAGE_TIMEOUT: the previous voltage is commanded and the clock stays. -/
def execVoltageTimeout (s : State) : Host.Outcome State Fault Refusal :=
  let back := fun (p : Nat) => ((((s.setJob none).vout s.power.volt).raise (aPmu + 4) 4)).pwrResult (4 + p) 1 0xFF 11
  match s.power.job with
  | some (.lowered p) => .next (back p)
  | some (.raising p) => .next (back p)
  | _ => .next s

/-- PMB_ALERT. DEDUCED, log 170. -/
def execPmbAlert (status : BitVec 16) (s : State) : Host.Outcome State Fault Refusal :=
  .next ((({ s with pins := { s.pins with pmbAlert := true } }).raise (aPmu + 4) 8).putReg (aPmu + 0x28) 16 16 status.toNat)

/-- A write of PMU_REQ begins a request, in the order of R429: a state or a lowering at the next boundary, a raising at once.
DEDUCED, log 169. -/
def State.pmuReq (s : State) (v : Word) : State :=
  let s1 := s.setReg (aPmu + 8) v
  let t := wbits v 0 2
  let p := wbits v 4 2
  if s.power.job.isSome then s1
  else if t ≠ s.power.st then s1.setJob (some (.begin' t))
  else if p ≤ 2 && p ≠ s.power.point then (if p > s.power.point then s1.setJob (some (.point p)) else s1.pointBegin p)
  else s1

/-- PMU_REQ_WRITE. -/
def execPmuReqWrite (v : Word) (s : State) : Host.Outcome State Fault Refusal := guarded (aPmu + 8) v (s.pmuReq v)

/-- PMU_REFUSE_CLR. -/
def State.refuseClr (s : State) (v : Word) : State :=
  if wbit v 0 then { s with power := { s.power with refuse := List.replicate 11 0 } } else s
def execPmuRefuseClr (v : Word) (s : State) : Host.Outcome State Fault Refusal := guarded (aPmu + 0x48) v (s.refuseClr v)

/-! ### Registers (R442) -/

def pmuState (s : State) : Word :=
  wordN (b2n s.power.job.isSome * 2 ^ 8 + s.power.point * 2 ^ 6 + s.power.target * 4 + s.power.st)
def pmuDomain (s : State) (hi : Bool) : Word :=
  wordN (nsum ((List.range (if hi then 3 else 8)).map fun i => s.dom (if hi then 8 + i else i) * 16 ^ i))
def pmuDemand (s : State) : Word := wordN (nsum ((List.range 11).map fun d => if nth false s.power.demand d then 2 ^ d else 0))
def pmuRefuseCnt (s : State) (i : Nat) : Word := wordN (nth 0 s.power.refuse (2 * i) + nth 0 s.power.refuse (2 * i + 1) * 2 ^ 16)

/-! ### Opcodes (R244, R427, R430, R441) -/

/-- N_obj and N_feed (R46). -/
def nObj (s : State) : Nat := (s.render.objs.filter fun e => e.2.zone ≠ 0xFF || zoneAhead s e.1 ≠ 0xFF).length
def nFeed (s : State) : Nat := (s.render.feeds.filter fun e => e.2.enable).length

/-- Whether a point admits the render configuration (Table PWR-7). -/
def pointAdmits (s : State) (p : Nat) : Bool :=
  let prod := nObj s * nFeed s
  if p = 0 then true
  else if p = 1 then !s.render.rate96 || decide (prod ≤ 393216)
  else !s.render.rate96 && decide (prod ≤ 524288)

def specPwrState : OpSpec where
  spi := true
  atOnce := fun _ _ => false
  units := fun _ _ => [11]
  param := fun c _ => firstBad [(c.at 20 1 > 3, 20)]
  busy := fun _ s => if s.power.job.isSome then some (reject stBusy 11 0xFFFF) else none
  accept := fun c s => (c, s.enter (.powerState (c.at 20 1)))

def specPwrOppoint : OpSpec where
  spi := true
  atOnce := fun _ _ => false
  units := fun _ _ => [11]
  param := fun c _ => firstBad [(c.at 20 1 > 2, 20)]
  busy := fun c s =>
    if s.power.job.isSome then some (reject stBusy 11 0xFFFF) else if !pointAdmits s (c.at 20 1) then some (reject stCapacity 11 9) else none
  accept := fun c s => (c, s.enter (.powerPoint (c.at 20 1)))

def specPwrDomainRetry : OpSpec where
  spi := true
  atOnce := fun _ _ => false
  units := fun _ _ => [11]
  param := fun c _ => firstBad [(c.at 20 1 < 2 || c.at 20 1 > 10, 20)]
  busy := fun c s => if mayRetry s (c.at 20 1) then none else some (reject stConflict 11 0xFFFF)
  apply := fun c _ s => s.retryDomain (c.at 20 1)

def specPwrStatus : OpSpec where
  standby := true
  spi := true
  units := fun _ _ => [11]
  run := fun _ s =>
    let w := fun (x : Word) => beBytes 4 x.toNat
    readOk s [11] (w (pmuState s) ++ w (pmuDomain s false) ++ w (pmuDomain s true) ++ w (pmuDemand s) ++ w (s.reg (aPmu + 0xC)) ++
      ((List.range 11).map fun d => beBytes 2 (nth 0 s.power.refuse d)).flatten ++ zeros 2)

/-! ### Clocks (R302, Table TIME-7) -/

/-- CLOCK_LOSS: 0 OSC_IN, 1 system PLL, 2 audio PLL, 3 DRAM PLL. -/
def State.clockLoss (s : State) (c : Nat) : State :=
  let t := s.time
  let lost := nth false [t.lostOsc, t.lostSys, t.lostAudio, t.lostDram] c
  if lost then s
  else
    let t1 := if c = 0 then { t with lostOsc := true, sel := { t.sel with outSpec := true } } else if c = 1 then { t with lostSys := true }
      else if c = 2 then { t with lostAudio := true } else { t with lostDram := true }
    let s1 := s.raise (aClksel + 8) (wordN (2 ^ c))
    let s2 := s1.report { cls := 1, dev := true, inst := c, detail := [s1.reg (aClksel + 8)] }
    let s3 := { s2 with time := t1 }
    let hush := fun (e : Nat × FeedRt) => (e.1, { e.2 with last := 0, leaving := [], heldBlocks := 48 })
    if c = 1 then
      { s3 with
        integ := { s3.integ with stopped := true, pllStop := true }
        render := { s3.render with run := false, feedRt := s3.render.feedRt.map hush }
        ports := { s3.ports with port := s3.ports.port.map fun q => { q with outQ := [], outHist := [] } } }
    else if c = 2 then s3.realign
    else if c = 3 then s3.dramFail 1 false
    else s3

/-- SYSPLL_RELOCK: the control complex restarts, and the time bases wait to be loaded. -/
def execSyspllRelock (s : State) : Host.Outcome State Fault Refusal :=
  if s.time.lostSys then
    let s1 := { s with time := { s.time with lostSys := false } }
    .next ((s1.lower aTime 1).restart)
  else .next s

/-- Ganen loads the time bases from the free-running counter (R280). -/
def State.loadTime (s : State) : State :=
  let v := s.frcNs s.time.frc * 2 ^ 48
  ({ s with time := { s.time with a := v, b := v, l := v } }).raise aTime 1

/-! ### The peer's heartbeat (R386, R395, R415, R424) -/

/-- HEARTBEAT_RX. -/
def execHeartbeatRx (h : Heartbeat) (s : State) : Host.Outcome State Fault Refusal :=
  if !s.pairEn then .next s
  else
    let first := h.sync.val = 5 && s.peerSync ≠ 5
    let p := { s.pair with
      peer := some h, lane0 := true, lane1 := true, beat := true, peerCold := s.pair.peerCold && h.sync.val == 5
      syncAt := if first && s.pair.claim then s.lNs else s.pair.syncAt }
    let s1 := { s with pair := p }
    let s2 := if incompatible s h then s1.raise (aPair + 8) 0x80 else s1
    let far := decide (h.peerL - h.ownL > 1000) || decide (h.peerL - h.ownL < -1000)
    let s3 := if !s.pair.claim && far then s2.loseStep else s2
    let s4 := s3.peerNews s
    match h.refused, s.power.job with
    | some d, some (.entry ..) => .next (s4.abortEntry d.val 9)
    | _, _ => .next s4

end Sys2Proof.Machine
end

