-- ==== Sys2Proof/Machine/Start.lean ====
section
/-! DEFINITION. POR_N, start-up, images, recovery, supplies, tamper and the lifecycle (R374, R432 to R441, R443, R446, R447, R455). -/

namespace Sys2Proof.Machine

/-! ### Images (R436) -/

/-- Sections of an image: offset, length, load address and hash. -/
def imgSections (img : List Byte) : List (Nat × Nat × Nat × List Byte) :=
  (List.range (leAt img 12 4)).map fun i =>
    let o := 80 + 48 * i
    (leAt img o 4, leAt img (o + 4) 4, leAt img (o + 8) 8, slice img (o + 16) 32)

/-- A section matches its hash. -/
def sectionOk (img : List Byte) (q : Nat × Nat × Nat × List Byte) : Bool :=
  slice img q.1 q.2.1 |>.length |> fun n => n == q.2.1 && sha256 (slice img q.1 q.2.1) == q.2.2.2

/-- Why the boot ROM rejects an image (IMG_ERR of Table PWR-9); 0 where it accepts. -/
def imgErr (s : State) (img : List Byte) : Nat :=
  let n := leAt img 12 4
  let key := slice img 16 64
  let flags := leAt img 6 2
  let ver := leAt img 8 4
  let keyOk := s.sec.lifecycle == 0 || s.sec.keyHash == some (sha256 key)
  let lifeOk := !(s.sec.lifecycle == 2 && flags.testBit 1) && !(s.sec.lifecycle == 3 && !flags.testBit 0)
  let sec0 := match (imgSections img).head? with
    | some q => decide (0x10000000 ≤ q.2.2.1) && decide (q.2.2.1 + q.2.1 ≤ 0x10060000) && sectionOk img q
    | none => false
  if img.length < 912 || leAt img 0 4 ≠ 0x47414E31 || n = 0 || n > 16 then 1
  else if !keyOk then 2
  else if !ecdsaVerify (img.take 848) key (slice img 848 64) then 3
  else if ver < s.sec.floor then 4
  else if !lifeOk then 5
  else if !sec0 then 6
  else 0

/-- Sections that Ganen loads in step 7; those in DRAM are skipped where it has failed. -/
def loadable (s : State) (img : List Byte) : List (Nat × Nat × Nat × List Byte) :=
  (imgSections img).filter fun q => !(s.mem.dramFailed && decide (q.2.2.1 ≥ dramLo))

/-- Why an image fails: the step of Table PWR-6, 2 or 7, and IMG_ERR, 7 where it cannot be read; (0, 0) where it does not. -/
def tryImg (s : State) (img : Option (List Byte)) : Nat × Nat :=
  match img with
  | none => (2, 7)
  | some b => let e := imgErr s b; if e ≠ 0 then (2, e) else if (loadable s b).all (sectionOk b) then (0, 0) else (7, 6)

/-! ### Start-up (R432, Table PWR-6) -/

/-- Steps 3 to 5: clocks, calibration and DRAM training, with what they log. DESIGN CHOICE, log 173; DEDUCED, log 175. -/
def State.startHw (s : State) (e : StartEnv) : State :=
  let pll := !(e.sysPll && e.audioPll && e.dramPll && e.pciePll)
  let cal := !e.calPorts.isEmpty || !e.calSensor
  let b := { s.boot with env := some e, pllFail := pll, calFail := cal, dramFail := !e.trained || !e.dramPll }
  let m := { s.mem with
    capacity := e.capacityGiB, density := e.density, ranks := e.ranks, train := e.trainWords, mark := 1024, st := 3, initDone := false }
  let s0 := { s with boot := b, mem := m }
  let s1 := if e.audioPll then s0 else s0.clockLoss 2
  let s2 := if e.dramPll then s1 else s1.clockLoss 3
  let s3 := if e.pciePll then s2 else s2.report { cls := 1, dev := true, inst := 4, detail := [s2.reg (aClksel + 8)] }
  let (k, s4) := s3.fresh
  let note := fun (s : State) (i : Nat) => s.report { cls := (Config.freeWord k 0).toNat % 2 ^ 16, dev := false, inst := i }
  let s5 := (e.calPorts ++ (if e.calSensor then [] else [6])).foldl note s4
  if e.trained || !e.dramPll then s5 else s5.dramFail 0 true

/-- The sections of an image reach their places. -/
def State.loadImage (s : State) (img : List Byte) : State :=
  (loadable s img).foldl (fun s q => s.memWrite q.2.2.1 (slice img q.1 q.2.1)) { s with boot := { s.boot with image := img } }

/-- The first READY in FIELD of an image with RAISE_FLOOR raises the floor to its security version (R436). -/
def State.raiseFloor (s : State) : State :=
  let img := s.boot.image
  if s.sec.lifecycle == 2 && (leAt img 6 2).testBit 2 && decide (leAt img 8 4 > s.sec.floor) then
    { s with sec := { s.sec with floor := leAt img 8 4 } }
  else s

/-- Step 7 ends: domains are on, time is loaded, the render runs, READY is asserted, and the unit claims its line. -/
def State.goReady (s : State) (e : StartEnv) : State :=
  let s1 := { s.raiseFloor with
    boot := { s.boot with phase := .ready, ganenVersion := e.ganen }
    power := { s.power with dom := List.replicate 11 1, st := 0, target := 0 }
    facets := { s.facets with st := List.replicate 64 1 } }
  let s2 := s1.loadTime
  let s3 := { s2 with render := { s2.render with run := true, n := blockAt s2.render.rate96 s2.lNs } }
  ((s3.netInit).readyPin true).tryClaim

/-- Recovery (R435). -/
def State.recover (s : State) (step err : Nat) : State :=
  { s with boot := { s.boot with phase := .recovery, failStep := step, imgErr := err } }

/-- Start-up from the first step. DEDUCED, log 174. -/
def State.startUp (s : State) (e : StartEnv) : State :=
  let s0 := { s with
    boot := { s.boot with env := some e }, pins := { s.pins with preferred := e.preferred }, pair := { s.pair with ilkB := e.ilkB }
    power := { s.power with dom := [1, 1, 1, 0, 0, 0, 0, 0, 0, 0, 0] } }
  if !e.powerOk then { s0 with boot := { s0.boot with phase := .dead, failStep := 1 } }
  else
    let hw := s0.startHw e
    let e0 := tryImg hw e.slot0
    let e1 := tryImg hw e.slot1
    let fell := { hw with boot := { hw.boot with fallback := true } }
    let go := fun (slot : Nat) (img : Option (List Byte)) =>
      let b := { hw.boot with src := 0, slot := slot, fallback := slot == 1, imgErr := if slot = 1 then e0.2 else 0 }
      (({ hw with boot := b }).loadImage (img.getD [])).goReady e
    if e.spiHeld then hw.recover 0 0
    else if e0.1 = 2 && e1.1 = 2 then fell.recover 2 e1.2
    else if !e.sysPll then hw.recover 3 0
    else if e0.1 = 0 then go 0 e.slot0
    else if e1.1 = 0 then go 1 e.slot1
    else fell.recover e1.1 e1.2

/-- A return from SLEEP runs start-up from step 2, from the DRAM copy of the image, or from the flash where the copy fails. -/
def State.resumeSleep (s : State) : State :=
  match s.boot.env with
  | none => s
  | some e =>
    let copy := if s.mem.dramFailed then (2, 7) else tryImg s (some s.boot.image)
    let e0 := tryImg s e.slot0
    let e1 := tryImg s e.slot1
    let from' := fun (src slot err : Nat) (img : List Byte) =>
      let b := { s.boot with src := src, slot := slot, wake := true, fallback := src == 0, imgErr := err }
      let t := ((((({ s with boot := b }).loadImage img).raiseFloor).loadTime).readyPin true).tryClaim
      { t with render := { t.render with run := !t.integ.pllStop, n := blockAt t.render.rate96 t.lNs } }
    if copy.1 = 0 then from' 3 s.boot.slot 0 s.boot.image
    else if e0.1 = 0 then from' 0 0 copy.2 (e.slot0.getD [])
    else if e1.1 = 0 then from' 0 1 e0.2 (e.slot1.getD [])
    else ({ s with boot := { s.boot with fallback := true } }).recover e1.1 e1.2

/-! ### POR_N and supplies (R374, R432, R443, R446, R447) -/

/-- What AON keeps over POR_N: the free-running counter and its offsets, the secure part, refusal counts, OTP and the tamper
latch; `aon` says that AON lost power. -/
def State.porState (s : State) (aon : Bool) : State :=
  let kept := [aTime + 0xA8, aTime + 0xAC, aTime + 0xB0, aSec + 8]
  let keepSec := fun (c : Host.Cell) => decide (secLo ≤ c.1) && decide (c.1 < secHi)
  { State.reset with
    pending := s.pending, freeCtr := s.freeCtr, out := s.out
    pins := { s.pins with porLow := false }
    regs := if aon then [] else s.regs.filter fun e => kept.contains e.1
    power := if aon then {} else { refuse := s.power.refuse }
    sec := if aon then { s.sec with keys := List.replicate 8 none, wiping := false, owed := 0 } else { s.sec with wiping := false }
    mem := if aon then {} else { bytes := s.mem.bytes.filter keepSec }
    time := if aon then {} else { frc := s.time.frc, frcPhase := s.time.frcPhase }
    pair := { ilkB := s.pair.ilkB } }

/-- POR_ASSERT: every domain but AON is in reset, and the pads but FAULT_N are at high impedance. -/
def execPorAssert (s : State) : Host.Outcome State Fault Refusal :=
  let s1 := s.porState false
  .next (({ s1 with pins := { s1.pins with porLow := true } }).readyPin false)

/-- POR_RELEASE: start-up runs, unless a supply is out of range. -/
def execPorRelease (env : StartEnv) (s : State) : Host.Outcome State Fault Refusal :=
  if s.boot.phase ≠ .inReset then .next s
  else
    let s1 := { s with pins := { s.pins with porLow := false } }
    if s.pins.supplyBad ≠ 0 then .next s1 else .next (s1.startUp env)

/-- Range of a supply, mV × 10, at the point whose voltage is confirmed (Table ELEC-1). -/
def supplyRange (m volt : Nat) : Nat × Nat :=
  nth (0, 0) [nth (7800, 8400) [(7800, 8400), (7000, 7600), (6300, 6900)] volt, (8250, 8750), (7600, 8400), (8250, 8750), (17100, 18900),
    (4750, 5250), (10100, 11200), (17100, 18900)] m

/-- Reset threshold of a supply, mV. -/
def supplyReset (m : Nat) : Nat := if m = 2 then 700 else if m = 7 then 1500 else 0

/-- SUPPLY: a monitor finds its supply outside the range; below the threshold the device is reset as by POR_N. While the domains
are in reset only AON sees it, and holds them there (R447). -/
def execSupply (m : Fin 8) (mv : Nat) (s : State) : Host.Outcome State Fault Refusal :=
  let r := supplyRange m.val s.power.volt
  if r.1 ≤ 10 * mv ∧ 10 * mv ≤ r.2 then .next s
  else
    let bad := s.pins.supplyBad ||| 2 ^ m.val
    let s1 := { s with pins := { s.pins with supplyBad := bad } }
    if mv < supplyReset m.val then
      .next ((s1.porState (m.val = 2)).readyPin false)
    else if s.boot.phase = .inReset then .next s1
    else .next ((s1.raise (aInteg + 4) 8).report { cls := 2, dev := true, inst := m.val, detail := [wordN mv] })

/-- SUPPLY_IN_RANGE: every supply is within its range; domains that were held in reset start. -/
def execSupplyInRange (env : StartEnv) (s : State) : Host.Outcome State Fault Refusal :=
  if s.pins.supplyBad = 0 then .next s
  else
    let s1 := { s with pins := { s.pins with supplyBad := 0 } }
    if s.boot.phase = .inReset && !s.pins.porLow then .next (s1.startUp env) else .next s1

/-! ### The status word and recovery (R434, R435, Table PWR-9) -/

/-- SYS_BOOT_STATUS. -/
def bootStatus (s : State) : Word :=
  let b := s.boot
  let ready := b.phase == .ready && s.power.st ≠ 3
  wordN (b2n ready * 2 ^ 31 + b2n (ready && s.mem.initDone) * 2 ^ 30 + b.src * 2 ^ 28 + s.sec.lifecycle * 2 ^ 26 + b.slot * 2 ^ 25 +
    b2n b.fallback * 2 ^ 24 + b.failStep * 2 ^ 20 + b.imgErr * 2 ^ 16 + b2n b.dramFail * 2 ^ 7 + b2n b.calFail * 2 ^ 6 +
    b2n b.pllFail * 2 ^ 5 + b2n (b.phase == .recovery) * 2 ^ 4 + b2n b.wake * 2 ^ 3)

/-- BOOT_STATUS. -/
def specBootStatus : OpSpec where
  spi := true
  run := fun _ s => readOk s [1] (beBytes 4 (bootStatus s).toNat)

/-- BOOT_WRITE: Offset and image bytes; a place past the DRAM is no parameter. DEDUCED, log 176. -/
def specBootWrite : OpSpec where
  spi := true
  len := fun c => decide (c.plen ≥ 8)
  param := fun c s => firstBad [(decide (c.at 20 4 + (c.bytes 24).length > s.dramSize), 20)]
  busy := fun _ s => if s.mem.dramFailed then some (reject stUnitFailed 9 0xFFFF) else none
  run := fun c s => readOk (s.memWrite (dramLo + c.at 20 4) (c.bytes 24)) [1] []

/-- The image that was pushed to DRAM offset 0. -/
def pushedImage (s : State) : List Byte :=
  let h := s.readBytes dramLo 912
  let top := ((imgSections (if leAt h 12 4 > 16 then [] else h)).map fun q => q.1 + q.2.1).foldl max 912
  s.readBytes dramLo top

/-- BOOT_START. DEDUCED, log 176. -/
def specBootStart : OpSpec where
  spi := true
  busy := fun _ s => if (tryImg s (some (pushedImage s))).1 = 0 then none else some (reject stBadParam 1 20)
  run := fun c s =>
    let img := pushedImage s
    match s.boot.env with
    | none => readOk s [1] []
    | some e =>
      let b := { s.boot with src := if isSpi c.ep then 2 else 1, failStep := 0, imgErr := 0, fallback := false }
      let s1 := { s with boot := b }
      readOk (((s1.memClear dramLo (dramLo + 2 ^ 40)).loadImage img).goReady e) [1] []

/-! ### Security (R341, R437 to R440) -/

/-- The register window closes (R218). -/
def State.closeWindow (s : State) (cause : Nat) : State :=
  if s.kcp.window.isSome then
    ({ s with kcp := { s.kcp with window := none } }).event 0x8F01 ([BitVec.ofNat 8 cause] ++ zeros 3)
  else s

/-- The secure part is wiped (R341). -/
def State.wipe (s : State) : State :=
  { (s.memClear secLo secHi) with sec := { s.sec with keys := List.replicate 8 none, wiping := true } }

/-- SECURE_WIPE_DONE. -/
def execSecureWipeDone (s : State) : Host.Outcome State Fault Refusal := .next { s with sec := { s.sec with wiping := false } }

/-- TAMPER: source 0 is TAMPER_N, whose level after the event is `low`; 1 the voltage glitch detector; 2 the clock glitch
detector. In SLEEP the record waits for the return. -/
def execTamper (src : Fin 3) (low : Bool) (s : State) : Host.Outcome State Fault Refusal :=
  if src = 0 && s.sec.tamperLow && !low then .next { s with sec := { s.sec with tamperLow := false } }
  else
    let s1 := (s.wipe).closeWindow 3
    let s2 := { s1 with sec := { s1.sec with tamperLow := if src = 0 then low else s1.sec.tamperLow } }
    let s3 := (s2.raise (aSec + 4) (wordN (2 ^ src.val))).raise (aSec + 8) (wordN (2 ^ src.val))
    .next (if s.power.st = 3 then { s3 with sec := { s3.sec with owed := s3.sec.owed ||| 2 ^ src.val } }
      else s3.report { cls := 4, dev := true, inst := src.val })

/-- At the return from SLEEP, what the tamper latch holds is logged (R440). DEDUCED, log 179. -/
def State.tamperOwed (s : State) : State :=
  let s1 := { s with sec := { s.sec with owed := 0 } }
  ((List.range 3).filter fun i => s.sec.owed.testBit i).foldl (fun s i => s.report { cls := 4, dev := true, inst := i }) s1

/-- SEC_TAMPER_LATCH_READ: the read clears the latch. -/
def execSecTamperLatchRead (s : State) : Host.Outcome State Fault Refusal := .next (s.setReg (aSec + 8) 0)

/-- SEC_STATUS. -/
def secStatus (s : State) : Word :=
  wordN (s.sec.floor * 2 ^ 8 + b2n s.sec.tamperLow * 16 + b2n s.sec.keyHash.isSome * 8 + s.sec.lifecycle)

/-- Transitions of Table PWR-10. -/
def lifeNext (a b : Nat) : Bool := (a == 0 && (b == 1 || b == 2)) || (a == 1 && b == 2) || (a == 2 && b == 3)

/-- The session's packets carry a tag under a KEYADMIN key (R229, R438). -/
def adminTag (c : Cmd) (s : State) : Bool :=
  !isUdp c.ep || (c.tagged && match nth none s.sec.keys c.sess with | some k => k.admin | none => false)

/-- Close every UDP session. -/
def State.closeUdp (s : State) : State :=
  (List.range 8).foldl (fun s x => if (s.sess x).isOpen && isUdp (s.sess x).ep then s.closeSess x else s) s

/-- DESIGN CHOICE, log 177. -/
def specDiagLifecycle : OpSpec where
  standby := true
  spi := true
  units := fun _ _ => [12]
  len := fun c => c.plen == 40
  permit := fun c s => if adminTag c s then none else some stNotPermitted
  param := fun c s =>
    firstBad [(!lifeNext s.sec.lifecycle (c.at 20 1), 20), (c.at 24 4 ≠ 0x4C435943, 24),
      (s.sec.lifecycle = 0 && (c.bytes 28).all (· == 0), 28)]
  busy := fun c _ => if c.otpFault then some (reject stUnitFailed 12 0xFFFF) else none
  run := fun c s =>
    let h := if s.sec.lifecycle = 0 then some (c.bytes 28) else s.sec.keyHash
    readOk { s with sec := { s.sec with lifecycle := c.at 20 1, keyHash := h } } [12] []
  after := fun _ s => ((s.wipe).closeWindow 2).closeUdp

/-- The end of a return from SLEEP: start-up runs, and the tamper latch is logged. DEDUCED, log 172. -/
def State.fromSleep (s : State) (old : State) : State :=
  if old.power.st = 3 && s.power.st == 0 then (s.resumeSleep).tamperOwed else s

/-! ### Modules (R455) -/

/-- SFP_n_TXDIS is driven high while NETPORT_n is disabled. -/
def sfpTxDis (s : State) (k : Nat) : Bool := !netCtl s k 0

/-- SFP_MODABS_CHANGE: a module comes or goes; Ganen reads the identity of one that comes. DEDUCED, log 180. -/
def execSfpModabsChange (k : Fin 4) (present : Bool) (s : State) : Host.Outcome State Fault Refusal :=
  let s1 := { s with pins := { s.pins with sfpPresent := s.pins.sfpPresent.set k.val present } }
  .next (if present && s.serving then s1.emit (.net k.val "sfp-identity-read" []) else s1)

/-! ### PCIe reset (R196, R455) -/

/-- Sessions of the PCIe rings close, and what their rings hold goes. -/
def State.resetPcie (s : State) : State :=
  let s1 := (List.range 8).foldl (fun s x => if (s.sess x).isOpen && isPcie (s.sess x).ep then s.closeSess x else s) s
  let ep := fun (a : Nat) => decide (aPcie + 8 ≤ a) && decide (a < aPcie + 0x10000)
  { s1 with
    kcp := { s1.kcp with rings := List.replicate 4 {}, rx := s1.kcp.rx.filter fun e => !isPcie e.1 }
    regs := s1.regs.filter fun e => !ep e.1 }

end Sys2Proof.Machine
end

