-- ==== Sys2Proof/Machine/Transport.lean ====
section
/-! DEFINITION. The transports of KCP (R216 to R220): ring pairs, the SPI slave, and the timers of sessions, events and the register
window. -/

namespace Sys2Proof.Machine

/-! ### Ring pairs (R216, R217) -/

/-- Entries of a ring whose SIZE register lies at offset `o`. -/
def ringEntries (s : State) (k o : Nat) : Nat := wbits (s.reg (aRing k + o)) 0 13
/-- CAUSE of RING_STATUS_k. -/
def ringCause (s : State) (k : Nat) : Nat := wbits (s.reg (aRing k + 0x44)) 4 4
/-- RING_CTL_k.ENABLE. -/
def ringEnabled (s : State) (k : Nat) : Bool := wbit (s.reg (aRing k + 0x40)) 0
/-- The pair is enabled and has not halted. -/
def ringRuns (s : State) (k : Nat) : Bool := ringEnabled s k && ringCause s k == 0

/-- Close the session that is bound to an endpoint. -/
def State.closeEp (s : State) (e : Endpoint) : State :=
  (List.range 8).foldl (fun s x => if s.bound x e then s.closeSess x else s) s

/-- A pair halts: 1 descriptor, 2 length, 3 completion error. -/
def State.ringHalt (s : State) (k : Fin 4) (cause : Nat) : State :=
  let s1 := (s.raise (aRing k.val + 0x44) 1).putReg (aRing k.val + 0x44) 4 4 cause
  ((s1.setRing k.val fun _ => {}).closeEp (.pcie k)).devIrq

/-- A write of a tail register: a value at or above the ring size is ignored and sets BAD_DB. -/
def State.ringTail (s : State) (k o sizeOff : Nat) (v : Word) : State :=
  if wbits v 0 12 ≥ ringEntries s k sizeOff then s.raise (aRing k + 0x44) 0x100 else s.setReg (aRing k + o) (v &&& 0xFFF)

/-- A write of CMD_TAIL_k. -/
def State.cmdTail (s : State) (k : Nat) (v : Word) : State := s.ringTail k 0xC 8 v

/-- CMD_TAIL_DOORBELL. -/
def execCmdTailDoorbell (k : Fin 4) (v : Word) (s : State) : Host.Outcome State Fault Refusal :=
  guarded (aRing k.val + 0xC) v (s.cmdTail k.val v)

/-- A reply descriptor that keeps Table KCP-8. -/
def goodBuffer (d : RplDesc) : Bool := d.addr % 64 == 0 && d.len % 64 == 0 && decide (256 ≤ d.len) && d.reserved == 0

/-- The device reads a reply descriptor: its buffer is posted, or the pair halts. -/
def State.readReply (k : Fin 4) (size : Nat) (s : State) (d : RplDesc) : State :=
  if !ringRuns s k.val then s
  else if d.error then s.ringHalt k 3
  else if !goodBuffer d then s.ringHalt k 1
  else s.setRing k.val fun r => { r with posted := r.posted ++ [(d.addr, d.len)], next := (r.next + 1) % size }

/-- A write of RPL_TAIL_k that posts the buffers whose descriptors the device reads: those up to the tail that it has not read, a
tail written by address among them. DEDUCED, log 148. -/
def State.rplTail (s : State) (k : Fin 4) (v : Word) (bufs : List RplDesc) : State :=
  let size := ringEntries s k.val 0x28
  let s1 := s.ringTail k.val 0x2C 0x28 v
  if wbits v 0 12 ≥ size || !ringRuns s k.val then s1
  else
    let n := (wbits v 0 12 + size - (s.ring k.val).next) % size
    let s2 := (bufs.take n).foldl (State.readReply k size) s1
    flushRing k.val (s2.ring k.val).waiting.length s2

/-- RPL_TAIL_POST. -/
def execRplTailPost (k : Fin 4) (v : Word) (bufs : List RplDesc) (s : State) : Host.Outcome State Fault Refusal :=
  guarded (aRing k.val + 0x2C) v (s.rplTail k v bufs)

/-- The head write-back of a pair. -/
def State.writeBack (s : State) (k : Nat) : State :=
  let wb := s.reg64 (aRing k + 0x48)
  if wb = 0 then s
  else s.emit (.host wb (leBytes 4 ((s.reg (aRing k + 0x10)).toNat + (s.reg (aRing k + 0x30)).toNat * 2 ^ 16)))

/-- RING_READ_COMPLETION: the packet at CMD_HEAD_k is taken, or the pair halts. While no buffer is posted, or too few for a reply
that waits, the device reads nothing of the pair. -/
def execRingReadCompletion (k : Fin 4) (d : RingRead) (s : State) : Host.Outcome State Fault Refusal :=
  let size := ringEntries s k.val 8
  let head := (s.reg (aRing k.val + 0x10)).toNat
  if !ringRuns s k.val || head == (s.reg (aRing k.val + 0xC)).toNat || (s.ring k.val).posted.isEmpty ||
      !(s.ring k.val).waiting.isEmpty then .next s
  else if d.error then .next (s.ringHalt k 3)
  else if d.addr % 4 ≠ 0 ∨ d.reserved ≠ 0 then .next (s.ringHalt k 1)
  else if d.len > 65560 then .next (s.ringHalt k 2)
  else
    let s1 := s.setReg (aRing k.val + 0x10) (wordN (if size = 0 then 0 else (head + 1) % size))
    let s2 := { s1 with kcp := { s1.kcp with rx := s1.kcp.rx ++ [(Endpoint.pcie k, d.bytes.take d.len)] } }
    .next (s2.writeBack k.val)

/-- A write of RING_CTL_k: clearing ENABLE stops the pair, closes its session and clears CAUSE; setting it starts with heads and
tails at 0. DEDUCED, log 148. -/
def State.ringCtl (s : State) (k : Fin 4) (v : Word) : State :=
  let b := aRing k.val
  let was := ringEnabled s k.val
  let s1 := s.setReg (b + 0x40) (v &&& 0x03FF0FF1)
  if was && !wbit v 0 then
    let s2 := ((s1.putReg (b + 0x44) 4 4 0).setRing k.val fun _ => {}).closeEp (.pcie k)
    { s2 with kcp := { s2.kcp with rx := s2.kcp.rx.filter fun e => e.1 != .pcie k } }
  else if !was && wbit v 0 then
    [0xC, 0x10, 0x2C, 0x30].foldl (fun s o => s.setReg (b + o) 0) (s1.setRing k.val fun _ => {})
  else s1

/-- RING_CTL_WRITE. -/
def execRingCtlWrite (k : Fin 4) (v : Word) (s : State) : Host.Outcome State Fault Refusal :=
  guarded (aRing k.val + 0x40) v (s.ringCtl k v)

/-- COALESCING_TIME_EXPIRY. -/
def execCoalescingTimeExpiry (k : Fin 4) (s : State) : Host.Outcome State Fault Refusal :=
  let ctl := s.reg (aRing k.val + 0x40)
  if (s.ring k.val).coal = 0 ∨ wbits ctl 16 10 = 0 then .next s
  else .next ((s.setRing k.val fun r => { r with coal := 0 }).msix (wbits ctl 4 4))

/-- A write of a vector's control word in the MSI-X table: a message that is pending leaves when its vector is unmasked. -/
def State.msixCtl (s : State) (v : Nat) (w : Word) : State :=
  let s1 := s.setReg (aPcie + 0x800C + 16 * v) (w &&& 1)
  let m := wordN (2 ^ v)
  if !wbit w 0 && s1.reg (aPcie + 0x9000) &&& m ≠ 0 then (s1.lower (aPcie + 0x9000) m).emit (.msix v) else s1

/-- PCIE_FLR. -/
def execPcieFlr (s : State) : Host.Outcome State Fault Refusal := .next s.resetPcie

/-- PCIE_PERST. -/
def execPciePerst (s : State) : Host.Outcome State Fault Refusal := .next s.resetPcie

/-- The register window is open (R6, R218). -/
def windowOpen (s : State) : Bool := s.sec.lifecycle == 1 || s.kcp.window.isSome

/-- KCP_STATUS (Table KCP-10). -/
def kcpStatus (s : State) : Word :=
  wordN (b2n s.faultN * 16 + b2n (windowOpen s) * 8 + s.role * 2 + b2n s.serving)

/-! ### The SPI slave (R220) -/

/-- The CTRL domain, which holds the slave, works. -/
def spiAlive (s : State) : Bool := nth 0 s.power.dom 1 == 1 && !s.pins.porLow

/-- RX_BUSY. -/
def rxBusy (s : State) : Bool := s.kcp.rx.any fun e => isSpi e.1

/-- SPI_WRITE: a whole packet is taken, or the period is discarded. -/
def execSpiWrite (bytes : List Byte) (s : State) : Host.Outcome State Fault Refusal :=
  if !spiAlive s then .next s
  else if rxBusy s || decide (bytes.length < 8) || beAt bytes 4 4 != bytes.length then .next (s.count (kDev 6))
  else .next { s with kcp := { s.kcp with rx := s.kcp.rx ++ [(.spi, bytes)] } }

/-- SPI_STATUS. -/
def execSpiStatus (s : State) : Host.Outcome State Fault Refusal :=
  let b := b2n (rxBusy s) + b2n (!s.kcp.spiOut.isEmpty) * 2 + b2n s.serving * 4 + b2n (s.boot.phase == .recovery) * 8
  .next (if spiAlive s then s.emit (.spi [BitVec.ofNat 8 b]) else s)

/-- SPI_READ: the oldest waiting packet leaves, and is removed once `n` bytes after the dummy byte reach its last. DEDUCED, log 150. -/
def execSpiRead (n : Nat) (s : State) : Host.Outcome State Fault Refusal :=
  if !spiAlive s then .next s
  else match s.kcp.spiOut with
    | [] => .next (s.emit (.spi (zeros (min n 4))))
    | p :: t =>
      let s1 := s.emit (.spi (p.bytes.take n))
      if n ≥ p.bytes.length then .next { s1 with kcp := { s1.kcp with spiOut := t } } else .next s1

/-- SPI_INVALID_INSTRUCTION: 0xFF until chip select rises, `n` bytes of it. -/
def execSpiInvalidInstruction (b : Byte) (n : Nat) (s : State) : Host.Outcome State Fault Refusal :=
  if !spiAlive s || b == 2 || b == 5 || b == 0x0B then .next s else .next (s.emit (.spi (List.replicate n 0xFF)))

/-! ### Sessions, events and the window (R196, R215, R218) -/

/-- SESSION_IDLE_TIMEOUT: the outcome is a TIMER entry of the delta. A standby times none (R196). -/
def execSessionIdleTimeout (x : Fin 8) (s : State) : Host.Outcome State Fault Refusal :=
  let t := s.sess x.val
  if t.isOpen && isUdp t.ep && t.idle != 0 && !s.standby then .next ((s.closeSess x.val).enter (.timer (.idle x.val))) else .next s

/-- A packet is an event of session `x`. -/
def eventOf (x : Nat) (p : OutPkt) : Bool := match p.body with | .event .. => p.session == x | .reply .. => false

/-- LOSS set in the first event of session `x`, and whether there is one. -/
def markLoss (x : Nat) : List OutPkt → List OutPkt × Bool
  | [] => ([], false)
  | p :: t => match p.body with
    | .event sec ns pl _ =>
      if p.session = x then ({ p with body := .event sec ns pl true } :: t, true) else let r := markLoss x t; (p :: r.1, r.2)
    | .reply .. => let r := markLoss x t; (p :: r.1, r.2)

/-- Drop the first packet of a list that is an event of session `x`: the next one carries LOSS. What is left, whether one was
dropped, and whether another waits. -/
def dropEvent (x : Nat) : List OutPkt → List OutPkt × Bool × Bool
  | [] => ([], false, false)
  | p :: t =>
    if eventOf x p then let r := markLoss x t; (r.1, true, r.2)
    else let r := dropEvent x t; (p :: r.1, r.2)

/-- A drop is counted; where no event of the session waits, the next one made carries LOSS. -/
def State.noteDrop (s : State) (x : Nat) (marked : Bool) : State :=
  ((s.setSess x fun q => { q with loss := q.loss || !marked }).count (kDev 5)).count (kSess x 2)

/-- EVENT_DROP: the oldest event of a session that still waits is dropped. -/
def execEventDrop (x : Fin 8) (s : State) : Host.Outcome State Fault Refusal :=
  match (s.sess x.val).ep with
  | .pcie k =>
    let w := dropEvent x.val (s.ring k.val).waiting
    .next (if w.2.1 then (s.setRing k.val fun r => { r with waiting := w.1 }).noteDrop x.val w.2.2 else s)
  | .spi =>
    let w := dropEvent x.val s.kcp.spiOut
    .next (if w.2.1 then ({ s with kcp := { s.kcp with spiOut := w.1 } }).noteDrop x.val w.2.2 else s)
  | .udp .. => .next s

/-- WINDOW_EXPIRY. -/
def execWindowExpiry (s : State) : Host.Outcome State Fault Refusal := .next (s.closeWindow 1)

end Sys2Proof.Machine
end

