-- ==== Sys2Proof/Machine/Regs.lean ====
section
/-! DEFINITION. Reads and writes of the peripheral registers by address (R12 to R14): the words that derive from the state, the
fields by access type, and the registers whose write does more. -/

namespace Sys2Proof.Machine

/-! ### Reads -/

/-- Place of a counter word among a block's offsets: base of the counters and their number. -/
def cntSpan (a : Nat) : Nat × Nat × Nat :=
  let o := a % 0x100000
  match (a - 0x40000000) / 0x100000 with
  | 3 => (o, 0x100, 15)
  | 4 => (o % 0x10000, 0x90, 12)
  | 6 => (o, 0x90, 2)
  | 7 => (o, 0x90, 4)
  | 8 => (o, 0x90, 6)
  | 9 => if 0x800 ≤ o ∧ o < 0xC00 then (o % 0x40, 0, 5) else (o, 0, 0)
  | 10 => (o, 0x90, 1)
  | 11 => (o, 0x90, 3)
  | 12 => (o, 0x90, 5)
  | 13 => (o, 0x90, 4)
  | 14 => (o, 0x90, 6)
  | 15 => (o, 0x90, 5)
  | _ => (o, 0, 0)

/-- Whether an address is a counter's word. -/
def isCnt (a : Nat) : Bool := let q := cntSpan a; decide (q.2.1 ≤ q.1) && decide (q.1 < q.2.1 + 8 * q.2.2)

/-- The words of a snapshot of a base (Table TIME-8): seconds low and high, nanoseconds, fraction. -/
def snapWord (v i : Nat) : Word :=
  let ns := v / 2 ^ 48
  if i = 0 then wordN (secOf ns) else if i = 1 then wordN (secOf ns / 2 ^ 32) else if i = 2 then wordN (nsOf ns)
  else wordN (v % 2 ^ 48 / 2 ^ 32)

def stampWord (ns i : Nat) : Word :=
  if i = 0 then wordN (secOf ns) else if i = 1 then wordN (secOf ns / 2 ^ 32) else wordN (nsOf ns)

def timeWord (s : State) (o : Nat) : Option Word :=
  let t := s.time
  if 0x20 ≤ o ∧ o < 0x80 then
    (if o % 32 < 16 then some (snapWord (nth 0 [t.snap.a, t.snap.b, t.snap.l] ((o - 0x20) / 32)) (o % 32 / 4)) else none)
  else if o = 0xA0 then some (wordN t.snap.frc) else if o = 0xA4 then some (wordN (t.snap.frc / 2 ^ 32))
  else if 0x400 ≤ o ∧ o < 0x520 then
    let c := (o - 0x400) / 32
    let q := nth [] t.capt c
    (match o % 32 with
     | 4 => some (wordN (b2n (nth false t.captOvf c) * 256 + q.length))
     | 8 => some (stampWord (q.headD 0) 0) | 12 => some (stampWord (q.headD 0) 1) | 16 => some (stampWord (q.headD 0) 2)
     | _ => none)
  else if 0x600 ≤ o ∧ o < 0x6C0 then
    let q := nth [] t.txts ((o - 0x600) / 32)
    let e := q.headD (0, 0)
    (match o % 32 with
     | 0 => some ((s.reg (aTime + o) &&& 0x100) ||| wordN q.length)
     | 4 => some (wordN (b2n (!q.isEmpty) * 2 ^ 31 + e.1 % 2 ^ 16))
     | 8 => some (stampWord e.2 0) | 12 => some (stampWord e.2 1) | 16 => some (stampWord e.2 2) | _ => none)
  else none

def dmaWord (s : State) (o : Nat) : Option Word :=
  let runs := fun (c : Nat) => (nth {} s.dma.ch c).job != DmaJob.idle
  if o = 0 then some (wordN (nsum ((List.range 32).map fun c => b2n (runs c) * 2 ^ c)))
  else if 0x1000 ≤ o ∧ o < 0x1800 then
    let c := (o - 0x1000) / 64
    let q := nth {} s.dma.ch c
    (match o % 64 with
     | 0 => some ((s.reg (aDma + o) &&& 0x70F00) ||| wordN (b2n (runs c)))
     | 4 => some (wordN (q.cause * 2 ^ 8 + b2n (q.job == DmaJob.fence) * 4 + b2n q.halted * 2 + b2n (runs c)))
     | 8 => if runs c then some (wordN q.desc) else none
     | 12 => if runs c then some (wordN (q.desc / 2 ^ 32)) else none
     | 16 => some (wordN q.errAddr) | 20 => some (wordN (q.errAddr / 2 ^ 32)) | 24 => some (wordN q.bytes) | _ => none)
  else none

def dramcWord (s : State) (o : Nat) : Option Word :=
  if o = 0 then some (dramcStatus s) else if o = 8 then some (dramcCfg s) else if o = 0xC then some (wordN s.mem.mark)
  else if o = 0x10 then some (wordN s.mem.ueAddr) else if o = 0x14 then some (wordN (s.mem.ueAddr / 2 ^ 32))
  else if 0x40 ≤ o ∧ o < 0x50 then some (nth 0 s.mem.train ((o - 0x40) / 4)) else none

def tdmWord (s : State) (o : Nat) : Option Word :=
  if o = 0 then some (tdmStatus s) else if 0x100 ≤ o ∧ o < 0x110 then some (fcgStatus s ((o - 0x100) / 4))
  else if 0x1000 ≤ o ∧ o < 0x1400 then
    let p := (o - 0x1000) / 64
    (match o % 64 with
     | 4 => some (tdmStatusP s p) | 24 => some (wordN (s.port p).inAct) | 28 => some (wordN (s.port p).outAct)
     | 32 => some (s.port p).ratio | 36 => some (s.port p).meas | _ => none)
  else none

def facetctlWord (s : State) (o : Nat) : Option Word :=
  if o = 0 then some (facetctlStatus s) else if o = 0x10 ∨ o = 0x14 then some (facetMap s 4 ((o - 0x10) / 4))
  else if o = 0x18 ∨ o = 0x1C then some (facetMap s 7 ((o - 0x18) / 4))
  else if 0x1000 ≤ o ∧ o < 0x2000 then
    let k := (o - 0x1000) / 64
    (match o % 64 with | 4 => some (facetState s k) | 20 => some (facetUsed s k) | _ => none)
  else none

/-- A register whose word derives from the state: by its block in Table ARCH-7 and its offset. -/
def derivedWord (s : State) (blk o : Nat) : Option Word :=
  match blk with
  | 0 => if o = 8 then some (bootStatus s) else if o = 0x10 then some (wordN s.sec.devId)
    else if o = 0x14 then some (wordN (s.sec.devId / 2 ^ 32)) else none
  | 1 => if o = 0 then some (pmuState s) else if o = 0x10 then some (pmuDomain s false) else if o = 0x14 then some (pmuDomain s true)
    else if o = 0x18 then some (pmuDemand s) else if 0x30 ≤ o ∧ o < 0x48 then some (pmuRefuseCnt s ((o - 0x30) / 4)) else none
  | 2 => if o = 4 then some (clkselStatus s) else if o = 0x14 then some (clkselPhase s) else if o = 0x18 then some (holdEst s)
    else if 0x20 ≤ o ∧ o < 0x80 then
      let r := (o - 0x20) / 16
      (match o % 16 with
       | 0 => some (refStatusWord s r) | 4 => some (wordI (sat 32 (s.ref r).dev)) | 8 => some (wordI (sat 32 (s.ref r).phase)) | _ => none)
    else none
  | 3 => timeWord s o
  | 4 => if o % 0x10000 = 4 ∧ o < 0x60000 then some (netStatus s (o / 0x10000)) else none
  | 5 => if o = 0 then some (flowtabStatus s) else none
  | 6 => dmaWord s o
  | 7 => if o = 0 then some (wordN (nsum ((List.range 8).map fun m => b2n (s.mem.outs.any fun t => t.req.master.val == m) * 2 ^ m)))
    else none
  | 8 => dramcWord s o
  | 9 => tdmWord s o
  | 10 => if o = 0 then some (sideStatus s) else if 0x1000 ≤ o ∧ o < 0x1400 ∧ o % 16 = 8 then some (sideCur s ((o - 0x1000) / 16)) else none
  | 11 => if o = 0 then some (loupeStatus s) else if o = 0x14 then some (wordN s.loupe.syncBlk)
    else if o = 0x18 then some (wordN (s.loupe.syncBlk / 2 ^ 32))
    else if 0x140 ≤ o ∧ o < 0x180 then some (linStatus s ((o - 0x140) / 4)) else none
  | 12 => facetctlWord s o
  | 13 => if o = 0 then some ((s.reg aPav &&& 0xFF0000) ||| wordN (b2n (s.render.run && !s.integ.stopped)))
    else if 0x40 ≤ o ∧ o < 0x80 then some (zoneStatus s ((o - 0x40) / 4)) else none
  | 14 => if o = 4 then some (pairStatus s) else if o = 0x14 then some (wordI (peerOffset s)) else if o = 0x18 then some (wordN (holdLeft s)) else none
  | 15 => if o = 0 then some (integStatus s) else if o = 0x28 then some (monStatus s) else none
  | 16 => if o = 4 then some (kcpStatus s) else none
  | 17 => if o = 0 then some (secStatus s) else none
  | _ => none

/-- What a word of the peripheral space reads as; an offset that names no register reads 0 (R13). DEDUCED, log 145. -/
def regRead (s : State) (a : Nat) : Word :=
  match regInfo a with
  | none => 0
  | some _ =>
    if isCnt a then
      let c := mget {} s.cnts (a - a % 8)
      if a % 8 = 0 then c.lo else c.hi
    else (derivedWord s ((a - 0x40000000) / 0x100000) (a % 0x100000)).getD (s.reg a)

/-- What a read changes: SEC_TAMPER_LATCH clears (R440). -/
def State.regReadDone (s : State) (a : Nat) : State := if a = aSec + 8 then s.setReg a 0 else s

/-! ### Writes -/

/-- Whether the lock bit of a locked register is set. -/
def regLocked (s : State) (a : Nat) (i : RegInfo) : Bool := wbit (s.reg (a - a % 0x100000 + i.lockOff)) i.lockBit

/-- A write by the access types of Table SCOPE-7. -/
def State.regFields (s : State) (a : Nat) (i : RegInfo) (v : Word) : State :=
  let m := i.rw ||| (if regLocked s a i then 0 else i.rwl)
  let w := (s.reg a &&& ~~~m) ||| (v &&& m)
  s.setReg a ((w &&& ~~~(v &&& i.w1c)) ||| (v &&& i.w1s))

/-- A ring's base or size register, which takes writes only while its pair or ring is not enabled (R216, R275). -/
def ringGate (s : State) (blk o : Nat) : Bool :=
  if blk = 16 ∧ 0x1000 ≤ o ∧ o < 0x1400 then
    [0, 4, 8, 0x20, 0x24, 0x28].contains (o % 0x100) && ringEnabled s ((o - 0x1000) / 0x100)
  else if blk = 4 ∧ 0x100 ≤ o % 0x10000 ∧ o % 0x10000 < 0x180 then
    decide (o % 32 < 12) && ringOn s (o / 0x10000) ((o % 0x10000 - 0x100) / 32)
  else false

/-- A write that its register ignores, because of its value or of the state (Tables MEM-8, MEM-10, MEM-12, INTEG-5, FACET-12). -/
def writeIgnored (s : State) (blk o : Nat) (v : Word) : Bool :=
  let n := v.toNat
  ringGate s blk o ||
  (if blk = 6 then decide (0x1000 ≤ o) && (o % 64 == 8 || o % 64 == 12) && (nth {} s.dma.ch ((o - 0x1000) / 64)).job != DmaJob.idle
   else if blk = 8 then
     (if 0x20 ≤ o ∧ o < 0x40 then (if o % 8 = 0 then decide (n > 25600) else n == 0 || decide (n > 1024)) else false)
   else if blk = 12 then decide (0x1000 ≤ o) && o % 64 == 16 && (decide (n < 2) || decide (n > 64))
   else if blk = 15 then
     (if o = 0x20 then !(isPow2 n && decide (1024 ≤ n) && decide (n ≤ 1048576)) else if o = 0x24 then n == 0 || decide (n > 168) else false)
   else false)

/-- The value that a register keeps of what is written: fields whose value is out of range keep theirs (Tables TIME-11, MEM-9), and
a priority nibble of a path that does not exist stays 0 (Table MEM-8). -/
def writeMask (s : State) (blk o : Nat) (v : Word) : Word :=
  if blk = 2 ∧ o = 0 then
    (if wbits v 4 8 = 0 ∨ wbits v 4 8 > 100 then wput v 4 8 (wbits (s.reg aClksel) 4 8) else v)
  else if blk = 7 ∧ o = 8 then
    (if wbits v 0 5 < 10 ∨ wbits v 0 5 > 20 then wput v 0 5 (wbits (s.reg (aBusmx + 8)) 0 5) else v)
  else if blk = 7 ∧ 0x40 ≤ o ∧ o < 0x80 then
    let m := (o - 0x40) / 8
    let t0 := if o % 8 = 0 then 0 else 8
    wordN (nsum ((List.range 8).map fun i => if (prioOf m (t0 + i)).isSome then wbits v (4 * i) 4 * 16 ^ i else 0))
  else v

/-- Change DMA channel `c`. -/
def State.modCh (s : State) (c : Nat) (f : DmaCh → DmaCh) : State := { s with dma := { s.dma with ch := s.dma.ch.modify c f } }

/-- The status word of a descriptor is written (Table MEM-5). -/
def State.dmaStatus (s : State) (c cause : Nat) (done : Bool) : State :=
  s.memWrite ((nth {} s.dma.ch c).desc + 4) (leBytes 4 (b2n done * 2 ^ 31 + b2n (cause ≠ 0) * 2 ^ 30 + cause * 2 ^ 24))

/-- A channel halts (R356). -/
def State.dmaHalt (s : State) (c cause : Nat) (at' : Option Nat) : State :=
  let s1 := s.dmaStatus c cause false
  let stop := fun (q : DmaCh) => { q with job := .idle, halted := true, cause := cause, errAddr := at'.getD q.errAddr }
  (((s1.modCh c stop).raise (aDma + 8) (wordN (2 ^ c))).count (aDma + 0x98)).report
    { cls := 0x60, dev := false, inst := c, detail := [wordN cause] }

/-- A write of DMA_CH_CTL_c (Table MEM-13): RETRY and PRIO are plain fields; START starts an idle channel; STOP halts one that runs,
whose issued transactions are complete in this model. -/
def State.dmaCtl (s : State) (c : Nat) (v : Word) : State :=
  let s1 := s.setReg (aDma + 0x1000 + 64 * c) (v &&& 0x70F00)
  let idle := (nth {} s.dma.ch c).job == DmaJob.idle
  let a := s.reg64 (aDma + 0x1008 + 64 * c)
  let go := fun (q : DmaCh) => { q with job := .fetch, desc := a, halted := false, bytes := 0, retries := 0, buf := [] }
  let s2 := if wbit v 0 && idle then s1.modCh c go else s1
  if wbit v 1 && (!idle || wbit v 0) then s2.dmaHalt c 7 none else s2

/-- Registers whose write does more than set fields, by block and offset: the state after the write, or `none` for the others. -/
def specialWrite (s : State) (blk o : Nat) (v : Word) (byGanen : Bool) : Option State :=
  let a := 0x40000000 + 0x100000 * blk + o
  if snapRegs.contains a then some (s.cntSnap a v byGanen)
  else match blk with
  | 1 => if o = 8 then some (s.pmuReq v) else if o = 0x1C then some (s.retryDomain (wbits v 0 4))
    else if o = 0x48 then some (s.refuseClr v) else none
  | 3 => if o = 8 then some (s.timeErr v) else if o = 0xC then some (s.timeSnap v)
    else if 0x20 ≤ o ∧ o < 0x80 ∧ o % 32 = 24 then some (s.timeAdj ((o - 0x20) / 32) v)
    else if 0x200 ≤ o ∧ o < 0x400 ∧ o % 32 = 0 then some (s.cmpCtl ((o - 0x200) / 32) v)
    else if 0x400 ≤ o ∧ o < 0x520 ∧ o % 32 = 0 then some (s.captCtl ((o - 0x400) / 32) v)
    else if 0x600 ≤ o ∧ o < 0x6C0 ∧ o % 32 = 0 then some (s.txtsStatus ((o - 0x600) / 32) v) else none
  | 4 =>
    let k := o / 0x10000
    let p := o % 0x10000
    if p = 0 then some (s.netCtlWrite k v)
    else if p = 0x2C then some (s.setReg a (v &&& 0x0FFF0000 ||| wordN (min 10000 (wbits v 0 16))))
    else if 0x100 ≤ p ∧ p < 0x180 ∧ p % 32 = 12 then some (s.ringTailWrite k ((p - 0x100) / 32) v) else none
  | 5 => if 0x1000 ≤ o ∧ o < 0x3000 ∧ o % 16 = 12 then some (s.flowtabCtl ((o - 0x1000) / 16) v) else none
  | 6 => if 0x1000 ≤ o ∧ o < 0x1800 ∧ o % 64 = 0 then some (s.dmaCtl ((o - 0x1000) / 64) v) else none
  | 9 => if 0x1000 ≤ o ∧ o < 0x1400 then
      (match o % 64 with
       | 0 => some (s.tdmCtl ((o - 0x1000) / 64) v) | 12 => some (s.maskApply ((o - 0x1000) / 64) v false) | _ => none)
    else none
  | 10 => if 0x1000 ≤ o ∧ o < 0x1400 then
      (match o % 16 with
       | 0 => some (s.sideCtl ((o - 0x1000) / 16) v) | 4 => some (s.sideGainWrite ((o - 0x1000) / 16) v) | _ => none)
    else none
  | 11 => if o = 0x10 then some (s.syncCtl v) else if 0x100 ≤ o ∧ o < 0x140 then some (s.inCfg ((o - 0x100) / 4) v) else none
  | 12 => if 0x1000 ≤ o ∧ o < 0x2000 ∧ o % 64 = 0 then some (s.facetCtl ((o - 0x1000) / 64) v) else none
  | 14 => if o = 0 then some (s.pairCtl v) else none
  | 15 => if o = 0xC then some (if wbit v 0 then s.clearFault else s) else none
  | 16 =>
    if 0x1000 ≤ o ∧ o < 0x1400 then
      let k : Fin 4 := Fin.ofNat 4 ((o - 0x1000) / 0x100)
      (match o % 0x100 with
       | 0xC => some (s.cmdTail k.val v) | 0x2C => some (s.rplTail k v []) | 0x40 => some (s.ringCtl k v) | _ => none)
    else if 0x8000 ≤ o ∧ o < 0x8100 ∧ o % 16 = 12 then some (s.msixCtl ((o - 0x8000) / 16) v) else none
  | _ => none

/-- A write of a register. A 1 in a reserved field has no defined effect; callers stop before this (R13). -/
def State.regWrite (s : State) (a : Nat) (v : Word) (byGanen : Bool) : State :=
  match regInfo a with
  | none => s
  | some i =>
    let blk := (a - 0x40000000) / 0x100000
    let o := a % 0x100000
    if writeIgnored s blk o v then s
    else
      let w := writeMask s blk o v
      match specialWrite s blk o w byGanen with
      | some t => t
      | none => let t := s.regFields a i w; if blk = 2 ∧ (o = 0 ∨ o = 0xC ∨ o = 0x10) then t.reselect else t

/-- Whether a write would put a 1 in a reserved field (R13). -/
def reservedWrite (a : Nat) (v : Word) : Bool := match regInfo a with | some i => v &&& ~~~i.defined != 0 | none => false

/-- Block and offset name a place of the peripheral space that answers (R28). -/
def periphHere (a : Nat) : Bool :=
  decide (0x40000000 ≤ a) && decide (a < 0x41200000) && !(decide (0x40460000 ≤ a) && decide (a < 0x40500000))

end Sys2Proof.Machine
end

