-- ==== Sys2Proof/Machine/Bus.lean ====
section
/-! DEFINITION. The bus matrix (R27, R28, R329 to R345, R426): the target of an access, its service, bus errors, the transaction
watchdog, accesses that wait for a domain, and the commands that reach registers by address. -/

namespace Sys2Proof.Machine

/-! ### Targets -/

/-- The target of a whole request. -/
def reqTarget (s : State) (q : BusReq) : Nat :=
  let t := busTarget s q.master.val q.addr
  if busTarget s q.master.val (q.addr + q.size - 1) = t then t else 15

/-- The power domain that an address lies in (Table PWR-1); AON needs no wake. -/
def domOf (s : State) (a : Nat) : Option Nat :=
  match s.region a with
  | .table => some 1 | .rom => some 1 | .crown => some 2 | .facet => some (4 + (a - 0x30000000) / 0x1000000) | .dram => some 10
  | .periph => (List.range 11).find? fun d => (domBlocks d).contains ((a - 0x40000000) / 0x100000)
  | .secure => none | .nothing => none

/-- An address's domain does not answer now, and can be woken. -/
def asleep (s : State) (a : Nat) : Option Nat :=
  match domOf s a with
  | none => none
  | some d =>
    let c := s.dom d
    if c = 0 ∨ c = 4 ∨ c = 5 ∨ (c = 2 ∧ s.region a = .crown) ∨ c = 3 then some d else none

/-- An address's domain has FAILED, or the DRAM controller has. -/
def deadMem (s : State) (a : Nat) : Bool :=
  (match domOf s a with | some d => s.dom d == 6 | none => false) || (s.region a == .dram && s.mem.dramFailed)

/-- An access makes the PMU wake a domain (R426); while an entry runs, the domain waits for its end (R423). DEDUCED, log 143. -/
def State.wakeFor (s : State) (d : Nat) : State :=
  let s1 := s.setDemand d true
  match s.power.job with
  | some (.entry ..) => s1
  | _ => if s.dom d = 4 then s1 else s1.setDom d 4

/-! ### Service -/

/-- The response reaches the master; PCIe's requests complete through BAR2. -/
def State.respond (s : State) (q : BusReq) (err : Bool) (data : List Byte) : State :=
  if q.user && q.master == 4 then s.emit (.bar2 (if err then 2 else 0) (wordN (leNat data))) else s.emit (.bus q.master.val q.id.val err data)

/-- A bus error (Table MEM-2): Loupe abandons its capture step; the Bezel link's delta is not acknowledged. -/
def State.busError (s : State) (q : BusReq) : State :=
  let s1 := s.respond q true []
  if q.master = 6 then
    match s.loupe.job with
    | some j => match mfind s.loupe.jobs j with | some l => if l.going then s1.spoilStep j l else s1 | none => s1
    | none => s1
  else if q.master = 7 then { s1 with delta := { s1.delta with rxSegs := [], rxNames := [], rxWhole := none } }
  else s1

/-- A write of bytes to a peripheral register, or its read. -/
def State.periphAccess (s : State) (q : BusReq) : State :=
  if q.size ≠ 4 ∨ q.addr % 4 ≠ 0 then s.busError q
  else match q.write with
    | some bs => (s.regWrite q.addr (wordN (leNat bs)) false).respond q false []
    | none => (s.regReadDone q.addr).respond q false (leBytes 4 (regRead s q.addr).toNat)

/-- The Secure SRAM target (R334, R341). DEDUCED, log 142. -/
def State.secureAccess (s : State) (q : BusReq) : State :=
  if q.master.val ≥ 2 || !q.machine then
    (((s.raise (aBusmx + 4) 4).count (aBusmx + 0xA0)).report
      { cls := 0x21, dev := true, inst := q.master.val, addr := q.addr }).busError q
  else if s.sec.wiping then s.busError q
  else match q.write with
    | some bs => (s.memWrite q.addr (bs.take q.size)).respond q false []
    | none => s.respond q false (s.memBytes q.addr q.size)

/-- What an uncorrectable word is reported by: the master, the bank or the port (Table INTEG-3). -/
def eccInst (s : State) (q : BusReq) : Nat :=
  match s.region q.addr with | .crown => crownBank q.addr | .dram => busTarget s q.master.val q.addr - 3 | _ => q.master.val

/-- A memory is read or written: its code is checked, DRAM takes tokens and leaves power-down (R340, R342, R345, R347, R348). A
write of the boot ROM ends in a bus error. DESIGN CHOICE, log 17. -/
def State.memAccess (s : State) (q : BusReq) : State :=
  let r := s.region q.addr
  let s1 := if r = .dram then
      ({ s with mem := { s.mem with down := [] } }).takeTokens (busTarget s q.master.val q.addr - 3) q.size
    else s
  match q.check with
  | .uncorrectable => (s1.wordFault r (eccInst s q) q.addr q.synd (q.master == 5) false).busError q
  | c =>
    let s2 := if c = .corrected then s1.eccCorrected r else s1
    match q.write with
    | some bs => if r = .rom then s2.busError q else (s2.memWrite q.addr (bs.take q.size)).respond q false []
    | none => s2.respond q false (s2.readBytes q.addr q.size)

/-- A target answers. DESIGN CHOICE, log 141. -/
def State.busServe (s : State) (q : BusReq) : State :=
  if deadMem s q.addr then s.busError q
  else match s.region q.addr with
    | .periph => s.periphAccess q
    | .secure => s.secureAccess q
    | .nothing => s
    | _ => s.memAccess q

/-- A transaction stays outstanding. -/
def State.addOut (s : State) (q : BusReq) (t : Nat) (wait : Option Nat) : State :=
  { s with mem := { s.mem with outs := s.mem.outs ++ [{ req := q, target := t, wait := wait }] } }

/-- Two requests share a 64-byte line. -/
def sameLine (p q : BusReq) : Bool :=
  decide (p.addr / 64 ≤ (q.addr + q.size - 1) / 64) && decide (q.addr / 64 ≤ (p.addr + p.size - 1) / 64)

/-- Whether a request is held back at its master (R332, R333), by what is outstanding or by an older request that is held itself.
DEDUCED, log 140. -/
def heldBack (s : State) (q : BusReq) : Bool :=
  let mine := s.mem.outs.filter fun t => t.req.master == q.master
  decide (mine.length ≥ 16) || (mine.any fun t => (t.req.id == q.id && t.target != reqTarget s q) || sameLine t.req q) ||
    s.mem.held.any fun h => h.master == q.master && (h.id == q.id || sameLine h q)

/-- A request is issued: it is held back, stays outstanding, stalls for a domain, or is served. -/
def State.busIssue (s : State) (q : BusReq) : State :=
  if heldBack s q then
    { s with mem := { s.mem with held := s.mem.held ++ [q] } }
  else
    let t := reqTarget s q
    let s1 := if q.aged && t ≠ 15 && !(t == 0 && decide (q.master.val < 2)) then s.count (aBusmx + 0xA8) else s
    if t = 15 then s1.addOut q 15 none
    else match asleep s q.addr with
      | some d => if deadMem s q.addr then s1.busError q else (s1.wakeFor d).addOut q t (some d)
      | none => if q.silent then s1.addOut q t none else s1.busServe q

/-- Requests that were held back are issued again, oldest first. -/
def State.reissue (s : State) : State :=
  s.mem.held.foldl (fun s q => s.busIssue q) { s with mem := { s.mem with held := [] } }

/-! ### The watchdog (R335 to R337) -/

/-- BUS_HANG: the oldest transaction of a master and identifier that the watchdog times is ended. -/
def execBusHang (m : Fin 8) (id : Fin 16) (s : State) : Host.Outcome State Fault Refusal :=
  let mine := fun (t : BusTx) => t.req.master == m && t.req.id == id && t.wait.isNone
  match s.mem.outs.find? mine with
  | none => .next s
  | some t =>
    let ended := if t.target = 15 then s.mem.ended else s.mem.ended ++ [(m.val, id.val)]
    let s1 := { s with mem := { s.mem with outs := s.mem.outs.erase t, ended := ended } }
    .next (((s1.hangRecord t.req t.target).busError t.req).reissue)

/-- LATE_RESPONSE: a response for a transaction that was ended is discarded. -/
def execLateResponse (m : Fin 8) (id : Fin 16) (s : State) : Host.Outcome State Fault Refusal :=
  if s.mem.ended.contains (m.val, id.val) then
    let s1 := { s with mem := { s.mem with ended := s.mem.ended.erase (m.val, id.val) } }
    .next ((s1.raise (aBusmx + 4) 2).count (aBusmx + 0x98))
  else .next s

/-- With the DRAM controller FAILED, its queued transactions end at once with a bus error (Table MEM-4). -/
def State.endQueued (s : State) : State :=
  if s.mem.dramFailed then
    let q := s.mem.outs.filter fun t => decide (3 ≤ t.target) && decide (t.target ≤ 6)
    let s1 := { s with mem := { s.mem with outs := s.mem.outs.filter fun t => !(decide (3 ≤ t.target) && decide (t.target ≤ 6)) } }
    (q.foldl (fun s t => s.busError t.req) s1).reissue
  else s

def execClockLoss (c : Fin 4) (s : State) : Host.Outcome State Fault Refusal := .next (s.clockLoss c.val).endQueued

/-! ### Domains (R426) -/

/-- The accesses that wait for a domain complete, or end with a bus error. -/
def State.stalled (s : State) (d : Nat) (ok : Bool) : State :=
  let mine := s.mem.outs.filter fun t => t.wait == some d
  let s1 := { s with mem := { s.mem with outs := s.mem.outs.filter fun t => t.wait != some d } }
  let one := fun (s : State) (t : BusTx) =>
    if ok && t.req.silent then s.addOut t.req t.target none else if ok then s.busServe t.req else s.busError t.req
  (mine.foldl one s1).reissue

/-- DOMAIN_READY. -/
def execDomainReady (d : Fin 11) (s : State) : Host.Outcome State Fault Refusal :=
  if s.dom d.val = 4 then .next (((s.domReady d.val).stalled d.val true).fromSleep s) else .next s

/-- DOMAIN_WAKE. -/
def execDomainWake (d : Fin 11) (lock : Bool) (s : State) : Host.Outcome State Fault Refusal :=
  if s.dom d.val = 4 then .next (((s.domLate d lock).stalled d.val false).endQueued.fromSleep s) else .next s

/-! ### Commands -/

/-- A write of a 1 to a reserved field (R13). -/
def reservedReq (s : State) (q : BusReq) : Bool :=
  match q.write with
  | some bs => busTarget s q.master.val q.addr == 7 && q.size == 4 && q.addr % 4 == 0 && reservedWrite q.addr (wordN (leNat bs))
  | none => false

/-- BUS_TRANSACTION. -/
def execBusTransaction (q : BusReq) (s : State) : Host.Outcome State Fault Refusal :=
  if reservedReq s q then .fault .reservedField else .next (s.busIssue q)

/-- The request of a write that names a register by its address, by control core 0. -/
def coreReq (addr size : Nat) (w : Option Word) : BusReq :=
  { master := 0, addr := addr, size := size, write := w.map fun v => leBytes 4 v.toNat }

/-- REGISTER_WRITE (R12 to R14). -/
def execRegisterWrite (addr : Nat) (size : Nat) (v : Word) (s : State) : Host.Outcome State Fault Refusal :=
  let q := coreReq addr size (some v)
  if reservedReq s q then .fault .reservedField else .next (s.busIssue q)

/-- The request of a BAR2 access at an offset in the window. -/
def bar2Req (off size : Nat) (w : Option Word) : BusReq :=
  { master := 4, addr := 0x40000000 + off % 0x2000000, size := size, write := w.map fun v => leBytes 4 v.toNat, user := true }

/-- BAR2_ACCESS (R218): Unsupported Request while the window is closed. -/
def execBar2Access (addr : Nat) (size : Nat) (w : Option Word) (s : State) : Host.Outcome State Fault Refusal :=
  let q := bar2Req addr size w
  if !windowOpen s then .next (s.emit (.bar2 1 0))
  else if reservedReq s q then .fault .reservedField
  else if q.size ≠ 4 ∨ q.addr % 4 ≠ 0 then .next (s.busError q)
  else .next (s.busIssue q)

/-- JTAG_DEBUG_ACCESS (R456): boundary scan moves no state of the core; debug reaches the control cores in BLANK and DEVELOP.
DEDUCED, log 144. -/
def execJtagDebugAccess (a : JtagAccess) (s : State) : Host.Outcome State Fault Refusal :=
  match a with
  | .scan => .next s
  | .debug addr w =>
    let q := coreReq addr 4 w
    if s.sec.lifecycle ≥ 2 then .next s else if reservedReq s q then .fault .reservedField else .next (s.busIssue q)

end Sys2Proof.Machine
end

