-- ==== Sys2Proof/Machine/Dma.lean ====
section
/-! DEFINITION. The DMA engine (R350 to R357): descriptors, lists, the byte funnel, peripheral pacing, checks, halts and completion.
Each burst response is one access of the engine, whole. -/

namespace Sys2Proof.Machine

def State.ch (s : State) (c : Nat) : DmaCh := nth {} s.dma.ch c

/-- Bits of the Control word in hand (Table MEM-5). -/
def DmaCh.ctl (q : DmaCh) (lo len : Nat) : Nat := bitsOf (leAt q.dsc 0 4) lo len
def DmaCh.flag (q : DmaCh) (i : Nat) : Bool := q.ctl i 1 == 1

/-- A reserved kind, value or field of a descriptor. -/
def badDesc (d : List Byte) : Bool :=
  let w := leAt d 0 4
  let req := bitsOf w 10 5
  bitsOf w 0 4 > 1 || bitsOf w 5 2 == 3 || w / 2 ^ 18 != 0 || (decide (4 ≤ req) && req != 31) || bitsOf w 15 3 > 4 || leAt d 20 4 != 0

/-- A list that a descriptor or a chained entry names: 16-byte aligned, with 1 to 4096 entries. -/
def badList (a n : Nat) : Bool := a % 16 != 0 || n == 0 || decide (n > 4096)

/-- Why the engine cannot reach an address now: 0 it can, 1 its domain wakes, 2 bus error, 3 no target. -/
def unreach (s : State) (a : Nat) : Nat :=
  if busTarget s 2 a = 15 then 3 else if deadMem s a then 2 else if (asleep s a).isSome then 1 else 0

/-- A transaction of a channel fails: retried whole, or the channel halts (R356). -/
def State.dmaFail (s : State) (c a : Nat) : State :=
  if (s.ch c).retries < wbits (s.reg (aDma + 0x1000 + 64 * c)) 16 3 then
    (s.modCh c fun q => { q with retries := q.retries + 1 }).count (aDma + 0x90)
  else s.dmaHalt c 4 (some a)

/-- The watchdog ends a transaction of a channel. -/
def State.dmaHang (s : State) (c a : Nat) (write : Bool) : State :=
  let q : BusReq := { master := 2, addr := a, size := 1, write := if write then some [] else none }
  (s.hangRecord q (busTarget s 2 a)).dmaHalt c 5 (some a)

/-- An address that the engine cannot reach. -/
def State.dmaBlocked (s : State) (c a u : Nat) (write : Bool) : State :=
  if u = 1 then (match asleep s a with | some d => s.wakeFor d | none => s)
  else if u = 2 then s.dmaFail c a else s.dmaHang c a write

/-- Tokens that an access takes where it reaches DRAM. -/
def State.dmaTokens (s : State) (a n : Nat) : State := if s.region a = .dram then s.takeTokens 1 n else s

/-- The descriptor in hand is read (R351). -/
def State.dmaFetch (s : State) (c : Nat) : State :=
  let a := (s.ch c).desc
  let u := unreach s a
  if a % 64 ≠ 0 then s.dmaHalt c 1 none
  else if u ≠ 0 then s.dmaBlocked c a u false
  else if s.region a == .periph || s.region a == .facet then s.dmaHalt c 1 none
  else
    let d := s.readBytes a 64
    let q : DmaCh := { s.ch c with dsc := d, retries := 0, bytes := 0, buf := [] }
    if badDesc d then (s.modCh c fun _ => q).dmaHalt c 1 none
    else if q.ctl 0 4 = 1 then s.modCh c fun _ => { q with job := .fence }
    else
      let src : DmaSide := { entry := leAt d 8 8, left := leAt d 16 2 }
      let dst : DmaSide := { entry := leAt d 24 8, left := leAt d 18 2 }
      let seed := if q.ctl 5 2 = 2 then crcOver 0x82F63B78 0xFFFFFFFF (slice d 44 12) else wordN (leAt d 40 4)
      let s1 := s.modCh c fun _ => { q with job := .copying, src := src, dst := dst, crc := seed }
      if badList src.entry src.left || badList dst.entry dst.left then s1.dmaHalt c 2 none else s1

/-- What a side of a COPY offers next. -/
inductive SideIs where
  | ready | ended | bad | chaining | blocked
  deriving DecidableEq, Repr

/-- An entry's buffer breaks R352 or R353. -/
def badBuffer (s : State) (fixed : Bool) (a n flags : Nat) : Bool :=
  flags / 2 != 0 || n == 0 || decide (n > 0x1000000) || ((fixed || s.region a == .periph) && (a % 4 != 0 || n % 4 != 0))

/-- Bring a side to an entry with bytes left; chains are followed as far as `fuel` goes. -/
def sideNext (s : State) (fixed : Bool) : Nat → DmaSide → SideIs × DmaSide
  | 0, d => (.chaining, d)
  | fuel + 1, d =>
    if d.rem ≠ 0 then (.ready, d)
    else if d.left = 0 then (.ended, d)
    else if unreach s d.entry ≠ 0 then (.blocked, { d with addr := d.entry })
    else
      let e := s.readBytes d.entry 16
      let a := leAt e 0 8
      let n := leAt e 8 4
      let f := leAt e 12 4
      if f = 1 then (if badList a n then (.bad, d) else sideNext s fixed fuel { d with entry := a, left := n })
      else if badBuffer s fixed a n f then (.bad, d)
      else (.ready, { entry := d.entry + 16, left := d.left - 1, addr := a, rem := n })

/-- Bytes of the next access on a side (R353): the largest natural access up to a 64-byte boundary, or a burst of whole lines that
does not cross 4 KiB. -/
def accessLen (a n : Nat) : Nat :=
  if a % 64 = 0 ∧ n ≥ 64 then 64 * min (n / 64) (min 16 ((4096 - a % 4096) / 64))
  else if a % 8 = 0 ∧ n ≥ 8 then 8 else if a % 4 = 0 ∧ n ≥ 4 then 4 else if a % 2 = 0 ∧ n ≥ 2 then 2 else 1

/-- A side whose accesses are aligned words: fixed, or on the peripheral bus. -/
def wordSide (s : State) (fixed : Bool) (a : Nat) : Bool := fixed || s.region a == .periph

/-- Read bytes of the source into the funnel until it holds `need`. -/
def dmaPull (fixed : Bool) (need : Nat) : Nat → State → DmaSide → List Byte → SideIs × State × DmaSide × List Byte
  | 0, s, d, buf => (.ready, s, d, buf)
  | fuel + 1, s, d, buf =>
    if buf.length ≥ need then (.ready, s, d, buf)
    else match sideNext s fixed 64 d with
      | (.ready, d1) =>
        if unreach s d1.addr ≠ 0 then (.blocked, s, d1, buf)
        else
          let n := if wordSide s fixed d1.addr then 4 else min d1.rem (need - buf.length)
          let bs := if s.region d1.addr == .periph then leBytes 4 (regRead s d1.addr).toNat else s.readBytes d1.addr n
          let s1 := (s.regReadDone d1.addr).dmaTokens d1.addr n
          dmaPull fixed need fuel s1 { d1 with addr := if fixed then d1.addr else d1.addr + n, rem := d1.rem - n } (buf ++ bs)
      | (r, d1) => (r, s, d1, buf)

/-- A burst's bytes are written to the destination. -/
def State.dmaPush (s : State) (a : Nat) (bs : List Byte) : State :=
  if s.region a == .periph then s.regWrite a (wordN (leNat bs)) false else (s.memWrite a bs).dmaTokens a bs.length

/-- The channel after `n` bytes of its funnel have been written. -/
def DmaCh.wrote (q : DmaCh) (fixed : Bool) (dst : DmaSide) (n : Nat) : DmaCh :=
  let d := { dst with addr := if fixed then dst.addr else dst.addr + n, rem := dst.rem - n }
  { q with dst := d, buf := q.buf.drop n, bytes := q.bytes + n, crc := crcOver 0x82F63B78 q.crc (q.buf.take n), retries := 0 }

/-- Both sides have ended. -/
def DmaCh.drained (q : DmaCh) : Bool := q.buf.isEmpty && q.src.rem == 0 && q.src.left == 0 && q.dst.rem == 0 && q.dst.left == 0

/-- One burst of a COPY, of at most `pace` bytes where a request line paces it: the state, and whether a word with a 1 in a reserved
field was to be written. -/
def State.dmaMove (s : State) (c : Nat) (pace : Option Nat) : State × Bool :=
  let q := s.ch c
  let sf := q.flag 8
  let df := q.flag 9
  match sideNext s df 64 q.dst with
  | (.bad, _) => (s.dmaHalt c 2 none, false)
  | (.chaining, d) => (s.modCh c fun q => { q with dst := d }, false)
  | (.blocked, d) => (s.dmaBlocked c d.addr (unreach s d.addr) false, false)
  | (.ended, d) =>
    match sideNext s sf 64 q.src with
    | (.bad, _) => (s.dmaHalt c 2 none, false)
    | (.ended, _) => if q.buf.isEmpty then (s.modCh c fun q => { q with job := .moved }, false) else (s.dmaHalt c 3 (some d.addr), false)
    | (.ready, _) => (s.dmaHalt c 3 (some d.addr), false)
    | (.chaining, e) => (s.modCh c fun q => { q with src := e }, false)
    | (.blocked, e) => (s.dmaBlocked c e.addr (unreach s e.addr) false, false)
  | (.ready, d) =>
    if unreach s d.addr ≠ 0 then (s.dmaBlocked c d.addr (unreach s d.addr) true, false)
    else
      let n := if wordSide s df d.addr then 4 else match pace with | some p => min p d.rem | none => accessLen d.addr d.rem
      match dmaPull sf n (n + 1) s q.src q.buf with
      | (.bad, s1, _, _) => (s1.dmaHalt c 2 none, false)
      | (.blocked, s1, e, buf) =>
        ((s1.modCh c fun q => { q with src := e, buf := buf, dst := d }).dmaBlocked c e.addr (unreach s e.addr) false, false)
      | (.chaining, s1, e, buf) => (s1.modCh c fun q => { q with src := e, buf := buf, dst := d }, false)
      | (r, s1, e, buf) =>
        let m := min n buf.length
        let short := r == .ended && decide (buf.length < n)
        if m = 0 ∨ (short && wordSide s df d.addr) then (s1.dmaHalt c 3 (some d.addr), false)
        else
          let bad := s.region d.addr == .periph && reservedWrite d.addr (wordN (leNat (buf.take m)))
          let q1 := { q with src := e, buf := buf }.wrote df d m
          let s2 := (s1.modCh c fun _ => { q1 with job := if q1.drained then .moved else .copying }).dmaPush d.addr (buf.take m)
          (if short then s2.dmaHalt c 3 (some (d.addr + m)) else s2, bad)

/-- The address that a failed transaction of a channel names. -/
def DmaCh.failAddr (q : DmaCh) (read : Bool) : Nat := if q.job = .fetch then q.desc else if read then q.src.addr else q.dst.addr

/-- A burst ends: the bytes move, or the response is an error. DEDUCED, log 146. -/
def State.dmaBurst (s : State) (c : Nat) (pace : Option Nat) (r : DmaResp) : State × Bool :=
  let q := s.ch c
  match r with
  | .ok => if q.job = .fetch then (s.dmaFetch c, false) else s.dmaMove c pace
  | .error rd => (s.dmaFail c (q.failAddr rd), false)
  | .uncorrectable synd =>
    let a := q.failAddr true
    let inst := match s.region a with | .crown => crownBank a | .dram => 1 | _ => 2
    ((s.wordFault (s.region a) inst a synd false false).dmaFail c a, false)
  | .hang rd => (s.dmaHang c (q.failAddr rd) (!rd), false)

/-- DMA_START and DMA_STOP are writes of DMA_CH_CTL_c. -/
def execDmaStart (c : Fin 32) (v : Word) (s : State) : Host.Outcome State Fault Refusal :=
  guarded (aDma + 0x1000 + 64 * c.val) v (s.dmaCtl c.val v)
def execDmaStop (c : Fin 32) (v : Word) (s : State) : Host.Outcome State Fault Refusal :=
  guarded (aDma + 0x1000 + 64 * c.val) v (s.dmaCtl c.val v)

/-- DMA_BURST_RESPONSE: of a channel that reads a descriptor, or that moves bytes without pacing. -/
def execDmaBurstResponse (c : Fin 32) (r : DmaResp) (s : State) : Host.Outcome State Fault Refusal :=
  let q := s.ch c.val
  if q.job = .fetch ∨ (q.job = .copying ∧ q.ctl 10 5 = 31) then
    let t := s.dmaBurst c.val none r
    if t.2 then .fault .reservedField else .next t.1
  else .next s

/-- DMA_REQUEST: the line of a paced channel is asserted, and one burst of PBURST bytes moves (R354). -/
def execDmaRequest (c : Fin 32) (line : Fin 31) (r : DmaResp) (s : State) : Host.Outcome State Fault Refusal :=
  let q := s.ch c.val
  if q.job = .copying ∧ q.ctl 10 5 = line.val then
    let t := s.dmaBurst c.val (some (4 * 2 ^ q.ctl 15 3)) r
    if t.2 then .fault .reservedField else .next t.1
  else .next s

/-- A descriptor completes: Status, DMA_DONE, and the next descriptor. -/
def State.dmaDone (s : State) (c : Nat) : State :=
  let q := s.ch c
  let s1 := s.dmaStatus c 0 true
  let s2 := if q.flag 4 then s1.raise (aDma + 4) (wordN (2 ^ c)) else s1
  let next := leAt q.dsc 32 8
  s2.modCh c fun q => if next = 0 then { q with job := .idle } else { q with job := .fetch, desc := next }

/-- DMA_COPY_COMPLETE (R355, R357). -/
def execDmaCopyComplete (c : Fin 32) (s : State) : Host.Outcome State Fault Refusal :=
  let q := s.ch c.val
  if q.job ≠ .moved then .next s
  else
    let w := q.crc ^^^ 0xFFFFFFFF
    let checked := q.ctl 5 2 ≠ 0
    let s1 := if checked then s.memWrite (q.desc + 60) (leBytes 4 w.toNat) else s
    if checked && q.flag 7 && w.toNat != leAt q.dsc 56 4 then .next (s1.dmaHalt c.val 6 none) else .next (s1.dmaDone c.val)

/-- DMA_FENCE_COMPLETE. -/
def execDmaFenceComplete (c : Fin 32) (s : State) : Host.Outcome State Fault Refusal :=
  .next (if (s.ch c.val).job = .fence then s.dmaDone c.val else s)

end Sys2Proof.Machine
end

