-- ==== Sys2Proof/Machine/System.lean ====
section
/-! DEFINITION. The system and diagnostic opcodes, TXN_BEGIN and TXN_ABORT, and FEED_RESTORE (R45, R196, R197, R205, R210, R218,
R228, R229, R245, R246). -/

namespace Sys2Proof.Machine

/-! ### Identity and status -/

def specSysInfo : OpSpec where
  standby := true
  spi := true
  run := fun _ s =>
    readOk s [1] (beBytes 4 0x9012 ++ beBytes 4 0xB0 ++
      [BitVec.ofNat 8 s.sec.lifecycle, BitVec.ofNat 8 s.role, BitVec.ofNat 8 (b2n s.render.rate96), BitVec.ofNat 8 (b2n s.sec.gradeE)] ++
      beBytes 4 s.boot.ganenVersion.toNat)

def specSysStatus : OpSpec where
  standby := true
  spi := true
  run := fun _ s =>
    let w := fun (x : Word) => beBytes 4 x.toNat
    readOk s [1] (w (bootStatus s) ++ w (integStatus s) ++ w (kcpStatus s) ++
      ((List.range 8).map fun (c : Nat) => (BitVec.ofNat 8 (facetsIn s c) : Byte)) ++
      w (pmuDomain s false) ++ w (pmuDomain s true) ++ w (pmuState s))

/-! ### Sessions (R196, R197, R229, R474) -/

/-- The session that holds an endpoint, other than `x`. -/
def otherAt (s : State) (x : Nat) (e : Endpoint) : Option Nat := (List.range 8).find? fun y => y != x && s.bound y e

/-- Idle timeout in seconds of an open; 0 for never (R196). -/
def idleOf (c : Cmd) : Nat :=
  if !isUdp c.ep then 0 else if c.at 20 2 = 0 then 30 else if c.at 20 2 = 0xFFFF then 0 else c.at 20 2

/-- The session that an open makes: an open without a tag sets H and the window; with one, both persist (R197). DEDUCED, log 20. -/
def opened (c : Cmd) (t : Session) : Session :=
  let base := { t with
    isOpen := true, ep := c.ep, evSeq := 0, mask := c.at 22 2, idle := idleOf c, tagged := c.tagged, loss := false, txn := none }
  if c.tagged then base else { base with h := c.seq, seen := 1, replies := [(c.seq, none)] }

def specSessionOpen : OpSpec where
  spi := true
  param := fun c _ => firstBad [(isUdp c.ep && c.at 20 2 > 3600 && c.at 20 2 ≠ 0xFFFF, 20)]
  busy := fun c s =>
    let t := s.sess c.sess
    if t.isOpen && t.ep != c.ep then some (reject stBusy 1 c.sess)
    else (otherAt s c.sess c.ep).map fun y => reject stBusy 1 y
  run := fun c s =>
    let s1 := ((s.closeSess c.sess).setSess c.sess (opened c)).stageSess c.sess
    readOk s1.speedCheck [1] (beBytes 4 (s1.sess c.sess).h)

def specSessionClose : OpSpec where
  spi := true
  run := fun c s => readOk (s.stageAs c.sess Session.shut) [1] []
  after := fun c s => s.closeSess c.sess

def specSeqQuery : OpSpec where
  standby := true
  spi := true
  run := fun c s => let t := s.sess c.sess; readOk s [1] (beBytes 4 t.h ++ zeros 4 ++ beBytes 8 t.seen)

def specEventMask : OpSpec where
  spi := true
  run := fun c s => readOk ((s.setSess c.sess fun t => { t with mask := c.at 20 2 }).stageSess c.sess) [1] []

/-- DEDUCED, logs 21, 22 and 191. -/
def specKeySet : OpSpec where
  standby := true
  spi := true
  units := fun _ _ => [12]
  len := fun c => c.plen == 36
  permit := fun c s => if adminTag c s && !s.sec.tamperLow then none else some stNotPermitted
  param := fun c _ => firstBad [(c.at 20 1 > 7, 20), (c.at 21 1 > 3, 21)]
  run := fun c s =>
    let a := c.at 21 1
    let k : Option Key := if (c.bytes 24).all (· == 0) then none else some { key := c.bytes 24, diag := a.testBit 0, admin := a.testBit 1 }
    readOk { s with sec := { s.sec with keys := s.sec.keys.set (c.at 20 1) k } } [12] []
  after := fun c s =>
    let x := c.at 20 1
    let s1 := s.closeSess x
    if (nth none s.sec.keys x).isSome then s1.setSess x fun t => { t with h := 0, seen := 0, replies := [] } else s1

/-! ### Render rate (R45) -/

/-- The first enabled zone. DEDUCED, log 45. -/
def someZone (s : State) : Option Nat := (s.render.zones.find? fun e => e.2.enable).map (·.1)

/-- A feed at a change of rate: its histories are at zero, and it carries zeros. -/
def FeedRt.quiet (r : FeedRt) : FeedRt :=
  { r with biq := List.replicate 16 {}, line := [], hist := [], fdl := [], since := 0, tail := [], tailB := [], limG := 0x40000000, last := 0,
           heldBlocks := 0, leaving := [] }

/-- The render stops until it resumes at the other rate. DEDUCED, log 44. -/
def State.rateChange (s : State) (rate96 : Bool) : State :=
  if s.render.rate96 = rate96 then s
  else
    let quiet := fun (e : Nat × FeedRt) => (e.1, e.2.quiet)
    let ovr := fun (q : Kernel) => decide (3 * (q.budget + q.start) > cycle3 rate96)
    let hold := fun (e : Nat × Kernel) => if ovr e.2 then (e.1, { e.2 with suspended := true }) else e
    { s with
      facets := { s.facets with kernels := s.facets.kernels.map hold }
      render := { s.render with
        rate96 := rate96, changing := true, run := false, blocks := [], playout := [], feedRt := s.render.feedRt.map quiet }
      net := { s.net with sent := [] } }

def specRenderRate : OpSpec where
  txn := true
  spi := true
  atOnce := fun _ _ => false
  param := fun c _ => firstBad [(c.at 20 1 > 1, 20)]
  busy := fun _ s => (someZone s).map fun z => reject stConflict 1 z
  apply := fun c bad s => if bad.contains 1 then s else s.rateChange (c.at 20 1 == 1)

/-- RENDER_RATE_RESUME. -/
def execRenderRateResume (s : State) : Host.Outcome State Fault Refusal :=
  .next (if s.render.changing then
    { s with render := { s.render with changing := false, run := !s.integ.pllStop, n := blockAt s.render.rate96 s.lNs } }
  else s)

/-- GANEN_RESTART_DONE (R373): the restarted Ganen closes its first delta, and loads time where the bases wait for it (R280,
Table TIME-7). -/
def execGanenRestartDone (s : State) : Host.Outcome State Fault Refusal :=
  if !s.integ.restarting then .next s
  else
    let s1 := if s.loaded then s else s.loadTime
    let d := { s1.delta with
      closed := some { boundary := s1.render.n + 1, seq := s1.delta.seq, verify := false, entries := [] }, cutoff := true, committed := true
      seq := (s1.delta.seq + 1) % 2 ^ 32 }
    .next { s1 with integ := { s1.integ with restarting := false, missed := 0, lastClosed := s1.render.n + 1 }, delta := d }

/-! ### FEED_RESTORE (R54, R154) -/

/-- A restored feed rejoins the layout; Loupe's state of it is OK, and its veto is cleared. -/
def State.restoreFeed (s : State) (f : Nat) : State :=
  let s1 := s.unwithdraw f
  let q := s1.lf f
  let s2 := if q.vetoed then s1.modLf f fun q => { q with vetoed := false } else s1
  if q.st = 5 then
    let s3 := s2.modLf f fun q => { q with st := 1 }
    s3.event 0x8600 (beBytes 2 f ++ [BitVec.ofNat 8 q.verdict, 1] ++ beBytes 2 (s3.lf f).flags ++ zeros 2)
  else s2

def specFeedRestore : OpSpec where
  txn := true
  feeds := fun c s => targets s (c.at 20 2)
  atOnce := fun _ _ => false
  units := fun _ _ => [2, 4]
  param := fun c _ => firstBad [(badTarget (c.at 20 2), 20)]
  apply := fun c bad s =>
    (targets s (c.at 20 2)).foldl (fun s f =>
      if bad.contains 4 then (if bad.contains 2 then s else s.unwithdraw f)
      else if bad.contains 2 then s else s.restoreFeed f) s

/-! ### TXN_BEGIN and TXN_ABORT (R205, R210) -/

/-- A timed commit of the session's that has passed, or failed, its final check and is not yet reported. -/
def finalDone (s : State) (x id : Nat) : Bool :=
  let mine := fun (e : Entry) => match e with
    | .commit _ sx _ txn _ _ timed _ _ => timed && sx == x && txn == id
    | _ => false
  s.delta.entries.any mine || (match s.delta.closed with | some c => c.entries.any mine | none => false) ||
    s.delta.rolled.any fun e => e.1 == x && e.2.1 == id

/-- DEDUCED, log 29 and 30. -/
def specTxnBegin : OpSpec where
  ownTxn := true
  busy := fun c s =>
    let t := s.sess c.sess
    if c.txn = 0 then some (reject stBadParam 1 16)
    else if (match t.txn with | some q => q.id == c.txn | none => false) || t.timed.any fun q => q.id == c.txn then
      some (reject stBusy 1 0xFFFF)
    else if t.txn.isSome then some (reject stTxnLimit 1)
    else none
  run := fun c s => readOk ((s.setSess c.sess fun t => { t with txn := some { id := c.txn } }).stageSess c.sess) [1] []

def specTxnAbort : OpSpec where
  ownTxn := true
  busy := fun c s =>
    let t := s.sess c.sess
    if (match t.txn with | some q => q.id == c.txn | none => false) || t.timed.any fun q => q.id == c.txn then none
    else some (reject (if finalDone s c.sess c.txn then stTooLate else stTxnNone) 1)
  run := fun c s =>
    let drop := fun (t : Session) =>
      if (match t.txn with | some q => q.id == c.txn | none => false) then { t with txn := none }
      else { t with timed := t.timed.filter fun q => q.id ≠ c.txn }
    readOk ((s.setSess c.sess drop).stageSess c.sess) [1] []

/-! ### The register window (R218, R245) -/

/-- The session's packets carry a tag under a key with DIAG. -/
def diagTag (c : Cmd) (s : State) : Bool :=
  isUdp c.ep && c.tagged && match nth none s.sec.keys c.sess with | some k => k.diag | none => false

def specWindowUnlock : OpSpec where
  standby := true
  spi := true
  units := fun _ _ => [12]
  permit := fun c s => if s.locked && !diagTag c s then some stNotPermitted else none
  param := fun c _ => firstBad [(c.at 20 4 = 0 || c.at 20 4 > 3600, 20)]
  run := fun c s =>
    readOk (({ s with kcp := { s.kcp with window := some (c.at 20 4) } }).event 0x8F00 (beBytes 4 (c.at 20 4))) [12] []

def specWindowLock : OpSpec where
  standby := true
  spi := true
  units := fun _ _ => [12]
  run := fun _ s => readOk (s.closeWindow 0) [12] []

/-- The words of DIAG_REG_READ and DIAG_REG_WRITE. -/
def regCount (c : Cmd) : Nat := c.at 24 2

/-- An access by Ganen to a register ends in a bus error: a hole of the map, or a domain that has FAILED. -/
def regDead (s : State) (a : Nat) : Bool := !periphHere a || deadMem s a

/-- Make a register's domain answer, or log the hang of an access that has no target. DESIGN CHOICE, log 41. -/
def State.regReach (s : State) (a : Nat) : State :=
  if !periphHere a then s.hangRecord { (coreReq a 4 none) with user := true } 15
  else match asleep s a with | some d => s.wakeFor d | none => s

/-- An access that ends in a bus error; the block's space ends at 0x41FF_FFFF. -/
def regEnds (s : State) (a : Nat) : Bool := a ≥ 0x42000000 || regDead s a

/-- Read `n` words from `a` on: the words read, and the index of the one that failed. -/
def regReads (a : Nat) : Nat → Nat → State → List Byte × Option Nat × State
  | 0, _, s => ([], none, s)
  | n + 1, i, s =>
    let s1 := s.regReach (a + 4 * i)
    if regEnds s (a + 4 * i) then ([], some i, s1)
    else
      let w := beBytes 4 (regRead s1 (a + 4 * i)).toNat
      let r := regReads a n (i + 1) (s1.regReadDone (a + 4 * i))
      (w ++ r.1, r.2)

/-- Write words from `a` on, up to the one that fails. -/
def regWrites (a : Nat) : List Word → Nat → State → Option Nat × State
  | [], _, s => (none, s)
  | w :: t, i, s =>
    let s1 := s.regReach (a + 4 * i)
    if regEnds s (a + 4 * i) then (some i, s1) else regWrites a t (i + 1) (s1.regWrite (a + 4 * i) w false)

/-- The values of a DIAG_REG_WRITE. -/
def regValues (c : Cmd) : List Word := (List.range (regCount c)).map fun i => wordN (c.at (28 + 4 * i) 4)

/-- Addresses and counts out of range. -/
def regParam (c : Cmd) : Option Nat :=
  let a := c.at 20 4
  firstBad [(a % 4 ≠ 0 || a < 0x40000000 || a ≥ 0x42000000, 20), (regCount c = 0 || regCount c > 256, 24)]

/-- The answer of a register command whose word `i` failed. -/
def regFailed (s : State) (i : Nat) : State × ReplyRec × List Byte := (s, reject stBadParam 1 (20 + 4 * i), [])

def specRegRead : OpSpec where
  standby := true
  spi := true
  len := fun c => c.plen == 8
  permit := fun _ s => if windowOpen s then none else some stNotPermitted
  param := fun c _ => regParam c
  run := fun c s =>
    let r := regReads (c.at 20 4) (regCount c) 0 s
    match r.2.1 with | some i => regFailed r.2.2 i | none => readOk r.2.2 [1] r.1

def specRegWrite : OpSpec where
  standby := true
  spi := true
  len := fun c => c.plen ≥ 8 && c.plen == 8 + 4 * regCount c
  permit := fun _ s => if windowOpen s then none else some stNotPermitted
  param := fun c _ => regParam c
  run := fun c s =>
    let r := regWrites (c.at 20 4) (regValues c) 0 s
    match r.1 with | some i => regFailed r.2 i | none => readOk r.2 [1] []

/-- A DIAG_REG_WRITE would put a 1 in a reserved field before a word that fails: R13 gives no effect. -/
def regReserved (c : Cmd) (s : State) : Bool :=
  ((regValues c).zipIdx.takeWhile fun e => !regEnds s (c.at 20 4 + 4 * e.2)).any fun e => reservedWrite (c.at 20 4 + 4 * e.2) e.1

/-! ### Counters (R221, R245, R381, R382) -/

/-- Keys of `n` counters from `a` on, `step` apart. -/
def cntRun (a n step : Nat) : List Nat := (List.range n).map fun i => a + step * i

/-- The counters of a unit (Table KCP-6), in order. PRESUMED, log 42. -/
def unitCounters (u : Nat) : List Nat :=
  if u = 1 then cntRun (kDev 0) 7 1 ++ ((List.range 8).map fun x => cntRun (kSess x 0) 3 1).flatten ++ cntRun (aInteg + 0x90) 5 8
  else if u = 2 then cntRun (aPav + 0x90) 4 8 ++ ((List.range 1024).map fun o => cntRun (kObj o 0) 2 1).flatten
  else if u = 3 then
    ((List.range 1024).map fun f => cntRun (kFeed f 0) 4 1).flatten ++ (List.range 1024).map fun o => kObj o 2
  else if u = 4 then cntRun (aLoupe + 0x90) 3 8
  else if u = 5 then cntRun (aFacetctl + 0x90) 5 8
  else if u = 6 then ((List.range 6).map fun k => cntRun (aNet k + 0x90) 12 8).flatten ++ ((List.range 512).map fun f => cntRun (kFlow f 0) 13 1).flatten
  else if u = 7 then cntRun (aTime + 0x100) 15 8
  else if u = 8 then ((List.range 16).map fun p => cntRun (aTdm + 0x800 + 0x40 * p) 5 8).flatten ++ cntRun (aSide + 0x90) 1 8
  else if u = 9 then cntRun (aBusmx + 0x90) 4 8 ++ cntRun (aDramc + 0x90) 6 8 ++ cntRun (aDma + 0x90) 2 8
  else if u = 10 then cntRun (aPair + 0x90) 6 8
  else []

/-- A capture by Ganen of every counter that `p` picks; `clear` clears the accumulators as one step with it. DEDUCED, log 43. -/
def State.takeCnts (s : State) (p : Nat → Bool) (clear : Bool) : State :=
  let one := fun (e : Nat × Cnt) =>
    if p e.1 then
      let q := e.2.capture true
      (e.1, if clear then { q with acc := 0, accSat := false } else q)
    else e
  { s with cnts := s.cnts.map one }

/-- The reply lists as many counters as its packet holds (R192). DESIGN CHOICE, log 42. -/
def specDiagCounters : OpSpec where
  standby := true
  spi := true
  param := fun c _ => firstBad [(c.at 20 2 = 0 || c.at 20 2 > 12, 20), (c.at 22 1 > 1, 22)]
  run := fun c s =>
    let u := c.at 20 2
    let ks := unitCounters u
    let s1 := s.takeCnts ks.contains false
    let fit := ks.zipIdx.take ((packetLimit s c.ep - 44 - 16 * b2n c.tagged) / 12)
    let data := ((fit.map fun e => beBytes 2 e.2 ++ zeros 2 ++ (mget {} s1.cnts e.1).kcp)).flatten
    readOk (if c.at 22 1 = 1 then s1.takeCnts ks.contains true else s1) [1] data

end Sys2Proof.Machine
end

