-- ==== Sys2Proof/Machine/Opcodes.lean ====
section
/-! DEFINITION. The table of opcodes (Table CMD-1), the entries of a delta as they take effect (R20, Table PAIR-7), the state that
checks see, and the limits on the whole (R29, R46, R93, R106, R111, R183, R206, R237, R265, R430). -/

namespace Sys2Proof.Machine

/-- The rules of an opcode of Table CMD-1. TXN_COMMIT has its own (R208, R209). -/
def specOf (op : Nat) : Option OpSpec :=
  match op with
  | 0x0000 => some specSysInfo | 0x0001 => some specSessionOpen | 0x0002 => some specSessionClose | 0x0003 => some specSeqQuery
  | 0x0004 => some specEventMask | 0x0005 => some specKeySet | 0x0006 => some specRenderRate | 0x0007 => some specSysStatus
  | 0x0008 => some specSysKernelLoad | 0x0009 => some specSysKernelRun | 0x000A => some specSysKernelUnload | 0x000B => some specSysKernelRead
  | 0x0100 => some specZoneSet | 0x0101 => some specZoneExclSet | 0x0102 => some specZoneRead | 0x0103 => some specFeedSet
  | 0x0104 => some specFeedRead | 0x0105 => some specFeedWithdraw | 0x0106 => some specFeedRestore | 0x0107 => some specLayoutStatus
  | 0x0108 => some specLayoutResolve
  | 0x0200 => some specObjectSet | 0x0201 => some specObjectPosBulk | 0x0202 => some specObjectRead | 0x0203 => some specObjectRestore
  | 0x0300 => some specRouteSet | 0x0301 => some specRouteDelete | 0x0302 => some specRouteRead | 0x0303 => some specMatrixStatus
  | 0x0400 => some specChainSet | 0x0401 => some specBiquadSet | 0x0402 => some specChainRead | 0x0403 => some specFeedStatus
  | 0x0500 => some specFilterLibWrite | 0x0501 => some specFilterLibFree | 0x0502 => some specFilterStage | 0x0503 => some specFilterSwap
  | 0x0504 => some specFilterDiscard | 0x0505 => some specFilterDirect | 0x0506 => some specFilterAb | 0x0507 => some specFilterRead
  | 0x0600 => some specLoupeZoneSet | 0x0601 => some specLoupeInputSet | 0x0602 => some specLoupeSync | 0x0603 => some specLoupeJobStart
  | 0x0604 => some specLoupeJobAbort | 0x0605 => some specLoupeLearn | 0x0606 => some specLoupeVeto | 0x0607 => some specLoupeCompClear
  | 0x0608 => some specLoupeAuditRead | 0x0609 => some specLoupeJobRead | 0x060A => some specLoupeDerive
  | 0x0700 => some specNetportSet | 0x0701 => some specFlowSet | 0x0702 => some specFlowDelete | 0x0703 => some specFlowRead
  | 0x0704 => some specNetportRead | 0x0705 => some specNetKcpSet
  | 0x0800 => some specPtpSet | 0x0801 => some specRefInputSet | 0x0802 => some specRefPrioritySet | 0x0803 => some specRefForce
  | 0x0804 => some specTriggerSet | 0x0805 => some specCaptureRead | 0x0806 => some specTimeRead | 0x0807 => some specRefStatus
  | 0x0900 => some specPortSet | 0x0901 => some specPortMask | 0x0902 => some specPortRun | 0x0903 => some specSidetoneSet
  | 0x0904 => some specPortRead
  | 0x0A00 => some specPairSet | 0x0A01 => some specPairStatus | 0x0A02 => some specPairSync | 0x0A03 => some specPairHandover
  | 0x0B00 => some specTxnBegin | 0x0B02 => some specTxnAbort
  | 0x0C00 => some specPwrState | 0x0C01 => some specPwrOppoint | 0x0C02 => some specPwrDomainRetry | 0x0C03 => some specPwrStatus
  | 0x0F00 => some specWindowUnlock | 0x0F01 => some specWindowLock | 0x0F02 => some specRegRead | 0x0F03 => some specRegWrite
  | 0x0F04 => some specDiagCounters | 0x0F05 => some specDiagInclusionRead | 0x0F06 => some specDiagFacetRetry
  | 0x0F07 => some specDiagLifecycle
  | _ => none

/-! ### Entries take effect (R20, Table PAIR-7) -/

/-- Apply a command, but for the units that failed to prepare. -/
def State.applyCmd (s : State) (c : Cmd) (bad : List Nat) : State :=
  match specOf c.op with | some sp => sp.apply c bad s | none => s

/-- A staged command of a transaction, as a command of its session. -/
def stagedCmd (ep : Endpoint) (x txn : Nat) (tagged : Bool) (g : Staged) : Cmd :=
  { ep := ep, sess := x, seq := g.seq, op := g.op, txn := txn, tagged := tagged, payload := g.payload }

/-- A standby notes the reply of a command that the active answers (R405). -/
def State.mirror (s : State) (x q : Nat) (r : ReplyRec) : State :=
  if s.standby then s.setSess x fun t => { t with replies := (t.replies.filter fun e => e.1 ≠ q) ++ [(q, some r)] } else s

/-- A drawn seed reaches its place: an object's decorrelator, the noise register, a transmit flow's sequence. -/
def State.applySeed (s : State) (what index value : Nat) : State :=
  if what = 0 then s.modObjRt index fun r => { r with seed := value }
  else if what = 1 then { s with loupe := { s.loupe with noise := max 1 value } }
  else s.modFlowRt index fun r => { r with seq := value % 2 ^ 16 }

/-- A standby takes the active's session (R397, R406), unless it holds a later image: its window is the union of both. DEDUCED, logs
37 and 199. -/
def State.takeSession (s : State) (x : Nat) (m : SessImage) : State :=
  if !s.standby || decide (m.ver < (s.sess x).ver) then s
  else s.setSess x fun t => { t with
    isOpen := m.isOpen, ep := m.ep, h := m.h, seen := if t.h = m.h then m.seen ||| t.seen else m.seen, evSeq := m.evSeq, mask := m.mask, idle := m.idle
    tagged := m.tagged, txn := m.txn, timed := m.timed, ver := m.ver, replies := pruneReplies m.h t.replies }

/-- The outcome of a timer takes effect in the standby. -/
def State.takeTimer (s : State) (t : TimerOut) : State :=
  if !s.standby then s
  else match t with
    | .idle x => s.closeSess x
    | .pieces x op name => s.dropPieces x op name
    | .waitToRestore r => s.modRef r fun q => { q with wtr := false, wtrLeft := 0 }
    | .confirm f => s.modLf f fun q => { q with st := 4, confirmAt := none }

/-- A change has been applied whole: kernels that waited for its end take their Facets, and a reduced port that came into use returns to
25 Gb/s (R272). -/
def State.settle (s : State) : State := s.settleKernels.dropUnplaced.speedCheck

/-- An entry takes effect at the boundary in hand. -/
def State.applyEntry (s : State) (e : Entry) : State :=
  match e with
  | .command ep x q op txn tagged payload r _ =>
    let bad := (List.range 16).filter fun u => r.touched.testBit u && !r.succeeded.testBit u
    (s.applyCmd { ep := ep, sess := x, seq := q, op := op, txn := txn, tagged := tagged, payload := payload } bad).settle.mirror x q r
  | .commit ep x q txn tagged cmds _ _ r =>
    (cmds.foldl (fun s g => s.applyCmd (stagedCmd ep x txn tagged g) []) s).settle.mirror x q r
  | .session x m => s.takeSession x m
  | .position p => s.posBulk { ep := .spi, sess := 0, seq := 0, op := 0x0201, txn := 0, tagged := false, payload := p }
  | .asrc p r => s.modPort p fun q => { q with ratio := r }
  | .asrcLock p ph => s.asrcLocked p ph
  | .reference r cause => s.refApply r cause
  | .loupe d => s.loupeDec d
  | .seed what index value => s.applySeed what index value
  | .layout z l => s.layoutEntry z l
  | .timer t => s.takeTimer t
  | .powerState t => s.pwrBegin t
  | .powerPoint p => s.pointBegin p
  | .handover k cause => { s with pair := { s.pair with handover := some (k, cause) } }
  | .exit cs => s.compareCarats cs

/-- Apply entries in order, as at boundary `k`. -/
def State.applyAll (s : State) (k : Nat) (es : List Entry) : State :=
  es.foldl State.applyEntry { s with render := { s.render with n := k } }

/-- The state as every entry accepted so far will leave it: what the checks of a command see (R208, R211). DEDUCED, log 46. -/
def State.projected (s : State) : State :=
  let s1 := match s.delta.closed with | some c => s.applyAll c.boundary c.entries | none => s
  s1.applyAll s.acceptAt s.delta.entries

/-! ### Limits on the whole -/

/-- Taps and tail partitions of all feeds (Table MIX-5). DEDUCED, log 69. -/
def poolTaps (s : State) : Nat := if s.render.rate96 then 2097152 else 4194304
def poolParts (s : State) : Nat := if s.render.rate96 then 7168 else 15360

/-- A flow whose payload a port it names cannot carry (R260). -/
def bigFlow (s : State) : Bool :=
  s.net.flows.any fun e => !e.2.position && (flowPorts e.2).any fun k =>
    decide (rtpBytes s.render.rate96 e.2 > (if netCtl s k 17 then 8960 else 1460))

/-- The first limit that a state breaks: its code (Table KCP-12) and its unit. -/
def limitHit (s : State) : Option (Nat × Nat) :=
  if s.render.rate96 && decide (nObj s * nFeed s > 524288) then some (1, 1)
  else if matrixPeak s > matrixLimit s then some (2, 3)
  else if tapsUsed s > poolTaps s ∨ partsUsed s > poolParts s then some (3, 3)
  else if playoutUse s > playoutMax then some (6, 6)
  else if bigFlow s then some (7, 6)
  else if libBytes s > 2 ^ 29 then some (8, 9)
  else if !pointAdmits s s.power.point then some (9, 11)
  else none

/-- Scalar parameters and FIR sets of a safe-load set exceed R111. -/
def setTooBig (scalars : Nat) (firs : List (Nat × Nat)) : Bool :=
  decide (scalars > 4096) || decide (firs.length > 128) ||
    decide (nsum (firs.map fun e => firBytes e.2) > 4 * 2 ^ 20 - 65536)

/-- What rejects a set of changes that takes `s` to `t`: a limit on the whole, the safe-load set, or a kernel in the way.
DEDUCED, log 34. -/
def wholeCheck (s t : State) (scalars : Nat) (firs : List (Nat × Nat)) : Option ReplyRec :=
  match limitHit t with
  | some (code, u) => some (reject stCapacity u code)
  | none =>
    if setTooBig scalars firs then some (reject stCapacity 3 4)
    else match kernelInWay t, kernelInWay s with
      | some k, none => some (reject stBusy 5 k)
      | _, _ => none

end Sys2Proof.Machine
end

