-- ==== Sys2Proof/Machine/Delta.lean ====
section
/-! DEFINITION. Acceptance of commands and commits into the state delta, its cut-off, its deadline and its transfer to the standby
(R17 to R21, R201, R202, R204, R206, R208, R209, R396 to R402, R407, R408). -/

namespace Sys2Proof.Machine

/-! ### Acceptance of one command (R201, R204) -/

/-- Draw the seeds that a command calls for; they enter the delta before it (Table PAIR-7). DESIGN CHOICE,
log 183. -/
def State.draw (s : State) (l : List (Nat × Nat)) : State :=
  l.foldl (fun s e =>
    let (k, s1) := s.fresh
    s1.enter (.seed e.1 e.2 (if e.1 = 2 then Config.rtpStart k else (Config.seed k).toNat))) s

/-- A command whose parameters are good is prepared and accepted, or turned away (checks 13, R201, R204). -/
def State.acceptCmd (s : State) (sp : OpSpec) (c : Cmd) : State :=
  let t := s.projected
  match sp.busy c t with
  | some r => s.replyTo c r []
  | none =>
    let us := sp.units c t
    let bad := failedUnits s us
    let r := unitReply s us s.acceptAt
    if r.status = stUnitFailed then s.replyTo c r []
    else match wholeCheck t (sp.apply c bad t) (sp.scalars c t) (sp.firs c t) with
      | some r => s.replyTo c r []
      | none =>
        let data := sp.data c t
        let (c', s1) := sp.accept c (s.draw (sp.seeds c t))
        let s2 := if s.paired && decide (c'.plen > 4096) then s1.bezel (.staging 1 c'.seq) else s1
        s2.enter (.command c'.ep c'.sess c'.seq c'.op c'.txn c'.tagged c'.payload r data)

/-! ### Commits (R206, R208) -/

/-- What a set has led to, command by command: the copy, scalar parameters, FIR sets, the commands with the seeds they draw, and the
limits on the Facets that were met part way. -/
structure SetRun where
  t : State
  scalars : Nat := 0
  firs : List (Nat × Nat) := []
  done : List Cmd := []
  seeds : List (Nat × Nat) := []
  met : List ReplyRec := []

/-- The record of a set that is rolled back. -/
def rolled (unit status : Nat) : ReplyRec := { status := stRolledBack, unit := unit, reason := status }

/-- Apply a command to the copy. -/
def SetRun.take (r : SetRun) (sp : OpSpec) (c : Cmd) : SetRun :=
  { r with
    t := sp.apply c [] r.t, scalars := r.scalars + sp.scalars c r.t
    firs := r.firs ++ (sp.firs c r.t).filter fun e => !(r.firs.any fun x => x.1 == e.1)
    done := r.done ++ [c], seeds := r.seeds ++ sp.seeds c r.t }

/-- What rolls a set back at one of its commands, on the copy as the commands before it leave it: a parameter that no longer names
what it must, a unit that is down, a direct write on a feed that it changes (Table KCP-7), or a BUSY or CONFLICT of its own.
DEDUCED, log 33. -/
def setFails (sp : OpSpec) (c : Cmd) (t : State) : Option ReplyRec :=
  if (sp.param c t).isSome then some (rolled (((sp.units c t).head?).getD 1) stBadParam)
  else match failedUnits t (sp.units c t) with
    | u :: _ => some (rolled u stUnitFailed)
    | [] =>
      if (sp.feeds c t).any (directOn t) then some (rolled 3 stConflict)
      else match sp.busy c t with
        | none => none
        | some b => if b.status = stCapacity then none else some (rolled b.unit b.status)

/-- One staged command. A limit met part way is only noted. -/
def SetRun.step (r : SetRun) (c : Cmd) : Except ReplyRec SetRun :=
  match specOf c.op with
  | none => .ok r
  | some sp =>
    match setFails sp c r.t with
    | some e => .error e
    | none => .ok { r.take sp c with met := r.met ++ (sp.busy c r.t).toList }

/-- Commands in turn. -/
def SetRun.steps : List Cmd → SetRun → Except ReplyRec SetRun
  | [], r => .ok r
  | c :: cs, r => match r.step c with | .error e => .error e | .ok r' => SetRun.steps cs r'

/-- The limits on the Facets at the set's end (R29, R118, R183): a kernel still without one, or a start or restore that met too few
and still would. -/
def facetLimit (r : SetRun) : Option ReplyRec :=
  (kernelLimit r.t).or (if allocShort r.t then r.met.find? fun b => b.reason == 5 else none)

/-- A whole set against a copy of the state: what it leads to, or why it is rolled back. -/
def runSet (t : State) (cs : List Cmd) : Except ReplyRec SetRun :=
  match SetRun.steps cs { t := t } with
  | .error e => .error e
  | .ok r =>
    let r1 := { r with t := r.t.settleKernels }
    match (facetLimit r1).or (wholeCheck t r1.t r1.scalars r1.firs) with
    | some e => .error (rolled e.unit e.status)
    | none => .ok r1

/-- The units that a set touches. -/
def setUnits (r : SetRun) : List Nat :=
  (List.range 16).filter fun u => r.done.any fun c => match specOf c.op with | some sp => (sp.units c r.t).contains u | none => false

/-- Accept a set: its seeds, then its COMMIT entry. -/
def State.enterSet (s : State) (c : Cmd) (r : SetRun) (timed late : Bool) : State :=
  let b := unitBits (setUnits r)
  (s.draw r.seeds).enter (.commit c.ep c.sess c.seq c.txn c.tagged
    (r.done.map fun d => { seq := d.seq, op := d.op, payload := d.payload }) timed late
    { status := stOK, boundary := s.acceptAt, touched := b, succeeded := b })

/-- The first boundary at or after a time of L. -/
def firstBoundary (rate96 : Bool) (ns : Nat) : Nat :=
  let n := blockAt rate96 ns
  if boundaryUnits rate96 n ≥ 3 * ns then n else n + 1

/-- TXN_COMMIT, once its session, sequence number and length are good (R205, R208, R209). DEDUCED, log 32. -/
def State.txnCommit (s : State) (c : Cmd) : State :=
  let x := c.sess
  match (s.sess x).txn with
  | none => s.replyTo c (reject stTxnNone 1) []
  | some q =>
    let timed := c.at 20 8 ≠ 0 ∨ c.at 28 4 ≠ 0
    if q.id ≠ c.txn then s.replyTo c (reject stTxnNone 1) []
    else if timed ∧ (s.sess x).timed.length ≥ 4 then s.replyTo c (reject stTxnLimit 1) []
    else match firstBad [(c.badTime 20, 28), (tooFar s (c.time 20), 20)] with
      | some o => s.replyTo c (reject stBadParam 1 o) []
      | none =>
        let shut := s.setSess x fun t => { t with txn := none }
        let cs := q.cmds.map (stagedCmd c.ep x c.txn c.tagged)
        match runSet s.projected cs with
        | .error r => shut.replyTo c r []
        | .ok r =>
          if timed then
            let w : Timed :=
              { id := q.id, cmds := q.cmds, ns := c.time 20, seq := c.seq, late := decide (firstBoundary s.render.rate96 (c.time 20) < s.acceptAt) }
            (((shut.setSess x fun t => { t with timed := t.timed ++ [w] }).stageSess x)).replyTo c (reject stPending) []
          else if q.cmds.isEmpty then shut.replyTo c (reject stOK) []
          else shut.enterSet c r false false

/-! ### The cut-off (R17, R209, R396, R399) -/

/-- The final check of a pending timed commit. -/
def State.finalCheck (s : State) (x : Nat) (w : Timed) : State :=
  let t := s.sess x
  let c : Cmd := { ep := t.ep, sess := x, seq := w.seq, op := 0x0B01, txn := w.id, tagged := t.tagged, payload := [] }
  let s1 := s.setSess x fun t => { t with timed := t.timed.filter fun q => q.id ≠ w.id }
  match runSet s1.projected (w.cmds.map (stagedCmd t.ep x w.id t.tagged)) with
  | .error r => { s1 with delta := { s1.delta with rolled := s1.delta.rolled ++ [(x, w.id, r)] } }
  | .ok r => s1.enterSet c r true (w.late || decide (firstBoundary s.render.rate96 w.ns < s.acceptAt))

/-- Every pending commit whose boundary needs this cut-off is checked again. The spec does not order commits that share a cut-off
among themselves: here they go in ascending session, then in the order of commit. DESIGN CHOICE, log 203. -/
def State.finalChecks (s : State) : State :=
  let due := ((List.range 8).map fun x => ((s.sess x).timed.filter fun w =>
    decide (firstBoundary s.render.rate96 w.ns ≤ s.render.n + 1)).map fun w => (x, w)).flatten
  due.foldl (fun s e => s.finalCheck e.1 e.2) s

/-- Bytes of an entry: its header and its body, a payload above 4 KiB as a reference (R396, R398). PRESUMED, log 35. -/
def entrySize : Entry → Nat
  | .command _ _ _ _ _ _ pl _ _ => 8 + (if pl.length > 4096 then 32 else (pl.length + 24 + 7) / 8 * 8)
  | .position p => 8 + (p.length + 7) / 8 * 8
  | .exit cs => 8 + 8 * cs.length
  | _ => 64

/-- The entries that fit in a delta, from the front, and those that wait for the next. -/
def fitEntries : Nat → List Entry → List Entry × List Entry
  | _, [] => ([], [])
  | room, e :: es =>
    if entrySize e ≤ room then let r := fitEntries (room - entrySize e) es; (e :: r.1, r.2) else ([], e :: es)

/-- The boundary of a reply is that of the delta that carries it. -/
def entryAt (k : Nat) (e : Entry) : Entry :=
  let mark := fun (r : ReplyRec) => if r.boundary = 0 then r else { r with boundary := k }
  match e with
  | .command ep x q op txn tg pl r d => .command ep x q op txn tg pl (mark r) d
  | .commit ep x q txn tg cs t l r => .commit ep x q txn tg cs t l (mark r)
  | e => e

/-- What the active adds for its peer each cycle: exit Carats, with the stage 1 Carats while the peer verifies, and sessions. -/
def peerEntries (s : State) : List Entry :=
  if s.role ≠ 1 then []
  else
    let cs := if s.peerSync = 4 then s.pair.exits else s.pair.exits.filter fun e => e.1 / 2 ^ 28 == 4
    ((List.range 8).filter fun x => s.sess x != {}).map s.sessEntry ++ [.exit cs]

/-- PAIR_DELTA_SEQ and PAIR_DELTA_LEN of a delta that is sent or applied (Table PAIR-10). -/
def State.noteDelta (s : State) (c : Closed) : State :=
  (s.setReg (aPair + 0xC) (wordN c.seq)).setReg (aPair + 0x10) (wordN (48 + nsum (c.entries.map entrySize)))

/-- Ganen closes the cycle's delta. DEDUCED, log 38. -/
def State.closeDelta (s : State) : State :=
  let s1 := (List.range 16).foldl (fun s p => s.servo p) s.finalChecks
  let k := s.render.n + 1
  let f := fitEntries (2 ^ 18 - 48) (s1.delta.entries ++ peerEntries s1)
  let c : Closed := { boundary := k, seq := s.delta.seq, verify := s.role == 1 && s.peerSync == 4, entries := f.1.map (entryAt k) }
  let s2 := { s1 with
    delta := { s1.delta with
      entries := f.2, closed := some c, cutoff := true, acked := false, committed := false, seq := (s.delta.seq + 1) % 2 ^ 32 }
    integ := { s1.integ with lastClosed := k } }
  if s.role = 1 ∧ s.linkUp then (s2.noteDelta c).bezel (.delta c) else s2

/-- DELTA_CUTOFF. A standby closes none. -/
def execDeltaCutoff (s : State) : Host.Outcome State Fault Refusal :=
  .next (if s.render.run && s.serving && !s.standby && !s.delta.cutoff then s.closeDelta else s)

/-! ### The deadline (R202, R209, R400, R401) -/

/-- TXN_DONE. -/
def State.txnDone (s : State) (txn : Nat) (r : ReplyRec) (late : Bool) : State :=
  s.eventTxn 0x8B00 txn (beBytes 2 r.status ++ beBytes 2 r.unit ++ beBytes 2 r.reason ++ beBytes 2 (b2n late) ++ beBytes 8 r.boundary)

/-- Answer what a committed delta carries. -/
def State.answer (s : State) (e : Entry) : State :=
  match e with
  | .command ep x q op txn tg _ r d => s.reply ep x q op txn tg r d
  | .commit ep x q txn tg _ timed late r => if timed then s.txnDone txn r late else s.reply ep x q 0x0B01 txn tg r []
  | _ => s

/-- The delta is committed. -/
def State.commitDelta (s : State) (c : Closed) : State :=
  let s1 := { s with delta := { s.delta with committed := true, drops := 0 } }
  let s2 := if s.role = 1 ∧ s.linkUp then s1.bezel (.mark c.seq true) else s1
  c.entries.foldl State.answer s2

/-- A number no longer counts as received. -/
def State.forget (s : State) (x q : Nat) : State :=
  s.setSess x fun t =>
    let back := (t.h + 2 ^ 32 - q) % 2 ^ 32
    { t with seen := if back ≤ 63 && t.seen.testBit back then t.seen - 2 ^ back else t.seen, replies := t.replies.filter fun e => e.1 ≠ q }

/-- What a dropped delta's command or commit leaves behind: it is void, and its transaction stays open. -/
def State.void (s : State) (e : Entry) : State :=
  match e with
  | .command _ x q _ _ _ _ _ _ => s.forget x q
  | .commit _ x q txn _ cs timed _ _ =>
    if timed then s
    else (s.forget x q).setSess x fun t => { t with txn := some { id := txn, cmds := cs, bytes := nsum (cs.map fun g => g.payload.length) } }
  | _ => s

/-- The entry as it is entered again after a drop, if it is. DEDUCED, log 36. -/
def entryAgain : Entry → Option Entry
  | .commit ep x q txn tg cs true _ r => some (.commit ep x q txn tg cs true true r)
  | .command .. | .commit .. | .asrc .. | .asrcLock .. | .exit .. | .position .. | .session .. | .seed .. => none
  | e => some e

/-- The delta is dropped. -/
def State.dropDelta (s : State) (c : Closed) : State :=
  let n := s.delta.drops + 1
  let s1 := c.entries.foldl State.void (s.bezel (.mark c.seq false))
  let s2 := (((s1.raise (aPair + 8) 1).count (aPair + 0x98)).report { cls := 0x90, dev := false, detail := [wordN c.boundary, wordN (c.boundary / 2 ^ 32)] })
  let s3 := { s2 with
    delta := { s2.delta with entries := c.entries.filterMap entryAgain ++ s2.delta.entries, closed := some { c with entries := [] }, committed := true, drops := n }
    pair := { s2.pair with peerCold := s2.pair.peerCold || decide (n ≥ 2) } }
  if n = 2 then s3.peerState else s3

/-- The deadline of the delta in hand. -/
def State.deadline (s : State) : State :=
  match s.delta.closed with
  | none => s
  | some c =>
    if s.delta.committed then s
    else
      let s1 := if s.paired && !s.delta.acked then s.dropDelta c else s.commitDelta c
      let s2 := s1.delta.rolled.foldl (fun s e => s.txnDone e.2.1 e.2.2 false) s1
      { s2 with delta := { s2.delta with rolled := [] } }

/-- ACK_DEADLINE. -/
def execAckDeadline (s : State) : Host.Outcome State Fault Refusal := .next s.deadline

/-! ### Transfer (R398 to R400) -/

/-- RESEND_RX: the active sends the segments named again. -/
def execResendRx (segs : List Nat) (s : State) : Host.Outcome State Fault Refusal :=
  match s.delta.closed with
  | some c => .next (if s.role = 1 then s.bezel (.deltaAgain c segs) else s)
  | none => .next s

/-- ACK_RX. -/
def execAckRx (seq : Nat) (s : State) : Host.Outcome State Fault Refusal :=
  match s.delta.closed with
  | some c => .next (if s.role = 1 ∧ c.seq = seq ∧ !s.delta.committed then { s with delta := { s.delta with acked := true } } else s)
  | none => .next s

/-- A standby that takes deltas: past COLD, with its line released. -/
def takesDeltas (s : State) : Bool := s.pairEn && !s.pair.claim && decide (1 ≤ s.pair.sync)

/-- The whole of a delta whose segments are all in. -/
def wholeDelta (g : DeltaSeg) (segs : SMap (List Entry)) : Closed :=
  { boundary := g.boundary, seq := g.seq, verify := g.verify, entries := ((List.range g.total).map fun i => mget [] segs i).flatten }

/-- A verified delta is acknowledged once every staged object that it names is held. During IMAGE it is kept. DEDUCED, log 39. -/
def State.tryAck (s : State) (c : Closed) (names : List Nat) : State :=
  if names.all fun n => mhas s.pair.staged n then
    let s1 := { s with delta := { s.delta with held := some c, marked := false, rxSegs := [], rxNames := [], rxWhole := none } }
    s1.bezel (.ack c.seq)
  else { s with delta := { s.delta with rxWhole := some c } }

/-- DELTA_SEGMENT. -/
def execDeltaSegment (g : DeltaSeg) (s : State) : Host.Outcome State Fault Refusal :=
  if !takesDeltas s then .next s
  else if !g.good then .next (s.bezel (.resend [g.index]))
  else
    let old := if s.delta.rxSeq = g.seq then s.delta.rxSegs else []
    let names := if s.delta.rxSeq = g.seq then s.delta.rxNames else []
    let segs := mset old g.index g.entries
    let s1 := { s with delta := { s.delta with rxSeq := g.seq, rxSegs := segs, rxNames := names ++ g.names, rxWhole := none } }
    .next (if (List.range g.total).all fun i => mhas segs i then s1.tryAck (wholeDelta g segs) (names ++ g.names) else s1)

/-- MARK_RX. COMMIT lets the delta apply at its boundary; while the image is on its way it is kept (R408). What
was not acknowledged by then is discarded. -/
def execMarkRx (seq : Nat) (commit : Bool) (s : State) : Host.Outcome State Fault Refusal :=
  if !takesDeltas s then .next s
  else match s.delta.held with
    | some c =>
      if c.seq ≠ seq then .next s
      else if !commit then .next { s with delta := { s.delta with held := none, marked := false } }
      else if s.pair.sync = 1 then .next { s with delta := { s.delta with kept := s.delta.kept ++ [c], held := none, marked := false } }
      else .next { s with delta := { s.delta with marked := true } }
    | none => .next (if s.delta.rxSeq = seq then { s with delta := { s.delta with rxSegs := [], rxNames := [], rxWhole := none } } else s)

/-- A staged command, or a piece, reaches the standby as it reached the active. -/
def State.stagedRx (s : State) (x txn : Nat) (g : Staged) : State :=
  let t := s.sess x
  let c := stagedCmd t.ep x txn t.tagged g
  match specOf g.op with
  | none => s
  | some sp =>
    let (c', s1) := sp.accept c s
    if txn = 0 then s1
    else if t.txn.map (·.id) = some txn then (s1.stage c' c.plen).setSess x fun t => { t with ver := t.ver + 1 }
    else s1

/-- What a staged object says takes effect in a standby at once (R212, R474). -/
def State.takeStaged (s : State) (o : StagedObj) : State :=
  match o with
  | .bytes _ => s
  | .session x m => s.takeSession x m
  | .command x txn g => if s.standby then s.stagedRx x txn g else s

/-- The bytes of a staged object. -/
def stagedBytes : StagedObj → List Byte
  | .bytes b => b
  | .session .. => []
  | .command _ _ g => g.payload

/-- STAGING_RX: a staged object is held, and what it says takes effect; it may complete what a delta names. -/
def execStagingRx (num : Nat) (o : StagedObj) (s : State) : Host.Outcome State Fault Refusal :=
  if takesDeltas s then
    let s0 := s.takeStaged o
    let s1 := { s0 with pair := { s0.pair with staged := mset s0.pair.staged num (stagedBytes o) } }
    .next (match s1.delta.rxWhole with | some c => s1.tryAck c s1.delta.rxNames | none => s1)
  else .next s

/-- The first `n` entries of what the image carries for a fixed number of like things. -/
def held {α : Type} (n : Nat) (d : α) (l : List α) : List α := (List.range n).map fun i => nth d l i

/-- Take the image (R408): every parameter of every unit; histories stay this unit's own. DEDUCED, log 164. -/
def State.takeImage (s : State) (m : Image) : State :=
  let r := { m.render with blocks := s.render.blocks, playout := s.render.playout, n := s.render.n, run := s.render.run }
  let keep := s.regs.filter fun e => !(m.regs.any fun x => x.1 == e.1)
  { s with
    render := r, kcp := { s.kcp with sess := held 8 {} m.sess }
    loupe := { m.loupe with ins := held 16 {} m.loupe.ins, slots := held 64 none m.loupe.slots }
    time := { s.time with ptp := held 2 {} m.ptp, refs := held 6 {} m.refs, sel := m.sel }, facets := { s.facets with kernels := m.kernels }
    regs := m.regs.foldl (fun a e => mset a e.1 e.2) keep }

/-- The flows of an image are admitted here too: their groups are joined, and what differs restarts (R262, R271). -/
def State.takeFlows (s : State) (m : SMap Flow) : State :=
  let gone := (keys s.net.flows).filter fun f => !mhas m f
  m.foldl (fun s e => if s.flow e.1 = e.2 then s else s.setFlow e.1 e.2) (gone.foldl (fun s f => s.setFlow f ({} : Flow)) s)

/-- SYNC_IMAGE_COMPLETE: the image and the deltas kept since are applied, in order; carried state follows. -/
def execSyncImageComplete (image : Image) (s : State) : Host.Outcome State Fault Refusal :=
  if takesDeltas s && s.pair.sync == 1 then
    let s1 := (s.takeImage image).takeFlows image.flows
    let s2 := s1.delta.kept.foldl (fun s c => s.applyAll s.render.n c.entries) s1
    .next { s2 with delta := { s2.delta with kept := [] }, pair := { s2.pair with sync := 2, imageDone := true, records := 0 } }
  else .next s

/-! ### The boundary's part -/

/-- The delta of the cycle that ends takes effect; a standby that acknowledged one and has no COMMIT loses step (R20, R400, R402). -/
def State.applyDelta (s : State) : State :=
  let n := s.render.n
  let s1 := match s.delta.closed with
    | some c => c.entries.foldl State.applyEntry s
    | none => s
  let s2 := { s1 with delta := { s1.delta with closed := none, cutoff := false, acked := false, committed := false } }
  match s2.delta.held with
  | some c =>
    if c.boundary > n then s2
    else
      let s3 := { s2 with delta := { s2.delta with held := none, marked := false, seq := (c.seq + 1) % 2 ^ 32 } }
      if s2.delta.marked then (c.entries.foldl State.applyEntry s3).noteDelta c else s3.loseStep
  | none => s2

end Sys2Proof.Machine
end

