-- ==== Sys2Proof/Machine/Stages.lean ====
section
/-! DEFINITION. What the Facets do in a render cycle (R17 step 4, R81 to R85, R87 to R92, R95, R98, R100, R179, R365 to R368): the
object chains, the matrix and the feed chains of the channels that a Facet is named for, and the start of a user kernel's run. -/

namespace Sys2Proof.Machine

/-- Sixteen samples of silence. -/
def silence : List Int := List.replicate 16 0

/-- Whether `z` is an enabled zone. -/
def zoneOn (s : State) (z : Nat) : Bool := z != 0xFF && (s.zone z).enable

/-- Whether a crossfade takes an object out of a zone that is still enabled (R32, R98). -/
def fadesOut (s : State) (o : Nat) : Bool := let r := s.objRt o; r.xf.isSome && r.xfPan && zoneOn s r.oldZone

/-- Whether an object's chain runs: in an enabled zone, or while a crossfade takes it out of one (R36, R96, R98). -/
def objRuns (s : State) (o : Nat) : Bool := zoneOn s (s.obj o).zone || fadesOut s o

/-! ### Checks (R367, R368) -/

/-- A render Facet stopped or overran in the cycle that began at B(n): what it did not write is found under an older number.
DEDUCED, log 51. -/
def producerStopped (s : State) (n : Nat) : Bool := !s.facets.stopped.isEmpty || s.facets.ovr.any fun e => e.2.contains n

/-- A check of block `num` of a channel; `corrupt` says that its words changed in memory. -/
def State.verdict (s : State) (chan num : Nat) (corrupt : Bool) : Check :=
  if corrupt then .failed else checkBlk chan num (s.blk chan)

/-- The stored and the computed Carat of a failed check; what a corrupt block then holds is open. DESIGN CHOICE, log 52. -/
def State.caratWords (s : State) (chan num : Nat) (corrupt : Bool) : State × List Word :=
  if corrupt then let (k, s1) := s.fresh; (s1, [Config.freeWord k 0, Config.freeWord k 1])
  else match s.blk chan with
    | some b => (s, [b.carat, carat chan num (b.smp.map (BitVec.ofInt 32))])
    | none => (s, [0, carat chan num (List.replicate 16 0)])

/-- What a check found is recorded; `cyc` is the cycle in which the block was due. -/
def State.noteCheck (s : State) (v : Check) (cls inst : Nat) (unit : Option Nat) (chan num cyc : Nat) (corrupt : Bool) : State :=
  let second := match v with
    | .poisoned => true
    | _ => !corrupt && producerStopped s cyc && (match s.blk chan with | some b => decide (b.num < num) | none => true)
  if v = .good then s
  else
    let w := s.caratWords chan num corrupt
    w.1.report { cls := cls, dev := !second, inst := inst, unit := unit, flags := if second then 2 else 0, detail := w.2 }

/-- The samples of a checked block: `none` where the check fails. -/
def State.goodSamples (s : State) (v : Check) (chan : Nat) : Option (List Int) :=
  if v = .good then (s.blk chan).map (·.smp) else none

/-- Write a block of the cycle in hand. -/
def State.putBlk (s : State) (chan : Nat) (smp : List Int) : State :=
  { s with render := { s.render with blocks := mset s.render.blocks chan (mkBlk chan (s.render.n + 2) smp) } }

/-- Whether a channel's block of the cycle in hand stands written. -/
def written (s : State) (chan : Nat) : Bool := match s.blk chan with | some b => b.num == s.render.n + 2 | none => false

/-- Whether a channel is among those found corrupt. -/
def badChan (x : RunFacts) (chan : Nat) : Bool := x.corrupt.contains chan

/-! ### Object chains (R84, R85, R87, R88, R98) -/

/-- The signal of an input source: zeros, recorded once a cycle, where its block fails its check. -/
def State.inputSig (s : State) (x : RunFacts) (code : Nat) : State × List Int :=
  if code = 0 then (s, silence)
  else
    let c := chId 0 code
    let n := s.render.n
    let v := s.verdict c (n + 2) (badChan x c)
    match s.goodSamples v c with
    | some smp => (s, smp)
    | none =>
      if s.render.inBad.contains code then (s, silence)
      else
        let s1 := s.noteCheck v 0x50 code none c (n + 2) n (badChan x c)
        ({ s1 with render := { s1.render with inBad := code :: s1.render.inBad } }, silence)

/-- An object's gains or parameters are held for the block: recorded once a block (R85). DEDUCED, log 58. -/
def State.pavHold (s : State) (o : Nat) : State :=
  if s.render.pavHeld.contains o then s
  else
    let s1 := { s with render := { s.render with pavHeld := o :: s.render.pavHeld } }
    ((s1.raise (aPav + 4) 1).count (aPav + 0xA8)).report { cls := 0x53, dev := true, inst := o }

/-- The previous delay, with no slew and no jump, and the previous absorption (R85). -/
def ObjRt.heldParams (r : ObjRt) (b : Nat) : ObjRt :=
  let r' := match r.jump with
    | some j => if j.start = b then { r with jump := none, dPrev := j.oldD } else r
    | none => r
  { r' with dTgt := r'.dPrev, airA := r'.airPrev }

/-- Whether either side of an object's crossfade has a diffuse row (R73, R98). -/
def wideNow (q : Obj) (r : ObjRt) : Bool := (!q.dense && q.spread != 0) || !r.diffuse.isEmpty || !r.oldDiffuse.isEmpty

/-- Whether the chain needs samples that the Girdle prefetches from DRAM (R84). DEDUCED, log 57. -/
def needsPrefetch (r : ObjRt) : Bool := r.extOn && (r.dopOn || r.dopFade.isSome)

/-- EXT_LATE (R84). -/
def State.extLate (s : State) (o : Nat) : State :=
  ((s.raise (aPav + 4) 4).count (aPav + 0xA0)).report { cls := 0x54, dev := true, inst := o }

/-- A write of an object's line is lost: the line lies in DRAM, and DRAM has failed (R84). -/
def lineLost (s : State) (r : ObjRt) : Bool := r.extOn && s.mem.dramFailed

/-- An object of a disabled zone renders nothing, and its line is written all the same (R32, R81). DEDUCED, log 56. -/
def State.lineRun (x : RunFacts) (s : State) (i : Nat) : State :=
  if (s.obj i).zone = 0xFF then s
  else
    let sig := s.inputSig x (s.obj i).source
    (sig.1.modObjRt i fun r => lineOnly r (lineLost s r) sig.2).putBlk (chId 1 i) silence

/-- Pavilion's propagation parameters stand for block `b` under their check word (R85). -/
def parOk (s : State) (o b : Nat) : Bool := let r := s.objRt o; r.parChk == parCheck o b r

/-- The gain list of an object stands for block `b` under its check word (R85). -/
def listOk (s : State) (o b : Nat) : Bool := let r := s.objRt o; r.listChk == listCheck o b r

/-- The chain of one object. -/
def State.objRun (x : RunFacts) (s : State) (o : Fin 1024) : State :=
  let i := o.val
  let b := s.render.n + 2
  if written s (chId 1 i) then s
  else if !objRuns s i then s.lineRun x i
  else
    let s1 := if x.noParams.contains o || !parOk s i b then (s.pavHold i).modObjRt i fun r => r.heldParams b else s
    let new := s1.inputSig x (s1.obj i).source
    let both := match (s1.objRt i).oldSource with
      | some c => let old := new.1.inputSig x c; (old.1, mixSource (s1.objRt i).xf b old.2 new.2)
      | none => new
    let r := both.1.objRt i
    let late := needsPrefetch r && (x.late.contains o || s.mem.dramFailed)
    let s2 := if late then both.1.extLate i else both.1
    let out := objChain r b late (lineLost s r) (wideNow (s2.obj i) r) both.2
    let s3 := (s2.modObjRt i fun _ => out.1).putBlk (chId 1 i) out.2.1
    match out.2.2 with
    | some d => s3.putBlk (chId 2 i) d
    | none => s3

/-! ### The matrix (R85, R89, R90, R92, R95, R98) -/

/-- An object's rows as the matrix finds them. -/
structure RowSig where
  pre : List Int
  dir : List Int
  dif : List Int
  deriving DecidableEq, Repr

/-- Whether a route, where there is one, takes object `o` to one of the feeds. -/
def routeHits (fs : List Nat) (o : Nat) (q : Option Route) : Bool := match q with | some q => q.obj == o && fs.contains q.feed | none => false

/-- Whether an object reaches one of the feeds. -/
def objReaches (s : State) (fs : List Nat) (o : Nat) : Bool :=
  let r := s.objRt o
  (fs.any fun f => mhas r.direct f || mhas r.diffuse f || mhas r.oldDirect f || mhas r.oldDiffuse f) ||
    s.render.routes.any fun e => routeHits fs o e.2.cur || routeHits fs o e.2.old

/-- The gains of an object toward the feeds of a run are those of the last block, with no ramp (R85). -/
def State.holdList (fs : List Nat) (s : State) (o : Nat) : State :=
  if !objReaches s fs o then s
  else
    let hold := fun (e : Nat × GainSt) => if fs.contains e.1 then (e.1, { e.2 with tgtQ := e.2.prevQ }) else e
    (s.pavHold o).modObjRt o fun r =>
      let r1 := { r with direct := r.direct.map hold, diffuse := r.diffuse.map hold }
      { r1 with listChk := listCheck o (s.render.n + 2) r1 }

/-- Check an object's rows; a failed block contributes zeros. Tap PRE needs the object chain to have run. DEDUCED, log 59. -/
def State.rowSig (x : RunFacts) (a : State × SMap RowSig) (o : Nat) : State × SMap RowSig :=
  let s := a.1
  let n := s.render.n
  let r := s.objRt o
  let v1 := s.verdict (chId 1 o) (n + 2) (badChan x (chId 1 o))
  let s1 := s.noteCheck v1 0x51 o none (chId 1 o) (n + 2) n (badChan x (chId 1 o))
  let wide := wideNow (s.obj o) r
  let v2 := s1.verdict (chId 2 o) (n + 2) (badChan x (chId 2 o))
  let s2 := if wide then s1.noteCheck v2 0x51 o none (chId 2 o) (n + 2) n (badChan x (chId 2 o)) else s1
  let sig : RowSig :=
    { pre := if written s (chId 1 o) then r.pre else silence
      dir := (s.goodSamples v1 (chId 1 o)).getD silence
      dif := if wide then (s.goodSamples v2 (chId 2 o)).getD silence else silence }
  (s2, mset a.2 o sig)

/-- One side of a route at sample `k`: its gain under its weight, times the tap. A route of an object that is not in an enabled zone
sounds only while a crossfade takes the object out of one (R95). -/
def sideTerm (s : State) (sigs : SMap RowSig) (b f k : Nat) (q : Option Route) (g : Int) (w : ObjRt → Int) : Int :=
  match q with
  | none => 0
  | some q =>
    if q.feed ≠ f then 0
    else match mfind sigs q.obj with
      | none => 0
      | some x =>
        let r := s.objRt q.obj
        let w' := if zoneOn s (s.obj q.obj).zone then w r else if fadesOut s q.obj then (xfAt r.xf b k).1 else 0
        weigh w' g * nth 0 (if q.tap = 0 then x.pre else x.dir) k

/-- Both sides of a route. -/
def routeTerm (s : State) (sigs : SMap RowSig) (b f k : Nat) (t : RouteRt) : Int :=
  sideTerm s sigs b f k t.cur (ramp t.prevQ t.tgtQ k) (fun r => if t.fadingIn then (xfAt r.xf b k).2 else 0x40000000) +
  sideTerm s sigs b f k t.old (match t.old with | some q => heldGain (s.objRt q.obj) b k t.oldQ | none => 0) (fun r => (xfAt r.xf b k).1)

/-- Column `f` at sample `k`, and whether it saturates. -/
def columnAt (s : State) (sigs : SMap RowSig) (b f k : Nat) : Int × Bool :=
  columnOut ((sigs.map fun e => rowTerm (s.objRt e.1) b f k e.2.dir e.2.dif) ++
    s.render.routes.map fun e => routeTerm s sigs b f k e.2)

/-- The matrix over the columns of a run. -/
def State.matrixRun (x : RunFacts) (s : State) (fs : List Nat) : State :=
  let b := s.render.n + 2
  let due := fs.filter fun f => (s.feedRt f).on && !written s (chId 3 f)
  let broken := (keys s.render.objRt).filter fun o => x.noGains.any (·.val == o) || !listOk s o b
  let s1 := broken.foldl (State.holdList due) s
  let os := (keys s1.render.objRt).filter fun o => objRuns s1 o && objReaches s1 due o
  let r := os.foldl (State.rowSig x) (s1, [])
  let one := fun (s : State) (f : Nat) =>
    let c := (List.range 16).map fun k => columnAt r.1 r.2 b f k
    (if c.any (·.2) then s.count (kFeed f 0) else s).putBlk (chId 3 f) (c.map (·.1))
  due.foldl one r.1

/-! ### Feed chains (R92, R100, R475) -/

/-- The chain of one feed: the block after a disable takes no column. -/
def State.chainRun (x : RunFacts) (s : State) (f : Nat) : State :=
  let n := s.render.n
  let rt := s.feedRt f
  let c := chId 3 f
  if !(rt.on || rt.ringOut) || written s (chId 4 f) then s
  else
    let v := s.verdict c (n + 2) (badChan x c)
    let s1 := if rt.ringOut then s else s.noteCheck v 0x51 f none c (n + 2) n (badChan x c)
    let col := if rt.ringOut then some silence else s.goodSamples v c
    let r := feedChain f (s1.chain f) (s1.comp f).gain (inject s1 f (n + 2)) s1.fs rt (n + 2) (col.getD silence)
    let g := r.2.2.1
    let s2 := s1.modFeedRt f fun _ => { r.1 with caratSub := col.isNone }
    let s3 := ((s2.count (kFeed f 1) (b2n g.biqSat)).count (kFeed f 2) (b2n g.firSat)).count (kFeed f 3) (b2n g.limit)
    let trim := r.1.outTrimQ
    (s3.injectDone f (n + 2) r.2.2.2 (if rt.fresh then trim else rt.outTrimQ) trim).putBlk (chId 4 f) r.2.1

/-! ### FACET_RUN_START (R179, R181) -/

/-- A run starts at the Facet's entry bundle, with P4 to P7 and CAROUSEL cleared. -/
def State.startRun (s : State) (k : Nat) : State :=
  let c := (s.core k).clearBundle.drain
  let c1 := { c with
    run := true, blk := s.render.n + 2, cyc := 0, pc := wbits (s.reg (aFacet k)) 0 12, carousel := 0, loop := none, hot := false,
    full := 0, due := 0 }
  s.setCore k (c1.setPreds noPreds)

/-- Runs start at each boundary on this Facet (FACET_CTL.RUN). -/
def runsOn (s : State) (k : Nat) : Bool := wbit (s.reg (aFacet k)) 16

/-- A kernel's run starts; what its last run left stays readable meanwhile (SYS_KERNEL_READ). -/
def State.kernelStart (s : State) (k : Nat) : State :=
  match s.kernelOf k with
  | none => s
  | some (n, q) =>
    if !q.run || q.suspended || !runsOn s k then s
    else (s.startRun k).modKernel n fun q => { q with held := some (q.held.getD (kernelCells s q)) }

/-- A render run starts: its budget ends at its stage's deadline (R184). The time that it uses is within the budget, and the spec
does not give it. -/
def State.renderStart (s : State) (k : Nat) (w : Work) : State :=
  let start := (mget (0, 0) s.facets.live k).1
  let b := stageEnd s.render.rate96 w - start
  let (i, s1) := ((s.startRun k).setReg (aFacet k + 12) (wordN b)).fresh
  { s1 with facets := { s1.facets with
      live := mset s1.facets.live k (start, b), used := mset s1.facets.used k ((Config.freeWord i 0).toNat % (b + 1), false) } }

/-- FACET_RUN_START. DESIGN CHOICE, log 54. -/
def execFacetRunStart (k : Fin 64) (w : Work) (facts : RunFacts) (s : State) : Host.Outcome State Fault Refusal :=
  let renders := s.render.run && s.fst k.val == 2 && !mhas s.facets.stopped k.val && !s.integ.stopped && runsOn s k
  match w with
  | .kernel => .next (if s.render.run && s.fst k.val == 3 then s.kernelStart k.val else s)
  | .objects os => .next (if renders then os.foldl (State.objRun facts) (s.renderStart k.val w) else s)
  | .matrix fs => .next (if renders then (s.renderStart k.val w).matrixRun facts (fs.map (·.val)) else s)
  | .chains fs => .next (if renders then (fs.map (·.val)).foldl (State.chainRun facts) (s.renderStart k.val w) else s)

end Sys2Proof.Machine
end

