-- ==== Sys2Proof/Machine/Boundary.lean ====
section
/-! DEFINITION. The render boundary (R15 to R17): exit blocks leave, windows close, the delta takes effect, roles and feeds change,
Pavilion computes the block two ahead, and the units of a pair exchange what the opening of the cycle carries. -/

namespace Sys2Proof.Machine

/-! ### The cycle watchdog (R372) -/

/-- The delta of the cycle that ends, closed or not; a standby's cycle counts as closed. DEDUCED, log 50. -/
def State.watchdog (s : State) : State :=
  if !wbit (s.reg (aInteg + 8)) 1 || s.integ.restarting || s.integ.stopped then s
  else if s.delta.closed.isSome || s.standby then { s with integ := { s.integ with missed := 0 } }
  else if s.integ.missed + 1 ≥ 2 then s.stallRecord.controlFault
  else { s with integ := { s.integ with missed := s.integ.missed + 1 } }

/-! ### Exit (R22, R369, R373, R412) -/

/-- The transmitters that check a feed's block: 8 for a TDM slot, 6 for a transmit-flow channel (Table INTEG-7). DEDUCED, log 53. -/
def exitUnits (q : Feed) : List Nat :=
  (if q.dest.any fun d => d / 2 ^ 28 == 1 then [8] else []) ++ (if q.dest.any fun d => d / 2 ^ 28 == 2 then [6] else [])

/-- A held block: the last good sample, after 16 of them a ramp to zero, then zeros. -/
def FeedRt.hold (r : FeedRt) : FeedRt :=
  let n := min (r.heldBlocks + 1) 18
  { r with
    heldBlocks := n
    leaving := if n ≤ 16 then List.replicate 16 r.last else if n = 17 then block16 (rampN 16 r.last 0) else silence }

/-- A block of a unit that has stopped rendering: one held block, the ramp, zeros (R373). -/
def FeedRt.holdStopped (r : FeedRt) : FeedRt := ({ r with heldBlocks := if r.heldBlocks = 0 then 15 else max r.heldBlocks 16 } : FeedRt).hold

/-- Samples of the ramps of a cold takeover: 10 ms. -/
def coldSpan (s : State) : Nat := s.fs / 100

/-- The cold ramp to zero is in hand, so that the held value stands. DEDUCED, log 67. -/
def coldRamps (s : State) : Bool :=
  match s.pair.coldAt with
  | some c => s.pair.muted && s.pair.unmuteAt.isNone && decide (16 * (s.render.n - (c + 1)) < coldSpan s)
  | none => false

/-- The block that leaves, under a cold takeover's mute (R412). -/
def muteBlock (s : State) (r : FeedRt) : List Int :=
  if !s.pair.muted then r.leaving
  else match s.pair.unmuteAt with
    | some u =>
      if s.render.n < u then silence
      else block16 fun k =>
        let t := 16 * (s.render.n - u) + k
        if t + 1 ≥ coldSpan s then nth 0 r.leaving k else roundQ 27 (rampN (coldSpan s) 0 0x8000000 t * nth 0 r.leaving k)
    | none =>
      match s.pair.coldAt with
      | some c => block16 fun k =>
          let t := 16 * (s.render.n - (c + 1)) + k
          if t + 1 ≥ coldSpan s then 0 else rampN (coldSpan s) r.last 0 t
      | none => silence

/-- The block of a feed leaves: a good block as rendered, a failing one held. -/
def State.exitFeed (bad : List (Fin 1024)) (s : State) (f : Nat) : State :=
  let r := s.feedRt f
  let c := chId 4 f
  let n := s.render.n
  let corrupt := bad.any fun x => x.val == f
  let v := s.verdict c (n + 1) corrupt
  let stay := coldRamps s
  if !(r.on || r.ringOut) || (!s.anyZone && !s.integ.stopped) then
    s.modFeedRt f fun r => { r with leaving := silence, heldBlocks := 0, last := if stay then r.last else 0 }
  else if s.integ.stopped then s.modFeedRt f FeedRt.holdStopped
  else match s.goodSamples v c with
    | some x => s.modFeedRt f fun r => { r with leaving := x, heldBlocks := 0, last := if stay then r.last else nth 0 x 15 }
    | none =>
      let s1 := (exitUnits (s.feed f)).foldl (fun (s : State) u => s.noteCheck v 0x52 f (some u) c (n + 1) (n - 1) corrupt) s
      s1.modFeedRt f FeedRt.hold

/-- The mute of a cold takeover over one feed's block. -/
def State.muteFeed (s : State) (f : Nat) : State := s.modFeedRt f fun r => { r with leaving := muteBlock s r }

/-- An unmute ramp that has ended leaves the unit's own render. -/
def State.unmuted (s : State) : State :=
  match s.pair.unmuteAt with
  | some u =>
    if s.render.n ≥ u && decide (16 * (s.render.n - u) ≥ coldSpan s) then
      { s with pair := { s.pair with muted := false, unmuteAt := none, coldAt := none } }
    else s
  | none => s

/-- Every feed's block leaves, and the transmitters take it. DEDUCED, log 49. -/
def State.exits (s : State) (bad : List (Fin 1024)) : State :=
  let fs := keys s.render.feedRt
  let s1 := fs.foldl (State.exitFeed bad) s
  let s2 := if s1.pair.muted then fs.foldl State.muteFeed s1 else s1
  ((List.range 16).foldl State.portHand s2).netHand.unmuted

/-- Carats of stages 1 and 4 of the block that now leaves, for the peer (R411). -/
def exitCarats (s : State) : List (Nat × Word) :=
  if !s.pairEn then []
  else
    let mine := fun (e : Nat × Blk) => (e.1 / 2 ^ 28 == 1 || e.1 / 2 ^ 28 == 4) && e.2.num == s.render.n + 1
    (s.render.blocks.filter mine).map fun e => (e.1, e.2.carat)

/-! ### The window closes (R16, R17 step 1, R87, R88) -/

/-- Sources that assigned objects name, the old side of a crossfade among them. DEDUCED, log 65. -/
def inputCodes (s : State) : List Nat :=
  let own := (s.render.objs.filter fun e => e.2.zone ≠ 0xFF || (s.objRt e.1).xf.isSome).map (·.2.source)
  let old := s.render.objRt.filterMap fun e => e.2.oldSource
  ((own ++ old).filter (· ≠ 0)).eraseDups

/-- The input channel-block of a source, with its Carat. -/
def inputBlk (s : State) (code : Nat) : Blk :=
  let put := fun (x : List Int) =>
    let b := mkBlk (chId 0 code) (s.render.n + 2) x
    if s.render.cdcBad.contains (chId 0 code) then poison b else b
  let t := code / 2 ^ 14
  if t = 1 then
    let r := tdmBlock s (code / 32 % 16) (code % 32)
    if r.2 && !s.render.cdcBad.contains (chId 0 code) then poison (put r.1) else put r.1
  else if t = 2 then put (flowBlock s code)
  else if t = 3 then
    let n := code % 16
    put (if inRate96 (s.reg (aLin n)) == s.render.rate96 then ((s.lin n).out ++ silence).take 16 else silence)
  else put silence

/-- Blocks of the sources named that have none yet. -/
def State.addInputs (s : State) : State :=
  let put := fun (m : SMap Blk) (c : Nat) =>
    match mfind m (chId 0 c) with
    | some b => if b.num = s.render.n + 2 then m else mset m (chId 0 c) (inputBlk s c)
    | none => mset m (chId 0 c) (inputBlk s c)
  { s with render := { s.render with blocks := (inputCodes s).foldl put s.render.blocks } }

/-- Every window closes; blocks of cycles gone by are forgotten. -/
def State.closeWindows (s : State) (meas : List MeasLine) : State :=
  let s1 := (List.range 16).foldl State.portClose (s.measAll meas)
  let keep := fun (e : Nat × Blk) => e.1 / 2 ^ 28 != 0 && decide (e.2.num > s.render.n)
  ({ s1 with render := { s1.render with blocks := s1.render.blocks.filter keep, inBad := [], pavHeld := [] } }).addInputs

/-! ### What waited takes effect (R61, R81, R83, R99, R105) -/

/-- A waiting Doppler change, once its crossfade has ended (R83). DEDUCED, log 62. -/
def State.dopplerDue (s : State) (o : Nat) : State :=
  let r := s.objRt o
  match r.dopFade, r.dopWait with
  | none, some d => (s.modObjRt o fun q => { q with dopWait := none }).setDoppler o d
  | _, _ => s

/-- Changes that waited for a crossfade's end. -/
def State.waiters (s : State) : State :=
  let os := keys s.render.objRt
  let s1 := os.foldl (fun s o => (s.dopplerDue o).releaseWaiting o) s
  let s2 := ((keys s1.render.feedRt).filter fun f => (s1.feedRt f).dWait && (s1.feedRt f).dFade.isNone).foldl (fun s f => s.align f) s1
  (List.range 16).foldl (fun s z => s.switchDue z) s2

/-! ### Feeds (R475), direct writes (R115, R116), shedding (R41) -/

/-- A feed that is enabled starts from zero state; a disabled one rings out for one block. -/
def State.feedChange (s : State) (f : Nat) : State :=
  let q := s.feed f
  let r := s.feedRt f
  if q.enable && !r.on then
    s.modFeedRt f fun r => freshFeed r (s.chain f) (alignDelay (s.chain f).delay (s.comp f).delay)
  else if !q.enable && r.on then s.modFeedRt f fun r => { r with on := false, ringOut := true, fresh := false }
  else if r.ringOut then s.modFeedRt f fun r => { r with ringOut := false }
  else s

/-- Unit `u` of a filter is written whole: the head is unit 0. -/
def writeUnit (new : Fir) (u : Nat) (r : FeedRt) : FeedRt :=
  { r with fir := { r.fir with taps := (List.range new.len).map fun i => nth 0 (if i / 256 = u then new.taps else r.fir.taps) i } }

/-- The filter that a direct write gives a feed. -/
def Direct.fir (d : Direct) (f : Nat) : Fir := ((d.feeds.find? fun e => e.1 == f).map (·.2)).getD {}

/-- The units of a direct write that one boundary carries. DEDUCED, log 63. -/
def State.directBoundary (s : State) : State :=
  match s.render.direct with
  | none => s
  | some d =>
    let n := if s.render.rate96 then 256 else 512
    let rest := d.left.drop n
    let part := fun (f : Nat) => match rest with | (g, u) :: _ => f == g && u != 0 | [] => false
    let ended := fun (f : Nat) => !rest.any fun e => e.1 == f
    let s1 := (d.left.take n).foldl (fun s e => s.modFeedRt e.1 (writeUnit (d.fir e.1) e.2)) s
    let mark := fun (s : State) (e : Nat × Fir) => s.modFeedRt e.1 fun r =>
      { r with direct := part e.1, fir := if ended e.1 then { r.fir with entry := e.2.entry } else r.fir }
    let s2 := d.feeds.foldl mark s1
    if rest.isEmpty then
      ({ s2 with render := { s2.render with direct := none } }).event 0x8502 (beBytes 2 d.count ++ zeros 2)
    else { s2 with render := { s2.render with direct := some { d with left := rest } } }

/-- Put an object into the order of shedding: lowest priority first, among equals the highest index first. -/
def shedInsert (s : State) (o : Nat) : List Nat → List Nat
  | [] => [o]
  | x :: t =>
    if decide ((s.obj o).prio < (s.obj x).prio) || (decide ((s.obj o).prio = (s.obj x).prio) && decide (o > x)) then o :: x :: t
    else x :: shedInsert s o t

/-- Rendered objects in the order of shedding. -/
def shedOrder (s : State) : List Nat :=
  ((s.render.objs.filter fun e => zoneOn s e.2.zone && !(s.objRt e.1).shed).map (·.1)).foldl (fun l o => shedInsert s o l) []

/-- One object is muted under R41. -/
def State.shedOne (s : State) (o : Nat) : State :=
  ((s.modObjRt o fun r => { r with shed := true, shedAt := s.render.n + 2 }).report { cls := 0x42, dev := false, inst := o, detail := [wordN (s.obj o).prio] }).event
    0x8201 (beBytes 2 o ++ [BitVec.ofNat 8 (s.obj o).prio, 0])

/-- Objects are muted until the Facets that remain carry the load. DEDUCED, log 60. -/
def State.shedLoad (s : State) (n : Nat) : State := if renderShort s then ((shedOrder s).take n).foldl State.shedOne s else s

/-! ### Pavilion (R17 step 3, R63, R80, R85, R86) -/

/-- Pavilion's work on an object. DEDUCED, log 61. -/
def State.pavOne (s : State) (o : Nat) : State :=
  let q := s.obj o
  let b := s.render.n + 2
  if !zoneOn s q.zone then
    if mhas s.render.objRt o then s.modObjRt o fun r => ({ r with direct := [], diffuse := [], clamped := false }).stamp o b else s
  else
    let zn := s.zone q.zone
    let zr := s.zoneRt q.zone
    let r := pavObject zn zr (layoutPlace zn zr b) q (s.objRt o) s.render.rate96 b
    let g := r.2
    let s1 := (s.modObjRt o fun _ => r.1.stamp o b).count (aPav + 0x90) (b2n g.trunc)
    let s2 := (s1.count (aPav + 0x98) (b2n g.clamp)).count (kObj o 1) (b2n g.slew)
    if g.clampBegins then s2.event 0x8200 (beBytes 2 o ++ zeros 2) else s2

/-- A route's target for the block: from 0 where it has not contributed (R95). -/
def nextRoute (s : State) (t : RouteRt) : RouteRt :=
  match t.cur with
  | none => t
  | some q =>
    let o := s.obj q.obj
    let r := s.objRt q.obj
    if zoneOn s o.zone then { t with prevQ := t.tgtQ, tgtQ := if r.shed then 0 else routeGain o q }
    else if fadesOut s q.obj then { t with prevQ := t.tgtQ }
    else { t with prevQ := 0, tgtQ := 0 }

/-- Pavilion computes the block two ahead; the time it takes is not the spec's to give. -/
def State.pavilion (s : State) : State :=
  let s1 := (keys s.render.objs).foldl State.pavOne s
  let next := fun (e : Nat × RouteRt) => (e.1, nextRoute s1 e.2)
  let s2 := { s1 with render := { s1.render with routes := s1.render.routes.map next } }
  let (k, s3) := s2.fresh
  s3.putReg aPav 16 8 ((Config.freeWord k 0).toNat % 256)

/-! ### L's step (R296) and the image (R408) -/

/-- A step of L renumbers the blocks, which its epoch counts, and ports clocked from L realign. DEDUCED, log 64. -/
def State.stepNow (s : State) : State :=
  let t := s.stepL
  if t.time.l = s.time.l then t
  else ({ t with render := { t.render with n := blockAt t.render.rate96 t.lNs } }).realign

/-- The active stages its image for a peer in IMAGE. -/
def State.imageSend (s : State) : State :=
  if s.role = 1 ∧ s.peerSync = 1 then
    if s.pair.imageDone then s
    else ({ s with pair := { s.pair with imageDone := true, imageBoundary := s.render.n } }).bezel (.staging 3 0)
  else if s.role = 1 then { s with pair := { s.pair with imageDone := false } } else s

/-! ### RENDER_BOUNDARY -/

/-- What Ganen does at a boundary, unless it restarts (R373). -/
def State.ganenBoundary (s : State) (shed : Nat) : State :=
  let s1 := s.waiters.applyDelta.reqBoundary
  let s2 := (s1.handoverBoundary.stepNow).loupeTakenOver.loupeBoundary
  (List.range 16).foldl (fun s z => s.solveAsked z) (s2.facetBoundary.shedLoad shed).directBoundary

/-- The boundary B(n). -/
def State.boundary (s : State) (x : BoundaryFacts) : State :=
  let s0 := s.deadline.watchdog
  let s1 := { s0 with render := { s0.render with n := s0.render.n + 1 } }
  let s2 := (s1.exits x.badExits)
  let ex := exitCarats s2
  let s3 := s2.closeWindows x.meas
  if s3.integ.stopped then s3.netClose
  else
    let s4 := if s3.integ.restarting then s3 else s3.ganenBoundary x.shed
    let s5 := { s4 with pair := { s4.pair with exits := ex } }
    let s6 := (keys s5.render.feeds).foldl State.feedChange s5
    let s7 := s6.addInputs
    let s8 := ({ s7 with render := { s7.render with cdcBad := [] } }.netClose).pavilion.pmuBoundary
    s8.reconSend.carrySend.imageSend

/-- RENDER_BOUNDARY: nothing while the render does not run. DEDUCED, log 19. -/
def execRenderBoundary (x : BoundaryFacts) (s : State) : Host.Outcome State Fault Refusal := .next (if s.render.run then s.boundary x else s)

end Sys2Proof.Machine
end

