-- ==== Sys2Proof/Machine/KcpExec.lean ====
section
/-! DEFINITION. Each KCP opcode as Ganen handles its packet: the checks of Table KCP-3 in their order, then staging, the immediate
reply, or acceptance (R193 to R209, R435). One meaning per opcode. -/

namespace Sys2Proof.Machine

/-- The packet leaves its transport's queue. -/
def State.takeRx (s : State) (e : Endpoint) : State :=
  match s.kcp.rx.find? fun x => x.1 == e with
  | some x => { s with kcp := { s.kcp with rx := s.kcp.rx.erase x } }
  | none => s

/-- The packet as a command. -/
def toCmd (op : Nat) (p : Packet) : Cmd :=
  { ep := p.ep, sess := p.session.toNat, seq := p.seq.toNat, op := op, txn := p.txn.toNat, tagged := hasAuth p && isUdp p.ep,
    payload := p.payload, otpFault := p.otpFault }

/-- Handled at once (R202, R474): its rules are tested on the state as it stands, and its reply has no boundary of a delta. -/
def State.runNow (s : State) (sp : OpSpec) (c : Cmd) : State :=
  match sp.busy c s with
  | some r => s.replyTo c r []
  | none =>
    let r := sp.run c s
    let s1 := r.1.replyTo c r.2.1 r.2.2
    if r.2.1.status = stOK then sp.after c s1 else s1

/-- A fault of Ganen while it handles a command (R375). -/
def State.internal (s : State) (c : Cmd) : State :=
  (s.report { cls := 0x12, dev := false, inst := c.sess, detail := [wordN c.op] }).replyTo c (reject stInternal 1) []

/-- The state as the open transaction's commands would leave it: what the parameters of a further one are tested on. DEDUCED,
log 33. -/
def State.withStaged (t : State) (c : Cmd) : State :=
  match (t.sess c.sess).txn with
  | some q => q.cmds.foldl (fun t g => t.applyCmd (stagedCmd c.ep c.sess c.txn c.tagged g) []) t
  | none => t

/-- A command joins its session's open transaction (R206); the peer holds it before the reply (R212). -/
def State.stageCmd (s : State) (sp : OpSpec) (c : Cmd) : State :=
  let s1 := if s.paired then
      (s.setSess c.sess fun t => { t with ver := t.ver + 1 }).bezel
        (.staged (.command c.sess c.txn { seq := c.seq, op := c.op, payload := c.payload }))
    else s
  let (c', s2) := sp.accept c s1
  s2.stage c' c.plen

/-- Checks 9 to 13 of a known opcode. DEDUCED, log 25. -/
def State.checked (s : State) (sp : OpSpec) (c : Cmd) : State :=
  if !sp.len c then s.replyTo c (reject stBadLength 1) []
  else match notAllowed sp c s with
    | some st => s.replyTo c (reject st 1) []
    | none =>
      if s.handingOver && !sp.standby then s.replyTo c (reject stNotActive 1) []
      else match txnCheck sp c s with
        | some st => s.replyTo c (reject st 1) []
        | none =>
          let staged := c.txn ≠ 0 && !sp.ownTxn
          let t := if staged then s.projected.withStaged c else if sp.atOnce c s then s else s.projected
          match sp.param c t with
          | some o => (sp.spoil c s).replyTo c (reject stBadParam (((sp.units c t).head?).getD 1) o) []
          | none =>
            if staged then (s.stageCmd sp c).replyTo c (reject stStaged) []
            else if sp.atOnce c s then s.runNow sp c
            else s.acceptCmd sp c

/-- SYS_SESSION_OPEN and SYS_SEQ_QUERY are exempt from check 6 (R196). DEDUCED, log 31. -/
def exempt (op : Nat) : Bool := op == 1 || op == 3

/-- Check 7 is not made of a SYS_SEQ_QUERY, nor of an open without a tag (R197). -/
def noSeqCheck (c : Cmd) : Bool := c.op == 3 || (c.op == 1 && !c.tagged)

/-- A stale number, or a duplicate with its answer (R198). DEDUCED, log 24. -/
def State.staleOrDup (s : State) (c : Cmd) (dup : Bool) : State :=
  if !dup then ((s.count (kDev 3)).count (kSess c.sess 0)).replyTo c (reject stStale 1) []
  else
    let s1 := (s.count (kDev 4)).count (kSess c.sess 1)
    match (s.sess c.sess).replies.find? fun e => e.1 == c.seq with
    | some (_, some r) =>
      s1.deliver { ep := c.ep, session := c.sess, seq := c.seq, op := c.op, txn := c.txn, tagged := c.tagged, body := .reply r true [] }
    | _ => s1

/-- Checks 6 and 7, and what follows them. -/
def State.inSession (s : State) (c : Cmd) (k : State → State) : State :=
  if !exempt c.op && !s.bound c.sess c.ep then s.turnAway c stNoSession
  else if c.sess ≥ 8 then s.sendReply c.ep c.sess c.seq c.op c.txn c.tagged (reject stBadParam 1 12) []
  else if noSeqCheck c then k s
  else
    let t := s.sess c.sess
    match (seqTest t.h t.seen c.seq).1 with
    | .stale => s.staleOrDup c false
    | .dup => s.staleOrDup c true
    | .new =>
      let s1 := s.takeSeq c.sess c.seq
      k (if s1.bound c.sess c.ep then s1.setSess c.sess fun t => { t with tagged := c.tagged } else s1)

/-- Checks 1 to 3: a packet that fails one is dropped and counted. -/
def dropped (s : State) (op : Nat) (p : Packet) : Option Nat :=
  if badFrame s p then some 0 else if badCarat op p then some 1 else if badTag s op p then some 2 else none

/-- Checks 4 and 5. -/
def headerStatus (p : Packet) : Option Nat :=
  if p.version ≠ 1 then some stBadVersion else if badHeader p then some stBadHeader else none

/-- A packet with opcode `op` as Ganen takes it: checks 1 to 5; `k` handles what follows check 7. -/
def handle (op : Nat) (p : Packet) (k : Cmd → State → State) (s : State) : State :=
  let s0 := s.takeRx p.ep
  let s1 := { s0 with kcp := { s0.kcp with lastServed := p.session.toNat } }
  let c := toCmd op p
  match dropped s1 op p with
  | some i => s1.count (kDev i)
  | none =>
    match headerStatus p with
    | some st => s1.turnAway c st
    | none => s1.inSession c fun s => if p.ganenFault then s.internal c else k c s

/-! ### Whose turn it is (R199). DEDUCED, log 48 -/

/-- How far a packet's session stands from the one that follows the session served last. -/
def turnOf (last : Nat) (b : List Byte) : Nat := ((nth 0 b 12).toNat + 7 - last % 8) % 8

/-- The oldest packet of each endpoint. -/
def fronts : List (Endpoint × List Byte) → List (Endpoint × List Byte) → List (Endpoint × List Byte)
  | _, [] => []
  | seen, x :: t => if seen.any fun y => y.1 == x.1 then fronts seen t else x :: fronts (x :: seen) t

/-- The packet whose turn it is among those that wait. -/
def dueOf (last : Nat) (rx : List (Endpoint × List Byte)) : Option (Endpoint × List Byte) :=
  let l := fronts [] rx
  l.find? fun x => l.all fun y => turnOf last x.2 ≤ turnOf last y.2

/-- The packet as its bytes spell it. -/
def bare (p : Packet) : Packet := { p with ganenFault := false, otpFault := false }

/-- Whether an entry is the packet in hand. -/
def isPacket (op : Nat) (p : Packet) (x : Endpoint × List Byte) : Bool :=
  x.1 == p.ep && (parsePacket x.1 x.2 == some (op, bare p) || x.2 == wire op p)

/-- Packets that wait, the one in hand among them: it arrives now where it does not wait already. -/
def arrived (op : Nat) (p : Packet) (s : State) : List (Endpoint × List Byte) :=
  if s.kcp.rx.any (isPacket op p) then s.kcp.rx else s.kcp.rx ++ [(p.ep, wire op p)]

/-- Whether the packet in hand is the one whose turn it is. -/
def inTurn (op : Nat) (p : Packet) (s : State) : Bool :=
  match dueOf s.kcp.lastServed (arrived op p s) with | some x => isPacket op p x | none => false

/-- A datagram reaches Ganen from the management ports, and from a media port where NETPORT_KCP enables it (R219). -/
def listens (s : State) (e : Endpoint) : Bool := match e with | .udp k _ _ => wbit (s.reg (aNet k.val + 0x28)) 16 | _ => true

/-- Opcodes of the table of commands: those of Table CMD-1, and the boot subset's. -/
def hasRow (op : Nat) : Bool := (specOf op).isSome || op == 0x0B01 || (0x0010 ≤ op && op ≤ 0x0012)

/-- The packet due that no row handles: it is too short to be one, or its opcode is absent from Table CMD-1. -/
def State.strayDue (s : State) : Option (Endpoint × List Byte) :=
  match dueOf s.kcp.lastServed s.kcp.rx with
  | none => none
  | some x => match parsePacket x.1 x.2 with
    | none => some x
    | some (op, _) => if hasRow op then none else some x

/-- Such a packet as Ganen takes it (R193, R227). -/
def State.serveStray (s : State) (x : Endpoint × List Byte) : State :=
  match parsePacket x.1 x.2 with
  | none => (s.takeRx x.1).count (kDev 0)
  | some (op, p) => handle op p (fun c s => s.replyTo c (reject stUnknown 1) []) s

/-- The packets due that no row handles, one after the other. -/
def State.serveStrays : Nat → State → State
  | 0, s => s
  | n + 1, s => match s.strayDue with | some x => State.serveStrays n (s.serveStray x) | none => s

/-- A packet that waits for its turn. -/
def State.waits (s : State) (op : Nat) (p : Packet) : State := { s with kcp := { s.kcp with rx := arrived op p s } }

/-- A packet in its turn is handled; another waits in its transport. -/
def served (op : Nat) (p : Packet) (k : Cmd → State → State) (s : State) : State :=
  if !s.serving then (if s.integ.restarting then s.waits op p else s)
  else if !listens s p.ep then s
  else
    let s1 := State.serveStrays s.kcp.rx.length s
    if inTurn op p s1 then handle op p k s1 else s1.waits op p

/-- An opcode of Table CMD-1. -/
def kcpOp (op : Nat) (sp : OpSpec) (p : Packet) (s : State) : State := served op p (fun c s => s.checked sp c) s

/-- The boot ROM serves its subset on the SPI slave and on PCIe ring pair 0, without sessions (R435). -/
def bootServes (s : State) (e : Endpoint) : Bool := s.boot.phase == .recovery && (isSpi e || e == .pcie 0)

/-- An opcode of the boot subset, as the boot ROM handles it. -/
def bootOp (op : Nat) (sp : OpSpec) (p : Packet) (s : State) : State :=
  let s1 := s.takeRx p.ep
  let c := toCmd op p
  if badFrame s1 p || badCarat op p then s1
  else match headerStatus p with
    | some st => s1.replyTo c (reject st 1) []
    | none =>
      if !sp.len c then s1.replyTo c (reject stBadLength 1) []
      else match sp.param c s1 with
        | some o => s1.replyTo c (reject stBadParam 1 o) []
        | none => s1.runNow sp c

/-- An opcode that only the boot ROM answers: under Ganen it is unknown. -/
def romOp (op : Nat) (sp : OpSpec) (p : Packet) (s : State) : State :=
  if bootServes s p.ep then bootOp op sp p s
  else served op p (fun c s => s.replyTo c (reject stUnknown 1) []) s

/-! ### One meaning per opcode -/

/-- SYS_INFO: the boot subset holds it too. -/
def execSysInfo (p : Packet) (s : State) : Host.Outcome State Fault Refusal :=
  .next (if bootServes s p.ep then bootOp 0x0000 specSysInfo p s else kcpOp 0x0000 specSysInfo p s)

/-- BOOT_STATUS. -/
def execBootStatus (p : Packet) (s : State) : Host.Outcome State Fault Refusal := .next (romOp 0x0010 specBootStatus p s)
/-- BOOT_WRITE. -/
def execBootWrite (p : Packet) (s : State) : Host.Outcome State Fault Refusal := .next (romOp 0x0011 specBootWrite p s)
/-- BOOT_START. -/
def execBootStart (p : Packet) (s : State) : Host.Outcome State Fault Refusal := .next (romOp 0x0012 specBootStart p s)

/-- TXN_COMMIT: an active alone takes it. -/
def execTxnCommit (p : Packet) (s : State) : Host.Outcome State Fault Refusal :=
  let k := fun (c : Cmd) (s : State) =>
    if c.plen ≠ 12 then s.replyTo c (reject stBadLength 1) []
    else if isSpi c.ep then s.replyTo c (reject stNotPermitted 1) []
    else if s.standby || s.handingOver then s.replyTo c (reject stNotActive 1) []
    else s.txnCommit c
  .next (served 0x0B01 p k s)

/-- DIAG_REG_WRITE: a 1 in a reserved field of a register that it would write has no defined effect (R13). -/
def execDiagRegWrite (p : Packet) (s : State) : Host.Outcome State Fault Refusal :=
  let c := toCmd 0x0F03 p
  let s1 := State.serveStrays s.kcp.rx.length s
  let runs := s.serving && listens s p.ep && inTurn 0x0F03 p s1 && (dropped s1 0x0F03 p).isNone && (headerStatus p).isNone &&
    s1.bound c.sess c.ep && decide (c.sess < 8) && (seqTest (s1.sess c.sess).h (s1.sess c.sess).seen c.seq).1 == .new &&
    !p.ganenFault && specRegWrite.len c && windowOpen s1 && c.txn == 0 && (regParam c).isNone
  if runs && regReserved c s1 then .fault .reservedField else .next (kcpOp 0x0F03 specRegWrite p s)

/-- SYS_SESSION_OPEN. -/
def execSysSessionOpen (p : Packet) (s : State) : Host.Outcome State Fault Refusal := .next (kcpOp 0x0001 specSessionOpen p s)
/-- SYS_SESSION_CLOSE. -/
def execSysSessionClose (p : Packet) (s : State) : Host.Outcome State Fault Refusal := .next (kcpOp 0x0002 specSessionClose p s)
/-- SYS_SEQ_QUERY. -/
def execSysSeqQuery (p : Packet) (s : State) : Host.Outcome State Fault Refusal := .next (kcpOp 0x0003 specSeqQuery p s)
/-- SYS_EVENT_MASK. -/
def execSysEventMask (p : Packet) (s : State) : Host.Outcome State Fault Refusal := .next (kcpOp 0x0004 specEventMask p s)
/-- SYS_KEY_SET. -/
def execSysKeySet (p : Packet) (s : State) : Host.Outcome State Fault Refusal := .next (kcpOp 0x0005 specKeySet p s)
/-- SYS_RENDER_RATE. -/
def execSysRenderRate (p : Packet) (s : State) : Host.Outcome State Fault Refusal := .next (kcpOp 0x0006 specRenderRate p s)
/-- SYS_STATUS. -/
def execSysStatus (p : Packet) (s : State) : Host.Outcome State Fault Refusal := .next (kcpOp 0x0007 specSysStatus p s)
/-- SYS_KERNEL_LOAD. -/
def execSysKernelLoad (p : Packet) (s : State) : Host.Outcome State Fault Refusal := .next (kcpOp 0x0008 specSysKernelLoad p s)
/-- SYS_KERNEL_RUN. -/
def execSysKernelRun (p : Packet) (s : State) : Host.Outcome State Fault Refusal := .next (kcpOp 0x0009 specSysKernelRun p s)
/-- SYS_KERNEL_UNLOAD. -/
def execSysKernelUnload (p : Packet) (s : State) : Host.Outcome State Fault Refusal := .next (kcpOp 0x000A specSysKernelUnload p s)
/-- SYS_KERNEL_READ. -/
def execSysKernelRead (p : Packet) (s : State) : Host.Outcome State Fault Refusal := .next (kcpOp 0x000B specSysKernelRead p s)
/-- ZONE_SET. -/
def execZoneSet (p : Packet) (s : State) : Host.Outcome State Fault Refusal := .next (kcpOp 0x0100 specZoneSet p s)
/-- ZONE_EXCL_SET. -/
def execZoneExclSet (p : Packet) (s : State) : Host.Outcome State Fault Refusal := .next (kcpOp 0x0101 specZoneExclSet p s)
/-- ZONE_READ. -/
def execZoneRead (p : Packet) (s : State) : Host.Outcome State Fault Refusal := .next (kcpOp 0x0102 specZoneRead p s)
/-- FEED_SET. -/
def execFeedSet (p : Packet) (s : State) : Host.Outcome State Fault Refusal := .next (kcpOp 0x0103 specFeedSet p s)
/-- FEED_READ. -/
def execFeedRead (p : Packet) (s : State) : Host.Outcome State Fault Refusal := .next (kcpOp 0x0104 specFeedRead p s)
/-- FEED_WITHDRAW. -/
def execFeedWithdraw (p : Packet) (s : State) : Host.Outcome State Fault Refusal := .next (kcpOp 0x0105 specFeedWithdraw p s)
/-- FEED_RESTORE. -/
def execFeedRestore (p : Packet) (s : State) : Host.Outcome State Fault Refusal := .next (kcpOp 0x0106 specFeedRestore p s)
/-- LAYOUT_STATUS. -/
def execLayoutStatus (p : Packet) (s : State) : Host.Outcome State Fault Refusal := .next (kcpOp 0x0107 specLayoutStatus p s)
/-- LAYOUT_RESOLVE. -/
def execLayoutResolve (p : Packet) (s : State) : Host.Outcome State Fault Refusal := .next (kcpOp 0x0108 specLayoutResolve p s)
/-- OBJECT_SET. -/
def execObjectSet (p : Packet) (s : State) : Host.Outcome State Fault Refusal := .next (kcpOp 0x0200 specObjectSet p s)
/-- OBJECT_POS_BULK. -/
def execObjectPosBulk (p : Packet) (s : State) : Host.Outcome State Fault Refusal := .next (kcpOp 0x0201 specObjectPosBulk p s)
/-- OBJECT_READ. -/
def execObjectRead (p : Packet) (s : State) : Host.Outcome State Fault Refusal := .next (kcpOp 0x0202 specObjectRead p s)
/-- OBJECT_RESTORE. -/
def execObjectRestore (p : Packet) (s : State) : Host.Outcome State Fault Refusal := .next (kcpOp 0x0203 specObjectRestore p s)
/-- ROUTE_SET. -/
def execRouteSet (p : Packet) (s : State) : Host.Outcome State Fault Refusal := .next (kcpOp 0x0300 specRouteSet p s)
/-- ROUTE_DELETE. -/
def execRouteDelete (p : Packet) (s : State) : Host.Outcome State Fault Refusal := .next (kcpOp 0x0301 specRouteDelete p s)
/-- ROUTE_READ. -/
def execRouteRead (p : Packet) (s : State) : Host.Outcome State Fault Refusal := .next (kcpOp 0x0302 specRouteRead p s)
/-- MATRIX_STATUS. -/
def execMatrixStatus (p : Packet) (s : State) : Host.Outcome State Fault Refusal := .next (kcpOp 0x0303 specMatrixStatus p s)
/-- CHAIN_SET. -/
def execChainSet (p : Packet) (s : State) : Host.Outcome State Fault Refusal := .next (kcpOp 0x0400 specChainSet p s)
/-- BIQUAD_SET. -/
def execBiquadSet (p : Packet) (s : State) : Host.Outcome State Fault Refusal := .next (kcpOp 0x0401 specBiquadSet p s)
/-- CHAIN_READ. -/
def execChainRead (p : Packet) (s : State) : Host.Outcome State Fault Refusal := .next (kcpOp 0x0402 specChainRead p s)
/-- FEED_STATUS. -/
def execFeedStatus (p : Packet) (s : State) : Host.Outcome State Fault Refusal := .next (kcpOp 0x0403 specFeedStatus p s)
/-- FILTER_LIB_WRITE. -/
def execFilterLibWrite (p : Packet) (s : State) : Host.Outcome State Fault Refusal := .next (kcpOp 0x0500 specFilterLibWrite p s)
/-- FILTER_LIB_FREE. -/
def execFilterLibFree (p : Packet) (s : State) : Host.Outcome State Fault Refusal := .next (kcpOp 0x0501 specFilterLibFree p s)
/-- FILTER_STAGE. -/
def execFilterStage (p : Packet) (s : State) : Host.Outcome State Fault Refusal := .next (kcpOp 0x0502 specFilterStage p s)
/-- FILTER_SWAP. -/
def execFilterSwap (p : Packet) (s : State) : Host.Outcome State Fault Refusal := .next (kcpOp 0x0503 specFilterSwap p s)
/-- FILTER_DISCARD. -/
def execFilterDiscard (p : Packet) (s : State) : Host.Outcome State Fault Refusal := .next (kcpOp 0x0504 specFilterDiscard p s)
/-- FILTER_DIRECT. -/
def execFilterDirect (p : Packet) (s : State) : Host.Outcome State Fault Refusal := .next (kcpOp 0x0505 specFilterDirect p s)
/-- FILTER_AB. -/
def execFilterAb (p : Packet) (s : State) : Host.Outcome State Fault Refusal := .next (kcpOp 0x0506 specFilterAb p s)
/-- FILTER_READ. -/
def execFilterRead (p : Packet) (s : State) : Host.Outcome State Fault Refusal := .next (kcpOp 0x0507 specFilterRead p s)
/-- LOUPE_ZONE_SET. -/
def execLoupeZoneSet (p : Packet) (s : State) : Host.Outcome State Fault Refusal := .next (kcpOp 0x0600 specLoupeZoneSet p s)
/-- LOUPE_INPUT_SET. -/
def execLoupeInputSet (p : Packet) (s : State) : Host.Outcome State Fault Refusal := .next (kcpOp 0x0601 specLoupeInputSet p s)
/-- LOUPE_SYNC. -/
def execLoupeSync (p : Packet) (s : State) : Host.Outcome State Fault Refusal := .next (kcpOp 0x0602 specLoupeSync p s)
/-- LOUPE_JOB_START. -/
def execLoupeJobStart (p : Packet) (s : State) : Host.Outcome State Fault Refusal := .next (kcpOp 0x0603 specLoupeJobStart p s)
/-- LOUPE_JOB_ABORT. -/
def execLoupeJobAbort (p : Packet) (s : State) : Host.Outcome State Fault Refusal := .next (kcpOp 0x0604 specLoupeJobAbort p s)
/-- LOUPE_LEARN. -/
def execLoupeLearn (p : Packet) (s : State) : Host.Outcome State Fault Refusal := .next (kcpOp 0x0605 specLoupeLearn p s)
/-- LOUPE_VETO. -/
def execLoupeVeto (p : Packet) (s : State) : Host.Outcome State Fault Refusal := .next (kcpOp 0x0606 specLoupeVeto p s)
/-- LOUPE_COMP_CLEAR. -/
def execLoupeCompClear (p : Packet) (s : State) : Host.Outcome State Fault Refusal := .next (kcpOp 0x0607 specLoupeCompClear p s)
/-- LOUPE_AUDIT_READ. -/
def execLoupeAuditRead (p : Packet) (s : State) : Host.Outcome State Fault Refusal := .next (kcpOp 0x0608 specLoupeAuditRead p s)
/-- LOUPE_JOB_READ. -/
def execLoupeJobRead (p : Packet) (s : State) : Host.Outcome State Fault Refusal := .next (kcpOp 0x0609 specLoupeJobRead p s)
/-- LOUPE_DERIVE. -/
def execLoupeDerive (p : Packet) (s : State) : Host.Outcome State Fault Refusal := .next (kcpOp 0x060A specLoupeDerive p s)
/-- NETPORT_SET. -/
def execNetportSet (p : Packet) (s : State) : Host.Outcome State Fault Refusal := .next (kcpOp 0x0700 specNetportSet p s)
/-- FLOW_SET. -/
def execFlowSet (p : Packet) (s : State) : Host.Outcome State Fault Refusal := .next (kcpOp 0x0701 specFlowSet p s)
/-- FLOW_DELETE. -/
def execFlowDelete (p : Packet) (s : State) : Host.Outcome State Fault Refusal := .next (kcpOp 0x0702 specFlowDelete p s)
/-- FLOW_READ. -/
def execFlowRead (p : Packet) (s : State) : Host.Outcome State Fault Refusal := .next (kcpOp 0x0703 specFlowRead p s)
/-- NETPORT_READ. -/
def execNetportRead (p : Packet) (s : State) : Host.Outcome State Fault Refusal := .next (kcpOp 0x0704 specNetportRead p s)
/-- NET_KCP_SET. -/
def execNetKcpSet (p : Packet) (s : State) : Host.Outcome State Fault Refusal := .next (kcpOp 0x0705 specNetKcpSet p s)
/-- PTP_SET. -/
def execPtpSet (p : Packet) (s : State) : Host.Outcome State Fault Refusal := .next (kcpOp 0x0800 specPtpSet p s)
/-- REF_INPUT_SET. -/
def execRefInputSet (p : Packet) (s : State) : Host.Outcome State Fault Refusal := .next (kcpOp 0x0801 specRefInputSet p s)
/-- REF_PRIORITY_SET. -/
def execRefPrioritySet (p : Packet) (s : State) : Host.Outcome State Fault Refusal := .next (kcpOp 0x0802 specRefPrioritySet p s)
/-- REF_FORCE. -/
def execRefForce (p : Packet) (s : State) : Host.Outcome State Fault Refusal := .next (kcpOp 0x0803 specRefForce p s)
/-- TRIGGER_SET. -/
def execTriggerSet (p : Packet) (s : State) : Host.Outcome State Fault Refusal := .next (kcpOp 0x0804 specTriggerSet p s)
/-- CAPTURE_READ. -/
def execCaptureRead (p : Packet) (s : State) : Host.Outcome State Fault Refusal := .next (kcpOp 0x0805 specCaptureRead p s)
/-- TIME_READ. -/
def execTimeRead (p : Packet) (s : State) : Host.Outcome State Fault Refusal := .next (kcpOp 0x0806 specTimeRead p s)
/-- REF_STATUS. -/
def execRefStatus (p : Packet) (s : State) : Host.Outcome State Fault Refusal := .next (kcpOp 0x0807 specRefStatus p s)
/-- PORT_SET. -/
def execPortSet (p : Packet) (s : State) : Host.Outcome State Fault Refusal := .next (kcpOp 0x0900 specPortSet p s)
/-- PORT_MASK. -/
def execPortMask (p : Packet) (s : State) : Host.Outcome State Fault Refusal := .next (kcpOp 0x0901 specPortMask p s)
/-- PORT_RUN. -/
def execPortRun (p : Packet) (s : State) : Host.Outcome State Fault Refusal := .next (kcpOp 0x0902 specPortRun p s)
/-- SIDETONE_SET. -/
def execSidetoneSet (p : Packet) (s : State) : Host.Outcome State Fault Refusal := .next (kcpOp 0x0903 specSidetoneSet p s)
/-- PORT_READ. -/
def execPortRead (p : Packet) (s : State) : Host.Outcome State Fault Refusal := .next (kcpOp 0x0904 specPortRead p s)
/-- PAIR_SET. -/
def execPairSet (p : Packet) (s : State) : Host.Outcome State Fault Refusal := .next (kcpOp 0x0A00 specPairSet p s)
/-- PAIR_STATUS. -/
def execPairStatus (p : Packet) (s : State) : Host.Outcome State Fault Refusal := .next (kcpOp 0x0A01 specPairStatus p s)
/-- PAIR_SYNC. -/
def execPairSync (p : Packet) (s : State) : Host.Outcome State Fault Refusal := .next (kcpOp 0x0A02 specPairSync p s)
/-- PAIR_HANDOVER. -/
def execPairHandover (p : Packet) (s : State) : Host.Outcome State Fault Refusal := .next (kcpOp 0x0A03 specPairHandover p s)
/-- TXN_BEGIN. -/
def execTxnBegin (p : Packet) (s : State) : Host.Outcome State Fault Refusal := .next (kcpOp 0x0B00 specTxnBegin p s)
/-- TXN_ABORT. -/
def execTxnAbort (p : Packet) (s : State) : Host.Outcome State Fault Refusal := .next (kcpOp 0x0B02 specTxnAbort p s)
/-- PWR_STATE. -/
def execPwrState (p : Packet) (s : State) : Host.Outcome State Fault Refusal := .next (kcpOp 0x0C00 specPwrState p s)
/-- PWR_OPPOINT. -/
def execPwrOppoint (p : Packet) (s : State) : Host.Outcome State Fault Refusal := .next (kcpOp 0x0C01 specPwrOppoint p s)
/-- PWR_DOMAIN_RETRY. -/
def execPwrDomainRetry (p : Packet) (s : State) : Host.Outcome State Fault Refusal := .next (kcpOp 0x0C02 specPwrDomainRetry p s)
/-- PWR_STATUS. -/
def execPwrStatus (p : Packet) (s : State) : Host.Outcome State Fault Refusal := .next (kcpOp 0x0C03 specPwrStatus p s)
/-- DIAG_WINDOW_UNLOCK. -/
def execDiagWindowUnlock (p : Packet) (s : State) : Host.Outcome State Fault Refusal := .next (kcpOp 0x0F00 specWindowUnlock p s)
/-- DIAG_WINDOW_LOCK. -/
def execDiagWindowLock (p : Packet) (s : State) : Host.Outcome State Fault Refusal := .next (kcpOp 0x0F01 specWindowLock p s)
/-- DIAG_REG_READ. -/
def execDiagRegRead (p : Packet) (s : State) : Host.Outcome State Fault Refusal := .next (kcpOp 0x0F02 specRegRead p s)
/-- DIAG_COUNTERS. -/
def execDiagCounters (p : Packet) (s : State) : Host.Outcome State Fault Refusal := .next (kcpOp 0x0F04 specDiagCounters p s)
/-- DIAG_INCLUSION_READ. -/
def execDiagInclusionRead (p : Packet) (s : State) : Host.Outcome State Fault Refusal := .next (kcpOp 0x0F05 specDiagInclusionRead p s)
/-- DIAG_FACET_RETRY. -/
def execDiagFacetRetry (p : Packet) (s : State) : Host.Outcome State Fault Refusal := .next (kcpOp 0x0F06 specDiagFacetRetry p s)
/-- DIAG_LIFECYCLE. -/
def execDiagLifecycle (p : Packet) (s : State) : Host.Outcome State Fault Refusal := .next (kcpOp 0x0F07 specDiagLifecycle p s)

end Sys2Proof.Machine
end

