-- ==== Sys2Proof/Machine/Dispatch.lean ====
section
/-! DEFINITION. The meaning of every command, one arm each. -/

namespace Sys2Proof.Machine

/-- The effect of a command on everything but the queue. -/
def exec (i : Instr) (s : State) : Host.Outcome State Fault Refusal :=
  match i with
  | .renderBoundary facts => Sys2Proof.Machine.execRenderBoundary facts s
  | .facetRunStart k w facts => Sys2Proof.Machine.execFacetRunStart k w facts s
  | .budgetExpiry k => Sys2Proof.Machine.execBudgetExpiry k s
  | .deltaCutoff => Sys2Proof.Machine.execDeltaCutoff s
  | .ackDeadline => Sys2Proof.Machine.execAckDeadline s
  | .solveComplete z us tooBig => Sys2Proof.Machine.execSolveComplete z us tooBig s
  | .layoutSwitchEntry z => Sys2Proof.Machine.execLayoutSwitchEntry z s
  | .layoutXfadeEnd z => Sys2Proof.Machine.execLayoutXfadeEnd z s
  | .routeXfadeEnd o => Sys2Proof.Machine.execRouteXfadeEnd o s
  | .delayJumpXfadeEnd o => Sys2Proof.Machine.execDelayJumpXfadeEnd o s
  | .dopplerXfadeEnd o => Sys2Proof.Machine.execDopplerXfadeEnd o s
  | .placementXfadeEnd o => Sys2Proof.Machine.execPlacementXfadeEnd o s
  | .alignDelayXfadeEnd f => Sys2Proof.Machine.execAlignDelayXfadeEnd f s
  | .filterStagingComplete => Sys2Proof.Machine.execFilterStagingComplete s
  | .firCopyBackComplete => Sys2Proof.Machine.execFirCopyBackComplete s
  | .abXfadeEnd => Sys2Proof.Machine.execAbXfadeEnd s
  | .abCopyBackComplete => Sys2Proof.Machine.execAbCopyBackComplete s
  | .renderRateResume => Sys2Proof.Machine.execRenderRateResume s
  | .loupeStuck n => Sys2Proof.Machine.execLoupeStuck n s
  | .stuckRecover n => Sys2Proof.Machine.execStuckRecover n s
  | .settlingEnd n => Sys2Proof.Machine.execSettlingEnd n s
  | .loupeSyncEdge => Sys2Proof.Machine.execLoupeSyncEdge s
  | .loupeSyncReq v => Sys2Proof.Machine.execLoupeSyncReq v s
  | .loupeInCfgWrite n v => Sys2Proof.Machine.execLoupeInCfgWrite n v s
  | .jobStepComplete step => Sys2Proof.Machine.execJobStepComplete step s
  | .conclusiveResult j f => Sys2Proof.Machine.execConclusiveResult j f s
  | .maximumDwell j f => Sys2Proof.Machine.execMaximumDwell j f s
  | .actionDueTime f id => Sys2Proof.Machine.execActionDueTime f id s
  | .compStep => Sys2Proof.Machine.execCompStep s
  | .driftStep f => Sys2Proof.Machine.execDriftStep f s
  | .nop x => Sys2Proof.Machine.execNop x s
  | .add x => Sys2Proof.Machine.execAdd x s
  | .sub x => Sys2Proof.Machine.execSub x s
  | .addi x => Sys2Proof.Machine.execAddi x s
  | .mul x => Sys2Proof.Machine.execMul x s
  | .mulh x => Sys2Proof.Machine.execMulh x s
  | .and x => Sys2Proof.Machine.execAnd x s
  | .or x => Sys2Proof.Machine.execOr x s
  | .xor x => Sys2Proof.Machine.execXor x s
  | .shl x => Sys2Proof.Machine.execShl x s
  | .shr x => Sys2Proof.Machine.execShr x s
  | .sra x => Sys2Proof.Machine.execSra x s
  | .min x => Sys2Proof.Machine.execMin x s
  | .max x => Sys2Proof.Machine.execMax x s
  | .cmpeq x => Sys2Proof.Machine.execCmpeq x s
  | .cmplt x => Sys2Proof.Machine.execCmplt x s
  | .cmpltu x => Sys2Proof.Machine.execCmpltu x s
  | .pand x => Sys2Proof.Machine.execPand x s
  | .por x => Sys2Proof.Machine.execPor x s
  | .pnot x => Sys2Proof.Machine.execPnot x s
  | .pmov x => Sys2Proof.Machine.execPmov x s
  | .movi x => Sys2Proof.Machine.execMovi x s
  | .movhi x => Sys2Proof.Machine.execMovhi x s
  | .mfs x => Sys2Proof.Machine.execMfs x s
  | .mts x => Sys2Proof.Machine.execMts x s
  | .jmp x => Sys2Proof.Machine.execJmp x s
  | .bnz x => Sys2Proof.Machine.execBnz x s
  | .dbnz x => Sys2Proof.Machine.execDbnz x s
  | .call x => Sys2Proof.Machine.execCall x s
  | .ret x => Sys2Proof.Machine.execRet x s
  | .loop x => Sys2Proof.Machine.execLoop x s
  | .endRun x => Sys2Proof.Machine.execEndRun x s
  | .get x => Sys2Proof.Machine.execGet x s
  | .put x => Sys2Proof.Machine.execPut x s
  | .gwait x => Sys2Proof.Machine.execGwait x s
  | .vadd x => Sys2Proof.Machine.execVadd x s
  | .vsub x => Sys2Proof.Machine.execVsub x s
  | .vneg x => Sys2Proof.Machine.execVneg x s
  | .vabs x => Sys2Proof.Machine.execVabs x s
  | .vmin x => Sys2Proof.Machine.execVmin x s
  | .vmax x => Sys2Proof.Machine.execVmax x s
  | .vand x => Sys2Proof.Machine.execVand x s
  | .vor x => Sys2Proof.Machine.execVor x s
  | .vxor x => Sys2Proof.Machine.execVxor x s
  | .vshl x => Sys2Proof.Machine.execVshl x s
  | .vsra x => Sys2Proof.Machine.execVsra x s
  | .vmpy x => Sys2Proof.Machine.execVmpy x s
  | .vmac x => Sys2Proof.Machine.execVmac x s
  | .vmsc x => Sys2Proof.Machine.execVmsc x s
  | .vmacs x => Sys2Proof.Machine.execVmacs x s
  | .aclr x => Sys2Proof.Machine.execAclr x s
  | .aext x => Sys2Proof.Machine.execAext x s
  | .ains x => Sys2Proof.Machine.execAins x s
  | .ashr x => Sys2Proof.Machine.execAshr x s
  | .vcmpy x => Sys2Proof.Machine.execVcmpy x s
  | .vcmac x => Sys2Proof.Machine.execVcmac x s
  | .vcmacj x => Sys2Proof.Machine.execVcmacj x s
  | .vbfly x => Sys2Proof.Machine.execVbfly x s
  | .vsplat x => Sys2Proof.Machine.execVsplat x s
  | .vperm x => Sys2Proof.Machine.execVperm x s
  | .vsel x => Sys2Proof.Machine.execVsel x s
  | .vextr x => Sys2Proof.Machine.execVextr x s
  | .vcmpeq x => Sys2Proof.Machine.execVcmpeq x s
  | .vcmplt x => Sys2Proof.Machine.execVcmplt x s
  | .vcmple x => Sys2Proof.Machine.execVcmple x s
  | .vnorm x => Sys2Proof.Machine.execVnorm x s
  | .vcrc x => Sys2Proof.Machine.execVcrc x s
  | .vmov x => Sys2Proof.Machine.execVmov x s
  | .ldW x => Sys2Proof.Machine.execLdW x s
  | .stW x => Sys2Proof.Machine.execStW x s
  | .ldV x => Sys2Proof.Machine.execLdV x s
  | .stV x => Sys2Proof.Machine.execStV x s
  | .ldB x => Sys2Proof.Machine.execLdB x s
  | .ldP x => Sys2Proof.Machine.execLdP x s
  | .stP x => Sys2Proof.Machine.execStP x s
  | .girdleReservationStall k => Sys2Proof.Machine.execGirdleReservationStall k s
  | .girdleTransferComplete k tag r => Sys2Proof.Machine.execGirdleTransferComplete k tag r s
  | .spareReplacement k w => Sys2Proof.Machine.execSpareReplacement k w s
  | .selftestComplete k pass => Sys2Proof.Machine.execSelftestComplete k pass s
  | .facetReset k v => Sys2Proof.Machine.execFacetReset k v s
  | .facetWinLock k v => Sys2Proof.Machine.execFacetWinLock k v s
  | .facetRunSet k v => Sys2Proof.Machine.execFacetRunSet k v s
  | .sysInfo p => Sys2Proof.Machine.execSysInfo p s
  | .sysSessionOpen p => Sys2Proof.Machine.execSysSessionOpen p s
  | .sysSessionClose p => Sys2Proof.Machine.execSysSessionClose p s
  | .sysSeqQuery p => Sys2Proof.Machine.execSysSeqQuery p s
  | .sysEventMask p => Sys2Proof.Machine.execSysEventMask p s
  | .sysKeySet p => Sys2Proof.Machine.execSysKeySet p s
  | .sysRenderRate p => Sys2Proof.Machine.execSysRenderRate p s
  | .sysStatus p => Sys2Proof.Machine.execSysStatus p s
  | .sysKernelLoad p => Sys2Proof.Machine.execSysKernelLoad p s
  | .sysKernelRun p => Sys2Proof.Machine.execSysKernelRun p s
  | .sysKernelUnload p => Sys2Proof.Machine.execSysKernelUnload p s
  | .sysKernelRead p => Sys2Proof.Machine.execSysKernelRead p s
  | .zoneSet p => Sys2Proof.Machine.execZoneSet p s
  | .zoneExclSet p => Sys2Proof.Machine.execZoneExclSet p s
  | .zoneRead p => Sys2Proof.Machine.execZoneRead p s
  | .feedSet p => Sys2Proof.Machine.execFeedSet p s
  | .feedRead p => Sys2Proof.Machine.execFeedRead p s
  | .feedWithdraw p => Sys2Proof.Machine.execFeedWithdraw p s
  | .feedRestore p => Sys2Proof.Machine.execFeedRestore p s
  | .layoutStatus p => Sys2Proof.Machine.execLayoutStatus p s
  | .layoutResolve p => Sys2Proof.Machine.execLayoutResolve p s
  | .objectSet p => Sys2Proof.Machine.execObjectSet p s
  | .objectPosBulk p => Sys2Proof.Machine.execObjectPosBulk p s
  | .objectRead p => Sys2Proof.Machine.execObjectRead p s
  | .objectRestore p => Sys2Proof.Machine.execObjectRestore p s
  | .routeSet p => Sys2Proof.Machine.execRouteSet p s
  | .routeDelete p => Sys2Proof.Machine.execRouteDelete p s
  | .routeRead p => Sys2Proof.Machine.execRouteRead p s
  | .matrixStatus p => Sys2Proof.Machine.execMatrixStatus p s
  | .chainSet p => Sys2Proof.Machine.execChainSet p s
  | .biquadSet p => Sys2Proof.Machine.execBiquadSet p s
  | .chainRead p => Sys2Proof.Machine.execChainRead p s
  | .feedStatus p => Sys2Proof.Machine.execFeedStatus p s
  | .filterLibWrite p => Sys2Proof.Machine.execFilterLibWrite p s
  | .filterLibFree p => Sys2Proof.Machine.execFilterLibFree p s
  | .filterStage p => Sys2Proof.Machine.execFilterStage p s
  | .filterSwap p => Sys2Proof.Machine.execFilterSwap p s
  | .filterDiscard p => Sys2Proof.Machine.execFilterDiscard p s
  | .filterDirect p => Sys2Proof.Machine.execFilterDirect p s
  | .filterAb p => Sys2Proof.Machine.execFilterAb p s
  | .filterRead p => Sys2Proof.Machine.execFilterRead p s
  | .loupeZoneSet p => Sys2Proof.Machine.execLoupeZoneSet p s
  | .loupeInputSet p => Sys2Proof.Machine.execLoupeInputSet p s
  | .loupeSync p => Sys2Proof.Machine.execLoupeSync p s
  | .loupeJobStart p => Sys2Proof.Machine.execLoupeJobStart p s
  | .loupeJobAbort p => Sys2Proof.Machine.execLoupeJobAbort p s
  | .loupeLearn p => Sys2Proof.Machine.execLoupeLearn p s
  | .loupeVeto p => Sys2Proof.Machine.execLoupeVeto p s
  | .loupeCompClear p => Sys2Proof.Machine.execLoupeCompClear p s
  | .loupeAuditRead p => Sys2Proof.Machine.execLoupeAuditRead p s
  | .loupeJobRead p => Sys2Proof.Machine.execLoupeJobRead p s
  | .loupeDerive p => Sys2Proof.Machine.execLoupeDerive p s
  | .netportSet p => Sys2Proof.Machine.execNetportSet p s
  | .flowSet p => Sys2Proof.Machine.execFlowSet p s
  | .flowDelete p => Sys2Proof.Machine.execFlowDelete p s
  | .flowRead p => Sys2Proof.Machine.execFlowRead p s
  | .netportRead p => Sys2Proof.Machine.execNetportRead p s
  | .netKcpSet p => Sys2Proof.Machine.execNetKcpSet p s
  | .ptpSet p => Sys2Proof.Machine.execPtpSet p s
  | .refInputSet p => Sys2Proof.Machine.execRefInputSet p s
  | .refPrioritySet p => Sys2Proof.Machine.execRefPrioritySet p s
  | .refForce p => Sys2Proof.Machine.execRefForce p s
  | .triggerSet p => Sys2Proof.Machine.execTriggerSet p s
  | .captureRead p => Sys2Proof.Machine.execCaptureRead p s
  | .timeRead p => Sys2Proof.Machine.execTimeRead p s
  | .refStatus p => Sys2Proof.Machine.execRefStatus p s
  | .portSet p => Sys2Proof.Machine.execPortSet p s
  | .portMask p => Sys2Proof.Machine.execPortMask p s
  | .portRun p => Sys2Proof.Machine.execPortRun p s
  | .sidetoneSet p => Sys2Proof.Machine.execSidetoneSet p s
  | .portRead p => Sys2Proof.Machine.execPortRead p s
  | .pairSet p => Sys2Proof.Machine.execPairSet p s
  | .pairStatus p => Sys2Proof.Machine.execPairStatus p s
  | .pairSync p => Sys2Proof.Machine.execPairSync p s
  | .pairHandover p => Sys2Proof.Machine.execPairHandover p s
  | .txnBegin p => Sys2Proof.Machine.execTxnBegin p s
  | .txnCommit p => Sys2Proof.Machine.execTxnCommit p s
  | .txnAbort p => Sys2Proof.Machine.execTxnAbort p s
  | .pwrState p => Sys2Proof.Machine.execPwrState p s
  | .pwrOppoint p => Sys2Proof.Machine.execPwrOppoint p s
  | .pwrDomainRetry p => Sys2Proof.Machine.execPwrDomainRetry p s
  | .pwrStatus p => Sys2Proof.Machine.execPwrStatus p s
  | .diagWindowUnlock p => Sys2Proof.Machine.execDiagWindowUnlock p s
  | .diagWindowLock p => Sys2Proof.Machine.execDiagWindowLock p s
  | .diagRegRead p => Sys2Proof.Machine.execDiagRegRead p s
  | .diagRegWrite p => Sys2Proof.Machine.execDiagRegWrite p s
  | .diagCounters p => Sys2Proof.Machine.execDiagCounters p s
  | .diagInclusionRead p => Sys2Proof.Machine.execDiagInclusionRead p s
  | .diagFacetRetry p => Sys2Proof.Machine.execDiagFacetRetry p s
  | .diagLifecycle p => Sys2Proof.Machine.execDiagLifecycle p s
  | .bootStatus p => Sys2Proof.Machine.execBootStatus p s
  | .bootWrite p => Sys2Proof.Machine.execBootWrite p s
  | .bootStart p => Sys2Proof.Machine.execBootStart p s
  | .sessionIdleTimeout x => Sys2Proof.Machine.execSessionIdleTimeout x s
  | .eventDrop x => Sys2Proof.Machine.execEventDrop x s
  | .piecedObjectDiscard x op name => Sys2Proof.Machine.execPiecedObjectDiscard x op name s
  | .windowExpiry => Sys2Proof.Machine.execWindowExpiry s
  | .cmdTailDoorbell k v => Sys2Proof.Machine.execCmdTailDoorbell k v s
  | .rplTailPost k v bufs => Sys2Proof.Machine.execRplTailPost k v bufs s
  | .ringReadCompletion k d => Sys2Proof.Machine.execRingReadCompletion k d s
  | .ringCtlWrite k v => Sys2Proof.Machine.execRingCtlWrite k v s
  | .bar2Access addr size w => Sys2Proof.Machine.execBar2Access addr size w s
  | .pcieFlr => Sys2Proof.Machine.execPcieFlr s
  | .pciePerst => Sys2Proof.Machine.execPciePerst s
  | .spiWrite bytes => Sys2Proof.Machine.execSpiWrite bytes s
  | .spiStatus => Sys2Proof.Machine.execSpiStatus s
  | .spiRead n => Sys2Proof.Machine.execSpiRead n s
  | .spiInvalidInstruction b n => Sys2Proof.Machine.execSpiInvalidInstruction b n s
  | .frameReceived k bs symbol fifo mPacket => Sys2Proof.Machine.execFrameReceived k bs symbol fifo mPacket s
  | .pauseExpiry k => Sys2Proof.Machine.execPauseExpiry k s
  | .positionDatagram f b => Sys2Proof.Machine.execPositionDatagram f b s
  | .ptpMessage d m => Sys2Proof.Machine.execPtpMessage d m s
  | .ptpAnnounceTimeout d => Sys2Proof.Machine.execPtpAnnounceTimeout d s
  | .linkUp k => Sys2Proof.Machine.execLinkUp k s
  | .linkDown k => Sys2Proof.Machine.execLinkDown k s
  | .pathDown f second => Sys2Proof.Machine.execPathDown f second s
  | .packetTransmit f => Sys2Proof.Machine.execPacketTransmit f s
  | .txLateDrop k => Sys2Proof.Machine.execTxLateDrop k s
  | .netportRingTail k r v => Sys2Proof.Machine.execNetportRingTail k r v s
  | .ringFrameTransmit k frags => Sys2Proof.Machine.execRingFrameTransmit k frags s
  | .preemptVerifyDone k ok => Sys2Proof.Machine.execPreemptVerifyDone k ok s
  | .pauseTx k => Sys2Proof.Machine.execPauseTx k s
  | .speedReduction k => Sys2Proof.Machine.execSpeedReduction k s
  | .lpFail k => Sys2Proof.Machine.execLpFail k s
  | .speedRestore k => Sys2Proof.Machine.execSpeedRestore k s
  | .arpRefresh f => Sys2Proof.Machine.execArpRefresh f s
  | .wakeFrame k bs => Sys2Proof.Machine.execWakeFrame k bs s
  | .flowtabCtlWrite e v => Sys2Proof.Machine.execFlowtabCtlWrite e v s
  | .timeSnap v => Sys2Proof.Machine.execTimeSnap v s
  | .timeAdjNs b v => Sys2Proof.Machine.execTimeAdjNs b v s
  | .comparatorFire x => Sys2Proof.Machine.execComparatorFire x s
  | .captureEdge c rising => Sys2Proof.Machine.execCaptureEdge c rising s
  | .captPop c v => Sys2Proof.Machine.execCaptPop c v s
  | .txtsPop k v => Sys2Proof.Machine.execTxtsPop k v s
  | .referenceLost r => Sys2Proof.Machine.execReferenceLost r s
  | .referencePresent r m => Sys2Proof.Machine.execReferencePresent r m s
  | .deviationEval ms => Sys2Proof.Machine.execDeviationEval ms s
  | .waitToRestoreEnd r => Sys2Proof.Machine.execWaitToRestoreEnd r s
  | .pullStep m => Sys2Proof.Machine.execPullStep m s
  | .holdoverEval => Sys2Proof.Machine.execHoldoverEval s
  | .clockLoss c => Sys2Proof.Machine.execClockLoss c s
  | .syspllRelock => Sys2Proof.Machine.execSyspllRelock s
  | .tdmFrame p f => Sys2Proof.Machine.execTdmFrame p f s
  | .maskApply p v late => Sys2Proof.Machine.execMaskApply p v late s
  | .portZcTimeout p => Sys2Proof.Machine.execPortZcTimeout p s
  | .asrcLock p => Sys2Proof.Machine.execAsrcLock p s
  | .noLock p => Sys2Proof.Machine.execNoLock p s
  | .portClockLost p fcg => Sys2Proof.Machine.execPortClockLost p fcg s
  | .portRange p => Sys2Proof.Machine.execPortRange p s
  | .portRangeRecover p => Sys2Proof.Machine.execPortRangeRecover p s
  | .tdmCtlWrite p v => Sys2Proof.Machine.execTdmCtlWrite p v s
  | .sidetoneCtlWrite r v => Sys2Proof.Machine.execSidetoneCtlWrite r v s
  | .sidetoneGainWrite r v => Sys2Proof.Machine.execSidetoneGainWrite r v s
  | .busTransaction q => Sys2Proof.Machine.execBusTransaction q s
  | .busHang m id => Sys2Proof.Machine.execBusHang m id s
  | .lateResponse m id => Sys2Proof.Machine.execLateResponse m id s
  | .cdcQueue q inst dir chans => Sys2Proof.Machine.execCdcQueue q inst dir chans s
  | .secureWipeDone => Sys2Proof.Machine.execSecureWipeDone s
  | .dramInitDone => Sys2Proof.Machine.execDramInitDone s
  | .dramReadRetrain => Sys2Proof.Machine.execDramReadRetrain s
  | .dramPowerDown ch rank => Sys2Proof.Machine.execDramPowerDown ch rank s
  | .dmaStart c v => Sys2Proof.Machine.execDmaStart c v s
  | .dmaStop c v => Sys2Proof.Machine.execDmaStop c v s
  | .dmaBurstResponse c r => Sys2Proof.Machine.execDmaBurstResponse c r s
  | .dmaCopyComplete c => Sys2Proof.Machine.execDmaCopyComplete c s
  | .dmaFenceComplete c => Sys2Proof.Machine.execDmaFenceComplete c s
  | .dmaRequest c line r => Sys2Proof.Machine.execDmaRequest c line r s
  | .scrubWord m inst addr synd c => Sys2Proof.Machine.execScrubWord m inst addr synd c s
  | .lockstep core pc => Sys2Proof.Machine.execLockstep core pc s
  | .ganenRestartDone => Sys2Proof.Machine.execGanenRestartDone s
  | .ganenRestartTimeout => Sys2Proof.Machine.execGanenRestartTimeout s
  | .supply m mv => Sys2Proof.Machine.execSupply m mv s
  | .thermalSample t => Sys2Proof.Machine.execThermalSample t s
  | .logCopy => Sys2Proof.Machine.execLogCopy s
  | .repeatRecord cls unit inst => Sys2Proof.Machine.execRepeatRecord cls unit inst s
  | .integFaultWrite v => Sys2Proof.Machine.execIntegFaultWrite v s
  | .cntSnap addr v => Sys2Proof.Machine.execCntSnap addr v s
  | .registerWrite addr size v => Sys2Proof.Machine.execRegisterWrite addr size v s
  | .ilkBEdge => Sys2Proof.Machine.execIlkBEdge s
  | .claimTieTimeout => Sys2Proof.Machine.execClaimTieTimeout s
  | .ilkFault => Sys2Proof.Machine.execIlkFault s
  | .heartbeatTx => Sys2Proof.Machine.execHeartbeatTx s
  | .heartbeatRx h => Sys2Proof.Machine.execHeartbeatRx h s
  | .bezelLink lane => Sys2Proof.Machine.execBezelLink lane s
  | .noticeRx cls => Sys2Proof.Machine.execNoticeRx cls s
  | .deltaSegment g => Sys2Proof.Machine.execDeltaSegment g s
  | .resendRx segs => Sys2Proof.Machine.execResendRx segs s
  | .ackRx seq => Sys2Proof.Machine.execAckRx seq s
  | .markRx seq commit => Sys2Proof.Machine.execMarkRx seq commit s
  | .stagingRx num o => Sys2Proof.Machine.execStagingRx num o s
  | .reconRx carats => Sys2Proof.Machine.execReconRx carats s
  | .reconDataRx blocks last => Sys2Proof.Machine.execReconDataRx blocks last s
  | .reconDeadline => Sys2Proof.Machine.execReconDeadline s
  | .transplantRx t => Sys2Proof.Machine.execTransplantRx t s
  | .autoSyncStart => Sys2Proof.Machine.execAutoSyncStart s
  | .syncImageComplete image => Sys2Proof.Machine.execSyncImageComplete image s
  | .syncSettleEnd => Sys2Proof.Machine.execSyncSettleEnd s
  | .syncVerified => Sys2Proof.Machine.execSyncVerified s
  | .reclaimHoldoffExpiry => Sys2Proof.Machine.execReclaimHoldoffExpiry s
  | .handoverFail => Sys2Proof.Machine.execHandoverFail s
  | .domainGrant d => Sys2Proof.Machine.execDomainGrant d s
  | .domainDelay d => Sys2Proof.Machine.execDomainDelay d s
  | .domainDelayExpired d => Sys2Proof.Machine.execDomainDelayExpired d s
  | .domainRefuse d reason => Sys2Proof.Machine.execDomainRefuse d reason s
  | .domainReady d => Sys2Proof.Machine.execDomainReady d s
  | .domainWake d lock => Sys2Proof.Machine.execDomainWake d lock s
  | .wakeNEdge => Sys2Proof.Machine.execWakeNEdge s
  | .pmuReqWrite v => Sys2Proof.Machine.execPmuReqWrite v s
  | .pmuRetryWrite v => Sys2Proof.Machine.execPmuRetryWrite v s
  | .pmuRefuseClr v => Sys2Proof.Machine.execPmuRefuseClr v s
  | .secTamperLatchRead => Sys2Proof.Machine.execSecTamperLatchRead s
  | .voltageConfirmed mv status => Sys2Proof.Machine.execVoltageConfirmed mv status s
  | .voltageTimeout => Sys2Proof.Machine.execVoltageTimeout s
  | .pmbAlert status => Sys2Proof.Machine.execPmbAlert status s
  | .porAssert => Sys2Proof.Machine.execPorAssert s
  | .porRelease env => Sys2Proof.Machine.execPorRelease env s
  | .tamper src low => Sys2Proof.Machine.execTamper src low s
  | .jtagDebugAccess a => Sys2Proof.Machine.execJtagDebugAccess a s
  | .ilkBFall => Sys2Proof.Machine.execIlkBFall s
  | .supplyInRange env => Sys2Proof.Machine.execSupplyInRange env s
  | .coalescingTimeExpiry k => Sys2Proof.Machine.execCoalescingTimeExpiry k s
  | .ptpSyncInterval d what => Sys2Proof.Machine.execPtpSyncInterval d what s
  | .igmpUnsolicitedReport f => Sys2Proof.Machine.execIgmpUnsolicitedReport f s
  | .sfpModabsChange k present => Sys2Proof.Machine.execSfpModabsChange k present s

end Sys2Proof.Machine
end

