-- ==== Sys2Proof/Machine/Fetch.lean ====
section
/-! DEFINITION. User kernels run by themselves (R165 to R181): while no command waits, a Facet whose run is in hand fetches bundles from
its program memory at the Facet clock, decodes their slots and issues them. -/

namespace Sys2Proof.Machine

/-- Slot `n` of the bundle at Facet `k`'s program counter. -/
def slotAt (s : State) (k n : Nat) : Word := wordN (leNat (s.memBytes (facetBase k + 0x80000 + 16 * (s.core k).pc + 4 * n) 4))

/-- Issue one slot: a reserved opcode is an illegal instruction (R166). -/
def State.issueSlot (k : Fin 64) (s : State) (e : Fin 4 × Word) : State :=
  match decodeSlot k e.1 e.2 with
  | none => if (s.core k).run then s.facetStop k 4 else s
  | some i => match exec i s with | .next t => t | _ => s

/-- Issue the bundle at the program counter. -/
def State.issueBundle (s : State) (k : Fin 64) : State :=
  ((List.finRange 4).map fun (n : Fin 4) => (n, slotAt s k.val n.val)).foldl (State.issueSlot k) s

/-- Cycles of the budget of Facet `k`'s run. -/
def budgetCycles (s : State) (k : Nat) : Nat := (mget (0, 0) s.facets.live k).2 * s.facetMHz / 1000

/-- A user Facet issues while its clock has cycles in hand and its budget lasts. -/
def State.runFacet (k : Fin 64) : Nat → State → State
  | 0, s => s
  | n + 1, s =>
    let c := s.core k
    if c.run && decide (1000 ≤ c.due) && decide (c.cyc < budgetCycles s k) then
      let t := s.issueBundle k
      let c' := t.core k
      runFacet k n (t.setCore k { c' with due := c'.due - 1000 * ((c'.cyc : Int) - c.cyc) })
    else s

/-- 2 ns pass on the Facet clock: at most two bundles. DESIGN CHOICE, log 192. -/
def State.kernelTick (s : State) : State :=
  ((List.finRange 64).filter fun (k : Fin 64) => s.fst k.val == 3 && (s.core k.val).run).foldl
    (fun s (k : Fin 64) => let c := s.core k; State.runFacet k 2 (s.setCore k { c with due := c.due + 2 * s.facetMHz })) s

/-- Ganen takes the packets due that no row handles (R193). -/
def State.takeStrays (s : State) : State := if s.serving then State.serveStrays s.kcp.rx.length s else s

/-- What a step does on an empty queue (log 1): 2 ns pass. The crystal counts in reset too. DESIGN CHOICE, log 1. -/
def State.idleStep (s : State) : State :=
  let s1 := s.crystal
  if s.boot.phase == .inReset || s.pins.porLow then s1 else s1.tick.fillBuckets.kernelTick.takeStrays

end Sys2Proof.Machine
end

