-- ==== Sys2Proof/Safety.lean ====
section
/-! DEFINITION. What the claims about the model are stated in: when a Facet's slot issues, when a command packet is in order, and
what each of these leaves. -/

namespace Sys2Proof.Machine

/-! ### The memory -/

/-- The byte memory is in its canonical form. -/
def State.MemOk (s : State) : Prop := Memory.wf s.mem.bytes = true

/-- The like things that the spec numbers are as many as it numbers: sessions, ring pairs, key slots, Facets, power domains,
network ports, DMA channels, TDM ports, references, PTP slots, stamp queues, measurement inputs, probe slots, and rate buckets. -/
def State.Shape (s : State) : Prop :=
  s.kcp.sess.length = 8 ∧ s.kcp.rings.length = 4 ∧ s.sec.keys.length = 8 ∧ s.facets.st.length = 64 ∧ s.power.dom.length = 11 ∧
  s.net.port.length = 6 ∧ s.dma.ch.length = 32 ∧ s.ports.port.length = 16 ∧ s.time.refs.length = 6 ∧ s.time.ptp.length = 2 ∧
  s.time.capt.length = 9 ∧ s.time.txts.length = 6 ∧ s.loupe.ins.length = 16 ∧ s.loupe.slots.length = 64 ∧ s.mem.tokens.length = 4

/-- A command that writes registers by address, and so can meet a reserved field (R13). -/
def mayFault : Instr → Bool
  | .bar2Access .. | .busTransaction .. | .captPop .. | .cmdTailDoorbell .. | .cntSnap .. | .diagRegWrite ..
  | .dmaBurstResponse .. | .dmaRequest .. | .dmaStart .. | .dmaStop .. | .facetReset .. | .facetRunSet .. | .facetWinLock ..
  | .flowtabCtlWrite .. | .integFaultWrite .. | .jtagDebugAccess .. | .loupeInCfgWrite .. | .loupeSyncReq .. | .maskApply ..
  | .netportRingTail .. | .pmuRefuseClr .. | .pmuReqWrite .. | .pmuRetryWrite .. | .registerWrite .. | .ringCtlWrite ..
  | .rplTailPost .. | .sidetoneCtlWrite .. | .sidetoneGainWrite .. | .tdmCtlWrite .. | .timeAdjNs .. | .timeSnap ..
  | .txtsPop .. => true
  | _ => false

/-! ### A slot of a Facet -/

/-- The slot issues: its Facet has a run in hand, its bundle is not stalled and its word can be read (R163, R165, R180). -/
structure Issues (s : State) (i : Issue) : Prop where
  running : (s.core i.k.val).run = true
  notHeld : (s.core i.k.val).hold = false
  word : i.pmem ≠ .uncorrectable

/-- The state once the bundle is fetched: a corrected word counts in FACET_ECC_CORR (R163). -/
def State.fetched (s : State) (i : Issue) : State := if i.pmem = .corrected then s.count (aFacetctl + 0x90) else s

/-- The state after a slot that leaves registers `c`: the bundle's last slot ends the bundle. -/
def State.slotDone (s : State) (i : Issue) (c : FacetCore) : State :=
  let t := s.setCore i.k.val c
  if i.last then t.endBundle i.k.val else t

/-- A number clamped to `w` bits, signed, or wrapped to them. -/
def brought (w : Nat) (clamp : Bool) (x : Int) : Int :=
  if clamp then max (-(2 ^ (w - 1))) (min (2 ^ (w - 1) - 1) x) else (x + 2 ^ (w - 1)) % 2 ^ w - 2 ^ (w - 1)

/-- A number lies outside the signed range of `w` bits. -/
def outside (w : Nat) (x : Int) : Bool := decide (x < -(2 ^ (w - 1))) || decide (2 ^ (w - 1) ≤ x)

/-- A result on its way, and the mark of SATF where it was clamped (R167, R168). -/
def FacetCore.sends (c : FacetCore) (slot lat : Nat) (x : Land) (clamped : Bool) : FacetCore :=
  if clamped then (c.send slot lat x).send slot lat .satf else c.send slot lat x

/-- A row of Table FACET-5 whose result is a number in S_D. -/
structure ScalarRow where
  slot : Issue → Instr
  sat : Bool
  rnd : Bool
  lat : Nat
  val : Issue → Word → Word → Int

/-- Rounding as RND says (R169), on the exact quotient by `2 ^ n`. -/
def rounded (rnd : Nat) (x : Int) (n : Nat) : Int :=
  let q := x / 2 ^ n
  let r := x % 2 ^ n
  if n = 0 ∨ rnd = 0 ∨ 2 * r < 2 ^ n then q
  else if 2 * r > 2 ^ n then q + 1
  else if rnd = 1 then (if q % 2 = 0 then q else q + 1)
  else if 0 ≤ x then q + 1 else q

/-- Table FACET-5, register forms with an S result. -/
def scalarRows : List ScalarRow :=
  [⟨.add, true, false, 1, fun _ a b => a.toInt + b.toInt⟩,
   ⟨.sub, true, false, 1, fun _ a b => a.toInt - b.toInt⟩,
   ⟨.mul, true, false, 3, fun _ a b => a.toInt * b.toInt⟩,
   ⟨.mulh, true, false, 3, fun _ a b => a.toInt * b.toInt / 2 ^ 32⟩,
   ⟨.and, false, false, 1, fun _ a b => (a &&& b).toInt⟩,
   ⟨.or, false, false, 1, fun _ a b => (a ||| b).toInt⟩,
   ⟨.xor, false, false, 1, fun _ a b => (a ^^^ b).toInt⟩,
   ⟨.shl, true, false, 1, fun _ a b => a.toInt * 2 ^ (b.toNat % 32)⟩,
   ⟨.shr, false, false, 1, fun _ a b => (a >>> (b.toNat % 32)).toInt⟩,
   ⟨.sra, true, true, 1, fun i a b => rounded i.rnd a.toInt (b.toNat % 32)⟩,
   ⟨.min, true, false, 1, fun _ a b => if a.toInt ≤ b.toInt then a.toInt else b.toInt⟩,
   ⟨.max, true, false, 1, fun _ a b => if a.toInt ≤ b.toInt then b.toInt else a.toInt⟩]

/-- A comparison of Table FACET-5. -/
def compareRows : List ((Issue → Instr) × (Word → Word → Bool)) :=
  [(.cmpeq, fun a b => decide (a = b)), (.cmplt, fun a b => decide (a.toInt < b.toInt)), (.cmpltu, fun a b => decide (a.toNat < b.toNat))]

/-- A predicate operation of Table FACET-5: the mnemonic's slot, its fields, and the bits it gives. -/
def predicateRows : List ((Issue → Instr) × Uses × (Issue → FacetCore → Nat)) :=
  [(.pand, { d := 8, a := 8, b := 8 }, fun i c => c.rP i.a &&& c.rP i.b),
   (.por, { d := 8, a := 8, b := 8 }, fun i c => c.rP i.a ||| c.rP i.b),
   (.pnot, { d := 8, a := 8, b := 0 }, fun i c => c.rP i.a ^^^ 0xFFFF),
   (.pmov, { d := 8, b := 0 }, fun i c => (c.rS i.a).toNat % 65536)]

/-- A row of Table FACET-6 whose result is a number in each lane of a vector or of an accumulator. -/
structure LaneRow where
  slot : Issue → Instr
  uses : Uses
  lat : Nat
  val : Issue → FacetCore → Nat → Int

/-- Table FACET-6, rows that write V_D. -/
def vectorRows : List LaneRow :=
  [⟨.vadd, { sat := true }, 1, fun i c n => c.vI i.a n + c.vI i.b n⟩,
   ⟨.vsub, { sat := true }, 1, fun i c n => c.vI i.a n - c.vI i.b n⟩,
   ⟨.vneg, { sat := true, b := 0 }, 1, fun i c n => -(c.vI i.a n)⟩,
   ⟨.vabs, { sat := true, b := 0 }, 1, fun i c n => if 0 ≤ c.vI i.a n then c.vI i.a n else -(c.vI i.a n)⟩,
   ⟨.vmin, { sat := true }, 1, fun i c n => if c.vI i.a n ≤ c.vI i.b n then c.vI i.a n else c.vI i.b n⟩,
   ⟨.vmax, { sat := true }, 1, fun i c n => if c.vI i.a n ≤ c.vI i.b n then c.vI i.b n else c.vI i.a n⟩,
   ⟨.vand, {}, 1, fun i c n => (c.vW i.a n &&& c.vW i.b n).toInt⟩,
   ⟨.vor, {}, 1, fun i c n => (c.vW i.a n ||| c.vW i.b n).toInt⟩,
   ⟨.vxor, {}, 1, fun i c n => (c.vW i.a n ^^^ c.vW i.b n).toInt⟩,
   ⟨.vshl, { sat := true }, 1, fun i c n => c.vI i.a n * 2 ^ ((c.rS i.b).toNat % 32)⟩,
   ⟨.vsra, { sat := true, rnd := true }, 1, fun i c n => rounded i.rnd (c.vI i.a n) ((c.rS i.b).toNat % 32)⟩,
   ⟨.aext, { sat := true, a := 8, rnd := true }, 2, fun i c n => rounded i.rnd (nth 0 (c.rA i.a) n) i.b⟩,
   ⟨.vsplat, { b := 0 }, 1, fun i c _ => (c.rS i.a).toInt⟩,
   ⟨.vperm, {}, 1, fun i c n => c.vI i.a ((c.vW i.b n).toNat % 16)⟩,
   ⟨.vsel, { mod := true }, 1, fun i c n => if (c.rP i.mod).testBit n then c.vI i.a n else c.vI i.b n⟩,
   ⟨.vmov, { b := 0 }, 1, fun i c n => c.vI i.a n⟩]

/-- Table FACET-6, rows of one cycle that write A(D) and use no multiplier. -/
def accumulatorRows : List LaneRow :=
  [⟨.aclr, { d := 8, a := 0, b := 0 }, 1, fun _ _ _ => 0⟩,
   ⟨.ains, { sat := true, d := 8 }, 1, fun i c n => c.vI i.a n * 2 ^ i.b⟩,
   ⟨.ashr, { sat := true, d := 8, a := 0, rnd := true }, 1, fun i c n => rounded i.rnd (nth 0 (c.rA i.d) n) i.b⟩]

/-- The complex product at a lane: even lanes are real, odd ones imaginary. -/
def complexAt (c : FacetCore) (i : Issue) (sign : Int) (n : Nat) : Int :=
  let e := 2 * (n / 2)
  if n % 2 = 0 then c.vI i.a e * c.vI i.b e - c.vI i.a (e + 1) * (sign * c.vI i.b (e + 1))
  else c.vI i.a e * (sign * c.vI i.b (e + 1)) + c.vI i.a (e + 1) * c.vI i.b e

/-- A multiplier row of Table FACET-6: whether consecutive ones see each other's result (R167), and whether the bundle after it
may hold no multiplier (R166). -/
structure MultiplierRow where
  row : LaneRow
  chained : Bool
  wide : Bool

/-- Table FACET-6, the multiplier rows that write A(D); all take the same fields. -/
def multiplierRows : List MultiplierRow :=
  let u : Uses := { sat := true, d := 8 }
  [⟨⟨.vmpy, u, 3, fun i c n => c.vI i.a n * c.vI i.b n⟩, true, false⟩,
   ⟨⟨.vmac, u, 3, fun i c n => nth 0 (c.rAfwd i.d) n + c.vI i.a n * c.vI i.b n⟩, true, false⟩,
   ⟨⟨.vmsc, u, 3, fun i c n => nth 0 (c.rAfwd i.d) n - c.vI i.a n * c.vI i.b n⟩, true, false⟩,
   ⟨⟨.vmacs, u, 3, fun i c n => nth 0 (c.rA i.d) n + c.vI i.a n * (c.rS i.b).toInt⟩, false, false⟩,
   ⟨⟨.vcmpy, u, 3, fun i c n => complexAt c i 1 n⟩, false, true⟩,
   ⟨⟨.vcmac, u, 3, fun i c n => nth 0 (c.rA i.d) n + complexAt c i 1 n⟩, false, true⟩,
   ⟨⟨.vcmacj, u, 3, fun i c n => nth 0 (c.rA i.d) n + complexAt c i (-1) n⟩, false, true⟩]

/-- Lanes whose predicate bit is set, each with a number brought into `w` bits, and whether any was clamped. -/
def laneResults (c : FacetCore) (i : Issue) (w : Nat) (f : Nat → Int) : List (Nat × Int) × Bool :=
  let on := (List.range 16).filter fun n => (c.rP i.pred).testBit n
  (on.map fun n => (n, brought w i.sat (f n)), i.sat && on.any fun n => outside w (f n))

/-- A comparison of lanes (Table FACET-6). -/
def laneCompareRows : List ((Issue → Instr) × (Int → Int → Bool)) :=
  [(.vcmpeq, fun a b => decide (a = b)), (.vcmplt, fun a b => decide (a < b)), (.vcmple, fun a b => decide (a ≤ b))]

/-- A load of Table FACET-7: its size, its registers, and what lands when its bytes are `bs`. -/
structure LoadRow where
  slot : Issue → Instr
  size : Nat
  regs : Nat
  land : Issue → FacetCore → List Byte → Land

def loadRows : List LoadRow :=
  [⟨.ldW, 4, 32, fun i _ bs => .s i.dr (wordN (leNat bs))⟩,
   ⟨.ldV, 64, 32, fun i c bs => .v (physV c.carousel i.dr)
      (((List.range 16).filter fun n => (c.rP i.mPred).testBit n).map fun n => (n, wordN (leAt bs (4 * n) 4)))⟩,
   ⟨.ldB, 4, 32, fun i c bs => .v (physV c.carousel i.dr)
      (((List.range 16).filter fun n => (c.rP i.mPred).testBit n).map fun n => (n, wordN (leNat bs)))⟩,
   ⟨.ldP, 4, 8, fun i _ bs => .p i.dr (leNat bs % 65536) 0xFFFF⟩]

/-- A store of Table FACET-7: its size, its registers, whether any lane's predicate lets it run, and its bytes. -/
structure StoreRow where
  slot : Issue → Instr
  size : Nat
  regs : Nat
  lanes : Bool
  bytes : Issue → FacetCore → List (Option Byte)

def storeRows : List StoreRow :=
  [⟨.stW, 4, 32, false, fun i c => (leBytes 4 (c.rS i.dr).toNat).map some⟩,
   ⟨.stV, 64, 32, true, fun i c => (List.range 16).flatMap fun n =>
      if (c.rP i.mPred).testBit n then (leBytes 4 (c.vW i.dr n).toNat).map some else [none, none, none, none]⟩,
   ⟨.stP, 4, 8, false, fun i c => (leBytes 4 (wordN (c.rP i.dr)).toNat).map some⟩]

/-! ### Command packets -/

/-- An opcode of Table CMD-1, its rules, and its command. -/
structure KcpRow where
  op : Nat
  spec : OpSpec
  send : Packet → Instr

/-- Opcodes that Ganen prepares and enters in the state delta as they came (R201, R202). -/
def deferredRows : List KcpRow :=
  [⟨0x0006, specRenderRate, .sysRenderRate⟩, ⟨0x0009, specSysKernelRun, .sysKernelRun⟩, ⟨0x000A, specSysKernelUnload, .sysKernelUnload⟩,
   ⟨0x0100, specZoneSet, .zoneSet⟩, ⟨0x0101, specZoneExclSet, .zoneExclSet⟩, ⟨0x0103, specFeedSet, .feedSet⟩,
   ⟨0x0105, specFeedWithdraw, .feedWithdraw⟩, ⟨0x0106, specFeedRestore, .feedRestore⟩, ⟨0x0108, specLayoutResolve, .layoutResolve⟩,
   ⟨0x0200, specObjectSet, .objectSet⟩, ⟨0x0201, specObjectPosBulk, .objectPosBulk⟩, ⟨0x0203, specObjectRestore, .objectRestore⟩,
   ⟨0x0300, specRouteSet, .routeSet⟩, ⟨0x0301, specRouteDelete, .routeDelete⟩, ⟨0x0400, specChainSet, .chainSet⟩,
   ⟨0x0401, specBiquadSet, .biquadSet⟩, ⟨0x0501, specFilterLibFree, .filterLibFree⟩, ⟨0x0502, specFilterStage, .filterStage⟩,
   ⟨0x0503, specFilterSwap, .filterSwap⟩, ⟨0x0504, specFilterDiscard, .filterDiscard⟩, ⟨0x0505, specFilterDirect, .filterDirect⟩,
   ⟨0x0506, specFilterAb, .filterAb⟩, ⟨0x0600, specLoupeZoneSet, .loupeZoneSet⟩, ⟨0x0601, specLoupeInputSet, .loupeInputSet⟩,
   ⟨0x0602, specLoupeSync, .loupeSync⟩, ⟨0x0603, specLoupeJobStart, .loupeJobStart⟩, ⟨0x0604, specLoupeJobAbort, .loupeJobAbort⟩,
   ⟨0x0605, specLoupeLearn, .loupeLearn⟩, ⟨0x0607, specLoupeCompClear, .loupeCompClear⟩, ⟨0x060A, specLoupeDerive, .loupeDerive⟩,
   ⟨0x0700, specNetportSet, .netportSet⟩, ⟨0x0701, specFlowSet, .flowSet⟩, ⟨0x0702, specFlowDelete, .flowDelete⟩,
   ⟨0x0705, specNetKcpSet, .netKcpSet⟩, ⟨0x0800, specPtpSet, .ptpSet⟩, ⟨0x0801, specRefInputSet, .refInputSet⟩,
   ⟨0x0802, specRefPrioritySet, .refPrioritySet⟩, ⟨0x0803, specRefForce, .refForce⟩, ⟨0x0804, specTriggerSet, .triggerSet⟩,
   ⟨0x0900, specPortSet, .portSet⟩, ⟨0x0901, specPortMask, .portMask⟩, ⟨0x0902, specPortRun, .portRun⟩,
   ⟨0x0903, specSidetoneSet, .sidetoneSet⟩, ⟨0x0C02, specPwrDomainRetry, .pwrDomainRetry⟩]

/-- Opcodes that Ganen answers at once (R202, R474), but for those whose checks differ: SYS_INFO, SYS_SESSION_OPEN, SYS_SEQ_QUERY
and DIAG_REG_WRITE. -/
def immediateRows : List KcpRow :=
  [⟨0x0002, specSessionClose, .sysSessionClose⟩, ⟨0x0004, specEventMask, .sysEventMask⟩, ⟨0x0005, specKeySet, .sysKeySet⟩,
   ⟨0x0007, specSysStatus, .sysStatus⟩, ⟨0x000B, specSysKernelRead, .sysKernelRead⟩, ⟨0x0102, specZoneRead, .zoneRead⟩,
   ⟨0x0104, specFeedRead, .feedRead⟩, ⟨0x0107, specLayoutStatus, .layoutStatus⟩, ⟨0x0202, specObjectRead, .objectRead⟩,
   ⟨0x0302, specRouteRead, .routeRead⟩, ⟨0x0303, specMatrixStatus, .matrixStatus⟩, ⟨0x0402, specChainRead, .chainRead⟩,
   ⟨0x0403, specFeedStatus, .feedStatus⟩, ⟨0x0507, specFilterRead, .filterRead⟩, ⟨0x0608, specLoupeAuditRead, .loupeAuditRead⟩,
   ⟨0x0609, specLoupeJobRead, .loupeJobRead⟩, ⟨0x0703, specFlowRead, .flowRead⟩, ⟨0x0704, specNetportRead, .netportRead⟩,
   ⟨0x0805, specCaptureRead, .captureRead⟩, ⟨0x0806, specTimeRead, .timeRead⟩, ⟨0x0807, specRefStatus, .refStatus⟩,
   ⟨0x0904, specPortRead, .portRead⟩, ⟨0x0A00, specPairSet, .pairSet⟩, ⟨0x0A01, specPairStatus, .pairStatus⟩,
   ⟨0x0A02, specPairSync, .pairSync⟩, ⟨0x0A03, specPairHandover, .pairHandover⟩, ⟨0x0B00, specTxnBegin, .txnBegin⟩,
   ⟨0x0B02, specTxnAbort, .txnAbort⟩, ⟨0x0C03, specPwrStatus, .pwrStatus⟩, ⟨0x0F00, specWindowUnlock, .diagWindowUnlock⟩,
   ⟨0x0F01, specWindowLock, .diagWindowLock⟩, ⟨0x0F02, specRegRead, .diagRegRead⟩, ⟨0x0F04, specDiagCounters, .diagCounters⟩,
   ⟨0x0F05, specDiagInclusionRead, .diagInclusionRead⟩, ⟨0x0F06, specDiagFacetRetry, .diagFacetRetry⟩, ⟨0x0F07, specDiagLifecycle, .diagLifecycle⟩]

/-- Opcodes that only read. -/
def readRows : List KcpRow :=
  [⟨0x0007, specSysStatus, .sysStatus⟩, ⟨0x000B, specSysKernelRead, .sysKernelRead⟩, ⟨0x0102, specZoneRead, .zoneRead⟩,
   ⟨0x0104, specFeedRead, .feedRead⟩, ⟨0x0107, specLayoutStatus, .layoutStatus⟩,
   ⟨0x0302, specRouteRead, .routeRead⟩, ⟨0x0402, specChainRead, .chainRead⟩, ⟨0x0507, specFilterRead, .filterRead⟩,
   ⟨0x0609, specLoupeJobRead, .loupeJobRead⟩]

/-- Opcodes that enter the delta with more than the command, or in another form (R156, R225, R420, R429). -/
def shapedRows : List KcpRow :=
  [⟨0x0008, specSysKernelLoad, .sysKernelLoad⟩, ⟨0x0500, specFilterLibWrite, .filterLibWrite⟩, ⟨0x0606, specLoupeVeto, .loupeVeto⟩,
   ⟨0x0C00, specPwrState, .pwrState⟩, ⟨0x0C01, specPwrOppoint, .pwrOppoint⟩]

/-- What a command that entered the delta does where its delta takes effect: the state before its entry and the state after. -/
structure EffectRow where
  op : Nat
  spec : OpSpec
  send : Packet → Instr
  does : Cmd → State → State → Prop

/-- An object's parameters but those that its own changes of side, position, Doppler and placement set. -/
def plainObj (q : Obj) : Obj := { q with zone := 0, source := 0, dense := false, pos := {}, doppler := false, ext := false }

/-- Every feed of a list takes what `g` gives it, and no other feed does. -/
def everyFeed (fs : List Nat) (w t : State) (g : State → State → Nat → Prop) (same : State → State → Nat → Prop) : Prop :=
  (∀ f ∈ fs, g w t f) ∧ ∀ f, f ∉ fs → same w t f

/-- Commands on zones, feeds, objects, routes, chains and filters. -/
def renderEffects : List EffectRow :=
  [⟨0x0006, specRenderRate, .sysRenderRate, fun c w t => t.render.rate96 = (c.at 20 1 == 1) ∧
      (w.render.rate96 ≠ (c.at 20 1 == 1) → t.render.run = false ∧ t.render.changing = true)⟩,
   ⟨0x0100, specZoneSet, .zoneSet, fun c w t => t.zone (c.at 20 2) = zoneSet c (w.zone (c.at 20 2)) ∧
      ∀ y, y ≠ c.at 20 2 → t.zone y = w.zone y⟩,
   ⟨0x0101, specZoneExclSet, .zoneExclSet, fun c w t =>
      let lo : V3 := { x := c.int 24 4, y := c.int 32 4, z := c.int 40 4 }
      let hi : V3 := { x := c.int 28 4, y := c.int 36 4, z := c.int 44 4 }
      (t.zone (c.at 20 2)).excl = (w.zone (c.at 20 2)).excl.set (c.at 22 1) { on := c.at 23 1 == 1, lo := lo, hi := hi } ∧
      ∀ y, y ≠ c.at 20 2 → t.zone y = w.zone y⟩,
   ⟨0x0103, specFeedSet, .feedSet, fun c w t => t.feed (c.at 20 2) = feedSet c [] (w.feed (c.at 20 2)) ∧
      ∀ g, g ≠ c.at 20 2 → t.feed g = w.feed g⟩,
   ⟨0x0105, specFeedWithdraw, .feedWithdraw, fun c w t => everyFeed (targets w (c.at 20 2)) w t
      (fun w t f => (w.feed f).aux = false → (t.feed f).withdrawn = true) (fun w t f => t.feed f = w.feed f)⟩,
   ⟨0x0106, specFeedRestore, .feedRestore, fun c w t => everyFeed (targets w (c.at 20 2)) w t
      (fun w t f => (t.feed f).withdrawn = false ∧ ((w.lf f).st = 5 → (t.lf f).st = 1)) (fun w t f => t.feed f = w.feed f)⟩,
   ⟨0x0108, specLayoutResolve, .layoutResolve, fun c w t => w.standby = false → (t.zoneRt (c.at 20 2)).again = true⟩,
   ⟨0x0200, specObjectSet, .objectSet, fun c w t =>
      let o := c.at 20 2
      let m := c.at 24 4
      plainObj (t.obj o) = plainObj (objectSet c (w.obj o)) ∧ (m.testBit 1 = true → (t.obj o).pos = c.v3 32) ∧
      (m.testBit 10 = true → (t.obj o).doppler = (c.at 72 1).testBit 0) ∧ (m.testBit 17 = true → (t.obj o).ext = (c.at 75 1 == 1)) ∧
      (w.xfBusy o = false → (m.testBit 0 = true → (t.obj o).zone = c.at 28 1) ∧
        (m.testBit 13 = true → (t.obj o).dense = (c.at 72 1).testBit 2) ∧ (m.testBit 18 = true → (t.obj o).source = c.at 76 2)) ∧
      ∀ j, j ≠ o → t.obj j = w.obj j⟩,
   ⟨0x0201, specObjectPosBulk, .objectPosBulk, fun c w t => ((bulkEntries c).map (·.1)).Nodup →
      (∀ e ∈ bulkEntries c, (holdSample 0 (w.objRt e.1).held (c.time 20) e.2).2 = false → (t.obj e.1).pos = e.2) ∧
      ∀ o, o ∉ (bulkEntries c).map (·.1) → t.obj o = w.obj o⟩,
   ⟨0x0203, specObjectRestore, .objectRestore, fun c w t => (∀ i < c.at 22 2, (t.objRt (c.at 20 2 + i)).shed = false) ∧
      ∀ o, o < c.at 20 2 ∨ c.at 20 2 + c.at 22 2 ≤ o → t.objRt o = w.objRt o⟩,
   ⟨0x0300, specRouteSet, .routeSet, fun c w t => w.xfBusy (c.at 22 2) = false →
      (∀ q, (w.routeRt (c.at 20 2)).cur = some q → w.xfBusy q.obj = false) → (t.routeRt (c.at 20 2)).cur =
        some { obj := c.at 22 2, feed := c.at 24 2, tap := c.at 26 1, gain := c.int 28 2, follow := c.at 27 1 == 1 }⟩,
   ⟨0x0301, specRouteDelete, .routeDelete, fun c w t =>
      (∀ q, (w.routeRt (c.at 20 2)).cur = some q → w.xfBusy q.obj = false) → (t.routeRt (c.at 20 2)).cur = none⟩,
   ⟨0x0400, specChainSet, .chainSet, fun c w t => everyFeed (targets w (c.at 20 2)) w t
      (fun w t f => t.chain f = chainSet c (w.chain f)) (fun w t f => t.chain f = w.chain f)⟩,
   ⟨0x0401, specBiquadSet, .biquadSet, fun c w t => everyFeed (targets w (c.at 20 2)) w t
      (fun w t f => t.chain f = { w.chain f with biq := setSections (w.chain f).biq (c.at 22 1) (biqSections c) })
      (fun w t f => t.chain f = w.chain f)⟩,
   ⟨0x0500, specFilterLibWrite, .filterLibWrite, fun c w t => libFinal c = true → mget {} t.render.lib (libName c) =
        { len := c.at 22 2, entry := libName c, taps := tapsOf (c.bytes 32) (c.at 22 2) } ∧
      ∀ i, i ≠ libName c → mfind t.render.lib i = mfind w.render.lib i⟩,
   ⟨0x0501, specFilterLibFree, .filterLibFree, fun c w t => mfind t.render.lib (c.at 20 2) = none ∧
      ∀ i, i ≠ c.at 20 2 → mfind t.render.lib i = mfind w.render.lib i⟩,
   ⟨0x0502, specFilterStage, .filterStage, fun c w t => t.render.shadow = { st := 1, set := firSet w c 24 }⟩,
   ⟨0x0503, specFilterSwap, .filterSwap, fun _ w t => w.render.shadow.st = 2 → t.render.shadow.st = 3 ∧
      t.render.shadow.since = w.render.n ∧ ((w.render.shadow.set.map (·.1)).Nodup →
        ∀ e ∈ w.render.shadow.set, (t.feedRt e.1).fir = e.2 ∧ (t.feedRt e.1).shadow = true)⟩,
   ⟨0x0504, specFilterDiscard, .filterDiscard, fun _ w t =>
      (w.render.shadow.st = 1 ∨ w.render.shadow.st = 2) → t.render.shadow = {}⟩,
   ⟨0x0505, specFilterDirect, .filterDirect, fun c w t => t.render.direct =
      some { feeds := firSet w c 24, left := directUnits (firSet w c 24), count := (firSet w c 24).length }⟩,
   ⟨0x0506, specFilterAb, .filterAb, fun c w t => t.render.shadow.st = 4 ∧ t.render.shadow.set = firSet w c 28 ∧
      (((firSet w c 28).map (·.1)).Nodup → ∀ e ∈ firSet w c 28, (t.feedRt e.1).ab =
        some { b := e.2, start := w.render.n + 2, n := c.at 22 2, equalGain := c.at 24 1 == 1 })⟩]

/-- Commands on kernels, Loupe, the network, time, the audio ports and power. -/
def deviceEffects : List EffectRow :=
  [⟨0x0008, specSysKernelLoad, .sysKernelLoad, fun c w t => ∀ k, kFinal c = true → unplaced w = [] → lowest w 1 = some k →
      (sharePlace w (shareOf (c.bytes 28))).isSome = true → t.fst k = 3 ∧
        (mfind t.facets.kernels (kSlot c)).map (fun q => (q.facet, q.run, q.img)) = some (k, false, c.bytes 28)⟩,
   ⟨0x0009, specSysKernelRun, .sysKernelRun, fun c w t => unplaced w = [] → mhas w.facets.kernels (kSlot c) = true →
      (mfind t.facets.kernels (kSlot c)).map (·.run) = some (c.at 21 1 == 1)⟩,
   ⟨0x000A, specSysKernelUnload, .sysKernelUnload, fun c w t => unplaced w = [] → mfind t.facets.kernels (kSlot c) = none⟩,
   ⟨0x0600, specLoupeZoneSet, .loupeZoneSet, fun c w t => ((w.lz (c.at 20 2)).policy = 0 ∨ (lzoneSet c (w.lz (c.at 20 2))).policy ≠ 0) →
      t.lz (c.at 20 2) = lzoneSet c (w.lz (c.at 20 2)) ∧ ∀ y, y ≠ c.at 20 2 → t.lz y = w.lz y⟩,
   ⟨0x0601, specLoupeInputSet, .loupeInputSet, fun c w t =>
      ((c.at 24 4).testBit 1 = true → mget {} t.loupe.mic (16 * c.at 20 1 + c.at 21 1) = c.v3 32) ∧
      ((c.at 24 4).testBit 0 = true → c.at 20 1 < 16 → inCfgErr w (c.at 20 1) (wordN (c.at 28 4)) = false →
        inCfgErr w (c.at 20 1) (wordN (c.at 28 4) &&& 0x031F013F) = false →
        t.reg (aLin (c.at 20 1)) = wordN (c.at 28 4) &&& 0x031F013F)⟩,
   ⟨0x0602, specLoupeSync, .loupeSync, fun c w t => ∀ i, (t.lin i).st = (if (w.lin i).st = 2 then 1 else (w.lin i).st) ∧
      (c.at 20 1 = 1 → (t.lin i).m = 0)⟩,
   ⟨0x0603, specLoupeJobStart, .loupeJobStart, fun c w t => t.loupe.job = some w.loupe.nextJob ∧
      mfind t.loupe.jobs w.loupe.nextJob = some { jobOf c with going := true, start := w.render.n + 2 } ∧
      t.loupe.nextJob = (w.loupe.nextJob + 1) % 2 ^ 16⟩,
   ⟨0x0604, specLoupeJobAbort, .loupeJobAbort, fun c w t => mhas w.loupe.jobs (c.at 20 2) = true → t.loupe.job = none ∧
      (mfind t.loupe.jobs (c.at 20 2)).map (fun q => (q.result, q.going)) = some (2, false)⟩,
   ⟨0x0605, specLoupeLearn, .loupeLearn, fun c w t => c.at 22 2 = 0xFFFF → everyFeed (targets w (c.at 20 2)) w t
      (fun _ t f => (t.lf f).learn = true) (fun w t f => t.lf f = w.lf f)⟩,
   ⟨0x0607, specLoupeCompClear, .loupeCompClear, fun c w t => everyFeed (targets w (c.at 20 2)) w t
      (fun _ t f => (t.lf f).gainTgt = 0 ∧ (t.lf f).delTgt = 0) (fun w t f => t.lf f = w.lf f)⟩,
   ⟨0x060A, specLoupeDerive, .loupeDerive, fun c w t =>
      let n := respCount w (c.at 20 2)
      (∀ i < n, ∃ taps, taps.length = c.at 24 2 ∧ mfind t.render.lib (c.at 22 2 + i) =
        some { len := c.at 24 2, entry := c.at 22 2 + i, taps := taps }) ∧
      ∀ i, i < c.at 22 2 ∨ c.at 22 2 + n ≤ i → mfind t.render.lib i = mfind w.render.lib i⟩,
   ⟨0x0700, specNetportSet, .netportSet, fun c _ t =>
      let k := c.at 20 1
      let m := c.at 24 4
      k < 6 → (m.testBit 6 = true → (t.np k).ttl = c.at 41 1) ∧ (m.testBit 7 = true → t.reg (aNet k + 12) = wordN (c.at 42 2)) ∧
      (m.testBit 8 = true → unitMac t k = c.at 44 2 * 2 ^ 32 + c.at 46 4) ∧
      (m.testBit 9 = true → unitIp t k = c.at 52 4 ∧ (t.np k).ipBits = c.at 56 1 ∧ (t.np k).gateway = c.at 60 4) ∧
      (m.testBit 10 = true → svcMac t k = c.at 64 2 * 2 ^ 32 + c.at 66 4 ∧ svcIp t k = c.at 72 4)⟩,
   ⟨0x0701, specFlowSet, .flowSet, fun c w t => t.flow (c.at 20 2) = flowMade c (w.flow (c.at 20 2)) ∧
      ∀ g, g ≠ c.at 20 2 → t.flow g = w.flow g⟩,
   ⟨0x0702, specFlowDelete, .flowDelete, fun c w t => t.flow (c.at 20 2) = {} ∧ ∀ g, g ≠ c.at 20 2 → t.flow g = w.flow g⟩,
   ⟨0x0705, specNetKcpSet, .netKcpSet, fun c _ t => ∀ k < 6,
      t.reg (aNet k + 0x28) = wordN (c.at 20 2 + b2n (!isMedia k || (c.at 22 1).testBit k) * 2 ^ 16)⟩,
   ⟨0x0800, specPtpSet, .ptpSet, fun c w t => c.at 20 1 < 2 →
      { t.slot (c.at 20 1) with st := 0, steered := false, hasGm := false } =
      { ptpSet c (w.slot (c.at 20 1)) with st := 0, steered := false, hasGm := false }⟩,
   ⟨0x0801, specRefInputSet, .refInputSet, fun c w t =>
      (c.at 20 1 < 6 → let q := refSet c (w.ref (c.at 20 1)); let r := t.ref (c.at 20 1)
        (r.enable, r.cfgLevel, r.rate, r.tol, r.disq, r.dwell) = (q.enable, q.cfgLevel, q.rate, q.tol, q.disq, q.dwell)) ∧
      (c.at 20 1 = 6 → ((c.at 24 4).testBit 6 = true → t.time.sel.holdLimit = c.at 44 4) ∧
        ((c.at 24 4).testBit 7 = true → t.time.sel.stab = c.at 48 4))⟩,
   ⟨0x0802, specRefPrioritySet, .refPrioritySet, fun c _ t => t.prio = ((List.range 8).map fun i => c.at (20 + i) 1) ∧
      t.reg aClksel = BitVec.ofNat 32 (c.at 30 2 * 2 ^ 16 + c.at 32 2 * 16 + c.at 28 1)⟩,
   ⟨0x0803, specRefForce, .refForce, fun c _ t => (c.at 20 1 = 0xFF → t.time.sel.forced = false) ∧
      (c.at 20 1 ≠ 0xFF → t.time.sel.sel = some (c.at 20 1) ∧ t.time.sel.forced = true)⟩,
   ⟨0x0804, specTriggerSet, .triggerSet, fun c _ t =>
      let a := aTime + 0x2A0
      t.reg a = BitVec.ofNat 32 (c.at 21 1 + 2 * c.at 20 1 + 8 * c.at 22 1) ∧ t.reg (a + 0xC) = BitVec.ofNat 32 (c.at 32 4) ∧
      t.reg (a + 0x10) = BitVec.ofNat 32 (c.at 36 4) ∧ t.reg (a + 0x14) = BitVec.ofNat 32 (c.at 40 4)⟩,
   ⟨0x0900, specPortSet, .portSet, fun c w t => t.pctl (c.at 20 1) = portSet c (w.pctl (c.at 20 1))⟩,
   ⟨0x0901, specPortMask, .portMask, fun c w t => t.reg (aPort (c.at 20 1) + 0x10) = wordN (c.at 24 4) ∧
      t.reg (aPort (c.at 20 1) + 0x14) = wordN (c.at 28 4) ∧
      (c.at 21 1 = 1 → c.at 20 1 < 16 → (w.port (c.at 20 1)).maskWait = 0 → (t.port (c.at 20 1)).maskWait = 1)⟩,
   ⟨0x0902, specPortRun, .portRun, fun c w t =>
      let p := c.at 20 1
      p < 16 → (t.pctl p).getLsbD 0 = (c.at 21 1 == 1) ∧
      (c.at 21 1 = 1 → (w.port p).st = 0 → ctlMaster (w.pctl p) = false → (t.port p).st = 1) ∧
      (c.at 21 1 ≠ 1 → ((w.port p).st = 2 ∨ (w.port p).st = 3) → (t.port p).st = 4)⟩,
   ⟨0x0903, specSidetoneSet, .sidetoneSet, fun c _ t => t.reg (aRoute (c.at 20 1)) = sideWord c ∧
      t.reg (aRoute (c.at 20 1) + 4) = wordN (c.at 26 2)⟩,
   ⟨0x0C02, specPwrDomainRetry, .pwrDomainRetry, fun c w t => mayRetry w (c.at 20 1) = true → t.dom (c.at 20 1) = 4⟩]

/-- The command that an entry of the delta carries. -/
def entryCmd : Entry → Cmd
  | .command ep x q op txn tg pl _ _ => { ep := ep, sess := x, seq := q, op := op, txn := txn, tagged := tg, payload := pl }
  | _ => { ep := .spi, sess := 0, seq := 0, op := 0, txn := 0, tagged := false, payload := [] }

/-- It is the turn of a packet with opcode `op`: Ganen serves and listens at its endpoint, no packet that no row handles is due, and
among those that wait it comes first (R199, R219). -/
structure Turn (op : Nat) (p : Packet) (s : State) : Prop where
  serving : s.serving = true
  listens : listens s p.ep = true
  noStray : s.strayDue = none
  first : inTurn op p s = true

/-- It is its turn, and it passes checks 1 to 5 of Table KCP-3: it is framed, its Carat and tag hold and its header is in order. -/
structure Framed (op : Nat) (p : Packet) (s : State) : Prop extends Turn op p s where
  framed : badFrame s p = false
  carat : badCarat op p = false
  tag : badTag s op p = false
  version : p.version = 1
  header : badHeader p = false
  sane : p.ganenFault = false

/-- The packet also passes checks 6 and 7: its session is open and bound to its sender, and its number is new. -/
structure InOrder (op : Nat) (p : Packet) (s : State) : Prop extends Framed op p s where
  session : p.session.toNat < 8
  bound : s.bound p.session.toNat p.ep = true
  fresh : (seqTest (s.sess p.session.toNat).h (s.sess p.session.toNat).seen p.seq.toNat).1 = .new

/-- The state once a packet in order is taken: it has left its queue, its session is the one served last, its number is consumed, and
the session's packets carry a tag or not as it did (R197, R199). -/
def State.received (s : State) (p : Packet) : State :=
  let s1 := s.takeRx p.ep
  let s2 := { s1 with kcp := { s1.kcp with lastServed := p.session.toNat } }
  (s2.takeSeq p.session.toNat p.seq.toNat).setSess p.session.toNat fun t => { t with tagged := hasAuth p && isUdp p.ep }

/-- A command that passes checks 9 to 11 outside a transaction, in a state that sees its packet taken. -/
structure Admitted (sp : OpSpec) (c : Cmd) (u : State) : Prop where
  length : sp.len c = true
  allowed : notAllowed sp c u = none
  active : u.handingOver = false ∨ sp.standby = true
  outside : c.txn = 0

/-- The reply of success with no boundary of a delta. -/
def answered (us : List Nat) : ReplyRec := { status := stOK, touched := unitBits us, succeeded := unitBits us }

end Sys2Proof.Machine
end

