-- ==== Sys2Proof/Certificates/Slice0/Obligations.lean ====
section
/-! DEFINITION. The statements for the provers, from the numbered rules of spec/. -/

open Sys2Proof Sys2Proof.Machine


/-! ### Facet instructions -/

/-- O1: every arithmetic and logical row of Table FACET-5: on legal fields and an unstalled bundle the slot completes; with
predicate bit 0 set the number, clamped under SAT and wrapped otherwise, is on its way to S_D with the row's latency, SATF
marked where it clamped; without it the slot leaves the registers alone. ADDI adds its signed immediate. Comparisons give a
predicate of all ones or zeros and predicate operations their bits, one cycle after issue. -/
def Obligations.ScalarAndPredicateSlots : Prop :=
  ((∀ r ∈ scalarRows, ∀ i s, Issues s i → legalR i { sat := r.sat, rnd := r.rnd } = true →
     let c := s.core i.k.val
     let x := r.val i (c.rS i.a) (c.rS i.b)
     exec (r.slot i) s = .next ((s.fetched i).slotDone i (if (c.rP i.pred).testBit 0 then
       c.sends 0 r.lat (.s i.d (BitVec.ofInt 32 (brought 32 i.sat x))) (i.sat && outside 32 x) else c))) ∧
   (∀ i s, Issues s i →
     let c := s.core i.k.val
     let x := (c.rS i.a).toInt + i.imm10
     exec (.addi i) s = .next ((s.fetched i).slotDone i (if (c.rP i.pred).testBit 0 then
       c.sends 0 1 (.s i.d (BitVec.ofInt 32 (brought 32 i.sat x))) (i.sat && outside 32 x) else c)))) ∧
  ((∀ r ∈ compareRows, ∀ i s, Issues s i → legalR i { d := 8 } = true →
     let c := s.core i.k.val
     exec (r.1 i) s = .next ((s.fetched i).slotDone i (if (c.rP i.pred).testBit 0 then
       c.send 0 1 (.p i.d (if r.2 (c.rS i.a) (c.rS i.b) then 0xFFFF else 0) 0xFFFF) else c))) ∧
   (∀ r ∈ predicateRows, ∀ i s, Issues s i → legalR i r.2.1 = true →
     let c := s.core i.k.val
     exec (r.1 i) s = .next ((s.fetched i).slotDone i (if (c.rP i.pred).testBit 0 then
       c.send 0 1 (.p i.d (r.2.2 i c) 0xFFFF) else c))))

/-- O2: NOP changes no register; MOVI sign-extends; MOVHI keeps the low half; MFS reads a special register; MTS writes one.
Taken branches, the count of DBNZ, the return index of CALL, the start or skip of LOOP, and END. -/
def Obligations.MoveAndControlSlots : Prop :=
  (∀ i s, Issues s i →
     let c := s.core i.k.val
     let done := fun c' => Host.Outcome.next ((s.fetched i).slotDone i c')
     (i.f = 0 → exec (.nop i) s = done c) ∧
     (exec (.movi i) s = done (if (c.rP i.lpred).testBit 0 then
       c.send 0 1 (.s i.ld ((BitVec.ofNat 16 i.imm16).signExtend 32)) else c)) ∧
     (exec (.movhi i) s = done (if (c.rP i.lpred).testBit 0 then
       c.send 0 1 (.s i.ld (BitVec.ofNat 32 (i.imm16 * 65536 + (c.rS i.ld).toNat % 65536))) else c)) ∧
     (legalR i { b := 0 } = true → exec (.mfs i) s = done (if (c.rP i.pred).testBit 0 then
       c.send 0 1 (.s i.d (specialReg (s.fetched i) i.k.val c i.a)) else c)) ∧
     (legalR i { d := 13, b := 0 } = true → exec (.mts i) s = done (if (c.rP i.pred).testBit 0 then
       c.send 0 1 (.sp i.d (c.rS i.a)) else c))) ∧
  (∀ i s, Issues s i →
     let c := s.core i.k.val
     let done := fun c' => Host.Outcome.next ((s.fetched i).slotDone i c')
     let on := (c.rP i.pred).testBit 0
     let target := ((c.pc : Int) + i.imm10 + 4096).toNat
     (i.ld = 0 → i.imm16 < 4096 → exec (.jmp i) s = done (if (c.rP i.lpred).testBit 0 then { c with branch := some i.imm16 } else c)) ∧
     (i.ld = 0 → i.imm16 < 4096 → exec (.call i) s = done (if (c.rP i.lpred).testBit 0 then
       { c.send 0 1 (.s 31 (BitVec.ofNat 32 ((c.pc + 1) % 4096))) with branch := some i.imm16 } else c)) ∧
     (legalR i { d := 0, a := 0, b := 0 } = true → exec (.ret i) s = done (if on then
       { c with branch := some ((c.rS 31).toNat % 4096) } else c)) ∧
     (i.sat = false → i.d = 0 → exec (.bnz i) s = done (if on ∧ c.rS i.a ≠ 0 then { c with branch := some target } else c)) ∧
     (i.d = 0 → exec (.dbnz i) s = done (
       let x := (c.rS i.a).toInt - 1
       let c1 := c.sends 0 1 (.s i.a (BitVec.ofInt 32 (brought 32 i.sat x))) (i.sat && outside 32 x)
       if on then (if c.rS i.a = 1 then c1 else { c1 with branch := some target }) else c)) ∧
     (i.sat = false → i.d = 0 → c.loop = none → exec (.loop i) s = done (
       let len := i.bits 2 8 + 1
       if on then
         if c.rS i.a = 0 then { c with skip := some (c.pc + 1 + len) }
         else { c with newLoop := some { start := c.pc + 1, len := len, count := (c.rS i.a).toNat, stages := i.bits 0 2 + 1 } }
       else c)) ∧
     (legalR i { d := 0, a := 0, b := 0 } = true → exec (.endRun i) s = done (if on then { c with ending := true } else c)))

/-- O3: every row of Table FACET-6 that writes V_D gives each lane whose predicate bit is set its number; so do ACLR, AINS and
ASHR for A(D). Lane comparisons write the predicate bits of the lanes that their own predicate selects; VEXTR, VNORM and VCRC
write S_D. -/
def Obligations.LaneAndReductionSlots : Prop :=
  ((∀ r ∈ vectorRows, ∀ i s, Issues s i → legalR i r.uses = true →
     let c := s.core i.k.val
     let l := laneResults c i 32 (r.val i c)
     exec (r.slot i) s = .next ((s.fetched i).slotDone i
       (c.sends 1 r.lat (.v (physV c.carousel i.d) (l.1.map fun e => (e.1, BitVec.ofInt 32 e.2))) l.2))) ∧
   (∀ r ∈ accumulatorRows, ∀ i s, Issues s i → legalR i r.uses = true →
     let c := s.core i.k.val
     let l := laneResults c i 72 (r.val i c)
     exec (r.slot i) s = .next ((s.fetched i).slotDone i (c.sends 1 r.lat (.a i.d l.1 false) l.2)))) ∧
  ((∀ r ∈ laneCompareRows, ∀ i s, Issues s i → legalR i { d := 8 } = true →
     let c := s.core i.k.val
     ∃ bits, (∀ n < 16, bits.testBit n = r.2 (c.vI i.a n) (c.vI i.b n)) ∧ bits < 65536 ∧
       exec (r.1 i) s = .next ((s.fetched i).slotDone i (c.send 1 1 (.p i.d bits (c.rP i.pred))))) ∧
   (∀ i s, Issues s i →
     let c := s.core i.k.val
     let done := fun c' => Host.Outcome.next ((s.fetched i).slotDone i c')
     (legalR i { b := 16 } = true → exec (.vextr i) s = done (if (c.rP i.pred).testBit 0 then
       c.send 1 1 (.s i.d (c.vW i.a i.b)) else c)) ∧
     (legalR i { sat := true, b := 0 } = true → (c.rP i.pred).testBit 0 = true → ∃ m, exec (.vnorm i) s =
         done (c.send 1 2 (.s i.d (BitVec.ofNat 32 m))) ∧ m ≤ 31 ∧
         (∀ n < 16, -(2 ^ (31 - m)) ≤ c.vI i.a n ∧ c.vI i.a n < 2 ^ (31 - m)) ∧
         (m < 31 → ∃ n < 16, c.vI i.a n < -(2 ^ (30 - m)) ∨ 2 ^ (30 - m) ≤ c.vI i.a n)) ∧
     (legalR i { sat := true, b := 0 } = true → (c.rP i.pred).testBit 0 = false → exec (.vnorm i) s = done c) ∧
     (legalR i {} = true → exec (.vcrc i) s = done (if (c.rP i.pred).testBit 0 then
       c.send 1 4 (.s i.d (crc32cSeed (~~~(c.rS i.b)) ((c.rV i.a).flatMap fun w => leBytes 4 w.toNat))) else c))))

/-- O4: the multiplier rows, where the bundle before did not hold one of issue interval 2 and the residues agree. -/
def Obligations.MultiplierSlots : Prop :=
  (∀ r ∈ multiplierRows, ∀ i s, Issues s i → legalR i r.row.uses = true → (s.core i.k.val).hot = false → i.residue = false →
    let c := s.core i.k.val
    let l := laneResults c i 72 (r.row.val i c)
    exec (r.row.slot i) s = .next ((s.fetched i).slotDone i
      { c.sends 1 r.row.lat (.a i.d l.1 r.chained) l.2 with wide := r.wide })) ∧
  (∀ i s, Issues s i → legalR i { sat := true, rnd := true } = true → i.d % 2 = 0 → (s.core i.k.val).hot = false →
      i.residue = false →
    let c := s.core i.k.val
    let t := fun n => rounded i.rnd (c.vI i.b n * c.vI ((i.b + 1) % 32) n) 31
    let p := laneResults c i 32 fun n => c.vI i.a n + t n
    let q := laneResults c i 32 fun n => c.vI i.a n - t n
    let c1 := c.sends 1 4 (.v (physV c.carousel i.d) (p.1.map fun e => (e.1, BitVec.ofInt 32 e.2))) p.2
    exec (.vbfly i) s = .next ((s.fetched i).slotDone i
      { c1.sends 1 4 (.v (physV c.carousel (i.d + 1)) (q.1.map fun e => (e.1, BitVec.ofInt 32 e.2))) q.2 with wide := true }))

/-- O5: a load of an aligned address inside data memory, outside the destinations of GETs not yet waited for, sends the bytes
there; with U the base moves on. Its predicate's bit 0 decides. A store of an aligned address inside data memory holds its bytes
for the bundle's end; a suppressed one holds none. -/
def Obligations.LoadAndStoreSlots : Prop :=
  (∀ r ∈ loadRows, ∀ i s, Issues s i → i.dr < r.regs → (i.circ = true → i.upd = true) → i.dmem ≠ .uncorrectable →
     let c := s.core i.k.val
     let a := (memAddr c i r.size).1
     let b := (memAddr c i r.size).2
     let f := s.fetched i
     ((c.rP i.mPred).testBit 0 = false → exec (r.slot i) s = .next (f.slotDone i c)) ∧
     ((c.rP i.mPred).testBit 0 = true → a % r.size = 0 → a + r.size ≤ 0x80000 →
       (∀ x ∈ c.xfers, x.put = true ∨ a < x.localA ∨ x.localA + x.len ≤ a) →
       let c1 := ({ c with used := c.used + 1 }).send i.mSlot 3 (r.land i c (s.memBytes (facetBase i.k.val + a) r.size))
       let f1 := if i.dmem = .corrected then f.count (aFacetctl + 0x90) else f
       exec (r.slot i) s = .next (f1.slotDone i (if i.upd then c1.send i.mSlot 1 (.s i.base b) else c1)))) ∧
  (∀ r ∈ storeRows, ∀ i s, Issues s i → i.dr < r.regs → (i.circ = true → i.upd = true) → (s.core i.k.val).stored = false →
     let c := { s.core i.k.val with stored := true }
     let a := (memAddr c i r.size).1
     let on := (c.rP i.mPred).testBit 0
     let live := if r.lanes then c.rP i.mPred ≠ 0 else on = true
     let c1 := if i.upd && on then c.send i.mSlot 1 (.s i.base (memAddr c i r.size).2) else c
     (¬ live → exec (r.slot i) s = .next ((s.fetched i).slotDone i c1)) ∧
     (live → a % r.size = 0 → a + r.size ≤ 0x80000 →
       exec (r.slot i) s = .next ((s.fetched i).slotDone i { c1 with used := c.used + 1, stores := [(a, r.bytes i c)] })))


/-! ### Commands -/

/-- O6: a command that Ganen does not answer at once, in order and admitted, whose parameters are good and whose units all
prepare, enters the state delta with the reply that its commit sends: OK, its boundary, its units. Acceptance of a command as it
came changes nothing but the delta in hand: its last entry is the command, and before it stand the entries that were there and
the seeds it draws. No reply leaves yet. -/
def Obligations.AcceptedCommandsEnterTheDelta : Prop :=
  (∀ r ∈ deferredRows ++ shapedRows, ∀ p s, InOrder r.op p s →
     let u := s.received p
     let c := toCmd r.op p
     let t := u.projected
     Admitted r.spec c u → r.spec.atOnce c u = false → r.spec.param c t = none → r.spec.busy c t = none →
     failedUnits u (r.spec.units c t) = [] → wholeCheck t (r.spec.apply c [] t) (r.spec.scalars c t) (r.spec.firs c t) = none →
     let d := r.spec.accept c (u.draw (r.spec.seeds c t))
     let us := unitBits (r.spec.units c t)
     let note := if u.paired && decide (d.1.plen > 4096) then d.2.bezel (.staging 1 d.1.seq) else d.2
     exec (r.send p) s = .next (note.enter (.command d.1.ep d.1.sess d.1.seq d.1.op d.1.txn d.1.tagged d.1.payload
       { status := stOK, boundary := u.acceptAt, touched := us, succeeded := us } (r.spec.data c t)))) ∧
  (∀ r ∈ deferredRows, ∀ p s, InOrder r.op p s →
     let u := s.received p
     let c := toCmd r.op p
     let t := u.projected
     Admitted r.spec c u → r.spec.atOnce c u = false → r.spec.param c t = none → r.spec.busy c t = none →
     failedUnits u (r.spec.units c t) = [] → wholeCheck t (r.spec.apply c [] t) (r.spec.scalars c t) (r.spec.firs c t) = none →
     ∃ v seeds rcd, exec (r.send p) s = .next v ∧
       v.delta.entries = u.delta.entries ++ seeds ++ [.command p.ep c.sess c.seq r.op 0 c.tagged p.payload rcd (r.spec.data c t)] ∧
       (∀ e ∈ seeds, ∃ w i x, e = Entry.seed w i x) ∧ rcd.status = stOK ∧ rcd.boundary = u.acceptAt ∧
       (v.out = u.out ∨ v.out = .bezel (.staging 1 c.seq) :: u.out) ∧
       v = { u with delta := { u.delta with entries := v.delta.entries }, freeCtr := v.freeCtr, out := v.out })

/-- O7: a command that Ganen answers at once acts, and its reply goes to its sender. -/
def Obligations.ImmediateCommandsActAndAnswer : Prop :=
  ∀ r ∈ immediateRows, ∀ p s, InOrder r.op p s →
    let u := s.received p
    let c := toCmd r.op p
    r.spec.len c = true → notAllowed r.spec c u = none → (u.handingOver = false ∨ r.spec.standby = true) →
    (c.txn = 0 ∨ r.spec.ownTxn = true) → r.spec.param c u = none → r.spec.busy c u = none →
    (r.spec.run c u).2.1.status = stOK →
    exec (r.send p) s = .next (r.spec.after c ((r.spec.run c u).1.replyTo c (r.spec.run c u).2.1 (r.spec.run c u).2.2))

/-- O8: a read answers OK and changes nothing but what the packet's arrival and its reply do. SYS_INFO, answered by Ganen with
the part number, the stepping, the lifecycle, the role, the render rate and the grade. SYS_SEQ_QUERY consumes no number and
answers with H and the window; no open session is needed. -/
def Obligations.QueriesAnswerAndChangeNothing : Prop :=
  (∀ r ∈ readRows, ∀ p s, InOrder r.op p s →
     let u := s.received p
     let c := toCmd r.op p
     Admitted r.spec c u → r.spec.param c u = none → r.spec.busy c u = none → (r.spec.run c u).2.1.status = stOK →
     ∃ data, exec (r.send p) s = .next (u.replyTo c (answered (r.spec.units c u)) data)) ∧
  (∀ p s, InOrder 0x0000 p s → bootServes s p.ep = false → p.payload.length = 4 → p.txn = 0 →
     let u := s.received p
     exec (.sysInfo p) s = .next (u.replyTo (toCmd 0 p) (answered [1])
       (beBytes 4 0x9012 ++ beBytes 4 0xB0 ++ [BitVec.ofNat 8 u.sec.lifecycle, BitVec.ofNat 8 u.role,
         BitVec.ofNat 8 (if u.render.rate96 then 1 else 0), BitVec.ofNat 8 (if u.sec.gradeE then 1 else 0)] ++
         beBytes 4 u.boot.ganenVersion.toNat))) ∧
  (∀ p s, Framed 0x0003 p s →
     let x := p.session.toNat
     let s1 := s.takeRx p.ep
     let u := { s1 with kcp := { s1.kcp with lastServed := x } }
     x < 8 → p.payload.length = 4 → p.txn = 0 →
     ∃ t, exec (.sysSeqQuery p) s = .next t ∧
       t = u.replyTo (toCmd 3 p) (answered [1]) (beBytes 4 (s.sess x).h ++ zeros 4 ++ beBytes 8 (s.sess x).seen) ∧
       (t.sess x).h = (s.sess x).h ∧ (t.sess x).seen = (s.sess x).seen)

/-- O9: a SYS_SESSION_OPEN without a tag, of a session that is free or already its sender's, opens it: bound to its sender, with
the packet's number as H, an empty window, the event sequence at 0 and no transaction. What the immediate commands that change
sessions, keys, transactions and the window do: each answers OK. -/
def Obligations.SessionsFollowTheirCommands : Prop :=
  (∀ p s, Framed 0x0001 p s →
     let x := p.session.toNat
     let u := s.takeRx p.ep
     x < 8 → (s.sess x).isOpen = false ∨ (s.sess x).ep = p.ep → (∀ y < 8, y ≠ x → s.bound y p.ep = false) →
     hasAuth p = false → p.payload.length = 4 → (isUdp p.ep = true → beAt p.payload 0 2 ≤ 3600 ∨ beAt p.payload 0 2 = 0xFFFF) →
     s.standby = false → u.handingOver = false → p.txn = 0 → s.Shape → (∀ k < 4, (s.np k).reduced = false) →
     ∃ t, exec (.sysSessionOpen p) s = .next t ∧
       (t.sess x).isOpen = true ∧ (t.sess x).ep = p.ep ∧ (t.sess x).h = p.seq.toNat ∧ (t.sess x).seen = 1 ∧ (t.sess x).evSeq = 0 ∧
       (t.sess x).mask = beAt p.payload 2 2 ∧ (t.sess x).txn = none ∧ (t.sess x).tagged = false ∧
       (t.sess x).replies = [(p.seq.toNat, some (answered [1]))] ∧ ∀ y, y ≠ x → t.sess y = s.sess y) ∧
  ((∀ p s, InOrder 0x0004 p s → Admitted specEventMask (toCmd 4 p) (s.received p) → (s.received p).paired = false → s.Shape →
     ∃ t, exec (.sysEventMask p) s = .next t ∧ (t.sess p.session.toNat).mask = beAt p.payload 0 2 ∧
       ∀ y, y ≠ p.session.toNat → t.sess y = s.sess y) ∧
   (∀ p s, InOrder 0x0002 p s → Admitted specSessionClose (toCmd 2 p) (s.received p) → (s.received p).paired = false →
       s.Shape →
     ∃ t, exec (.sysSessionClose p) s = .next t ∧ (t.sess p.session.toNat).isOpen = false ∧ (t.sess p.session.toNat).txn = none ∧
       (t.sess p.session.toNat).timed = (s.sess p.session.toNat).timed ∧ ∀ y, y ≠ p.session.toNat → t.sess y = s.sess y) ∧
   (∀ p s, InOrder 0x0B00 p s → p.payload.length = 4 → isSpi p.ep = false → (s.received p).standby = false →
       (s.received p).handingOver = false → (s.received p).paired = false → s.Shape →
       p.txn ≠ 0 → (s.sess p.session.toNat).txn = none → (∀ q ∈ (s.sess p.session.toNat).timed, q.id ≠ p.txn.toNat) →
     ∃ t, exec (.txnBegin p) s = .next t ∧ (t.sess p.session.toNat).txn = some { id := p.txn.toNat } ∧
       ∀ y, y ≠ p.session.toNat → t.sess y = s.sess y) ∧
   (∀ p s q, InOrder 0x0B02 p s → p.payload.length = 4 → isSpi p.ep = false → (s.received p).standby = false →
       (s.received p).handingOver = false → (s.received p).paired = false → s.Shape →
       (s.sess p.session.toNat).txn = some q → q.id = p.txn.toNat →
     ∃ t, exec (.txnAbort p) s = .next t ∧ (t.sess p.session.toNat).txn = none ∧ ∀ y, y ≠ p.session.toNat → t.sess y = s.sess y))

/-- O10: SYS_KEY_SET stores a key, or erases its slot with 32 zero bytes, and closes the slot's session. The window opens for
the seconds asked and closes on the command; WINDOW_OPENED and WINDOW_CLOSED go to the sessions that are due them (none here,
for no session asks for that category). DIAG_REG_WRITE in an open window writes its words one after another from its address on,
when no reserved bit is set. -/
def Obligations.KeysWindowAndRegistersFollowTheirCommands : Prop :=
  (∀ p s, InOrder 0x0005 p s →
     let u := s.received p
     let c := toCmd 5 p
     let x := (nth 0 p.payload 0).toNat
     let a := (nth 0 p.payload 1).toNat
     let key := p.payload.drop 4
     p.payload.length = 36 → adminTag c u = true → u.sec.tamperLow = false → p.txn = 0 → x < 8 → a < 4 →
     s.Shape →
     ∃ t, exec (.sysKeySet p) s = .next t ∧ (t.sess x).isOpen = false ∧
       t.sec = { s.sec with keys := t.sec.keys } ∧ (∀ y, y ≠ x → nth none t.sec.keys y = nth none s.sec.keys y) ∧
       nth none t.sec.keys x = (if key = zeros 32 then none else some { key := key, diag := a % 2 == 1, admin := a / 2 == 1 })) ∧
  (∀ s p, (∀ x < 8, ((s.received p).sess x).mask.testBit 15 = false) →
     (InOrder 0x0F00 p s → Admitted specWindowUnlock (toCmd 0x0F00 p) (s.received p) → 1 ≤ beAt p.payload 0 4 →
       beAt p.payload 0 4 ≤ 3600 → ∃ t, exec (.diagWindowUnlock p) s = .next t ∧ t.kcp.window = some (beAt p.payload 0 4)) ∧
     (InOrder 0x0F01 p s → Admitted specWindowLock (toCmd 0x0F01 p) (s.received p) →
       ∃ t, exec (.diagWindowLock p) s = .next t ∧ t.kcp.window = none)) ∧
  (∀ p s, InOrder 0x0F03 p s →
     let u := s.received p
     let c := toCmd 0x0F03 p
     Admitted specRegWrite c u → regParam c = none → regReserved c s = false →
     (regWrites (c.at 20 4) (regValues c) 0 u).1 = none →
     exec (.diagRegWrite p) s = .next ((regWrites (c.at 20 4) (regValues c) 0 u).2.replyTo c (answered [1]) []))

/-- O11: a command of an open transaction is staged and answered STAGED; a commit of an empty one is answered OK and one whose
commands all can be applied enters the delta as one set; the transaction is no longer open. -/
def Obligations.TransactionsStageAndCommit : Prop :=
  (∀ r ∈ deferredRows, ∀ p s q, InOrder r.op p s →
    let u := s.received p
    let c := toCmd r.op p
    r.spec.txn = true → r.spec.len c = true → notAllowed r.spec c u = none → u.handingOver = false →
    c.txn ≠ 0 → (u.sess c.sess).txn = some q → q.id = c.txn → q.bytes + p.payload.length ≤ 2 ^ 20 →
    r.spec.param c (u.projected.withStaged c) = none → u.paired = false → s.Shape →
    ∃ t, exec (r.send p) s = .next t ∧ t.delta = s.delta ∧
      (t.sess c.sess).txn = some { q with cmds := q.cmds ++ [{ seq := c.seq, op := r.op, payload := p.payload }],
                                          bytes := q.bytes + p.payload.length }) ∧
  (∀ p s q, InOrder 0x0B01 p s →
    let u := s.received p
    let c := toCmd 0x0B01 p
    p.payload = zeros 12 → isSpi p.ep = false → u.standby = false → u.handingOver = false → s.Shape →
    (u.sess c.sess).txn = some q → q.id = c.txn →
    ∀ r, runSet u.projected (q.cmds.map (stagedCmd c.ep c.sess c.txn c.tagged)) = .ok r →
      (q.cmds = [] → ∃ t, exec (.txnCommit p) s = .next t ∧ (t.sess c.sess).txn = none ∧ t.delta = s.delta) ∧
      (q.cmds ≠ [] → ∃ t, exec (.txnCommit p) s = .next t ∧ (t.sess c.sess).txn = none ∧
        t = (u.setSess c.sess fun x => { x with txn := none }).enterSet c r false false))

/-- O12: a packet that fails check 1, 2 or 3 leaves its queue, is counted, and has no other effect. A number already received is
answered again with the recorded reply, marked DUP, and a number behind the window with STALE; neither has another effect than
their counts. -/
def Obligations.RejectedPacketsHaveNoEffect : Prop :=
  (∀ r ∈ deferredRows ++ shapedRows ++ immediateRows, ∀ p s, Turn r.op p s →
     let s1 := s.takeRx p.ep
     let u := { s1 with kcp := { s1.kcp with lastServed := p.session.toNat } }
     (badFrame s p = true → exec (r.send p) s = .next (u.count (kDev 0))) ∧
     (badFrame s p = false → badCarat r.op p = true → exec (r.send p) s = .next (u.count (kDev 1))) ∧
     (badFrame s p = false → badCarat r.op p = false → badTag s r.op p = true → exec (r.send p) s = .next (u.count (kDev 2)))) ∧
  (∀ r ∈ deferredRows ++ shapedRows ++ immediateRows, ∀ p s, Framed r.op p s → p.session.toNat < 8 →
     s.bound p.session.toNat p.ep = true →
     let x := p.session.toNat
     let q := p.seq.toNat
     let c := toCmd r.op p
     let s1 := s.takeRx p.ep
     let u := { s1 with kcp := { s1.kcp with lastServed := x } }
     (∀ rcd, (seqTest (s.sess x).h (s.sess x).seen q).1 = .dup →
       (s.sess x).replies.find? (fun e => e.1 == q) = some (q, some rcd) →
       exec (r.send p) s = .next (((u.count (kDev 4)).count (kSess x 1)).deliver
         { ep := p.ep, session := x, seq := q, op := r.op, txn := p.txn.toNat, tagged := c.tagged, body := .reply rcd true [] })) ∧
     ((seqTest (s.sess x).h (s.sess x).seen q).1 = .stale →
       exec (r.send p) s = .next (((u.count (kDev 3)).count (kSess x 0)).replyTo c { status := 0x202, unit := 1 } [])))

/-- O13: a reply to a UDP peer leaves on the network and is counted, with the tag of its session's key where it is tagged; while the
port is paused it waits. One to the SPI slave waits in its buffer; with no buffer posted, one to a ring pair waits for one. An event of a session that is due it goes with its EVENT flag, the session's event sequence, its
transaction, and the PTP time of the occurrence before its payload; the sequence moves on by one and wraps. A session that is
not due it gets none. -/
def Obligations.RepliesAndEventsLeave : Prop :=
  (∀ (s : State) (p : OutPkt),
     (∀ k ip port, p.ep = .udp k ip port → (s.np k.val).up = true → s.netOn = true →
       ((s.np k.val).pause = 0 → s.deliver p = ({ s with out := .udp (s.sign p) :: s.out }).count (aNet k.val + 0xC0)) ∧
       ((s.np k.val).pause ≠ 0 → s.Shape → (s.deliver p).out = s.out ∧
         ((s.deliver p).np k.val).own = (s.np k.val).own ++ [(2, .kcp (s.sign p))])) ∧
     (∀ q, p.tagged = true → nth none s.sec.keys p.session = some q →
       s.sign p = { p with tag := (hmac256 q.key p.core).take 16 }) ∧
     (p.ep = .spi → s.deliver p = { s with kcp := { s.kcp with spiOut := s.kcp.spiOut ++ [p] } }) ∧
     (∀ k, p.ep = .pcie k → s.Shape → (s.ring k.val).posted = [] → (s.ring k.val).waiting = [] →
       (s.deliver p).out = s.out ∧ ((s.deliver p).ring k.val).waiting = [p])) ∧
  (∀ (s : State) x code txn pl, s.Shape → x < 8 →
     let q := s.sess x
     let t := sendEvent code txn pl x s
     (q.isOpen = true → q.mask.testBit (code / 256 % 16) = true → (t.sess x).evSeq = (q.evSeq + 1) % 2 ^ 32 ∧
       (∀ y, y ≠ x → t.sess y = s.sess y) ∧
       (q.ep = .spi → q.evSeq < 2 ^ 32 → txn < 2 ^ 32 → secOf s.nowNs < 2 ^ 64 → ∃ p, t.kcp.spiOut = s.kcp.spiOut ++ [p] ∧
         (nth 0 p.bytes 3).getLsbD 1 = true ∧ beAt p.bytes 8 4 = q.evSeq ∧ beAt p.bytes 16 4 = txn ∧
         beAt p.bytes 20 8 = secOf s.nowNs ∧ beAt p.bytes 28 4 = nsOf s.nowNs ∧ (p.bytes.drop 32).take pl.length = pl)) ∧
     ((q.isOpen = false ∨ q.mask.testBit (code / 256 % 16) = false) → t = s))

/-- O14: in recovery the boot ROM answers its subset on the SPI slave and on ring pair 0: BOOT_STATUS with the boot status word,
BOOT_WRITE by writing DRAM at its offset, BOOT_START of a good image by starting Ganen. Under Ganen the subset is unknown. -/
def Obligations.BootRomServesItsSubset : Prop :=
  (∀ p s, bootServes s p.ep = true → badFrame s p = false → p.version = 1 → badHeader p = false →
    (badCarat 0x10 p = false → p.payload.length = 4 →
      exec (.bootStatus p) s = .next ((s.takeRx p.ep).replyTo (toCmd 0x10 p) (answered [1])
        (beBytes 4 (bootStatus (s.takeRx p.ep)).toNat))) ∧
    (badCarat 0x11 p = false → 8 ≤ p.payload.length → s.mem.dramFailed = false → s.MemOk →
        beAt p.payload 0 4 + (p.payload.length - 4) ≤ s.dramSize →
      let at' := dramLo + beAt p.payload 0 4
      let bytes := p.payload.drop 4
      ∃ t, exec (.bootWrite p) s = .next t ∧ t.memBytes at' bytes.length = bytes ∧
        ∀ a, a < at' ∨ at' + bytes.length ≤ a → cellGet t.mem.bytes a = cellGet s.mem.bytes a) ∧
    (∀ e, badCarat 0x12 p = false → p.payload.length = 4 → s.boot.env = some e → (tryImg s (some (pushedImage s))).1 = 0 →
      ∃ t, exec (.bootStart p) s = .next t ∧ t.boot.phase = .ready ∧ t.render.run = true ∧ t.boot.ganenVersion = e.ganen ∧
        t.power.st = 0)) ∧
  (∀ p s, bootServes s p.ep = false →
    (InOrder 0x10 p s → exec (.bootStatus p) s = .next ((s.received p).replyTo (toCmd 0x10 p) { status := 0x103, unit := 1 } [])) ∧
    (InOrder 0x11 p s → exec (.bootWrite p) s = .next ((s.received p).replyTo (toCmd 0x11 p) { status := 0x103, unit := 1 } [])) ∧
    (InOrder 0x12 p s → exec (.bootStart p) s = .next ((s.received p).replyTo (toCmd 0x12 p) { status := 0x103, unit := 1 } [])))


/-! ### Facets -/

/-- O15: the end of a bundle that is not stalled: its results are on their way, results due land and the others stay in flight, the
transfer that it starts is outstanding, and the next bundle is the branch's target after three empty cycles, or the one after the loop that does not run, or simply the next. A
stalled bundle counts its cycle and is issued again: nothing lands and nothing is stored. LOOP's passes: at the last bundle of
the body the register file turns by one place; before the last pass the body starts over with the stage predicates of the next
pass, after it the loop ends with P4 to P7 at zeros. -/
def Obligations.BundlesEnd : Prop :=
  (∀ (s : State) k, (s.core k).hold = false → (s.core k).ending = false →
     let c := s.core k
     let d := (s.endBundle k).core k
     d.issued = c.issued + 1 ∧ d.stores = [] ∧ d.branch = none ∧ d.made = [] ∧ d.xfers = c.xfers ++ c.newX.toList ∧ d.newX = none ∧
     d.flight = c.keep.flight.filter (fun e => decide (c.issued + 1 < e.1)) ∧
     (∀ t, c.branch = some t → d.pc = t % 4096 ∧ d.cyc = c.cyc + 4 ∧ d.loop = none) ∧
     (∀ t, c.branch = none → c.newLoop = none → c.skip = some t → d.pc = t % 4096 ∧ d.cyc = c.cyc + 1) ∧
     (c.branch = none → c.newLoop = none → c.skip = none → c.loop = none → d.pc = (c.pc + 1) % 4096 ∧ d.cyc = c.cyc + 1) ∧
     (∀ r, (∀ e ∈ c.keep.flight, e.1 ≤ c.issued + 1 → ∀ w, e.2.2 ≠ .s r w) → d.rS r = c.rS r) ∧
     (∀ r w, c.keep.flight = [(c.issued + 1, 0, .s r w)] → d.rS r = w) ∧
     (∀ j, j ≠ k → (s.endBundle k).core j = s.core j)) ∧
  (∀ (s : State) k, (s.core k).hold = true →
     let c := s.core k
     s.endBundle k = s.setCore k { c with
       hold := false, cyc := c.cyc + 1, full := 0, made := [], newX := none, stored := false, used := 0, stores := [], branch := none, newLoop := none, skip := none, wide := false, ending := false }) ∧
  (∀ (s : State) k l, (s.core k).hold = false → (s.core k).ending = false → (s.core k).branch = none → (s.core k).newLoop = none →
     (s.core k).skip = none → (s.core k).flight = [] → (s.core k).made = [] → (s.core k).loop = some l → (s.core k).pc = l.start + l.len - 1 →
     let c := s.core k
     let d := (s.endBundle k).core k
     d.carousel = (c.carousel + 1) % 4 ∧
     (l.pass + 2 < l.count + l.stages → d.loop = some { l with pass := l.pass + 1 } ∧ d.pc = l.start ∧
       ∀ g < 4, d.rP (4 + g) = if g < l.stages ∧ g ≤ l.pass + 1 ∧ l.pass + 1 ≤ g + l.count - 1 ∧ 0 < l.count then 0xFFFF else 0) ∧
     (l.count + l.stages ≤ l.pass + 2 → d.loop = none ∧ d.pc = (c.pc + 1) % 4096 ∧ ∀ g < 4, d.rP (4 + g) = 0))

/-- O16: an illegal slot, one of a reserved opcode, and a bundle whose word cannot be read, stop the Facet with causes 4, 4 and 3; the cause and the bundle's
index are latched, nothing of the bundle in hand is done, and what earlier bundles computed lands. A Facet with no run in hand
issues nothing. A write of FACET_CTL_k with no reserved bit: RESET clears the Facet's
registers and leaves it IDLE; the run bit and the entry are stored and the window lock stays once set. A Facet in TEST becomes
SPARE when its self-test passes and FAILED when it does not; 20 µs after render Facets stopped, the lowest spare takes the role of the lowest of them, which leaves it.
(Which Facet a run of a spare begins at is free: log 194.) -/
def Obligations.FacetsStopAndChangeRoles : Prop :=
  (∀ r ∈ scalarRows, ∀ i s,
     let c := s.core i.k.val
     (c.run = false → exec (r.slot i) s = .next s) ∧
     (c.run = true → c.hold = false → i.pmem = .uncorrectable → ∃ t, exec (r.slot i) s = .next t ∧
       mget (0, 0) t.facets.fault i.k.val = (3, c.pc) ∧ (t.core i.k.val).s = c.clearBundle.drain.s ∧ (t.core i.k.val).run = false) ∧
     (c.run = true → c.hold = false → i.pmem ≠ .uncorrectable → legalR i { sat := r.sat, rnd := r.rnd } = false →
       ∃ t, exec (r.slot i) s = .next t ∧ mget (0, 0) t.facets.fault i.k.val = (4, c.pc) ∧
         (t.core i.k.val).s = c.clearBundle.drain.s ∧ (t.core i.k.val).run = false)) ∧
  (∀ (s : State) (k : Fin 64) (n : Fin 4) w, decodeSlot k n w = none → (s.core k.val).run = true →
     mget (0, 0) (s.issueSlot k (n, w)).facets.fault k.val = (4, (s.core k.val).pc) ∧ ((s.issueSlot k (n, w)).core k.val).run = false) ∧
  (∀ mk ∈ [Instr.facetReset, Instr.facetWinLock, Instr.facetRunSet], ∀ (k : Fin 64) v s, s.Shape → reservedWrite (aFacet k.val) v = false →
     (v.getLsbD 17 = true → ∃ t, exec (mk k v) s = .next t ∧ t.fst k.val = 1 ∧ t.core k.val = {} ∧
       (∀ j, j ≠ k.val → t.fst j = s.fst j ∧ t.core j = s.core j) ∧ (t.reg (aFacet k.val)).getLsbD 18 = false) ∧
     (v.getLsbD 17 = false → ∃ t, exec (mk k v) s = .next t ∧ t.facets = s.facets ∧
       (t.reg (aFacet k.val)).getLsbD 16 = v.getLsbD 16 ∧ (∀ b < 12, (t.reg (aFacet k.val)).getLsbD b = v.getLsbD b) ∧
       (t.reg (aFacet k.val)).getLsbD 18 = (v.getLsbD 18 || (s.reg (aFacet k.val)).getLsbD 18) ∧
       ∀ a, a ≠ aFacet k.val → t.reg a = s.reg a)) ∧
  ((∀ s (k : Fin 64), s.Shape → s.fst k.val = 6 →
     (∃ t, exec (.selftestComplete k true) s = .next t ∧ t.fst k.val = 4 ∧ ∀ j, j ≠ k.val → t.fst j = s.fst j) ∧
     (∃ t, exec (.selftestComplete k false) s = .next t ∧ t.fst k.val = 7 ∧ ∀ j, j ≠ k.val → t.fst j = s.fst j)) ∧
   (∀ s (k : Fin 64) w at' (j : Fin 64), s.Shape → mfind s.facets.stopped k.val = some at' → s.fst j.val = 4 →
     (∀ i < j.val, s.fst i ≠ 4) → s.fst k.val ≠ 4 → at' + 20000 ≤ s.lNs →
     (∀ i < k.val, ∀ a, mfind s.facets.stopped i = some a → s.lNs < a + 20000) →
     ∃ t, exec (.spareReplacement k w) s = .next t ∧ t.fst j.val = 2 ∧ (t.fst k.val = 5 ∨ t.fst k.val = 7) ∧
       (t.core k.val).run = false ∧ (t.reg (aFacet j.val)).getLsbD 16 = true ∧ (t.reg (aFacet k.val)).getLsbD 16 = false ∧
       (∀ i, i ≠ j.val → i ≠ k.val → t.fst i = s.fst i) ∧ t.out = s.out ∧ t.mem = s.mem ∧
       ∀ a, a ≠ aFacet j.val → a ≠ aFacet k.val → t.reg a = s.reg a))

/-- O17: GET and PUT of aligned, bounded spans inside the Facet's windows start a transfer under their tag; a tag still
outstanding, or a GWAIT on one, stalls the bundle; GWAIT on complete tags forgets them. A transfer's completion sets its GSTAT
bit, and its error bit after a bus error; a GET's bytes are then in the Facet's memory, and each granule of a PUT's destination holds
its source's bytes as they stand or as they stood at its start. A reservation stall comes after the Facet's number of cycles with no
free slot, costs the run a cycle and is counted; before, there is none. -/
def Obligations.GirdleTransfers : Prop :=
  (∀ i s, Issues s i →
     let c := s.core i.k.val
     let done := fun c' => Host.Outcome.next ((s.fetched i).slotDone i c')
     let busy := c.xfers.any fun x => x.tag == i.mod && !x.done
     let la := (c.rS i.a).toNat
     let ra := (c.rS i.b).toNat
     let n := (c.rS i.d).toNat
     (∀ r ∈ [(Instr.get, false), (Instr.put, true)], legalR i { mod := true } = true →
       ((c.rP i.pred).testBit 0 = false → exec (r.1 i) s = done c) ∧
       ((c.rP i.pred).testBit 0 = true → busy = true → exec (r.1 i) s = done { c with hold := true }) ∧
       ((c.rP i.pred).testBit 0 = true → busy = false → la % 64 = 0 → ra % 64 = 0 → n % 64 = 0 → 64 ≤ n → n ≤ 65536 →
         la + n ≤ 0x80000 → (s.inWin i.k.val 0x18 ra n = true ∨ (r.2 = false ∧ s.inWin i.k.val 0x20 ra n = true)) →
         exec (r.1 i) s = done { c with
           gdone := c.gdone &&& (0xFF ^^^ 2 ^ i.mod), gerr := c.gerr &&& (0xFF ^^^ 2 ^ i.mod)
           xfers := c.xfers.filter fun y => y.tag ≠ i.mod
           newX := some { tag := i.mod, put := r.2, localA := la, remote := ra, len := n,
                          old := s.memBytes (facetBase i.k.val + la) n } })) ∧
     (legalR i { d := 0, b := 0 } = true → (c.rP i.pred).testBit 0 = true →
       let waits := c.xfers.any fun x => (c.rS i.a).getLsbD x.tag && decide (x.tag < 8) && !x.done
       (waits = true → exec (.gwait i) s = done { c with hold := true }) ∧
       (waits = false → exec (.gwait i) s = done { c with
         xfers := c.xfers.filter fun x => !((c.rS i.a).getLsbD x.tag && decide (x.tag < 8)) }))) ∧
  ((∀ s (k : Fin 64) (tag : Fin 8) x, (s.core k.val).xfers.find? (fun y => y.tag == tag.val && !y.done) = some x →
     let c := s.core k.val
     (∃ t, exec (.girdleTransferComplete k tag .busError) s = .next t ∧ (t.core k.val).gdone = c.gdone ||| 2 ^ tag.val ∧
       (t.core k.val).gerr = c.gerr ||| 2 ^ tag.val ∧ t.mem = s.mem) ∧
     (∀ w, x.put = false → s.spanOk x.remote x.len = true → s.MemOk →
       ∃ t, exec (.girdleTransferComplete k tag (.whole w)) s = .next t ∧
       (t.core k.val).gdone = c.gdone ||| 2 ^ tag.val ∧ (t.core k.val).gerr = c.gerr ∧
       t.memBytes (facetBase k.val + x.localA) x.len = s.readBytes x.remote x.len ∧
       ∀ a, a < facetBase k.val + x.localA ∨ facetBase k.val + x.localA + x.len ≤ a → cellGet t.mem.bytes a = cellGet s.mem.bytes a) ∧
     (x.put = true → x.sent = false → s.spanOk x.remote x.len = true → s.MemOk → x.len % 64 = 0 → x.old.length = x.len →
       putsBefore (c.xfers.takeWhile fun y => y.tag ≠ tag.val) x = [] →
       ∃ t, exec (.girdleTransferComplete k tag (.whole .clean)) s = .next t ∧
       (t.core k.val).gdone = c.gdone ||| 2 ^ tag.val ∧ (t.core k.val).gerr = c.gerr ∧
       (∀ g < x.len / 64, t.memBytes (x.remote + 64 * g) 64 = slice x.old (64 * g) 64 ∨
         t.memBytes (x.remote + 64 * g) 64 = s.memBytes (facetBase k.val + x.localA + 64 * g) 64) ∧
       ∀ a, a < x.remote ∨ x.remote + x.len ≤ a → cellGet t.mem.bytes a = cellGet s.mem.bytes a)) ∧
   (∀ s (k : Fin 64),
     let c := s.core k.val
     (c.run = true → gresN s k.val ≤ c.full + 1 → ∃ t, exec (.girdleReservationStall k) s = .next t ∧
       t.core k.val = { c with cyc := c.cyc + 1, full := 0 } ∧ (∀ j, j ≠ k.val → t.core j = s.core j) ∧
       t.cnts = (s.count (aFacetctl + 0xB0)).cnts) ∧
     (c.full + 1 < gresN s k.val → exec (.girdleReservationStall k) s = .next s)))

/-- O18: the run of a started kernel begins at its entry bundle with P4 to P7 and the carousel cleared, and sees block n + 2. An
expired budget ends a user kernel's run: FACET_USED says so, the cause is OVERRUN, the data memory and the kernel's scalar
registers stay as results in flight leave them, and past its limit of consecutive overruns the kernel is suspended. -/
def Obligations.KernelRunsStartAndExpire : Prop :=
  (∀ s (k : Fin 64) facts n q, s.render.run = true → s.fst k.val = 3 → s.kernelOf k.val = some (n, q) → q.run = true →
     q.suspended = false → (s.reg (aFacet k.val)).getLsbD 16 = true →
     ∃ t, exec (.facetRunStart k .kernel facts) s = .next t ∧ (t.core k.val).run = true ∧
       (t.core k.val).pc = (s.reg (aFacet k.val)).toNat % 4096 ∧ (t.core k.val).blk = s.render.n + 2 ∧ (t.core k.val).cyc = 0 ∧
       (t.core k.val).carousel = 0 ∧ (∀ g < 4, (t.core k.val).rP (4 + g) = 0) ∧ (∀ j, j ≠ k.val → t.core j = s.core j) ∧
       t = { s with facets := { s.facets with core := t.facets.core, kernels := t.facets.kernels } }) ∧
  (∀ s (k : Fin 64) n q, s.fst k.val = 3 → (s.core k.val).run = true → s.kernelOf k.val = some (n, q) →
     (s.facets.kernels.map (·.1)).Nodup → (∀ e ∈ s.facets.kernels, e.2.facet = k.val → e = (n, q)) →
     ∃ t, exec (.budgetExpiry k) s = .next t ∧ (t.core k.val).run = false ∧ (t.core k.val).s = ((s.core k.val).clearBundle.drain).s ∧
       mget (0, false) t.facets.used k.val = ((mget (0, 0) s.facets.live k.val).2, true) ∧
       mget (0, 0) t.facets.fault k.val = (7, (s.core k.val).pc) ∧ t.mem.bytes = s.mem.bytes ∧
       (mget q t.facets.kernels n).ovr = q.ovr + 1 ∧
       (mget q t.facets.kernels n).suspended = (q.suspended || decide (q.limit < q.ovr + 1)))


/-! ### Transports -/

/-- O19: a command tail below the ring size is stored; one at or above it is ignored and sets BAD_DB. Posting reply buffers that
keep their rules while nothing waits holds them for replies. A command descriptor in order hands its packet to Ganen and moves
the head; one whose address is not aligned, one too long and a completion in error halt the pair with causes 1, 2 and 3. -/
def Obligations.RingsTakeCommandsAndBuffers : Prop :=
  (∀ s (k : Fin 4) v,
     (reservedWrite (aRing k.val + 0xC) v = false →
       (v.toNat % 4096 < ringEntries s k.val 8 → ∃ t, exec (.cmdTailDoorbell k v) s = .next t ∧
         t.reg (aRing k.val + 0xC) = v &&& 0xFFF ∧ (∀ a, a ≠ aRing k.val + 0xC → t.reg a = s.reg a) ∧ t = { s with regs := t.regs }) ∧
       (ringEntries s k.val 8 ≤ v.toNat % 4096 → ∃ t, exec (.cmdTailDoorbell k v) s = .next t ∧
         t.reg (aRing k.val + 0x44) = s.reg (aRing k.val + 0x44) ||| 0x100 ∧ (∀ a, a ≠ aRing k.val + 0x44 → t.reg a = s.reg a))) ∧
     (∀ bufs, s.Shape → reservedWrite (aRing k.val + 0x2C) v = false → ringRuns s k.val = true →
       v.toNat % 4096 < ringEntries s k.val 0x28 → (∀ d ∈ bufs, goodBuffer d = true ∧ d.error = false) →
       (s.ring k.val).waiting = [] →
       bufs.length = (v.toNat % 4096 + ringEntries s k.val 0x28 - (s.ring k.val).next) % ringEntries s k.val 0x28 →
       ∃ t, exec (.rplTailPost k v bufs) s = .next t ∧ t.reg (aRing k.val + 0x2C) = v &&& 0xFFF ∧
         (t.ring k.val).posted = (s.ring k.val).posted ++ bufs.map (fun d => (d.addr, d.len)) ∧ (∀ j, j ≠ k.val → t.ring j = s.ring j) ∧ t.out = s.out)) ∧
  (∀ s (k : Fin 4) (d : RingRead), ringRuns s k.val = true → (s.reg (aRing k.val + 0x10)) ≠ (s.reg (aRing k.val + 0xC)) →
     (s.ring k.val).waiting = [] → (s.ring k.val).posted ≠ [] →
     (d.error = false → d.addr % 4 = 0 → d.reserved = 0 → d.len ≤ 65560 → s.reg64 (aRing k.val + 0x48) = 0 → 0 < ringEntries s k.val 8 →
       ∃ t, exec (.ringReadCompletion k d) s = .next t ∧ t.kcp.rx = s.kcp.rx ++ [(.pcie k, d.bytes.take d.len)] ∧
         t.reg (aRing k.val + 0x10) = BitVec.ofNat 32 (((s.reg (aRing k.val + 0x10)).toNat + 1) % ringEntries s k.val 8) ∧
         t.out = s.out) ∧
     (∀ cause, (d.error = true ∧ cause = 3) ∨ (d.error = false ∧ (d.addr % 4 ≠ 0 ∨ d.reserved ≠ 0) ∧ cause = 1) ∨
         (d.error = false ∧ d.addr % 4 = 0 ∧ d.reserved = 0 ∧ 65560 < d.len ∧ cause = 2) →
       ∃ t, exec (.ringReadCompletion k d) s = .next t ∧ ringCause t k.val = cause ∧ (t.reg (aRing k.val + 0x44)).getLsbD 0 = true ∧
         t.kcp.rx = s.kcp.rx ∧ ∀ x < 8, s.bound x (.pcie k) = true → (t.sess x).isOpen = false))

/-- O20: clearing RING_CTL.ENABLE closes the pair's session, empties the pair and clears its cause; setting it puts heads and
tails at 0; a function reset or PERST closes every PCIe session and empties every pair. Coalesced descriptors send their message
when the time runs out; an event that still waits is dropped, and the next event of its session says so, one that waits already
or else the next one made; a UDP session that stays silent closes; an unfinished object goes; the window closes. -/
def Obligations.RingsStopAndTimersAct : Prop :=
  ((∀ s (k : Fin 4) v, s.Shape → reservedWrite (aRing k.val + 0x40) v = false →
     (ringEnabled s k.val = true → v.getLsbD 0 = false → ∃ t, exec (.ringCtlWrite k v) s = .next t ∧ ringEnabled t k.val = false ∧
       ringCause t k.val = 0 ∧ t.ring k.val = {} ∧ (∀ x < 8, t.bound x (.pcie k) = false) ∧ (∀ e ∈ t.kcp.rx, e.1 ≠ .pcie k)) ∧
     (ringEnabled s k.val = false → v.getLsbD 0 = true → ∃ t, exec (.ringCtlWrite k v) s = .next t ∧ ringEnabled t k.val = true ∧
       t.ring k.val = {} ∧ ∀ o ∈ [0xC, 0x10, 0x2C, 0x30], t.reg (aRing k.val + o) = 0)) ∧
   (∀ mk ∈ [Instr.pcieFlr, Instr.pciePerst], ∀ s, ∃ t, exec mk s = .next t ∧
     (∀ x < 8, ∀ k, t.bound x (.pcie k) = false) ∧ (∀ k : Fin 4, t.ring k.val = {}) ∧ (∀ e ∈ t.kcp.rx, ∀ k, e.1 ≠ .pcie k) ∧
     (∀ x, (∀ k, (s.sess x).ep ≠ .pcie k) → t.sess x = s.sess x) ∧ t = { s with kcp := t.kcp, regs := t.regs })) ∧
  (∀ s, s.Shape →
     (∀ k : Fin 4, 0 < (s.ring k.val).coal → (s.reg (aRing k.val + 0x40)).toNat / 65536 % 1024 ≠ 0 →
       ∃ t, exec (.coalescingTimeExpiry k) s = .next t ∧ (t.ring k.val).coal = 0 ∧
         t = ((s.setRing k.val fun r => { r with coal := 0 }).msix ((s.reg (aRing k.val + 0x40)).toNat / 16 % 16))) ∧
     (∀ (x : Fin 8) p rest, (s.sess x.val).ep = .spi → s.kcp.spiOut = p :: rest → eventOf x.val p = true →
       ((∀ q ∈ rest, eventOf x.val q = false) → ∃ t, exec (.eventDrop x) s = .next t ∧ t.kcp.spiOut = rest ∧
         (t.sess x.val).loss = true ∧ ∀ y, y ≠ x.val → t.sess y = s.sess y) ∧
       (∀ pre q post sec ns pl l, rest = pre ++ q :: post → (∀ e ∈ pre, eventOf x.val e = false) → q.session = x.val →
         q.body = .event sec ns pl l → ∃ t, exec (.eventDrop x) s = .next t ∧
           t.kcp.spiOut = pre ++ { q with body := .event sec ns pl true } :: post ∧ (t.sess x.val).loss = (s.sess x.val).loss)) ∧
     (∀ x : Fin 8, (s.sess x.val).isOpen = true → isUdp (s.sess x.val).ep = true → (s.sess x.val).idle ≠ 0 → s.standby = false →
       ∃ t, exec (.sessionIdleTimeout x) s = .next t ∧ (t.sess x.val).isOpen = false ∧ (∀ y, y ≠ x.val → t.sess y = s.sess y) ∧
         t.delta.entries = s.delta.entries ++ [.timer (.idle x.val)]) ∧
     (∀ (x : Fin 8) op name, (s.kcp.pieces.any fun p => p.session == x.val && p.op == op && p.name == name) = true →
       ∃ t, exec (.piecedObjectDiscard x op name) s = .next t ∧
         (t.kcp.pieces.any fun p => p.session == x.val && p.op == op && p.name == name) = false ∧
         t.delta.entries = s.delta.entries ++ [.timer (.pieces x.val op name)]) ∧
     (∃ t, exec .windowExpiry s = .next t ∧ t.kcp.window = none ∧ t.render = s.render ∧ t.mem = s.mem))

/-- O21: BAR2 answers Unsupported Request while the window is closed; in an open window an aligned word access acts as a
transaction of the PCIe master, and one of another size ends in a bus error. The SPI slave takes a whole packet while it holds
none, and discards and counts any other period; STATUS, READ and a wrong instruction byte answer as Table KCP-11 says; a read to
the last byte removes the packet. -/
def Obligations.WindowAndSpiAnswer : Prop :=
  (∀ s addr size w,
     (windowOpen s = false → exec (.bar2Access addr size w) s = .next { s with out := .bar2 1 0 :: s.out }) ∧
     (windowOpen s = true → reservedReq s (bar2Req addr size w) = false → size = 4 → addr % 4 = 0 →
       exec (.bar2Access addr size w) s = .next (s.busIssue (bar2Req addr size w))) ∧
     (windowOpen s = true → reservedReq s (bar2Req addr size w) = false → (size ≠ 4 ∨ addr % 4 ≠ 0) →
       exec (.bar2Access addr size w) s = .next (s.busError (bar2Req addr size w)))) ∧
  (∀ s, spiAlive s = true →
     (∀ bytes, rxBusy s = false → 8 ≤ bytes.length → beAt bytes 4 4 = bytes.length →
       exec (.spiWrite bytes) s = .next { s with kcp := { s.kcp with rx := s.kcp.rx ++ [(.spi, bytes)] } }) ∧
     (∀ bytes, (rxBusy s = true ∨ bytes.length < 8 ∨ beAt bytes 4 4 ≠ bytes.length) →
       exec (.spiWrite bytes) s = .next (s.count (kDev 6))) ∧
     (∃ b : Byte, exec .spiStatus s = .next { s with out := .spi [b] :: s.out } ∧ b.getLsbD 0 = rxBusy s ∧
       b.getLsbD 1 = !s.kcp.spiOut.isEmpty ∧ b.getLsbD 2 = s.serving ∧ b.getLsbD 3 = (s.boot.phase == .recovery)) ∧
     (∀ n p rest, s.kcp.spiOut = p :: rest → ∃ t, exec (.spiRead n) s = .next t ∧ t.out = .spi (p.bytes.take n) :: s.out ∧
       t.kcp.spiOut = if p.bytes.length ≤ n then rest else p :: rest) ∧
     (∀ b n, b ≠ 2 → b ≠ 5 → b ≠ 0x0B →
       exec (.spiInvalidInstruction b n) s = .next { s with out := .spi (List.replicate n 0xFF) :: s.out }))


/-! ### The render -/

/-- O22: a boundary in a unit that runs and has nothing waiting in its delta moves to the next block, and the next cycle's delta
is open; a committed delta takes effect at it (a ZONE_SET sets its zone). The run of a render Facet writes each of its channels
once in a cycle, as block n + 2 with its Carat: an object's source signal, a feed's column, a feed's output; a channel that
stands written stays as it is. A feed's failed block is held: the last good sample for up to 16 blocks, then a
ramp to zero over the next, then zeros; a block of a unit that has stopped is held once before its ramp. -/
def Obligations.BoundariesRunsAndHeldBlocks : Prop :=
  (∀ s x, s.render.run = true → s.delta.closed = none → s.delta.held = none → s.time.sel.stepTo = none → s.pair.handover = none →
     s.integ.stopped = false → s.integ.restarting = false → wbit (s.reg (aInteg + 8)) 1 = false →
     ∃ t, exec (.renderBoundary x) s = .next t ∧ t.render.n = s.render.n + 1 ∧ t.delta.closed = none ∧ t.delta.cutoff = false ∧
       t.delta.committed = false ∧ t.render.inBad = [] ∧ t.pending = s.pending) ∧
  (∀ s x d ep i q tg pl rcd dat, s.render.run = true → s.delta.closed = some d → s.delta.committed = true → s.delta.held = none →
     s.time.sel.stepTo = none → s.pair.handover = none → s.integ.stopped = false → s.integ.restarting = false →
     wbit (s.reg (aInteg + 8)) 1 = false → d.entries = [.command ep i q 0x0100 0 tg pl rcd dat] → rcd.touched = rcd.succeeded →
     let c := entryCmd (.command ep i q 0x0100 0 tg pl rcd dat)
     ∃ t, exec (.renderBoundary x) s = .next t ∧ t.render.n = s.render.n + 1 ∧ t.delta.closed = none ∧
       t.zone (c.at 20 2) = zoneSet c (s.zone (c.at 20 2)) ∧ ∀ y, y ≠ c.at 20 2 → t.zone y = s.zone y) ∧
  (∀ s (k : Fin 64) facts, s.render.run = true → s.fst k.val = 2 → mhas s.facets.stopped k.val = false → s.integ.stopped = false →
     runsOn s k.val = true →
     (∀ f : Fin 1024, (s.feedRt f.val).on = true → ∃ t b, exec (.facetRunStart k (.chains [f]) facts) s = .next t ∧
       t.blk (chId 4 f.val) = some b ∧ b.num = s.render.n + 2 ∧ t.render.n = s.render.n ∧
       (written s (chId 4 f.val) = true → s.blk (chId 4 f.val) = some b) ∧
       (written s (chId 4 f.val) = false →
         b.carat = carat (chId 4 f.val) b.num (b.smp.map (BitVec.ofInt 32)))) ∧
     (∀ f : Fin 1024, (s.feedRt f.val).on = true → ∃ t b, exec (.facetRunStart k (.matrix [f]) facts) s = .next t ∧
       t.blk (chId 3 f.val) = some b ∧ b.num = s.render.n + 2 ∧ t.render.n = s.render.n ∧
       (written s (chId 3 f.val) = true → s.blk (chId 3 f.val) = some b) ∧
       (written s (chId 3 f.val) = false →
         b.carat = carat (chId 3 f.val) b.num (b.smp.map (BitVec.ofInt 32)))) ∧
     (∀ o : Fin 1024, objRuns s o.val = true → ∃ t b, exec (.facetRunStart k (.objects [o]) facts) s = .next t ∧
       t.blk (chId 1 o.val) = some b ∧ b.num = s.render.n + 2 ∧ t.render.n = s.render.n ∧
       (written s (chId 1 o.val) = true → s.blk (chId 1 o.val) = some b) ∧
       (written s (chId 1 o.val) = false →
         b.carat = carat (chId 1 o.val) b.num (b.smp.map (BitVec.ofInt 32))))) ∧
  (∀ r : FeedRt,
     (r.heldBlocks < 16 → r.hold.leaving = List.replicate 16 r.last ∧ r.hold.heldBlocks = r.heldBlocks + 1 ∧ r.hold.last = r.last) ∧
     (r.heldBlocks = 16 → nth 0 r.hold.leaving 15 = 0 ∧ r.hold.leaving.length = 16 ∧ r.hold.heldBlocks = 17) ∧
     (17 ≤ r.heldBlocks → r.hold.leaving = List.replicate 16 0 ∧ r.hold.heldBlocks = 18) ∧
     (r.heldBlocks = 0 → r.holdStopped.leaving = List.replicate 16 r.last ∧ r.holdStopped.hold.heldBlocks = 17))

/-- O23: at the cut-off the cycle's delta closes: it is for the next boundary, takes the next sequence number and awaits its
deadline. At its deadline a delta that needs no acknowledgement, or has one, is committed; one that a synchronised peer has not
acknowledged is dropped and leaves no command behind. -/
def Obligations.DeltasCloseAndCommit : Prop :=
  (∀ s, s.render.run = true → s.serving = true → s.standby = false → s.delta.cutoff = false →
     ∃ t c, exec .deltaCutoff s = .next t ∧ t.delta.closed = some c ∧ c.boundary = s.render.n + 1 ∧ c.seq = s.delta.seq ∧
       t.delta.cutoff = true ∧ t.delta.committed = false ∧ t.delta.acked = false ∧ t.delta.seq = (s.delta.seq + 1) % 2 ^ 32 ∧
       t.integ.lastClosed = s.render.n + 1) ∧
  (∀ s c, s.delta.closed = some c → s.delta.committed = false →
     ((s.paired = false ∨ s.delta.acked = true) → ∃ t, exec .ackDeadline s = .next t ∧ t.delta.committed = true ∧ t.delta.drops = 0 ∧
       t.delta.closed = some c ∧ t.delta.rolled = [] ∧ t.delta.entries = s.delta.entries) ∧
     (s.paired = true → s.delta.acked = false → ∃ t, exec .ackDeadline s = .next t ∧ t.delta.committed = true ∧
       t.delta.drops = s.delta.drops + 1 ∧ t.delta.closed = some { c with entries := [] } ∧
       (∀ e ∈ t.delta.entries, e ∈ s.delta.entries ∨ entryAgain e = some e ∨ ∃ d ∈ c.entries, entryAgain d = some e) ∧
       (s.delta.drops + 1 = 2 → t.pair.peerCold = true)))

/-- O24: a solve that succeeds leaves its structure pending, one that fails leaves the layout in force; a pending structure's
switch enters the delta; the old layout goes once its crossfade's last block has been computed. Crossfades of 64 samples end
once four blocks are computed, and a route's crossfade once its last sample is; each changes its own object or feed alone. -/
def Obligations.LayoutsAndCrossfadesMove : Prop :=
  (∀ s (z : Fin 16),
     (∀ us, (s.zoneRt z.val).solving = true → (s.zoneRt z.val).runReason = 0 → (s.zoneRt z.val).again = false →
       ∃ t, exec (.solveComplete z us false) s = .next t ∧ (t.zoneRt z.val).pending = some (s.zoneRt z.val).run ∧
         (t.zoneRt z.val).solving = false ∧ (t.zoneRt z.val).lastUs = us ∧ (t.zoneRt z.val).live = (s.zoneRt z.val).live ∧
         ∀ y, y ≠ z.val → t.zoneRt y = s.zoneRt y) ∧
     (∀ us, (s.zoneRt z.val).solving = true → (s.zoneRt z.val).runReason = 0 → (s.zoneRt z.val).again = false →
       (s.zoneRt z.val).live.enabled = true →
       ∃ t, exec (.solveComplete z us true) s = .next t ∧ (t.zoneRt z.val).failed = true ∧ (t.zoneRt z.val).reason = 4 ∧
         (t.zoneRt z.val).solving = false ∧ (t.zoneRt z.val).live = (s.zoneRt z.val).live ∧
         (t.zoneRt z.val).pending = (s.zoneRt z.val).pending) ∧
     (∀ l, (s.zoneRt z.val).pending = some l → ∃ t, exec (.layoutSwitchEntry z) s = .next t ∧
       t.delta.entries = s.delta.entries ++ [.layout z.val l] ∧ (t.zoneRt z.val).pending = none ∧
       (t.zoneRt z.val).entered = (s.zoneRt z.val).entered ++ [l]) ∧
     ((s.zoneRt z.val).outgoing.isSome = true → (s.zoneRt z.val).xStart + (s.zone z.val).xfade ≤ s.render.n + 3 →
       ∃ t, exec (.layoutXfadeEnd z) s = .next t ∧ (t.zoneRt z.val).outgoing = none ∧
         (t.zoneRt z.val).gen = ((s.zoneRt z.val).gen + 1) % 65536 ∧ ∀ y, y ≠ z.val → t.zoneRt y = s.zoneRt y)) ∧
  (∀ s,
     (∀ (o : Fin 1024) f, (s.objRt o.val).jump = some f → f.start + 4 ≤ s.render.n + 3 →
       exec (.delayJumpXfadeEnd o) s = .next (s.modObjRt o.val fun r => { r with jump := none })) ∧
     (∀ (o : Fin 1024) b, (s.objRt o.val).dopFade = some b → b + 4 ≤ s.render.n + 3 →
       exec (.dopplerXfadeEnd o) s = .next (s.modObjRt o.val fun r => { r with dopFade := none })) ∧
     (∀ (o : Fin 1024) f, (s.objRt o.val).place = some f → f.start + 4 ≤ s.render.n + 3 →
       exec (.placementXfadeEnd o) s = .next (s.modObjRt o.val fun r => { r with place := none, line := r.line.take 4096 })) ∧
     (∀ (f : Fin 1024) b d, (s.feedRt f.val).dFade = some (b, d) → b + 4 ≤ s.render.n + 3 →
       exec (.alignDelayXfadeEnd f) s = .next (s.modFeedRt f.val fun r => { r with dFade := none })) ∧
     (∀ (o : Fin 1024) x, (s.objRt o.val).xf = some x → x.n + 16 * x.start ≤ 16 * (s.render.n + 3) → (s.objRt o.val).release = false →
       ∃ t, exec (.routeXfadeEnd o) s = .next t ∧ (t.objRt o.val).xf = none ∧ (t.objRt o.val).oldDirect = [] ∧
         (t.objRt o.val).oldDiffuse = [] ∧ (t.objRt o.val).oldSource = none ∧ (∀ j, j ≠ o.val → t.objRt j = s.objRt j) ∧
         (∀ e ∈ t.render.routes, ∀ q, e.2.old = some q → q.obj ≠ o.val) ∧ t.render.feedRt = s.render.feedRt))

/-- O25: the shadow bank: staging ends with SHADOW_READY; four cycles after a swap the bank is free; an A/B crossfade ends with
the B filters alone, and its copy-back leaves the bank free; after a change of render rate the render resumes at L's block,
unless a lost PLL has stopped it. -/
def Obligations.ShadowBankAdvances : Prop :=
  ∀ s,
    (s.render.shadow.st = 1 → ∃ t, exec .filterStagingComplete s = .next t ∧ t.render = { s.render with shadow := { s.render.shadow with st := 2 } }) ∧
    (s.render.shadow.st = 3 → s.render.shadow.ab = false → s.render.shadow.since + 4 ≤ s.render.n →
      ∃ t, exec .firCopyBackComplete s = .next t ∧ t.render.shadow = {} ∧
        ∀ e ∈ s.render.shadow.set, (t.feedRt e.1).shadow = false) ∧
    (s.render.shadow.st = 3 → s.render.shadow.ab = true → ∃ t, exec .abCopyBackComplete s = .next t ∧ t.render.shadow = {} ∧
        ∀ e ∈ s.render.shadow.set, (t.feedRt e.1).shadow = false) ∧
    (∀ f b a, s.render.shadow.st = 4 → s.render.shadow.set = [(f, b)] → (s.feedRt f).ab = some a →
      a.n + 16 * a.start ≤ 16 * (s.render.n + 3) →
      ∃ t, exec .abXfadeEnd s = .next t ∧ (t.feedRt f).fir = a.b ∧ (t.feedRt f).ab = none ∧ t.render.shadow.st = 3 ∧
        t.render.shadow.since = s.render.n ∧ ∀ g, g ≠ f → t.feedRt g = s.feedRt g) ∧
    (s.render.changing = true → exec .renderRateResume s = .next { s with
      render := { s.render with changing := false, run := !s.integ.pllStop, n := blockAt s.render.rate96 s.lNs } })


/-! ### Loupe -/

/-- O26: a measurement input settles, sticks, recovers and takes its configuration; a synchronised reset is asked for by the
register, in this unit alone, and by an edge of LOUPE_SYNC, through the delta, unless the edge comes too soon. (The value of
CLEAR_DCB that an edge takes is the model's choice: log 197.) -/
def Obligations.LoupeInputsFollowTheirEvents : Prop :=
  (∀ s (n : Fin 16), s.Shape → (s.lin n.val).st = 1 → ∃ t, exec (.settlingEnd n) s = .next t ∧ (t.lin n.val).st = 2 ∧
    (∀ m, m ≠ n.val → t.lin m = s.lin m) ∧ t = { s with loupe := t.loupe }) ∧
  (∀ s (n : Fin 16), s.Shape → (s.lin n.val).st = 3 → ∃ t, exec (.stuckRecover n) s = .next t ∧ (t.lin n.val).st = 1 ∧
    ∀ m, m ≠ n.val → t.lin m = s.lin m) ∧
  (∀ s (n : Fin 16), s.Shape → ((s.reg (aLin n.val)).toNat % 8 = 1 ∨ (s.reg (aLin n.val)).toNat % 8 = 2) →
      ((s.lin n.val).st = 1 ∨ (s.lin n.val).st = 2) →
    ∃ t, exec (.loupeStuck n) s = .next t ∧ (t.lin n.val).st = 3 ∧ (t.reg (aLoupe + 4)).getLsbD 1 = true ∧
      ∀ m, m ≠ n.val → t.lin m = s.lin m) ∧
  (∀ s (n : Fin 16) v, s.Shape → reservedWrite (aLin n.val) v = false → inCfgErr s n.val v = false → n.val % 2 = 1 →
    ∃ t, exec (.loupeInCfgWrite n v) s = .next t ∧ t.reg (aLin n.val) = v ∧ (v.toNat % 8 = 0 → (t.lin n.val).st = 0) ∧
      (v.toNat % 8 ≠ 0 → (s.lin n.val).st = 0 → (t.lin n.val).st = 1) ∧ ∀ a, a ≠ aLin n.val → t.reg a = s.reg a) ∧
  (∀ s (n : Fin 16) v, reservedWrite (aLin n.val) v = false → inCfgErr s n.val v = true →
    exec (.loupeInCfgWrite n v) s = .next (s.setReg (aLoupe + 4) (s.reg (aLoupe + 4) ||| 8))) ∧
  (∀ s v, reservedWrite (aLoupe + 0x10) v = false → v.getLsbD 8 = true →
    ∃ t, exec (.loupeSyncReq v) s = .next t ∧ (t.reg (aLoupe + 0x10)).getLsbD 8 = true ∧
      (t.reg (aLoupe + 0x10)).getLsbD 1 = v.getLsbD 1 ∧ t.delta = s.delta ∧ t.loupe.ins = s.loupe.ins ∧
      t.loupe.reqIn = if s.loupe.reqIn ≠ 0 then s.loupe.reqIn else if s.delta.cutoff then 2 else 1) ∧
  (∀ s, s.standby = false → (s.reg (aLoupe + 0x10)).getLsbD 0 = true → s.loupe.lastEdge = none →
    ∃ t, exec .loupeSyncEdge s = .next t ∧ t.loupe.lastEdge = some s.lNs ∧
      t.delta.entries = s.delta.entries ++ [.loupe (.syncReset ((s.reg (aLoupe + 0x10)).getLsbD 1))]) ∧
  (∀ s at', (s.reg (aLoupe + 0x10)).getLsbD 0 = true → s.loupe.lastEdge = some at' → 3 * (s.lNs - at') < twoCycles s →
    ∃ t, exec .loupeSyncEdge s = .next t ∧ t.loupe = s.loupe ∧ t.delta = s.delta ∧ (t.reg (aLoupe + 4)).getLsbD 2 = true)

/-- O27: offline jobs and self-correction in the unit that decides: a job's step ends and the next enters the delta; an
integration that has reached a verdict, or its maximum dwell, ends with the slot's release; an action that is due enters the
delta; a lost feed whose confirm time ends is LOST; the gain totals move by 0.01 dB and the delay totals by a sample. -/
def Obligations.LoupeDecisionsEnterTheDelta : Prop :=
  (∀ s j q, s.standby = false → s.loupe.job = some j → mfind s.loupe.jobs j = some q → (s.loupe.jobs.map (·.1)).Nodup →
      q.going = true → q.stimLen s.fs ≤ 16 * (s.render.n - q.start) →
    ∃ t q' rs, exec (.jobStepComplete q.step) s = .next t ∧ mfind t.loupe.jobs j = some q' ∧ q'.going = false ∧ q'.step = q.step ∧
      q'.recs = q.recs ++ rs ∧ rs.map (fun r => (r.step, r.feed, r.input)) = (q.pairs q.step).map (fun e => (q.step, e.1, e.2)) ∧
      t.delta.entries = s.delta.entries ++ [.loupe (.jobStep j (q.step + 1) false)]) ∧
  (∀ s (j : Fin 64) (f : Fin 1024) q v b, s.Shape → nth none s.loupe.slots j.val = some q → s.decides = true → audited s q.feed = true →
      q.feed = f.val → q.start + 1000000000 ≤ s.nowNs → judge s q.feed q.since (slotResults s q) = .verdict v b →
    ∃ t keep w, exec (.conclusiveResult j f) s = .next t ∧ t.delta.entries.getLast? = some (.loupe (.release j.val keep)) ∧
      (keep = true → (t.lf f.val).st = 3) ∧ nth none t.loupe.slots j.val = some w ∧ w.feed = q.feed ∧ w.start = s.nowNs ∧
      (let r := t.lf f.val
       r.lastAt = some s.nowNs ∧ r.best = some b.mic.val ∧ r.arrival = b.arrival ∧ r.snr = b.snr ∧ r.quiet = false ∧ r.weak = false ∧
       ((s.lf f.val).learn = false → (s.lf f.val).refs ≠ [] → r.verdict = if v = 0 then (s.lf f.val).verdict else v))) ∧
  (∀ s (j : Fin 64) (f : Fin 1024) q, s.Shape → nth none s.loupe.slots j.val = some q → s.decides = true → audited s q.feed = true →
      q.feed = f.val → q.start + (s.lz (s.feed q.feed).zone).dwell * 100000000 ≤ s.nowNs →
    ∃ t keep w, exec (.maximumDwell j f) s = .next t ∧ t.delta.entries.getLast? = some (.loupe (.release j.val keep)) ∧
      (keep = true → (t.lf f.val).st = 3) ∧ nth none t.loupe.slots j.val = some w ∧ w.feed = q.feed ∧ w.start = s.nowNs ∧
      (let r := t.lf f.val
       let weak := bestOf (weakRow (s.lf f.val) (slotResults s q))
       let judged := judge s q.feed q.since (slotResults s q)
       (judged = .nothing → weak = none → r.quiet = true ∧ r.verdict = (s.lf f.val).verdict) ∧
       (judged = .nothing → weak.isSome = true → r.weak = true) ∧ (∀ l, judged = .suspect l → r.micSuspect = true) ∧
       (∀ v b, judged = .verdict v b → r.best = some b.mic.val ∧ r.weak = (v == 1 && weak.isSome)))) ∧
  (∀ s (f : Fin 1024) id a, s.decides = true → mfind s.loupe.acts id = some a → a.entered = false → a.due ≤ s.nowNs → a.kind ≠ 2 →
    ∃ t, exec (.actionDueTime f (some id)) s = .next t ∧ t.delta.entries = s.delta.entries ++ [.loupe (.action id)] ∧
      mfind t.loupe.acts id = some { a with entered := true } ∧ t.loupe.feeds = s.loupe.feeds) ∧
  (∀ s (f : Fin 1024) id a, s.decides = true → mfind s.loupe.acts id = some a → a.entered = false → a.due ≤ s.nowNs → a.kind = 2 →
      (s.lz (s.feed a.feed).zone).wdLimit ≤
        ((s.lz (s.feed a.feed).zone).withdrawn.filter fun t => s.nowNs < t + 64000000000).length →
    ∃ t, exec (.actionDueTime f (some id)) s = .next t ∧ (t.lf a.feed).st = 4 ∧ mfind t.loupe.acts id = none ∧
      (t.feed a.feed).withdrawn = (s.feed a.feed).withdrawn ∧ .loupe (.cancel id false) ∈ t.delta.entries) ∧
  (∀ s (f : Fin 1024) at', s.decides = true → (s.lf f.val).st = 3 → (s.lf f.val).confirmAt = some at' → at' ≤ s.nowNs →
      (∀ e ∈ s.loupe.acts, e.2.feed ≠ f.val ∨ e.2.kind ≠ 2) →
    ∃ t, exec (.actionDueTime f none) s = .next t ∧ (t.lf f.val).st = 4 ∧ (t.lf f.val).confirmAt = none ∧
      ∀ g, g ≠ f.val → t.lf g = s.lf g) ∧
  (∀ s, ∃ t, exec .compStep s = .next t ∧ t = { s with loupe := { s.loupe with feeds := t.loupe.feeds } } ∧
    ∀ f, mhas s.loupe.feeds f = true → s.zoneJob (s.feed f).zone = none →
      ((s.lf f).gain < (gainAim s f).1 → (t.lf f).gain = (s.lf f).gain + 1) ∧
      ((gainAim s f).1 < (s.lf f).gain → (t.lf f).gain = (s.lf f).gain - 1) ∧
      ((s.lf f).gain = (gainAim s f).1 → (t.lf f).gain = (s.lf f).gain) ∧ (t.lf f).delay = (s.lf f).delay) ∧
  (∀ s (f : Fin 1024), (s.lf f.val).delay ≠ (delayAim s f.val).1 → (s.lf f.val).stepAt = none → s.zoneJob (s.feed f.val).zone = none →
    ∃ t, exec (.driftStep f) s = .next t ∧ (t.lf f.val).stepAt = some s.nowNs ∧
      ((s.lf f.val).delay < (delayAim s f.val).1 → (t.lf f.val).delay = (s.lf f.val).delay + 1) ∧
      ((delayAim s f.val).1 < (s.lf f.val).delay → (t.lf f.val).delay = (s.lf f.val).delay - 1) ∧
      ∀ g, g ≠ f.val → t.lf g = s.lf g)


/-! ### Network -/

/-- O28: a received frame that fails a check of the MAC is counted and dropped: its FCS, its length, a full FIFO, the filter; a
pause frame pauses the transmitter. -/
def Obligations.FramesPassTheMac : Prop :=
  ∀ (k : Fin 6) bs s, (s.np k.val).up = true → s.netOn = true →
    let f := parseFrame bs
    let n := bs.length
    let good := 4 ≤ n ∧ leAt bs (n - 4) 4 = (crc32eth (bs.take (n - 4))).toNat
    let fits := 64 ≤ n ∧ n ≤ maxFrame s k.val
    let kept := addrPass s k.val f.dst = true ∧ vlanPass s k.val f = true
    (∀ y x m, (y = true ∨ ¬ good) → exec (.frameReceived k bs y x m) s = .next (s.netCount k.val 1)) ∧
    (∀ x m, good → ¬ fits → exec (.frameReceived k bs false x m) s = .next (s.netCount k.val 2)) ∧
    (∀ x, good → fits → exec (.frameReceived k bs false x true) s = .next s) ∧
    (∀ x, good → fits → f.etype = 0x8808 → beAt f.body 0 2 = 1 →
      let held := (s.modNp k.val fun p => { p with pause := beAt f.body 2 2 }).netCount k.val 8
      exec (.frameReceived k bs false x false) s = .next (if beAt f.body 2 2 = 0 then held.resume k.val else held)) ∧
    (good → fits → f.etype ≠ 0x8808 → exec (.frameReceived k bs false true false) s = .next ((s.netCount k.val 4).netErr k.val 0)) ∧
    (good → fits → f.etype ≠ 0x8808 → ¬ kept → exec (.frameReceived k bs false false false) s = .next (s.netCount k.val 3)) ∧
    (∀ p e, good → fits → f.etype = 0x0800 → kept → parseIp f = some p → p.proto = 17 → p.frag = false → p.sumOk = true →
      let u := parseUdp p
      u.2.1 ≠ 319 → u.2.1 ≠ 320 → u.2.2.1 = true →
      (lookup s k.val f p.dst u.2.1 = some e → (s.reg (aEntry e + 8) = 0 ∨ (s.reg (aEntry e + 8)).toNat = p.src) →
        (entryCtl s e).getLsbD 8 = false → exec (.frameReceived k bs false false false) s =
          .next ((s.netCount k.val 0).rtp (wbits (entryCtl s e) 0 8) (b2n ((entryCtl s e).getLsbD 16)) u.2.2.2)) ∧
      (lookup s k.val f p.dst u.2.1 = some e → s.reg (aEntry e + 8) ≠ 0 → (s.reg (aEntry e + 8)).toNat ≠ p.src →
        exec (.frameReceived k bs false false false) s = .next (s.count (kFlow (wbits (entryCtl s e) 0 8) 8))) ∧
      (lookup s k.val f p.dst u.2.1 = none → (s.reg (aNet k.val + 0x28)).getLsbD 16 = true → p.dst = unitIp s k.val →
        u.2.1 = (s.reg (aNet k.val + 0x28)).toNat % 65536 → (s.toRing k.val 1 0xFFFF bs).2 = true →
        ∃ t, exec (.frameReceived k bs false false false) s = .next t ∧
          t.kcp.rx = s.kcp.rx ++ [(.udp k (wordN p.src) (BitVec.ofNat 16 u.1), u.2.2.2)]))

/-- O29: an RTP packet of a flow with one path, whose first window is open and whose last lies inside the playout depth, puts
each of its samples at its sample number, the timestamp's plus the link offset; one wholly behind the open window is late, one
beyond the depth early, and one with another header is dropped. The SSRC is not checked. -/
def Obligations.PacketsReachTheirPlace : Prop :=
  ∀ s f path b,
    let w := s.flow f
    let n := pktSamples s.render.rate96 w
    let first := nearestMod (2 ^ 32) (beAt b 4 4) s.sampleNow + linkFloor s w
    let good := 12 ≤ b.length ∧ beAt b 0 1 / 64 = 2 ∧ beAt b 0 1 / 16 % 2 = 0 ∧ beAt b 0 1 % 16 = 0 ∧
      beAt b 1 1 % 128 = w.ptype ∧ b.length = 12 + rtpBytes s.render.rate96 w
    (¬ good → s.rtp f path b = s.count (kFlow f 7)) ∧
    (good → w.sec = 0xFF →
      (s.openSample + depth s w ≤ first + n - 1 →
        (s.rtp f path b).cnts = ((s.pathSeen f path).count (kFlow f 6)).cnts ∧ (s.rtp f path b).render = s.render) ∧
      (first + n ≤ s.openSample →
        (s.rtp f path b).cnts = ((s.pathSeen f path).count (kFlow f 5)).cnts ∧ (s.rtp f path b).render = s.render) ∧
      (s.openSample ≤ first → first + n - 1 < s.openSample + depth s w →
        ∀ ch < w.ch, ∀ j < n, mget 0 (mget [] (s.rtp f path b).render.playout (flowSource f ch)) (first + j) =
          sampleOf w (b.drop (12 + (j * w.ch + ch) * smpBytes w)))) ∧
    (∀ b', b'.length = b.length → b'.take 8 = b.take 8 → b'.drop 12 = b.drop 12 → s.rtp f path b' = s.rtp f path b)

/-- O30: a transmit flow's packet of the interval just ended carries its sequence number, timestamp and samples; through an open
gate a packet to a group leaves on each of its ports that runs, waits where the port is paused, and is dropped where it is down.
A waiting packet that is too old is dropped; the others leave when the pause ends. A frame at a transmit ring's HEAD leaves, the
express ring's first, and HEAD moves on; a management port that runs short of buffers pauses its partner; a ring's tail is
stored. -/
def Obligations.PacketsAndFramesLeave : Prop :=
  ((∀ s (f : Fin 256) k,
     let x := 256 + f.val
     let w := s.flow x
     let n := pktSamples s.render.rate96 w
     let i := s.sampleNow / n - 1
     let p := buildPkt s x i
     w.enable = true → (s.render.run = true ∨ s.render.changing = true) → (s.flowRt x).since ≤ i * n → (∀ d, (s.flowRt x).done = some d → d < i) → w.prim = k →
     w.sec = 0xFF →
     p.seq = (s.flowRt x).seq ∧ p.ts = i * n % 2 ^ 32 ∧ p.smp.length = w.ch ∧
     ∃ t, exec (.packetTransmit f) s = .next t ∧ (t.flowRt x).seq = ((s.flowRt x).seq + 1) % 2 ^ 16 ∧ (t.flowRt x).done = some i ∧
       (s.gate = false → t.out = s.out) ∧
       (s.gate = true → isMulticast w.dst = true → s.netOn = true → (s.np k).up = true → (s.np k).pause = 0 →
         t.out = .media x k (mediaFrame s k w (groupMac w.dst) p) :: s.out) ∧
       (s.gate = true → isMulticast w.dst = true → s.netOn = true → k < s.net.port.length → (s.np k).up = true → (s.np k).pause ≠ 0 →
         t.out = s.out ∧ (t.np k).wait = (s.np k).wait ++ [(x, p)]) ∧
       (s.gate = true → isMulticast w.dst = true → (s.np k).up = false → t.out = s.out ∧ (t.reg (aNet k + 8)).getLsbD 5 = true)) ∧
   (∀ s (k : Fin 4) e, s.Shape → (s.np k.val).wait.find? (isLate s) = some e → ∃ t, exec (.txLateDrop k) s = .next t ∧
     (t.np k.val).wait = (s.np k.val).wait.erase e ∧ (t.reg (aNet k.val + 8)).getLsbD 5 = true ∧ t.out = s.out) ∧
   (∀ s (k : Fin 6), s.Shape → (s.np k.val).pause ≠ 0 →
     (∃ t, exec (.pauseExpiry k) s = .next t ∧ (t.np k.val).pause = 0 ∧ (t.np k.val).wait = []) ∧
     ((s.np k.val).own = [] → (∀ e ∈ (s.np k.val).wait, isLate s e = false ∧ isMulticast (s.flow e.1).dst = true) →
       ∃ t, exec (.pauseExpiry k) s = .next t ∧ t.out = (if s.gate then ((s.np k.val).wait.map fun e =>
         OutMsg.media e.1 k.val (mediaFrame s k.val (s.flow e.1) (groupMac (s.flow e.1).dst) e.2)).reverse else []) ++ s.out) ∧
     (∀ r kind fs, (r = 2 ∨ r = 3) → (s.np k.val).wait = [] → (s.np k.val).own = [(r, .msg kind fs)] →
       ∃ t, exec (.pauseExpiry k) s = .next t ∧ (t.np k.val).own = [] ∧ t.out = .net k.val kind fs :: s.out))) ∧
  ((∀ s (k : Fin 6) r n, (r = 2 ∧ ringHeld s k.val 2 ≠ 0) ∨ (r = 3 ∧ ringHeld s k.val 2 = 0 ∧ ringHeld s k.val 3 ≠ 0) →
     (s.np k.val).up = true → (s.np k.val).pause = 0 → s.netOn = true →
     let d := s.readBytes (descAddr s k.val r) 32
     s.spanOk (descAddr s k.val r) 32 = true → s.spanOk (leAt d 0 8) (max 1 (leAt d 8 4)) = true →
     ∃ t, exec (.ringFrameTransmit k n) s = .next t ∧ t.out = .frame k.val r (s.readBytes (leAt d 0 8) (leAt d 8 4)) :: s.out ∧
       ringHead t k.val r = (ringHead s k.val r + 1) % ringSize s k.val r) ∧
   (∀ s (k : Fin 2), (s.np (4 + k.val)).up = true → (s.reg (aNet (4 + k.val))).getLsbD 16 = true → s.Shape →
     let few := ∃ r < 2, ringHeld s (4 + k.val) r * 8 < ringSize s (4 + k.val) r
     let enough := ∀ r < 2, ringSize s (4 + k.val) r ≤ ringHeld s (4 + k.val) r * 4
     (few → ∃ t, exec (.pauseTx k) s = .next t ∧ t.out = .net (4 + k.val) "pause" [0xFFFF] :: s.out ∧ (t.np (4 + k.val)).pausing = true) ∧
     (¬ few → enough → (s.np (4 + k.val)).pausing = true → ∃ t, exec (.pauseTx k) s = .next t ∧
       t.out = .net (4 + k.val) "pause" [0] :: s.out ∧ (t.np (4 + k.val)).pausing = false)) ∧
   (∀ s (k : Fin 6) (r : Fin 4) v, reservedWrite (aNetRing k.val r.val + 12) v = false → (if r.val < 2 then (s.np k.val).pausing = false else (s.np k.val).up = true) →
     ∃ t, exec (.netportRingTail k r v) s = .next t ∧ t.reg (aNetRing k.val r.val + 12) = v &&& 0xFFF ∧
       (∀ a, a ≠ aNetRing k.val r.val + 12 → t.reg a = s.reg a) ∧ t = { s with regs := t.regs }))

/-- O31: links: one that comes up runs at its speed and says so; one that is lost drops what waits, unsent; an idle port slows
to 10 Gb/s and returns; pre-emption follows its verification; a module that comes has its identity read. -/
def Obligations.LinksComeAndGo : Prop :=
  ∀ s, s.Shape → (∀ x < 8, (s.sess x).mask.testBit 7 = false) →
    (∀ k : Fin 6, (s.np k.val).up = false → (s.reg (aNet k.val)).getLsbD 0 = true → s.netOn = true →
      ∃ t, exec (.linkUp k) s = .next t ∧ (t.np k.val).up = true ∧ (t.np k.val).restoring = false ∧
        (t.np k.val).preempt = (if k.val < 4 ∧ (s.reg (aNet k.val)).getLsbD 24 = true then 1 else 0) ∧
        (∀ j, j ≠ k.val → t.np j = s.np j) ∧ t = { s with net := t.net }) ∧
    (∀ k : Fin 6, (s.np k.val).up = true → ∃ t, exec (.linkDown k) s = .next t ∧ (t.np k.val).up = false ∧ (t.np k.val).pause = 0 ∧
      (t.np k.val).wait = [] ∧ (t.np k.val).own = [] ∧ (t.np k.val).preempt = 0 ∧ (t.reg (aNet k.val + 8)).getLsbD 2 = true ∧ t.out = s.out ∧
      (∀ j, j ≠ k.val → t.np j = s.np j)) ∧
    (∀ k : Fin 4, (s.np k.val).preempt = 1 →
      exec (.preemptVerifyDone k true) s = .next (s.modNp k.val fun p => { p with preempt := 2 }) ∧
      exec (.preemptVerifyDone k false) s = .next ((s.modNp k.val fun p => { p with preempt := 3 }).netErr k.val 4)) ∧
    (∀ k : Fin 4, (s.reg (aNet k.val)).getLsbD 25 = true → (s.np k.val).up = true → speedCode s k.val = 3 → portInUse s k.val = false →
      ∃ t, exec (.speedReduction k) s = .next t ∧ (t.np k.val).reduced = true ∧ (t.np k.val).up = false) ∧
    (∀ k : Fin 4, (s.np k.val).reduced = true → ∃ t, exec (.speedRestore k) s = .next t ∧ (t.np k.val).reduced = false ∧
      (t.np k.val).restoring = true ∧ (t.np k.val).up = false) ∧
    (∀ k : Fin 4, (s.np k.val).reduced = true → (s.np k.val).up = false → ∃ t, exec (.lpFail k) s = .next t ∧
      (t.np k.val).reduced = false ∧ (t.reg (aNet k.val)).getLsbD 25 = false ∧ (t.reg (aNet k.val + 8)).getLsbD 3 = true) ∧
    (∀ (k : Fin 4) on, ∃ t, exec (.sfpModabsChange k on) s = .next t ∧ t.pins.sfpPresent = s.pins.sfpPresent.set k.val on ∧
      t.out = if on && s.serving then .net k.val "sfp-identity-read" [] :: s.out else s.out)

/-- O32: Ganen's work on flows: a path is DOWN after its silence; a join's report is repeated and a query answered; a transmit
flow's next hop is asked for again; an entry of the flow table is stored, not VALID where another has its key. A position
datagram of an enabled position flow enters the delta where it is in order and newer than its flow's last, and is counted where
it is not. -/
def Obligations.FlowsAndPositionsAreKept : Prop :=
  ((∀ s (f : Fin 256),
     let w := s.flow f.val
     let wait := max 1000000 (8 * pktSamples s.render.rate96 w * 1000000000 / s.fs)
     let clear := fun k => (s.np k).up = true ∧ s.netOn = true ∧ (s.np k).pause = 0
     ((s.flowRt f.val).upA = true → (s.flowRt f.val).lastA + wait ≤ s.lNs → ∃ t, exec (.pathDown f false) s = .next t ∧
       (t.flowRt f.val).upA = false ∧ (t.flowRt f.val).upB = (s.flowRt f.val).upB ∧ ∀ g, g ≠ f.val → t.flowRt g = s.flowRt g) ∧
     ((s.flowRt f.val).upB = true → (s.flowRt f.val).lastB + wait ≤ s.lNs → ∃ t, exec (.pathDown f true) s = .next t ∧
       (t.flowRt f.val).upB = false ∧ (t.flowRt f.val).upA = (s.flowRt f.val).upA ∧ ∀ g, g ≠ f.val → t.flowRt g = s.flowRt g) ∧
     (w.enable = true → isMulticast w.dst = true → w.sec = 0xFF → clear w.prim → (s.flowRt f.val).query = true →
       ∃ t, exec (.igmpUnsolicitedReport f) s = .next t ∧ t.out = .net w.prim "igmp-report" [w.dst, w.src] :: s.out ∧
         (t.flowRt f.val).query = false) ∧
     (w.enable = true → isMulticast w.dst = true → w.sec = 0xFF → clear w.prim → (s.flowRt f.val).query = false → (s.flowRt f.val).reports ≠ 0 →
       ∃ t, exec (.igmpUnsolicitedReport f) s = .next t ∧ t.out = .net w.prim "igmp-report" [w.dst, w.src] :: s.out ∧
         (t.flowRt f.val).reports = (s.flowRt f.val).reports - 1)) ∧
   (∀ s (f : Fin 256),
     let w := s.flow (256 + f.val)
     w.enable = true → isMulticast w.dst = false → w.sec = 0xFF → (s.np w.prim).up = true → s.netOn = true → (s.np w.prim).pause = 0 →
     exec (.arpRefresh f) s = .next (({ s with out := .net w.prim "arp-request" [nextHop s w.prim w.dst] :: s.out }).count
       (aNet w.prim + 0xC0))) ∧
   (∀ s (e : Fin 512) v, reservedWrite (aEntry e.val + 12) v = false → ∃ t, exec (.flowtabCtlWrite e v) s = .next t ∧
     (∀ x : Fin 512, x ≠ e → entryCtl t x.val = entryCtl s x.val) ∧
     (v.getLsbD 31 = false → entryCtl t e.val = v) ∧
     (v.getLsbD 31 = true → (∀ x : Fin 512, x ≠ e → entryValid s x.val = true → entryKey s x.val ≠ entryKey t e.val) → entryCtl t e.val = v) ∧
     (∀ x : Fin 512, v.getLsbD 31 = true → x ≠ e → entryValid s x.val = true → entryKey s x.val = entryKey t e.val →
       entryValid t e.val = false ∧ (t.reg (aFlowtab + 4)).getLsbD 0 = true))) ∧
  (∀ s (f : Fin 256) b, s.serving = true → s.standby = false → (s.flow f.val).enable = true → (s.flow f.val).position = true →
     (posOk s f.val b = true → ∃ t, exec (.positionDatagram f b) s = .next t ∧ (t.flowRt f.val).pos = some (beAt b 4 4) ∧
       t.delta.entries = s.delta.entries ++ [.position ((b.drop 8).take (b.length - 12))] ∧
       (∀ g, g ≠ f.val → t.flowRt g = s.flowRt g) ∧ t.render = s.render) ∧
     (posOk s f.val b = false → ∃ t, exec (.positionDatagram f b) s = .next t ∧ t.cnts = (s.count (kFlow f.val 9)).cnts ∧
       t.delta = s.delta ∧ ∀ g, t.flowRt g = s.flowRt g))


/-! ### Time -/

/-- O33: TIME_SNAP captures the bases and the free-running counter at one instant; TIME_ADJ steps its base whole, by seconds and
nanoseconds, and no other; reading and popping take the oldest stamp of a queue. An armed comparator whose time has come gives
its pulse; with a period its time moves on by it, without one it is disarmed. A selected edge is stamped with L; the ninth in a
full queue is lost, marked and counted. -/
def Obligations.TimeRegistersAct : Prop :=
  ((∀ s v, reservedWrite (aTime + 0xC) v = false → v.getLsbD 0 = true → (s.reg aTime).getLsbD 0 = true →
     ∃ t, exec (.timeSnap v) s = .next t ∧ t.time.snap = { a := s.time.a, b := s.time.b, l := s.time.l, frc := s.time.frc } ∧
       t = { s with time := t.time } ∧ t.time = { s.time with snap := t.time.snap }) ∧
   (∀ s (b : Fin 3) v, reservedWrite (aTime + 0x38 + 0x20 * b.val) v = false →
     ∃ t, exec (.timeAdjNs b v) s = .next t ∧
       t.base b.val = ((s.base b.val : Int) + ((s.reg (aTime + 0x34 + 0x20 * b.val)).toInt * 1000000000 + v.toInt) * 2 ^ 48).toNat ∧
       (∀ c : Fin 3, c ≠ b → t.base c.val = s.base c.val) ∧ t.regs = s.regs) ∧
   (∀ s (c : Fin 9) v, s.Shape → reservedWrite (aTime + 0x400 + 0x20 * c.val) v = false →
     ∃ t, exec (.captPop c v) s = .next t ∧ t.reg (aTime + 0x400 + 0x20 * c.val) = v &&& 3 ∧
       nth [] t.time.capt c.val = (if v.getLsbD 8 then (nth [] s.time.capt c.val).tail else nth [] s.time.capt c.val) ∧
       ∀ d, d ≠ c.val → nth [] t.time.capt d = nth [] s.time.capt d) ∧
   (∀ s (k : Fin 6) v, s.Shape → reservedWrite (aTime + 0x600 + 0x20 * k.val) v = false →
     ∃ t, exec (.txtsPop k v) s = .next t ∧
       nth [] t.time.txts k.val = (if v.getLsbD 16 then (nth [] s.time.txts k.val).tail else nth [] s.time.txts k.val) ∧
       (v.getLsbD 8 = true → (t.reg (aTime + 0x600 + 0x20 * k.val)).getLsbD 8 = false) ∧
       ∀ d, d ≠ k.val → nth [] t.time.txts d = nth [] s.time.txts d)) ∧
  ((∀ s (i : Fin 16), (s.reg (aTime + 0x200 + 0x20 * i.val)).getLsbD 0 = true → s.cmpDue i.val = true →
     ∃ t, exec (.comparatorFire i) s = .next t ∧
       t.out = .pulse i.val ((s.reg (aTime + 0x200 + 0x20 * i.val)).getLsbD 3) (s.reg (aTime + 0x214 + 0x20 * i.val)).toNat :: s.out ∧
       (s.reg (aTime + 0x210 + 0x20 * i.val) = 0 → (t.reg (aTime + 0x200 + 0x20 * i.val)).getLsbD 0 = false ∧ t.cmpNs i.val = s.cmpNs i.val) ∧
       (s.reg (aTime + 0x210 + 0x20 * i.val) ≠ 0 → s.cmpNs i.val + (s.reg (aTime + 0x210 + 0x20 * i.val)).toNat < 2 ^ 64 * 1000000000 →
         t.cmpNs i.val = s.cmpNs i.val + (s.reg (aTime + 0x210 + 0x20 * i.val)).toNat ∧
         t.reg (aTime + 0x200 + 0x20 * i.val) = s.reg (aTime + 0x200 + 0x20 * i.val)) ∧ t.time = s.time) ∧
   (∀ s (c : Fin 9) up, s.Shape → (s.reg (aTime + 0x400 + 0x20 * c.val)).getLsbD (if up then 0 else 1) = true →
     ((nth [] s.time.capt c.val).length < 8 → ∃ t, exec (.captureEdge c up) s = .next t ∧
       nth [] t.time.capt c.val = nth [] s.time.capt c.val ++ [s.lNs] ∧ t.regs = s.regs ∧
       ∀ d, d ≠ c.val → nth [] t.time.capt d = nth [] s.time.capt d) ∧
     (8 ≤ (nth [] s.time.capt c.val).length → ∃ t, exec (.captureEdge c up) s = .next t ∧ t.time.capt = s.time.capt ∧
       (t.reg (aTime + 8)).getLsbD 1 = true ∧ t.cnts = (s.count (aTime + 0x100 + 8 * (6 + c.val))).cnts)))

/-- O34: a reference that is lost is no longer present; one whose conditions hold is, with what was measured of it; a
wait-to-restore timer ends through the delta. A selected reference that alone was eligible leaves L in holdover, in a pair
through the delta. A second of a
reference's level: beyond the disqualification limit level 7, beyond tolerance for its dwell one level worse, within it for its
dwell one better, but never better than its intrinsic level. A control step of the selected reference sets L's rate to the
reference's rate and a correction within the slope that follows the phase; within 50 ns it is LOCKED. A second of holdover
is counted. Ganen's part is done unless the control complex restarts. -/
def Obligations.ReferencesAndLevelsMove : Prop :=
  (∀ s, s.Shape →
     (∀ r : Fin 6, (s.ref r.val).present = true → ∃ t, exec (.referenceLost r) s = .next t ∧ (t.ref r.val).present = false ∧
       (t.ref r.val).wtr = false ∧ (∀ q, q ≠ r.val → t.ref q = s.ref q) ∧
       (s.role ≠ 2 → s.integ.restarting = false → s.time.sel.sel = some r.val → s.prio.all (fun q => q = r.val || !s.eligible q) = true →
         if s.role = 1 then ∃ cause, Entry.reference none cause ∈ t.delta.entries
         else t.time.sel.st = 3 ∧ t.time.sel.sel = none ∧ t.time.sel.forced = false)) ∧
     (∀ (r : Fin 6) m, (s.ref r.val).present = false → (r.val ≤ 1 → (s.slot r.val).st = 1) → ∃ t, exec (.referencePresent r m) s = .next t ∧ (t.ref r.val).present = true ∧
       (t.ref r.val).phase = m.phase ∧ (t.ref r.val).freq = s.rate 2 + m.freq ∧ (t.ref r.val).misaligned = decide (1000000 < m.phase.natAbs) ∧
       ∀ q, q ≠ r.val → t.ref q = s.ref q) ∧
     (∀ r : Fin 6, (s.ref r.val).wtr = true → s.integ.restarting = false → ∃ t more, exec (.waitToRestoreEnd r) s = .next t ∧ (t.ref r.val).wtr = false ∧
       t.delta.entries = s.delta.entries ++ .timer (.waitToRestore r.val) :: more) ∧
     (∀ ms, s.integ.restarting = false → ∃ t, exec (.deviationEval ms) s = .next t ∧ ∀ r : Fin 6, ((s.ref r.val).present = true → ∀ m, ms[r.val]? = some m →
         (t.ref r.val).phase = m.phase ∧ (t.ref r.val).freq = s.rate 2 + m.freq) ∧ ((s.ref r.val).present = false →
         (t.ref r.val).phase = (s.ref r.val).phase ∧ (t.ref r.val).level = (s.ref r.val).level))) ∧
  (∀ (q : Ref) d, (q.second d).dev = d ∧
     (q.disq < d.natAbs → (q.second d).level = 7) ∧
     (d.natAbs ≤ q.disq → q.tol < d.natAbs → (q.second d).level =
       if q.dwell ≤ q.ovr + 1 ∧ q.level < 6 then q.level + 1 else q.level) ∧
     (d.natAbs ≤ q.disq → d.natAbs ≤ q.tol → (q.second d).level = if q.dwell ≤ q.inTol + 1 then
       (if q.level = 7 then q.intrinsic else max (min q.level q.intrinsic) (q.level - 1)) else q.level)) ∧
  ((∀ s r m, s.integ.restarting = false → s.time.sel.sel = some r → (s.ref r).present = true → s.time.sel.stepTo = none → (s.time.sel.st = 1 ∨ s.time.sel.st = 2) →
     (s.ref r).misaligned = decide (1000000 < m.phase.natAbs) →
     ∃ t, exec (.pullStep m) s = .next t ∧ t.rate 2 = max (-(2 ^ 31)) (min (2 ^ 31 - 1) (s.rate 2 + m.freq + t.time.sel.u)) ∧
       t.time.sel.st = (if s.time.sel.st = 2 ∨ m.phase.natAbs ≤ 50 then 2 else 1) ∧
       (t.time.sel.st = 2 → t.time.sel.u.natAbs ≤ s.slope ∧ (m.phase = 0 → t.time.sel.u = 0)) ∧
       t.time.sel.sel = some r ∧ t.out = s.out) ∧
   (∀ s, s.time.sel.st = 3 → s.integ.restarting = false → ∃ t, exec .holdoverEval s = .next t ∧ t.time.sel.holdS = s.time.sel.holdS + 1 ∧ t.time.sel.st = 3 ∧
     (t.time.sel.outSpec = true ↔ s.time.sel.outSpec = true ∨
       2 ^ 40 < (s.time.sel.fu + driftAt s.time.sel.stab (s.time.sel.holdS + 1)) * 1000000 ∨
       s.time.sel.holdLimit < phaseErr { s.time.sel with holdS := s.time.sel.holdS + 1 }) ∧ t.time.refs = s.time.refs))

/-- O35: unless the control complex restarts: an Announce makes a listening slot a slave of the better grandmaster; the first offset is removed by a step of its
base, a later small one through its rate; a silent grandmaster leaves it listening, or master where it may be; a master sends
its messages. -/
def Obligations.PtpSlotsFollowTheirMessages : Prop :=
  (∀ s (d : Fin 2) src cls acc key, s.Shape → s.integ.restarting = false → (s.slot d.val).enable = true →
    ((s.slot d.val).hasGm = false ∨ src = (s.slot d.val).gmSrc ∨ key < (s.slot d.val).gmKey) →
    ∃ t, exec (.ptpMessage d (.announce (s.slot d.val).dom src cls acc key false)) s = .next t ∧ (t.slot d.val).st = 1 ∧
      (t.slot d.val).hasGm = true ∧ (t.slot d.val).gmSrc = src ∧ (t.slot d.val).gmClass = cls ∧ (t.slot d.val).gmKey = key ∧
      t.slot (1 - d.val) = s.slot (1 - d.val)) ∧
  (∀ s (d : Fin 2) seq o a, s.Shape → s.integ.restarting = false → (s.slot d.val).enable = true → (s.slot d.val).st = 1 →
    let off := a - o - (s.slot d.val).delay
    (((s.slot d.val).steered = false ∨ 100000 < off.natAbs) →
      ∃ t, exec (.ptpMessage d (.sync (s.slot d.val).dom seq false o a)) s = .next t ∧
        t.base d.val = ((s.base d.val : Int) - off * 2 ^ 48).toNat ∧ (t.slot d.val).steered = true ∧ t.regs = s.regs) ∧
    ((s.slot d.val).steered = true → off.natAbs ≤ 100000 →
      ∃ t, exec (.ptpMessage d (.sync (s.slot d.val).dom seq false o a)) s = .next t ∧
        (∀ b, t.base b = s.base b) ∧ ∀ r, r ≠ aTime + 0x30 + 0x20 * d.val → t.reg r = s.reg r)) ∧
  (∀ s (d : Fin 2), s.Shape → s.integ.restarting = false → (s.slot d.val).enable = true → (s.slot d.val).st ≠ 2 →
    ∃ t, exec (.ptpAnnounceTimeout d) s = .next t ∧ (t.slot d.val).st = if (s.slot d.val).master then 2 else 0) ∧
  (∀ s (d : Fin 2), s.Shape →
    let p := s.slot d.val
    s.integ.restarting = false → (s.np p.port).up = true → s.netOn = true → (s.np p.port).pause = 0 →
    (p.st = 2 →
      (∃ t, exec (.ptpSyncInterval d 0) s = .next t ∧
        t.out = .net p.port "Follow_Up" [p.dom, p.seqSync, s.base d.val / 2 ^ 48] :: .net p.port "Sync" [p.dom, p.seqSync] :: s.out ∧
        (t.slot d.val).seqSync = (p.seqSync + 1) % 2 ^ 16) ∧
      (∃ t, exec (.ptpSyncInterval d 1) s = .next t ∧
        t.out = .net p.port "Announce" [p.dom, p.seqAnn, 248, 0xFE, p.prio1, p.prio2] :: s.out ∧
        (t.slot d.val).seqAnn = (p.seqAnn + 1) % 2 ^ 16)) ∧
    (p.st = 1 → ∃ t, exec (.ptpSyncInterval d 2) s = .next t ∧ t.out = .net p.port "Delay_Req" [p.dom, p.seqDly] :: s.out ∧
      (t.slot d.val).seqDly = (p.seqDly + 1) % 2 ^ 16))


/-! ### Audio ports -/

/-- O36: a frame of a RUNNING port is received into its queue and, through the open gate, one leaves in which each slot that is
active is driven; masks asked for during it latch for the next frame; a port that was lost locks again after three frames. -/
def Obligations.FramesPassThePort : Prop :=
  ∀ s (p : Fin 16) f, s.Shape → s.time.lostSys = false → (∀ x < 8, (s.sess x).mask.testBit 9 = false) →
    ((s.port p.val).st = 3 → f.glitch = false → f.ovr = false → f.under = false → (s.port p.val).zeroIn = false →
      ∃ t, exec (.tdmFrame p f) s = .next t ∧ (t.port p.val).st = 3 ∧
        (t.port p.val).side.getLast? = some (f.idx, (List.range (ctlSlots (s.pctl p.val))).map fun i =>
          nth 0 f.slots i * 2 ^ (32 - ctlWidth (s.pctl p.val))) ∧
        ((s.port p.val).maskWait = 1 → (t.port p.val).inAct = (s.reg (aPort p.val + 0x10)).toNat ∧
          (t.port p.val).outAct = (s.reg (aPort p.val + 0x14)).toNat ∧ (t.port p.val).maskWait = 0) ∧
        (s.gate = false → t.out = s.out) ∧
        (s.gate = true → ∃ vals, t.out = .tdm p.val vals :: s.out ∧ vals.length = ctlSlots (s.pctl p.val) ∧
          ∀ i < ctlSlots (s.pctl p.val), (nth none vals i).isSome = (s.port p.val).outAct.testBit i) ∧
        ∀ j, j ≠ p.val → t.port j = s.port j) ∧
    ((s.port p.val).st = 5 → (s.port p.val).back = 2 → ∃ t, exec (.tdmFrame p f) s = .next t ∧ (t.port p.val).st = 1 ∧
      (t.port p.val).back = 0 ∧ t.out = s.out) ∧
    ((s.port p.val).st = 5 → (s.port p.val).back < 2 → ∃ t, exec (.tdmFrame p f) s = .next t ∧ (t.port p.val).st = 5 ∧
      (t.port p.val).back = (s.port p.val).back + 1 ∧ t.out = s.out)

/-- O37: a port's states: a lock enters the delta; without zero crossings all channels switch when the timeout ends; a lost
clock and a ratio out of range mute the port; masks are asked for by TDM_CMD. TDM_CTL of a stopped port takes a configuration
that Table PORT-1 allows and sets CFG for another; RUN starts a slave at LOCKING. A side-tone route is stored where its ports
share a clock and no feed carries its slot; gains ramp to what the registers ask. -/
def Obligations.PortsFollowTheirClocksAndWrites : Prop :=
  (∀ s (p : Fin 16), s.Shape →
     ((s.port p.val).st = 1 → s.decides = true → ∃ t x, exec (.asrcLock p) s = .next t ∧
       t.delta.entries = s.delta.entries ++ [.asrcLock p.val x] ∧ x.toNat < 2 ^ 30 ∧ t.ports = s.ports) ∧
     ((s.port p.val).st = 1 → exec (.noLock p) s = .next (s.raise (aPort p.val + 8) 0x20)) ∧
     ((s.port p.val).st = 2 → (s.port p.val).began + ctlTimeout (s.pctl p.val) * 1000000 ≤ s.lNs →
       ∃ t, exec (.portZcTimeout p) s = .next t ∧ (t.port p.val).st = 3 ∧ (t.reg (aPort p.val + 8)).getLsbD 6 = true) ∧
     ((s.port p.val).st = 4 → (s.port p.val).began + ctlTimeout (s.pctl p.val) * 1000000 ≤ s.lNs →
       ∃ t, exec (.portZcTimeout p) s = .next t ∧ (t.port p.val).st = 0 ∧ (t.port p.val).locked = false) ∧
     ((s.port p.val).st ≠ 0 → (s.port p.val).st ≠ 5 → ctlMaster (s.pctl p.val) = false →
       ∃ t, exec (.portClockLost p false) s = .next t ∧ (t.port p.val).st = 5 ∧ (t.port p.val).locked = false ∧
         (t.reg (aPort p.val + 8)).getLsbD 1 = true ∧ ∀ j, j ≠ p.val → t.port j = s.port j) ∧
     ((s.port p.val).st ≠ 0 → (s.port p.val).st ≠ 5 → (s.port p.val).st ≠ 6 → ctlMaster (s.pctl p.val) = false →
       ∃ t, exec (.portRange p) s = .next t ∧ (t.port p.val).st = 6 ∧ (t.reg (aPort p.val + 8)).getLsbD 2 = true) ∧
     ((s.port p.val).st = 6 → ∃ t, exec (.portRangeRecover p) s = .next t ∧ (t.port p.val).st = 1) ∧
     (∀ v late, reservedWrite (aPort p.val + 0xC) v = false → v.getLsbD 0 = true → (s.port p.val).maskWait = 0 →
       exec (.maskApply p v late) s = .next (s.modPort p.val fun q => { q with maskWait := if late then 2 else 1 }))) ∧
  ((∀ s (p : Fin 16) v, s.Shape → reservedWrite (aPort p.val) v = false →
     (ctlOk v = false → exec (.tdmCtlWrite p v) s = .next (s.raise (aPort p.val + 8) 0x80)) ∧
     (ctlOk v = true → groupClash s p.val v = none → ctlMaster v = false → (s.port p.val).st = 0 → (s.pctl p.val).getLsbD 0 = false →
         (∀ x < 8, (s.sess x).mask.testBit 9 = false) → ∃ t, exec (.tdmCtlWrite p v) s = .next t ∧ t.pctl p.val = v ∧ (t.port p.val).st = (if v.getLsbD 0 then 1 else 0) ∧
         ∀ a, a ≠ aPort p.val → t.reg a = s.reg a) ∧
     (ctlOk v = true → (s.port p.val).st ≠ 0 → (s.pctl p.val ^^^ v) &&& 0x003FFFFE ≠ 0 →
       exec (.tdmCtlWrite p v) s = .next (s.raise (aPort p.val + 8) 0x80))) ∧
   (∀ s (r : Fin 64) v, reservedWrite (aRoute r.val) v = false → v.getLsbD 31 = true → (s.reg (aRoute r.val)).getLsbD 31 = false →
     ((feedHolds s (routeOut v)).isSome = true → exec (.sidetoneCtlWrite r v) s = .next (s.raise (aSide + 4) 2)) ∧
     (feedHolds s (routeOut v) = none → (routeIn v).1 = (routeOut v).1 → ∃ t, exec (.sidetoneCtlWrite r v) s = .next t ∧
       t.reg (aRoute r.val) = v ∧ (t.route' r.val).tgt = trimQ (BitVec.ofNat 16 (s.reg (aRoute r.val + 4)).toNat).toInt ∧
       ∀ j, j ≠ r.val → t.route' j = s.route' j)) ∧
   (∀ s (r : Fin 64) v, reservedWrite (aRoute r.val + 4) v = false → ∃ t, exec (.sidetoneGainWrite r v) s = .next t ∧
     t.reg (aRoute r.val + 4) = v &&& 0xFFFF ∧
     ((s.reg (aRoute r.val)).getLsbD 31 = true → (t.route' r.val).tgt = trimQ (BitVec.ofNat 16 v.toNat).toInt) ∧
     ((s.reg (aRoute r.val)).getLsbD 31 = false → (t.route' r.val).tgt = 0) ∧ (t.route' r.val).cur = (s.route' r.val).cur))


/-! ### Bus, memory and DMA -/

/-- O38: a transaction with nothing before it reads or writes its memory and is answered, waits for its domain, stays
outstanding where no target answers, or is refused by the secure part; a write of a register by address acts, and one of another
size ends in a bus error. -/
def Obligations.TransactionsAreServed : Prop :=
  (∀ s q, reservedReq s q = false → heldBack s q = false → s.mem.held = [] → q.aged = false →
    (reqTarget s q = 15 → exec (.busTransaction q) s = .next (s.addOut q 15 none)) ∧
    (∀ d, reqTarget s q ≠ 15 → asleep s q.addr = some d → deadMem s q.addr = false →
      exec (.busTransaction q) s = .next ((s.wakeFor d).addOut q (reqTarget s q) (some d))) ∧
    (reqTarget s q ≠ 15 → asleep s q.addr = none → deadMem s q.addr = false → q.silent = false → q.check = .clean →
      (s.region q.addr = .table ∨ s.region q.addr = .crown ∨ s.region q.addr = .facet) →
      (q.write = none → exec (.busTransaction q) s = .next (s.respond q false (s.readBytes q.addr q.size))) ∧
      (∀ bs, q.write = some bs → exec (.busTransaction q) s = .next ((s.memWrite q.addr (bs.take q.size)).respond q false []))) ∧
    (reqTarget s q ≠ 15 → s.region q.addr = .secure → asleep s q.addr = none → deadMem s q.addr = false → q.silent = false →
      (q.machine = false → q.master.val < 2 → ∃ t, exec (.busTransaction q) s = .next t ∧ (t.reg (aBusmx + 4)).getLsbD 2 = true ∧
        mget {} t.cnts (aBusmx + 0xA0) = (mget {} s.cnts (aBusmx + 0xA0)).add 1 ∧ (t.reg (aInteg + 0xC)).getLsbD 0 = true ∧
        (q.user = false → t.out.head? = some (.bus q.master.val q.id.val true [])) ∧ t.mem = s.mem) ∧
      (q.machine = true → q.master.val < 2 → s.sec.wiping = false →
        (q.write = none → exec (.busTransaction q) s = .next (s.respond q false (s.memBytes q.addr q.size))) ∧
        (∀ bs, q.write = some bs →
          exec (.busTransaction q) s = .next ((s.memWrite q.addr (bs.take q.size)).respond q false []))))) ∧
  (∀ s q, reservedReq s q = false → heldBack s q = true → ∃ t, exec (.busTransaction q) s = .next t ∧ t.mem.held = s.mem.held ++ [q] ∧
    t = { s with mem := t.mem }) ∧
  (∀ s a n v, reservedReq s (coreReq a n (some v)) = false → heldBack s (coreReq a n (some v)) = false → s.mem.held = [] →
    reqTarget s (coreReq a n (some v)) ≠ 15 → s.region a = .periph → asleep s a = none → deadMem s a = false →
    (n = 4 → a % 4 = 0 → exec (.registerWrite a n v) s = .next ((s.regWrite a v false).emit (.bus 0 0 false []))) ∧
    ((n ≠ 4 ∨ a % 4 ≠ 0) → exec (.registerWrite a n v) s = .next (s.emit (.bus 0 0 true []))))

/-- O39: the watchdog ends the oldest transaction of its master and identifier with a bus error, marked, counted and recorded;
its late response is discarded and counted; queue failures poison the blocks that they carry. Memories: the erasure of the
secure part ends; the DRAM's fill reaches its end; read delays are set anew; an idle rank powers down; the scrubber counts what
it corrects and records what it cannot. -/
def Obligations.HangsAreContainedAndMemoriesKept : Prop :=
  ((∀ s (m : Fin 8) id x, s.mem.outs.find? (fun t => t.req.master == m && t.req.id == id && t.wait.isNone) = some x → s.mem.held = [] →
     m ≠ 6 → m ≠ 7 → ∃ t, exec (.busHang m id) s = .next t ∧ t.mem.outs = s.mem.outs.erase x ∧ (t.reg (aBusmx + 4)).getLsbD 0 = true ∧
       mget {} t.cnts (aBusmx + 0x90) = (mget {} s.cnts (aBusmx + 0x90)).add 1 ∧
       (x.req.user = false → t.out.head? = some (.bus m.val id.val true [])) ∧
       (x.target ≠ 15 → (m.val, id.val) ∈ t.mem.ended)) ∧
   (∀ s (m : Fin 8) (id : Fin 16), s.mem.ended.contains (m.val, id.val) = true → ∃ t, exec (.lateResponse m id) s = .next t ∧
     t.mem.ended = s.mem.ended.erase (m.val, id.val) ∧ (t.reg (aBusmx + 4)).getLsbD 1 = true ∧ t.out = s.out ∧
     t.cnts = (s.count (aBusmx + 0x98)).cnts) ∧
   (∀ s q inst dir chans, ∃ t, exec (.cdcQueue q inst dir chans) s = .next t ∧
     t.render.blocks = s.render.blocks.map (fun e =>
       if chans.contains e.1 && !(inward q && e.1 < 2 ^ 28) then (e.1, poison e.2) else e) ∧
     (∀ c ∈ chans, inward q = true → c < 2 ^ 28 → c ∈ t.render.cdcBad) ∧
     (q ≠ .tdmPort → (t.reg (aInteg + 0xC)).getLsbD 0 = true) ∧ (q = .tdmPort → t.reg (aInteg + 0xC) = s.reg (aInteg + 0xC)))) ∧
  (∀ s,
     exec .secureWipeDone s = .next { s with sec := { s.sec with wiping := false } } ∧
     (s.mem.st = 3 → exec .dramInitDone s = .next { s with mem := { s.mem with initDone := true, mark := s.dramSize / 2 ^ 20 } }) ∧
     (s.mem.st = 3 → ∃ t, exec .dramReadRetrain s = .next t ∧ t.mem.train.length = s.mem.train.length ∧
       (∀ i, (nth 0 t.mem.train i).toNat / 256 = (nth 0 s.mem.train i).toNat / 256) ∧ t = { s with mem := t.mem, freeCtr := s.freeCtr + 1 } ∧
       t.mem = { s.mem with train := t.mem.train }) ∧
     (∀ ch rank : Fin 2, s.mem.st = 3 → rank.val < s.mem.ranks → s.reg (aDramc + 0x18) ≠ 0 → 2 * ch.val + rank.val ∉ s.mem.down →
       exec (.dramPowerDown ch rank) s = .next { s with mem := { s.mem with down := s.mem.down ++ [ch.val * 2 + rank.val] } }) ∧
     (∀ m inst addr synd, (s.reg (aInteg + 8)).getLsbD 0 = true →
       exec (.scrubWord m inst addr synd .clean) s = .next s ∧
       (∃ t, exec (.scrubWord m inst addr synd .corrected) s = .next t ∧ mget {} t.cnts (aInteg + 0xA8) = (mget {} s.cnts (aInteg + 0xA8)).add 1 ∧
         t.mem = s.mem ∧ t.integ = s.integ) ∧
       (∃ t, exec (.scrubWord m inst addr synd .uncorrectable) s = .next t ∧ (t.reg (aInteg + 4)).getLsbD 2 = true ∧
         (m ≠ 3 → (t.reg (aInteg + 0xC)).getLsbD 0 = true) ∧ t.mem.bytes = s.mem.bytes)))

/-- O40: START of an idle channel begins at its descriptor pointer; STOP halts one that runs. A descriptor read is a COPY or a
FENCE, or halts its channel; a burst moves whole bytes to its destination. -/
def Obligations.ChannelsRunAndMove : Prop :=
  (∀ mk ∈ [Instr.dmaStart, Instr.dmaStop], ∀ s (c : Fin 32) v, s.Shape → reservedWrite (aDma + 0x1000 + 64 * c.val) v = false →
    ((s.ch c.val).job = .idle → v.getLsbD 0 = true → v.getLsbD 1 = false → ∃ t, exec (mk c v) s = .next t ∧ (t.ch c.val).job = .fetch ∧
      (t.ch c.val).desc = s.reg64 (aDma + 0x1008 + 64 * c.val) ∧ (t.ch c.val).halted = false ∧ ∀ d, d ≠ c.val → t.ch d = s.ch d) ∧
    ((s.ch c.val).job ≠ .idle → v.getLsbD 1 = true → ∃ t, exec (mk c v) s = .next t ∧ (t.ch c.val).job = .idle ∧
      (t.ch c.val).halted = true ∧ (t.ch c.val).cause = 7 ∧ (t.reg (aDma + 8)).getLsbD c.val = true)) ∧
  (∀ s (c : Fin 32), s.Shape → (s.ch c.val).job = .fetch → (s.ch c.val).desc % 64 = 0 → unreach s (s.ch c.val).desc = 0 →
      s.region (s.ch c.val).desc ≠ .periph → s.region (s.ch c.val).desc ≠ .facet →
    let d := s.readBytes (s.ch c.val).desc 64
    (badDesc d = true → ∃ t, exec (.dmaBurstResponse c .ok) s = .next t ∧ (t.ch c.val).job = .idle ∧ (t.ch c.val).halted = true ∧
      (t.ch c.val).cause = 1) ∧
    (badDesc d = false → leAt d 0 4 % 16 = 1 → ∃ t, exec (.dmaBurstResponse c .ok) s = .next t ∧ (t.ch c.val).job = .fence ∧
      t.mem = s.mem) ∧
    (badDesc d = false → leAt d 0 4 % 16 = 0 → badList (leAt d 8 8) (leAt d 16 2) = false → badList (leAt d 24 8) (leAt d 18 2) = false →
      ∃ t, exec (.dmaBurstResponse c .ok) s = .next t ∧ (t.ch c.val).job = .copying ∧ (t.ch c.val).src.entry = leAt d 8 8 ∧
        (t.ch c.val).src.left = leAt d 16 2 ∧ (t.ch c.val).dst.entry = leAt d 24 8 ∧ (t.ch c.val).dst.left = leAt d 18 2 ∧
        t.mem = s.mem)) ∧
  (∀ s (c : Fin 32) (i : Instr) (n : Nat), s.Shape → s.MemOk →
    let q := s.ch c.val
    q.job = .copying → q.flag 8 = false → q.flag 9 = false → q.buf = [] → 0 < n → n ≤ q.src.rem → n ≤ q.dst.rem →
    s.region q.src.addr = .facet → s.region q.dst.addr = .facet → unreach s q.src.addr = 0 → unreach s q.dst.addr = 0 →
    ((q.ctl 10 5 = 31 ∧ i = .dmaBurstResponse c .ok ∧ n = accessLen q.dst.addr q.dst.rem) ∨
      (∃ l : Fin 31, q.ctl 10 5 = l.val ∧ i = .dmaRequest c l .ok ∧ n = min (4 * 2 ^ q.ctl 15 3) q.dst.rem)) →
    ∃ t, exec i s = .next t ∧ t.memBytes q.dst.addr n = s.readBytes q.src.addr n ∧
      (∀ a, a < q.dst.addr ∨ q.dst.addr + n ≤ a → cellGet t.mem.bytes a = cellGet s.mem.bytes a) ∧
      (t.ch c.val).bytes = q.bytes + n ∧ (t.ch c.val).src.rem = q.src.rem - n ∧ (t.ch c.val).dst.rem = q.dst.rem - n ∧
      ∀ d, d ≠ c.val → t.ch d = s.ch d)

/-- O41: a COPY whose bytes are moved, and a FENCE whose turn has come, are done: their status is written, DMA_DONE is set where
it is asked for, and the channel takes the next descriptor or is idle; a COPY whose check differs halts with cause 6. -/
def Obligations.DescriptorsComplete : Prop :=
  ∀ s (c : Fin 32), s.Shape → s.MemOk →
    let q := s.ch c.val
    let ovr := fun (t : State) =>
      t.memBytes (q.desc + 4) 4 = [0, 0, 0, 0x80] ∧ (q.flag 4 = true → (t.reg (aDma + 4)).getLsbD c.val = true) ∧
      (t.ch c.val).job = (if leAt q.dsc 32 8 = 0 then .idle else .fetch) ∧
      (leAt q.dsc 32 8 ≠ 0 → (t.ch c.val).desc = leAt q.dsc 32 8) ∧ ∀ d, d ≠ c.val → t.ch d = s.ch d
    (q.job = .fence → ∃ t, exec (.dmaFenceComplete c) s = .next t ∧ ovr t ∧
      ∀ a, a < q.desc + 4 ∨ q.desc + 8 ≤ a → cellGet t.mem.bytes a = cellGet s.mem.bytes a) ∧
    (q.job = .moved → q.ctl 5 2 = 0 → ∃ t, exec (.dmaCopyComplete c) s = .next t ∧ ovr t ∧
      ∀ a, a < q.desc + 4 ∨ q.desc + 8 ≤ a → cellGet t.mem.bytes a = cellGet s.mem.bytes a) ∧
    (q.job = .moved → q.ctl 5 2 ≠ 0 → (q.flag 7 = true → (q.crc ^^^ 0xFFFFFFFF).toNat = leAt q.dsc 56 4) →
      ∃ t, exec (.dmaCopyComplete c) s = .next t ∧ ovr t ∧
        t.memBytes (q.desc + 60) 4 = leBytes 4 (q.crc ^^^ 0xFFFFFFFF).toNat) ∧
    (q.job = .moved → q.ctl 5 2 ≠ 0 → q.flag 7 = true → (q.crc ^^^ 0xFFFFFFFF).toNat ≠ leAt q.dsc 56 4 →
      ∃ t, exec (.dmaCopyComplete c) s = .next t ∧ (t.ch c.val).job = .idle ∧ (t.ch c.val).halted = true ∧ (t.ch c.val).cause = 6)


/-! ### The pair -/

/-- O42: the interlock: a rising ILK_B lets a unit that may claim take the outputs; a tie ends as the straps say; an unanswered
release is taken back; a line that does not follow its driver sets ILK_FAULT. The Bezel link: heartbeats leave, and arrive with
the peer's state, its compatibility and its time; a notice is kept; a lane that is lost takes the link down, with its count. -/
def Obligations.InterlockAndHeartbeats : Prop :=
  (∀ s,
     (s.pair.claim = false → s.canClaim = true → ∃ t, exec .ilkBEdge s = .next t ∧ t.pair.claim = true ∧ t.pair.ilkB = true ∧
       t.gate = true ∧ t.pair.sync = 0 ∧ t.pair.keeper = .on) ∧
     (s.pair.claim = false → s.canClaim = false → exec .ilkBEdge s = .next { s with
       pair := { s.pair with ilkB := true, tie := false }, delta := { s.delta with marked := s.delta.marked || s.delta.held.isSome } }) ∧
     (s.pair.claim = true → s.pair.ilkB = true → ∃ t, exec .ilkBFall s = .next t ∧ t.pair.claim = true ∧ t.pair.tie = true ∧
       t.gate = false ∧ t.cnts = (s.count (aPair + 0xB8)).cnts) ∧
     (s.pair.tie = true → strapsEqual s = true → ∃ t, exec .claimTieTimeout s = .next t ∧ t.pair.claim = false ∧ t.pair.tie = false ∧
       (t.reg (aPair + 8)).getLsbD 6 = true) ∧
     (s.pair.tie = true → strapsEqual s = false → s.pins.preferred = false → ∃ t, exec .claimTieTimeout s = .next t ∧
       t.pair.claim = false ∧ t.regs = s.regs) ∧
     (s.pair.tie = true → strapsEqual s = false → s.pins.preferred = true → exec .claimTieTimeout s = .next s) ∧
     (∃ t, exec .ilkFault s = .next t ∧ (t.reg (aPair + 8)).getLsbD 5 = true ∧ t.pair = s.pair) ∧
     (s.pair.awaiting = true → ∃ t, exec .handoverFail s = .next t ∧ t.pair.claim = true ∧ t.pair.awaiting = false ∧ t.pair.sync = 0 ∧
       (t.reg (aPair + 8)).getLsbD 4 = true)) ∧
  (∀ s, s.pairEn = true →
     exec .heartbeatTx s = .next { s with power := { s.power with tell := none }, out := .bezel (.heartbeat (ownBeat s)) :: s.out } ∧
     (∀ cls, exec (.noticeRx cls) s = .next { s with pair := { s.pair with notice := some cls } }) ∧
     (∀ h, ∃ t, exec (.heartbeatRx h) s = .next t ∧ t.pair.peer = some h ∧ t.linkUp = true ∧ t.peerSync = h.sync.val ∧
       t.peerRole = h.role.val ∧ (incompatible s h = true → (t.reg (aPair + 8)).getLsbD 7 = true) ∧
       (s.pair.claim = false → s.pair.sync ≠ 0 → 1000 < (h.peerL - h.ownL).natAbs → t.pair.sync = 0 ∧ (t.reg (aPair + 8)).getLsbD 2 = true)) ∧
     (∀ lane, s.linkUp = true → ∃ t, exec (.bezelLink lane) s = .next t ∧ t.linkUp = false ∧ (t.reg (aPair + 8)).getLsbD 1 = true ∧
       t.peerRole = 0 ∧ t.reg (aInteg + 0xC) = s.reg (aInteg + 0xC)))

/-- O43: the standby's deltas: a bad segment is asked for again; a whole delta whose staged objects are held is acknowledged and
held; a committed one waits for its boundary, or for the image, and a dropped one goes. A staged session is the standby's, and a staged
command joins its transaction there. The active takes the acknowledgement and
sends what it is asked for. -/
def Obligations.DeltasCrossTheLink : Prop :=
  (∀ s, takesDeltas s = true →
    (∀ g : DeltaSeg, g.good = false → exec (.deltaSegment g) s = .next { s with out := .bezel (.resend [g.index]) :: s.out }) ∧
    (∀ g : DeltaSeg, g.good = true → g.total = 1 → g.index = 0 → s.delta.rxSeq ≠ g.seq → (∀ n ∈ g.names, mhas s.pair.staged n = true) →
      ∃ t, exec (.deltaSegment g) s = .next t ∧ t.out = .bezel (.ack g.seq) :: s.out ∧ t.delta.marked = false ∧
        t.delta.held = some { boundary := g.boundary, seq := g.seq, verify := g.verify, entries := g.entries }) ∧
    (∀ n bs, ∃ t, exec (.stagingRx n (.bytes bs)) s = .next t ∧ mfind t.pair.staged n = some bs ∧
      (∀ m, m ≠ n → mfind t.pair.staged m = mfind s.pair.staged m) ∧
      (∀ c, s.delta.rxWhole = some c → (∀ m ∈ s.delta.rxNames, m = n ∨ mhas s.pair.staged m = true) →
        t.delta.held = some c ∧ t.out = .bezel (.ack c.seq) :: s.out)) ∧
    (∀ n (x : Fin 8) m, s.Shape → s.standby = true → (s.sess x.val).ver ≤ m.ver →
      ∃ t, exec (.stagingRx n (.session x.val m)) s = .next t ∧ (t.sess x.val).isOpen = m.isOpen ∧ (t.sess x.val).ep = m.ep ∧
        (t.sess x.val).mask = m.mask ∧ (t.sess x.val).idle = m.idle ∧ (t.sess x.val).txn = m.txn ∧ (t.sess x.val).timed = m.timed ∧
        ∀ y, y ≠ x.val → t.sess y = s.sess y) ∧
    (∀ n (x : Fin 8) txn g q, ∀ r ∈ deferredRows, s.Shape → s.standby = true → txn ≠ 0 → (s.sess x.val).txn = some q → q.id = txn →
      g.op = r.op → ∃ t, exec (.stagingRx n (.command x.val txn g)) s = .next t ∧
        (t.sess x.val).txn.map (fun u => (u.id, u.cmds)) = some (txn, q.cmds ++ [g]) ∧ ∀ y, y ≠ x.val → t.sess y = s.sess y) ∧
    (∀ c, s.delta.held = some c →
      (s.pair.sync ≠ 1 → exec (.markRx c.seq true) s = .next { s with delta := { s.delta with marked := true } }) ∧
      (s.pair.sync = 1 → ∃ t, exec (.markRx c.seq true) s = .next t ∧ t.delta.kept = s.delta.kept ++ [c] ∧ t.delta.held = none) ∧
      exec (.markRx c.seq false) s = .next { s with delta := { s.delta with held := none, marked := false } })) ∧
  (∀ s c, s.role = 1 → s.delta.closed = some c →
    (s.delta.committed = false → exec (.ackRx c.seq) s = .next { s with delta := { s.delta with acked := true } }) ∧
    (∀ l, exec (.resendRx l) s = .next { s with out := .bezel (.deltaAgain c l) :: s.out }))

/-- O44: input reconciliation: the active returns the blocks that differ; the standby takes them and counts them, and loses step
over more than 256 or over none in time. -/
def Obligations.InputsAreReconciled : Prop :=
  (∀ s cs, s.role = 1 → ∃ bs, exec (.reconRx cs) s = .next { s with out := .bezel (.reconData bs) :: s.out } ∧
    ∀ c w x, (c, w, x) ∈ bs ↔ ∃ b v, (c, v) ∈ cs ∧ s.blk c = some b ∧ b.carat ≠ v ∧ w = b.carat ∧ x = b.smp) ∧
  (∀ s bs last, s.pairEn = true → s.pair.claim = false → s.pair.reconDone = false →
    (s.pair.reconCount + bs.length ≤ 256 → (bs.map (·.1)).Nodup → ∃ t, exec (.reconDataRx bs last) s = .next t ∧
      (∀ b ∈ bs, ∀ o, s.blk b.1 = some o → t.blk b.1 = some { o with carat := b.2.1, smp := b.2.2 }) ∧
      (∀ c, c ∉ bs.map (·.1) → t.blk c = s.blk c) ∧ t.pair.reconDone = last ∧ t.pair.reconCount = s.pair.reconCount + bs.length) ∧
    (256 < s.pair.reconCount + bs.length → s.pair.sync ≠ 0 → ∃ t, exec (.reconDataRx bs last) s = .next t ∧ t.pair.sync = 0 ∧
      t.render = s.render ∧ (t.reg (aPair + 8)).getLsbD 3 = true)) ∧
  (∀ s, s.pairEn = true → s.pair.claim = false → 1 ≤ s.pair.sync → s.pair.reconDone = false → ∃ t, exec .reconDeadline s = .next t ∧
    t.pair.sync = 0 ∧ (t.reg (aPair + 8)).getLsbD 3 = true ∧ (t.reg (aPair + 8)).getLsbD 2 = true)

/-- O45: synchronisation: it starts, takes the image (its zones, feeds, objects, flows and kernels) and the deltas kept, loads the carried state, settles, verifies, and stands
in step; a reclaim is announced. -/
def Obligations.SynchronisationAdvances : Prop :=
  (∀ s, mayStart s = true → (s.reg aPair).getLsbD 1 = true → ∃ t, exec .autoSyncStart s = .next t ∧ t.pair.sync = 1 ∧
    t.delta.kept = [] ∧ t.pair.staged = [] ∧ t.render = s.render) ∧
  (∀ s m, takesDeltas s = true → s.pair.sync = 1 → s.delta.kept = [] → (m.flows.map (·.1)).Nodup →
    (∀ k < 4, (s.np k).reduced = false) → ∃ t, exec (.syncImageComplete m) s = .next t ∧ t.pair.sync = 2 ∧
    t.pair.imageDone = true ∧ t.render.zones = m.render.zones ∧ t.render.feeds = m.render.feeds ∧ t.render.objs = m.render.objs ∧
    t.render.n = s.render.n ∧ (∀ f, t.flow f = mget {} m.flows f) ∧ t.facets.kernels = m.kernels ∧ t.mem = s.mem) ∧
  (∀ s o rt, s.pairEn = true → s.pair.claim = false → s.pair.sync = 2 → ∃ t, exec (.transplantRx (.object o rt)) s = .next t ∧
    t.objRt o = rt ∧ (∀ j, j ≠ o → t.objRt j = s.objRt j) ∧
    t.pair.sync = (if (liveObjs s).length + (liveFeeds s).length ≤ s.pair.records then 3 else 2)) ∧
  (∀ s f rt, s.pairEn = true → s.pair.claim = false → s.pair.sync = 2 → ∃ t, exec (.transplantRx (.feed f rt)) s = .next t ∧
    t.feedRt f = rt ∧ ∀ j, j ≠ f → t.feedRt j = s.feedRt j) ∧
  (∀ s, s.pair.claim = false → s.pair.sync = 3 → exec .syncSettleEnd s =
    .next { s with pair := { s.pair with sync := 4, verifyCount := 0 } }) ∧
  (∀ s, s.pair.claim = false → s.pair.sync = 4 → 64 ≤ s.pair.verifyCount → ∃ t, exec .syncVerified s = .next t ∧ t.pair.sync = 5 ∧
    t.pair.keeper = .tracking ∧ t = { s with pair := t.pair }) ∧
  (∀ s, mayReclaim s = true → ∃ t, exec .reclaimHoldoffExpiry s = .next t ∧
    t.delta.entries = s.delta.entries ++ [.handover (s.render.n + 5) 3] ∧ t.pair = s.pair)


/-! ### Power, integrity and start-up -/

/-- O46: lockstep and stalls: the control complex restarts, with what it had not closed gone, and L's rate holds; a second fault in a restart, or a
restart that does not end, stops the unit; a restarted Ganen closes its first delta. The fourth sample in a row above the
greatest temperature is THERMAL, until one is not; supplies out of range are noted, recorded outside reset, and reset the device
below their threshold; clocks that are lost are marked and recorded. -/
def Obligations.ControlRestartsAndMonitorsDetect : Prop :=
  (∀ s,
     (∀ c pc, s.integ.restarting = false → ∃ t, exec (.lockstep c pc) s = .next t ∧ t.integ.restarting = true ∧
       t.delta.entries = [] ∧ t.delta.closed = none ∧ (t.reg (aInteg + 0xC)).getLsbD 0 = true ∧ t.kcp.pieces = []) ∧
     (∀ c pc, s.integ.restarting = true → ∃ t, exec (.lockstep c pc) s = .next t ∧ t.integ.stopped = true) ∧
     (∀ m, s.integ.restarting = true → exec (.pullStep m) s = .next s) ∧
     (s.integ.restarting = true → ∃ t, exec .ganenRestartTimeout s = .next t ∧ t.integ.stopped = true ∧ t.integ.restarting = false ∧
       (t.reg (aInteg + 0xC)).getLsbD 0 = true) ∧
     (s.integ.restarting = true → ∃ t c, exec .ganenRestartDone s = .next t ∧ t.integ.restarting = false ∧ t.loaded = true ∧
       t.delta.closed = some c ∧ c.boundary = s.render.n + 1 ∧ c.entries = [] ∧ t.delta.committed = true ∧ t.integ.lastClosed = s.render.n + 1)) ∧
  (∀ s,
     (∀ x, s.tjMax < x → s.integ.hot = 3 → ∃ t, exec (.thermalSample x) s = .next t ∧ (t.reg (aInteg + 0x28)).getLsbD 8 = true ∧
       (t.reg (aInteg + 4)).getLsbD 3 = true ∧ (t.reg (aInteg + 0xC)).getLsbD 0 = true ∧ t.integ.hot = 4) ∧
     (∀ x, s.tjMax < x → s.integ.hot < 3 → ∃ t, exec (.thermalSample x) s = .next t ∧ t.integ.hot = s.integ.hot + 1 ∧ t.out = s.out) ∧
     (∀ x, x ≤ s.tjMax → ∃ t, exec (.thermalSample x) s = .next t ∧ t.integ.hot = 0 ∧ (t.reg (aInteg + 0x28)).getLsbD 8 = false ∧
       t.out = s.out) ∧
     (∀ (m : Fin 8) mv, (10 * mv < (supplyRange m.val s.power.volt).1 ∨ (supplyRange m.val s.power.volt).2 < 10 * mv) →
       (supplyReset m.val ≤ mv → s.boot.phase = .inReset →
         exec (.supply m mv) s = .next { s with pins := { s.pins with supplyBad := s.pins.supplyBad ||| 2 ^ m.val } }) ∧
       (supplyReset m.val ≤ mv → s.boot.phase ≠ .inReset → ∃ t, exec (.supply m mv) s = .next t ∧ t.pins.supplyBad = s.pins.supplyBad ||| 2 ^ m.val ∧
         (t.reg (aInteg + 4)).getLsbD 3 = true ∧ (t.reg (aInteg + 0xC)).getLsbD 0 = true) ∧
       (mv < supplyReset m.val → ∃ t, exec (.supply m mv) s = .next t ∧ t.boot = State.reset.boot ∧ t.render = State.reset.render ∧
         t.pins.supplyBad = s.pins.supplyBad ||| 2 ^ m.val ∧ t.out = .ready false :: s.out)) ∧
     (∀ e, s.pins.supplyBad ≠ 0 → s.boot.phase ≠ .inReset →
       exec (.supplyInRange e) s = .next { s with pins := { s.pins with supplyBad := 0 } }) ∧
     (∀ c : Fin 4, s.mem.held = [] → nth false [s.time.lostOsc, s.time.lostSys, s.time.lostAudio, s.time.lostDram] c.val = false →
       ∃ t, exec (.clockLoss c) s = .next t ∧ nth false [t.time.lostOsc, t.time.lostSys, t.time.lostAudio, t.time.lostDram] c.val = true ∧
         (t.reg (aClksel + 8)).getLsbD c.val = true ∧ (t.reg (aInteg + 0xC)).getLsbD 0 = true ∧
         (c = 1 → t.integ.stopped = true ∧ t.render.run = false) ∧ (c = 3 → t.mem.st = 5)) ∧
     (s.time.lostSys = true → ∃ t, exec .syspllRelock s = .next t ∧ t.time.lostSys = false ∧ t.integ.restarting = true ∧ t.loaded = false))

/-- O47: the log: the oldest record not copied goes to its place in DRAM; what a second coalesced is one record with its number;
FAULT clears on the write unless a condition persists; a snapshot takes its block's counters. -/
def Obligations.RecordsAndCountersAreKept : Prop :=
  (∀ s q rest r, s.logBase ≠ 0 → s.logLen ≠ 0 → s.mem.dramFailed = false → s.integ.uncopied = q :: rest → s.integ.log.find? (fun r => r.seq == q) = some r →
    s.MemOk → ∃ t, exec .logCopy s = .next t ∧ t.integ.uncopied = rest ∧ t.integ.dram.getLast? = some r ∧ t.integ.log = s.integ.log ∧
      t.memBytes (s.logBase + 64 * (q % s.logLen)) 64 = r.stored ∧
      ∀ a, a < s.logBase + 64 * (q % s.logLen) ∨ s.logBase + 64 * (q % s.logLen) + 64 ≤ a → cellGet t.mem.bytes a = cellGet s.mem.bytes a) ∧
  (∀ s cls unit inst dev n, s.integ.recent.find? (fun e => e.1 == cls && e.2.1 == unit && e.2.2.1 == inst) = some (cls, unit, inst, dev, n) →
    (n = 0 → ∃ t, exec (.repeatRecord cls unit inst) s = .next t ∧ t = { s with integ := t.integ } ∧ t.integ.log = s.integ.log ∧
      ∀ e ∈ t.integ.recent, ¬ (e.1 = cls ∧ e.2.1 = unit ∧ e.2.2.1 = inst)) ∧
    (n ≠ 0 → ∃ t r, exec (.repeatRecord cls unit inst) s = .next t ∧ t.integ.log.getLast? = some r ∧ r.cls = cls ∧ r.unit = unit ∧
      r.inst = inst ∧ r.rep = n ∧ r.seq = (s.reg (aInteg + 0x10)).toNat ∧ t.reg (aInteg + 0x10) = s.reg (aInteg + 0x10) + 1)) ∧
  (∀ s v, reservedWrite (aInteg + 0xC) v = false → v.getLsbD 0 = true →
    (s.persist = true → exec (.integFaultWrite v) s = .next s) ∧
    (s.persist = false → ∃ t, exec (.integFaultWrite v) s = .next t ∧ (t.reg (aInteg + 0xC)).getLsbD 0 = false ∧
      ∀ a, a ≠ aInteg + 0xC → t.reg a = s.reg a)) ∧
  (∀ s a v, a ∈ snapRegs → reservedWrite a v = false → v.getLsbD 0 = true → ∃ t, exec (.cntSnap a v) s = .next t ∧
    t = { s with cnts := t.cnts } ∧ ∀ k, mfind t.cnts k = (mfind s.cnts k).map fun c =>
      if a - 0x80 ≤ k ∧ k < a - 0x80 + snapSpan a then c.capture false else c)

/-- O48: an entry into a lower state: each domain that is asked grants and takes its condition, the last one ends the entry; one
that refuses, or delays too long, aborts it; a delay changes nothing; a wake source aborts it, or begins the return. Domains:
one that wakes takes its condition when it is ready, and is FAILED when its supply is late; a FAILED one can be retried; PMU_REQ
begins a request; the refusal counts can be cleared. Operating points: a confirmed lowering is done and a confirmed raising
takes its clock at the boundary; without confirmation the previous voltage is commanded and the clock stays; an alert is
latched. -/
def Obligations.DomainsFollowTheirEntries : Prop :=
  (∀ s, s.Shape →
     (∀ (d : Fin 11) x rest stopped w, s.power.job = some (.entry x (d.val :: rest) stopped w) → refusal s x d.val = none →
       d.val ∉ rest →
       ∃ t, exec (.domainGrant d) s = .next t ∧ t.dom d.val = domCond x d.val ∧
         (rest = [] → t.power.st = x ∧ t.power.job = none) ∧
         (∀ b l, rest = b :: l → b < 11 → t.dom b = 5 ∧ t.power.job = some (.entry x rest (d.val :: stopped) false) ∧
           t.power.st = s.power.st)) ∧
     (∀ d, exec (.domainDelay d) s = .next s) ∧
     (∀ (d : Fin 11) x rest w, s.power.job = some (.entry x (d.val :: rest) [] w) → s.power.refuse.length = 11 →
       (∃ t, exec (.domainDelayExpired d) s = .next t ∧ t.power.job = none ∧ t.power.st = s.power.st ∧
         nth 0 t.power.refuse d.val = min 0xFFFF (nth 0 s.power.refuse d.val + 1) ∧ t.dom d.val = domCond s.power.st d.val) ∧
       (∀ r : Fin 12, refusal s s.power.target d.val = some r.val → ∃ t, exec (.domainRefuse d r) s = .next t ∧ t.power.job = none ∧
         nth 0 t.power.refuse d.val = min 0xFFFF (nth 0 s.power.refuse d.val + 1) ∧
         t.reg (aPmu + 0xC) = BitVec.ofNat 32 (x * 65536 + r.val * 256 + d.val))) ∧
     (∀ (d : Fin 11) x rest y l w, s.power.job = some (.entry x (d.val :: rest) (y :: l) w) → y < 11 → y ≠ d.val →
       ∃ t reason, exec (.domainDelayExpired d) s = .next t ∧ t.power.job = some (.undo x (y :: l) d.val reason) ∧ t.dom y = 4) ∧
     ((s.reg (aPmu + 0x20)).getLsbD 0 = true → exec .wakeNEdge s = .next s.wakeSource) ∧
     (∀ (k : Fin 2) bs, s.power.st = 3 → (s.reg (aPmu + 0x20)).getLsbD (1 + k.val) = true → (s.reg (aNet (4 + k.val))).getLsbD 27 = true →
       isKcpWake s (4 + k.val) bs = true → exec (.wakeFrame k bs) s = .next s.wakeSource) ∧
     (s.power.job = none → s.power.st ≠ 0 → ∀ d l, toWake s 0 = d :: l → d < 11 → s.wakeSource.dom d = 4 ∧
       s.wakeSource.power.job = some (.back 0 (d :: l) none)) ∧
     (∀ x y w, s.power.job = some (.entry x y [] w) → s.wakeSource.power.job = none)) ∧
  (∀ s, s.Shape → s.mem.outs = [] → s.mem.held = [] →
     (∀ d : Fin 11, s.dom d.val = 4 → s.power.job = none → s.power.st ≠ 3 →
       ∃ t, exec (.domainReady d) s = .next t ∧ t.dom d.val = (if nth false s.power.demand d.val then 1 else domCond s.power.st d.val) ∧
         t.power.st = s.power.st) ∧
     (∀ (d : Fin 11) lock, s.dom d.val = 4 → s.power.job = none → s.power.st ≠ 3 →
       ∃ t, exec (.domainWake d lock) s = .next t ∧ t.dom d.val = 6 ∧ (t.reg (aPmu + 4)).getLsbD 1 = true ∧
         (t.reg (aInteg + 0xC)).getLsbD 0 = true) ∧
     (∀ v, reservedWrite (aPmu + 0x1C) v = false → mayRetry s (v.toNat % 16) = true →
       exec (.pmuRetryWrite v) s = .next (s.setDom (v.toNat % 16) 4)) ∧
     (∀ v, reservedWrite (aPmu + 0x48) v = false → v.getLsbD 0 = true →
       exec (.pmuRefuseClr v) s = .next { s with power := { s.power with refuse := List.replicate 11 0 } }) ∧
     (∀ v, reservedWrite (aPmu + 8) v = false → s.power.job = none → v.toNat % 4 ≠ s.power.st →
       ∃ t, exec (.pmuReqWrite v) s = .next t ∧ t.reg (aPmu + 8) = v ∧ t.power = { s.power with job := some (.begin' (v.toNat % 4)) })) ∧
  (∀ s,
     (∀ mv p, s.power.job = some (.lowered p) → pointMv p ≤ mv + 10 → mv ≤ pointMv p + 10 →
       ∃ t, exec (.voltageConfirmed mv 0) s = .next t ∧ t.power.job = none ∧ t.power.volt = p) ∧
     (∀ mv p, s.power.job = some (.raising p) → pointMv p ≤ mv + 10 → mv ≤ pointMv p + 10 →
       ∃ t, exec (.voltageConfirmed mv 0) s = .next t ∧ t.power.job = some (.raised p) ∧ t.power.volt = p ∧ t.power.point = s.power.point) ∧
     (∀ p, (s.power.job = some (.raising p) ∨ s.power.job = some (.lowered p)) →
       ∃ t, exec .voltageTimeout s = .next t ∧ t.power.job = none ∧ t.power.voltCmd = s.power.volt ∧ t.power.point = s.power.point ∧
         (t.reg (aPmu + 4)).getLsbD 2 = true) ∧
     (∀ w, ∃ t, exec (.pmbAlert w) s = .next t ∧ t.pins.pmbAlert = true ∧ (t.reg (aPmu + 4)).getLsbD 3 = true ∧
       (t.reg (aPmu + 0x28)).toNat / 65536 = w.toNat ∧ ∀ a, a ≠ aPmu + 4 → a ≠ aPmu + 0x28 → t.reg a = s.reg a))

/-- O49: POR_N resets every domain but AON: registers, memories and the render are as after reset, and the secure part stays.
Its release starts the unit from the first good image, or leaves it in recovery. -/
def Obligations.PorResetsAndStarts : Prop :=
  (∀ s, ∃ t, exec .porAssert s = .next t ∧ t.boot = State.reset.boot ∧ t.render = State.reset.render ∧ t.kcp = State.reset.kcp ∧
    t.delta = State.reset.delta ∧ t.facets = State.reset.facets ∧ t.loupe = State.reset.loupe ∧ t.net = State.reset.net ∧
    t.ports = State.reset.ports ∧ t.dma = State.reset.dma ∧ t.pins.porLow = true ∧ t.sec.keys = s.sec.keys ∧
    t.sec.lifecycle = s.sec.lifecycle ∧ t.time.frc = s.time.frc ∧ t.power.refuse = s.power.refuse ∧ t.out = .ready false :: s.out ∧
    (∀ a, a < secLo ∨ secHi ≤ a → cellGet t.mem.bytes a = 0) ∧
    (∀ a, secLo ≤ a → a < secHi → cellGet t.mem.bytes a = cellGet s.mem.bytes a)) ∧
  (∀ s e, s.boot.phase = .inReset → s.pins.supplyBad = 0 → e.powerOk = true → e.sysPll = true → e.audioPll = true → e.dramPll = true →
    e.pciePll = true → e.trained = true → e.spiHeld = false → s.mem.dramFailed = false →
    ((tryImg s e.slot0).1 = 0 → ∃ t, exec (.porRelease e) s = .next t ∧ t.boot.phase = .ready ∧ t.boot.slot = 0 ∧
      t.boot.fallback = false ∧ t.render.run = true ∧ t.power.st = 0 ∧ (∀ d < 11, t.dom d = 1) ∧ t.pins.porLow = false ∧
      .ready true ∈ t.out) ∧
    ((tryImg s e.slot0).1 ≠ 0 → (tryImg s e.slot1).1 = 0 → ∃ t, exec (.porRelease e) s = .next t ∧ t.boot.phase = .ready ∧
      t.boot.slot = 1 ∧ t.boot.fallback = true ∧ t.boot.imgErr = (tryImg s e.slot0).2) ∧
    ((tryImg s e.slot0).1 ≠ 0 → (tryImg s e.slot1).1 ≠ 0 → ∃ t, exec (.porRelease e) s = .next t ∧ t.boot.phase = .recovery ∧
      t.boot.fallback = true ∧ t.render.run = s.render.run ∧ t.boot.failStep = (tryImg s e.slot1).1 ∧
      t.boot.imgErr = (tryImg s e.slot1).2))

/-- O50: tamper erases the keys and the secure part and sets its latch, which a read clears; JTAG debug reaches the control
cores only in BLANK and DEVELOP. -/
def Obligations.SecretsAreErased : Prop :=
  (∀ s (c : Fin 3) low, (c ≠ 0 ∨ low = true) → ∃ t, exec (.tamper c low) s = .next t ∧ t.sec.keys = List.replicate 8 none ∧
    t.sec.wiping = true ∧ (∀ a, secLo ≤ a → a < secHi → cellGet t.mem.bytes a = 0) ∧ t.kcp.window = none ∧
    (t.reg (aSec + 8)).getLsbD c.val = true ∧ (t.reg (aSec + 4)).getLsbD c.val = true ∧ t.sec.lifecycle = s.sec.lifecycle) ∧
  (∀ s, exec .secTamperLatchRead s = .next (s.setReg (aSec + 8) 0)) ∧
  (∀ s, exec (.jtagDebugAccess .scan) s = .next s ∧
    (∀ a w, 2 ≤ s.sec.lifecycle → exec (.jtagDebugAccess (.debug a w)) s = .next s) ∧
    (∀ a w, s.sec.lifecycle < 2 → reservedReq s (coreReq a 4 w) = false →
      exec (.jtagDebugAccess (.debug a w)) s = .next (s.busIssue (coreReq a 4 w))))

/-- O51: a counter of 48 bits saturates: at 2^48 - 1 it stops and its SAT bit sets and stays; so captured it reads 0xFFFF_FFFF
and 0x8000_FFFF, and over KCP all ones with SAT in bit 63. -/
def Obligations.CountersSaturate : Prop :=
  ∀ (c : Cnt) (n : Nat), c.live < 2 ^ 48 → (c.sat = true → c.live = 2 ^ 48 - 1) →
    (c.add n).live = min (2 ^ 48 - 1) (c.live + n) ∧ ((c.add n).sat = true ↔ c.sat = true ∨ 2 ^ 48 - 1 ≤ c.live + n) ∧
    ((c.add n).sat = true → ((c.add n).capture true).lo = 0xFFFFFFFF ∧ ((c.add n).capture true).hi = 0x8000FFFF ∧
      beAt ((c.add n).capture true).kcp 0 8 = 2 ^ 48 - 1 + 2 ^ 63)


/-! ### Commands at their boundary -/

/-- O59: what a command on zones, feeds, objects, routes, chains or filters does. In order and admitted, with good parameters and
units that prepare, it completes: it is the last entry of the delta; and in whatever state its delta takes effect, that entry gives
the command's fields their new values, as its row says, and leaves the others of the kind. -/
def Obligations.RenderCommandsTakeEffect : Prop :=
  ∀ r ∈ renderEffects, ∀ p s, InOrder r.op p s →
     let u := s.received p
     let c := toCmd r.op p
     let w := u.projected
     Admitted r.spec c u → r.spec.atOnce c u = false → r.spec.param c w = none → r.spec.busy c w = none →
     failedUnits u (r.spec.units c w) = [] → wholeCheck w (r.spec.apply c [] w) (r.spec.scalars c w) (r.spec.firs c w) = none →
     ∃ v e, exec (r.send p) s = .next v ∧ v.delta.entries.getLast? = some e ∧
       ∀ x : State, x.Shape → r.does (entryCmd e) x (x.applyEntry e)

/-- O60: the same of commands on kernels, Loupe, the network, time, the audio ports and power. A veto cancels its action as it is
accepted, and marks the feed of a withdrawal. A request for a power state or an operating point enters its change before itself:
where no request runs, an entry into a lower state asks its first domain to stop, a return wakes its first domain, a lowering of
the point commands the voltage with the point already changed, and a raising before it changes. -/
def Obligations.DeviceCommandsTakeEffect : Prop :=
  (∀ r ∈ deviceEffects, ∀ p s, InOrder r.op p s →
     let u := s.received p
     let c := toCmd r.op p
     let w := u.projected
     Admitted r.spec c u → r.spec.atOnce c u = false → r.spec.param c w = none → r.spec.busy c w = none →
     failedUnits u (r.spec.units c w) = [] → wholeCheck w (r.spec.apply c [] w) (r.spec.scalars c w) (r.spec.firs c w) = none →
     ∃ v e, exec (r.send p) s = .next v ∧ v.delta.entries.getLast? = some e ∧
       ∀ x : State, x.Shape → r.does (entryCmd e) x (x.applyEntry e)) ∧
  (∀ p s, InOrder 0x0606 p s →
     let u := s.received p
     let c := toCmd 0x0606 p
     let w := u.projected
     Admitted specLoupeVeto c u → specLoupeVeto.atOnce c u = false → specLoupeVeto.param c w = none → specLoupeVeto.busy c w = none →
     failedUnits u (specLoupeVeto.units c w) = [] → wholeCheck w (specLoupeVeto.apply c [] w) (specLoupeVeto.scalars c w) (specLoupeVeto.firs c w) = none →
     ∃ v, exec (.loupeVeto p) s = .next v ∧ mfind v.loupe.acts (c.at 20 2) = none ∧
       ∀ a, mfind s.loupe.acts (c.at 20 2) = some a → a.kind = 2 → (v.lf a.feed).vetoed = true) ∧
  (∀ p s, InOrder 0x0C00 p s →
     let u := s.received p
     let c := toCmd 0x0C00 p
     let w := u.projected
     Admitted specPwrState c u → specPwrState.atOnce c u = false → specPwrState.param c w = none → specPwrState.busy c w = none →
     failedUnits u (specPwrState.units c w) = [] → wholeCheck w (specPwrState.apply c [] w) (specPwrState.scalars c w) (specPwrState.firs c w) = none →
     let t := c.at 20 1
     ∃ v e, exec (.pwrState p) s = .next v ∧ v.delta.entries = u.delta.entries ++ [.powerState t, e] ∧
       ∀ x : State, x.Shape → x.power.job = none →
         (∀ d l, x.power.st < t → toAsk x t = d :: l → ((x.applyEntry (.powerState t)).dom d = 5 ∧
           (x.applyEntry (.powerState t)).power.job = some (.entry t (d :: l) [] false))) ∧
         (∀ d l, t < x.power.st → toWake x t = d :: l → ((x.applyEntry (.powerState t)).dom d = 4 ∧
           (x.applyEntry (.powerState t)).power.job = some (.back t (d :: l) none)))) ∧
  (∀ p s, InOrder 0x0C01 p s →
     let u := s.received p
     let c := toCmd 0x0C01 p
     let w := u.projected
     Admitted specPwrOppoint c u → specPwrOppoint.atOnce c u = false → specPwrOppoint.param c w = none → specPwrOppoint.busy c w = none →
     failedUnits u (specPwrOppoint.units c w) = [] → wholeCheck w (specPwrOppoint.apply c [] w) (specPwrOppoint.scalars c w) (specPwrOppoint.firs c w) = none →
     let g := c.at 20 1
     ∃ v e, exec (.pwrOppoint p) s = .next v ∧ v.delta.entries = u.delta.entries ++ [.powerPoint g, e] ∧
       ∀ x : State, g ≠ x.power.point →
         let y := x.applyEntry (.powerPoint g)
         y.power.voltCmd = g ∧ y.out = .pmbus 0x21 (pointMv g) :: x.out ∧
         (x.power.point < g → y.power.point = g ∧ y.power.job = some (.lowered g)) ∧
         (g < x.power.point → y.power.point = x.power.point ∧ y.power.job = some (.raising g)))


/-! ### The machine as a whole -/

/-- O52: a step runs the command at the front of the queue with the rest of the queue; on an empty queue one cycle of the 500
MHz clock passes (the model's choice, logs 1 and 192). -/
def Obligations.StepTakesTheCommandAtTheFront : Prop :=
  (∀ c l (s : State), step { s with pending := c :: l } = exec c { s with pending := l }) ∧
  (∀ s : State, step { s with pending := [] } = .next ({ s with pending := [] }).idleStep)

/-- O53: SYS_ID and SYS_STEPPING read the part's number and the stepping B0 in every state. -/
def Obligations.IdentityRegistersReadThePart : Prop :=
  ∀ s, regRead s aSys = 0x00009012 ∧ regRead s (aSys + 4) = 0x000000B0

/-- O54: right after reset nothing waits and nothing has left, no session is open, no key is held, the render rests, the output
gate is closed, no reference is selected, every port and channel rests, the registers read as their tables say, and the
invariants hold. -/
def Obligations.ResetLeavesTheMachineAtRest : Prop :=
  let s := State.reset
  s.pending = [] ∧ s.out = [] ∧ s.MemOk ∧ s.Shape ∧ s.mem.bytes = [] ∧ s.serving = false ∧ s.gate = false ∧ s.render.run = false ∧
  (∀ x < 8, (s.sess x).isOpen = false ∧ nth none s.sec.keys x = none) ∧ s.time.sel.sel = none ∧
  (∀ k < 6, (s.np k).up = false) ∧ (∀ c < 32, (s.ch c).job = .idle) ∧ s.kcp.window = none ∧ s.pair.claim = false ∧
  regRead s (aClksel) = 0x012C00A0 ∧ regRead s (aTime + 0x10) = 0x000A3333 ∧ regRead s (aBusmx + 8) = 0xE ∧
  (∀ k < 6, regRead s (aNet k + 8) = 0) ∧ (∀ k < 4, regRead s (aRing k + 0x44) = 0) ∧ regRead s (aInteg + 0xC) = 0

/-- O55: every step keeps the byte memory in its canonical form. -/
def Obligations.StepKeepsTheMemorysForm : Prop :=
  ∀ s t, s.MemOk → step s = .next t → t.MemOk

/-- O56: every step keeps the sessions, ring pairs, key slots, Facets, domains, ports and channels as many as the spec numbers
them. -/
def Obligations.StepKeepsTheShape : Prop :=
  ∀ s t, s.Shape → step s = .next t → t.Shape

/-- O57: a step takes at most the command at the front: the commands that wait behind it are as they were. -/
def Obligations.StepTakesNoOtherCommand : Prop :=
  ∀ s t, step s = .next t → t.pending = s.pending.tail

/-- O58: no command is refused; a command stops only by the write of a register's reserved field (R13), and only one that writes
registers can; every other command ends in a next state, whatever the state. -/
def Obligations.OnlyReservedFieldsStop : Prop :=
  (∀ i s, mayFault i = false → ∃ t, exec i s = .next t) ∧ (∀ i s f, exec i s = .fault f → f = .reservedField) ∧
  (∀ i s r, exec i s ≠ .refused r)
end

