-- ==== Sys2Proof/Laws/Facet.lean ====
section
/-! SUPPORT. Laws of a Facet's slots: what a slot that issues does, and its arithmetic. -/

namespace Sys2Proof.Machine

/-- Fetching a bundle changes no kernel register. -/
theorem fetched_core (s : State) (i : Issue) (k) : (s.fetched i).core k = s.core k := by
  unfold State.fetched State.count; split <;> (try split) <;> rfl

/-- A slot that issues with legal fields, and whose body does not stop, leaves the registers that its body gives. -/
theorem slotStep_ok (s : State) (i : Issue) (ok body) (h : Issues s i) (hok : ok = true) (h0 : (body (s.fetched i) (s.core i.k.val)).2.2 = 0) :
    s.slotStep i ok body = (let r := body (s.fetched i) (s.core i.k.val); r.1.slotDone i r.2.1) := by
  have hc := fetched_core s i i.k.val
  have e : (if i.pmem = .corrected then s.count (aFacetctl + 0x90) else s) = s.fetched i := rfl
  unfold State.slotStep
  simp only [e, hc, h.notHeld, h.word, hok, h0, h.running]
  simp [State.slotDone]

/-- So does a slot that works on the registers alone. -/
theorem regSlot_ok (s : State) (i : Issue) (ok body) (h : Issues s i) (hok : ok = true) :
    s.regSlot i ok body = (s.fetched i).slotDone i (body (s.core i.k.val)) := by
  unfold State.regSlot
  rw [slotStep_ok _ _ _ _ h hok rfl]

/-- Fitting a number to a width is clamping or wrapping it, and marking that it was clamped (R168). -/
theorem fit_eq (w : Nat) (hw : w = 32 ∨ w = 72) (b : Bool) (x : Int) : fit w b x = (brought w b x, b && outside w x) := by
  unfold fit brought outside
  cases b
  · simp [wrap, BitVec.toInt_ofInt]
    unfold Int.bmod
    rcases hw with rfl | rfl <;> simp <;> split <;> omega
  · simp [sat, saturates, smax, smin]
    rcases hw with rfl | rfl <;> refine ⟨?_, ?_⟩
    all_goals first
      | (split <;> (try split) <;> omega)
      | (simp only [Bool.or_comm]; congr 1 <;> simp <;> omega)

/-- A scalar result, where its predicate lets it run, is on its way with its mark. -/
theorem sendS_eq (c : FacetCore) (i : Issue) (lat : Nat) (x : Int) :
    c.sendS i lat x = if (c.rP i.pred).testBit 0 then
      c.sends 0 lat (.s i.d (BitVec.ofInt 32 (brought 32 i.sat x))) (i.sat && outside 32 x) else c := by
  unfold FacetCore.sendS FacetCore.on FacetCore.sends
  simp only [fit_eq 32 (Or.inl rfl), smp]

/-- The three roundings of R169 as one rule on the exact quotient. -/
theorem rounded_eq (r : Nat) (hr : r ≤ 2) (x : Int) (n : Nat) : roundBy r x n = rounded r x n := by
  have hp : (0:Int) < 2 ^ n := by positivity
  unfold roundBy rounded shrFloor shrEven shrAway divEven
  rcases Nat.eq_zero_or_pos n with rfl | hn
  · simp
  have h2 : (2:Int)^n = 2 * 2^(n-1) := by
    conv_lhs => rw [show n = (n-1)+1 by omega, pow_succ]
    ring
  have h1 : (0:Int) < 2 ^ (n-1) := by positivity
  rcases (by omega : r = 0 ∨ r = 1 ∨ r = 2) with rfl | rfl | rfl
  · simp
  · simp only []
    push_cast
    simp [show n ≠ 0 by omega]
  · simp [show n ≠ 0 by omega]
    have e := Int.emod_add_mul_ediv x (2^n)
    have hm := Int.emod_nonneg x (ne_of_gt hp)
    have hl := Int.emod_lt_of_pos x hp
    generalize x / 2^n = q at *
    generalize x % 2^n = m at *
    generalize hQ : (2:Int)^n = Q at *
    generalize hH : (2:Int)^(n-1) = H at *
    subst h2
    have key : ∀ (y : Int) (z : Int), z * (2*H) ≤ y → y < (z+1) * (2*H) → y / (2*H) = z := by
      intro y z h1 h2
      rw [Int.ediv_eq_iff_of_pos (by omega)]; constructor <;> linarith
    have hx : x = m + 2*H*q := by omega
    split
    · split
      · apply key <;> nlinarith
      · split
        · apply key <;> nlinarith
        · apply key <;> nlinarith
    · split
      · rw [show (-x + H) / (2*H) = -q from key _ _ (by nlinarith) (by nlinarith)]; omega
      · split
        · rw [show (-x + H) / (2*H) = -(q+1) from key _ _ (by nlinarith) (by nlinarith)]; omega
        · rw [show (-x + H) / (2*H) = -q from key _ _ (by nlinarith) (by nlinarith)]; omega

/-- A legal RND field names one of the three roundings. -/
theorem legal_rnd {i : Issue} {u} (h : legalR i u = true) : i.rnd ≤ 2 := by
  have : i.rnd < 4 := by unfold Issue.rnd Issue.bits bitsOf; exact Nat.mod_lt _ (by decide)
  simp [legalR] at h; omega

end Sys2Proof.Machine
end

