-- ==== Sys2Proof/Laws/Kcp.lean ====
section
/-! SUPPORT. Laws of the control protocol: what a packet in order meets. -/

namespace Sys2Proof.Machine

/-- States with the same registers read them alike. -/
theorem reg_congr {s t : State} (h : s.regs = t.regs) : s.reg = t.reg := by funext a; unfold State.reg; rw [h]
/-- The longest packet depends on the registers alone. -/
theorem packetLimit_congr {s t : State} (h : s.regs = t.regs) : packetLimit s = packetLimit t := by
  funext e; unfold packetLimit; rw [reg_congr h]
/-- So does check 1. -/
theorem badFrame_congr {s t : State} (h : s.regs = t.regs) : badFrame s = badFrame t := by
  funext p; unfold badFrame; rw [packetLimit_congr h]
/-- Check 3 depends on the secure part alone. -/
theorem badTag_congr {s t : State} (h : s.sec = t.sec) : badTag s = badTag t := by
  funext op p; unfold badTag tagOf State.locked; rw [h]
/-- Taking a packet from its queue changes that queue alone. -/
theorem takeRx_eq (s : State) (e) : s.takeRx e = { s with kcp := { s.kcp with rx := (s.takeRx e).kcp.rx } } := by
  unfold State.takeRx; split <;> rfl
/-- Consuming a number binds no session to another sender. -/
theorem takeSeq_bound (s : State) (x q y e) : (s.takeSeq x q).bound y e = s.bound y e := by
  unfold State.bound State.sess State.takeSeq State.setSess nth
  simp only [List.getD_eq_getElem?_getD, List.getElem?_modify]
  by_cases h : x = y
  · subst h; cases s.kcp.sess[x]? <;> simp
  · simp [h]
/-- The state in which the checks of a packet are made. -/
def State.servedFor (s : State) (p : Packet) : State :=
  { s.takeRx p.ep with kcp := { (s.takeRx p.ep).kcp with lastServed := p.session.toNat } }
/-- The checks of a packet are made with the registers as they were. -/
theorem served_regs (s : State) (p) : (State.servedFor s p).regs = s.regs := by unfold State.servedFor; rw [takeRx_eq]
/-- They are made with the keys as they were. -/
theorem served_sec (s : State) (p) : (State.servedFor s p).sec = s.sec := by unfold State.servedFor; rw [takeRx_eq]
/-- They are made with the sessions as they were. -/
theorem served_sess (s : State) (p) : (State.servedFor s p).kcp.sess = s.kcp.sess := by unfold State.servedFor; rw [takeRx_eq]
/-- A packet in order is not dropped. -/
theorem dropped_none {op p} {s : State} (h : InOrder op p s) : dropped (State.servedFor s p) op p = none := by
  unfold dropped
  rw [badFrame_congr (served_regs s p), badTag_congr (served_sec s p), h.framed, h.carat, h.tag]; rfl
/-- In its session, a new number is consumed and its command goes on. -/
theorem inSession_new (s : State) (c : Cmd) (k) (hb : s.bound c.sess c.ep = true) (hs : c.sess < 8) (hn : noSeqCheck c = false)
    (hf : (seqTest (s.sess c.sess).h (s.sess c.sess).seen c.seq).1 = .new) :
    s.inSession c k = k ((s.takeSeq c.sess c.seq).setSess c.sess fun t => { t with tagged := c.tagged }) := by
  unfold State.inSession
  rw [hb, hn]
  simp only [hf, takeSeq_bound, hb]
  simp [Nat.not_le.mpr hs]

/-- A packet in order reaches what handles it after check 7. -/
theorem handle_inOrder {op : Nat} {p : Packet} {s : State} (h : InOrder op p s) (he : exempt op = false) (k : Cmd → State → State) :
    handle op p k s = k (toCmd op p) (s.received p) := by
  have hh : headerStatus p = none := by simp [headerStatus, h.version, h.header]
  have hs : (State.servedFor s p).sess = s.sess := by funext x; unfold State.sess; rw [served_sess]
  unfold handle
  change (match dropped (State.servedFor s p) op p with
    | some i => (State.servedFor s p).count (kDev i)
    | none =>
      match headerStatus p with
      | some st => (State.servedFor s p).turnAway (toCmd op p) st
      | none => (State.servedFor s p).inSession (toCmd op p) fun s => if p.ganenFault then s.internal (toCmd op p) else k (toCmd op p) s) = _
  rw [dropped_none h, hh]
  change (State.servedFor s p).inSession (toCmd op p) _ = _
  rw [inSession_new]
  · rw [h.sane]; simp only [Bool.false_eq_true, if_false]; rfl
  · have hb := h.bound
    unfold State.bound at hb ⊢
    rw [hs]; exact hb
  · exact h.session
  · have e1 : (toCmd op p).op = op := rfl
    unfold exempt at he
    unfold noSeqCheck
    rw [e1]
    revert he
    cases h1 : (op == 1) <;> cases h3 : (op == 3) <;> simp
  · rw [hs]; exact h.fresh

/-- With no packet due that no row handles, none is served before the one in hand. -/
theorem serveStrays_none {s : State} (h : s.strayDue = none) : ∀ n, State.serveStrays n s = s
  | 0 => rfl
  | n + 1 => by unfold State.serveStrays; rw [h]

/-- A packet whose turn it is is handled. -/
theorem served_turn {op : Nat} {p : Packet} {s : State} (h : Turn op p s) (k : Cmd → State → State) :
    served op p k s = handle op p k s := by
  unfold served
  simp only [h.serving, h.listens, serveStrays_none h.noStray, h.first]
  rfl

/-- An opcode's packet in order meets checks 9 to 13. -/
theorem kcpOp_inOrder {op : Nat} {p : Packet} {s : State} (h : InOrder op p s) (he : exempt op = false) (sp : OpSpec) :
    kcpOp op sp p s = (s.received p).checked sp (toCmd op p) := by
  unfold kcpOp; rw [served_turn h.toTurn]; exact handle_inOrder h he _

end Sys2Proof.Machine
end

