-- ==== Sys2Proof/Laws/Memory.lean ====
section
/-! SUPPORT. Laws of the byte memory: a read after a write, what a write leaves alone, and that every operation on the memory keeps
its canonical form. -/

namespace Sys2Proof.Machine

/-! ### Reads after writes -/

/-- No entry of a list that lies above a bound is at or below it. -/
theorem cellGet_above {lo a : Nat} : ∀ {m : List Host.Cell}, cellsAbove lo m = true → a ≤ lo → cellGet m a = memEmpty
  | [], _, _ => rfl
  | (x, b) :: t, h, ha => by
    simp only [cellsAbove, Bool.and_eq_true, decide_eq_true_eq] at h
    have hx : x ≠ a := by omega
    simp only [cellGet, if_neg hx]
    exact cellGet_above h.2 (by omega)

/-- A lower bound of a list. -/
theorem cellsAbove_mono {lo lo' : Nat} {m : List Host.Cell} (h : cellsAbove lo m = true) (hl : lo' ≤ lo) : cellsAbove lo' m = true := by
  cases m with
  | nil => rfl
  | cons c t =>
    simp only [cellsAbove, Bool.and_eq_true, decide_eq_true_eq] at h ⊢
    exact ⟨⟨by omega, h.1.2⟩, h.2⟩

/-- The form of a list with a head. -/
theorem wf_cons {x : Nat} {b : Byte} {t : List Host.Cell} (h : Memory.wf ((x, b) :: t) = true) :
    b ≠ memEmpty ∧ cellsAbove x t = true := by
  simpa [Memory.wf] using h

/-- A list above a bound is in canonical form. -/
theorem cellsAbove_wf {lo : Nat} {m : List Host.Cell} (h : cellsAbove lo m = true) : Memory.wf m = true := by
  cases m with
  | nil => rfl
  | cons c t => simp only [cellsAbove, Memory.wf, Bool.and_eq_true] at h ⊢; exact ⟨h.1.2, h.2⟩

/-- A byte set above a bound leaves the list above it. -/
theorem cellSet_above {lo a : Nat} {v : Byte} (ha : lo < a) :
    ∀ {m : List Host.Cell}, cellsAbove lo m = true → cellsAbove lo (cellSet m a v) = true
  | [], _ => by unfold cellSet; split <;> simp [cellsAbove, *]
  | (x, b) :: t, h => by
    simp only [cellsAbove, Bool.and_eq_true, decide_eq_true_eq] at h
    unfold cellSet
    split
    · split <;> simp [cellsAbove, *]
    · split
      · subst x
        split
        · exact cellsAbove_mono h.2 (by omega)
        · simp [cellsAbove, *]
      · have := cellSet_above (lo := x) (a := a) (v := v) (by omega) h.2
        simp [cellsAbove, h, this]

/-- Setting a byte keeps the canonical form. -/
theorem cellSet_wf {a : Nat} {v : Byte} {m : List Host.Cell} (h : Memory.wf m = true) : Memory.wf (cellSet m a v) = true := by
  cases m with
  | nil => unfold cellSet; split <;> simp [Memory.wf, cellsAbove, *]
  | cons c t =>
    obtain ⟨x, b⟩ := c
    obtain ⟨hb, ht⟩ := wf_cons h
    unfold cellSet
    split
    · split
      · exact h
      · simp [Memory.wf, cellsAbove, *]
    · split
      · subst x
        split
        · exact cellsAbove_wf ht
        · simp [Memory.wf, *]
      · have := cellSet_above (lo := x) (a := a) (v := v) (by omega) ht
        simp [Memory.wf, hb, this]

/-- A read of the byte just set, and of any other. -/
theorem cellGet_above_set {lo a x : Nat} {v : Byte} : ∀ {m : List Host.Cell}, cellsAbove lo m = true →
    cellGet (cellSet m a v) x = if x = a then v else cellGet m x
  | [], _ => by
    unfold cellSet
    by_cases hv : v = memEmpty
    · simp [hv, cellGet]
    · by_cases hx : x = a
      · subst hx; simp [hv, cellGet]
      · simp [hv, cellGet, hx, Ne.symm hx]
  | (y, b) :: t, h => by
    simp only [cellsAbove, Bool.and_eq_true, decide_eq_true_eq] at h
    unfold cellSet
    split
    · rename_i hlt
      split
      · rename_i hv
        by_cases hx : x = a
        · subst hx
          rw [if_pos rfl, hv]
          have : y ≠ x := by omega
          simp only [cellGet, if_neg this]
          exact cellGet_above h.2 (by omega)
        · rw [if_neg hx]
      · by_cases hx : x = a
        · subst hx; simp [cellGet]
        · rw [if_neg hx]; simp [cellGet, Ne.symm hx]
    · split
      · rename_i he
        subst he
        split
        · rename_i hv
          by_cases hx : x = y
          · subst hx; rw [if_pos rfl, hv]; exact cellGet_above h.2 (by omega)
          · rw [if_neg hx]; simp [cellGet, Ne.symm hx]
        · by_cases hx : x = y
          · subst hx; simp [cellGet]
          · rw [if_neg hx]; simp [cellGet, Ne.symm hx]
      · rename_i hne
        by_cases hx : y = x
        · subst hx; simp [cellGet, hne]
        · simp only [cellGet, if_neg hx]
          exact cellGet_above_set h.2

/-- A read of the byte just set, and of any other, in canonical form. -/
theorem cellGet_cellSet {a x : Nat} {v : Byte} {m : List Host.Cell} (h : Memory.wf m = true) :
    cellGet (cellSet m a v) x = if x = a then v else cellGet m x := by
  cases m with
  | nil => exact cellGet_above_set (lo := 0) rfl
  | cons c t =>
    obtain ⟨y, b⟩ := c
    obtain ⟨hb, ht⟩ := wf_cons h
    by_cases hy : 0 < y
    · exact cellGet_above_set (lo := 0) (by simp [cellsAbove, hy, hb, ht])
    · have hy0 : y = 0 := by omega
      subst hy0
      unfold cellSet
      by_cases ha : a = 0
      · subst ha
        by_cases hv : v = memEmpty
        · simp only [Nat.lt_irrefl, if_false, if_true, hv]
          by_cases hx : x = 0
          · subst hx; rw [if_pos rfl]; exact cellGet_above ht (Nat.le_refl _)
          · rw [if_neg hx]; simp [cellGet, Ne.symm hx]
        · by_cases hx : x = 0
          · subst hx; simp [hv, cellGet]
          · simp [hv, cellGet, hx, Ne.symm hx]
      · rw [if_neg (Nat.not_lt_zero _), if_neg (Ne.symm ha)]
        by_cases hx : x = 0
        · subst hx; simp [cellGet, Ne.symm ha]
        · simp only [cellGet, if_neg (Ne.symm hx)]
          exact cellGet_above_set ht

/-- Setting bytes keeps the canonical form. -/
theorem cellsSet_wf : ∀ {bs : List Byte} {a : Nat} {m : List Host.Cell}, Memory.wf m = true → Memory.wf (cellsSet m a bs) = true
  | [], _, _, h => h
  | _ :: _, _, _, h => by simp only [cellsSet]; exact cellsSet_wf (cellSet_wf h)

/-- A read after a write of a span. -/
theorem cellGet_cellsSet : ∀ {bs : List Byte} {a x : Nat} {m : List Host.Cell}, Memory.wf m = true →
    cellGet (cellsSet m a bs) x = if a ≤ x ∧ x < a + bs.length then (bs[x - a]?).getD memEmpty else cellGet m x
  | [], a, x, m, _ => by
    have : ¬ (a ≤ x ∧ x < a + ([] : List Byte).length) := by simp
    rw [if_neg this]; rfl
  | v :: t, a, x, m, h => by
    simp only [cellsSet]
    rw [cellGet_cellsSet (cellSet_wf h), cellGet_cellSet h, List.length_cons]
    by_cases h1 : a + 1 ≤ x ∧ x < a + 1 + t.length
    · rw [if_pos h1, if_pos (by omega)]
      have : x - a = (x - (a + 1)) + 1 := by omega
      rw [this, List.getElem?_cons_succ]
    · rw [if_neg h1]
      by_cases h2 : x = a
      · subst h2; rw [if_pos rfl, if_pos (by omega)]; simp
      · rw [if_neg h2, if_neg (by omega)]

/-- Dropping entries keeps a list above its bound. -/
theorem cellsFilter_above {p : Host.Cell → Bool} : ∀ {lo : Nat} {m : List Host.Cell}, cellsAbove lo m = true →
    cellsAbove lo (m.filter p) = true
  | _, [], _ => rfl
  | lo, (x, v) :: t, h => by
    simp only [cellsAbove, Bool.and_eq_true, decide_eq_true_eq] at h
    rw [List.filter_cons]
    split
    · simp only [cellsAbove, Bool.and_eq_true, decide_eq_true_eq]
      exact ⟨h.1, cellsFilter_above h.2⟩
    · exact cellsAbove_mono (cellsFilter_above h.2) (by omega)

/-- Dropping entries keeps the canonical form. -/
theorem cellsFilter_wf {p : Host.Cell → Bool} {m : List Host.Cell} (h : Memory.wf m = true) : Memory.wf (m.filter p) = true := by
  cases m with
  | nil => rfl
  | cons c t =>
    obtain ⟨x, v⟩ := c
    obtain ⟨hb, ht⟩ := wf_cons h
    rw [List.filter_cons]
    split
    · simp only [Memory.wf, Bool.and_eq_true]
      exact ⟨by simpa using hb, cellsFilter_above ht⟩
    · exact cellsAbove_wf (cellsFilter_above ht)

/-- Clearing a span keeps the canonical form. -/
theorem cellsClear_wf {a b : Nat} {m : List Host.Cell} (h : Memory.wf m = true) : Memory.wf (cellsClear m a b) = true := cellsFilter_wf h

/-- A read after a span is cleared. -/
theorem cellGet_cellsClear {lo hi x : Nat} : ∀ {m : List Host.Cell},
    cellGet (cellsClear m lo hi) x = if lo ≤ x ∧ x < hi then memEmpty else cellGet m x
  | [] => by simp [cellsClear, cellGet]
  | (y, b) :: t => by
    have ih := cellGet_cellsClear (lo := lo) (hi := hi) (x := x) (m := t)
    unfold cellsClear at ih ⊢
    rw [List.filter_cons]
    by_cases hy : y = x
    · subst hy
      by_cases hr : lo ≤ y ∧ y < hi
      · simp [hr] at ih ⊢; exact ih
      · have : (!(decide (lo ≤ y) && decide (y < hi))) = true := by
          rcases not_and_or.mp hr with h | h <;> simp [h]
        simp only [this, if_true, cellGet, if_neg hr]
    · split
      · simp only [cellGet, if_neg hy]; exact ih
      · rw [ih]; simp only [cellGet, if_neg hy]

/-! ### The named operations -/

/-- Every write keeps the memory's form. -/
theorem State.memWrite_ok {s : State} (h : s.MemOk) (a : Nat) (bs : List Byte) : (s.memWrite a bs).MemOk := cellsSet_wf h
/-- Every clearing keeps the memory's form. -/
theorem State.memClear_ok {s : State} (h : s.MemOk) (a b : Nat) : (s.memClear a b).MemOk := cellsClear_wf h

/-- The bytes just written are read back. -/
theorem State.memBytes_memWrite {s : State} (h : s.MemOk) (a : Nat) (bs : List Byte) : (s.memWrite a bs).memBytes a bs.length = bs := by
  unfold State.memBytes State.memWrite
  apply List.ext_getElem
  · simp
  · intro i h1 h2
    have h3 : a ≤ a + i ∧ a + i < a + bs.length := by omega
    have h4 : a + i - a = i := by omega
    simp only [List.getElem_map, List.getElem_range]
    rw [cellGet_cellsSet h, if_pos h3, h4]
    simp [h2]

/-- A write leaves every byte outside its span alone. -/
theorem State.memWrite_other {s : State} (h : s.MemOk) (a x : Nat) (bs : List Byte) (hx : x < a ∨ a + bs.length ≤ x) :
    cellGet (s.memWrite a bs).mem.bytes x = cellGet s.mem.bytes x := by
  unfold State.memWrite
  dsimp only
  rw [cellGet_cellsSet h, if_neg (by omega)]

/-- The memory of the reset state is in its form. -/
theorem reset_memOk : State.reset.MemOk := rfl

end Sys2Proof.Machine
end

