-- ==== Sys2Proof/Laws/Keeps.lean ====
section
/-! SUPPORT. What every operation keeps: the queue, the form of the byte memory, and the number of the like things that the spec
numbers. Each operation's lemma, in the files beside this one, follows its definition's text. -/

namespace Sys2Proof.Machine

/-- The lengths of the like things that the spec numbers. -/
def State.lens (s : State) : List Nat :=
  [s.kcp.sess.length, s.kcp.rings.length, s.sec.keys.length, s.facets.st.length, s.power.dom.length, s.net.port.length,
   s.dma.ch.length, s.ports.port.length, s.time.refs.length, s.time.ptp.length, s.time.capt.length, s.time.txts.length,
   s.loupe.ins.length, s.loupe.slots.length, s.mem.tokens.length]

/-- Between two states the queue is the same, and the memory's form and the numbers of like things are kept. -/
structure Keeps (s0 s : State) : Prop where
  queue : s.pending = s0.pending
  mem : s0.MemOk → s.MemOk
  shape : s0.Shape → s.Shape

theorem shape_lens (s : State) : s.Shape ↔ s.lens = [8, 4, 8, 64, 11, 6, 32, 16, 6, 2, 9, 6, 16, 64, 4] := by
  simp [State.Shape, State.lens]

theorem Keeps.refl (s : State) : Keeps s s := ⟨rfl, id, id⟩
theorem Keeps.trans {a b c : State} (h : Keeps a b) (k : Keeps b c) : Keeps a c :=
  ⟨k.queue.trans h.queue, fun x => k.mem (h.mem x), fun x => k.shape (h.shape x)⟩

/-- An update that leaves the queue, the bytes and the lengths as they were. -/
theorem Keeps.upd {s0 s t : State} (h : Keeps s0 s) (hp : t.pending = s.pending) (hm : t.mem.bytes = s.mem.bytes)
    (hl : t.lens = s.lens) : Keeps s0 t :=
  ⟨hp.trans h.queue, fun x => by have := h.mem x; unfold State.MemOk at *; rw [hm]; exact this,
   fun x => by have := h.shape x; rw [shape_lens] at *; rw [hl]; exact this⟩

/-- An update whose bytes are in canonical form. -/
theorem Keeps.updMem {s0 s t : State} (h : Keeps s0 s) (hp : t.pending = s.pending)
    (hm : Memory.wf s.mem.bytes = true → Memory.wf t.mem.bytes = true) (hl : t.lens = s.lens) : Keeps s0 t :=
  ⟨hp.trans h.queue, fun x => hm (h.mem x), fun x => by have := h.shape x; rw [shape_lens] at *; rw [hl]; exact this⟩

theorem Keeps.mk' {s0 s : State} {freeCtr out pins regs cnts power sec boot kcp delta render integ pair time loupe facets mem dma net ports}
    (h : Keeps s0 s) (hm : mem.bytes = s.mem.bytes)
    (hl : (State.mk s.pending freeCtr out pins regs cnts power sec boot kcp delta render integ pair time loupe facets mem dma net ports).lens = s.lens) :
    Keeps s0 (State.mk s.pending freeCtr out pins regs cnts power sec boot kcp delta render integ pair time loupe facets mem dma net ports) :=
  Keeps.upd h rfl hm hl

/-- An update that sets like things anew, as many as the spec numbers. -/
theorem Keeps.updShape {s0 s t : State} (h : Keeps s0 s) (hp : t.pending = s.pending) (hm : t.mem.bytes = s.mem.bytes)
    (hl : s.Shape → t.Shape) : Keeps s0 t :=
  ⟨hp.trans h.queue, fun x => by have := h.mem x; unfold State.MemOk at *; rw [hm]; exact this, fun x => hl (h.shape x)⟩

theorem Keeps.mkShape {s0 s : State} {freeCtr out pins regs cnts power sec boot kcp delta render integ pair time loupe facets mem dma net ports}
    (h : Keeps s0 s) (hm : mem.bytes = s.mem.bytes)
    (hl : s.Shape → (State.mk s.pending freeCtr out pins regs cnts power sec boot kcp delta render integ pair time loupe facets mem dma net ports).Shape) :
    Keeps s0 (State.mk s.pending freeCtr out pins regs cnts power sec boot kcp delta render integ pair time loupe facets mem dma net ports) :=
  Keeps.updShape h rfl hm hl

theorem Keeps.ite {s0 a b : State} {c : Prop} [Decidable c] (ha : Keeps s0 a) (hb : Keeps s0 b) : Keeps s0 (if c then a else b) := by
  split <;> assumption

theorem Keeps.foldl {β : Type} {s0 s : State} {f : State → β → State} {l : List β}
    (h : Keeps s0 s) (hf : ∀ t b, Keeps s0 t → Keeps s0 (f t b)) : Keeps s0 (l.foldl f s) := by
  induction l generalizing s with
  | nil => exact h
  | cons a l ih => exact ih (hf _ _ h)

theorem Keeps.foldlFst {β γ : Type} {s0 : State} {f : State × γ → β → State × γ} {l : List β} :
    ∀ {a : State × γ}, Keeps s0 a.1 → (∀ t b, Keeps s0 t.1 → Keeps s0 (f t b).1) → Keeps s0 (l.foldl f a).1 := by
  induction l with
  | nil => intro _ h _; exact h
  | cons b l ih => intro _ h hf; exact ih (hf _ _ h) hf

/-- What an opcode's rules do to the state keeps it. -/
structure OpSpec.Ok (sp : OpSpec) : Prop where
  run : ∀ {s0 s : State} (c : Cmd), Keeps s0 s → Keeps s0 (sp.run c s).1
  apply : ∀ {s0 s : State} (c : Cmd) (bad : List Nat), Keeps s0 s → Keeps s0 (sp.apply c bad s)
  accept : ∀ {s0 s : State} (c : Cmd), Keeps s0 s → Keeps s0 (sp.accept c s).2
  after : ∀ {s0 s : State} (c : Cmd), Keeps s0 s → Keeps s0 (sp.after c s)
  spoil : ∀ {s0 s : State} (c : Cmd), Keeps s0 s → Keeps s0 (sp.spoil c s)

end Sys2Proof.Machine
end

