-- ==== Sys2Proof/Laws/KeepsCore.lean ====
section
/-! SUPPORT. What is kept (Laws/Keeps.lean) by the shared operations, the protocol, the renders objects and filters, time and integrity. -/

set_option linter.unusedTactic false
set_option linter.unreachableTactic false
set_option linter.unusedVariables false

namespace Sys2Proof.Machine

/-! ### Machine/Ops.lean -/

theorem State.fresh_keeps {s0 s : State} (h : Keeps s0 s) : Keeps s0 s.fresh.2 := h.upd rfl rfl rfl
theorem State.fresh_keeps_eq {s0 s t : State} {k : Nat} (e : s.fresh = (k, t)) (h : Keeps s0 s) : Keeps s0 t := by
  have := State.fresh_keeps h; rw [e] at this; exact this

theorem State.setReg_keeps {s0 s : State} (h : Keeps s0 s) (a : Nat) (w : Word) : Keeps s0 (State.setReg s a w) := by
  unfold State.setReg
  try dsimp only
  with_reducible repeat' first
    | assumption | apply Keeps.ite | split | dsimp only
    | (refine Keeps.mk' ?_ rfl ?_ <;> [skip; (simp only [State.lens]; done)])

theorem State.raise_keeps {s0 s : State} (h : Keeps s0 s) (a : Nat) (m : Word) : Keeps s0 (State.raise s a m) := by
  unfold State.raise
  try dsimp only
  with_reducible repeat' first | assumption | apply State.setReg_keeps

theorem State.lower_keeps {s0 s : State} (h : Keeps s0 s) (a : Nat) (m : Word) : Keeps s0 (State.lower s a m) := by
  unfold State.lower
  try dsimp only
  with_reducible repeat' first | assumption | apply State.setReg_keeps

theorem State.putReg_keeps {s0 s : State} (h : Keeps s0 s) (a lo len v : Nat) : Keeps s0 (State.putReg s a lo len v) := by
  unfold State.putReg
  try dsimp only
  with_reducible repeat' first | assumption | apply State.setReg_keeps

theorem State.setReg64_keeps {s0 s : State} (h : Keeps s0 s) (a : Nat) (v : Nat) : Keeps s0 (State.setReg64 s a v) := by
  unfold State.setReg64
  try dsimp only
  with_reducible repeat' first | assumption | apply State.setReg_keeps

theorem State.count_keeps {s0 s : State} (h : Keeps s0 s) (k : Nat) (n : Nat) : Keeps s0 (State.count s k n) := by
  unfold State.count
  try dsimp only
  with_reducible repeat' first
    | assumption | apply Keeps.ite | split | dsimp only
    | (refine Keeps.mk' ?_ rfl ?_ <;> [skip; (simp only [State.lens]; done)])

theorem State.snapCnts_keeps {s0 s : State} (h : Keeps s0 s) (lo hi : Nat) (byGanen : Bool) : Keeps s0 (State.snapCnts s lo hi byGanen) := by
  unfold State.snapCnts
  try dsimp only
  with_reducible repeat' first
    | assumption | apply Keeps.ite | split | dsimp only
    | (refine Keeps.mk' ?_ rfl ?_ <;> [skip; (simp only [State.lens]; done)])

theorem State.emit_keeps {s0 s : State} (h : Keeps s0 s) (o : OutMsg) : Keeps s0 (State.emit s o) := by
  unfold State.emit
  try dsimp only
  with_reducible repeat' first
    | assumption | apply Keeps.ite | split | dsimp only
    | (refine Keeps.mk' ?_ rfl ?_ <;> [skip; (simp only [State.lens]; done)])

theorem State.bezel_keeps {s0 s : State} (h : Keeps s0 s) (b : Bezel) : Keeps s0 (State.bezel s b) := by
  unfold State.bezel
  try dsimp only
  with_reducible repeat' first | assumption | apply State.emit_keeps

theorem State.msix_keeps {s0 s : State} (h : Keeps s0 s) (v : Nat) : Keeps s0 (State.msix s v) := by
  unfold State.msix
  try dsimp only
  with_reducible repeat' first
    | assumption | apply State.raise_keeps | apply State.emit_keeps | apply Keeps.ite | split | dsimp only

theorem State.setSess_keeps {s0 s : State} (h : Keeps s0 s) (x : Nat) (f : Session → Session) : Keeps s0 (State.setSess s x f) := by
  unfold State.setSess
  try dsimp only
  with_reducible repeat' first
    | assumption | apply Keeps.ite | split | dsimp only | (refine Keeps.mk' ?_ rfl ?_ <;> [skip; (simp [State.lens]; done)])

theorem State.setRing_keeps {s0 s : State} (h : Keeps s0 s) (k : Nat) (f : Ring → Ring) : Keeps s0 (State.setRing s k f) := by
  unfold State.setRing
  try dsimp only
  with_reducible repeat' first
    | assumption | apply Keeps.ite | split | dsimp only | (refine Keeps.mk' ?_ rfl ?_ <;> [skip; (simp [State.lens]; done)])

theorem fillOne_keeps {s0 s : State} (h : Keeps s0 s) (k : Nat) (isFirst isLast isEvent : Bool) (addr : Nat) (bs : List Byte) : Keeps s0 (fillOne k isFirst isLast isEvent addr bs s) := by
  unfold fillOne
  try dsimp only
  with_reducible repeat' first
    | assumption | apply State.setReg_keeps | apply State.emit_keeps | apply State.msix_keeps | apply State.setRing_keeps
    | apply Keeps.ite | split | dsimp only

theorem fillAll_keeps {s0 : State} (k : Nat) (ev : Bool) (l : List (Nat × List Byte)) : ∀ (first : Bool) (s : State),
    Keeps s0 s → Keeps s0 (fillAll k ev first l s) := by
  induction l with
  | nil => intro _ _ h; exact h
  | cons a t ih => intro _ _ h; exact ih _ _ (fillOne_keeps h _ _ _ _ _ _)

theorem flushRing_keeps {s0 : State} (k n : Nat) : ∀ s : State, Keeps s0 s → Keeps s0 (flushRing k n s) := by
  induction n with
  | zero => intro _ h; exact h
  | succ n ih =>
    intro s h
    unfold flushRing
    repeat' first
      | with_reducible assumption
      | split
      | with_reducible apply ih
      | with_reducible apply fillAll_keeps
      | with_reducible apply State.setRing_keeps
      | dsimp only

theorem State.modNp_keeps {s0 s : State} (h : Keeps s0 s) (k : Nat) (f : NetPort → NetPort) : Keeps s0 (State.modNp s k f) := by
  unfold State.modNp
  try dsimp only
  with_reducible repeat' first
    | assumption | apply Keeps.ite | split | dsimp only | (refine Keeps.mk' ?_ rfl ?_ <;> [skip; (simp [State.lens]; done)])

theorem State.sendOwn_keeps {s0 s : State} (h : Keeps s0 s) (k : Nat) (f : OwnFrame) : Keeps s0 (State.sendOwn s k f) := by
  unfold State.sendOwn
  try dsimp only
  with_reducible repeat' first
    | assumption | intro _ | apply State.count_keeps | apply State.emit_keeps | apply Keeps.foldl | apply Keeps.ite
    | split | dsimp only | (refine Keeps.mk' ?_ rfl ?_ <;> [skip; (simp only [State.lens]; done)])
    | (refine Keeps.mk' ?_ rfl ?_ <;> [skip; (simp [State.lens]; done)])

theorem State.place_keeps {s0 s : State} (h : Keeps s0 s) (k r : Nat) (f : OwnFrame) : Keeps s0 (State.place s k r f) := by
  unfold State.place
  try dsimp only
  with_reducible repeat' first
    | assumption | intro _ | apply State.sendOwn_keeps | apply State.modNp_keeps | apply Keeps.foldl
    | apply Keeps.ite | split | dsimp only | (refine Keeps.mk' ?_ rfl ?_ <;> [skip; (simp only [State.lens]; done)])
    | (refine Keeps.mk' ?_ rfl ?_ <;> [skip; (simp [State.lens]; done)])

theorem State.deliver_keeps {s0 s : State} (h : Keeps s0 s) (p : OutPkt) : Keeps s0 (State.deliver s p) := by
  unfold State.deliver
  try dsimp only
  with_reducible repeat' first
    | assumption | intro _ | apply State.setRing_keeps | apply flushRing_keeps | apply State.place_keeps
    | apply Keeps.foldl | apply Keeps.ite | split | dsimp only
    | (refine Keeps.mk' ?_ rfl ?_ <;> [skip; (simp only [State.lens]; done)])
    | (refine Keeps.mk' ?_ rfl ?_ <;> [skip; (simp [State.lens]; done)])

theorem sendEvent_keeps {s0 s : State} (h : Keeps s0 s) (code txn : Nat) (payload : List Byte) (x : Nat) : Keeps s0 (sendEvent code txn payload x s) := by
  unfold sendEvent
  try dsimp only
  with_reducible repeat' first
    | assumption | intro _ | apply State.setSess_keeps | apply State.deliver_keeps | apply State.event_keeps
    | apply Keeps.foldl | apply Keeps.ite | split | dsimp only
    | (refine Keeps.mk' ?_ rfl ?_ <;> [skip; (simp only [State.lens]; done)])
    | (refine Keeps.mk' ?_ rfl ?_ <;> [skip; (simp [State.lens]; done)])

theorem State.eventTxn_keeps {s0 s : State} (h : Keeps s0 s) (code txn : Nat) (payload : List Byte) : Keeps s0 (State.eventTxn s code txn payload) := by
  unfold State.eventTxn
  try dsimp only
  with_reducible repeat' first
    | assumption | intro _ | apply sendEvent_keeps | apply Keeps.foldl | apply Keeps.ite | split | dsimp only

theorem State.eventAny_keeps {s0 s : State} (h : Keeps s0 s) (code : Nat) (payload : List Byte) : Keeps s0 (State.eventAny s code payload) := by
  unfold State.eventAny
  try dsimp only
  with_reducible repeat' first
    | assumption | intro _ | apply sendEvent_keeps | apply Keeps.foldl | apply Keeps.ite | split | dsimp only

theorem State.event_keeps {s0 s : State} (h : Keeps s0 s) (code : Nat) (payload : List Byte) : Keeps s0 (State.event s code payload) := by
  unfold State.event
  try dsimp only
  with_reducible repeat' first | assumption | apply State.eventAny_keeps | apply Keeps.ite | split | dsimp only

theorem State.devIrq_keeps {s0 s : State} (h : Keeps s0 s) : Keeps s0 (State.devIrq s) := by
  unfold State.devIrq
  try dsimp only
  with_reducible repeat' first | assumption | apply State.msix_keeps | apply Keeps.ite | split | dsimp only

theorem State.peerState_keeps {s0 s : State} (h : Keeps s0 s) : Keeps s0 (State.peerState s) := by
  unfold State.peerState
  try dsimp only
  with_reducible repeat' first | assumption | apply State.event_keeps

theorem State.toCold_keeps {s0 s : State} (h : Keeps s0 s) : Keeps s0 (State.toCold s) := by
  unfold State.toCold
  try dsimp only
  with_reducible repeat' first
    | assumption | apply Keeps.ite | split | dsimp only
    | (refine Keeps.mk' ?_ rfl ?_ <;> [skip; (simp only [State.lens]; done)])

theorem State.loseStep_keeps {s0 s : State} (h : Keeps s0 s) : Keeps s0 (State.loseStep s) := by
  unfold State.loseStep
  try dsimp only
  with_reducible repeat' first
    | assumption | apply State.raise_keeps | apply State.count_keeps | apply State.toCold_keeps | apply Keeps.ite | split
    | dsimp only

theorem State.cutMedia_keeps {s0 s : State} (h : Keeps s0 s)  : Keeps s0 (State.cutMedia s) := by
  unfold State.cutMedia
  try dsimp only
  with_reducible repeat' first
    | assumption | intro _ | apply State.emit_keeps | apply State.modNp_keeps | apply Keeps.foldl | apply Keeps.ite
    | split | dsimp only | (refine Keeps.mk' ?_ rfl ?_ <;> [skip; (simp only [State.lens]; done)])
    | (refine Keeps.mk' ?_ rfl ?_ <;> [skip; (simp [State.lens]; done)])

theorem State.releaseIlk_keeps {s0 s : State} (h : Keeps s0 s) (synced : Bool) : Keeps s0 (State.releaseIlk s synced) := by
  unfold State.releaseIlk
  try dsimp only
  with_reducible repeat' first
    | assumption | intro _ | apply State.cutMedia_keeps | apply Keeps.foldl | apply Keeps.ite | split | dsimp only
    | (refine Keeps.mk' ?_ rfl ?_ <;> [skip; (simp only [State.lens]; done)])
    | (refine Keeps.mk' ?_ rfl ?_ <;> [skip; (simp [State.lens]; done)])

theorem State.writeRecord_keeps {s0 s : State} (h : Keeps s0 s) (r : Incl) : Keeps s0 (State.writeRecord s r) := by
  unfold State.writeRecord
  try dsimp only
  with_reducible repeat' first
    | assumption | apply State.setReg_keeps | apply State.raise_keeps | apply State.count_keeps | apply Keeps.ite | split
    | dsimp only | (refine Keeps.mk' ?_ rfl ?_ <;> [skip; (simp only [State.lens]; done)])

theorem State.devFault_keeps {s0 s : State} (h : Keeps s0 s) (cls : Nat) : Keeps s0 (State.devFault s cls) := by
  unfold State.devFault
  try dsimp only
  with_reducible repeat' first
    | assumption | intro _ | apply State.raise_keeps | apply State.bezel_keeps | apply State.toCold_keeps
    | apply State.releaseIlk_keeps | apply Keeps.foldl | apply Keeps.ite | split | dsimp only
    | (refine Keeps.mk' ?_ rfl ?_ <;> [skip; (simp only [State.lens]; done)])
    | (refine Keeps.mk' ?_ rfl ?_ <;> [skip; (simp [State.lens]; done)])

theorem State.report_keeps {s0 s : State} (h : Keeps s0 s) (d : Det) : Keeps s0 (State.report s d) := by
  unfold State.report
  try dsimp only
  with_reducible repeat' first
    | assumption | apply State.count_keeps | apply State.eventAny_keeps | apply State.writeRecord_keeps
    | apply State.devFault_keeps | apply Keeps.ite | split | dsimp only
    | (refine Keeps.mk' ?_ rfl ?_ <;> [skip; (simp only [State.lens]; done)])

theorem State.enter_keeps {s0 s : State} (h : Keeps s0 s) (e : Entry) : Keeps s0 (State.enter s e) := by
  unfold State.enter
  try dsimp only
  with_reducible repeat' first
    | assumption | apply Keeps.ite | split | dsimp only
    | (refine Keeps.mk' ?_ rfl ?_ <;> [skip; (simp only [State.lens]; done)])

theorem State.modZone_keeps {s0 s : State} (h : Keeps s0 s) (z : Nat) (f : Zone → Zone) : Keeps s0 (State.modZone s z f) := by
  unfold State.modZone
  try dsimp only
  with_reducible repeat' first
    | assumption | apply Keeps.ite | split | dsimp only
    | (refine Keeps.mk' ?_ rfl ?_ <;> [skip; (simp only [State.lens]; done)])

theorem State.modZoneRt_keeps {s0 s : State} (h : Keeps s0 s) (z : Nat) (f : ZoneRt → ZoneRt) : Keeps s0 (State.modZoneRt s z f) := by
  unfold State.modZoneRt
  try dsimp only
  with_reducible repeat' first
    | assumption | apply Keeps.ite | split | dsimp only
    | (refine Keeps.mk' ?_ rfl ?_ <;> [skip; (simp only [State.lens]; done)])

theorem State.modObj_keeps {s0 s : State} (h : Keeps s0 s) (o : Nat) (f : Obj → Obj) : Keeps s0 (State.modObj s o f) := by
  unfold State.modObj
  try dsimp only
  with_reducible repeat' first
    | assumption | apply Keeps.ite | split | dsimp only
    | (refine Keeps.mk' ?_ rfl ?_ <;> [skip; (simp only [State.lens]; done)])

theorem State.modObjRt_keeps {s0 s : State} (h : Keeps s0 s) (o : Nat) (f : ObjRt → ObjRt) : Keeps s0 (State.modObjRt s o f) := by
  unfold State.modObjRt
  try dsimp only
  with_reducible repeat' first
    | assumption | apply Keeps.ite | split | dsimp only
    | (refine Keeps.mk' ?_ rfl ?_ <;> [skip; (simp only [State.lens]; done)])

theorem State.modFeed_keeps {s0 s : State} (h : Keeps s0 s) (f : Nat) (g : Feed → Feed) : Keeps s0 (State.modFeed s f g) := by
  unfold State.modFeed
  try dsimp only
  with_reducible repeat' first
    | assumption | apply Keeps.ite | split | dsimp only
    | (refine Keeps.mk' ?_ rfl ?_ <;> [skip; (simp only [State.lens]; done)])

theorem State.modChain_keeps {s0 s : State} (h : Keeps s0 s) (f : Nat) (g : Chain → Chain) : Keeps s0 (State.modChain s f g) := by
  unfold State.modChain
  try dsimp only
  with_reducible repeat' first
    | assumption | apply Keeps.ite | split | dsimp only
    | (refine Keeps.mk' ?_ rfl ?_ <;> [skip; (simp only [State.lens]; done)])

theorem State.modFeedRt_keeps {s0 s : State} (h : Keeps s0 s) (f : Nat) (g : FeedRt → FeedRt) : Keeps s0 (State.modFeedRt s f g) := by
  unfold State.modFeedRt
  try dsimp only
  with_reducible repeat' first
    | assumption | apply Keeps.ite | split | dsimp only
    | (refine Keeps.mk' ?_ rfl ?_ <;> [skip; (simp only [State.lens]; done)])

theorem State.modRoute_keeps {s0 s : State} (h : Keeps s0 s) (r : Nat) (g : RouteRt → RouteRt) : Keeps s0 (State.modRoute s r g) := by
  unfold State.modRoute
  try dsimp only
  with_reducible repeat' first
    | assumption | apply Keeps.ite | split | dsimp only
    | (refine Keeps.mk' ?_ rfl ?_ <;> [skip; (simp only [State.lens]; done)])

/-! ### Machine/Kcp.lean -/

theorem State.takeSeq_keeps {s0 s : State} (h : Keeps s0 s) (x q : Nat) : Keeps s0 (State.takeSeq s x q) := by
  unfold State.takeSeq
  try dsimp only
  with_reducible repeat' first | assumption | apply State.setSess_keeps

theorem State.closeSess_keeps {s0 s : State} (h : Keeps s0 s) (x : Nat) : Keeps s0 (State.closeSess s x) := by
  unfold State.closeSess
  try dsimp only
  with_reducible repeat' first | assumption | apply State.setSess_keeps

theorem State.sendReply_keeps {s0 s : State} (h : Keeps s0 s) (ep : Endpoint) (x q op txn : Nat) (tagged : Bool) (r : ReplyRec) (data : List Byte) : Keeps s0 (State.sendReply s ep x q op txn tagged r data) := by
  unfold State.sendReply
  try dsimp only
  with_reducible repeat' first
    | assumption | intro _ | apply State.deliver_keeps | apply State.reply_keeps | apply Keeps.foldl
    | apply Keeps.ite | split | dsimp only | (refine Keeps.mk' ?_ rfl ?_ <;> [skip; (simp only [State.lens]; done)])
    | (refine Keeps.mk' ?_ rfl ?_ <;> [skip; (simp [State.lens]; done)])

theorem State.reply_keeps {s0 s : State} (h : Keeps s0 s) (ep : Endpoint) (x q op txn : Nat) (tagged : Bool) (r : ReplyRec) (data : List Byte) : Keeps s0 (State.reply s ep x q op txn tagged r data) := by
  unfold State.reply
  try dsimp only
  with_reducible repeat' first
    | assumption | intro _ | apply State.setSess_keeps | apply State.sendReply_keeps | apply Keeps.foldl
    | apply Keeps.ite | split | dsimp only | (refine Keeps.mk' ?_ rfl ?_ <;> [skip; (simp only [State.lens]; done)])
    | (refine Keeps.mk' ?_ rfl ?_ <;> [skip; (simp [State.lens]; done)])

theorem State.replyTo_keeps {s0 s : State} (h : Keeps s0 s) (c : Cmd) (r : ReplyRec) (data : List Byte) : Keeps s0 (State.replyTo s c r data) := by
  unfold State.replyTo
  try dsimp only
  with_reducible repeat' first | assumption | apply State.reply_keeps

theorem State.stage_keeps {s0 s : State} (h : Keeps s0 s) (c : Cmd) (n : Nat) : Keeps s0 (State.stage s c n) := by
  unfold State.stage
  try dsimp only
  with_reducible repeat' first
    | assumption | intro _ | apply State.setSess_keeps | apply Keeps.foldl | apply Keeps.ite | split | dsimp only
    | (refine Keeps.mk' ?_ rfl ?_ <;> [skip; (simp only [State.lens]; done)])
    | (refine Keeps.mk' ?_ rfl ?_ <;> [skip; (simp [State.lens]; done)])

/-! ### Machine/Zones.lean -/

theorem State.startSolve_keeps {s0 s : State} (h : Keeps s0 s) (z : Nat) : Keeps s0 (State.startSolve s z) := by
  unfold State.startSolve
  try dsimp only
  with_reducible repeat' first | assumption | apply State.modZoneRt_keeps | apply Keeps.ite | split | dsimp only

theorem State.beginSolve_keeps {s0 s : State} (h : Keeps s0 s) (z : Nat) : Keeps s0 (State.beginSolve s z) := by
  unfold State.beginSolve
  try dsimp only
  with_reducible repeat' first | assumption | apply State.modZoneRt_keeps | apply Keeps.ite | split | dsimp only

theorem State.solveAsked_keeps {s0 s : State} (h : Keeps s0 s) (z : Nat) : Keeps s0 (State.solveAsked s z) := by
  unfold State.solveAsked
  try dsimp only
  with_reducible repeat' first | assumption | apply State.beginSolve_keeps | apply Keeps.ite | split | dsimp only

theorem State.solveDone_keeps {s0 s : State} (h : Keeps s0 s) (z us : Nat) (tooBig : Bool) : Keeps s0 (State.solveDone s z us tooBig) := by
  unfold State.solveDone
  try dsimp only
  with_reducible repeat' first
    | assumption | apply State.raise_keeps | apply State.event_keeps | apply State.modZoneRt_keeps
    | apply State.beginSolve_keeps | apply Keeps.ite | split | dsimp only

theorem State.copySnaps_keeps {s0 s : State} (h : Keeps s0 s) (z : Nat) : Keeps s0 (State.copySnaps s z) := by
  unfold State.copySnaps
  try dsimp only
  with_reducible repeat' first
    | assumption | intro _ | apply Keeps.foldl | apply Keeps.ite | split | dsimp only
    | (refine Keeps.mk' ?_ rfl ?_ <;> [skip; (simp only [State.lens]; done)])
    | (refine Keeps.mk' ?_ rfl ?_ <;> [skip; (simp [State.lens]; done)])

theorem State.switchLayout_keeps {s0 s : State} (h : Keeps s0 s) (z : Nat) (l : Layout) : Keeps s0 (State.switchLayout s z l) := by
  unfold State.switchLayout
  try dsimp only
  with_reducible repeat' first
    | assumption | intro _ | apply State.event_keeps | apply State.modZoneRt_keeps | apply State.copySnaps_keeps
    | apply Keeps.foldl | apply Keeps.ite | split | dsimp only
    | (refine Keeps.mk' ?_ rfl ?_ <;> [skip; (simp only [State.lens]; done)])
    | (refine Keeps.mk' ?_ rfl ?_ <;> [skip; (simp [State.lens]; done)])

theorem State.switchDue_keeps {s0 s : State} (h : Keeps s0 s) (z : Nat) : Keeps s0 (State.switchDue s z) := by
  unfold State.switchDue
  try dsimp only
  with_reducible repeat' first
    | assumption | apply State.modZoneRt_keeps | apply State.switchLayout_keeps | apply Keeps.ite | split | dsimp only

theorem State.layoutEntry_keeps {s0 s : State} (h : Keeps s0 s) (z : Nat) (l : Layout) : Keeps s0 (State.layoutEntry s z l) := by
  unfold State.layoutEntry
  try dsimp only
  with_reducible repeat' first | assumption | apply State.modZoneRt_keeps | apply State.switchDue_keeps

theorem State.layoutXfadeEnd_keeps {s0 s : State} (h : Keeps s0 s) (z : Nat) : Keeps s0 (State.layoutXfadeEnd s z) := by
  unfold State.layoutXfadeEnd
  try dsimp only
  with_reducible repeat' first | assumption | apply State.modZoneRt_keeps | apply Keeps.ite | split | dsimp only

theorem State.resolveFor_keeps {s0 s : State} (h : Keeps s0 s) (a b : Feed) : Keeps s0 (State.resolveFor s a b) := by
  unfold State.resolveFor
  try dsimp only
  with_reducible repeat' first | assumption | apply State.startSolve_keeps | apply Keeps.ite | split | dsimp only

theorem State.changeFeed_keeps {s0 s : State} (h : Keeps s0 s) (f : Nat) (g : Feed → Feed) : Keeps s0 (State.changeFeed s f g) := by
  unfold State.changeFeed
  try dsimp only
  with_reducible repeat' first | assumption | apply State.modFeed_keeps | apply State.resolveFor_keeps

theorem State.withdraw_keeps {s0 s : State} (h : Keeps s0 s) (f : Nat) : Keeps s0 (State.withdraw s f) := by
  unfold State.withdraw
  try dsimp only
  with_reducible repeat' first | assumption | apply State.changeFeed_keeps | apply Keeps.ite | split | dsimp only

theorem State.unwithdraw_keeps {s0 s : State} (h : Keeps s0 s) (f : Nat) : Keeps s0 (State.unwithdraw s f) := by
  unfold State.unwithdraw
  try dsimp only
  with_reducible repeat' first | assumption | apply State.changeFeed_keeps

theorem State.zoneStarts_keeps {s0 s : State} (h : Keeps s0 s) (z : Nat) : Keeps s0 (State.zoneStarts s z) := by
  unfold State.zoneStarts
  try dsimp only
  with_reducible repeat' first
    | assumption | intro _ | apply State.modObjRt_keeps | apply Keeps.foldl | apply Keeps.ite | split | dsimp only
    | (refine Keeps.mk' ?_ rfl ?_ <;> [skip; (simp only [State.lens]; done)])

theorem State.zoneStops_keeps {s0 s : State} (h : Keeps s0 s) (z : Nat) : Keeps s0 (State.zoneStops s z) := by
  unfold State.zoneStops
  try dsimp only
  with_reducible repeat' first
    | assumption | intro _ | apply Keeps.foldl | apply Keeps.ite | split | dsimp only
    | (refine Keeps.mk' ?_ rfl ?_ <;> [skip; (simp only [State.lens]; done)])
    | (refine Keeps.mk' ?_ rfl ?_ <;> [skip; (simp [State.lens]; done)])

theorem specZoneSet_ok : specZoneSet.Ok := by
  refine ⟨fun c h => ?_, fun c bad h => ?_, fun c h => ?_, fun c h => ?_, fun c h => ?_⟩
  all_goals
    dsimp only [specZoneSet]
    with_reducible repeat' first
      | assumption | intro _ | apply State.modZone_keeps | apply State.startSolve_keeps
      | apply State.zoneStarts_keeps | apply State.zoneStops_keeps | apply Keeps.foldl | apply Keeps.ite | split
      | dsimp only | (refine Keeps.mk' ?_ rfl ?_ <;> [skip; (simp only [State.lens]; done)])

theorem specZoneExclSet_ok : specZoneExclSet.Ok := by
  refine ⟨fun c h => ?_, fun c bad h => ?_, fun c h => ?_, fun c h => ?_, fun c h => ?_⟩
  all_goals
    dsimp only [specZoneExclSet]
    with_reducible repeat' first | assumption | apply State.modZone_keeps | apply Keeps.ite | split | dsimp only

theorem readOk_keeps {s0 s : State} (h : Keeps s0 s) (us : List Nat) (data : List Byte) : Keeps s0 (readOk s us data).1 := h

theorem specZoneRead_ok : specZoneRead.Ok := by
  refine ⟨fun c h => ?_, fun c bad h => ?_, fun c h => ?_, fun c h => ?_, fun c h => ?_⟩
  all_goals
    dsimp only [specZoneRead]
    with_reducible repeat' first | assumption | apply readOk_keeps

theorem specFeedSet_ok : specFeedSet.Ok := by
  refine ⟨fun c h => ?_, fun c bad h => ?_, fun c h => ?_, fun c h => ?_, fun c h => ?_⟩
  all_goals
    dsimp only [specFeedSet]
    with_reducible repeat' first | assumption | apply State.changeFeed_keeps

theorem specFeedRead_ok : specFeedRead.Ok := by
  refine ⟨fun c h => ?_, fun c bad h => ?_, fun c h => ?_, fun c h => ?_, fun c h => ?_⟩
  all_goals
    dsimp only [specFeedRead]
    with_reducible repeat' first | assumption | apply readOk_keeps

theorem specFeedWithdraw_ok : specFeedWithdraw.Ok := by
  refine ⟨fun c h => ?_, fun c bad h => ?_, fun c h => ?_, fun c h => ?_, fun c h => ?_⟩
  all_goals
    dsimp only [specFeedWithdraw]
    with_reducible repeat' first
      | assumption | intro _ | apply State.withdraw_keeps | apply Keeps.foldl | apply Keeps.ite | split | dsimp only

theorem specLayoutStatus_ok : specLayoutStatus.Ok := by
  refine ⟨fun c h => ?_, fun c bad h => ?_, fun c h => ?_, fun c h => ?_, fun c h => ?_⟩
  all_goals
    dsimp only [specLayoutStatus]
    with_reducible repeat' first | assumption | apply readOk_keeps

theorem specLayoutResolve_ok : specLayoutResolve.Ok := by
  refine ⟨fun c h => ?_, fun c bad h => ?_, fun c h => ?_, fun c h => ?_, fun c h => ?_⟩
  all_goals
    dsimp only [specLayoutResolve]
    with_reducible repeat' first | assumption | apply State.startSolve_keeps | apply Keeps.ite | split | dsimp only

theorem execSolveComplete_keeps_eq {s0 s t₀ : State} {z : Fin 16} {us : Nat} {tooBig : Bool} (e₀ : execSolveComplete z us tooBig s = .next t₀) (h₀ : Keeps s0 s) : Keeps s0 t₀ := by
  unfold execSolveComplete at e₀
  try dsimp only at e₀
  repeat' split at e₀
  all_goals first
    | (obtain rfl := Host.Outcome.next.inj e₀
       with_reducible repeat' first | assumption | apply State.solveDone_keeps)
    | (cases e₀; done)

theorem execLayoutSwitchEntry_keeps_eq {s0 s t₀ : State} {z : Fin 16} (e₀ : execLayoutSwitchEntry z s = .next t₀) (h₀ : Keeps s0 s) : Keeps s0 t₀ := by
  unfold execLayoutSwitchEntry at e₀
  try dsimp only at e₀
  repeat' split at e₀
  all_goals first
    | (obtain rfl := Host.Outcome.next.inj e₀
       with_reducible repeat' first | assumption | apply State.enter_keeps | apply State.modZoneRt_keeps)
    | (cases e₀; done)

theorem execLayoutXfadeEnd_keeps_eq {s0 s t₀ : State} {z : Fin 16} (e₀ : execLayoutXfadeEnd z s = .next t₀) (h₀ : Keeps s0 s) : Keeps s0 t₀ := by
  unfold execLayoutXfadeEnd at e₀
  try dsimp only at e₀
  repeat' split at e₀
  all_goals first
    | (obtain rfl := Host.Outcome.next.inj e₀
       with_reducible repeat' first | assumption | apply State.layoutXfadeEnd_keeps)
    | (cases e₀; done)

/-! ### Machine/Objects.lean -/

theorem State.beginXf_keeps {s0 s : State} (h : Keeps s0 s) (o n : Nat) (eg own pan : Bool) : Keeps s0 (State.beginXf s o n eg own pan) := by
  unfold State.beginXf
  try dsimp only
  with_reducible repeat' first | assumption | apply State.modObjRt_keeps

theorem State.doRouteCh_keeps {s0 s : State} (h : Keeps s0 s) (o : Nat) (ch : RouteCh) (n : Nat) (eg : Bool) : Keeps s0 (State.doRouteCh s o ch n eg) := by
  unfold State.doRouteCh
  try dsimp only
  with_reducible repeat' first
    | assumption | apply State.modObj_keeps | apply State.modObjRt_keeps | apply State.modRoute_keeps
    | apply State.beginXf_keeps | apply Keeps.ite | split | dsimp only

theorem State.routeCh_keeps {s0 s : State} (h : Keeps s0 s) (o : Nat) (w : Waiting) : Keeps s0 (State.routeCh s o w) := by
  unfold State.routeCh
  try dsimp only
  with_reducible repeat' first
    | assumption | intro _ | apply State.count_keeps | apply State.modObjRt_keeps | apply State.doRouteCh_keeps
    | apply Keeps.foldl | apply Keeps.ite | split | dsimp only
    | (refine Keeps.mk' ?_ rfl ?_ <;> [skip; (simp only [State.lens]; done)])
    | (refine Keeps.mk' ?_ rfl ?_ <;> [skip; (simp [State.lens]; done)])

theorem State.releaseWaiting_keeps {s0 s : State} (h : Keeps s0 s) (o : Nat) : Keeps s0 (State.releaseWaiting s o) := by
  unfold State.releaseWaiting
  try dsimp only
  with_reducible repeat' first
    | assumption | intro _ | apply State.modObjRt_keeps | apply State.routeCh_keeps | apply Keeps.foldl
    | apply Keeps.ite | split | dsimp only | (refine Keeps.mk' ?_ rfl ?_ <;> [skip; (simp only [State.lens]; done)])
    | (refine Keeps.mk' ?_ rfl ?_ <;> [skip; (simp [State.lens]; done)])

theorem State.endXf_keeps {s0 s : State} (h : Keeps s0 s) (o : Nat) : Keeps s0 (State.endXf s o) := by
  unfold State.endXf
  try dsimp only
  with_reducible repeat' first
    | assumption | apply State.modObjRt_keeps | apply Keeps.ite | split | dsimp only
    | (refine Keeps.mk' ?_ rfl ?_ <;> [skip; (simp only [State.lens]; done)])

theorem State.posSample_keeps {s0 s : State} (h : Keeps s0 s) (o ns : Nat) (p : V3) : Keeps s0 (State.posSample s o ns p) := by
  unfold State.posSample
  try dsimp only
  with_reducible repeat' first
    | assumption | apply State.count_keeps | apply State.modObj_keeps | apply State.modObjRt_keeps | apply Keeps.ite | split
    | dsimp only

theorem State.setDoppler_keeps {s0 s : State} (h : Keeps s0 s) (o : Nat) (d : Bool) : Keeps s0 (State.setDoppler s o d) := by
  unfold State.setDoppler
  try dsimp only
  with_reducible repeat' first
    | assumption | apply State.modObj_keeps | apply State.modObjRt_keeps | apply Keeps.ite | split | dsimp only

theorem State.setPlacement_keeps {s0 s : State} (h : Keeps s0 s) (o : Nat) (e : Bool) : Keeps s0 (State.setPlacement s o e) := by
  unfold State.setPlacement
  try dsimp only
  with_reducible repeat' first
    | assumption | apply State.modObj_keeps | apply State.modObjRt_keeps | apply Keeps.ite | split | dsimp only

theorem specObjectSet_ok : specObjectSet.Ok := by
  refine ⟨fun c h => ?_, fun c bad h => ?_, fun c h => ?_, fun c h => ?_, fun c h => ?_⟩
  all_goals
    dsimp only [specObjectSet]
    with_reducible repeat' first
      | assumption | intro _ | apply State.modObj_keeps | apply State.modObjRt_keeps | apply State.routeCh_keeps
      | apply State.posSample_keeps | apply State.setDoppler_keeps | apply State.setPlacement_keeps
      | apply Keeps.foldl | apply Keeps.ite | split | dsimp only
      | (refine Keeps.mk' ?_ rfl ?_ <;> [skip; (simp only [State.lens]; done)])

theorem State.posBulk_keeps {s0 s : State} (h : Keeps s0 s) (c : Cmd) : Keeps s0 (State.posBulk s c) := by
  unfold State.posBulk
  try dsimp only
  with_reducible repeat' first
    | assumption | intro _ | apply State.posSample_keeps | apply Keeps.foldl | apply Keeps.ite | split | dsimp only

theorem specObjectPosBulk_ok : specObjectPosBulk.Ok := by
  refine ⟨fun c h => ?_, fun c bad h => ?_, fun c h => ?_, fun c h => ?_, fun c h => ?_⟩
  all_goals
    dsimp only [specObjectPosBulk]
    with_reducible repeat' first | assumption | apply State.posBulk_keeps | apply Keeps.ite | split | dsimp only

theorem specObjectRead_ok : specObjectRead.Ok := by
  refine ⟨fun c h => ?_, fun c bad h => ?_, fun c h => ?_, fun c h => ?_, fun c h => ?_⟩
  all_goals
    dsimp only [specObjectRead]
    with_reducible repeat' first | assumption | apply State.fresh_keeps | apply readOk_keeps

theorem specObjectRestore_ok : specObjectRestore.Ok := by
  refine ⟨fun c h => ?_, fun c bad h => ?_, fun c h => ?_, fun c h => ?_, fun c h => ?_⟩
  all_goals
    dsimp only [specObjectRestore]
    with_reducible repeat' first
      | assumption | intro _ | apply State.modObjRt_keeps | apply Keeps.foldl | apply Keeps.ite | split | dsimp only


theorem State.dropWaiting_keeps {s0 s : State} (h : Keeps s0 s) (r : Nat) : Keeps s0 (State.dropWaiting s r) := by
  unfold State.dropWaiting
  try dsimp only
  with_reducible repeat' first
    | assumption | intro _ | apply Keeps.foldl | apply Keeps.ite | split | dsimp only
    | (refine Keeps.mk' ?_ rfl ?_ <;> [skip; (simp only [State.lens]; done)])
    | (refine Keeps.mk' ?_ rfl ?_ <;> [skip; (simp [State.lens]; done)])

theorem specRouteSet_ok : specRouteSet.Ok := by
  refine ⟨fun c h => ?_, fun c bad h => ?_, fun c h => ?_, fun c h => ?_, fun c h => ?_⟩
  all_goals
    dsimp only [specRouteSet]
    with_reducible repeat' first
      | assumption | intro _ | apply State.modRoute_keeps | apply State.routeCh_keeps | apply State.dropWaiting_keeps
      | apply Keeps.foldl | apply Keeps.ite | split | dsimp only
      | (refine Keeps.mk' ?_ rfl ?_ <;> [skip; (simp only [State.lens]; done)])

theorem specRouteDelete_ok : specRouteDelete.Ok := by
  refine ⟨fun c h => ?_, fun c bad h => ?_, fun c h => ?_, fun c h => ?_, fun c h => ?_⟩
  all_goals
    dsimp only [specRouteDelete]
    with_reducible repeat' first
      | assumption | intro _ | apply State.routeCh_keeps | apply State.dropWaiting_keeps | apply Keeps.foldl
      | apply Keeps.ite | split | dsimp only
      | (refine Keeps.mk' ?_ rfl ?_ <;> [skip; (simp only [State.lens]; done)])

theorem specRouteRead_ok : specRouteRead.Ok := by
  refine ⟨fun c h => ?_, fun c bad h => ?_, fun c h => ?_, fun c h => ?_, fun c h => ?_⟩
  all_goals
    dsimp only [specRouteRead]
    with_reducible repeat' first | assumption | apply readOk_keeps

theorem specMatrixStatus_ok : specMatrixStatus.Ok := by
  refine ⟨fun c h => ?_, fun c bad h => ?_, fun c h => ?_, fun c h => ?_, fun c h => ?_⟩
  all_goals
    dsimp only [specMatrixStatus]
    with_reducible repeat' first | assumption | apply readOk_keeps

theorem execRouteXfadeEnd_keeps_eq {s0 s t₀ : State} {o : Fin 1024} (e₀ : execRouteXfadeEnd o s = .next t₀) (h₀ : Keeps s0 s) : Keeps s0 t₀ := by
  unfold execRouteXfadeEnd at e₀
  try dsimp only at e₀
  repeat' split at e₀
  all_goals first
    | (obtain rfl := Host.Outcome.next.inj e₀
       with_reducible repeat' first | assumption | apply State.endXf_keeps)
    | (cases e₀; done)

theorem execDelayJumpXfadeEnd_keeps_eq {s0 s t₀ : State} {o : Fin 1024} (e₀ : execDelayJumpXfadeEnd o s = .next t₀) (h₀ : Keeps s0 s) : Keeps s0 t₀ := by
  unfold execDelayJumpXfadeEnd at e₀
  try dsimp only at e₀
  repeat' split at e₀
  all_goals first
    | (obtain rfl := Host.Outcome.next.inj e₀
       with_reducible repeat' first | assumption | apply State.modObjRt_keeps)
    | (cases e₀; done)

theorem execDopplerXfadeEnd_keeps_eq {s0 s t₀ : State} {o : Fin 1024} (e₀ : execDopplerXfadeEnd o s = .next t₀) (h₀ : Keeps s0 s) : Keeps s0 t₀ := by
  unfold execDopplerXfadeEnd at e₀
  try dsimp only at e₀
  repeat' split at e₀
  all_goals first
    | (obtain rfl := Host.Outcome.next.inj e₀
       with_reducible repeat' first | assumption | apply State.modObjRt_keeps)
    | (cases e₀; done)

theorem execPlacementXfadeEnd_keeps_eq {s0 s t₀ : State} {o : Fin 1024} (e₀ : execPlacementXfadeEnd o s = .next t₀) (h₀ : Keeps s0 s) : Keeps s0 t₀ := by
  unfold execPlacementXfadeEnd at e₀
  try dsimp only at e₀
  repeat' split at e₀
  all_goals first
    | (obtain rfl := Host.Outcome.next.inj e₀
       with_reducible repeat' first | assumption | apply State.modObjRt_keeps)
    | (cases e₀; done)

/-! ### Machine/Filters.lean -/

theorem State.dropPieces_keeps {s0 s : State} (h : Keeps s0 s) (x op name : Nat) : Keeps s0 (State.dropPieces s x op name) := by
  unfold State.dropPieces
  try dsimp only
  with_reducible repeat' first
    | assumption | apply Keeps.ite | split | dsimp only
    | (refine Keeps.mk' ?_ rfl ?_ <;> [skip; (simp only [State.lens]; done)])


theorem execPiecedObjectDiscard_keeps_eq {s0 s t₀ : State} {x : Fin 8} {op name : Nat} (e₀ : execPiecedObjectDiscard x op name s = .next t₀) (h₀ : Keeps s0 s) : Keeps s0 t₀ := by
  unfold execPiecedObjectDiscard at e₀
  try dsimp only at e₀
  repeat' split at e₀
  all_goals first
    | (obtain rfl := Host.Outcome.next.inj e₀
       with_reducible repeat' first | assumption | apply State.enter_keeps | apply State.dropPieces_keeps)
    | (cases e₀; done)

theorem State.align_keeps {s0 s : State} (h : Keeps s0 s) (f : Nat) : Keeps s0 (State.align s f) := by
  unfold State.align
  try dsimp only
  with_reducible repeat' first | assumption | apply State.modFeedRt_keeps

theorem execAlignDelayXfadeEnd_keeps_eq {s0 s t₀ : State} {f : Fin 1024} (e₀ : execAlignDelayXfadeEnd f s = .next t₀) (h₀ : Keeps s0 s) : Keeps s0 t₀ := by
  unfold execAlignDelayXfadeEnd at e₀
  try dsimp only at e₀
  repeat' split at e₀
  all_goals first
    | (obtain rfl := Host.Outcome.next.inj e₀
       with_reducible repeat' first | assumption | apply State.modFeedRt_keeps)
    | (cases e₀; done)

theorem specChainSet_ok : specChainSet.Ok := by
  refine ⟨fun c h => ?_, fun c bad h => ?_, fun c h => ?_, fun c h => ?_, fun c h => ?_⟩
  all_goals
    dsimp only [specChainSet]
    with_reducible repeat' first
      | assumption | intro _ | apply State.modChain_keeps | apply State.align_keeps | apply Keeps.foldl | apply Keeps.ite
      | split | dsimp only

theorem specBiquadSet_ok : specBiquadSet.Ok := by
  refine ⟨fun c h => ?_, fun c bad h => ?_, fun c h => ?_, fun c h => ?_, fun c h => ?_⟩
  all_goals
    dsimp only [specBiquadSet]
    with_reducible repeat' first
      | assumption | intro _ | apply State.modChain_keeps | apply Keeps.foldl | apply Keeps.ite | split | dsimp only

theorem specChainRead_ok : specChainRead.Ok := by
  refine ⟨fun c h => ?_, fun c bad h => ?_, fun c h => ?_, fun c h => ?_, fun c h => ?_⟩
  all_goals
    dsimp only [specChainRead]
    with_reducible repeat' first | assumption | apply readOk_keeps

theorem specFeedStatus_ok : specFeedStatus.Ok := by
  refine ⟨fun c h => ?_, fun c bad h => ?_, fun c h => ?_, fun c h => ?_, fun c h => ?_⟩
  all_goals
    dsimp only [specFeedStatus]
    with_reducible repeat' first | assumption | apply readOk_keeps

theorem State.takePiece_keeps {s0 s : State} (h : Keeps s0 s) (c : Cmd) (f : PieceFields) : Keeps s0 (State.takePiece s c f).2 := by
  unfold State.takePiece
  try dsimp only
  with_reducible repeat' first
    | assumption | intro _ | apply State.dropPieces_keeps | apply Keeps.foldl | apply Keeps.ite | split | dsimp only
    | (refine Keeps.mk' ?_ rfl ?_ <;> [skip; (simp only [State.lens]; done)])
    | (refine Keeps.mk' ?_ rfl ?_ <;> [skip; (simp [State.lens]; done)])

theorem State.spoilPiece_keeps {s0 s : State} (h : Keeps s0 s) (c : Cmd) (f : PieceFields) : Keeps s0 (State.spoilPiece s c f) := by
  unfold State.spoilPiece
  try dsimp only
  with_reducible repeat' first
    | assumption | intro _ | apply State.dropPieces_keeps | apply Keeps.foldl | apply Keeps.ite | split | dsimp only
    | (refine Keeps.mk' ?_ rfl ?_ <;> [skip; (simp only [State.lens]; done)])
    | (refine Keeps.mk' ?_ rfl ?_ <;> [skip; (simp [State.lens]; done)])

theorem State.runPiece_keeps {s0 s : State} (h : Keeps s0 s) (c : Cmd) (f : PieceFields) : Keeps s0 (State.runPiece s c f) := by
  unfold State.runPiece
  try dsimp only
  with_reducible repeat' first
    | assumption | intro _ | apply State.bezel_keeps | apply State.takePiece_keeps | apply Keeps.foldl
    | apply Keeps.ite | split | dsimp only | (refine Keeps.mk' ?_ rfl ?_ <;> [skip; (simp only [State.lens]; done)])
    | (refine Keeps.mk' ?_ rfl ?_ <;> [skip; (simp [State.lens]; done)])

theorem specFilterLibWrite_ok : specFilterLibWrite.Ok := by
  refine ⟨fun c h => ?_, fun c bad h => ?_, fun c h => ?_, fun c h => ?_, fun c h => ?_⟩
  all_goals
    dsimp only [specFilterLibWrite]
    with_reducible repeat' first
      | assumption | intro _ | apply State.takePiece_keeps | apply State.spoilPiece_keeps
      | apply State.runPiece_keeps | apply Keeps.foldl | apply Keeps.ite | split | dsimp only
      | (refine Keeps.mk' ?_ rfl ?_ <;> [skip; (simp only [State.lens]; done)])

theorem specFilterLibFree_ok : specFilterLibFree.Ok := by
  refine ⟨fun c h => ?_, fun c bad h => ?_, fun c h => ?_, fun c h => ?_, fun c h => ?_⟩
  all_goals
    dsimp only [specFilterLibFree]
    with_reducible repeat' first
      | assumption | apply Keeps.ite | split | dsimp only
      | (refine Keeps.mk' ?_ rfl ?_ <;> [skip; (simp only [State.lens]; done)])

theorem State.swapFir_keeps {s0 s : State} (h : Keeps s0 s) (e : Nat × Fir) : Keeps s0 (State.swapFir s e) := by
  unfold State.swapFir
  try dsimp only
  with_reducible repeat' first | assumption | apply State.modFeedRt_keeps

theorem State.swapSet_keeps {s0 s : State} (h : Keeps s0 s) (set : List (Nat × Fir)) (owner : Nat) : Keeps s0 (State.swapSet s set owner) := by
  unfold State.swapSet
  try dsimp only
  with_reducible repeat' first
    | assumption | intro _ | apply State.swapFir_keeps | apply Keeps.foldl | apply Keeps.ite | split | dsimp only
    | (refine Keeps.mk' ?_ rfl ?_ <;> [skip; (simp only [State.lens]; done)])

theorem specFilterStage_ok : specFilterStage.Ok := by
  refine ⟨fun c h => ?_, fun c bad h => ?_, fun c h => ?_, fun c h => ?_, fun c h => ?_⟩
  all_goals
    dsimp only [specFilterStage]
    with_reducible repeat' first
      | assumption | apply State.swapSet_keeps | apply Keeps.ite | split | dsimp only
      | (refine Keeps.mk' ?_ rfl ?_ <;> [skip; (simp only [State.lens]; done)])

theorem specFilterSwap_ok : specFilterSwap.Ok := by
  refine ⟨fun c h => ?_, fun c bad h => ?_, fun c h => ?_, fun c h => ?_, fun c h => ?_⟩
  all_goals
    dsimp only [specFilterSwap]
    with_reducible repeat' first | assumption | apply State.swapSet_keeps | apply Keeps.ite | split | dsimp only

theorem specFilterDiscard_ok : specFilterDiscard.Ok := by
  refine ⟨fun c h => ?_, fun c bad h => ?_, fun c h => ?_, fun c h => ?_, fun c h => ?_⟩
  all_goals
    dsimp only [specFilterDiscard]
    with_reducible repeat' first
      | assumption | apply Keeps.ite | split | dsimp only
      | (refine Keeps.mk' ?_ rfl ?_ <;> [skip; (simp only [State.lens]; done)])

theorem specFilterAb_ok : specFilterAb.Ok := by
  refine ⟨fun c h => ?_, fun c bad h => ?_, fun c h => ?_, fun c h => ?_, fun c h => ?_⟩
  all_goals
    dsimp only [specFilterAb]
    with_reducible repeat' first
      | assumption | intro _ | apply State.modFeedRt_keeps | apply Keeps.foldl | apply Keeps.ite | split | dsimp only
      | (refine Keeps.mk' ?_ rfl ?_ <;> [skip; (simp only [State.lens]; done)])

theorem specFilterDirect_ok : specFilterDirect.Ok := by
  refine ⟨fun c h => ?_, fun c bad h => ?_, fun c h => ?_, fun c h => ?_, fun c h => ?_⟩
  all_goals
    dsimp only [specFilterDirect]
    with_reducible repeat' first
      | assumption | apply Keeps.ite | split | dsimp only
      | (refine Keeps.mk' ?_ rfl ?_ <;> [skip; (simp only [State.lens]; done)])

theorem specFilterRead_ok : specFilterRead.Ok := by
  refine ⟨fun c h => ?_, fun c bad h => ?_, fun c h => ?_, fun c h => ?_, fun c h => ?_⟩
  all_goals
    dsimp only [specFilterRead]
    with_reducible repeat' first | assumption | apply readOk_keeps

theorem execFilterStagingComplete_keeps_eq {s0 s t₀ : State}  (e₀ : execFilterStagingComplete s = .next t₀) (h₀ : Keeps s0 s) : Keeps s0 t₀ := by
  unfold execFilterStagingComplete at e₀
  try dsimp only at e₀
  repeat' split at e₀
  all_goals first
    | (obtain rfl := Host.Outcome.next.inj e₀
       with_reducible repeat' first
         | assumption | apply State.event_keeps | apply Keeps.ite | split | dsimp only
         | (refine Keeps.mk' ?_ rfl ?_ <;> [skip; (simp only [State.lens]; done)]))
    | (cases e₀; done)

theorem State.freeShadow_keeps {s0 s : State} (h : Keeps s0 s) : Keeps s0 (State.freeShadow s) := by
  unfold State.freeShadow
  try dsimp only
  with_reducible repeat' first
    | assumption | intro _ | apply State.modFeedRt_keeps | apply Keeps.foldl | apply Keeps.ite | split | dsimp only
    | (refine Keeps.mk' ?_ rfl ?_ <;> [skip; (simp only [State.lens]; done)])

theorem execFirCopyBackComplete_keeps_eq {s0 s t₀ : State}  (e₀ : execFirCopyBackComplete s = .next t₀) (h₀ : Keeps s0 s) : Keeps s0 t₀ := by
  unfold execFirCopyBackComplete at e₀
  try dsimp only at e₀
  repeat' split at e₀
  all_goals first
    | (obtain rfl := Host.Outcome.next.inj e₀
       with_reducible repeat' first | assumption | apply State.event_keeps | apply State.freeShadow_keeps)
    | (cases e₀; done)

theorem execAbXfadeEnd_keeps_eq {s0 s t₀ : State}  (e₀ : execAbXfadeEnd s = .next t₀) (h₀ : Keeps s0 s) : Keeps s0 t₀ := by
  unfold execAbXfadeEnd at e₀
  try dsimp only at e₀
  repeat' split at e₀
  all_goals first
    | (obtain rfl := Host.Outcome.next.inj e₀
       with_reducible repeat' first
         | assumption | intro _ | apply State.modFeedRt_keeps | apply Keeps.foldl | apply Keeps.ite | split | dsimp only
         | (refine Keeps.mk' ?_ rfl ?_ <;> [skip; (simp only [State.lens]; done)]))
    | (cases e₀; done)

theorem execAbCopyBackComplete_keeps_eq {s0 s t₀ : State}  (e₀ : execAbCopyBackComplete s = .next t₀) (h₀ : Keeps s0 s) : Keeps s0 t₀ := by
  unfold execAbCopyBackComplete at e₀
  try dsimp only at e₀
  repeat' split at e₀
  all_goals first
    | (obtain rfl := Host.Outcome.next.inj e₀
       with_reducible repeat' first | assumption | apply State.event_keeps | apply State.freeShadow_keeps)
    | (cases e₀; done)

/-! ### Machine/Time.lean -/

theorem State.setBase_keeps {s0 s : State} (h : Keeps s0 s) (b v : Nat) : Keeps s0 (State.setBase s b v) := by
  unfold State.setBase
  try dsimp only
  with_reducible repeat' first
    | assumption | apply Keeps.ite | split | dsimp only
    | (refine Keeps.mk' ?_ rfl ?_ <;> [skip; (simp only [State.lens]; done)])

theorem State.setRate_keeps {s0 s : State} (h : Keeps s0 s) (b : Nat) (r : Int) : Keeps s0 (State.setRate s b r) := by
  unfold State.setRate
  try dsimp only
  with_reducible repeat' first | assumption | apply State.setReg_keeps

theorem State.stepBase_keeps {s0 s : State} (h : Keeps s0 s) (b : Nat) (ns : Int) : Keeps s0 (State.stepBase s b ns) := by
  unfold State.stepBase
  try dsimp only
  with_reducible repeat' first | assumption | apply State.setBase_keeps

theorem State.tick_keeps {s0 s : State} (h : Keeps s0 s) : Keeps s0 (State.tick s) := by
  unfold State.tick
  try dsimp only
  with_reducible repeat' first
    | assumption | apply Keeps.ite | split | dsimp only
    | (refine Keeps.mk' ?_ rfl ?_ <;> [skip; (simp only [State.lens]; done)])

theorem guardWrite_keeps_eq {s0 s t₀ : State} {a : Nat} {v : Word} (e₀ : guardWrite a v s = .next t₀) (h₀ : Keeps s0 s) : Keeps s0 t₀ := by
  unfold guardWrite at e₀
  try dsimp only at e₀
  repeat' split at e₀
  all_goals first
    | (obtain rfl := Host.Outcome.next.inj e₀
       assumption)
    | (cases e₀; done)

theorem guarded_keeps_eq {s0 f t : State} {a : Nat} {v : Word} (e : guarded a v f = .next t) (h : Keeps s0 f) : Keeps s0 t := by
  unfold guarded guardWrite at e
  repeat' split at e
  all_goals first
    | (cases e; done)
    | (obtain rfl := Host.Outcome.next.inj e; exact h)

theorem State.timeSnap_keeps {s0 s : State} (h : Keeps s0 s) (v : Word) : Keeps s0 (State.timeSnap s v) := by
  unfold State.timeSnap
  try dsimp only
  with_reducible repeat' first
    | assumption | apply Keeps.ite | split | dsimp only
    | (refine Keeps.mk' ?_ rfl ?_ <;> [skip; (simp only [State.lens]; done)])

theorem State.timeAdj_keeps {s0 s : State} (h : Keeps s0 s) (b : Nat) (v : Word) : Keeps s0 (State.timeAdj s b v) := by
  unfold State.timeAdj
  try dsimp only
  with_reducible repeat' first | assumption | apply State.stepBase_keeps

theorem State.cmpArmed_keeps {s0 s : State} (h : Keeps s0 s) (i : Nat) : Keeps s0 (State.cmpArmed s i) := by
  unfold State.cmpArmed
  try dsimp only
  with_reducible repeat' first | assumption | apply State.raise_keeps | apply Keeps.ite | split | dsimp only

theorem State.cmpCtl_keeps {s0 s : State} (h : Keeps s0 s) (i : Nat) (v : Word) : Keeps s0 (State.cmpCtl s i v) := by
  unfold State.cmpCtl
  try dsimp only
  with_reducible repeat' first
    | assumption | apply State.setReg_keeps | apply State.cmpArmed_keeps | apply Keeps.ite | split | dsimp only

theorem State.cmpFire_keeps {s0 s : State} (h : Keeps s0 s) (i : Nat) : Keeps s0 (State.cmpFire s i) := by
  unfold State.cmpFire
  try dsimp only
  with_reducible repeat' first
    | assumption | apply State.setReg_keeps | apply State.lower_keeps | apply State.setReg64_keeps | apply State.emit_keeps
    | apply Keeps.ite | split | dsimp only

theorem execComparatorFire_keeps_eq {s0 s t₀ : State} {i : Fin 16} (e₀ : execComparatorFire i s = .next t₀) (h₀ : Keeps s0 s) : Keeps s0 t₀ := by
  unfold execComparatorFire at e₀
  try dsimp only at e₀
  repeat' split at e₀
  all_goals first
    | (obtain rfl := Host.Outcome.next.inj e₀
       with_reducible repeat' first | assumption | apply State.cmpFire_keeps)
    | (cases e₀; done)

theorem State.capture_keeps {s0 s : State} (h : Keeps s0 s) (c : Nat) (rising : Bool) : Keeps s0 (State.capture s c rising) := by
  unfold State.capture
  try dsimp only
  with_reducible repeat' first
    | assumption | apply State.raise_keeps | apply State.count_keeps | apply Keeps.ite | split | dsimp only
    | (refine Keeps.mk' ?_ rfl ?_ <;> [skip; (simp only [State.lens]; done)])
    | (refine Keeps.mk' ?_ rfl ?_ <;> [skip; (simp [State.lens]; done)])

theorem execCaptureEdge_keeps_eq {s0 s t₀ : State} {c : Fin 9} {rising : Bool} (e₀ : execCaptureEdge c rising s = .next t₀) (h₀ : Keeps s0 s) : Keeps s0 t₀ := by
  unfold execCaptureEdge at e₀
  try dsimp only at e₀
  repeat' split at e₀
  all_goals first
    | (obtain rfl := Host.Outcome.next.inj e₀
       with_reducible repeat' first | assumption | apply State.capture_keeps)
    | (cases e₀; done)

theorem State.captCtl_keeps {s0 s : State} (h : Keeps s0 s) (c : Nat) (v : Word) : Keeps s0 (State.captCtl s c v) := by
  unfold State.captCtl
  try dsimp only
  with_reducible repeat' first
    | assumption | apply State.setReg_keeps | apply Keeps.ite | split | dsimp only
    | (refine Keeps.mk' ?_ rfl ?_ <;> [skip; (simp [State.lens]; done)])

theorem State.txtsStatus_keeps {s0 s : State} (h : Keeps s0 s) (k : Nat) (v : Word) : Keeps s0 (State.txtsStatus s k v) := by
  unfold State.txtsStatus
  try dsimp only
  with_reducible repeat' first
    | assumption | apply State.lower_keeps | apply Keeps.ite | split | dsimp only
    | (refine Keeps.mk' ?_ rfl ?_ <;> [skip; (simp [State.lens]; done)])

theorem State.txStamp_keeps {s0 s : State} (h : Keeps s0 s) (k tag : Nat) : Keeps s0 (s.txStamp k tag).1 := by
  unfold State.txStamp; dsimp only; split
  · exact h.upd rfl rfl (by simp [State.lens])
  · dsimp only
    with_reducible repeat' first | assumption | apply State.count_keeps | apply State.raise_keeps

theorem State.timeErr_keeps {s0 s : State} (h : Keeps s0 s) (v : Word) : Keeps s0 (State.timeErr s v) := by
  unfold State.timeErr
  try dsimp only
  with_reducible repeat' first
    | assumption | apply State.lower_keeps | apply Keeps.ite | split | dsimp only
    | (refine Keeps.mk' ?_ rfl ?_ <;> [skip; (simp only [State.lens]; done)])

theorem execTimeSnap_keeps_eq {s0 s t₀ : State} {v : Word} (e₀ : execTimeSnap v s = .next t₀) (h₀ : Keeps s0 s) : Keeps s0 t₀ := by
  unfold execTimeSnap at e₀
  try dsimp only at e₀
  repeat' split at e₀
  all_goals first
    | (obtain rfl := Host.Outcome.next.inj e₀
       assumption)
    | (cases e₀; done)
    | (refine guarded_keeps_eq e₀ ?_
       with_reducible repeat' first | assumption | apply State.timeSnap_keeps)

theorem execTimeAdjNs_keeps_eq {s0 s t₀ : State} {b : Fin 3} {v : Word} (e₀ : execTimeAdjNs b v s = .next t₀) (h₀ : Keeps s0 s) : Keeps s0 t₀ := by
  unfold execTimeAdjNs at e₀
  try dsimp only at e₀
  repeat' split at e₀
  all_goals first
    | (obtain rfl := Host.Outcome.next.inj e₀
       assumption)
    | (cases e₀; done)
    | (refine guarded_keeps_eq e₀ ?_
       with_reducible repeat' first | assumption | apply State.timeAdj_keeps)

theorem execCaptPop_keeps_eq {s0 s t₀ : State} {c : Fin 9} {v : Word} (e₀ : execCaptPop c v s = .next t₀) (h₀ : Keeps s0 s) : Keeps s0 t₀ := by
  unfold execCaptPop at e₀
  try dsimp only at e₀
  repeat' split at e₀
  all_goals first
    | (obtain rfl := Host.Outcome.next.inj e₀
       assumption)
    | (cases e₀; done)
    | (refine guarded_keeps_eq e₀ ?_
       with_reducible repeat' first | assumption | apply State.captCtl_keeps)

theorem execTxtsPop_keeps_eq {s0 s t₀ : State} {k : Fin 6} {v : Word} (e₀ : execTxtsPop k v s = .next t₀) (h₀ : Keeps s0 s) : Keeps s0 t₀ := by
  unfold execTxtsPop at e₀
  try dsimp only at e₀
  repeat' split at e₀
  all_goals first
    | (obtain rfl := Host.Outcome.next.inj e₀
       assumption)
    | (cases e₀; done)
    | (refine guarded_keeps_eq e₀ ?_
       with_reducible repeat' first | assumption | apply State.txtsStatus_keeps)

theorem specTriggerSet_ok : specTriggerSet.Ok := by
  refine ⟨fun c h => ?_, fun c bad h => ?_, fun c h => ?_, fun c h => ?_, fun c h => ?_⟩
  all_goals
    dsimp only [specTriggerSet]
    with_reducible repeat' first
      | assumption | apply State.setReg_keeps | apply State.setReg64_keeps | apply State.cmpArmed_keeps | apply Keeps.ite
      | split | dsimp only

theorem specCaptureRead_ok : specCaptureRead.Ok := by
  refine ⟨fun c h => ?_, fun c bad h => ?_, fun c h => ?_, fun c h => ?_, fun c h => ?_⟩
  all_goals
    dsimp only [specCaptureRead, specCaptureRead.readOk']
    with_reducible repeat' first
      | assumption | apply Keeps.ite | split | dsimp only
      | (refine Keeps.mk' ?_ rfl ?_ <;> [skip; (simp [State.lens]; done)])

theorem specTimeRead_ok : specTimeRead.Ok := by
  refine ⟨fun c h => ?_, fun c bad h => ?_, fun c h => ?_, fun c h => ?_, fun c h => ?_⟩
  all_goals
    dsimp only [specTimeRead]
    assumption

/-! ### Machine/Refs.lean -/

theorem State.modRef_keeps {s0 s : State} (h : Keeps s0 s) (r : Nat) (f : Ref → Ref) : Keeps s0 (State.modRef s r f) := by
  unfold State.modRef
  try dsimp only
  with_reducible repeat' first
    | assumption | apply Keeps.ite | split | dsimp only | (refine Keeps.mk' ?_ rfl ?_ <;> [skip; (simp [State.lens]; done)])

theorem State.modSel_keeps {s0 s : State} (h : Keeps s0 s) (f : Sel → Sel) : Keeps s0 (State.modSel s f) := by
  unfold State.modSel
  try dsimp only
  with_reducible repeat' first
    | assumption | apply Keeps.ite | split | dsimp only
    | (refine Keeps.mk' ?_ rfl ?_ <;> [skip; (simp only [State.lens]; done)])

theorem State.modPtp_keeps {s0 s : State} (h : Keeps s0 s) (d : Nat) (f : Ptp → Ptp) : Keeps s0 (State.modPtp s d f) := by
  unfold State.modPtp
  try dsimp only
  with_reducible repeat' first
    | assumption | apply Keeps.ite | split | dsimp only | (refine Keeps.mk' ?_ rfl ?_ <;> [skip; (simp [State.lens]; done)])

theorem State.refQuality_keeps {s0 s : State} (h : Keeps s0 s) (r : Nat) : Keeps s0 (State.refQuality s r) := by
  unfold State.refQuality
  try dsimp only
  with_reducible repeat' first | assumption | apply State.event_keeps

theorem State.noteQuality_keeps {s0 s : State} (h : Keeps s0 s) (r : Nat) (old : Ref) : Keeps s0 (State.noteQuality s r old) := by
  unfold State.noteQuality
  try dsimp only
  with_reducible repeat' first | assumption | apply State.refQuality_keeps | apply Keeps.ite | split | dsimp only

theorem State.startWtr_keeps {s0 s : State} (h : Keeps s0 s) (r : Nat) : Keeps s0 (State.startWtr s r) := by
  unfold State.startWtr
  try dsimp only
  with_reducible repeat' first | assumption | apply State.modRef_keeps | apply Keeps.ite | split | dsimp only

theorem State.setIntrinsic_keeps {s0 s : State} (h : Keeps s0 s) (r i : Nat) : Keeps s0 (State.setIntrinsic s r i) := by
  unfold State.setIntrinsic
  try dsimp only
  with_reducible repeat' first
    | assumption | apply State.modRef_keeps | apply State.noteQuality_keeps | apply State.startWtr_keeps | apply Keeps.ite
    | split | dsimp only

theorem State.enterRef_keeps {s0 s : State} (h : Keeps s0 s) (ref : Option Nat) (cause : Nat) : Keeps s0 (State.enterRef s ref cause) := by
  unfold State.enterRef
  try dsimp only
  with_reducible repeat' first | assumption | apply State.enter_keeps | apply Keeps.ite | split | dsimp only

theorem State.refSwitched_keeps {s0 s : State} (h : Keeps s0 s) (src dst : Option Nat) (cause : Nat) : Keeps s0 (State.refSwitched s src dst cause) := by
  unfold State.refSwitched
  try dsimp only
  with_reducible repeat' first
    | assumption | apply State.raise_keeps | apply State.event_keeps | apply Keeps.ite | split | dsimp only

theorem State.selectRef_keeps {s0 s : State} (h : Keeps s0 s) (r cause : Nat) (forced : Bool) : Keeps s0 (State.selectRef s r cause forced) := by
  unfold State.selectRef
  try dsimp only
  with_reducible repeat' first
    | assumption | apply State.event_keeps | apply State.modSel_keeps | apply State.refSwitched_keeps | apply Keeps.ite
    | split | dsimp only

theorem State.enterHold_keeps {s0 s : State} (h : Keeps s0 s) (cause : Nat) : Keeps s0 (State.enterHold s cause) := by
  unfold State.enterHold
  try dsimp only
  with_reducible repeat' first
    | assumption | apply State.raise_keeps | apply State.event_keeps | apply State.setRate_keeps | apply State.modSel_keeps
    | apply State.refSwitched_keeps | apply Keeps.ite | split | dsimp only

theorem State.toRef_keeps {s0 s : State} (h : Keeps s0 s) (ref : Option Nat) (cause : Nat) : Keeps s0 (State.toRef s ref cause) := by
  unfold State.toRef
  split
  · exact State.selectRef_keeps h _ _ _
  · exact State.enterHold_keeps h _

theorem State.decide'_keeps {s0 s : State} (h : Keeps s0 s) (ended : Bool) : Keeps s0 (State.decide' s ended) := by
  unfold State.decide'
  with_reducible repeat' first
    | assumption | apply State.enterRef_keeps | apply State.toRef_keeps | apply Keeps.ite | split | dsimp only

theorem State.reselect_keeps {s0 s : State} (h : Keeps s0 s) (ended : Bool) : Keeps s0 (State.reselect s ended) := by
  unfold State.reselect
  try dsimp only
  with_reducible repeat' first
    | assumption | apply State.modSel_keeps | apply State.decide'_keeps | apply Keeps.ite | split | dsimp only

theorem State.measure_keeps {s0 s : State} (h : Keeps s0 s) (r : Nat) (m : RefMeas) : Keeps s0 (State.measure s r m) := by
  unfold State.measure
  try dsimp only
  with_reducible repeat' first | assumption | apply State.modRef_keeps

theorem State.refLost_keeps {s0 s : State} (h : Keeps s0 s) (r : Nat) : Keeps s0 (State.refLost s r) := by
  unfold State.refLost
  try dsimp only
  with_reducible repeat' first
    | assumption | apply State.modRef_keeps | apply State.refQuality_keeps | apply State.reselect_keeps | apply Keeps.ite
    | split | dsimp only

theorem execReferenceLost_keeps_eq {s0 s t₀ : State} {r : Fin 6} (e₀ : execReferenceLost r s = .next t₀) (h₀ : Keeps s0 s) : Keeps s0 t₀ := by
  unfold execReferenceLost at e₀
  try dsimp only at e₀
  repeat' split at e₀
  all_goals first
    | (obtain rfl := Host.Outcome.next.inj e₀
       with_reducible repeat' first | assumption | apply State.refLost_keeps)
    | (cases e₀; done)

theorem State.refPresent_keeps {s0 s : State} (h : Keeps s0 s) (r : Nat) (m : RefMeas) : Keeps s0 (State.refPresent s r m) := by
  unfold State.refPresent
  try dsimp only
  with_reducible repeat' first
    | assumption | apply State.modRef_keeps | apply State.startWtr_keeps | apply State.setIntrinsic_keeps
    | apply State.reselect_keeps | apply State.measure_keeps | apply Keeps.ite | split | dsimp only

theorem execReferencePresent_keeps_eq {s0 s t₀ : State} {r : Fin 6} {m : RefMeas} (e₀ : execReferencePresent r m s = .next t₀) (h₀ : Keeps s0 s) : Keeps s0 t₀ := by
  unfold execReferencePresent at e₀
  try dsimp only at e₀
  repeat' split at e₀
  all_goals first
    | (obtain rfl := Host.Outcome.next.inj e₀
       with_reducible repeat' first | assumption | apply State.refPresent_keeps)
    | (cases e₀; done)

theorem execWaitToRestoreEnd_keeps_eq {s0 s t₀ : State} {r : Fin 6} (e₀ : execWaitToRestoreEnd r s = .next t₀) (h₀ : Keeps s0 s) : Keeps s0 t₀ := by
  unfold execWaitToRestoreEnd at e₀
  try dsimp only at e₀
  repeat' split at e₀
  all_goals first
    | (obtain rfl := Host.Outcome.next.inj e₀
       with_reducible repeat' first
         | assumption | apply State.enter_keeps | apply State.modRef_keeps | apply State.reselect_keeps)
    | (cases e₀; done)

theorem State.refSecond_keeps {s0 s : State} (h : Keeps s0 s) (r : Nat) : Keeps s0 (State.refSecond s r) := by
  unfold State.refSecond
  try dsimp only
  with_reducible repeat' first
    | assumption | apply State.modRef_keeps | apply State.noteQuality_keeps | apply State.startWtr_keeps | apply Keeps.ite
    | split | dsimp only

theorem State.rateSecond_keeps {s0 s : State} (h : Keeps s0 s) : Keeps s0 (State.rateSecond s) := by
  unfold State.rateSecond
  try dsimp only
  with_reducible repeat' first | assumption | apply State.modSel_keeps | apply Keeps.ite | split | dsimp only

theorem State.deviation_keeps {s0 s : State} (h : Keeps s0 s) (ms : List RefMeas) : Keeps s0 (State.deviation s ms) := by
  unfold State.deviation
  try dsimp only
  with_reducible repeat' first
    | assumption | intro _ | apply State.modRef_keeps | apply State.setIntrinsic_keeps | apply State.reselect_keeps
    | apply State.measure_keeps | apply State.refSecond_keeps | apply State.rateSecond_keeps | apply Keeps.foldl
    | apply Keeps.ite | split | dsimp only

theorem execDeviationEval_keeps_eq {s0 s t₀ : State} {ms : List RefMeas} (e₀ : execDeviationEval ms s = .next t₀) (h₀ : Keeps s0 s) : Keeps s0 t₀ := by
  unfold execDeviationEval at e₀
  try dsimp only at e₀
  repeat' split at e₀
  all_goals first
    | (obtain rfl := Host.Outcome.next.inj e₀
       with_reducible repeat' first | assumption | apply State.deviation_keeps)
    | (cases e₀; done)

theorem State.pull_keeps {s0 s : State} (h : Keeps s0 s) (m : RefMeas) : Keeps s0 (State.pull s m) := by
  unfold State.pull
  try dsimp only
  with_reducible repeat' first
    | assumption | apply State.setRate_keeps | apply State.modSel_keeps | apply State.reselect_keeps
    | apply State.measure_keeps | apply Keeps.ite | split | dsimp only

theorem execPullStep_keeps_eq {s0 s t₀ : State} {m : RefMeas} (e₀ : execPullStep m s = .next t₀) (h₀ : Keeps s0 s) : Keeps s0 t₀ := by
  unfold execPullStep at e₀
  try dsimp only at e₀
  repeat' split at e₀
  all_goals first
    | (obtain rfl := Host.Outcome.next.inj e₀
       with_reducible repeat' first | assumption | apply State.pull_keeps)
    | (cases e₀; done)

theorem State.stepL_keeps {s0 s : State} (h : Keeps s0 s) : Keeps s0 (State.stepL s) := by
  unfold State.stepL
  try dsimp only
  with_reducible repeat' first
    | assumption | apply State.raise_keeps | apply State.stepBase_keeps | apply State.modRef_keeps
    | apply State.modSel_keeps | apply Keeps.ite | split | dsimp only

theorem execHoldoverEval_keeps_eq {s0 s t₀ : State}  (e₀ : execHoldoverEval s = .next t₀) (h₀ : Keeps s0 s) : Keeps s0 t₀ := by
  unfold execHoldoverEval at e₀
  try dsimp only at e₀
  repeat' split at e₀
  all_goals first
    | (obtain rfl := Host.Outcome.next.inj e₀
       with_reducible repeat' first | assumption | apply State.event_keeps | apply State.modSel_keeps)
    | (cases e₀; done)

theorem State.refApply_keeps {s0 s : State} (h : Keeps s0 s) (ref : Option Nat) (cause : Nat) : Keeps s0 (State.refApply s ref cause) := by
  unfold State.refApply
  dsimp only
  with_reducible repeat' first | assumption | apply State.toRef_keeps | apply Keeps.ite

theorem State.leaveSlave_keeps {s0 s : State} (h : Keeps s0 s) (d st : Nat) : Keeps s0 (State.leaveSlave s d st) := by
  unfold State.leaveSlave
  try dsimp only
  with_reducible repeat' first
    | assumption | apply State.modPtp_keeps | apply State.refLost_keeps | apply Keeps.ite | split | dsimp only

theorem State.steer_keeps {s0 s : State} (h : Keeps s0 s) (d : Nat) (offset : Int) : Keeps s0 (State.steer s d offset) := by
  unfold State.steer
  try dsimp only
  with_reducible repeat' first
    | assumption | apply State.fresh_keeps | apply State.setRate_keeps | apply State.stepBase_keeps
    | apply State.modPtp_keeps | apply Keeps.ite | split | dsimp only

theorem State.ptpMessage_keeps {s0 s : State} (h : Keeps s0 s) (d : Nat) (m : PtpMsg) : Keeps s0 (State.ptpMessage s d m) := by
  unfold State.ptpMessage
  try dsimp only
  with_reducible repeat' first
    | assumption | intro _ | apply State.place_keeps | apply State.modPtp_keeps | apply State.setIntrinsic_keeps
    | apply State.reselect_keeps | apply State.leaveSlave_keeps | apply State.steer_keeps | apply Keeps.foldl
    | apply Keeps.ite | split | dsimp only | (refine Keeps.mk' ?_ rfl ?_ <;> [skip; (simp only [State.lens]; done)])
    | (refine Keeps.mk' ?_ rfl ?_ <;> [skip; (simp [State.lens]; done)])

theorem execPtpMessage_keeps_eq {s0 s t₀ : State} {d : Fin 2} {m : PtpMsg} (e₀ : execPtpMessage d m s = .next t₀) (h₀ : Keeps s0 s) : Keeps s0 t₀ := by
  unfold execPtpMessage at e₀
  try dsimp only at e₀
  repeat' split at e₀
  all_goals first
    | (obtain rfl := Host.Outcome.next.inj e₀
       with_reducible repeat' first | assumption | apply State.ptpMessage_keeps)
    | (cases e₀; done)

theorem execPtpAnnounceTimeout_keeps_eq {s0 s t₀ : State} {d : Fin 2} (e₀ : execPtpAnnounceTimeout d s = .next t₀) (h₀ : Keeps s0 s) : Keeps s0 t₀ := by
  unfold execPtpAnnounceTimeout at e₀
  try dsimp only at e₀
  repeat' split at e₀
  all_goals first
    | (obtain rfl := Host.Outcome.next.inj e₀
       with_reducible repeat' first | assumption | apply State.reselect_keeps | apply State.leaveSlave_keeps)
    | (cases e₀; done)

theorem execPtpSyncInterval_keeps_eq {s0 s t₀ : State} {d : Fin 2} {what : Fin 3} (e₀ : execPtpSyncInterval d what s = .next t₀) (h₀ : Keeps s0 s) : Keeps s0 t₀ := by
  unfold execPtpSyncInterval at e₀
  try dsimp only at e₀
  repeat' split at e₀
  all_goals first
    | (obtain rfl := Host.Outcome.next.inj e₀
       with_reducible repeat' first
         | assumption | intro _ | apply State.place_keeps | apply State.modPtp_keeps | apply Keeps.foldl
         | apply Keeps.ite | split | dsimp only | (refine Keeps.mk' ?_ rfl ?_ <;> [skip; (simp [State.lens]; done)]))
    | (cases e₀; done)

theorem specPtpSet_ok : specPtpSet.Ok := by
  refine ⟨fun c h => ?_, fun c bad h => ?_, fun c h => ?_, fun c h => ?_, fun c h => ?_⟩
  all_goals
    dsimp only [specPtpSet]
    with_reducible repeat' first
      | assumption | apply State.modPtp_keeps | apply State.reselect_keeps | apply State.leaveSlave_keeps | apply Keeps.ite
      | split | dsimp only

theorem specRefInputSet_ok : specRefInputSet.Ok := by
  refine ⟨fun c h => ?_, fun c bad h => ?_, fun c h => ?_, fun c h => ?_, fun c h => ?_⟩
  all_goals
    dsimp only [specRefInputSet]
    with_reducible repeat' first
      | assumption | apply State.modRef_keeps | apply State.modSel_keeps | apply State.setIntrinsic_keeps
      | apply State.reselect_keeps | apply Keeps.ite | split | dsimp only

theorem specRefPrioritySet_ok : specRefPrioritySet.Ok := by
  refine ⟨fun c h => ?_, fun c bad h => ?_, fun c h => ?_, fun c h => ?_, fun c h => ?_⟩
  all_goals
    dsimp only [specRefPrioritySet]
    with_reducible repeat' first
      | assumption | apply State.setReg_keeps | apply State.reselect_keeps | apply Keeps.ite | split | dsimp only

theorem specRefForce_ok : specRefForce.Ok := by
  refine ⟨fun c h => ?_, fun c bad h => ?_, fun c h => ?_, fun c h => ?_, fun c h => ?_⟩
  all_goals
    dsimp only [specRefForce]
    with_reducible repeat' first
      | assumption | apply State.modSel_keeps | apply State.selectRef_keeps | apply State.reselect_keeps | apply Keeps.ite
      | split | dsimp only

theorem specRefStatus_ok : specRefStatus.Ok := by
  refine ⟨fun c h => ?_, fun c bad h => ?_, fun c h => ?_, fun c h => ?_, fun c h => ?_⟩
  all_goals
    dsimp only [specRefStatus]
    assumption

/-! ### Machine/Integrity.lean -/

theorem State.stopUnit_keeps {s0 s : State} (h : Keeps s0 s) : Keeps s0 (State.stopUnit s) := by
  unfold State.stopUnit
  try dsimp only
  with_reducible repeat' first
    | assumption | apply Keeps.ite | split | dsimp only
    | (refine Keeps.mk' ?_ rfl ?_ <;> [skip; (simp only [State.lens]; done)])

theorem State.restart_keeps {s0 s : State} (h : Keeps s0 s) : Keeps s0 (State.restart s) := by
  unfold State.restart
  try dsimp only
  with_reducible repeat' first
    | assumption | apply Keeps.ite | split | dsimp only
    | (refine Keeps.mk' ?_ rfl ?_ <;> [skip; (simp only [State.lens]; done)])

theorem State.controlFault_keeps {s0 s : State} (h : Keeps s0 s) : Keeps s0 (State.controlFault s) := by
  unfold State.controlFault
  try dsimp only
  with_reducible repeat' first
    | assumption | apply State.stopUnit_keeps | apply State.restart_keeps | apply Keeps.ite | split | dsimp only

theorem execLockstep_keeps_eq {s0 s t₀ : State} {core : Fin 2} {pc : Nat} (e₀ : execLockstep core pc s = .next t₀) (h₀ : Keeps s0 s) : Keeps s0 t₀ := by
  unfold execLockstep at e₀
  try dsimp only at e₀
  repeat' split at e₀
  all_goals first
    | (obtain rfl := Host.Outcome.next.inj e₀
       with_reducible repeat' first
         | assumption | apply State.report_keeps | apply State.stopUnit_keeps | apply State.controlFault_keeps)
    | (cases e₀; done)

theorem State.stallRecord_keeps {s0 s : State} (h : Keeps s0 s) : Keeps s0 (State.stallRecord s) := by
  unfold State.stallRecord
  try dsimp only
  with_reducible repeat' first | assumption | apply State.report_keeps

theorem execGanenRestartTimeout_keeps_eq {s0 s t₀ : State}  (e₀ : execGanenRestartTimeout s = .next t₀) (h₀ : Keeps s0 s) : Keeps s0 t₀ := by
  unfold execGanenRestartTimeout at e₀
  try dsimp only at e₀
  repeat' split at e₀
  all_goals first
    | (obtain rfl := Host.Outcome.next.inj e₀
       with_reducible repeat' first | assumption | apply State.stopUnit_keeps | apply State.stallRecord_keeps)
    | (cases e₀; done)

theorem execThermalSample_keeps_eq {s0 s t₀ : State} {t : Int} (e₀ : execThermalSample t s = .next t₀) (h₀ : Keeps s0 s) : Keeps s0 t₀ := by
  unfold execThermalSample at e₀
  try dsimp only at e₀
  repeat' split at e₀
  all_goals first
    | (obtain rfl := Host.Outcome.next.inj e₀
       with_reducible repeat' first
         | assumption | apply State.raise_keeps | apply State.lower_keeps | apply State.putReg_keeps
         | apply State.report_keeps | apply Keeps.ite | split | dsimp only
         | (refine Keeps.mk' ?_ rfl ?_ <;> [skip; (simp only [State.lens]; done)]))
    | (cases e₀; done)

theorem State.poisonBlocks_keeps {s0 s : State} (h : Keeps s0 s) (chans : List Nat) : Keeps s0 (State.poisonBlocks s chans) := by
  unfold State.poisonBlocks
  try dsimp only
  with_reducible repeat' first
    | assumption | apply Keeps.ite | split | dsimp only
    | (refine Keeps.mk' ?_ rfl ?_ <;> [skip; (simp only [State.lens]; done)])

theorem State.queueLost_keeps {s0 s : State} (h : Keeps s0 s) (q : Crossing) (chans : List Nat) : Keeps s0 (State.queueLost s q chans) := by
  unfold State.queueLost
  try dsimp only
  with_reducible repeat' first
    | assumption | intro _ | apply State.poisonBlocks_keeps | apply Keeps.foldl | apply Keeps.ite | split
    | dsimp only | (refine Keeps.mk' ?_ rfl ?_ <;> [skip; (simp only [State.lens]; done)])
    | (refine Keeps.mk' ?_ rfl ?_ <;> [skip; (simp [State.lens]; done)])

theorem execCdcQueue_keeps_eq {s0 s t₀ : State} {q : Crossing} {inst : Nat} {dir : Bool} {chans : List Nat} (e₀ : execCdcQueue q inst dir chans s = .next t₀) (h₀ : Keeps s0 s) : Keeps s0 t₀ := by
  unfold execCdcQueue at e₀
  try dsimp only at e₀
  repeat' split at e₀
  all_goals first
    | (obtain rfl := Host.Outcome.next.inj e₀
       with_reducible repeat' first
         | assumption | intro _ | apply State.report_keeps | apply State.queueLost_keeps | apply Keeps.foldl
         | apply Keeps.ite | split | dsimp only | (refine Keeps.mk' ?_ rfl ?_ <;> [skip; (simp [State.lens]; done)]))
    | (cases e₀; done)

theorem execRepeatRecord_keeps_eq {s0 s t₀ : State} {cls unit inst : Nat} (e₀ : execRepeatRecord cls unit inst s = .next t₀) (h₀ : Keeps s0 s) : Keeps s0 t₀ := by
  unfold execRepeatRecord at e₀
  try dsimp only at e₀
  repeat' split at e₀
  all_goals first
    | (obtain rfl := Host.Outcome.next.inj e₀
       with_reducible repeat' first
         | assumption | apply State.raise_keeps | apply State.event_keeps | apply State.writeRecord_keeps | apply Keeps.ite
         | split | dsimp only | (refine Keeps.mk' ?_ rfl ?_ <;> [skip; (simp only [State.lens]; done)]))
    | (cases e₀; done)

theorem State.clearFault_keeps {s0 s : State} (h : Keeps s0 s) : Keeps s0 (State.clearFault s) := by
  unfold State.clearFault
  try dsimp only
  with_reducible repeat' first | assumption | apply State.lower_keeps | apply Keeps.ite | split | dsimp only

theorem execIntegFaultWrite_keeps_eq {s0 s t₀ : State} {v : Word} (e₀ : execIntegFaultWrite v s = .next t₀) (h₀ : Keeps s0 s) : Keeps s0 t₀ := by
  unfold execIntegFaultWrite at e₀
  try dsimp only at e₀
  repeat' split at e₀
  all_goals first
    | (obtain rfl := Host.Outcome.next.inj e₀
       assumption)
    | (cases e₀; done)
    | (refine guarded_keeps_eq e₀ ?_
       with_reducible repeat' first | assumption | apply State.clearFault_keeps)

theorem State.cntSnap_keeps {s0 s : State} (h : Keeps s0 s) (a : Nat) (v : Word) (byGanen : Bool) : Keeps s0 (State.cntSnap s a v byGanen) := by
  unfold State.cntSnap
  try dsimp only
  with_reducible repeat' first | assumption | apply State.snapCnts_keeps | apply Keeps.ite | split | dsimp only

theorem execCntSnap_keeps_eq {s0 s t₀ : State} {addr : Nat} {v : Word} (e₀ : execCntSnap addr v s = .next t₀) (h₀ : Keeps s0 s) : Keeps s0 t₀ := by
  unfold execCntSnap at e₀
  try dsimp only at e₀
  repeat' split at e₀
  all_goals first
    | (obtain rfl := Host.Outcome.next.inj e₀
       assumption)
    | (cases e₀; done)
    | (refine guarded_keeps_eq e₀ ?_
       with_reducible repeat' first | assumption | apply State.cntSnap_keeps)

theorem specDiagInclusionRead_ok : specDiagInclusionRead.Ok := by
  refine ⟨fun c h => ?_, fun c bad h => ?_, fun c h => ?_, fun c h => ?_, fun c h => ?_⟩
  all_goals
    dsimp only [specDiagInclusionRead]
    with_reducible repeat' first
      | assumption | apply State.setReg_keeps | apply readOk_keeps | apply State.clearFault_keeps | apply Keeps.ite | split
      | dsimp only

/-! ### Machine/Memory.lean -/

theorem State.memWrite_keeps {s0 s : State} (h : Keeps s0 s) (a : Nat) (bs : List Byte) : Keeps s0 (s.memWrite a bs) :=
  h.updMem rfl (fun x => cellsSet_wf x) rfl

theorem State.memClear_keeps {s0 s : State} (h : Keeps s0 s) (a b : Nat) : Keeps s0 (s.memClear a b) :=
  h.updMem rfl (fun x => cellsClear_wf x) rfl

theorem State.eccReport_keeps {s0 s : State} (h : Keeps s0 s) (r : Region) (inst a synd : Nat) (dev scrub : Bool) : Keeps s0 (State.eccReport s r inst a synd dev scrub) := by
  unfold State.eccReport
  try dsimp only
  with_reducible repeat' first
    | assumption | apply State.raise_keeps | apply State.count_keeps | apply State.report_keeps | apply Keeps.ite | split
    | dsimp only | (refine Keeps.mk' ?_ rfl ?_ <;> [skip; (simp only [State.lens]; done)])

theorem State.eccCorrected_keeps {s0 s : State} (h : Keeps s0 s) (r : Region) : Keeps s0 (State.eccCorrected s r) := by
  unfold State.eccCorrected
  try dsimp only
  with_reducible repeat' first
    | assumption | apply State.raise_keeps | apply State.count_keeps | apply Keeps.ite | split | dsimp only

theorem State.dramFail_keeps {s0 s : State} (h : Keeps s0 s) (cause : Nat) (training : Bool) : Keeps s0 (State.dramFail s cause training) := by
  unfold State.dramFail
  try dsimp only
  with_reducible repeat' first
    | assumption | apply State.raise_keeps | apply State.report_keeps | apply State.memClear_keeps | apply Keeps.ite | split
    | dsimp only | (refine Keeps.mk' ?_ rfl ?_ <;> [skip; (simp only [State.lens]; done)])

theorem execDramInitDone_keeps_eq {s0 s t₀ : State}  (e₀ : execDramInitDone s = .next t₀) (h₀ : Keeps s0 s) : Keeps s0 t₀ := by
  unfold execDramInitDone at e₀
  try dsimp only at e₀
  repeat' split at e₀
  all_goals first
    | (obtain rfl := Host.Outcome.next.inj e₀
       with_reducible repeat' first
         | assumption | apply Keeps.ite | split | dsimp only
         | (refine Keeps.mk' ?_ rfl ?_ <;> [skip; (simp only [State.lens]; done)]))
    | (cases e₀; done)

theorem execDramReadRetrain_keeps_eq {s0 s t₀ : State}  (e₀ : execDramReadRetrain s = .next t₀) (h₀ : Keeps s0 s) : Keeps s0 t₀ := by
  unfold execDramReadRetrain at e₀
  try dsimp only at e₀
  repeat' split at e₀
  all_goals first
    | (obtain rfl := Host.Outcome.next.inj e₀
       with_reducible repeat' first
         | assumption | apply State.fresh_keeps | apply Keeps.ite | split | dsimp only
         | (refine Keeps.mk' ?_ rfl ?_ <;> [skip; (simp only [State.lens]; done)]))
    | (cases e₀; done)

theorem execDramPowerDown_keeps_eq {s0 s t₀ : State} {ch : Fin 2} {rank : Fin 2} (e₀ : execDramPowerDown ch rank s = .next t₀) (h₀ : Keeps s0 s) : Keeps s0 t₀ := by
  unfold execDramPowerDown at e₀
  try dsimp only at e₀
  repeat' split at e₀
  all_goals first
    | (obtain rfl := Host.Outcome.next.inj e₀
       with_reducible repeat' first
         | assumption | apply Keeps.ite | split | dsimp only
         | (refine Keeps.mk' ?_ rfl ?_ <;> [skip; (simp only [State.lens]; done)]))
    | (cases e₀; done)

theorem State.fillBuckets_keeps {s0 s : State} (h : Keeps s0 s) : Keeps s0 (State.fillBuckets s) := by
  unfold State.fillBuckets
  try dsimp only
  with_reducible repeat' first
    | assumption | apply Keeps.ite | split | dsimp only | (refine Keeps.mk' ?_ rfl ?_ <;> [skip; (simp [State.lens]; done)])

theorem State.crystal_keeps {s0 s : State} (h : Keeps s0 s)  : Keeps s0 (State.crystal s) := by
  unfold State.crystal
  try dsimp only
  with_reducible repeat' first
    | assumption | intro _ | apply Keeps.foldl | apply Keeps.ite | split | dsimp only
    | (refine Keeps.mk' ?_ rfl ?_ <;> [skip; (simp only [State.lens]; done)])
    | (refine Keeps.mk' ?_ rfl ?_ <;> [skip; (simp [State.lens]; done)])

theorem State.takeTokens_keeps {s0 s : State} (h : Keeps s0 s) (p n : Nat) : Keeps s0 (State.takeTokens s p n) := by
  unfold State.takeTokens
  try dsimp only
  with_reducible repeat' first
    | assumption | apply State.count_keeps | apply Keeps.ite | split | dsimp only
    | (refine Keeps.mk' ?_ rfl ?_ <;> [skip; (simp [State.lens]; done)])

theorem execLogCopy_keeps_eq {s0 s t₀ : State}  (e₀ : execLogCopy s = .next t₀) (h₀ : Keeps s0 s) : Keeps s0 t₀ := by
  unfold execLogCopy at e₀
  try dsimp only at e₀
  repeat' split at e₀
  all_goals first
    | (obtain rfl := Host.Outcome.next.inj e₀
       with_reducible repeat' first
         | assumption | apply State.raise_keeps | apply State.memWrite_keeps | apply Keeps.ite | split | dsimp only
         | (refine Keeps.mk' ?_ rfl ?_ <;> [skip; (simp only [State.lens]; done)]))
    | (cases e₀; done)

end Sys2Proof.Machine
end

