-- ==== Sys2Proof/Laws/KeepsUnits.lean ====
section
/-! SUPPORT. What is kept (Laws/Keeps.lean) by the Facets, Loupe, the ports and the network. -/

set_option linter.unusedTactic false
set_option linter.unreachableTactic false
set_option linter.unusedVariables false

namespace Sys2Proof.Machine

/-! ### Machine/FacetCore.lean -/

theorem State.setCore_keeps {s0 s : State} (h : Keeps s0 s) (k : Nat) (c : FacetCore) : Keeps s0 (State.setCore s k c) := by
  unfold State.setCore
  try dsimp only
  with_reducible repeat' first
    | assumption | apply Keeps.ite | split | dsimp only
    | (refine Keeps.mk' ?_ rfl ?_ <;> [skip; (simp only [State.lens]; done)])

theorem State.setFst_keeps {s0 s : State} (h : Keeps s0 s) (k v : Nat) : Keeps s0 (State.setFst s k v) := by
  unfold State.setFst
  try dsimp only
  with_reducible repeat' first
    | assumption | apply Keeps.ite | split | dsimp only | (refine Keeps.mk' ?_ rfl ?_ <;> [skip; (simp [State.lens]; done)])

theorem State.modKernel_keeps {s0 s : State} (h : Keeps s0 s) (n : Nat) (f : Kernel → Kernel) : Keeps s0 (State.modKernel s n f) := by
  unfold State.modKernel
  try dsimp only
  with_reducible repeat' first
    | assumption | apply Keeps.ite | split | dsimp only
    | (refine Keeps.mk' ?_ rfl ?_ <;> [skip; (simp only [State.lens]; done)])

theorem State.quarantine_keeps {s0 s : State} (h : Keeps s0 s) (k : Nat) : Keeps s0 (State.quarantine s k) := by
  unfold State.quarantine
  try dsimp only
  with_reducible repeat' first
    | assumption | apply State.setFst_keeps | apply Keeps.ite | split | dsimp only
    | (refine Keeps.mk' ?_ rfl ?_ <;> [skip; (simp only [State.lens]; done)])

theorem State.suspendKernel_keeps {s0 s : State} (h : Keeps s0 s) (k cause : Nat) : Keeps s0 (State.suspendKernel s k cause) := by
  unfold State.suspendKernel
  try dsimp only
  with_reducible repeat' first
    | assumption | apply State.lower_keeps | apply State.event_keeps | apply State.modKernel_keeps | apply Keeps.ite | split
    | dsimp only

theorem State.facetFault_keeps {s0 s : State} (h : Keeps s0 s) (k cause flags addr : Nat) : Keeps s0 (State.facetFault s k cause flags addr) := by
  unfold State.facetFault
  try dsimp only
  with_reducible repeat' first
    | assumption | intro _ | apply State.raise_keeps | apply State.report_keeps | apply State.setCore_keeps
    | apply State.quarantine_keeps | apply State.suspendKernel_keeps | apply Keeps.foldl | apply Keeps.ite | split
    | dsimp only | (refine Keeps.mk' ?_ rfl ?_ <;> [skip; (simp only [State.lens]; done)])
    | (refine Keeps.mk' ?_ rfl ?_ <;> [skip; (simp [State.lens]; done)])

theorem State.facetStop_keeps {s0 s : State} (h : Keeps s0 s) (k cause : Nat) : Keeps s0 (State.facetStop s k cause) := by
  unfold State.facetStop
  try dsimp only
  with_reducible repeat' first
    | assumption | intro _ | apply State.facetFault_keeps | apply Keeps.foldl | apply Keeps.ite | split | dsimp only
    | (refine Keeps.mk' ?_ rfl ?_ <;> [skip; (simp only [State.lens]; done)])
    | (refine Keeps.mk' ?_ rfl ?_ <;> [skip; (simp [State.lens]; done)])

theorem storeCells_wf : ∀ {l : List (Option Byte)} {a : Nat} {m : List Host.Cell}, Memory.wf m = true → Memory.wf (storeCells m a l) = true
  | [], _, _, h => h
  | none :: _, _, _, h => by simp only [storeCells]; exact storeCells_wf h
  | some _ :: _, _, _, h => by simp only [storeCells]; exact storeCells_wf (cellSet_wf h)

theorem State.doStores_keeps {s0 s : State} (h : Keeps s0 s) (k : Nat) (l : List (Nat × List (Option Byte))) : Keeps s0 (s.doStores k l) := by
  refine h.updMem rfl (fun x => ?_) rfl
  unfold State.doStores
  dsimp only
  generalize s.mem.bytes = m at x
  induction l generalizing m with
  | nil => exact x
  | cons e t ih => exact ih _ (storeCells_wf x)

theorem State.endRun_keeps {s0 s : State} (h : Keeps s0 s) (k : Nat) (ovr : Bool) : Keeps s0 (State.endRun s k ovr) := by
  unfold State.endRun
  try dsimp only
  with_reducible repeat' first
    | assumption | apply State.setCore_keeps | apply Keeps.ite | split | dsimp only
    | (refine Keeps.mk' ?_ rfl ?_ <;> [skip; (simp only [State.lens]; done)])

theorem State.endBundle_keeps {s0 s : State} (h : Keeps s0 s) (k : Nat) : Keeps s0 (State.endBundle s k) := by
  unfold State.endBundle
  try dsimp only
  with_reducible repeat' first
    | assumption | apply State.setCore_keeps | apply State.doStores_keeps | apply State.endRun_keeps | apply Keeps.ite
    | split | dsimp only

theorem State.slotStep_keeps {s0 s : State} (h : Keeps s0 s) (i : Issue) (ok : Bool) (body : State → FacetCore → State × FacetCore × Nat) (hk : ∀ t c, Keeps s0 t → Keeps s0 (body t c).1) : Keeps s0 (State.slotStep s i ok body) := by
  unfold State.slotStep
  try dsimp only
  with_reducible repeat' first
    | assumption | apply hk | apply State.count_keeps | apply State.setCore_keeps | apply State.facetStop_keeps
    | apply State.endBundle_keeps | apply Keeps.ite | split | dsimp only

theorem State.regSlot_keeps {s0 s : State} (h : Keeps s0 s) (i : Issue) (ok : Bool) (body : FacetCore → FacetCore) : Keeps s0 (State.regSlot s i ok body) := by
  unfold State.regSlot
  try dsimp only
  with_reducible repeat' first | assumption | intro _ | apply State.slotStep_keeps

theorem State.scalar2_keeps {s0 s : State} (h : Keeps s0 s) (i : Issue) (sat' rnd : Bool) (lat : Nat) (f : Word → Word → Int) : Keeps s0 (State.scalar2 s i sat' rnd lat f) := by
  unfold State.scalar2
  try dsimp only
  with_reducible repeat' first | assumption | apply State.regSlot_keeps

theorem State.scalarCmp_keeps {s0 s : State} (h : Keeps s0 s) (i : Issue) (f : Word → Word → Bool) : Keeps s0 (State.scalarCmp s i f) := by
  unfold State.scalarCmp
  try dsimp only
  with_reducible repeat' first | assumption | apply State.regSlot_keeps

theorem State.predOp_keeps {s0 s : State} (h : Keeps s0 s) (i : Issue) (u : Uses) (f : FacetCore → Nat) : Keeps s0 (State.predOp s i u f) := by
  unfold State.predOp
  try dsimp only
  with_reducible repeat' first | assumption | apply State.regSlot_keeps

theorem State.vec2_keeps {s0 s : State} (h : Keeps s0 s) (i : Issue) (u : Uses) (lat : Nat) (f : FacetCore → Nat → Int) : Keeps s0 (State.vec2 s i u lat f) := by
  unfold State.vec2
  try dsimp only
  with_reducible repeat' first | assumption | apply State.regSlot_keeps

theorem State.vecCmp_keeps {s0 s : State} (h : Keeps s0 s) (i : Issue) (f : Int → Int → Bool) : Keeps s0 (State.vecCmp s i f) := by
  unfold State.vecCmp
  try dsimp only
  with_reducible repeat' first | assumption | apply State.regSlot_keeps

theorem State.mulSlot_keeps {s0 s : State} (h : Keeps s0 s) (i : Issue) (u : Uses) (wide : Bool) (body : FacetCore → FacetCore) : Keeps s0 (State.mulSlot s i u wide body) := by
  unfold State.mulSlot
  try dsimp only
  with_reducible repeat' first | assumption | intro _ | apply State.slotStep_keeps | apply Keeps.ite | split | dsimp only

theorem State.loadBytes_keeps {s0 s : State} (h : Keeps s0 s) (k : Nat) (c : FacetCore) (a n : Nat) :
    Keeps s0 (s.loadBytes k c a n).2 := by
  unfold State.loadBytes; dsimp only; split
  · exact h
  · exact State.fresh_keeps h
theorem State.loadBytes_keeps_eq {s0 s t : State} {k : Nat} {c : FacetCore} {a n : Nat} {bs : List Byte} (e : s.loadBytes k c a n = (bs, t))
    (h : Keeps s0 s) : Keeps s0 t := by
  have := State.loadBytes_keeps h k c a n; rw [e] at this; exact this

theorem State.loadSlot_keeps {s0 s : State} (h : Keeps s0 s) (i : Issue) (size regs : Nat) (f : FacetCore → List Byte → Land) : Keeps s0 (State.loadSlot s i size regs f) := by
  unfold State.loadSlot
  try dsimp only
  with_reducible repeat' first
    | assumption | intro _ | apply State.count_keeps | apply State.slotStep_keeps | apply State.loadBytes_keeps
    | apply Keeps.ite | split | dsimp only

theorem State.storeSlot_keeps {s0 s : State} (h : Keeps s0 s) (i : Issue) (size regs : Nat) (all : Bool) (f : FacetCore → List (Option Byte)) : Keeps s0 (State.storeSlot s i size regs all f) := by
  unfold State.storeSlot
  try dsimp only
  with_reducible repeat' first | assumption | intro _ | apply State.slotStep_keeps | apply Keeps.ite | split | dsimp only

theorem State.girdle_keeps {s0 s : State} (h : Keeps s0 s) (i : Issue) (put : Bool) : Keeps s0 (State.girdle s i put) := by
  unfold State.girdle
  try dsimp only
  with_reducible repeat' first | assumption | intro _ | apply State.slotStep_keeps | apply Keeps.ite | split | dsimp only

theorem State.putArrives_keeps {s0 s : State} (h : Keeps s0 s) (k : Nat) (x : Xfer) : Keeps s0 (State.putArrives k s x) := by
  unfold State.putArrives
  try dsimp only
  with_reducible repeat' first
    | assumption | intro _ | apply State.fresh_keeps | (refine State.fresh_keeps_eq (by assumption) ?_)
    | apply State.memWrite_keeps | apply State.setCore_keeps | apply Keeps.foldl | apply Keeps.ite | split
    | dsimp only | (refine Keeps.mk' ?_ rfl ?_ <;> [skip; (simp only [State.lens]; done)])
    | (refine Keeps.mk' ?_ rfl ?_ <;> [skip; (simp [State.lens]; done)])

theorem State.girdleDone_keeps {s0 s : State} (h : Keeps s0 s) (k tag : Nat) (error : Bool) (chk : WordCheck) : Keeps s0 (State.girdleDone s k tag error chk) := by
  unfold State.girdleDone
  try dsimp only
  with_reducible repeat' first
    | assumption | intro _ | apply State.count_keeps | apply State.memWrite_keeps | apply State.setCore_keeps
    | apply State.facetFault_keeps | apply State.putArrives_keeps | apply Keeps.foldl | apply Keeps.ite | split
    | dsimp only | (refine Keeps.mk' ?_ rfl ?_ <;> [skip; (simp only [State.lens]; done)])
    | (refine Keeps.mk' ?_ rfl ?_ <;> [skip; (simp [State.lens]; done)])

/-! ### Machine/FacetIsa.lean -/

theorem execNop_keeps_eq {s0 s t₀ : State} {i : Issue} (e₀ : execNop i s = .next t₀) (h₀ : Keeps s0 s) : Keeps s0 t₀ := by
  unfold execNop at e₀
  try dsimp only at e₀
  repeat' split at e₀
  all_goals first
    | (obtain rfl := Host.Outcome.next.inj e₀
       with_reducible repeat' first | assumption | apply State.regSlot_keeps)
    | (cases e₀; done)

theorem execAdd_keeps_eq {s0 s t₀ : State} {i : Issue} (e₀ : execAdd i s = .next t₀) (h₀ : Keeps s0 s) : Keeps s0 t₀ := by
  unfold execAdd at e₀
  try dsimp only at e₀
  repeat' split at e₀
  all_goals first
    | (obtain rfl := Host.Outcome.next.inj e₀
       with_reducible repeat' first | assumption | apply State.scalar2_keeps)
    | (cases e₀; done)

theorem execSub_keeps_eq {s0 s t₀ : State} {i : Issue} (e₀ : execSub i s = .next t₀) (h₀ : Keeps s0 s) : Keeps s0 t₀ := by
  unfold execSub at e₀
  try dsimp only at e₀
  repeat' split at e₀
  all_goals first
    | (obtain rfl := Host.Outcome.next.inj e₀
       with_reducible repeat' first | assumption | apply State.scalar2_keeps)
    | (cases e₀; done)

theorem execAddi_keeps_eq {s0 s t₀ : State} {i : Issue} (e₀ : execAddi i s = .next t₀) (h₀ : Keeps s0 s) : Keeps s0 t₀ := by
  unfold execAddi at e₀
  try dsimp only at e₀
  repeat' split at e₀
  all_goals first
    | (obtain rfl := Host.Outcome.next.inj e₀
       with_reducible repeat' first | assumption | apply State.regSlot_keeps)
    | (cases e₀; done)

theorem execMul_keeps_eq {s0 s t₀ : State} {i : Issue} (e₀ : execMul i s = .next t₀) (h₀ : Keeps s0 s) : Keeps s0 t₀ := by
  unfold execMul at e₀
  try dsimp only at e₀
  repeat' split at e₀
  all_goals first
    | (obtain rfl := Host.Outcome.next.inj e₀
       with_reducible repeat' first | assumption | apply State.scalar2_keeps)
    | (cases e₀; done)

theorem execMulh_keeps_eq {s0 s t₀ : State} {i : Issue} (e₀ : execMulh i s = .next t₀) (h₀ : Keeps s0 s) : Keeps s0 t₀ := by
  unfold execMulh at e₀
  try dsimp only at e₀
  repeat' split at e₀
  all_goals first
    | (obtain rfl := Host.Outcome.next.inj e₀
       with_reducible repeat' first | assumption | apply State.scalar2_keeps)
    | (cases e₀; done)

theorem execAnd_keeps_eq {s0 s t₀ : State} {i : Issue} (e₀ : execAnd i s = .next t₀) (h₀ : Keeps s0 s) : Keeps s0 t₀ := by
  unfold execAnd at e₀
  try dsimp only at e₀
  repeat' split at e₀
  all_goals first
    | (obtain rfl := Host.Outcome.next.inj e₀
       with_reducible repeat' first | assumption | apply State.scalar2_keeps)
    | (cases e₀; done)

theorem execOr_keeps_eq {s0 s t₀ : State} {i : Issue} (e₀ : execOr i s = .next t₀) (h₀ : Keeps s0 s) : Keeps s0 t₀ := by
  unfold execOr at e₀
  try dsimp only at e₀
  repeat' split at e₀
  all_goals first
    | (obtain rfl := Host.Outcome.next.inj e₀
       with_reducible repeat' first | assumption | apply State.scalar2_keeps)
    | (cases e₀; done)

theorem execXor_keeps_eq {s0 s t₀ : State} {i : Issue} (e₀ : execXor i s = .next t₀) (h₀ : Keeps s0 s) : Keeps s0 t₀ := by
  unfold execXor at e₀
  try dsimp only at e₀
  repeat' split at e₀
  all_goals first
    | (obtain rfl := Host.Outcome.next.inj e₀
       with_reducible repeat' first | assumption | apply State.scalar2_keeps)
    | (cases e₀; done)

theorem execShl_keeps_eq {s0 s t₀ : State} {i : Issue} (e₀ : execShl i s = .next t₀) (h₀ : Keeps s0 s) : Keeps s0 t₀ := by
  unfold execShl at e₀
  try dsimp only at e₀
  repeat' split at e₀
  all_goals first
    | (obtain rfl := Host.Outcome.next.inj e₀
       with_reducible repeat' first | assumption | apply State.scalar2_keeps)
    | (cases e₀; done)

theorem execShr_keeps_eq {s0 s t₀ : State} {i : Issue} (e₀ : execShr i s = .next t₀) (h₀ : Keeps s0 s) : Keeps s0 t₀ := by
  unfold execShr at e₀
  try dsimp only at e₀
  repeat' split at e₀
  all_goals first
    | (obtain rfl := Host.Outcome.next.inj e₀
       with_reducible repeat' first | assumption | apply State.scalar2_keeps)
    | (cases e₀; done)

theorem execSra_keeps_eq {s0 s t₀ : State} {i : Issue} (e₀ : execSra i s = .next t₀) (h₀ : Keeps s0 s) : Keeps s0 t₀ := by
  unfold execSra at e₀
  try dsimp only at e₀
  repeat' split at e₀
  all_goals first
    | (obtain rfl := Host.Outcome.next.inj e₀
       with_reducible repeat' first | assumption | apply State.scalar2_keeps)
    | (cases e₀; done)

theorem execMin_keeps_eq {s0 s t₀ : State} {i : Issue} (e₀ : execMin i s = .next t₀) (h₀ : Keeps s0 s) : Keeps s0 t₀ := by
  unfold execMin at e₀
  try dsimp only at e₀
  repeat' split at e₀
  all_goals first
    | (obtain rfl := Host.Outcome.next.inj e₀
       with_reducible repeat' first | assumption | apply State.scalar2_keeps)
    | (cases e₀; done)

theorem execMax_keeps_eq {s0 s t₀ : State} {i : Issue} (e₀ : execMax i s = .next t₀) (h₀ : Keeps s0 s) : Keeps s0 t₀ := by
  unfold execMax at e₀
  try dsimp only at e₀
  repeat' split at e₀
  all_goals first
    | (obtain rfl := Host.Outcome.next.inj e₀
       with_reducible repeat' first | assumption | apply State.scalar2_keeps)
    | (cases e₀; done)

theorem execCmpeq_keeps_eq {s0 s t₀ : State} {i : Issue} (e₀ : execCmpeq i s = .next t₀) (h₀ : Keeps s0 s) : Keeps s0 t₀ := by
  unfold execCmpeq at e₀
  try dsimp only at e₀
  repeat' split at e₀
  all_goals first
    | (obtain rfl := Host.Outcome.next.inj e₀
       with_reducible repeat' first | assumption | apply State.scalarCmp_keeps)
    | (cases e₀; done)

theorem execCmplt_keeps_eq {s0 s t₀ : State} {i : Issue} (e₀ : execCmplt i s = .next t₀) (h₀ : Keeps s0 s) : Keeps s0 t₀ := by
  unfold execCmplt at e₀
  try dsimp only at e₀
  repeat' split at e₀
  all_goals first
    | (obtain rfl := Host.Outcome.next.inj e₀
       with_reducible repeat' first | assumption | apply State.scalarCmp_keeps)
    | (cases e₀; done)

theorem execCmpltu_keeps_eq {s0 s t₀ : State} {i : Issue} (e₀ : execCmpltu i s = .next t₀) (h₀ : Keeps s0 s) : Keeps s0 t₀ := by
  unfold execCmpltu at e₀
  try dsimp only at e₀
  repeat' split at e₀
  all_goals first
    | (obtain rfl := Host.Outcome.next.inj e₀
       with_reducible repeat' first | assumption | apply State.scalarCmp_keeps)
    | (cases e₀; done)

theorem execPand_keeps_eq {s0 s t₀ : State} {i : Issue} (e₀ : execPand i s = .next t₀) (h₀ : Keeps s0 s) : Keeps s0 t₀ := by
  unfold execPand at e₀
  try dsimp only at e₀
  repeat' split at e₀
  all_goals first
    | (obtain rfl := Host.Outcome.next.inj e₀
       with_reducible repeat' first | assumption | apply State.predOp_keeps)
    | (cases e₀; done)

theorem execPor_keeps_eq {s0 s t₀ : State} {i : Issue} (e₀ : execPor i s = .next t₀) (h₀ : Keeps s0 s) : Keeps s0 t₀ := by
  unfold execPor at e₀
  try dsimp only at e₀
  repeat' split at e₀
  all_goals first
    | (obtain rfl := Host.Outcome.next.inj e₀
       with_reducible repeat' first | assumption | apply State.predOp_keeps)
    | (cases e₀; done)

theorem execPnot_keeps_eq {s0 s t₀ : State} {i : Issue} (e₀ : execPnot i s = .next t₀) (h₀ : Keeps s0 s) : Keeps s0 t₀ := by
  unfold execPnot at e₀
  try dsimp only at e₀
  repeat' split at e₀
  all_goals first
    | (obtain rfl := Host.Outcome.next.inj e₀
       with_reducible repeat' first | assumption | apply State.predOp_keeps)
    | (cases e₀; done)

theorem execPmov_keeps_eq {s0 s t₀ : State} {i : Issue} (e₀ : execPmov i s = .next t₀) (h₀ : Keeps s0 s) : Keeps s0 t₀ := by
  unfold execPmov at e₀
  try dsimp only at e₀
  repeat' split at e₀
  all_goals first
    | (obtain rfl := Host.Outcome.next.inj e₀
       with_reducible repeat' first | assumption | apply State.predOp_keeps)
    | (cases e₀; done)

theorem State.longS_keeps {s0 s : State} (h : Keeps s0 s) (i : Issue) (f : FacetCore → Word) : Keeps s0 (State.longS s i f) := by
  unfold State.longS
  try dsimp only
  with_reducible repeat' first | assumption | apply State.regSlot_keeps

theorem execMovi_keeps_eq {s0 s t₀ : State} {i : Issue} (e₀ : execMovi i s = .next t₀) (h₀ : Keeps s0 s) : Keeps s0 t₀ := by
  unfold execMovi at e₀
  try dsimp only at e₀
  repeat' split at e₀
  all_goals first
    | (obtain rfl := Host.Outcome.next.inj e₀
       with_reducible repeat' first | assumption | apply State.longS_keeps)
    | (cases e₀; done)

theorem execMovhi_keeps_eq {s0 s t₀ : State} {i : Issue} (e₀ : execMovhi i s = .next t₀) (h₀ : Keeps s0 s) : Keeps s0 t₀ := by
  unfold execMovhi at e₀
  try dsimp only at e₀
  repeat' split at e₀
  all_goals first
    | (obtain rfl := Host.Outcome.next.inj e₀
       with_reducible repeat' first | assumption | apply State.longS_keeps)
    | (cases e₀; done)

theorem execMfs_keeps_eq {s0 s t₀ : State} {i : Issue} (e₀ : execMfs i s = .next t₀) (h₀ : Keeps s0 s) : Keeps s0 t₀ := by
  unfold execMfs at e₀
  try dsimp only at e₀
  repeat' split at e₀
  all_goals first
    | (obtain rfl := Host.Outcome.next.inj e₀
       with_reducible repeat' first | assumption | intro _ | apply State.slotStep_keeps)
    | (cases e₀; done)

theorem execMts_keeps_eq {s0 s t₀ : State} {i : Issue} (e₀ : execMts i s = .next t₀) (h₀ : Keeps s0 s) : Keeps s0 t₀ := by
  unfold execMts at e₀
  try dsimp only at e₀
  repeat' split at e₀
  all_goals first
    | (obtain rfl := Host.Outcome.next.inj e₀
       with_reducible repeat' first | assumption | apply State.regSlot_keeps)
    | (cases e₀; done)

theorem execJmp_keeps_eq {s0 s t₀ : State} {i : Issue} (e₀ : execJmp i s = .next t₀) (h₀ : Keeps s0 s) : Keeps s0 t₀ := by
  unfold execJmp at e₀
  try dsimp only at e₀
  repeat' split at e₀
  all_goals first
    | (obtain rfl := Host.Outcome.next.inj e₀
       with_reducible repeat' first | assumption | apply State.regSlot_keeps)
    | (cases e₀; done)

theorem execBnz_keeps_eq {s0 s t₀ : State} {i : Issue} (e₀ : execBnz i s = .next t₀) (h₀ : Keeps s0 s) : Keeps s0 t₀ := by
  unfold execBnz at e₀
  try dsimp only at e₀
  repeat' split at e₀
  all_goals first
    | (obtain rfl := Host.Outcome.next.inj e₀
       with_reducible repeat' first | assumption | apply State.regSlot_keeps)
    | (cases e₀; done)

theorem execDbnz_keeps_eq {s0 s t₀ : State} {i : Issue} (e₀ : execDbnz i s = .next t₀) (h₀ : Keeps s0 s) : Keeps s0 t₀ := by
  unfold execDbnz at e₀
  try dsimp only at e₀
  repeat' split at e₀
  all_goals first
    | (obtain rfl := Host.Outcome.next.inj e₀
       with_reducible repeat' first | assumption | apply State.regSlot_keeps)
    | (cases e₀; done)

theorem execCall_keeps_eq {s0 s t₀ : State} {i : Issue} (e₀ : execCall i s = .next t₀) (h₀ : Keeps s0 s) : Keeps s0 t₀ := by
  unfold execCall at e₀
  try dsimp only at e₀
  repeat' split at e₀
  all_goals first
    | (obtain rfl := Host.Outcome.next.inj e₀
       with_reducible repeat' first | assumption | apply State.regSlot_keeps)
    | (cases e₀; done)

theorem execRet_keeps_eq {s0 s t₀ : State} {i : Issue} (e₀ : execRet i s = .next t₀) (h₀ : Keeps s0 s) : Keeps s0 t₀ := by
  unfold execRet at e₀
  try dsimp only at e₀
  repeat' split at e₀
  all_goals first
    | (obtain rfl := Host.Outcome.next.inj e₀
       with_reducible repeat' first | assumption | apply State.regSlot_keeps)
    | (cases e₀; done)

theorem execLoop_keeps_eq {s0 s t₀ : State} {i : Issue} (e₀ : execLoop i s = .next t₀) (h₀ : Keeps s0 s) : Keeps s0 t₀ := by
  unfold execLoop at e₀
  try dsimp only at e₀
  repeat' split at e₀
  all_goals first
    | (obtain rfl := Host.Outcome.next.inj e₀
       with_reducible repeat' first
         | assumption | intro _ | apply State.slotStep_keeps | apply Keeps.ite | split | dsimp only)
    | (cases e₀; done)

theorem execEndRun_keeps_eq {s0 s t₀ : State} {i : Issue} (e₀ : execEndRun i s = .next t₀) (h₀ : Keeps s0 s) : Keeps s0 t₀ := by
  unfold execEndRun at e₀
  try dsimp only at e₀
  repeat' split at e₀
  all_goals first
    | (obtain rfl := Host.Outcome.next.inj e₀
       with_reducible repeat' first | assumption | apply State.regSlot_keeps)
    | (cases e₀; done)

theorem execGet_keeps_eq {s0 s t₀ : State} {i : Issue} (e₀ : execGet i s = .next t₀) (h₀ : Keeps s0 s) : Keeps s0 t₀ := by
  unfold execGet at e₀
  try dsimp only at e₀
  repeat' split at e₀
  all_goals first
    | (obtain rfl := Host.Outcome.next.inj e₀
       with_reducible repeat' first | assumption | apply State.girdle_keeps)
    | (cases e₀; done)

theorem execPut_keeps_eq {s0 s t₀ : State} {i : Issue} (e₀ : execPut i s = .next t₀) (h₀ : Keeps s0 s) : Keeps s0 t₀ := by
  unfold execPut at e₀
  try dsimp only at e₀
  repeat' split at e₀
  all_goals first
    | (obtain rfl := Host.Outcome.next.inj e₀
       with_reducible repeat' first | assumption | apply State.girdle_keeps)
    | (cases e₀; done)

theorem execGwait_keeps_eq {s0 s t₀ : State} {i : Issue} (e₀ : execGwait i s = .next t₀) (h₀ : Keeps s0 s) : Keeps s0 t₀ := by
  unfold execGwait at e₀
  try dsimp only at e₀
  repeat' split at e₀
  all_goals first
    | (obtain rfl := Host.Outcome.next.inj e₀
       with_reducible repeat' first | assumption | apply State.regSlot_keeps)
    | (cases e₀; done)

theorem execVadd_keeps_eq {s0 s t₀ : State} {i : Issue} (e₀ : execVadd i s = .next t₀) (h₀ : Keeps s0 s) : Keeps s0 t₀ := by
  unfold execVadd at e₀
  try dsimp only at e₀
  repeat' split at e₀
  all_goals first
    | (obtain rfl := Host.Outcome.next.inj e₀
       with_reducible repeat' first | assumption | apply State.vec2_keeps)
    | (cases e₀; done)

theorem execVsub_keeps_eq {s0 s t₀ : State} {i : Issue} (e₀ : execVsub i s = .next t₀) (h₀ : Keeps s0 s) : Keeps s0 t₀ := by
  unfold execVsub at e₀
  try dsimp only at e₀
  repeat' split at e₀
  all_goals first
    | (obtain rfl := Host.Outcome.next.inj e₀
       with_reducible repeat' first | assumption | apply State.vec2_keeps)
    | (cases e₀; done)

theorem execVneg_keeps_eq {s0 s t₀ : State} {i : Issue} (e₀ : execVneg i s = .next t₀) (h₀ : Keeps s0 s) : Keeps s0 t₀ := by
  unfold execVneg at e₀
  try dsimp only at e₀
  repeat' split at e₀
  all_goals first
    | (obtain rfl := Host.Outcome.next.inj e₀
       with_reducible repeat' first | assumption | apply State.vec2_keeps)
    | (cases e₀; done)

theorem execVabs_keeps_eq {s0 s t₀ : State} {i : Issue} (e₀ : execVabs i s = .next t₀) (h₀ : Keeps s0 s) : Keeps s0 t₀ := by
  unfold execVabs at e₀
  try dsimp only at e₀
  repeat' split at e₀
  all_goals first
    | (obtain rfl := Host.Outcome.next.inj e₀
       with_reducible repeat' first | assumption | apply State.vec2_keeps)
    | (cases e₀; done)

theorem execVmin_keeps_eq {s0 s t₀ : State} {i : Issue} (e₀ : execVmin i s = .next t₀) (h₀ : Keeps s0 s) : Keeps s0 t₀ := by
  unfold execVmin at e₀
  try dsimp only at e₀
  repeat' split at e₀
  all_goals first
    | (obtain rfl := Host.Outcome.next.inj e₀
       with_reducible repeat' first | assumption | apply State.vec2_keeps)
    | (cases e₀; done)

theorem execVmax_keeps_eq {s0 s t₀ : State} {i : Issue} (e₀ : execVmax i s = .next t₀) (h₀ : Keeps s0 s) : Keeps s0 t₀ := by
  unfold execVmax at e₀
  try dsimp only at e₀
  repeat' split at e₀
  all_goals first
    | (obtain rfl := Host.Outcome.next.inj e₀
       with_reducible repeat' first | assumption | apply State.vec2_keeps)
    | (cases e₀; done)

theorem execVand_keeps_eq {s0 s t₀ : State} {i : Issue} (e₀ : execVand i s = .next t₀) (h₀ : Keeps s0 s) : Keeps s0 t₀ := by
  unfold execVand at e₀
  try dsimp only at e₀
  repeat' split at e₀
  all_goals first
    | (obtain rfl := Host.Outcome.next.inj e₀
       with_reducible repeat' first | assumption | apply State.vec2_keeps)
    | (cases e₀; done)

theorem execVor_keeps_eq {s0 s t₀ : State} {i : Issue} (e₀ : execVor i s = .next t₀) (h₀ : Keeps s0 s) : Keeps s0 t₀ := by
  unfold execVor at e₀
  try dsimp only at e₀
  repeat' split at e₀
  all_goals first
    | (obtain rfl := Host.Outcome.next.inj e₀
       with_reducible repeat' first | assumption | apply State.vec2_keeps)
    | (cases e₀; done)

theorem execVxor_keeps_eq {s0 s t₀ : State} {i : Issue} (e₀ : execVxor i s = .next t₀) (h₀ : Keeps s0 s) : Keeps s0 t₀ := by
  unfold execVxor at e₀
  try dsimp only at e₀
  repeat' split at e₀
  all_goals first
    | (obtain rfl := Host.Outcome.next.inj e₀
       with_reducible repeat' first | assumption | apply State.vec2_keeps)
    | (cases e₀; done)

theorem execVshl_keeps_eq {s0 s t₀ : State} {i : Issue} (e₀ : execVshl i s = .next t₀) (h₀ : Keeps s0 s) : Keeps s0 t₀ := by
  unfold execVshl at e₀
  try dsimp only at e₀
  repeat' split at e₀
  all_goals first
    | (obtain rfl := Host.Outcome.next.inj e₀
       with_reducible repeat' first | assumption | apply State.vec2_keeps)
    | (cases e₀; done)

theorem execVsra_keeps_eq {s0 s t₀ : State} {i : Issue} (e₀ : execVsra i s = .next t₀) (h₀ : Keeps s0 s) : Keeps s0 t₀ := by
  unfold execVsra at e₀
  try dsimp only at e₀
  repeat' split at e₀
  all_goals first
    | (obtain rfl := Host.Outcome.next.inj e₀
       with_reducible repeat' first | assumption | apply State.vec2_keeps)
    | (cases e₀; done)

theorem execVmpy_keeps_eq {s0 s t₀ : State} {i : Issue} (e₀ : execVmpy i s = .next t₀) (h₀ : Keeps s0 s) : Keeps s0 t₀ := by
  unfold execVmpy at e₀
  try dsimp only at e₀
  repeat' split at e₀
  all_goals first
    | (obtain rfl := Host.Outcome.next.inj e₀
       with_reducible repeat' first | assumption | apply State.mulSlot_keeps)
    | (cases e₀; done)

theorem execVmac_keeps_eq {s0 s t₀ : State} {i : Issue} (e₀ : execVmac i s = .next t₀) (h₀ : Keeps s0 s) : Keeps s0 t₀ := by
  unfold execVmac at e₀
  try dsimp only at e₀
  repeat' split at e₀
  all_goals first
    | (obtain rfl := Host.Outcome.next.inj e₀
       with_reducible repeat' first | assumption | apply State.mulSlot_keeps)
    | (cases e₀; done)

theorem execVmsc_keeps_eq {s0 s t₀ : State} {i : Issue} (e₀ : execVmsc i s = .next t₀) (h₀ : Keeps s0 s) : Keeps s0 t₀ := by
  unfold execVmsc at e₀
  try dsimp only at e₀
  repeat' split at e₀
  all_goals first
    | (obtain rfl := Host.Outcome.next.inj e₀
       with_reducible repeat' first | assumption | apply State.mulSlot_keeps)
    | (cases e₀; done)

theorem execVmacs_keeps_eq {s0 s t₀ : State} {i : Issue} (e₀ : execVmacs i s = .next t₀) (h₀ : Keeps s0 s) : Keeps s0 t₀ := by
  unfold execVmacs at e₀
  try dsimp only at e₀
  repeat' split at e₀
  all_goals first
    | (obtain rfl := Host.Outcome.next.inj e₀
       with_reducible repeat' first | assumption | apply State.mulSlot_keeps)
    | (cases e₀; done)

theorem execAclr_keeps_eq {s0 s t₀ : State} {i : Issue} (e₀ : execAclr i s = .next t₀) (h₀ : Keeps s0 s) : Keeps s0 t₀ := by
  unfold execAclr at e₀
  try dsimp only at e₀
  repeat' split at e₀
  all_goals first
    | (obtain rfl := Host.Outcome.next.inj e₀
       with_reducible repeat' first | assumption | apply State.regSlot_keeps)
    | (cases e₀; done)

theorem execAext_keeps_eq {s0 s t₀ : State} {i : Issue} (e₀ : execAext i s = .next t₀) (h₀ : Keeps s0 s) : Keeps s0 t₀ := by
  unfold execAext at e₀
  try dsimp only at e₀
  repeat' split at e₀
  all_goals first
    | (obtain rfl := Host.Outcome.next.inj e₀
       with_reducible repeat' first | assumption | apply State.regSlot_keeps)
    | (cases e₀; done)

theorem execAins_keeps_eq {s0 s t₀ : State} {i : Issue} (e₀ : execAins i s = .next t₀) (h₀ : Keeps s0 s) : Keeps s0 t₀ := by
  unfold execAins at e₀
  try dsimp only at e₀
  repeat' split at e₀
  all_goals first
    | (obtain rfl := Host.Outcome.next.inj e₀
       with_reducible repeat' first | assumption | apply State.regSlot_keeps)
    | (cases e₀; done)

theorem execAshr_keeps_eq {s0 s t₀ : State} {i : Issue} (e₀ : execAshr i s = .next t₀) (h₀ : Keeps s0 s) : Keeps s0 t₀ := by
  unfold execAshr at e₀
  try dsimp only at e₀
  repeat' split at e₀
  all_goals first
    | (obtain rfl := Host.Outcome.next.inj e₀
       with_reducible repeat' first | assumption | apply State.regSlot_keeps)
    | (cases e₀; done)

theorem execVcmpy_keeps_eq {s0 s t₀ : State} {i : Issue} (e₀ : execVcmpy i s = .next t₀) (h₀ : Keeps s0 s) : Keeps s0 t₀ := by
  unfold execVcmpy at e₀
  try dsimp only at e₀
  repeat' split at e₀
  all_goals first
    | (obtain rfl := Host.Outcome.next.inj e₀
       with_reducible repeat' first | assumption | apply State.mulSlot_keeps)
    | (cases e₀; done)

theorem execVcmac_keeps_eq {s0 s t₀ : State} {i : Issue} (e₀ : execVcmac i s = .next t₀) (h₀ : Keeps s0 s) : Keeps s0 t₀ := by
  unfold execVcmac at e₀
  try dsimp only at e₀
  repeat' split at e₀
  all_goals first
    | (obtain rfl := Host.Outcome.next.inj e₀
       with_reducible repeat' first | assumption | apply State.mulSlot_keeps)
    | (cases e₀; done)

theorem execVcmacj_keeps_eq {s0 s t₀ : State} {i : Issue} (e₀ : execVcmacj i s = .next t₀) (h₀ : Keeps s0 s) : Keeps s0 t₀ := by
  unfold execVcmacj at e₀
  try dsimp only at e₀
  repeat' split at e₀
  all_goals first
    | (obtain rfl := Host.Outcome.next.inj e₀
       with_reducible repeat' first | assumption | apply State.mulSlot_keeps)
    | (cases e₀; done)

theorem execVbfly_keeps_eq {s0 s t₀ : State} {i : Issue} (e₀ : execVbfly i s = .next t₀) (h₀ : Keeps s0 s) : Keeps s0 t₀ := by
  unfold execVbfly at e₀
  try dsimp only at e₀
  repeat' split at e₀
  all_goals first
    | (obtain rfl := Host.Outcome.next.inj e₀
       with_reducible repeat' first | assumption | intro _ | apply State.slotStep_keeps)
    | (cases e₀; done)

theorem execVsplat_keeps_eq {s0 s t₀ : State} {i : Issue} (e₀ : execVsplat i s = .next t₀) (h₀ : Keeps s0 s) : Keeps s0 t₀ := by
  unfold execVsplat at e₀
  try dsimp only at e₀
  repeat' split at e₀
  all_goals first
    | (obtain rfl := Host.Outcome.next.inj e₀
       with_reducible repeat' first | assumption | apply State.vec2_keeps)
    | (cases e₀; done)

theorem execVperm_keeps_eq {s0 s t₀ : State} {i : Issue} (e₀ : execVperm i s = .next t₀) (h₀ : Keeps s0 s) : Keeps s0 t₀ := by
  unfold execVperm at e₀
  try dsimp only at e₀
  repeat' split at e₀
  all_goals first
    | (obtain rfl := Host.Outcome.next.inj e₀
       with_reducible repeat' first | assumption | apply State.vec2_keeps)
    | (cases e₀; done)

theorem execVsel_keeps_eq {s0 s t₀ : State} {i : Issue} (e₀ : execVsel i s = .next t₀) (h₀ : Keeps s0 s) : Keeps s0 t₀ := by
  unfold execVsel at e₀
  try dsimp only at e₀
  repeat' split at e₀
  all_goals first
    | (obtain rfl := Host.Outcome.next.inj e₀
       with_reducible repeat' first | assumption | apply State.vec2_keeps)
    | (cases e₀; done)

theorem execVextr_keeps_eq {s0 s t₀ : State} {i : Issue} (e₀ : execVextr i s = .next t₀) (h₀ : Keeps s0 s) : Keeps s0 t₀ := by
  unfold execVextr at e₀
  try dsimp only at e₀
  repeat' split at e₀
  all_goals first
    | (obtain rfl := Host.Outcome.next.inj e₀
       with_reducible repeat' first | assumption | apply State.regSlot_keeps)
    | (cases e₀; done)

theorem execVcmpeq_keeps_eq {s0 s t₀ : State} {i : Issue} (e₀ : execVcmpeq i s = .next t₀) (h₀ : Keeps s0 s) : Keeps s0 t₀ := by
  unfold execVcmpeq at e₀
  try dsimp only at e₀
  repeat' split at e₀
  all_goals first
    | (obtain rfl := Host.Outcome.next.inj e₀
       with_reducible repeat' first | assumption | apply State.vecCmp_keeps)
    | (cases e₀; done)

theorem execVcmplt_keeps_eq {s0 s t₀ : State} {i : Issue} (e₀ : execVcmplt i s = .next t₀) (h₀ : Keeps s0 s) : Keeps s0 t₀ := by
  unfold execVcmplt at e₀
  try dsimp only at e₀
  repeat' split at e₀
  all_goals first
    | (obtain rfl := Host.Outcome.next.inj e₀
       with_reducible repeat' first | assumption | apply State.vecCmp_keeps)
    | (cases e₀; done)

theorem execVcmple_keeps_eq {s0 s t₀ : State} {i : Issue} (e₀ : execVcmple i s = .next t₀) (h₀ : Keeps s0 s) : Keeps s0 t₀ := by
  unfold execVcmple at e₀
  try dsimp only at e₀
  repeat' split at e₀
  all_goals first
    | (obtain rfl := Host.Outcome.next.inj e₀
       with_reducible repeat' first | assumption | apply State.vecCmp_keeps)
    | (cases e₀; done)

theorem execVnorm_keeps_eq {s0 s t₀ : State} {i : Issue} (e₀ : execVnorm i s = .next t₀) (h₀ : Keeps s0 s) : Keeps s0 t₀ := by
  unfold execVnorm at e₀
  try dsimp only at e₀
  repeat' split at e₀
  all_goals first
    | (obtain rfl := Host.Outcome.next.inj e₀
       with_reducible repeat' first | assumption | apply State.regSlot_keeps)
    | (cases e₀; done)

theorem execVcrc_keeps_eq {s0 s t₀ : State} {i : Issue} (e₀ : execVcrc i s = .next t₀) (h₀ : Keeps s0 s) : Keeps s0 t₀ := by
  unfold execVcrc at e₀
  try dsimp only at e₀
  repeat' split at e₀
  all_goals first
    | (obtain rfl := Host.Outcome.next.inj e₀
       with_reducible repeat' first | assumption | apply State.regSlot_keeps)
    | (cases e₀; done)

theorem execVmov_keeps_eq {s0 s t₀ : State} {i : Issue} (e₀ : execVmov i s = .next t₀) (h₀ : Keeps s0 s) : Keeps s0 t₀ := by
  unfold execVmov at e₀
  try dsimp only at e₀
  repeat' split at e₀
  all_goals first
    | (obtain rfl := Host.Outcome.next.inj e₀
       with_reducible repeat' first | assumption | apply State.vec2_keeps)
    | (cases e₀; done)

theorem execLdW_keeps_eq {s0 s t₀ : State} {i : Issue} (e₀ : execLdW i s = .next t₀) (h₀ : Keeps s0 s) : Keeps s0 t₀ := by
  unfold execLdW at e₀
  try dsimp only at e₀
  repeat' split at e₀
  all_goals first
    | (obtain rfl := Host.Outcome.next.inj e₀
       with_reducible repeat' first | assumption | apply State.loadSlot_keeps)
    | (cases e₀; done)

theorem execStW_keeps_eq {s0 s t₀ : State} {i : Issue} (e₀ : execStW i s = .next t₀) (h₀ : Keeps s0 s) : Keeps s0 t₀ := by
  unfold execStW at e₀
  try dsimp only at e₀
  repeat' split at e₀
  all_goals first
    | (obtain rfl := Host.Outcome.next.inj e₀
       with_reducible repeat' first | assumption | apply State.storeSlot_keeps)
    | (cases e₀; done)

theorem execLdV_keeps_eq {s0 s t₀ : State} {i : Issue} (e₀ : execLdV i s = .next t₀) (h₀ : Keeps s0 s) : Keeps s0 t₀ := by
  unfold execLdV at e₀
  try dsimp only at e₀
  repeat' split at e₀
  all_goals first
    | (obtain rfl := Host.Outcome.next.inj e₀
       with_reducible repeat' first | assumption | apply State.loadSlot_keeps)
    | (cases e₀; done)

theorem execStV_keeps_eq {s0 s t₀ : State} {i : Issue} (e₀ : execStV i s = .next t₀) (h₀ : Keeps s0 s) : Keeps s0 t₀ := by
  unfold execStV at e₀
  try dsimp only at e₀
  repeat' split at e₀
  all_goals first
    | (obtain rfl := Host.Outcome.next.inj e₀
       with_reducible repeat' first | assumption | apply State.storeSlot_keeps)
    | (cases e₀; done)

theorem execLdB_keeps_eq {s0 s t₀ : State} {i : Issue} (e₀ : execLdB i s = .next t₀) (h₀ : Keeps s0 s) : Keeps s0 t₀ := by
  unfold execLdB at e₀
  try dsimp only at e₀
  repeat' split at e₀
  all_goals first
    | (obtain rfl := Host.Outcome.next.inj e₀
       with_reducible repeat' first | assumption | apply State.loadSlot_keeps)
    | (cases e₀; done)

theorem execLdP_keeps_eq {s0 s t₀ : State} {i : Issue} (e₀ : execLdP i s = .next t₀) (h₀ : Keeps s0 s) : Keeps s0 t₀ := by
  unfold execLdP at e₀
  try dsimp only at e₀
  repeat' split at e₀
  all_goals first
    | (obtain rfl := Host.Outcome.next.inj e₀
       with_reducible repeat' first | assumption | apply State.loadSlot_keeps)
    | (cases e₀; done)

theorem execStP_keeps_eq {s0 s t₀ : State} {i : Issue} (e₀ : execStP i s = .next t₀) (h₀ : Keeps s0 s) : Keeps s0 t₀ := by
  unfold execStP at e₀
  try dsimp only at e₀
  repeat' split at e₀
  all_goals first
    | (obtain rfl := Host.Outcome.next.inj e₀
       with_reducible repeat' first | assumption | apply State.storeSlot_keeps)
    | (cases e₀; done)

/-! ### Machine/Facet.lean -/

theorem execGirdleReservationStall_keeps_eq {s0 s t₀ : State} {k : Fin 64} (e₀ : execGirdleReservationStall k s = .next t₀) (h₀ : Keeps s0 s) : Keeps s0 t₀ := by
  unfold execGirdleReservationStall at e₀
  try dsimp only at e₀
  repeat' split at e₀
  all_goals first
    | (obtain rfl := Host.Outcome.next.inj e₀
       with_reducible repeat' first | assumption | apply State.count_keeps | apply State.setCore_keeps)
    | (cases e₀; done)

theorem execGirdleTransferComplete_keeps_eq {s0 s t₀ : State} {k : Fin 64} {tag : Fin 8} {r : GirdleEnd} (e₀ : execGirdleTransferComplete k tag r s = .next t₀) (h₀ : Keeps s0 s) : Keeps s0 t₀ := by
  unfold execGirdleTransferComplete at e₀
  try dsimp only at e₀
  repeat' split at e₀
  all_goals first
    | (obtain rfl := Host.Outcome.next.inj e₀
       with_reducible repeat' first
         | assumption | intro _ | apply State.girdleDone_keeps | apply State.busError_keeps | apply Keeps.foldl
         | apply Keeps.ite | split | dsimp only | (refine Keeps.mk' ?_ rfl ?_ <;> [skip; (simp [State.lens]; done)]))
    | (cases e₀; done)

theorem State.overrun_keeps {s0 s : State} (h : Keeps s0 s) (k : Nat) (dev : Bool) : Keeps s0 (State.overrun s k dev) := by
  unfold State.overrun
  try dsimp only
  with_reducible repeat' first
    | assumption | apply State.raise_keeps | apply State.report_keeps | apply State.endRun_keeps | apply Keeps.ite | split
    | dsimp only | (refine Keeps.mk' ?_ rfl ?_ <;> [skip; (simp only [State.lens]; done)])

theorem State.userOverrun_keeps {s0 s : State} (h : Keeps s0 s) (k : Nat) : Keeps s0 (State.userOverrun s k) := by
  unfold State.userOverrun
  try dsimp only
  with_reducible repeat' first
    | assumption | apply State.count_keeps | apply State.modKernel_keeps | apply State.suspendKernel_keeps
    | apply State.overrun_keeps | apply Keeps.ite | split | dsimp only

theorem State.renderOverrun_keeps {s0 s : State} (h : Keeps s0 s) (k : Nat) : Keeps s0 (State.renderOverrun s k) := by
  unfold State.renderOverrun
  try dsimp only
  with_reducible repeat' first
    | assumption | apply State.count_keeps | apply State.overrun_keeps | apply Keeps.ite | split | dsimp only
    | (refine Keeps.mk' ?_ rfl ?_ <;> [skip; (simp only [State.lens]; done)])

theorem execBudgetExpiry_keeps_eq {s0 s t₀ : State} {k : Fin 64} (e₀ : execBudgetExpiry k s = .next t₀) (h₀ : Keeps s0 s) : Keeps s0 t₀ := by
  unfold execBudgetExpiry at e₀
  try dsimp only at e₀
  repeat' split at e₀
  all_goals first
    | (obtain rfl := Host.Outcome.next.inj e₀
       with_reducible repeat' first | assumption | apply State.userOverrun_keeps | apply State.renderOverrun_keeps)
    | (cases e₀; done)

theorem State.losesWork_keeps {s0 s : State} (h : Keeps s0 s) (w : Work) : Keeps s0 (s.losesWork w) := by
  unfold State.losesWork
  with_reducible repeat' first
    | assumption | intro _ | apply State.modObjRt_keeps | apply State.modFeedRt_keeps | apply Keeps.foldl | apply Keeps.ite
    | split | dsimp only | (refine Keeps.mk' ?_ rfl ?_ <;> [skip; (simp only [State.lens]; done)])

theorem State.endRole_keeps {s0 s : State} (h : Keeps s0 s) (k c : Nat) : Keeps s0 (State.endRole s k c) := by
  unfold State.endRole
  try dsimp only
  with_reducible repeat' first
    | assumption | intro _ | apply State.lower_keeps | apply State.setCore_keeps | apply State.setFst_keeps
    | apply Keeps.foldl | apply Keeps.ite | split | dsimp only
    | (refine Keeps.mk' ?_ rfl ?_ <;> [skip; (simp only [State.lens]; done)])
    | (refine Keeps.mk' ?_ rfl ?_ <;> [skip; (simp [State.lens]; done)])

theorem State.retire_keeps {s0 s : State} (h : Keeps s0 s) (k : Nat) : Keeps s0 (State.retire s k) := by
  unfold State.retire
  try dsimp only
  with_reducible repeat' first
    | assumption | intro _ | apply State.quarantine_keeps | apply State.endRole_keeps | apply Keeps.foldl
    | apply Keeps.ite | split | dsimp only | (refine Keeps.mk' ?_ rfl ?_ <;> [skip; (simp only [State.lens]; done)])
    | (refine Keeps.mk' ?_ rfl ?_ <;> [skip; (simp [State.lens]; done)])

theorem State.toRender_keeps {s0 s : State} (h : Keeps s0 s) (k : Nat) : Keeps s0 (State.toRender s k) := by
  unfold State.toRender
  try dsimp only
  with_reducible repeat' first
    | assumption | intro _ | apply State.fresh_keeps | (refine State.fresh_keeps_eq (by assumption) ?_)
    | apply State.setReg_keeps | apply State.setFst_keeps | apply Keeps.foldl | apply Keeps.ite | split | dsimp only
    | (refine Keeps.mk' ?_ rfl ?_ <;> [skip; (simp only [State.lens]; done)])
    | (refine Keeps.mk' ?_ rfl ?_ <;> [skip; (simp [State.lens]; done)])

theorem execSpareReplacement_keeps_eq {s0 s t₀ : State} {k : Fin 64} {w : Work} (e₀ : execSpareReplacement k w s = .next t₀) (h₀ : Keeps s0 s) : Keeps s0 t₀ := by
  unfold execSpareReplacement at e₀
  try dsimp only at e₀
  repeat' split at e₀
  all_goals first
    | (obtain rfl := Host.Outcome.next.inj e₀
       with_reducible repeat' first
         | assumption | intro _ | apply State.count_keeps | apply State.losesWork_keeps | apply State.retire_keeps
         | apply State.toRender_keeps | apply Keeps.foldl | apply Keeps.ite | split | dsimp only
         | (refine Keeps.mk' ?_ rfl ?_ <;> [skip; (simp [State.lens]; done)]))
    | (cases e₀; done)

theorem execSelftestComplete_keeps_eq {s0 s t₀ : State} {k : Fin 64} {pass : Bool} (e₀ : execSelftestComplete k pass s = .next t₀) (h₀ : Keeps s0 s) : Keeps s0 t₀ := by
  unfold execSelftestComplete at e₀
  try dsimp only at e₀
  repeat' split at e₀
  all_goals first
    | (obtain rfl := Host.Outcome.next.inj e₀
       with_reducible repeat' first | assumption | apply State.raise_keeps | apply State.setFst_keeps)
    | (cases e₀; done)

theorem State.moveFacets_keeps {s0 : State} (a b n : Nat) : ∀ s : State, Keeps s0 s → Keeps s0 (s.moveFacets a b n) := by
  induction n with
  | zero => intro _ h; exact h
  | succ n ih =>
    intro s h; unfold State.moveFacets; split
    exacts [h, ih _ (Keeps.ite (State.toRender_keeps h _) (State.setFst_keeps h _ _))]

theorem State.noSpareFor_keeps {s0 s : State} (h : Keeps s0 s) (k : Nat) : Keeps s0 (State.noSpareFor s k) := by
  unfold State.noSpareFor
  try dsimp only
  with_reducible repeat' first
    | assumption | intro _ | apply State.raise_keeps | apply State.event_keeps | apply State.report_keeps
    | apply State.retire_keeps | apply Keeps.foldl | apply Keeps.ite | split | dsimp only
    | (refine Keeps.mk' ?_ rfl ?_ <;> [skip; (simp only [State.lens]; done)])
    | (refine Keeps.mk' ?_ rfl ?_ <;> [skip; (simp [State.lens]; done)])

theorem State.facetBoundary_keeps {s0 s : State} (h : Keeps s0 s)  : Keeps s0 (State.facetBoundary s) := by
  unfold State.facetBoundary
  try dsimp only
  with_reducible repeat' first
    | assumption | intro _ | apply State.endRole_keeps | apply State.retire_keeps | apply State.moveFacets_keeps
    | apply State.noSpareFor_keeps | apply Keeps.foldl | apply Keeps.ite | split | dsimp only
    | (refine Keeps.mk' ?_ rfl ?_ <;> [skip; (simp only [State.lens]; done)])
    | (refine Keeps.mk' ?_ rfl ?_ <;> [skip; (simp [State.lens]; done)])

theorem State.facetCtl_keeps {s0 s : State} (h : Keeps s0 s) (k : Nat) (v : Word) : Keeps s0 (State.facetCtl s k v) := by
  unfold State.facetCtl
  try dsimp only
  with_reducible repeat' first
    | assumption | apply State.setReg_keeps | apply State.setFst_keeps | apply Keeps.ite | split | dsimp only
    | (refine Keeps.mk' ?_ rfl ?_ <;> [skip; (simp only [State.lens]; done)])

theorem execFacetReset_keeps_eq {s0 s t₀ : State} {k : Fin 64} {v : Word} (e₀ : execFacetReset k v s = .next t₀) (h₀ : Keeps s0 s) : Keeps s0 t₀ := by
  unfold execFacetReset at e₀
  try dsimp only at e₀
  repeat' split at e₀
  all_goals first
    | (obtain rfl := Host.Outcome.next.inj e₀
       assumption)
    | (cases e₀; done)
    | (refine guarded_keeps_eq e₀ ?_
       with_reducible repeat' first | assumption | apply State.facetCtl_keeps)

theorem execFacetWinLock_keeps_eq {s0 s t₀ : State} {k : Fin 64} {v : Word} (e₀ : execFacetWinLock k v s = .next t₀) (h₀ : Keeps s0 s) : Keeps s0 t₀ := by
  unfold execFacetWinLock at e₀
  try dsimp only at e₀
  repeat' split at e₀
  all_goals first
    | (obtain rfl := Host.Outcome.next.inj e₀
       assumption)
    | (cases e₀; done)
    | (refine guarded_keeps_eq e₀ ?_
       with_reducible repeat' first | assumption | apply State.facetCtl_keeps)

theorem execFacetRunSet_keeps_eq {s0 s t₀ : State} {k : Fin 64} {v : Word} (e₀ : execFacetRunSet k v s = .next t₀) (h₀ : Keeps s0 s) : Keeps s0 t₀ := by
  unfold execFacetRunSet at e₀
  try dsimp only at e₀
  repeat' split at e₀
  all_goals first
    | (obtain rfl := Host.Outcome.next.inj e₀
       assumption)
    | (cases e₀; done)
    | (refine guarded_keeps_eq e₀ ?_
       with_reducible repeat' first | assumption | apply State.facetCtl_keeps)

theorem execScrubWord_keeps_eq {s0 s t₀ : State} {m : Fin 4} {inst addr synd : Nat} {c : WordCheck} (e₀ : execScrubWord m inst addr synd c s = .next t₀) (h₀ : Keeps s0 s) : Keeps s0 t₀ := by
  unfold execScrubWord at e₀
  try dsimp only at e₀
  repeat' split at e₀
  all_goals first
    | (obtain rfl := Host.Outcome.next.inj e₀
       with_reducible repeat' first
         | assumption | intro _ | apply State.raise_keeps | apply State.count_keeps | apply State.eccReport_keeps
         | apply State.eccCorrected_keeps | apply State.facetFault_keeps | apply Keeps.foldl | apply Keeps.ite
         | split | dsimp only | (refine Keeps.mk' ?_ rfl ?_ <;> [skip; (simp [State.lens]; done)]))
    | (cases e₀; done)

theorem State.loadKernel_keeps {s0 s : State} (h : Keeps s0 s) (n k : Nat) (img : List Byte) : Keeps s0 (State.loadKernel s n k img) := by
  unfold State.loadKernel
  try dsimp only
  with_reducible repeat' first
    | assumption | apply State.setReg_keeps | apply State.memWrite_keeps | apply State.memClear_keeps
    | apply State.setFst_keeps | apply State.facetCtl_keeps | apply Keeps.ite | split | dsimp only
    | (refine Keeps.mk' ?_ rfl ?_ <;> [skip; (simp only [State.lens]; done)])

theorem State.holdKernel_keeps {s0 s : State} (h : Keeps s0 s) (n : Nat) (img : List Byte) : Keeps s0 (State.holdKernel s n img) := by
  unfold State.holdKernel
  try dsimp only
  with_reducible repeat' first
    | assumption | intro _ | apply Keeps.foldl | apply Keeps.ite | split | dsimp only
    | (refine Keeps.mk' ?_ rfl ?_ <;> [skip; (simp only [State.lens]; done)])
    | (refine Keeps.mk' ?_ rfl ?_ <;> [skip; (simp [State.lens]; done)])

theorem State.placeKernel_keeps {s0 s : State} (h : Keeps s0 s) (n : Nat) (img : List Byte) : Keeps s0 (State.placeKernel s n img) := by
  unfold State.placeKernel
  try dsimp only
  with_reducible repeat' first
    | assumption | intro _ | apply State.loadKernel_keeps | apply State.holdKernel_keeps | apply Keeps.foldl
    | apply Keeps.ite | split | dsimp only | (refine Keeps.mk' ?_ rfl ?_ <;> [skip; (simp only [State.lens]; done)])
    | (refine Keeps.mk' ?_ rfl ?_ <;> [skip; (simp [State.lens]; done)])

theorem specSysKernelLoad_ok : specSysKernelLoad.Ok := by
  refine ⟨fun c h => ?_, fun c bad h => ?_, fun c h => ?_, fun c h => ?_, fun c h => ?_⟩
  all_goals
    dsimp only [specSysKernelLoad]
    with_reducible repeat' first
      | assumption | intro _ | apply State.takePiece_keeps | apply State.spoilPiece_keeps
      | apply State.runPiece_keeps | apply State.placeKernel_keeps | apply Keeps.foldl | apply Keeps.ite | split
      | dsimp only | (refine Keeps.mk' ?_ rfl ?_ <;> [skip; (simp only [State.lens]; done)])

theorem State.runKernel_keeps {s0 s : State} (h : Keeps s0 s) (n : Nat) (go : Bool) : Keeps s0 (State.runKernel s n go) := by
  unfold State.runKernel
  try dsimp only
  with_reducible repeat' first
    | assumption | apply State.raise_keeps | apply State.lower_keeps | apply State.modKernel_keeps | apply Keeps.ite | split
    | dsimp only

theorem specSysKernelRun_ok : specSysKernelRun.Ok := by
  refine ⟨fun c h => ?_, fun c bad h => ?_, fun c h => ?_, fun c h => ?_, fun c h => ?_⟩
  all_goals
    dsimp only [specSysKernelRun]
    with_reducible repeat' first | assumption | apply State.runKernel_keeps | apply Keeps.ite | split | dsimp only

theorem State.unloadKernel_keeps {s0 s : State} (h : Keeps s0 s) (n : Nat) : Keeps s0 (State.unloadKernel s n) := by
  unfold State.unloadKernel
  try dsimp only
  with_reducible repeat' first
    | assumption | apply State.setReg_keeps | apply State.lower_keeps | apply State.setFst_keeps | apply Keeps.ite | split
    | dsimp only | (refine Keeps.mk' ?_ rfl ?_ <;> [skip; (simp only [State.lens]; done)])

theorem specSysKernelUnload_ok : specSysKernelUnload.Ok := by
  refine ⟨fun c h => ?_, fun c bad h => ?_, fun c h => ?_, fun c h => ?_, fun c h => ?_⟩
  all_goals
    dsimp only [specSysKernelUnload]
    with_reducible repeat' first | assumption | apply State.unloadKernel_keeps | apply Keeps.ite | split | dsimp only

theorem specSysKernelRead_ok : specSysKernelRead.Ok := by
  refine ⟨fun c h => ?_, fun c bad h => ?_, fun c h => ?_, fun c h => ?_, fun c h => ?_⟩
  all_goals
    dsimp only [specSysKernelRead]
    with_reducible repeat' first | assumption | apply readOk_keeps | apply Keeps.ite | split | dsimp only

theorem specDiagFacetRetry_ok : specDiagFacetRetry.Ok := by
  refine ⟨fun c h => ?_, fun c bad h => ?_, fun c h => ?_, fun c h => ?_, fun c h => ?_⟩
  all_goals
    dsimp only [specDiagFacetRetry]
    with_reducible repeat' first | assumption | apply readOk_keeps | apply State.setFst_keeps

/-! ### Machine/LoupeFront.lean -/

theorem State.modLin_keeps {s0 s : State} (h : Keeps s0 s) (n : Nat) (f : LIn → LIn) : Keeps s0 (State.modLin s n f) := by
  unfold State.modLin
  try dsimp only
  with_reducible repeat' first
    | assumption | apply Keeps.ite | split | dsimp only | (refine Keeps.mk' ?_ rfl ?_ <;> [skip; (simp [State.lens]; done)])

theorem State.measClose_keeps {s0 s : State} (h : Keeps s0 s) (n : Nat) (raw : List Int) : Keeps s0 (State.measClose s n raw) := by
  unfold State.measClose
  try dsimp only
  with_reducible repeat' first
    | assumption | apply State.raise_keeps | apply State.count_keeps | apply State.modLin_keeps | apply Keeps.ite | split
    | dsimp only

theorem State.captureStep_keeps {s0 s : State} (h : Keeps s0 s)  : Keeps s0 (State.captureStep s) := by
  unfold State.captureStep
  try dsimp only
  with_reducible repeat' first
    | assumption | intro _ | apply Keeps.foldl | apply Keeps.ite | split | dsimp only
    | (refine Keeps.mk' ?_ rfl ?_ <;> [skip; (simp only [State.lens]; done)])
    | (refine Keeps.mk' ?_ rfl ?_ <;> [skip; (simp [State.lens]; done)])

theorem State.measAll_keeps {s0 s : State} (h : Keeps s0 s) (lines : List MeasLine) : Keeps s0 (State.measAll s lines) := by
  unfold State.measAll
  try dsimp only
  with_reducible repeat' first
    | assumption | intro _ | apply State.enter_keeps | apply State.measClose_keeps | apply State.captureStep_keeps
    | apply Keeps.foldl | apply Keeps.ite | split | dsimp only
    | (refine Keeps.mk' ?_ rfl ?_ <;> [skip; (simp only [State.lens]; done)])
    | (refine Keeps.mk' ?_ rfl ?_ <;> [skip; (simp [State.lens]; done)])

theorem State.measCompare1_keeps {s0 s : State} (h : Keeps s0 s) (b : Nat) (e : Nat × Word) : Keeps s0 (State.measCompare1 b s e) := by
  unfold State.measCompare1
  try dsimp only
  with_reducible repeat' first
    | assumption | apply State.raise_keeps | apply State.report_keeps | apply Keeps.ite | split | dsimp only

theorem State.measCompare_keeps {s0 s : State} (h : Keeps s0 s) (b : Nat) (l : List (Nat × Word)) : Keeps s0 (State.measCompare s b l) := by
  unfold State.measCompare
  try dsimp only
  with_reducible repeat' first
    | assumption | intro _ | apply State.measCompare1_keeps | apply Keeps.foldl | apply Keeps.ite | split | dsimp only

theorem State.linEvent_keeps {s0 s : State} (h : Keeps s0 s) (n : Nat) : Keeps s0 (State.linEvent s n) := by
  unfold State.linEvent
  try dsimp only
  with_reducible repeat' first | assumption | apply State.event_keeps

theorem State.modJob_keeps {s0 s : State} (h : Keeps s0 s) (j : Nat) (f : LJob → LJob) : Keeps s0 (State.modJob s j f) := by
  unfold State.modJob
  try dsimp only
  with_reducible repeat' first
    | assumption | apply Keeps.ite | split | dsimp only
    | (refine Keeps.mk' ?_ rfl ?_ <;> [skip; (simp only [State.lens]; done)])

theorem State.spoilStep_keeps {s0 s : State} (h : Keeps s0 s) (j : Nat) (q : LJob) : Keeps s0 (State.spoilStep s j q) := by
  unfold State.spoilStep
  try dsimp only
  with_reducible repeat' first
    | assumption | apply State.enter_keeps | apply State.modJob_keeps | apply Keeps.ite | split | dsimp only

theorem State.spoil_keeps {s0 s : State} (h : Keeps s0 s) (n : Nat) : Keeps s0 (State.spoil s n) := by
  unfold State.spoil
  try dsimp only
  with_reducible repeat' first | assumption | apply State.spoilStep_keeps | apply Keeps.ite | split | dsimp only

theorem execLoupeStuck_keeps_eq {s0 s t₀ : State} {n : Fin 16} (e₀ : execLoupeStuck n s = .next t₀) (h₀ : Keeps s0 s) : Keeps s0 t₀ := by
  unfold execLoupeStuck at e₀
  try dsimp only at e₀
  repeat' split at e₀
  all_goals first
    | (obtain rfl := Host.Outcome.next.inj e₀
       with_reducible repeat' first
         | assumption | apply State.raise_keeps | apply State.count_keeps | apply State.report_keeps
         | apply State.modLin_keeps | apply State.linEvent_keeps | apply State.spoil_keeps)
    | (cases e₀; done)

theorem execStuckRecover_keeps_eq {s0 s t₀ : State} {n : Fin 16} (e₀ : execStuckRecover n s = .next t₀) (h₀ : Keeps s0 s) : Keeps s0 t₀ := by
  unfold execStuckRecover at e₀
  try dsimp only at e₀
  repeat' split at e₀
  all_goals first
    | (obtain rfl := Host.Outcome.next.inj e₀
       with_reducible repeat' first
         | assumption | intro _ | apply State.modLin_keeps | apply State.linEvent_keeps | apply State.spoil_keeps
         | apply Keeps.foldl | apply Keeps.ite | split | dsimp only
         | (refine Keeps.mk' ?_ rfl ?_ <;> [skip; (simp [State.lens]; done)]))
    | (cases e₀; done)

theorem execSettlingEnd_keeps_eq {s0 s t₀ : State} {n : Fin 16} (e₀ : execSettlingEnd n s = .next t₀) (h₀ : Keeps s0 s) : Keeps s0 t₀ := by
  unfold execSettlingEnd at e₀
  try dsimp only at e₀
  repeat' split at e₀
  all_goals first
    | (obtain rfl := Host.Outcome.next.inj e₀
       with_reducible repeat' first | assumption | apply State.modLin_keeps)
    | (cases e₀; done)

theorem State.syncReset_keeps {s0 s : State} (h : Keeps s0 s) (clear : Bool) : Keeps s0 (State.syncReset s clear) := by
  unfold State.syncReset
  try dsimp only
  with_reducible repeat' first
    | assumption | apply State.lower_keeps | apply State.spoilStep_keeps | apply Keeps.ite | split | dsimp only
    | (refine Keeps.mk' ?_ rfl ?_ <;> [skip; (simp [State.lens]; done)])

theorem State.askReset_keeps {s0 s : State} (h : Keeps s0 s) : Keeps s0 (State.askReset s) := by
  unfold State.askReset
  try dsimp only
  with_reducible repeat' first | assumption | apply State.enter_keeps | apply Keeps.ite | split | dsimp only

theorem execLoupeSyncEdge_keeps_eq {s0 s t₀ : State}  (e₀ : execLoupeSyncEdge s = .next t₀) (h₀ : Keeps s0 s) : Keeps s0 t₀ := by
  unfold execLoupeSyncEdge at e₀
  try dsimp only at e₀
  repeat' split at e₀
  all_goals first
    | (obtain rfl := Host.Outcome.next.inj e₀
       with_reducible repeat' first
         | assumption | apply State.raise_keeps | apply State.count_keeps | apply State.askReset_keeps | apply Keeps.ite
         | split | dsimp only | (refine Keeps.mk' ?_ rfl ?_ <;> [skip; (simp only [State.lens]; done)]))
    | (cases e₀; done)

theorem State.reqReset_keeps {s0 s : State} (h : Keeps s0 s)  : Keeps s0 (State.reqReset s) := by
  unfold State.reqReset
  try dsimp only
  with_reducible repeat' first
    | assumption | intro _ | apply Keeps.foldl | apply Keeps.ite | split | dsimp only
    | (refine Keeps.mk' ?_ rfl ?_ <;> [skip; (simp only [State.lens]; done)])
    | (refine Keeps.mk' ?_ rfl ?_ <;> [skip; (simp [State.lens]; done)])

theorem State.syncCtl_keeps {s0 s : State} (h : Keeps s0 s) (v : Word) : Keeps s0 (State.syncCtl s v) := by
  unfold State.syncCtl
  try dsimp only
  with_reducible repeat' first
    | assumption | intro _ | apply State.setReg_keeps | apply State.raise_keeps | apply State.reqReset_keeps
    | apply Keeps.foldl | apply Keeps.ite | split | dsimp only
    | (refine Keeps.mk' ?_ rfl ?_ <;> [skip; (simp only [State.lens]; done)])
    | (refine Keeps.mk' ?_ rfl ?_ <;> [skip; (simp [State.lens]; done)])

theorem execLoupeSyncReq_keeps_eq {s0 s t₀ : State} {v : Word} (e₀ : execLoupeSyncReq v s = .next t₀) (h₀ : Keeps s0 s) : Keeps s0 t₀ := by
  unfold execLoupeSyncReq at e₀
  try dsimp only at e₀
  repeat' split at e₀
  all_goals first
    | (obtain rfl := Host.Outcome.next.inj e₀
       assumption)
    | (cases e₀; done)
    | (refine guarded_keeps_eq e₀ ?_
       with_reducible repeat' first | assumption | apply State.syncCtl_keeps)

theorem State.setInCfg_keeps {s0 s : State} (h : Keeps s0 s) (n : Nat) (v : Word) : Keeps s0 (State.setInCfg s n v) := by
  unfold State.setInCfg
  try dsimp only
  with_reducible repeat' first
    | assumption | intro _ | apply State.setReg_keeps | apply State.modLin_keeps | apply State.spoil_keeps
    | apply Keeps.foldl | apply Keeps.ite | split | dsimp only
    | (refine Keeps.mk' ?_ rfl ?_ <;> [skip; (simp only [State.lens]; done)])
    | (refine Keeps.mk' ?_ rfl ?_ <;> [skip; (simp [State.lens]; done)])

theorem State.inCfg_keeps {s0 s : State} (h : Keeps s0 s) (n : Nat) (v : Word) : Keeps s0 (State.inCfg s n v) := by
  unfold State.inCfg
  try dsimp only
  with_reducible repeat' first
    | assumption | apply State.raise_keeps | apply State.setInCfg_keeps | apply Keeps.ite | split | dsimp only

theorem execLoupeInCfgWrite_keeps_eq {s0 s t₀ : State} {n : Fin 16} {v : Word} (e₀ : execLoupeInCfgWrite n v s = .next t₀) (h₀ : Keeps s0 s) : Keeps s0 t₀ := by
  unfold execLoupeInCfgWrite at e₀
  try dsimp only at e₀
  repeat' split at e₀
  all_goals first
    | (obtain rfl := Host.Outcome.next.inj e₀
       assumption)
    | (cases e₀; done)
    | (refine guarded_keeps_eq e₀ ?_
       with_reducible repeat' first | assumption | apply State.inCfg_keeps)

theorem State.injectDone_keeps {s0 s : State} (h : Keeps s0 s) (f b : Nat) (x : List Int) (p t : Int) : Keeps s0 (State.injectDone s f b x p t) := by
  unfold State.injectDone
  try dsimp only
  with_reducible repeat' first
    | assumption | intro _ | apply Keeps.foldl | apply Keeps.ite | split | dsimp only
    | (refine Keeps.mk' ?_ rfl ?_ <;> [skip; (simp only [State.lens]; done)])
    | (refine Keeps.mk' ?_ rfl ?_ <;> [skip; (simp [State.lens]; done)])

theorem State.noiseBlock_keeps {s0 s : State} (h : Keeps s0 s) : Keeps s0 (State.noiseBlock s) := by
  unfold State.noiseBlock
  try dsimp only
  with_reducible repeat' first
    | assumption | apply Keeps.ite | split | dsimp only
    | (refine Keeps.mk' ?_ rfl ?_ <;> [skip; (simp only [State.lens]; done)])

/-! ### Machine/Loupe.lean -/

theorem State.modLz_keeps {s0 s : State} (h : Keeps s0 s) (z : Nat) (f : LZone → LZone) : Keeps s0 (State.modLz s z f) := by
  unfold State.modLz
  try dsimp only
  with_reducible repeat' first
    | assumption | apply Keeps.ite | split | dsimp only
    | (refine Keeps.mk' ?_ rfl ?_ <;> [skip; (simp only [State.lens]; done)])

theorem State.modLf_keeps {s0 s : State} (h : Keeps s0 s) (f : Nat) (g : LFeed → LFeed) : Keeps s0 (State.modLf s f g) := by
  unfold State.modLf
  try dsimp only
  with_reducible repeat' first
    | assumption | apply Keeps.ite | split | dsimp only
    | (refine Keeps.mk' ?_ rfl ?_ <;> [skip; (simp only [State.lens]; done)])

theorem State.noteVerdict_keeps {s0 s : State} (h : Keeps s0 s) (f : Nat) (old : LFeed) : Keeps s0 (State.noteVerdict s f old) := by
  unfold State.noteVerdict
  try dsimp only
  with_reducible repeat' first
    | assumption | apply State.event_keeps | apply State.enter_keeps | apply Keeps.ite | split | dsimp only

theorem State.modAct_keeps {s0 s : State} (h : Keeps s0 s) (id : Nat) (g : LAction → LAction) : Keeps s0 (State.modAct s id g) := by
  unfold State.modAct
  try dsimp only
  with_reducible repeat' first
    | assumption | apply Keeps.ite | split | dsimp only
    | (refine Keeps.mk' ?_ rfl ?_ <;> [skip; (simp only [State.lens]; done)])

theorem State.delAct_keeps {s0 s : State} (h : Keeps s0 s) (id : Nat) : Keeps s0 (State.delAct s id) := by
  unfold State.delAct
  try dsimp only
  with_reducible repeat' first
    | assumption | apply Keeps.ite | split | dsimp only
    | (refine Keeps.mk' ?_ rfl ?_ <;> [skip; (simp only [State.lens]; done)])

theorem State.takeAct_keeps {s0 s : State} (h : Keeps s0 s) (id : Nat) : Keeps s0 (State.takeAct s id) := by
  unfold State.takeAct
  try dsimp only
  with_reducible repeat' first
    | assumption | apply State.event_keeps | apply State.enter_keeps | apply State.modLz_keeps | apply State.modLf_keeps
    | apply State.noteVerdict_keeps | apply State.modAct_keeps | apply State.delAct_keeps | apply Keeps.ite | split
    | dsimp only

theorem State.createAct_keeps {s0 s : State} (h : Keeps s0 s) (f kind : Nat) (target : Int) : Keeps s0 (State.createAct s f kind target) := by
  unfold State.createAct
  try dsimp only
  with_reducible repeat' first
    | assumption | apply State.event_keeps | apply State.enter_keeps | apply State.takeAct_keeps | apply Keeps.ite | split
    | dsimp only | (refine Keeps.mk' ?_ rfl ?_ <;> [skip; (simp only [State.lens]; done)])

theorem State.cancelAct_keeps {s0 s : State} (h : Keeps s0 s) (id cause : Nat) : Keeps s0 (State.cancelAct s id cause) := by
  unfold State.cancelAct
  try dsimp only
  with_reducible repeat' first
    | assumption | apply State.event_keeps | apply State.enter_keeps | apply State.delAct_keeps | apply Keeps.ite | split
    | dsimp only

theorem State.compensate_keeps {s0 s : State} (h : Keeps s0 s) (f : Nat) (gain delay : Int) : Keeps s0 (State.compensate s f gain delay) := by
  unfold State.compensate
  try dsimp only
  with_reducible repeat' first
    | assumption | intro _ | apply State.enter_keeps | apply State.delAct_keeps | apply State.createAct_keeps
    | apply Keeps.foldl | apply Keeps.ite | split | dsimp only

theorem State.doAct_keeps {s0 s : State} (h : Keeps s0 s) (id : Nat) : Keeps s0 (State.doAct s id) := by
  unfold State.doAct
  try dsimp only
  with_reducible repeat' first
    | assumption | intro _ | apply State.event_keeps | apply State.withdraw_keeps | apply State.modLz_keeps
    | apply State.modLf_keeps | apply State.noteVerdict_keeps | apply State.delAct_keeps | apply Keeps.foldl
    | apply Keeps.ite | split | dsimp only | (refine Keeps.mk' ?_ rfl ?_ <;> [skip; (simp only [State.lens]; done)])
    | (refine Keeps.mk' ?_ rfl ?_ <;> [skip; (simp [State.lens]; done)])

theorem State.learn_keeps {s0 s : State} (h : Keeps s0 s) (f : Nat) (refs : List MicRef) : Keeps s0 (State.learn s f refs) := by
  unfold State.learn
  try dsimp only
  with_reducible repeat' first | assumption | apply State.event_keeps | apply State.enter_keeps | apply State.modLf_keeps

theorem State.takeVerdict_keeps {s0 s : State} (h : Keeps s0 s) (f v : Nat) (lev del : Int) : Keeps s0 (State.takeVerdict s f v lev del) := by
  unfold State.takeVerdict
  try dsimp only
  with_reducible repeat' first
    | assumption | intro _ | apply State.modLf_keeps | apply State.noteVerdict_keeps | apply State.createAct_keeps
    | apply State.cancelAct_keeps | apply State.compensate_keeps | apply Keeps.foldl | apply Keeps.ite | split | dsimp only

theorem State.aimDrift_keeps {s0 s : State} (h : Keeps s0 s) (z : Nat) : Keeps s0 (State.aimDrift s z) := by
  unfold State.aimDrift
  try dsimp only
  with_reducible repeat' first
    | assumption | apply Keeps.ite | split | dsimp only
    | (refine Keeps.mk' ?_ rfl ?_ <;> [skip; (simp only [State.lens]; done)])

theorem State.driftRatio_keeps {s0 s : State} (h : Keeps s0 s) (z : Nat) (delta tau : Int) : Keeps s0 (State.driftRatio s z delta tau) := by
  unfold State.driftRatio
  try dsimp only
  with_reducible repeat' first
    | assumption | apply State.enter_keeps | apply State.modLz_keeps | apply State.aimDrift_keeps | apply Keeps.ite | split
    | dsimp only

theorem State.modSlot_keeps {s0 s : State} (h : Keeps s0 s) (j : Nat) (f : Slot → Slot) : Keeps s0 (State.modSlot s j f) := by
  unfold State.modSlot
  try dsimp only
  with_reducible repeat' first
    | assumption | apply Keeps.ite | split | dsimp only | (refine Keeps.mk' ?_ rfl ?_ <;> [skip; (simp [State.lens]; done)])

theorem State.restartSlot_keeps {s0 s : State} (h : Keeps s0 s) (j : Nat) : Keeps s0 (State.restartSlot s j) := by
  unfold State.restartSlot
  try dsimp only
  with_reducible repeat' first
    | assumption | intro _ | apply State.modSlot_keeps | apply Keeps.foldl | apply Keeps.ite | split | dsimp only
    | (refine Keeps.mk' ?_ rfl ?_ <;> [skip; (simp only [State.lens]; done)])
    | (refine Keeps.mk' ?_ rfl ?_ <;> [skip; (simp [State.lens]; done)])

theorem State.endSlot_keeps {s0 s : State} (h : Keeps s0 s) (j f : Nat) : Keeps s0 (State.endSlot s j f) := by
  unfold State.endSlot
  try dsimp only
  with_reducible repeat' first
    | assumption | intro _ | apply State.enter_keeps | apply State.restartSlot_keeps | apply Keeps.foldl
    | apply Keeps.ite | split | dsimp only | (refine Keeps.mk' ?_ rfl ?_ <;> [skip; (simp only [State.lens]; done)])
    | (refine Keeps.mk' ?_ rfl ?_ <;> [skip; (simp [State.lens]; done)])

theorem State.recordResult_keeps {s0 s : State} (h : Keeps s0 s) (f : Nat) (b : MicResult) (weak : Bool) : Keeps s0 (State.recordResult s f b weak) := by
  unfold State.recordResult
  try dsimp only
  with_reducible repeat' first | assumption | apply State.modLf_keeps

theorem State.conclude_keeps {s0 s : State} (h : Keeps s0 s) (j f v : Nat) (b : MicResult) (ms : List MicResult) (weak : Bool) : Keeps s0 (State.conclude s j f v b ms weak) := by
  unfold State.conclude
  try dsimp only
  with_reducible repeat' first
    | assumption | apply State.learn_keeps | apply State.takeVerdict_keeps | apply State.driftRatio_keeps
    | apply State.endSlot_keeps | apply State.recordResult_keeps | apply Keeps.ite | split | dsimp only
    | (refine Keeps.mk' ?_ rfl ?_ <;> [skip; (simp only [State.lens]; done)])

theorem State.noteEdges_keeps {s0 s : State} (h : Keeps s0 s) (f : Nat) (ms : List MicResult) : Keeps s0 (State.noteEdges s f ms) := by
  unfold State.noteEdges
  try dsimp only
  with_reducible repeat' first | assumption | apply State.modLf_keeps | apply Keeps.ite | split | dsimp only

theorem execConclusiveResult_keeps_eq {s0 s t₀ : State} {j : Fin 64} {f : Fin 1024} (e₀ : execConclusiveResult j f s = .next t₀) (h₀ : Keeps s0 s) : Keeps s0 t₀ := by
  unfold execConclusiveResult at e₀
  try dsimp only at e₀
  repeat' split at e₀
  all_goals first
    | (obtain rfl := Host.Outcome.next.inj e₀
       with_reducible repeat' first
         | assumption | intro _ | apply State.conclude_keeps | apply State.noteEdges_keeps | apply Keeps.foldl
         | apply Keeps.ite | split | dsimp only | (refine Keeps.mk' ?_ rfl ?_ <;> [skip; (simp [State.lens]; done)]))
    | (cases e₀; done)

theorem execMaximumDwell_keeps_eq {s0 s t₀ : State} {j : Fin 64} {g : Fin 1024} (e₀ : execMaximumDwell j g s = .next t₀) (h₀ : Keeps s0 s) : Keeps s0 t₀ := by
  unfold execMaximumDwell at e₀
  try dsimp only at e₀
  repeat' split at e₀
  all_goals first
    | (obtain rfl := Host.Outcome.next.inj e₀
       with_reducible repeat' first
         | assumption | intro _ | apply State.event_keeps | apply State.modLf_keeps | apply State.endSlot_keeps
         | apply State.conclude_keeps | apply State.noteEdges_keeps | apply Keeps.foldl | apply Keeps.ite | split
         | dsimp only | (refine Keeps.mk' ?_ rfl ?_ <;> [skip; (simp [State.lens]; done)]))
    | (cases e₀; done)

theorem execActionDueTime_keeps_eq {s0 s t₀ : State} {f : Fin 1024} {id : Option Nat} (e₀ : execActionDueTime f id s = .next t₀) (h₀ : Keeps s0 s) : Keeps s0 t₀ := by
  unfold execActionDueTime at e₀
  try dsimp only at e₀
  repeat' split at e₀
  all_goals first
    | (obtain rfl := Host.Outcome.next.inj e₀
       with_reducible repeat' first
         | assumption | intro _ | apply State.enter_keeps | apply State.modLf_keeps | apply State.noteVerdict_keeps
         | apply State.takeAct_keeps | apply Keeps.foldl | apply Keeps.ite | split | dsimp only
         | (refine Keeps.mk' ?_ rfl ?_ <;> [skip; (simp [State.lens]; done)]))
    | (cases e₀; done)

theorem execCompStep_keeps_eq {s0 s t₀ : State}  (e₀ : execCompStep s = .next t₀) (h₀ : Keeps s0 s) : Keeps s0 t₀ := by
  unfold execCompStep at e₀
  try dsimp only at e₀
  repeat' split at e₀
  all_goals first
    | (obtain rfl := Host.Outcome.next.inj e₀
       with_reducible repeat' first
         | assumption | apply Keeps.ite | split | dsimp only
         | (refine Keeps.mk' ?_ rfl ?_ <;> [skip; (simp only [State.lens]; done)]))
    | (cases e₀; done)

theorem execDriftStep_keeps_eq {s0 s t₀ : State} {f : Fin 1024} (e₀ : execDriftStep f s = .next t₀) (h₀ : Keeps s0 s) : Keeps s0 t₀ := by
  unfold execDriftStep at e₀
  try dsimp only at e₀
  repeat' split at e₀
  all_goals first
    | (obtain rfl := Host.Outcome.next.inj e₀
       with_reducible repeat' first
         | assumption | apply State.event_keeps | apply State.modLz_keeps | apply State.modLf_keeps)
    | (cases e₀; done)

theorem State.compBoundary_keeps {s0 s : State} (h : Keeps s0 s) : Keeps s0 (State.compBoundary s) := by
  unfold State.compBoundary
  try dsimp only
  with_reducible repeat' first
    | assumption | intro _ | apply State.align_keeps | apply Keeps.foldl | apply Keeps.ite | split | dsimp only
    | (refine Keeps.mk' ?_ rfl ?_ <;> [skip; (simp only [State.lens]; done)])

theorem State.setSlot_keeps {s0 s : State} (h : Keeps s0 s) (j : Nat) (q : Option Slot) : Keeps s0 (State.setSlot s j q) := by
  unfold State.setSlot
  try dsimp only
  with_reducible repeat' first
    | assumption | apply Keeps.ite | split | dsimp only | (refine Keeps.mk' ?_ rfl ?_ <;> [skip; (simp [State.lens]; done)])

theorem State.confirmSlot_keeps {s0 s : State} (h : Keeps s0 s) (f : Nat) : Keeps s0 (State.confirmSlot s f) := by
  unfold State.confirmSlot
  try dsimp only
  with_reducible repeat' first | assumption | apply State.setSlot_keeps | apply Keeps.ite | split | dsimp only

theorem State.fillSlots_keeps {s0 : State} (l : List Nat) : ∀ s : State, Keeps s0 s → Keeps s0 (s.fillSlots l) := by
  induction l with
  | nil => intro _ h; exact h
  | cons f t ih =>
    intro s h; unfold State.fillSlots; dsimp only; split
    · exact h
    · split
      · exact ih _ ((State.setSlot_keeps h _ _).upd rfl rfl rfl)
      · exact ih _ h

theorem State.correlate_keeps {s0 s : State} (h : Keeps s0 s)  : Keeps s0 (State.correlate s) := by
  unfold State.correlate
  try dsimp only
  with_reducible repeat' first
    | assumption | intro _ | apply Keeps.foldl | apply Keeps.ite | split | dsimp only
    | (refine Keeps.mk' ?_ rfl ?_ <;> [skip; (simp only [State.lens]; done)])
    | (refine Keeps.mk' ?_ rfl ?_ <;> [skip; (simp [State.lens]; done)])

theorem State.loupeBoundary_keeps {s0 s : State} (h : Keeps s0 s)  : Keeps s0 (State.loupeBoundary s) := by
  unfold State.loupeBoundary
  try dsimp only
  with_reducible repeat' first
    | assumption | intro _ | apply State.modJob_keeps | apply State.noiseBlock_keeps | apply State.compBoundary_keeps
    | apply State.confirmSlot_keeps | apply State.fillSlots_keeps | apply State.correlate_keeps | apply Keeps.foldl
    | apply Keeps.ite | split | dsimp only | (refine Keeps.mk' ?_ rfl ?_ <;> [skip; (simp only [State.lens]; done)])
    | (refine Keeps.mk' ?_ rfl ?_ <;> [skip; (simp [State.lens]; done)])

theorem State.endJob_keeps {s0 s : State} (h : Keeps s0 s) (j result : Nat) : Keeps s0 (State.endJob s j result) := by
  unfold State.endJob
  try dsimp only
  with_reducible repeat' first
    | assumption | apply State.fresh_keeps | apply State.event_keeps | apply State.modJob_keeps | apply Keeps.ite | split
    | dsimp only | (refine Keeps.mk' ?_ rfl ?_ <;> [skip; (simp only [State.lens]; done)])

theorem execJobStepComplete_keeps_eq {s0 s t₀ : State} {step : Nat} (e₀ : execJobStepComplete step s = .next t₀) (h₀ : Keeps s0 s) : Keeps s0 t₀ := by
  unfold execJobStepComplete at e₀
  try dsimp only at e₀
  repeat' split at e₀
  all_goals first
    | (obtain rfl := Host.Outcome.next.inj e₀
       with_reducible repeat' first
         | assumption | intro _ | apply State.fresh_keeps | (refine State.fresh_keeps_eq (by assumption) ?_)
         | apply State.enter_keeps | apply State.memWrite_keeps | apply State.modJob_keeps
         | apply State.jobStep_keeps | apply Keeps.foldl | apply Keeps.ite | split | dsimp only
         | (refine Keeps.mk' ?_ rfl ?_ <;> [skip; (simp [State.lens]; done)]))
    | (cases e₀; done)

theorem State.jobStep_keeps {s0 s : State} (h : Keeps s0 s) (j step : Nat) (again : Bool) : Keeps s0 (State.jobStep s j step again) := by
  unfold State.jobStep
  try dsimp only
  with_reducible repeat' first
    | assumption | apply State.modJob_keeps | apply State.endJob_keeps | apply Keeps.ite | split | dsimp only

theorem State.loupeDec_keeps {s0 s : State} (h : Keeps s0 s) (d : LoupeDec) : Keeps s0 (s.loupeDec d) := by
  unfold State.loupeDec
  with_reducible repeat' first
    | assumption | apply State.modLf_keeps | apply State.doAct_keeps | apply State.delAct_keeps | apply State.aimDrift_keeps
    | apply State.modLz_keeps | apply State.restartSlot_keeps | apply State.setSlot_keeps | apply State.syncReset_keeps
    | apply State.jobStep_keeps | apply State.measCompare_keeps | apply Keeps.ite | split | dsimp only
    | (refine Keeps.mk' ?_ rfl ?_ <;> [skip; (simp only [State.lens]; done)])

theorem State.reportOnly_keeps {s0 s : State} (h : Keeps s0 s) (z : Nat) : Keeps s0 (State.reportOnly s z) := by
  unfold State.reportOnly
  try dsimp only
  with_reducible repeat' first
    | assumption | intro _ | apply State.cancelAct_keeps | apply Keeps.foldl | apply Keeps.ite | split | dsimp only
    | (refine Keeps.mk' ?_ rfl ?_ <;> [skip; (simp only [State.lens]; done)])

theorem specLoupeZoneSet_ok : specLoupeZoneSet.Ok := by
  refine ⟨fun c h => ?_, fun c bad h => ?_, fun c h => ?_, fun c h => ?_, fun c h => ?_⟩
  all_goals
    dsimp only [specLoupeZoneSet]
    with_reducible repeat' first
      | assumption | apply State.modLz_keeps | apply State.reportOnly_keeps | apply Keeps.ite | split | dsimp only

theorem specLoupeInputSet_ok : specLoupeInputSet.Ok := by
  refine ⟨fun c h => ?_, fun c bad h => ?_, fun c h => ?_, fun c h => ?_, fun c h => ?_⟩
  all_goals
    dsimp only [specLoupeInputSet]
    with_reducible repeat' first
      | assumption | apply State.inCfg_keeps | apply Keeps.ite | split | dsimp only
      | (refine Keeps.mk' ?_ rfl ?_ <;> [skip; (simp only [State.lens]; done)])

theorem specLoupeSync_ok : specLoupeSync.Ok := by
  refine ⟨fun c h => ?_, fun c bad h => ?_, fun c h => ?_, fun c h => ?_, fun c h => ?_⟩
  all_goals
    dsimp only [specLoupeSync]
    with_reducible repeat' first | assumption | apply State.syncReset_keeps | apply Keeps.ite | split | dsimp only

theorem specLoupeJobStart_ok : specLoupeJobStart.Ok := by
  refine ⟨fun c h => ?_, fun c bad h => ?_, fun c h => ?_, fun c h => ?_, fun c h => ?_⟩
  all_goals
    dsimp only [specLoupeJobStart]
    with_reducible repeat' first
      | assumption | apply Keeps.ite | split | dsimp only
      | (refine Keeps.mk' ?_ rfl ?_ <;> [skip; (simp only [State.lens]; done)])

theorem specLoupeJobAbort_ok : specLoupeJobAbort.Ok := by
  refine ⟨fun c h => ?_, fun c bad h => ?_, fun c h => ?_, fun c h => ?_, fun c h => ?_⟩
  all_goals
    dsimp only [specLoupeJobAbort]
    with_reducible repeat' first | assumption | apply State.endJob_keeps | apply Keeps.ite | split | dsimp only

theorem State.learnFrom_keeps {s0 s : State} (h : Keeps s0 s) (j f : Nat) : Keeps s0 (State.learnFrom s j f) := by
  unfold State.learnFrom
  try dsimp only
  with_reducible repeat' first
    | assumption | apply State.fresh_keeps | apply State.event_keeps | apply State.modLf_keeps
    | apply State.noteVerdict_keeps | apply Keeps.ite | split | dsimp only

theorem specLoupeLearn_ok : specLoupeLearn.Ok := by
  refine ⟨fun c h => ?_, fun c bad h => ?_, fun c h => ?_, fun c h => ?_, fun c h => ?_⟩
  all_goals
    dsimp only [specLoupeLearn]
    with_reducible repeat' first
      | assumption | intro _ | apply State.modLf_keeps | apply State.learnFrom_keeps | apply Keeps.foldl | apply Keeps.ite
      | split | dsimp only

theorem State.vetoAct_keeps {s0 s : State} (h : Keeps s0 s) (id : Nat) : Keeps s0 (State.vetoAct s id) := by
  unfold State.vetoAct
  try dsimp only
  with_reducible repeat' first
    | assumption | apply State.modLf_keeps | apply State.cancelAct_keeps | apply Keeps.ite | split | dsimp only

theorem specLoupeVeto_ok : specLoupeVeto.Ok := by
  refine ⟨fun c h => ?_, fun c bad h => ?_, fun c h => ?_, fun c h => ?_, fun c h => ?_⟩
  all_goals
    dsimp only [specLoupeVeto]
    with_reducible repeat' first | assumption | apply State.vetoAct_keeps

theorem specLoupeCompClear_ok : specLoupeCompClear.Ok := by
  refine ⟨fun c h => ?_, fun c bad h => ?_, fun c h => ?_, fun c h => ?_, fun c h => ?_⟩
  all_goals
    dsimp only [specLoupeCompClear]
    with_reducible repeat' first
      | assumption | intro _ | apply State.modLf_keeps | apply Keeps.foldl | apply Keeps.ite | split | dsimp only

theorem specLoupeAuditRead_ok : specLoupeAuditRead.Ok := by
  refine ⟨fun c h => ?_, fun c bad h => ?_, fun c h => ?_, fun c h => ?_, fun c h => ?_⟩
  all_goals
    dsimp only [specLoupeAuditRead]
    with_reducible repeat' first | assumption | apply State.fresh_keeps | apply readOk_keeps

theorem specLoupeJobRead_ok : specLoupeJobRead.Ok := by
  refine ⟨fun c h => ?_, fun c bad h => ?_, fun c h => ?_, fun c h => ?_, fun c h => ?_⟩
  all_goals
    dsimp only [specLoupeJobRead]
    with_reducible repeat' first | assumption | apply readOk_keeps | apply Keeps.ite | split | dsimp only

theorem specLoupeDerive_ok : specLoupeDerive.Ok := by
  refine ⟨fun c h => ?_, fun c bad h => ?_, fun c h => ?_, fun c h => ?_, fun c h => ?_⟩
  all_goals
    dsimp only [specLoupeDerive]
    with_reducible repeat' first
      | assumption | apply State.fresh_keeps | apply Keeps.ite | split | dsimp only
      | (refine Keeps.mk' ?_ rfl ?_ <;> [skip; (simp only [State.lens]; done)])

theorem State.loupeTakenOver_keeps {s0 s : State} (h : Keeps s0 s) : Keeps s0 (State.loupeTakenOver s) := by
  unfold State.loupeTakenOver
  try dsimp only
  with_reducible repeat' first
    | assumption | apply State.endJob_keeps | apply Keeps.ite | split | dsimp only
    | (refine Keeps.mk' ?_ rfl ?_ <;> [skip; (simp only [State.lens]; done)])

/-! ### Machine/Ports.lean -/

theorem State.modPort_keeps {s0 s : State} (h : Keeps s0 s) (p : Nat) (f : Port → Port) : Keeps s0 (State.modPort s p f) := by
  unfold State.modPort
  try dsimp only
  with_reducible repeat' first
    | assumption | apply Keeps.ite | split | dsimp only | (refine Keeps.mk' ?_ rfl ?_ <;> [skip; (simp [State.lens]; done)])

theorem State.portEvent_keeps {s0 s : State} (h : Keeps s0 s) (p : Nat) : Keeps s0 (State.portEvent s p) := by
  unfold State.portEvent
  try dsimp only
  with_reducible repeat' first | assumption | apply State.event_keeps

theorem State.portTo_keeps {s0 s : State} (h : Keeps s0 s) (p st : Nat) : Keeps s0 (State.portTo s p st) := by
  unfold State.portTo
  try dsimp only
  with_reducible repeat' first
    | assumption | apply State.modPort_keeps | apply State.portEvent_keeps | apply Keeps.ite | split | dsimp only

theorem State.portStarting_keeps {s0 s : State} (h : Keeps s0 s) (p : Nat) : Keeps s0 (State.portStarting s p) := by
  unfold State.portStarting
  try dsimp only
  with_reducible repeat' first | assumption | apply State.modPort_keeps | apply State.portTo_keeps

theorem State.portStart_keeps {s0 s : State} (h : Keeps s0 s) (p : Nat) : Keeps s0 (State.portStart s p) := by
  unfold State.portStart
  try dsimp only
  with_reducible repeat' first
    | assumption | apply State.raise_keeps | apply State.modPort_keeps | apply State.portTo_keeps
    | apply State.portStarting_keeps | apply Keeps.ite | split | dsimp only

theorem State.portStop_keeps {s0 s : State} (h : Keeps s0 s) (p : Nat) : Keeps s0 (State.portStop s p) := by
  unfold State.portStop
  try dsimp only
  with_reducible repeat' first
    | assumption | apply State.lower_keeps | apply State.modPort_keeps | apply State.portEvent_keeps
    | apply State.portTo_keeps | apply Keeps.ite | split | dsimp only

theorem State.portSwitched_keeps {s0 s : State} (h : Keeps s0 s) (p : Nat) : Keeps s0 (State.portSwitched s p) := by
  unfold State.portSwitched
  try dsimp only
  with_reducible repeat' first
    | assumption | apply State.modPort_keeps | apply State.portEvent_keeps | apply State.portTo_keeps | apply Keeps.ite
    | split | dsimp only

theorem execPortZcTimeout_keeps_eq {s0 s t₀ : State} {p : Fin 16} (e₀ : execPortZcTimeout p s = .next t₀) (h₀ : Keeps s0 s) : Keeps s0 t₀ := by
  unfold execPortZcTimeout at e₀
  try dsimp only at e₀
  repeat' split at e₀
  all_goals first
    | (obtain rfl := Host.Outcome.next.inj e₀
       with_reducible repeat' first
         | assumption | apply State.raise_keeps | apply State.count_keeps | apply State.modPort_keeps
         | apply State.portSwitched_keeps)
    | (cases e₀; done)

theorem State.maskLatch_keeps {s0 s : State} (h : Keeps s0 s) (p : Nat) : Keeps s0 (State.maskLatch s p) := by
  unfold State.maskLatch
  try dsimp only
  with_reducible repeat' first | assumption | apply State.modPort_keeps

theorem State.portClose_keeps {s0 s : State} (h : Keeps s0 s) (p : Nat) : Keeps s0 (State.portClose s p) := by
  unfold State.portClose
  try dsimp only
  with_reducible repeat' first
    | assumption | apply State.maskLatch_keeps | apply State.modPort_keeps | apply State.portSwitched_keeps | apply Keeps.ite | split | dsimp only

theorem State.portHand_keeps {s0 s : State} (h : Keeps s0 s) (p : Nat) : Keeps s0 (State.portHand s p) := by
  unfold State.portHand
  try dsimp only
  with_reducible repeat' first | assumption | apply State.modPort_keeps | apply Keeps.ite | split | dsimp only

theorem State.modSide_keeps {s0 s : State} (h : Keeps s0 s) (r : Nat) (f : SideRt → SideRt) : Keeps s0 (State.modSide s r f) := by
  unfold State.modSide
  try dsimp only
  with_reducible repeat' first
    | assumption | apply Keeps.ite | split | dsimp only
    | (refine Keeps.mk' ?_ rfl ?_ <;> [skip; (simp only [State.lens]; done)])

theorem State.sideAim_keeps {s0 s : State} (h : Keeps s0 s) (r : Nat) : Keeps s0 (State.sideAim s r) := by
  unfold State.sideAim
  try dsimp only
  with_reducible repeat' first | assumption | apply State.modSide_keeps | apply Keeps.ite | split | dsimp only

theorem State.sideStep_keeps {s0 s : State} (h : Keeps s0 s) (p : Nat) : Keeps s0 (State.sideStep s p) := by
  unfold State.sideStep
  try dsimp only
  with_reducible repeat' first
    | assumption | apply Keeps.ite | split | dsimp only
    | (refine Keeps.mk' ?_ rfl ?_ <;> [skip; (simp only [State.lens]; done)])

theorem State.maskStep_keeps {s0 s : State} (h : Keeps s0 s) (p : Nat) : Keeps s0 (State.maskStep s p) := by
  unfold State.maskStep
  try dsimp only
  with_reducible repeat' first | assumption | apply State.modPort_keeps | apply State.maskLatch_keeps | apply Keeps.ite | split

theorem State.outFrame_keeps {s0 s : State} (h : Keeps s0 s) (p idx : Nat) : Keeps s0 (s.outFrame p idx).1 := by
  unfold State.outFrame; dsimp only; split <;> exact State.modPort_keeps h _ _

theorem State.outSlot_keeps {s0 s : State} (h : Keeps s0 s) (p slot idx : Nat) (x : Int) : Keeps s0 (s.outSlot p slot idx x).1 := by
  unfold State.outSlot; dsimp only
  with_reducible repeat' first
    | assumption | apply State.count_keeps | apply State.raise_keeps | apply State.modPort_keeps | apply Keeps.ite | split
    | dsimp only

theorem State.outSlots_keeps {s0 : State} (p idx : Nat) (xs : List Int) (n : Nat) : ∀ s : State, Keeps s0 s → Keeps s0 (s.outSlots p idx xs n).1 := by
  induction n with
  | zero => intro _ h; exact h
  | succ n ih => intro s h; exact ih _ (State.outSlot_keeps h _ _ _ _)

theorem State.portTx_keeps {s0 s : State} (h : Keeps s0 s) (p idx : Nat) : Keeps s0 (State.portTx s p idx) := by
  unfold State.portTx
  try dsimp only
  with_reducible repeat' first
    | assumption | apply State.emit_keeps | apply State.modPort_keeps | apply State.sideStep_keeps
    | apply State.outFrame_keeps | apply State.outSlots_keeps | apply Keeps.ite | split | dsimp only

theorem State.portRx_keeps {s0 s : State} (h : Keeps s0 s) (p : Nat) (f : TdmFrame) : Keeps s0 (State.portRx s p f) := by
  unfold State.portRx
  try dsimp only
  with_reducible repeat' first | assumption | apply State.modPort_keeps

theorem State.portGlitch_keeps {s0 s : State} (h : Keeps s0 s) (p : Nat) (agree : Bool) : Keeps s0 (State.portGlitch s p agree) := by
  unfold State.portGlitch
  try dsimp only
  with_reducible repeat' first
    | assumption | apply State.raise_keeps | apply State.count_keeps | apply State.modPort_keeps | apply State.portTo_keeps
    | apply Keeps.ite | split | dsimp only

theorem State.portQueue_keeps {s0 s : State} (h : Keeps s0 s) (p : Nat) (f : TdmFrame) : Keeps s0 (State.portQueue s p f) := by
  unfold State.portQueue
  try dsimp only
  with_reducible repeat' first
    | assumption | apply State.raise_keeps | apply State.count_keeps | apply State.report_keeps | apply State.modPort_keeps
    | apply Keeps.ite | split | dsimp only

theorem execTdmFrame_keeps_eq {s0 s t₀ : State} {p : Fin 16} {f : TdmFrame} (e₀ : execTdmFrame p f s = .next t₀) (h₀ : Keeps s0 s) : Keeps s0 t₀ := by
  unfold execTdmFrame at e₀
  try dsimp only at e₀
  repeat' split at e₀
  all_goals first
    | (obtain rfl := Host.Outcome.next.inj e₀
       with_reducible repeat' first
         | assumption | apply State.modPort_keeps | apply State.portTo_keeps | apply State.portSwitched_keeps
         | apply State.maskStep_keeps | apply State.portTx_keeps | apply State.portRx_keeps | apply State.portGlitch_keeps
         | apply State.portQueue_keeps)
    | (cases e₀; done)

theorem State.maskApply_keeps {s0 s : State} (h : Keeps s0 s) (p : Nat) (v : Word) (late : Bool) : Keeps s0 (State.maskApply s p v late) := by
  unfold State.maskApply
  try dsimp only
  with_reducible repeat' first | assumption | apply State.modPort_keeps | apply Keeps.ite | split | dsimp only

theorem execMaskApply_keeps_eq {s0 s t₀ : State} {p : Fin 16} {v : Word} {late : Bool} (e₀ : execMaskApply p v late s = .next t₀) (h₀ : Keeps s0 s) : Keeps s0 t₀ := by
  unfold execMaskApply at e₀
  try dsimp only at e₀
  repeat' split at e₀
  all_goals first
    | (obtain rfl := Host.Outcome.next.inj e₀
       assumption)
    | (cases e₀; done)
    | (refine guarded_keeps_eq e₀ ?_
       with_reducible repeat' first | assumption | apply State.maskApply_keeps)

theorem State.servo_keeps {s0 s : State} (h : Keeps s0 s) (p : Nat) : Keeps s0 (State.servo s p) := by
  unfold State.servo
  try dsimp only
  with_reducible repeat' first
    | assumption | apply State.fresh_keeps | apply State.enter_keeps | apply Keeps.ite | split | dsimp only

theorem execAsrcLock_keeps_eq {s0 s t₀ : State} {p : Fin 16} (e₀ : execAsrcLock p s = .next t₀) (h₀ : Keeps s0 s) : Keeps s0 t₀ := by
  unfold execAsrcLock at e₀
  try dsimp only at e₀
  repeat' split at e₀
  all_goals first
    | (obtain rfl := Host.Outcome.next.inj e₀
       with_reducible repeat' first | assumption | apply State.fresh_keeps | apply State.enter_keeps)
    | (cases e₀; done)

theorem State.asrcLocked_keeps {s0 s : State} (h : Keeps s0 s) (p : Nat) (phase : Word) : Keeps s0 (State.asrcLocked s p phase) := by
  unfold State.asrcLocked
  try dsimp only
  with_reducible repeat' first
    | assumption | apply State.modPort_keeps | apply State.portStarting_keeps | apply Keeps.ite | split | dsimp only

theorem execNoLock_keeps_eq {s0 s t₀ : State} {p : Fin 16} (e₀ : execNoLock p s = .next t₀) (h₀ : Keeps s0 s) : Keeps s0 t₀ := by
  unfold execNoLock at e₀
  try dsimp only at e₀
  repeat' split at e₀
  all_goals first
    | (obtain rfl := Host.Outcome.next.inj e₀
       with_reducible repeat' first | assumption | apply State.raise_keeps)
    | (cases e₀; done)

theorem State.portLost_keeps {s0 s : State} (h : Keeps s0 s) (p : Nat) : Keeps s0 (State.portLost s p) := by
  unfold State.portLost
  try dsimp only
  with_reducible repeat' first
    | assumption | apply State.raise_keeps | apply State.count_keeps | apply State.modPort_keeps | apply State.portTo_keeps
    | apply Keeps.ite | split | dsimp only

theorem execPortClockLost_keeps_eq {s0 s t₀ : State} {p : Fin 16} {fcg : Bool} (e₀ : execPortClockLost p fcg s = .next t₀) (h₀ : Keeps s0 s) : Keeps s0 t₀ := by
  unfold execPortClockLost at e₀
  try dsimp only at e₀
  repeat' split at e₀
  all_goals first
    | (obtain rfl := Host.Outcome.next.inj e₀
       with_reducible repeat' first
         | assumption | intro _ | apply State.portLost_keeps | apply Keeps.foldl | apply Keeps.ite | split | dsimp only)
    | (cases e₀; done)

theorem execPortRange_keeps_eq {s0 s t₀ : State} {p : Fin 16} (e₀ : execPortRange p s = .next t₀) (h₀ : Keeps s0 s) : Keeps s0 t₀ := by
  unfold execPortRange at e₀
  try dsimp only at e₀
  repeat' split at e₀
  all_goals first
    | (obtain rfl := Host.Outcome.next.inj e₀
       with_reducible repeat' first
         | assumption | apply State.raise_keeps | apply State.modPort_keeps | apply State.portTo_keeps)
    | (cases e₀; done)

theorem execPortRangeRecover_keeps_eq {s0 s t₀ : State} {p : Fin 16} (e₀ : execPortRangeRecover p s = .next t₀) (h₀ : Keeps s0 s) : Keeps s0 t₀ := by
  unfold execPortRangeRecover at e₀
  try dsimp only at e₀
  repeat' split at e₀
  all_goals first
    | (obtain rfl := Host.Outcome.next.inj e₀
       with_reducible repeat' first | assumption | apply State.portTo_keeps)
    | (cases e₀; done)

theorem State.realign_keeps {s0 s : State} (h : Keeps s0 s) : Keeps s0 (State.realign s) := by
  unfold State.realign
  try dsimp only
  with_reducible repeat' first
    | assumption | intro _ | apply State.modPort_keeps | apply Keeps.foldl | apply Keeps.ite | split | dsimp only

theorem State.tdmCtl_keeps {s0 s : State} (h : Keeps s0 s) (p : Nat) (v : Word) : Keeps s0 (State.tdmCtl s p v) := by
  unfold State.tdmCtl
  try dsimp only
  with_reducible repeat' first
    | assumption | apply State.setReg_keeps | apply State.raise_keeps | apply State.portStart_keeps
    | apply State.portStop_keeps | apply Keeps.ite | split | dsimp only

theorem execTdmCtlWrite_keeps_eq {s0 s t₀ : State} {p : Fin 16} {v : Word} (e₀ : execTdmCtlWrite p v s = .next t₀) (h₀ : Keeps s0 s) : Keeps s0 t₀ := by
  unfold execTdmCtlWrite at e₀
  try dsimp only at e₀
  repeat' split at e₀
  all_goals first
    | (obtain rfl := Host.Outcome.next.inj e₀
       assumption)
    | (cases e₀; done)
    | (refine guarded_keeps_eq e₀ ?_
       with_reducible repeat' first | assumption | apply State.tdmCtl_keeps)

theorem State.sideCtl_keeps {s0 s : State} (h : Keeps s0 s) (r : Nat) (v : Word) : Keeps s0 (State.sideCtl s r v) := by
  unfold State.sideCtl
  try dsimp only
  with_reducible repeat' first
    | assumption | apply State.setReg_keeps | apply State.raise_keeps | apply State.sideAim_keeps | apply Keeps.ite | split
    | dsimp only

theorem execSidetoneCtlWrite_keeps_eq {s0 s t₀ : State} {r : Fin 64} {v : Word} (e₀ : execSidetoneCtlWrite r v s = .next t₀) (h₀ : Keeps s0 s) : Keeps s0 t₀ := by
  unfold execSidetoneCtlWrite at e₀
  try dsimp only at e₀
  repeat' split at e₀
  all_goals first
    | (obtain rfl := Host.Outcome.next.inj e₀
       assumption)
    | (cases e₀; done)
    | (refine guarded_keeps_eq e₀ ?_
       with_reducible repeat' first | assumption | apply State.sideCtl_keeps)

theorem State.sideGainWrite_keeps {s0 s : State} (h : Keeps s0 s) (r : Nat) (v : Word) : Keeps s0 (State.sideGainWrite s r v) := by
  unfold State.sideGainWrite
  try dsimp only
  with_reducible repeat' first | assumption | apply State.setReg_keeps | apply State.sideAim_keeps

theorem execSidetoneGainWrite_keeps_eq {s0 s t₀ : State} {r : Fin 64} {v : Word} (e₀ : execSidetoneGainWrite r v s = .next t₀) (h₀ : Keeps s0 s) : Keeps s0 t₀ := by
  unfold execSidetoneGainWrite at e₀
  try dsimp only at e₀
  repeat' split at e₀
  all_goals first
    | (obtain rfl := Host.Outcome.next.inj e₀
       assumption)
    | (cases e₀; done)
    | (refine guarded_keeps_eq e₀ ?_
       with_reducible repeat' first | assumption | apply State.sideGainWrite_keeps)

theorem specPortSet_ok : specPortSet.Ok := by
  refine ⟨fun c h => ?_, fun c bad h => ?_, fun c h => ?_, fun c h => ?_, fun c h => ?_⟩
  all_goals
    dsimp only [specPortSet]
    with_reducible repeat' first | assumption | apply State.setReg_keeps | apply Keeps.ite | split | dsimp only

theorem specPortMask_ok : specPortMask.Ok := by
  refine ⟨fun c h => ?_, fun c bad h => ?_, fun c h => ?_, fun c h => ?_, fun c h => ?_⟩
  all_goals
    dsimp only [specPortMask]
    with_reducible repeat' first
      | assumption | apply State.setReg_keeps | apply State.maskApply_keeps | apply Keeps.ite | split | dsimp only

theorem specPortRun_ok : specPortRun.Ok := by
  refine ⟨fun c h => ?_, fun c bad h => ?_, fun c h => ?_, fun c h => ?_, fun c h => ?_⟩
  all_goals
    dsimp only [specPortRun]
    with_reducible repeat' first
      | assumption | apply State.portStart_keeps | apply State.portStop_keeps | apply Keeps.ite | split | dsimp only

theorem specSidetoneSet_ok : specSidetoneSet.Ok := by
  refine ⟨fun c h => ?_, fun c bad h => ?_, fun c h => ?_, fun c h => ?_, fun c h => ?_⟩
  all_goals
    dsimp only [specSidetoneSet]
    with_reducible repeat' first
      | assumption | apply State.setReg_keeps | apply State.sideAim_keeps | apply Keeps.ite | split | dsimp only

theorem specPortRead_ok : specPortRead.Ok := by
  refine ⟨fun c h => ?_, fun c bad h => ?_, fun c h => ?_, fun c h => ?_, fun c h => ?_⟩
  all_goals
    dsimp only [specPortRead]
    with_reducible repeat' first | assumption | apply readOk_keeps

/-! ### Machine/Net.lean -/

theorem State.modFlowRt_keeps {s0 s : State} (h : Keeps s0 s) (f : Nat) (g : FlowRt → FlowRt) : Keeps s0 (State.modFlowRt s f g) := by
  unfold State.modFlowRt
  try dsimp only
  with_reducible repeat' first
    | assumption | apply Keeps.ite | split | dsimp only
    | (refine Keeps.mk' ?_ rfl ?_ <;> [skip; (simp only [State.lens]; done)])

theorem State.netCount_keeps {s0 s : State} (h : Keeps s0 s) (k c : Nat) (n : Nat) : Keeps s0 (State.netCount s k c n) := by
  unfold State.netCount
  try dsimp only
  with_reducible repeat' first | assumption | apply State.count_keeps

theorem State.netErr_keeps {s0 s : State} (h : Keeps s0 s) (k bit : Nat) : Keeps s0 (State.netErr s k bit) := by
  unfold State.netErr
  try dsimp only
  with_reducible repeat' first | assumption | apply State.raise_keeps

theorem State.flowtabCtl_keeps {s0 s : State} (h : Keeps s0 s) (e : Nat) (v : Word) : Keeps s0 (State.flowtabCtl s e v) := by
  unfold State.flowtabCtl
  try dsimp only
  with_reducible repeat' first
    | assumption | apply State.setReg_keeps | apply State.raise_keeps | apply State.lower_keeps | apply Keeps.ite | split
    | dsimp only

theorem execFlowtabCtlWrite_keeps_eq {s0 s t₀ : State} {e : Fin 512} {v : Word} (e₀ : execFlowtabCtlWrite e v s = .next t₀) (h₀ : Keeps s0 s) : Keeps s0 t₀ := by
  unfold execFlowtabCtlWrite at e₀
  try dsimp only at e₀
  repeat' split at e₀
  all_goals first
    | (obtain rfl := Host.Outcome.next.inj e₀
       assumption)
    | (cases e₀; done)
    | (refine guarded_keeps_eq e₀ ?_
       with_reducible repeat' first | assumption | apply State.flowtabCtl_keeps)

theorem State.hashRefresh_keeps {s0 s : State} (h : Keeps s0 s) (k : Nat) : Keeps s0 (State.hashRefresh s k) := by
  unfold State.hashRefresh
  try dsimp only
  with_reducible repeat' first
    | assumption | intro _ | apply State.setReg_keeps | apply Keeps.foldl | apply Keeps.ite | split | dsimp only

theorem State.flowEntries_keeps {s0 s : State} (h : Keeps s0 s) (f : Nat) (w : Flow) : Keeps s0 (State.flowEntries s f w) := by
  unfold State.flowEntries
  try dsimp only
  with_reducible repeat' first
    | assumption | intro _ | apply State.setReg_keeps | apply State.lower_keeps | apply State.flowtabCtl_keeps
    | apply State.hashRefresh_keeps | apply Keeps.foldl | apply Keeps.ite | split | dsimp only

theorem State.clearPlayout_keeps {s0 s : State} (h : Keeps s0 s) (f : Nat) : Keeps s0 (State.clearPlayout s f) := by
  unfold State.clearPlayout
  try dsimp only
  with_reducible repeat' first
    | assumption | apply Keeps.ite | split | dsimp only
    | (refine Keeps.mk' ?_ rfl ?_ <;> [skip; (simp only [State.lens]; done)])

theorem State.igmp_keeps {s0 s : State} (h : Keeps s0 s) (kind : String) (w : Flow) : Keeps s0 (State.igmp s kind w) := by
  unfold State.igmp
  try dsimp only
  with_reducible repeat' first
    | assumption | intro _ | apply State.place_keeps | apply Keeps.foldl | apply Keeps.ite | split | dsimp only
    | (refine Keeps.mk' ?_ rfl ?_ <;> [skip; (simp only [State.lens]; done)])
    | (refine Keeps.mk' ?_ rfl ?_ <;> [skip; (simp [State.lens]; done)])

theorem State.arpAsk_keeps {s0 s : State} (h : Keeps s0 s) (w : Flow) : Keeps s0 (State.arpAsk s w) := by
  unfold State.arpAsk
  try dsimp only
  with_reducible repeat' first
    | assumption | intro _ | apply State.place_keeps | apply Keeps.foldl | apply Keeps.ite | split | dsimp only
    | (refine Keeps.mk' ?_ rfl ?_ <;> [skip; (simp only [State.lens]; done)])
    | (refine Keeps.mk' ?_ rfl ?_ <;> [skip; (simp [State.lens]; done)])

theorem State.netLink_keeps {s0 s : State} (h : Keeps s0 s) (k : Nat) : Keeps s0 (State.netLink s k) := by
  unfold State.netLink
  try dsimp only
  with_reducible repeat' first | assumption | apply State.event_keeps

theorem State.ringNext_keeps {s0 s : State} (h : Keeps s0 s) (k r : Nat) : Keeps s0 (State.ringNext s k r) := by
  unfold State.ringNext
  try dsimp only
  with_reducible repeat' first | assumption | apply State.setReg_keeps

theorem State.descDone_keeps {s0 s : State} (h : Keeps s0 s) (k r status ns tag : Nat) : Keeps s0 (State.descDone s k r status ns tag) := by
  unfold State.descDone
  try dsimp only
  with_reducible repeat' first
    | assumption | intro _ | apply State.memWrite_keeps | apply State.ringNext_keeps | apply Keeps.foldl
    | apply Keeps.ite | split | dsimp only | (refine Keeps.mk' ?_ rfl ?_ <;> [skip; (simp only [State.lens]; done)])
    | (refine Keeps.mk' ?_ rfl ?_ <;> [skip; (simp [State.lens]; done)])

theorem fillRing_keeps_eq {s0 t : State} {k r tag ns : Nat} (n : Nat) : ∀ {first : Bool} {bs : List Byte} {s : State},
    fillRing k r tag ns first n bs s = some t → Keeps s0 s → Keeps s0 t := by
  induction n with
  | zero => intro _ _ _ e _; simp [fillRing] at e
  | succ n ih =>
    intro first bs s e h
    have h1 : Keeps s0 _ := State.descDone_keeps (State.memWrite_keeps h (leNat (s.readBytes (descAddr s k r) 8)) (bs.take (bufSize s k r))) k r
      (2 ^ 31 + b2n first * 2 ^ 30 + b2n (bs.drop (bufSize s k r)).isEmpty * 2 ^ 29 + b2n first * 2 ^ 25 + (bs.take (bufSize s k r)).length) ns tag
    unfold fillRing at e
    dsimp only at e
    split at e
    · cases e; exact h1
    · exact ih e h1

theorem discardRing_keeps {s0 : State} (k r n : Nat) : ∀ s : State, Keeps s0 s → Keeps s0 (discardRing k r n s) := by
  induction n with
  | zero => intro _ h; exact h
  | succ n ih => intro s h; exact ih _ (State.descDone_keeps h _ _ _ _ _)

theorem State.hangRecord_keeps {s0 s : State} (h : Keeps s0 s) (q : BusReq) (t : Nat) : Keeps s0 (State.hangRecord s q t) := by
  unfold State.hangRecord
  try dsimp only
  with_reducible repeat' first
    | assumption | apply State.setReg_keeps | apply State.raise_keeps | apply State.setReg64_keeps | apply State.count_keeps
    | apply State.report_keeps

theorem State.engHang_keeps {s0 s : State} (h : Keeps s0 s) (a : Nat) (write : Bool) : Keeps s0 (State.engHang s a write) :=
  State.hangRecord_keeps h _ _

theorem State.toRing_keeps {s0 s : State} (h : Keeps s0 s) (k r tag : Nat) (bs : List Byte) : Keeps s0 (State.toRing s k r tag bs).1 := by
  unfold State.toRing
  dsimp only
  split
  · exact discardRing_keeps _ _ _ _ (State.engHang_keeps h _ _)
  · split
    · rename_i e; dsimp only; exact State.netCount_keeps (fillRing_keeps_eq _ e h) _ _ _
    · dsimp only; exact State.netErr_keeps (State.netCount_keeps (discardRing_keeps _ _ _ _ h) _ _ _) _ _

theorem State.placeAll_keeps {s0 s : State} (h : Keeps s0 s) (w : Flow) (f first n : Nat) (pl : List Byte) : Keeps s0 (State.placeAll s w f first n pl) := by
  unfold State.placeAll
  try dsimp only
  with_reducible repeat' first
    | assumption | apply Keeps.ite | split | dsimp only
    | (refine Keeps.mk' ?_ rfl ?_ <;> [skip; (simp only [State.lens]; done)])

theorem State.pathSeen_keeps {s0 s : State} (h : Keeps s0 s) (f path : Nat) : Keeps s0 (State.pathSeen s f path) := by
  unfold State.pathSeen
  try dsimp only
  with_reducible repeat' first | assumption | apply State.count_keeps | apply State.modFlowRt_keeps

theorem State.dupSeen_keeps {s0 s : State} (h : Keeps s0 s) (f path e : Nat) (w : Flow) : Keeps s0 (State.dupSeen s f path e w) := by
  unfold State.dupSeen
  try dsimp only
  with_reducible repeat' first | assumption | apply State.count_keeps | apply State.modFlowRt_keeps

theorem State.recSeen_keeps {s0 s : State} (h : Keeps s0 s) (f e place : Nat) (fresh : Bool) : Keeps s0 (State.recSeen s f e place fresh) := by
  unfold State.recSeen
  try dsimp only
  with_reducible repeat' first | assumption | apply State.modFlowRt_keeps

theorem State.recPlaced_keeps {s0 s : State} (h : Keeps s0 s) (f path e : Nat) : Keeps s0 (State.recPlaced s f path e) := by
  unfold State.recPlaced
  try dsimp only
  with_reducible repeat' first | assumption | apply State.modFlowRt_keeps

theorem State.depacket_keeps {s0 s : State} (h : Keeps s0 s) (f path : Nat) (w : Flow) (q ts : Nat) (pl : List Byte) : Keeps s0 (State.depacket s f path w q ts pl) := by
  unfold State.depacket
  try dsimp only
  with_reducible repeat' first
    | assumption | apply State.count_keeps | apply State.placeAll_keeps | apply State.pathSeen_keeps
    | apply State.dupSeen_keeps | apply State.recSeen_keeps | apply State.recPlaced_keeps | apply Keeps.ite | split | dsimp only

theorem State.rtp_keeps {s0 s : State} (h : Keeps s0 s) (f path : Nat) (b : List Byte) : Keeps s0 (State.rtp s f path b) := by
  unfold State.rtp
  try dsimp only
  with_reducible repeat' first
    | assumption | apply State.count_keeps | apply State.depacket_keeps | apply Keeps.ite | split | dsimp only

theorem State.pathDown_keeps {s0 s : State} (h : Keeps s0 s) (f : Nat) (second : Bool) : Keeps s0 (State.pathDown s f second) := by
  unfold State.pathDown
  try dsimp only
  with_reducible repeat' first | assumption | apply State.modFlowRt_keeps

theorem execPathDown_keeps_eq {s0 s t₀ : State} {f : Fin 256} {second : Bool} (e₀ : execPathDown f second s = .next t₀) (h₀ : Keeps s0 s) : Keeps s0 t₀ := by
  unfold execPathDown at e₀
  try dsimp only at e₀
  repeat' split at e₀
  all_goals first
    | (obtain rfl := Host.Outcome.next.inj e₀
       with_reducible repeat' first | assumption | apply State.pathDown_keeps)
    | (cases e₀; done)

theorem State.flowClose_keeps {s0 s : State} (h : Keeps s0 s) (f : Nat) : Keeps s0 (State.flowClose s f) := by
  unfold State.flowClose
  try dsimp only
  with_reducible repeat' first
    | assumption | apply State.count_keeps | apply State.modFlowRt_keeps | apply Keeps.ite | split | dsimp only
    | (refine Keeps.mk' ?_ rfl ?_ <;> [skip; (simp only [State.lens]; done)])

theorem State.netClose_keeps {s0 s : State} (h : Keeps s0 s) : Keeps s0 (State.netClose s) := by
  unfold State.netClose
  try dsimp only
  with_reducible repeat' first
    | assumption | intro _ | apply State.flowClose_keeps | apply Keeps.foldl | apply Keeps.ite | split | dsimp only

theorem State.onFlows_keeps {s0 s : State} (h : Keeps s0 s) (p : Nat → Flow → Bool) (g : FlowRt → FlowRt) : Keeps s0 (State.onFlows s p g) := by
  unfold State.onFlows
  try dsimp only
  with_reducible repeat' first
    | assumption | intro _ | apply State.modFlowRt_keeps | apply Keeps.foldl | apply Keeps.ite | split | dsimp only

theorem State.arpIn_keeps {s0 s : State} (h : Keeps s0 s) (k : Nat) (b : List Byte) : Keeps s0 (State.arpIn s k b) := by
  unfold State.arpIn
  try dsimp only
  with_reducible repeat' first
    | assumption | intro _ | apply State.place_keeps | apply State.onFlows_keeps | apply Keeps.foldl
    | apply Keeps.ite | split | dsimp only | (refine Keeps.mk' ?_ rfl ?_ <;> [skip; (simp only [State.lens]; done)])
    | (refine Keeps.mk' ?_ rfl ?_ <;> [skip; (simp [State.lens]; done)])

theorem State.bestEffort_keeps {s0 s : State} (h : Keeps s0 s) (k : Nat) (f : Frame) : Keeps s0 (State.bestEffort s k f) := by
  unfold State.bestEffort
  try dsimp only
  with_reducible repeat' first
    | assumption | intro _ | apply State.count_keeps | apply State.place_keeps | apply State.onFlows_keeps
    | apply State.arpIn_keeps | apply Keeps.foldl | apply Keeps.ite | split | dsimp only
    | (refine Keeps.mk' ?_ rfl ?_ <;> [skip; (simp only [State.lens]; done)])
    | (refine Keeps.mk' ?_ rfl ?_ <;> [skip; (simp [State.lens]; done)])

theorem State.flowFrame_keeps {s0 s : State} (h : Keeps s0 s) (k e : Nat) (p : Ipv4) (bs : List Byte) : Keeps s0 (State.flowFrame s k e p bs) := by
  unfold State.flowFrame
  try dsimp only
  with_reducible repeat' first
    | assumption | intro _ | apply State.count_keeps | apply State.netCount_keeps | apply State.toRing_keeps
    | apply State.rtp_keeps | apply Keeps.foldl | apply Keeps.ite | split | dsimp only
    | (refine Keeps.mk' ?_ rfl ?_ <;> [skip; (simp only [State.lens]; done)])
    | (refine Keeps.mk' ?_ rfl ?_ <;> [skip; (simp [State.lens]; done)])

theorem State.kcpFrame_keeps {s0 s : State} (h : Keeps s0 s) (k : Fin 6) (p : Ipv4) (bs : List Byte) : Keeps s0 (State.kcpFrame s k p bs) := by
  unfold State.kcpFrame
  try dsimp only
  with_reducible repeat' first
    | assumption | intro _ | apply State.netCount_keeps | apply State.toRing_keeps | apply Keeps.foldl
    | apply Keeps.ite | split | dsimp only | (refine Keeps.mk' ?_ rfl ?_ <;> [skip; (simp only [State.lens]; done)])
    | (refine Keeps.mk' ?_ rfl ?_ <;> [skip; (simp [State.lens]; done)])

theorem State.classify_keeps {s0 s : State} (h : Keeps s0 s) (k : Fin 6) (f : Frame) (bs : List Byte) : Keeps s0 (State.classify s k f bs) := by
  unfold State.classify
  try dsimp only
  with_reducible repeat' first
    | assumption | intro _ | apply State.toRing_keeps | apply State.bestEffort_keeps | apply State.flowFrame_keeps
    | apply State.kcpFrame_keeps | apply Keeps.foldl | apply Keeps.ite | split | dsimp only
    | (refine Keeps.mk' ?_ rfl ?_ <;> [skip; (simp only [State.lens]; done)])
    | (refine Keeps.mk' ?_ rfl ?_ <;> [skip; (simp [State.lens]; done)])

theorem State.flushOwn_keeps {s0 s : State} (h : Keeps s0 s) (k r : Nat) : Keeps s0 (State.flushOwn s k r) := by
  unfold State.flushOwn
  try dsimp only
  with_reducible repeat' first
    | assumption | intro _ | apply State.modNp_keeps | apply State.sendOwn_keeps | apply Keeps.foldl
    | apply Keeps.ite | split | dsimp only | (refine Keeps.mk' ?_ rfl ?_ <;> [skip; (simp only [State.lens]; done)])
    | (refine Keeps.mk' ?_ rfl ?_ <;> [skip; (simp [State.lens]; done)])

theorem State.sendMedia_keeps {s0 s : State} (h : Keeps s0 s) (f k mac : Nat) (p : TxPkt) : Keeps s0 (State.sendMedia s f k mac p) := by
  unfold State.sendMedia
  try dsimp only
  with_reducible repeat' first
    | assumption | intro _ | apply State.count_keeps | apply State.emit_keeps | apply State.modNp_keeps
    | apply State.netCount_keeps | apply Keeps.foldl | apply Keeps.ite | split | dsimp only
    | (refine Keeps.mk' ?_ rfl ?_ <;> [skip; (simp only [State.lens]; done)])
    | (refine Keeps.mk' ?_ rfl ?_ <;> [skip; (simp [State.lens]; done)])

theorem State.dropMedia_keeps {s0 s : State} (h : Keeps s0 s) (f k : Nat) : Keeps s0 (State.dropMedia s f k) := by
  unfold State.dropMedia
  try dsimp only
  with_reducible repeat' first | assumption | apply State.count_keeps | apply State.netCount_keeps | apply State.netErr_keeps

theorem State.sendWaiting_keeps {s0 s : State} (h : Keeps s0 s) (k : Nat) : Keeps s0 (State.sendWaiting s k) := by
  unfold State.sendWaiting
  try dsimp only
  with_reducible repeat' first
    | assumption | intro _ | apply State.modNp_keeps | apply State.sendMedia_keeps | apply State.dropMedia_keeps
    | apply Keeps.foldl | apply Keeps.ite | split | dsimp only
    | (refine Keeps.mk' ?_ rfl ?_ <;> [skip; (simp only [State.lens]; done)])

theorem State.resume_keeps {s0 s : State} (h : Keeps s0 s) (k : Nat) : Keeps s0 (State.resume s k) :=
  State.flushOwn_keeps (State.flushOwn_keeps (State.sendWaiting_keeps h _) _ _) _ _

theorem execFrameReceived_keeps_eq {s0 s t₀ : State} {k : Fin 6} {bs : List Byte} {symbol fifo mPacket : Bool} (e₀ : execFrameReceived k bs symbol fifo mPacket s = .next t₀) (h₀ : Keeps s0 s) : Keeps s0 t₀ := by
  unfold execFrameReceived at e₀
  try dsimp only at e₀
  repeat' split at e₀
  all_goals first
    | (obtain rfl := Host.Outcome.next.inj e₀
       with_reducible repeat' first
         | assumption | intro _ | apply State.modNp_keeps | apply State.netCount_keeps | apply State.netErr_keeps
         | apply State.classify_keeps | apply State.resume_keeps | apply Keeps.foldl | apply Keeps.ite | split
         | dsimp only | (refine Keeps.mk' ?_ rfl ?_ <;> [skip; (simp [State.lens]; done)]))
    | (cases e₀; done)

theorem execPositionDatagram_keeps_eq {s0 s t₀ : State} {f : Fin 256} {b : List Byte} (e₀ : execPositionDatagram f b s = .next t₀) (h₀ : Keeps s0 s) : Keeps s0 t₀ := by
  unfold execPositionDatagram at e₀
  try dsimp only at e₀
  repeat' split at e₀
  all_goals first
    | (obtain rfl := Host.Outcome.next.inj e₀
       with_reducible repeat' first
         | assumption | apply State.count_keeps | apply State.enter_keeps | apply State.modFlowRt_keeps | apply Keeps.ite
         | split | dsimp only | (refine Keeps.mk' ?_ rfl ?_ <;> [skip; (simp only [State.lens]; done)]))
    | (cases e₀; done)

theorem State.offerMedia_keeps {s0 s : State} (h : Keeps s0 s) (f k : Nat) (p : TxPkt) : Keeps s0 (State.offerMedia s f k p) := by
  unfold State.offerMedia
  try dsimp only
  with_reducible repeat' first
    | assumption | intro _ | apply State.count_keeps | apply State.modNp_keeps | apply State.sendMedia_keeps
    | apply State.dropMedia_keeps | apply Keeps.foldl | apply Keeps.ite | split | dsimp only
    | (refine Keeps.mk' ?_ rfl ?_ <;> [skip; (simp only [State.lens]; done)])
    | (refine Keeps.mk' ?_ rfl ?_ <;> [skip; (simp [State.lens]; done)])

theorem State.offer_keeps {s0 s : State} (h : Keeps s0 s) (f : Nat) (p : TxPkt) : Keeps s0 (State.offer s f p) := by
  unfold State.offer
  try dsimp only
  with_reducible repeat' first
    | assumption | intro _ | apply State.count_keeps | apply State.offerMedia_keeps | apply Keeps.foldl | apply Keeps.ite
    | split | dsimp only

theorem execPacketTransmit_keeps_eq {s0 s t₀ : State} {f : Fin 256} (e₀ : execPacketTransmit f s = .next t₀) (h₀ : Keeps s0 s) : Keeps s0 t₀ := by
  unfold execPacketTransmit at e₀
  try dsimp only at e₀
  repeat' split at e₀
  all_goals first
    | (obtain rfl := Host.Outcome.next.inj e₀
       with_reducible repeat' first | assumption | apply State.modFlowRt_keeps | apply State.offer_keeps)
    | (cases e₀; done)

theorem execTxLateDrop_keeps_eq {s0 s t₀ : State} {k : Fin 4} (e₀ : execTxLateDrop k s = .next t₀) (h₀ : Keeps s0 s) : Keeps s0 t₀ := by
  unfold execTxLateDrop at e₀
  try dsimp only at e₀
  repeat' split at e₀
  all_goals first
    | (obtain rfl := Host.Outcome.next.inj e₀
       with_reducible repeat' first | assumption | apply State.modNp_keeps | apply State.dropMedia_keeps)
    | (cases e₀; done)

theorem execPauseExpiry_keeps_eq {s0 s t₀ : State} {k : Fin 6} (e₀ : execPauseExpiry k s = .next t₀) (h₀ : Keeps s0 s) : Keeps s0 t₀ := by
  unfold execPauseExpiry at e₀
  try dsimp only at e₀
  repeat' split at e₀
  all_goals first
    | (obtain rfl := Host.Outcome.next.inj e₀
       with_reducible repeat' first
         | assumption | intro _ | apply State.modNp_keeps | apply State.resume_keeps | apply Keeps.foldl
         | apply Keeps.ite | split | dsimp only | (refine Keeps.mk' ?_ rfl ?_ <;> [skip; (simp [State.lens]; done)]))
    | (cases e₀; done)

theorem State.netActive_keeps {s0 s : State} (h : Keeps s0 s)  : Keeps s0 (State.netActive s) := by
  unfold State.netActive
  try dsimp only
  with_reducible repeat' first
    | assumption | intro _ | apply State.place_keeps | apply State.offer_keeps | apply Keeps.foldl | apply Keeps.ite
    | split | dsimp only | (refine Keeps.mk' ?_ rfl ?_ <;> [skip; (simp only [State.lens]; done)])
    | (refine Keeps.mk' ?_ rfl ?_ <;> [skip; (simp [State.lens]; done)])

theorem returnUnsent_keeps {s0 : State} (k r n : Nat) : ∀ s : State, Keeps s0 s → Keeps s0 (returnUnsent k r n s) := by
  induction n with
  | zero => intro _ h; exact h
  | succ n ih =>
    intro s h; exact ih _ (State.ringNext_keeps (Keeps.ite (State.memWrite_keeps h _ _) h) _ _)

theorem State.unsent_keeps {s0 s : State} (h : Keeps s0 s) (k : Nat) : Keeps s0 (State.unsent s k) := by
  unfold State.unsent
  try dsimp only
  with_reducible repeat' first
    | assumption | intro _ | apply returnUnsent_keeps | apply Keeps.foldl | apply Keeps.ite | split | dsimp only
    | (refine Keeps.mk' ?_ rfl ?_ <;> [skip; (simp only [State.lens]; done)])
    | (refine Keeps.mk' ?_ rfl ?_ <;> [skip; (simp [State.lens]; done)])

theorem execRingFrameTransmit_keeps_eq {s0 s t₀ : State} {k : Fin 6} {frags : Nat} (e₀ : execRingFrameTransmit k frags s = .next t₀) (h₀ : Keeps s0 s) : Keeps s0 t₀ := by
  unfold execRingFrameTransmit at e₀
  try dsimp only at e₀
  repeat' split at e₀
  all_goals first
    | (obtain rfl := Host.Outcome.next.inj e₀
       with_reducible repeat' first
         | assumption | intro _ | apply State.emit_keeps | apply State.txStamp_keeps | apply State.netCount_keeps
         | apply State.descDone_keeps | apply State.engHang_keeps | apply State.unsent_keeps | apply Keeps.foldl
         | apply Keeps.ite | split | dsimp only | (refine Keeps.mk' ?_ rfl ?_ <;> [skip; (simp [State.lens]; done)]))
    | (cases e₀; done)

theorem State.sendPause_keeps {s0 s : State} (h : Keeps s0 s) (k q : Nat) : Keeps s0 (State.sendPause s k q) := by
  unfold State.sendPause
  try dsimp only
  with_reducible repeat' first
    | assumption | intro _ | apply State.emit_keeps | apply State.modNp_keeps | apply State.netCount_keeps
    | apply Keeps.foldl | apply Keeps.ite | split | dsimp only
    | (refine Keeps.mk' ?_ rfl ?_ <;> [skip; (simp only [State.lens]; done)])
    | (refine Keeps.mk' ?_ rfl ?_ <;> [skip; (simp [State.lens]; done)])

theorem State.pauseEnd_keeps {s0 s : State} (h : Keeps s0 s) (k : Nat) : Keeps s0 (State.pauseEnd s k) := by
  unfold State.pauseEnd
  try dsimp only
  with_reducible repeat' first
    | assumption | intro _ | apply State.sendPause_keeps | apply Keeps.foldl | apply Keeps.ite | split | dsimp only
    | (refine Keeps.mk' ?_ rfl ?_ <;> [skip; (simp only [State.lens]; done)])
    | (refine Keeps.mk' ?_ rfl ?_ <;> [skip; (simp [State.lens]; done)])

theorem execPauseTx_keeps_eq {s0 s t₀ : State} {k : Fin 2} (e₀ : execPauseTx k s = .next t₀) (h₀ : Keeps s0 s) : Keeps s0 t₀ := by
  unfold execPauseTx at e₀
  try dsimp only at e₀
  repeat' split at e₀
  all_goals first
    | (obtain rfl := Host.Outcome.next.inj e₀
       with_reducible repeat' first
         | assumption | intro _ | apply State.sendPause_keeps | apply State.pauseEnd_keeps | apply Keeps.foldl
         | apply Keeps.ite | split | dsimp only | (refine Keeps.mk' ?_ rfl ?_ <;> [skip; (simp [State.lens]; done)]))
    | (cases e₀; done)

theorem State.ringTailWrite_keeps {s0 s : State} (h : Keeps s0 s) (k r : Nat) (v : Word) : Keeps s0 (State.ringTailWrite s k r v) := by
  unfold State.ringTailWrite
  try dsimp only
  with_reducible repeat' first
    | assumption | intro _ | apply State.setReg_keeps | apply State.unsent_keeps | apply State.pauseEnd_keeps
    | apply Keeps.foldl | apply Keeps.ite | split | dsimp only
    | (refine Keeps.mk' ?_ rfl ?_ <;> [skip; (simp only [State.lens]; done)])
    | (refine Keeps.mk' ?_ rfl ?_ <;> [skip; (simp [State.lens]; done)])

theorem execNetportRingTail_keeps_eq {s0 s t₀ : State} {k : Fin 6} {r : Fin 4} {v : Word} (e₀ : execNetportRingTail k r v s = .next t₀) (h₀ : Keeps s0 s) : Keeps s0 t₀ := by
  unfold execNetportRingTail at e₀
  try dsimp only at e₀
  repeat' split at e₀
  all_goals first
    | (obtain rfl := Host.Outcome.next.inj e₀
       assumption)
    | (cases e₀; done)
    | (refine guarded_keeps_eq e₀ ?_
       with_reducible repeat' first | assumption | apply State.ringTailWrite_keeps)

theorem State.preemptStart_keeps {s0 s : State} (h : Keeps s0 s) (k : Nat) : Keeps s0 (State.preemptStart s k) := by
  unfold State.preemptStart
  try dsimp only
  with_reducible repeat' first | assumption | apply State.modNp_keeps

theorem State.linkDown_keeps {s0 s : State} (h : Keeps s0 s) (k : Nat) : Keeps s0 (State.linkDown s k) := by
  unfold State.linkDown
  try dsimp only
  with_reducible repeat' first
    | assumption | intro _ | apply State.modNp_keeps | apply State.netCount_keeps | apply State.netErr_keeps
    | apply State.netLink_keeps | apply State.dropMedia_keeps | apply State.unsent_keeps | apply Keeps.foldl
    | apply Keeps.ite | split | dsimp only | (refine Keeps.mk' ?_ rfl ?_ <;> [skip; (simp only [State.lens]; done)])
    | (refine Keeps.mk' ?_ rfl ?_ <;> [skip; (simp [State.lens]; done)])

theorem execLinkDown_keeps_eq {s0 s t₀ : State} {k : Fin 6} (e₀ : execLinkDown k s = .next t₀) (h₀ : Keeps s0 s) : Keeps s0 t₀ := by
  unfold execLinkDown at e₀
  try dsimp only at e₀
  repeat' split at e₀
  all_goals first
    | (obtain rfl := Host.Outcome.next.inj e₀
       with_reducible repeat' first | assumption | apply State.linkDown_keeps)
    | (cases e₀; done)

theorem execLinkUp_keeps_eq {s0 s t₀ : State} {k : Fin 6} (e₀ : execLinkUp k s = .next t₀) (h₀ : Keeps s0 s) : Keeps s0 t₀ := by
  unfold execLinkUp at e₀
  try dsimp only at e₀
  repeat' split at e₀
  all_goals first
    | (obtain rfl := Host.Outcome.next.inj e₀
       with_reducible repeat' first
         | assumption | apply State.modNp_keeps | apply State.netLink_keeps | apply State.preemptStart_keeps)
    | (cases e₀; done)

theorem execPreemptVerifyDone_keeps_eq {s0 s t₀ : State} {k : Fin 4} {ok : Bool} (e₀ : execPreemptVerifyDone k ok s = .next t₀) (h₀ : Keeps s0 s) : Keeps s0 t₀ := by
  unfold execPreemptVerifyDone at e₀
  try dsimp only at e₀
  repeat' split at e₀
  all_goals first
    | (obtain rfl := Host.Outcome.next.inj e₀
       with_reducible repeat' first | assumption | apply State.modNp_keeps | apply State.netErr_keeps)
    | (cases e₀; done)

theorem execSpeedReduction_keeps_eq {s0 s t₀ : State} {k : Fin 4} (e₀ : execSpeedReduction k s = .next t₀) (h₀ : Keeps s0 s) : Keeps s0 t₀ := by
  unfold execSpeedReduction at e₀
  try dsimp only at e₀
  repeat' split at e₀
  all_goals first
    | (obtain rfl := Host.Outcome.next.inj e₀
       with_reducible repeat' first | assumption | apply State.modNp_keeps | apply State.linkDown_keeps)
    | (cases e₀; done)

theorem State.speedBack_keeps {s0 s : State} (h : Keeps s0 s) (k : Nat) : Keeps s0 (State.speedBack s k) := by
  unfold State.speedBack
  try dsimp only
  with_reducible repeat' first
    | assumption | apply State.modNp_keeps | apply State.linkDown_keeps | apply Keeps.ite | split | dsimp only

theorem execLpFail_keeps_eq {s0 s t₀ : State} {k : Fin 4} (e₀ : execLpFail k s = .next t₀) (h₀ : Keeps s0 s) : Keeps s0 t₀ := by
  unfold execLpFail at e₀
  try dsimp only at e₀
  repeat' split at e₀
  all_goals first
    | (obtain rfl := Host.Outcome.next.inj e₀
       with_reducible repeat' first
         | assumption | apply State.lower_keeps | apply State.netErr_keeps | apply State.speedBack_keeps)
    | (cases e₀; done)

theorem execSpeedRestore_keeps_eq {s0 s t₀ : State} {k : Fin 4} (e₀ : execSpeedRestore k s = .next t₀) (h₀ : Keeps s0 s) : Keeps s0 t₀ := by
  unfold execSpeedRestore at e₀
  try dsimp only at e₀
  repeat' split at e₀
  all_goals first
    | (obtain rfl := Host.Outcome.next.inj e₀
       with_reducible repeat' first | assumption | apply State.speedBack_keeps)
    | (cases e₀; done)

theorem State.speedCheck_keeps {s0 s : State} (h : Keeps s0 s) : Keeps s0 (State.speedCheck s) := by
  unfold State.speedCheck
  try dsimp only
  with_reducible repeat' first
    | assumption | intro _ | apply State.speedBack_keeps | apply Keeps.foldl | apply Keeps.ite | split | dsimp only

theorem execArpRefresh_keeps_eq {s0 s t₀ : State} {f : Fin 256} (e₀ : execArpRefresh f s = .next t₀) (h₀ : Keeps s0 s) : Keeps s0 t₀ := by
  unfold execArpRefresh at e₀
  try dsimp only at e₀
  repeat' split at e₀
  all_goals first
    | (obtain rfl := Host.Outcome.next.inj e₀
       with_reducible repeat' first | assumption | apply State.arpAsk_keeps)
    | (cases e₀; done)

theorem execIgmpUnsolicitedReport_keeps_eq {s0 s t₀ : State} {f : Fin 256} (e₀ : execIgmpUnsolicitedReport f s = .next t₀) (h₀ : Keeps s0 s) : Keeps s0 t₀ := by
  unfold execIgmpUnsolicitedReport at e₀
  try dsimp only at e₀
  repeat' split at e₀
  all_goals first
    | (obtain rfl := Host.Outcome.next.inj e₀
       with_reducible repeat' first | assumption | apply State.modFlowRt_keeps | apply State.igmp_keeps)
    | (cases e₀; done)

theorem State.ctlApplied_keeps {s0 s : State} (h : Keeps s0 s) (k : Nat) (old : Word) : Keeps s0 (State.ctlApplied s k old) := by
  unfold State.ctlApplied
  try dsimp only
  with_reducible repeat' first
    | assumption | apply State.modNp_keeps | apply State.preemptStart_keeps | apply State.linkDown_keeps
    | apply State.speedBack_keeps | apply Keeps.ite | split | dsimp only

theorem State.netCtlWrite_keeps {s0 s : State} (h : Keeps s0 s) (k : Nat) (v : Word) : Keeps s0 (State.netCtlWrite s k v) := by
  unfold State.netCtlWrite
  try dsimp only
  with_reducible repeat' first | assumption | apply State.setReg_keeps | apply State.ctlApplied_keeps

theorem specNetportSet_ok : specNetportSet.Ok := by
  refine ⟨fun c h => ?_, fun c bad h => ?_, fun c h => ?_, fun c h => ?_, fun c h => ?_⟩
  all_goals
    dsimp only [specNetportSet]
    with_reducible repeat' first
      | assumption | apply State.setReg_keeps | apply State.putReg_keeps | apply State.modNp_keeps
      | apply State.preemptStart_keeps | apply State.ctlApplied_keeps | apply Keeps.ite | split | dsimp only

theorem specNetportRead_ok : specNetportRead.Ok := by
  refine ⟨fun c h => ?_, fun c bad h => ?_, fun c h => ?_, fun c h => ?_, fun c h => ?_⟩
  all_goals
    dsimp only [specNetportRead]
    with_reducible repeat' first | assumption | apply State.snapCnts_keeps | apply readOk_keeps

theorem specNetKcpSet_ok : specNetKcpSet.Ok := by
  refine ⟨fun c h => ?_, fun c bad h => ?_, fun c h => ?_, fun c h => ?_, fun c h => ?_⟩
  all_goals
    dsimp only [specNetKcpSet]
    with_reducible repeat' first
      | assumption | intro _ | apply State.setReg_keeps | apply State.speedCheck_keeps | apply Keeps.foldl | apply Keeps.ite
      | split | dsimp only

theorem State.setFlow_keeps {s0 s : State} (h : Keeps s0 s) (f : Nat) (w : Flow) : Keeps s0 (State.setFlow s f w) := by
  unfold State.setFlow
  try dsimp only
  with_reducible repeat' first
    | assumption | apply State.modFlowRt_keeps | apply State.flowEntries_keeps | apply State.clearPlayout_keeps
    | apply State.igmp_keeps | apply State.arpAsk_keeps | apply State.speedCheck_keeps | apply Keeps.ite | split
    | dsimp only | (refine Keeps.mk' ?_ rfl ?_ <;> [skip; (simp only [State.lens]; done)])

theorem specFlowSet_ok : specFlowSet.Ok := by
  refine ⟨fun c h => ?_, fun c bad h => ?_, fun c h => ?_, fun c h => ?_, fun c h => ?_⟩
  all_goals
    dsimp only [specFlowSet]
    with_reducible repeat' first | assumption | apply State.setFlow_keeps | apply Keeps.ite | split | dsimp only

theorem specFlowDelete_ok : specFlowDelete.Ok := by
  refine ⟨fun c h => ?_, fun c bad h => ?_, fun c h => ?_, fun c h => ?_, fun c h => ?_⟩
  all_goals
    dsimp only [specFlowDelete]
    with_reducible repeat' first | assumption | apply State.setFlow_keeps | apply Keeps.ite | split | dsimp only

theorem specFlowRead_ok : specFlowRead.Ok := by
  refine ⟨fun c h => ?_, fun c bad h => ?_, fun c h => ?_, fun c h => ?_, fun c h => ?_⟩
  all_goals
    dsimp only [specFlowRead]
    with_reducible repeat' first | assumption | apply State.snapCnts_keeps | apply readOk_keeps

theorem State.netHand_keeps {s0 s : State} (h : Keeps s0 s) : Keeps s0 (State.netHand s) := by
  unfold State.netHand
  try dsimp only
  with_reducible repeat' first
    | assumption | apply Keeps.ite | split | dsimp only
    | (refine Keeps.mk' ?_ rfl ?_ <;> [skip; (simp only [State.lens]; done)])

theorem State.netInit_keeps {s0 s : State} (h : Keeps s0 s) : Keeps s0 (State.netInit s) := by
  unfold State.netInit
  try dsimp only
  with_reducible repeat' first
    | assumption | intro _ | apply State.hashRefresh_keeps | apply Keeps.foldl | apply Keeps.ite | split | dsimp only

end Sys2Proof.Machine
end

