-- ==== Sys2Proof/Laws/KeepsSystem.lean ====
section
/-! SUPPORT. What is kept (Laws/Keeps.lean) by the pair, power, start-up, the transports, registers, the bus and DMA. -/

set_option linter.unusedTactic false
set_option linter.unreachableTactic false
set_option linter.unusedVariables false

namespace Sys2Proof.Machine

/-! ### Machine/Pairing.lean -/

theorem State.peerNews_keeps {s0 s : State} (h : Keeps s0 s) (old : State) : Keeps s0 (State.peerNews s old) := by
  unfold State.peerNews
  try dsimp only
  with_reducible repeat' first | assumption | apply State.peerState_keeps | apply Keeps.ite | split | dsimp only

theorem State.holdBlock_keeps {s0 s : State} (h : Keeps s0 s) : Keeps s0 (State.holdBlock s) := by
  unfold State.holdBlock
  try dsimp only
  with_reducible repeat' first
    | assumption | apply Keeps.ite | split | dsimp only | (refine Keeps.mk' ?_ rfl ?_ <;> [skip; (simp [State.lens]; done)])

theorem State.coldHold_keeps {s0 s : State} (h : Keeps s0 s) : Keeps s0 (State.coldHold s) := by
  unfold State.coldHold
  try dsimp only
  with_reducible repeat' first
    | assumption | intro _ | apply State.fresh_keeps | apply State.modFeedRt_keeps | apply State.holdBlock_keeps
    | apply Keeps.foldl | apply Keeps.ite | split | dsimp only
    | (refine Keeps.mk' ?_ rfl ?_ <;> [skip; (simp only [State.lens]; done)])

theorem State.loupeTakeover_keeps {s0 s : State} (h : Keeps s0 s) : Keeps s0 (State.loupeTakeover s) := by
  unfold State.loupeTakeover
  try dsimp only
  with_reducible repeat' first
    | assumption | apply Keeps.ite | split | dsimp only | (refine Keeps.mk' ?_ rfl ?_ <;> [skip; (simp [State.lens]; done)])

theorem State.claimLine_keeps {s0 s : State} (h : Keeps s0 s) : Keeps s0 (State.claimLine s) := by
  unfold State.claimLine
  try dsimp only
  with_reducible repeat' first
    | assumption | apply State.count_keeps | apply State.eventAny_keeps | apply State.netActive_keeps
    | apply State.coldHold_keeps | apply State.loupeTakeover_keeps | apply Keeps.ite | split | dsimp only
    | (refine Keeps.mk' ?_ rfl ?_ <;> [skip; (simp only [State.lens]; done)])
    | (refine Keeps.mk' ?_ rfl ?_ <;> [skip; (simp [State.lens]; done)])

theorem State.tryClaim_keeps {s0 s : State} (h : Keeps s0 s) : Keeps s0 (State.tryClaim s) := by
  unfold State.tryClaim
  try dsimp only
  with_reducible repeat' first | assumption | apply State.claimLine_keeps | apply Keeps.ite | split | dsimp only

theorem execIlkBEdge_keeps_eq {s0 s t₀ : State}  (e₀ : execIlkBEdge s = .next t₀) (h₀ : Keeps s0 s) : Keeps s0 t₀ := by
  unfold execIlkBEdge at e₀
  try dsimp only at e₀
  repeat' split at e₀
  all_goals first
    | (obtain rfl := Host.Outcome.next.inj e₀
       with_reducible repeat' first
         | assumption | apply State.netActive_keeps | apply State.tryClaim_keeps | apply Keeps.ite | split | dsimp only
         | (refine Keeps.mk' ?_ rfl ?_ <;> [skip; (simp only [State.lens]; done)]))
    | (cases e₀; done)

theorem execIlkBFall_keeps_eq {s0 s t₀ : State}  (e₀ : execIlkBFall s = .next t₀) (h₀ : Keeps s0 s) : Keeps s0 t₀ := by
  unfold execIlkBFall at e₀
  try dsimp only at e₀
  repeat' split at e₀
  all_goals first
    | (obtain rfl := Host.Outcome.next.inj e₀
       with_reducible repeat' first
         | assumption | intro _ | apply State.count_keeps | apply State.cutMedia_keeps | apply Keeps.foldl
         | apply Keeps.ite | split | dsimp only | (refine Keeps.mk' ?_ rfl ?_ <;> [skip; (simp [State.lens]; done)]))
    | (cases e₀; done)

theorem execClaimTieTimeout_keeps_eq {s0 s t₀ : State}  (e₀ : execClaimTieTimeout s = .next t₀) (h₀ : Keeps s0 s) : Keeps s0 t₀ := by
  unfold execClaimTieTimeout at e₀
  try dsimp only at e₀
  repeat' split at e₀
  all_goals first
    | (obtain rfl := Host.Outcome.next.inj e₀
       with_reducible repeat' first | assumption | apply State.raise_keeps | apply State.releaseIlk_keeps)
    | (cases e₀; done)

theorem execIlkFault_keeps_eq {s0 s t₀ : State}  (e₀ : execIlkFault s = .next t₀) (h₀ : Keeps s0 s) : Keeps s0 t₀ := by
  unfold execIlkFault at e₀
  try dsimp only at e₀
  repeat' split at e₀
  all_goals first
    | (obtain rfl := Host.Outcome.next.inj e₀
       with_reducible repeat' first | assumption | apply State.raise_keeps | apply State.peerState_keeps)
    | (cases e₀; done)

theorem execNoticeRx_keeps_eq {s0 s t₀ : State} {cls : Nat} (e₀ : execNoticeRx cls s = .next t₀) (h₀ : Keeps s0 s) : Keeps s0 t₀ := by
  unfold execNoticeRx at e₀
  try dsimp only at e₀
  repeat' split at e₀
  all_goals first
    | (obtain rfl := Host.Outcome.next.inj e₀
       with_reducible repeat' first
         | assumption | apply Keeps.ite | split | dsimp only
         | (refine Keeps.mk' ?_ rfl ?_ <;> [skip; (simp only [State.lens]; done)]))
    | (cases e₀; done)

theorem execHandoverFail_keeps_eq {s0 s t₀ : State}  (e₀ : execHandoverFail s = .next t₀) (h₀ : Keeps s0 s) : Keeps s0 t₀ := by
  unfold execHandoverFail at e₀
  try dsimp only at e₀
  repeat' split at e₀
  all_goals first
    | (obtain rfl := Host.Outcome.next.inj e₀
       with_reducible repeat' first
         | assumption | apply State.raise_keeps | apply State.netActive_keeps | apply Keeps.ite | split | dsimp only
         | (refine Keeps.mk' ?_ rfl ?_ <;> [skip; (simp only [State.lens]; done)]))
    | (cases e₀; done)

theorem State.handoverBoundary_keeps {s0 s : State} (h : Keeps s0 s) : Keeps s0 (State.handoverBoundary s) := by
  unfold State.handoverBoundary
  try dsimp only
  with_reducible repeat' first
    | assumption | apply State.eventAny_keeps | apply State.releaseIlk_keeps | apply Keeps.ite | split | dsimp only
    | (refine Keeps.mk' ?_ rfl ?_ <;> [skip; (simp only [State.lens]; done)])

theorem execHeartbeatTx_keeps_eq {s0 s t₀ : State}  (e₀ : execHeartbeatTx s = .next t₀) (h₀ : Keeps s0 s) : Keeps s0 t₀ := by
  unfold execHeartbeatTx at e₀
  try dsimp only at e₀
  repeat' split at e₀
  all_goals first
    | (obtain rfl := Host.Outcome.next.inj e₀
       with_reducible repeat' first
         | assumption | intro _ | apply State.bezel_keeps | apply Keeps.foldl | apply Keeps.ite | split | dsimp only
         | (refine Keeps.mk' ?_ rfl ?_ <;> [skip; (simp [State.lens]; done)]))
    | (cases e₀; done)

theorem execBezelLink_keeps_eq {s0 s t₀ : State} {lane : Fin 2} (e₀ : execBezelLink lane s = .next t₀) (h₀ : Keeps s0 s) : Keeps s0 t₀ := by
  unfold execBezelLink at e₀
  try dsimp only at e₀
  repeat' split at e₀
  all_goals first
    | (obtain rfl := Host.Outcome.next.inj e₀
       with_reducible repeat' first
         | assumption | apply State.raise_keeps | apply State.count_keeps | apply State.peerState_keeps
         | apply State.report_keeps | apply Keeps.ite | split | dsimp only
         | (refine Keeps.mk' ?_ rfl ?_ <;> [skip; (simp only [State.lens]; done)]))
    | (cases e₀; done)

theorem State.reconSend_keeps {s0 s : State} (h : Keeps s0 s) : Keeps s0 (State.reconSend s) := by
  unfold State.reconSend
  try dsimp only
  with_reducible repeat' first
    | assumption | apply State.bezel_keeps | apply Keeps.ite | split | dsimp only
    | (refine Keeps.mk' ?_ rfl ?_ <;> [skip; (simp only [State.lens]; done)])

theorem execReconRx_keeps_eq {s0 s t₀ : State} {carats : List (Nat × Word)} (e₀ : execReconRx carats s = .next t₀) (h₀ : Keeps s0 s) : Keeps s0 t₀ := by
  unfold execReconRx at e₀
  try dsimp only at e₀
  repeat' split at e₀
  all_goals first
    | (obtain rfl := Host.Outcome.next.inj e₀
       with_reducible repeat' first | assumption | apply State.bezel_keeps)
    | (cases e₀; done)

theorem State.reconOverflow_keeps {s0 s : State} (h : Keeps s0 s) : Keeps s0 (State.reconOverflow s) := by
  unfold State.reconOverflow
  try dsimp only
  with_reducible repeat' first | assumption | apply State.raise_keeps | apply State.loseStep_keeps

theorem execReconDataRx_keeps_eq {s0 s t₀ : State} {blocks : List (Nat × Word × List Int)} {last : Bool} (e₀ : execReconDataRx blocks last s = .next t₀) (h₀ : Keeps s0 s) : Keeps s0 t₀ := by
  unfold execReconDataRx at e₀
  try dsimp only at e₀
  repeat' split at e₀
  all_goals first
    | (obtain rfl := Host.Outcome.next.inj e₀
       with_reducible repeat' first
         | assumption | apply State.count_keeps | apply State.reconOverflow_keeps | apply Keeps.ite | split | dsimp only
         | (refine Keeps.mk' ?_ rfl ?_ <;> [skip; (simp only [State.lens]; done)]))
    | (cases e₀; done)

theorem execReconDeadline_keeps_eq {s0 s t₀ : State}  (e₀ : execReconDeadline s = .next t₀) (h₀ : Keeps s0 s) : Keeps s0 t₀ := by
  unfold execReconDeadline at e₀
  try dsimp only at e₀
  repeat' split at e₀
  all_goals first
    | (obtain rfl := Host.Outcome.next.inj e₀
       with_reducible repeat' first | assumption | apply State.reconOverflow_keeps)
    | (cases e₀; done)

theorem State.carrySend_keeps {s0 s : State} (h : Keeps s0 s) : Keeps s0 (State.carrySend s) := by
  unfold State.carrySend
  try dsimp only
  with_reducible repeat' first
    | assumption | intro _ | apply State.bezel_keeps | apply Keeps.foldl | apply Keeps.ite | split | dsimp only
    | (refine Keeps.mk' ?_ rfl ?_ <;> [skip; (simp only [State.lens]; done)])

theorem execTransplantRx_keeps_eq {s0 s t₀ : State} {t : Transplant} (e₀ : execTransplantRx t s = .next t₀) (h₀ : Keeps s0 s) : Keeps s0 t₀ := by
  unfold execTransplantRx at e₀
  try dsimp only at e₀
  repeat' split at e₀
  all_goals first
    | (obtain rfl := Host.Outcome.next.inj e₀
       with_reducible repeat' first
         | assumption | intro _ | apply State.modObjRt_keeps | apply State.modFeedRt_keeps | apply State.modSide_keeps
         | apply Keeps.foldl | apply Keeps.ite | split | dsimp only
         | (refine Keeps.mk' ?_ rfl ?_ <;> [skip; (simp only [State.lens]; done)]))
    | (cases e₀; done)

theorem State.startSync_keeps {s0 s : State} (h : Keeps s0 s) : Keeps s0 (State.startSync s) := by
  unfold State.startSync
  try dsimp only
  with_reducible repeat' first
    | assumption | apply Keeps.ite | split | dsimp only
    | (refine Keeps.mk' ?_ rfl ?_ <;> [skip; (simp only [State.lens]; done)])

theorem execAutoSyncStart_keeps_eq {s0 s t₀ : State}  (e₀ : execAutoSyncStart s = .next t₀) (h₀ : Keeps s0 s) : Keeps s0 t₀ := by
  unfold execAutoSyncStart at e₀
  try dsimp only at e₀
  repeat' split at e₀
  all_goals first
    | (obtain rfl := Host.Outcome.next.inj e₀
       with_reducible repeat' first | assumption | apply State.startSync_keeps)
    | (cases e₀; done)

theorem execSyncSettleEnd_keeps_eq {s0 s t₀ : State}  (e₀ : execSyncSettleEnd s = .next t₀) (h₀ : Keeps s0 s) : Keeps s0 t₀ := by
  unfold execSyncSettleEnd at e₀
  try dsimp only at e₀
  repeat' split at e₀
  all_goals first
    | (obtain rfl := Host.Outcome.next.inj e₀
       with_reducible repeat' first
         | assumption | apply Keeps.ite | split | dsimp only
         | (refine Keeps.mk' ?_ rfl ?_ <;> [skip; (simp only [State.lens]; done)]))
    | (cases e₀; done)

theorem execSyncVerified_keeps_eq {s0 s t₀ : State}  (e₀ : execSyncVerified s = .next t₀) (h₀ : Keeps s0 s) : Keeps s0 t₀ := by
  unfold execSyncVerified at e₀
  try dsimp only at e₀
  repeat' split at e₀
  all_goals first
    | (obtain rfl := Host.Outcome.next.inj e₀
       with_reducible repeat' first
         | assumption | apply Keeps.ite | split | dsimp only
         | (refine Keeps.mk' ?_ rfl ?_ <;> [skip; (simp only [State.lens]; done)]))
    | (cases e₀; done)

theorem State.compareCarats_keeps {s0 s : State} (h : Keeps s0 s) (cs : List (Nat × Word)) : Keeps s0 (State.compareCarats s cs) := by
  unfold State.compareCarats
  try dsimp only
  with_reducible repeat' first
    | assumption | apply State.loseStep_keeps | apply Keeps.ite | split | dsimp only
    | (refine Keeps.mk' ?_ rfl ?_ <;> [skip; (simp only [State.lens]; done)])

theorem execReclaimHoldoffExpiry_keeps_eq {s0 s t₀ : State}  (e₀ : execReclaimHoldoffExpiry s = .next t₀) (h₀ : Keeps s0 s) : Keeps s0 t₀ := by
  unfold execReclaimHoldoffExpiry at e₀
  try dsimp only at e₀
  repeat' split at e₀
  all_goals first
    | (obtain rfl := Host.Outcome.next.inj e₀
       with_reducible repeat' first | assumption | apply State.event_keeps | apply State.enter_keeps)
    | (cases e₀; done)

theorem State.pairCtl_keeps {s0 s : State} (h : Keeps s0 s) (v : Word) : Keeps s0 (State.pairCtl s v) := by
  unfold State.pairCtl
  try dsimp only
  with_reducible repeat' first
    | assumption | apply State.setReg_keeps | apply State.toCold_keeps | apply Keeps.ite | split | dsimp only

theorem specPairSet_ok : specPairSet.Ok := by
  refine ⟨fun c h => ?_, fun c bad h => ?_, fun c h => ?_, fun c h => ?_, fun c h => ?_⟩
  all_goals
    dsimp only [specPairSet]
    with_reducible repeat' first | assumption | apply readOk_keeps | apply State.pairCtl_keeps

theorem specPairSync_ok : specPairSync.Ok := by
  refine ⟨fun c h => ?_, fun c bad h => ?_, fun c h => ?_, fun c h => ?_, fun c h => ?_⟩
  all_goals
    dsimp only [specPairSync]
    with_reducible repeat' first
      | assumption | apply State.raise_keeps | apply State.lower_keeps | apply State.toCold_keeps | apply readOk_keeps
      | apply State.startSync_keeps | apply Keeps.ite | split | dsimp only
      | (refine Keeps.mk' ?_ rfl ?_ <;> [skip; (simp only [State.lens]; done)])

theorem specPairHandover_ok : specPairHandover.Ok := by
  refine ⟨fun c h => ?_, fun c bad h => ?_, fun c h => ?_, fun c h => ?_, fun c h => ?_⟩
  all_goals
    dsimp only [specPairHandover]
    with_reducible repeat' first | assumption | apply State.enter_keeps

theorem specPairStatus_ok : specPairStatus.Ok := by
  refine ⟨fun c h => ?_, fun c bad h => ?_, fun c h => ?_, fun c h => ?_, fun c h => ?_⟩
  all_goals
    dsimp only [specPairStatus]
    with_reducible repeat' first | assumption | apply State.snapCnts_keeps | apply readOk_keeps

/-! ### Machine/Power.lean -/

theorem State.setDom_keeps {s0 s : State} (h : Keeps s0 s) (d c : Nat) : Keeps s0 (State.setDom s d c) := by
  unfold State.setDom
  try dsimp only
  with_reducible repeat' first
    | assumption | apply Keeps.ite | split | dsimp only | (refine Keeps.mk' ?_ rfl ?_ <;> [skip; (simp [State.lens]; done)])

theorem State.setDemand_keeps {s0 s : State} (h : Keeps s0 s) (d : Nat) (b : Bool) : Keeps s0 (State.setDemand s d b) := by
  unfold State.setDemand
  try dsimp only
  with_reducible repeat' first
    | assumption | apply Keeps.ite | split | dsimp only
    | (refine Keeps.mk' ?_ rfl ?_ <;> [skip; (simp only [State.lens]; done)])

theorem State.setJob_keeps {s0 s : State} (h : Keeps s0 s) (j : Option PmuJob) : Keeps s0 (State.setJob s j) := by
  unfold State.setJob
  try dsimp only
  with_reducible repeat' first
    | assumption | apply Keeps.ite | split | dsimp only
    | (refine Keeps.mk' ?_ rfl ?_ <;> [skip; (simp only [State.lens]; done)])

theorem State.loseRegs_keeps {s0 s : State} (h : Keeps s0 s) (d : Nat) : Keeps s0 (State.loseRegs s d) := by
  unfold State.loseRegs
  try dsimp only
  with_reducible repeat' first
    | assumption | apply Keeps.ite | split | dsimp only
    | (refine Keeps.mk' ?_ rfl ?_ <;> [skip; (simp only [State.lens]; done)])

theorem State.chainsLost_keeps {s0 s : State} (h : Keeps s0 s)  : Keeps s0 (State.chainsLost s) := by
  unfold State.chainsLost
  try dsimp only
  with_reducible repeat' first
    | assumption | intro _ | apply Keeps.foldl | apply Keeps.ite | split | dsimp only
    | (refine Keeps.mk' ?_ rfl ?_ <;> [skip; (simp only [State.lens]; done)])
    | (refine Keeps.mk' ?_ rfl ?_ <;> [skip; (simp [State.lens]; done)])

theorem State.crownLost_keeps {s0 s : State} (h : Keeps s0 s)  : Keeps s0 (State.crownLost s) := by
  unfold State.crownLost
  try dsimp only
  with_reducible repeat' first
    | assumption | intro _ | apply State.memClear_keeps | apply Keeps.foldl | apply Keeps.ite | split | dsimp only
    | (refine Keeps.mk' ?_ rfl ?_ <;> [skip; (simp only [State.lens]; done)])
    | (refine Keeps.mk' ?_ rfl ?_ <;> [skip; (simp [State.lens]; done)])

theorem State.domOff_keeps {s0 s : State} (h : Keeps s0 s) (d : Nat) : Keeps s0 (s.domOff d) := by
  have h1 := State.loseRegs_keeps h d
  unfold State.domOff
  generalize s.loseRegs d = s1 at h1
  dsimp only
  split
  · have h2 := State.lower_keeps (State.memClear_keeps h1 0x10000000 secLo) aTime 1
    generalize e : (s1.memClear 0x10000000 secLo).lower aTime 1 = s2 at h2
    have e2 : s2.time = s1.time := by rw [← e]; rfl
    have e3 : s2.loupe = s1.loupe := by rw [← e]; rfl
    exact h2.updShape rfl rfl fun x => by simp only [State.Shape, e2, TimeU.off, List.length_map] at x ⊢; simp_all
  · split
    · exact (State.crownLost_keeps h1).updShape rfl rfl fun x => by simp only [State.Shape] at x ⊢; simp_all
    · split
      · exact Keeps.foldl h1 fun _ _ k => State.linkDown_keeps k _
      · split
        · exact h1.updShape rfl rfl fun x => by simp only [State.Shape] at x ⊢; simp_all
        · split
          · exact h1.updShape rfl rfl fun x => by simp only [State.Shape] at x ⊢; simp_all
          · with_reducible repeat' first
    | assumption | intro _ | apply State.setFst_keeps | apply State.memClear_keeps | apply State.chainsLost_keeps
    | apply Keeps.foldl | apply Keeps.ite | split | dsimp only
    | (refine Keeps.mk' ?_ rfl ?_ <;> [skip; (simp only [State.lens]; done)])

theorem State.domReduce_keeps {s0 s : State} (h : Keeps s0 s) (d : Nat) : Keeps s0 (State.domReduce s d) := by
  unfold State.domReduce
  try dsimp only
  with_reducible repeat' first
    | assumption | intro _ | apply State.linkDown_keeps | apply State.crownLost_keeps | apply Keeps.foldl
    | apply Keeps.ite | split | dsimp only | (refine Keeps.mk' ?_ rfl ?_ <;> [skip; (simp only [State.lens]; done)])
    | (refine Keeps.mk' ?_ rfl ?_ <;> [skip; (simp [State.lens]; done)])

theorem State.domUp_keeps {s0 s : State} (h : Keeps s0 s) (d : Nat) : Keeps s0 (State.domUp s d) := by
  unfold State.domUp
  try dsimp only
  with_reducible repeat' first
    | assumption | intro _ | apply State.setFst_keeps | apply State.loadKernel_keeps | apply State.setInCfg_keeps
    | apply Keeps.foldl | apply Keeps.ite
    | split | dsimp only | (refine Keeps.mk' ?_ rfl ?_ <;> [skip; (simp only [State.lens]; done)])

theorem State.dramFresh_keeps {s0 s : State} (h : Keeps s0 s) : Keeps s0 (State.dramFresh s) := by
  unfold State.dramFresh
  try dsimp only
  with_reducible repeat' first
    | assumption | apply State.memClear_keeps | apply Keeps.ite | split | dsimp only
    | (refine Keeps.mk' ?_ rfl ?_ <;> [skip; (simp only [State.lens]; done)])

theorem State.pwrResult_keeps {s0 s : State} (h : Keeps s0 s) (state result dom reason : Nat) : Keeps s0 (State.pwrResult s state result dom reason) := by
  unfold State.pwrResult
  try dsimp only
  with_reducible repeat' first | assumption | apply State.event_keeps

theorem State.readyPin_keeps {s0 s : State} (h : Keeps s0 s) (b : Bool) : Keeps s0 (State.readyPin s b) := by
  unfold State.readyPin
  try dsimp only
  with_reducible repeat' first | assumption | apply State.emit_keeps

theorem State.wakeDemanded_keeps {s0 s : State} (h : Keeps s0 s) : Keeps s0 (State.wakeDemanded s) := by
  unfold State.wakeDemanded
  try dsimp only
  with_reducible repeat' first
    | assumption | intro _ | apply State.setDom_keeps | apply Keeps.foldl | apply Keeps.ite | split | dsimp only

theorem State.enterState_keeps {s0 s : State} (h : Keeps s0 s) (t : Nat) : Keeps s0 (State.enterState s t) := by
  unfold State.enterState
  try dsimp only
  with_reducible repeat' first
    | assumption | apply State.toCold_keeps | apply State.readyPin_keeps | apply State.wakeDemanded_keeps | apply Keeps.ite
    | split | dsimp only | (refine Keeps.mk' ?_ rfl ?_ <;> [skip; (simp only [State.lens]; done)])

theorem State.askNext_keeps {s0 s : State} (h : Keeps s0 s) (t : Nat) (ask stopped : List Nat) : Keeps s0 (State.askNext s t ask stopped) := by
  unfold State.askNext
  try dsimp only
  with_reducible repeat' first
    | assumption | apply State.setDom_keeps | apply State.setJob_keeps | apply State.enterState_keeps | apply Keeps.ite
    | split | dsimp only

theorem State.countRefusal_keeps {s0 s : State} (h : Keeps s0 s) (d reason t : Nat) : Keeps s0 (State.countRefusal s d reason t) := by
  unfold State.countRefusal
  try dsimp only
  with_reducible repeat' first
    | assumption | apply State.setReg_keeps | apply State.raise_keeps | apply Keeps.ite | split | dsimp only
    | (refine Keeps.mk' ?_ rfl ?_ <;> [skip; (simp only [State.lens]; done)])

theorem State.undone_keeps {s0 s : State} (h : Keeps s0 s) (t d reason : Nat) : Keeps s0 (State.undone s t d reason) := by
  unfold State.undone
  try dsimp only
  with_reducible repeat' first
    | assumption | apply State.pwrResult_keeps | apply State.countRefusal_keeps | apply Keeps.ite | split | dsimp only
    | (refine Keeps.mk' ?_ rfl ?_ <;> [skip; (simp only [State.lens]; done)])

theorem State.abortEntry_keeps {s0 s : State} (h : Keeps s0 s) (d reason : Nat) : Keeps s0 (State.abortEntry s d reason) := by
  unfold State.abortEntry
  try dsimp only
  with_reducible repeat' first
    | assumption | intro _ | apply State.setDom_keeps | apply State.setJob_keeps | apply State.undone_keeps
    | apply Keeps.foldl | apply Keeps.ite | split | dsimp only
    | (refine Keeps.mk' ?_ rfl ?_ <;> [skip; (simp only [State.lens]; done)])
    | (refine Keeps.mk' ?_ rfl ?_ <;> [skip; (simp [State.lens]; done)])

theorem State.pwrBegin_keeps {s0 s : State} (h : Keeps s0 s) (t : Nat) : Keeps s0 (State.pwrBegin s t) := by
  unfold State.pwrBegin
  try dsimp only
  with_reducible repeat' first
    | assumption | apply State.setDom_keeps | apply State.setJob_keeps | apply State.pwrResult_keeps
    | apply State.enterState_keeps | apply State.askNext_keeps | apply Keeps.ite | split | dsimp only
    | (refine Keeps.mk' ?_ rfl ?_ <;> [skip; (simp only [State.lens]; done)])

theorem execDomainGrant_keeps_eq {s0 s t₀ : State} {d : Fin 11} (e₀ : execDomainGrant d s = .next t₀) (h₀ : Keeps s0 s) : Keeps s0 t₀ := by
  unfold execDomainGrant at e₀
  try dsimp only at e₀
  repeat' split at e₀
  all_goals first
    | (obtain rfl := Host.Outcome.next.inj e₀
       with_reducible repeat' first
         | assumption | apply State.setDom_keeps | apply State.setDemand_keeps | apply State.domOff_keeps
         | apply State.domReduce_keeps | apply State.pwrResult_keeps | apply State.askNext_keeps)
    | (cases e₀; done)

theorem execDomainDelay_keeps_eq {s0 s t₀ : State} {_d : Fin 11} (e₀ : execDomainDelay _d s = .next t₀) (h₀ : Keeps s0 s) : Keeps s0 t₀ := by
  unfold execDomainDelay at e₀
  try dsimp only at e₀
  repeat' split at e₀
  all_goals first
    | (obtain rfl := Host.Outcome.next.inj e₀
       assumption)
    | (cases e₀; done)

theorem State.refuses_keeps {s0 s : State} (h : Keeps s0 s) (d reason : Nat) : Keeps s0 (State.refuses s d reason) := by
  unfold State.refuses
  try dsimp only
  with_reducible repeat' first | assumption | apply State.abortEntry_keeps | apply Keeps.ite | split | dsimp only

theorem execDomainDelayExpired_keeps_eq {s0 s t₀ : State} {d : Fin 11} (e₀ : execDomainDelayExpired d s = .next t₀) (h₀ : Keeps s0 s) : Keeps s0 t₀ := by
  unfold execDomainDelayExpired at e₀
  try dsimp only at e₀
  repeat' split at e₀
  all_goals first
    | (obtain rfl := Host.Outcome.next.inj e₀
       with_reducible repeat' first | assumption | apply State.refuses_keeps)
    | (cases e₀; done)

theorem execDomainRefuse_keeps_eq {s0 s t₀ : State} {d : Fin 11} {reason : Fin 12} (e₀ : execDomainRefuse d reason s = .next t₀) (h₀ : Keeps s0 s) : Keeps s0 t₀ := by
  unfold execDomainRefuse at e₀
  try dsimp only at e₀
  repeat' split at e₀
  all_goals first
    | (obtain rfl := Host.Outcome.next.inj e₀
       with_reducible repeat' first | assumption | apply State.refuses_keeps)
    | (cases e₀; done)

theorem State.wakeNext_keeps {s0 s : State} (h : Keeps s0 s) : Keeps s0 (State.wakeNext s) := by
  unfold State.wakeNext
  try dsimp only
  with_reducible repeat' first
    | assumption | apply State.setDom_keeps | apply State.pwrResult_keeps | apply State.enterState_keeps
    | apply State.undone_keeps | apply Keeps.ite | split | dsimp only

theorem State.dropHead_keeps {s0 s : State} (h : Keeps s0 s) (d : Nat) (bad : Bool) : Keeps s0 (State.dropHead s d bad) := by
  unfold State.dropHead
  try dsimp only
  with_reducible repeat' first
    | assumption | apply State.setJob_keeps | apply State.wakeNext_keeps | apply Keeps.ite | split | dsimp only

theorem State.domReady_keeps {s0 s : State} (h : Keeps s0 s) (d : Nat) : Keeps s0 (State.domReady s d) := by
  unfold State.domReady
  try dsimp only
  with_reducible repeat' first
    | assumption | apply State.setDom_keeps | apply State.domOff_keeps | apply State.domReduce_keeps
    | apply State.domUp_keeps | apply State.dramFresh_keeps | apply State.dropHead_keeps | apply Keeps.ite | split
    | dsimp only

theorem State.domLate_keeps {s0 s : State} (h : Keeps s0 s) (d : Fin 11) (lock : Bool) : Keeps s0 (State.domLate s d lock) := by
  unfold State.domLate
  try dsimp only
  with_reducible repeat' first
    | assumption | apply State.raise_keeps | apply State.event_keeps | apply State.report_keeps | apply State.dramFail_keeps
    | apply State.setDom_keeps | apply State.setDemand_keeps | apply State.domOff_keeps | apply State.dropHead_keeps
    | apply Keeps.ite | split | dsimp only

theorem State.retryDomain_keeps {s0 s : State} (h : Keeps s0 s) (d : Nat) : Keeps s0 (State.retryDomain s d) := by
  unfold State.retryDomain
  try dsimp only
  with_reducible repeat' first | assumption | apply State.setDom_keeps | apply Keeps.ite | split | dsimp only

theorem execPmuRetryWrite_keeps_eq {s0 s t₀ : State} {v : Word} (e₀ : execPmuRetryWrite v s = .next t₀) (h₀ : Keeps s0 s) : Keeps s0 t₀ := by
  unfold execPmuRetryWrite at e₀
  try dsimp only at e₀
  repeat' split at e₀
  all_goals first
    | (obtain rfl := Host.Outcome.next.inj e₀
       assumption)
    | (cases e₀; done)
    | (refine guarded_keeps_eq e₀ ?_
       with_reducible repeat' first | assumption | apply State.retryDomain_keeps)

theorem State.wakeSource_keeps {s0 s : State} (h : Keeps s0 s) : Keeps s0 (State.wakeSource s) := by
  unfold State.wakeSource
  try dsimp only
  with_reducible repeat' first
    | assumption | apply State.abortEntry_keeps | apply State.pwrBegin_keeps | apply State.setJob_keeps | apply Keeps.ite | split | dsimp only
    | (refine Keeps.mk' ?_ rfl ?_ <;> [skip; (simp only [State.lens]; done)])

theorem execWakeNEdge_keeps_eq {s0 s t₀ : State}  (e₀ : execWakeNEdge s = .next t₀) (h₀ : Keeps s0 s) : Keeps s0 t₀ := by
  unfold execWakeNEdge at e₀
  try dsimp only at e₀
  repeat' split at e₀
  all_goals first
    | (obtain rfl := Host.Outcome.next.inj e₀
       with_reducible repeat' first | assumption | apply State.wakeSource_keeps)
    | (cases e₀; done)

theorem execWakeFrame_keeps_eq {s0 s t₀ : State} {k : Fin 2} {bs : List Byte} (e₀ : execWakeFrame k bs s = .next t₀) (h₀ : Keeps s0 s) : Keeps s0 t₀ := by
  unfold execWakeFrame at e₀
  try dsimp only at e₀
  repeat' split at e₀
  all_goals first
    | (obtain rfl := Host.Outcome.next.inj e₀
       with_reducible repeat' first | assumption | apply State.wakeSource_keeps)
    | (cases e₀; done)

theorem State.vout_keeps {s0 s : State} (h : Keeps s0 s) (p : Nat) : Keeps s0 (State.vout s p) := by
  unfold State.vout
  try dsimp only
  with_reducible repeat' first
    | assumption | apply State.emit_keeps | apply Keeps.ite | split | dsimp only
    | (refine Keeps.mk' ?_ rfl ?_ <;> [skip; (simp only [State.lens]; done)])

theorem State.pointBegin_keeps {s0 s : State} (h : Keeps s0 s) (p : Nat) : Keeps s0 (State.pointBegin s p) := by
  unfold State.pointBegin
  try dsimp only
  with_reducible repeat' first
    | assumption | apply State.setJob_keeps | apply State.pwrResult_keeps | apply State.vout_keeps | apply Keeps.ite | split
    | dsimp only | (refine Keeps.mk' ?_ rfl ?_ <;> [skip; (simp only [State.lens]; done)])

theorem State.pmuBoundary_keeps {s0 s : State} (h : Keeps s0 s) : Keeps s0 (State.pmuBoundary s) := by
  unfold State.pmuBoundary
  try dsimp only
  with_reducible repeat' first
    | assumption | apply State.setJob_keeps | apply State.pwrResult_keeps | apply State.pwrBegin_keeps
    | apply State.pointBegin_keeps | apply State.wakeSource_keeps | apply Keeps.ite | split | dsimp only
    | (refine Keeps.mk' ?_ rfl ?_ <;> [skip; (simp only [State.lens]; done)])

theorem execVoltageConfirmed_keeps_eq {s0 s t₀ : State} {mv : Nat} {status : BitVec 16} (e₀ : execVoltageConfirmed mv status s = .next t₀) (h₀ : Keeps s0 s) : Keeps s0 t₀ := by
  unfold execVoltageConfirmed at e₀
  try dsimp only at e₀
  repeat' split at e₀
  all_goals first
    | (obtain rfl := Host.Outcome.next.inj e₀
       with_reducible repeat' first
         | assumption | apply State.putReg_keeps | apply State.setJob_keeps | apply State.pwrResult_keeps | apply Keeps.ite
         | split | dsimp only | (refine Keeps.mk' ?_ rfl ?_ <;> [skip; (simp only [State.lens]; done)]))
    | (cases e₀; done)

theorem execVoltageTimeout_keeps_eq {s0 s t₀ : State}  (e₀ : execVoltageTimeout s = .next t₀) (h₀ : Keeps s0 s) : Keeps s0 t₀ := by
  unfold execVoltageTimeout at e₀
  try dsimp only at e₀
  repeat' split at e₀
  all_goals first
    | (obtain rfl := Host.Outcome.next.inj e₀
       with_reducible repeat' first
         | assumption | apply State.raise_keeps | apply State.setJob_keeps | apply State.pwrResult_keeps
         | apply State.vout_keeps)
    | (cases e₀; done)

theorem execPmbAlert_keeps_eq {s0 s t₀ : State} {status : BitVec 16} (e₀ : execPmbAlert status s = .next t₀) (h₀ : Keeps s0 s) : Keeps s0 t₀ := by
  unfold execPmbAlert at e₀
  try dsimp only at e₀
  repeat' split at e₀
  all_goals first
    | (obtain rfl := Host.Outcome.next.inj e₀
       with_reducible repeat' first
         | assumption | apply State.raise_keeps | apply State.putReg_keeps | apply Keeps.ite | split | dsimp only
         | (refine Keeps.mk' ?_ rfl ?_ <;> [skip; (simp only [State.lens]; done)]))
    | (cases e₀; done)

theorem State.pmuReq_keeps {s0 s : State} (h : Keeps s0 s) (v : Word) : Keeps s0 (State.pmuReq s v) := by
  unfold State.pmuReq
  try dsimp only
  with_reducible repeat' first
    | assumption | apply State.setReg_keeps | apply State.setJob_keeps | apply State.pointBegin_keeps | apply Keeps.ite
    | split | dsimp only

theorem execPmuReqWrite_keeps_eq {s0 s t₀ : State} {v : Word} (e₀ : execPmuReqWrite v s = .next t₀) (h₀ : Keeps s0 s) : Keeps s0 t₀ := by
  unfold execPmuReqWrite at e₀
  try dsimp only at e₀
  repeat' split at e₀
  all_goals first
    | (obtain rfl := Host.Outcome.next.inj e₀
       assumption)
    | (cases e₀; done)
    | (refine guarded_keeps_eq e₀ ?_
       with_reducible repeat' first | assumption | apply State.pmuReq_keeps)

theorem State.refuseClr_keeps {s0 s : State} (h : Keeps s0 s) (v : Word) : Keeps s0 (State.refuseClr s v) := by
  unfold State.refuseClr
  try dsimp only
  with_reducible repeat' first
    | assumption | apply Keeps.ite | split | dsimp only
    | (refine Keeps.mk' ?_ rfl ?_ <;> [skip; (simp only [State.lens]; done)])

theorem execPmuRefuseClr_keeps_eq {s0 s t₀ : State} {v : Word} (e₀ : execPmuRefuseClr v s = .next t₀) (h₀ : Keeps s0 s) : Keeps s0 t₀ := by
  unfold execPmuRefuseClr at e₀
  try dsimp only at e₀
  repeat' split at e₀
  all_goals first
    | (obtain rfl := Host.Outcome.next.inj e₀
       assumption)
    | (cases e₀; done)
    | (refine guarded_keeps_eq e₀ ?_
       with_reducible repeat' first | assumption | apply State.refuseClr_keeps)

theorem specPwrState_ok : specPwrState.Ok := by
  refine ⟨fun c h => ?_, fun c bad h => ?_, fun c h => ?_, fun c h => ?_, fun c h => ?_⟩
  all_goals
    dsimp only [specPwrState]
    with_reducible repeat' first | assumption | apply State.enter_keeps

theorem specPwrOppoint_ok : specPwrOppoint.Ok := by
  refine ⟨fun c h => ?_, fun c bad h => ?_, fun c h => ?_, fun c h => ?_, fun c h => ?_⟩
  all_goals
    dsimp only [specPwrOppoint]
    with_reducible repeat' first | assumption | apply State.enter_keeps

theorem specPwrDomainRetry_ok : specPwrDomainRetry.Ok := by
  refine ⟨fun c h => ?_, fun c bad h => ?_, fun c h => ?_, fun c h => ?_, fun c h => ?_⟩
  all_goals
    dsimp only [specPwrDomainRetry]
    with_reducible repeat' first | assumption | apply State.retryDomain_keeps

theorem specPwrStatus_ok : specPwrStatus.Ok := by
  refine ⟨fun c h => ?_, fun c bad h => ?_, fun c h => ?_, fun c h => ?_, fun c h => ?_⟩
  all_goals
    dsimp only [specPwrStatus]
    with_reducible repeat' first | assumption | apply readOk_keeps

theorem State.clockLoss_keeps {s0 s : State} (h : Keeps s0 s) (c : Nat) : Keeps s0 (s.clockLoss c) := by
  unfold State.clockLoss
  extract_lets t lost sel0 t1 s1 s2 s3 hush
  have ht : (t1.refs, t1.ptp, t1.capt, t1.txts) = (s.time.refs, s.time.ptp, s.time.capt, s.time.txts) := by
    unfold t1; split
    · rfl
    · split
      · rfl
      · split <;> rfl
  have h2 : Keeps s0 s2 := State.report_keeps (State.raise_keeps h _ _) _
  clear_value t1 s2
  have h3 : Keeps s0 s3 := ⟨h2.queue, h2.mem, fun x => by
    have a := h.shape x
    have b := h2.shape x
    simp only [Prod.mk.injEq] at ht
    simp only [State.Shape, s3] at a b ⊢
    simp_all⟩
  clear_value s3
  split
  · exact h
  · split
    · exact h3.upd rfl rfl (by simp [State.lens])
    · with_reducible repeat' first
    | assumption | apply State.realign_keeps | apply State.dramFail_keeps | apply Keeps.ite | split | dsimp only

theorem execSyspllRelock_keeps_eq {s0 s t₀ : State}  (e₀ : execSyspllRelock s = .next t₀) (h₀ : Keeps s0 s) : Keeps s0 t₀ := by
  unfold execSyspllRelock at e₀
  try dsimp only at e₀
  repeat' split at e₀
  all_goals first
    | (obtain rfl := Host.Outcome.next.inj e₀
       with_reducible repeat' first
         | assumption | apply State.lower_keeps | apply State.restart_keeps | apply Keeps.ite | split | dsimp only
         | (refine Keeps.mk' ?_ rfl ?_ <;> [skip; (simp only [State.lens]; done)]))
    | (cases e₀; done)

theorem State.loadTime_keeps {s0 s : State} (h : Keeps s0 s) : Keeps s0 (State.loadTime s) := by
  unfold State.loadTime
  try dsimp only
  with_reducible repeat' first
    | assumption | apply State.raise_keeps | apply Keeps.ite | split | dsimp only
    | (refine Keeps.mk' ?_ rfl ?_ <;> [skip; (simp only [State.lens]; done)])

theorem execHeartbeatRx_keeps_eq {s0 s t₀ : State} {h : Heartbeat} (e₀ : execHeartbeatRx h s = .next t₀) (h₀ : Keeps s0 s) : Keeps s0 t₀ := by
  unfold execHeartbeatRx at e₀
  try dsimp only at e₀
  repeat' split at e₀
  all_goals first
    | (obtain rfl := Host.Outcome.next.inj e₀
       with_reducible repeat' first
         | assumption | apply State.raise_keeps | apply State.loseStep_keeps | apply State.peerNews_keeps
         | apply State.abortEntry_keeps | apply Keeps.ite | split | dsimp only
         | (refine Keeps.mk' ?_ rfl ?_ <;> [skip; (simp only [State.lens]; done)]))
    | (cases e₀; done)

/-! ### Machine/Start.lean -/

theorem State.startHw_keeps {s0 s : State} (h : Keeps s0 s) (e : StartEnv) : Keeps s0 (State.startHw s e) := by
  unfold State.startHw
  try dsimp only
  with_reducible repeat' first
    | assumption | intro _ | apply State.fresh_keeps | apply State.report_keeps | apply State.dramFail_keeps
    | apply State.clockLoss_keeps | apply Keeps.foldl | apply Keeps.ite | split | dsimp only
    | (refine Keeps.mk' ?_ rfl ?_ <;> [skip; (simp only [State.lens]; done)])

theorem State.loadImage_keeps {s0 s : State} (h : Keeps s0 s) (img : List Byte) : Keeps s0 (State.loadImage s img) := by
  unfold State.loadImage
  try dsimp only
  with_reducible repeat' first
    | assumption | intro _ | apply State.memWrite_keeps | apply Keeps.foldl | apply Keeps.ite | split | dsimp only
    | (refine Keeps.mk' ?_ rfl ?_ <;> [skip; (simp only [State.lens]; done)])

theorem State.raiseFloor_keeps {s0 s : State} (h : Keeps s0 s) : Keeps s0 s.raiseFloor := by
  unfold State.raiseFloor
  dsimp only
  split
  · exact h.upd rfl rfl rfl
  · exact h

theorem State.goReady_keeps {s0 s : State} (h : Keeps s0 s) (e : StartEnv) : Keeps s0 (State.goReady s e) := by
  have h1 := State.raiseFloor_keeps h
  unfold State.goReady
  generalize s.raiseFloor = s1 at h1
  dsimp only
  with_reducible repeat' first
    | assumption | apply State.netInit_keeps | apply State.tryClaim_keeps | apply State.readyPin_keeps
    | apply State.loadTime_keeps | apply Keeps.ite | split | dsimp only
    | (refine Keeps.mk' ?_ rfl ?_ <;> [skip; (simp only [State.lens]; done)])
    | (refine Keeps.mkShape ?_ rfl ?_ <;> [skip; (intro hx; simp only [State.Shape] at hx ⊢; simp_all; done)])

theorem State.recover_keeps {s0 s : State} (h : Keeps s0 s) (step err : Nat) : Keeps s0 (State.recover s step err) := by
  unfold State.recover
  try dsimp only
  with_reducible repeat' first
    | assumption | apply Keeps.ite | split | dsimp only
    | (refine Keeps.mk' ?_ rfl ?_ <;> [skip; (simp only [State.lens]; done)])

theorem State.startUp_keeps {s0 s : State} (h : Keeps s0 s) (e : StartEnv) : Keeps s0 (State.startUp s e) := by
  unfold State.startUp
  try dsimp only
  with_reducible repeat' first
    | assumption | apply State.startHw_keeps | apply State.loadImage_keeps | apply State.goReady_keeps
    | apply State.recover_keeps | apply Keeps.ite | split | dsimp only
    | (refine Keeps.mk' ?_ rfl ?_ <;> [skip; (simp only [State.lens]; done)])
    | (refine Keeps.mkShape ?_ rfl ?_ <;> [skip; (intro hx; simp only [State.Shape] at hx ⊢; simp_all; done)])

theorem State.resumeSleep_keeps {s0 s : State} (h : Keeps s0 s)  : Keeps s0 (State.resumeSleep s) := by
  unfold State.resumeSleep
  try dsimp only
  with_reducible repeat' first
    | assumption | intro _ | apply State.tryClaim_keeps | apply State.readyPin_keeps | apply State.loadTime_keeps
    | apply State.raiseFloor_keeps | apply State.loadImage_keeps | apply State.recover_keeps | apply Keeps.foldl | apply Keeps.ite | split
    | dsimp only | (refine Keeps.mk' ?_ rfl ?_ <;> [skip; (simp only [State.lens]; done)])
    | (refine Keeps.mk' ?_ rfl ?_ <;> [skip; (simp [State.lens]; done)])

theorem State.porState_keeps {s0 s : State} (h : Keeps s0 s) (aon : Bool) : Keeps s0 (s.porState aon) := by
  unfold State.porState
  cases aon
  · exact ⟨h.queue, fun x => cellsFilter_wf (h.mem x), fun x => by
      have := h.shape x
      simp only [State.Shape] at this ⊢
      simp_all [State.reset]⟩
  · exact ⟨h.queue, fun _ => rfl, fun _ => by simp [State.Shape, State.reset]⟩

theorem execPorAssert_keeps_eq {s0 s t₀ : State}  (e₀ : execPorAssert s = .next t₀) (h₀ : Keeps s0 s) : Keeps s0 t₀ := by
  unfold execPorAssert at e₀
  try dsimp only at e₀
  repeat' split at e₀
  all_goals first
    | (obtain rfl := Host.Outcome.next.inj e₀
       with_reducible repeat' first
         | assumption | apply State.readyPin_keeps | apply State.porState_keeps | apply Keeps.ite | split | dsimp only
         | (refine Keeps.mk' ?_ rfl ?_ <;> [skip; (simp only [State.lens]; done)]))
    | (cases e₀; done)

theorem execPorRelease_keeps_eq {s0 s t₀ : State} {env : StartEnv} (e₀ : execPorRelease env s = .next t₀) (h₀ : Keeps s0 s) : Keeps s0 t₀ := by
  unfold execPorRelease at e₀
  try dsimp only at e₀
  repeat' split at e₀
  all_goals first
    | (obtain rfl := Host.Outcome.next.inj e₀
       with_reducible repeat' first
         | assumption | apply State.startUp_keeps | apply Keeps.ite | split | dsimp only
         | (refine Keeps.mk' ?_ rfl ?_ <;> [skip; (simp only [State.lens]; done)]))
    | (cases e₀; done)

theorem execSupply_keeps_eq {s0 s t₀ : State} {m : Fin 8} {mv : Nat} (e₀ : execSupply m mv s = .next t₀) (h₀ : Keeps s0 s) : Keeps s0 t₀ := by
  unfold execSupply at e₀
  try dsimp only at e₀
  repeat' split at e₀
  all_goals first
    | (obtain rfl := Host.Outcome.next.inj e₀
       with_reducible repeat' first
         | assumption | intro _ | apply State.raise_keeps | apply State.report_keeps | apply State.readyPin_keeps
         | apply State.porState_keeps | apply Keeps.foldl | apply Keeps.ite | split | dsimp only
         | (refine Keeps.mk' ?_ rfl ?_ <;> [skip; (simp [State.lens]; done)]))
    | (cases e₀; done)

theorem execSupplyInRange_keeps_eq {s0 s t₀ : State} {env : StartEnv} (e₀ : execSupplyInRange env s = .next t₀) (h₀ : Keeps s0 s) : Keeps s0 t₀ := by
  unfold execSupplyInRange at e₀
  try dsimp only at e₀
  repeat' split at e₀
  all_goals first
    | (obtain rfl := Host.Outcome.next.inj e₀
       with_reducible repeat' first
         | assumption | apply State.startUp_keeps | apply Keeps.ite | split | dsimp only
         | (refine Keeps.mk' ?_ rfl ?_ <;> [skip; (simp only [State.lens]; done)]))
    | (cases e₀; done)

theorem specBootStatus_ok : specBootStatus.Ok := by
  refine ⟨fun c h => ?_, fun c bad h => ?_, fun c h => ?_, fun c h => ?_, fun c h => ?_⟩
  all_goals
    dsimp only [specBootStatus]
    with_reducible repeat' first | assumption | apply readOk_keeps

theorem specBootWrite_ok : specBootWrite.Ok := by
  refine ⟨fun c h => ?_, fun c bad h => ?_, fun c h => ?_, fun c h => ?_, fun c h => ?_⟩
  all_goals
    dsimp only [specBootWrite]
    with_reducible repeat' first | assumption | apply readOk_keeps | apply State.memWrite_keeps

theorem specBootStart_ok : specBootStart.Ok := by
  refine ⟨fun c h => ?_, fun c bad h => ?_, fun c h => ?_, fun c h => ?_, fun c h => ?_⟩
  all_goals
    dsimp only [specBootStart]
    with_reducible repeat' first
      | assumption | apply readOk_keeps | apply State.memClear_keeps | apply State.loadImage_keeps
      | apply State.goReady_keeps | apply Keeps.ite | split | dsimp only
      | (refine Keeps.mk' ?_ rfl ?_ <;> [skip; (simp only [State.lens]; done)])

theorem State.closeWindow_keeps {s0 s : State} (h : Keeps s0 s) (cause : Nat) : Keeps s0 (State.closeWindow s cause) := by
  unfold State.closeWindow
  try dsimp only
  with_reducible repeat' first
    | assumption | apply State.event_keeps | apply Keeps.ite | split | dsimp only
    | (refine Keeps.mk' ?_ rfl ?_ <;> [skip; (simp only [State.lens]; done)])

theorem State.wipe_keeps {s0 s : State} (h : Keeps s0 s) : Keeps s0 (State.wipe s) := by
  unfold State.wipe
  try dsimp only
  with_reducible repeat' first
    | assumption | apply State.memClear_keeps | apply Keeps.ite | split | dsimp only
    | (refine Keeps.mkShape ?_ rfl ?_ <;> [skip; (intro hx; simp only [State.Shape] at hx ⊢; simp_all; done)])

theorem execSecureWipeDone_keeps_eq {s0 s t₀ : State}  (e₀ : execSecureWipeDone s = .next t₀) (h₀ : Keeps s0 s) : Keeps s0 t₀ := by
  unfold execSecureWipeDone at e₀
  try dsimp only at e₀
  repeat' split at e₀
  all_goals first
    | (obtain rfl := Host.Outcome.next.inj e₀
       with_reducible repeat' first
         | assumption | apply Keeps.ite | split | dsimp only
         | (refine Keeps.mk' ?_ rfl ?_ <;> [skip; (simp only [State.lens]; done)]))
    | (cases e₀; done)

theorem execTamper_keeps_eq {s0 s t₀ : State} {src : Fin 3} {low : Bool} (e₀ : execTamper src low s = .next t₀) (h₀ : Keeps s0 s) : Keeps s0 t₀ := by
  unfold execTamper at e₀
  try dsimp only at e₀
  repeat' split at e₀
  all_goals first
    | (obtain rfl := Host.Outcome.next.inj e₀
       with_reducible repeat' first
         | assumption | apply State.raise_keeps | apply State.report_keeps | apply State.closeWindow_keeps
         | apply State.wipe_keeps | apply Keeps.ite | split | dsimp only
         | (refine Keeps.mk' ?_ rfl ?_ <;> [skip; (simp only [State.lens]; done)]))
    | (cases e₀; done)

theorem State.tamperOwed_keeps {s0 s : State} (h : Keeps s0 s) : Keeps s0 (State.tamperOwed s) := by
  unfold State.tamperOwed
  try dsimp only
  with_reducible repeat' first
    | assumption | intro _ | apply State.report_keeps | apply Keeps.foldl | apply Keeps.ite | split | dsimp only
    | (refine Keeps.mk' ?_ rfl ?_ <;> [skip; (simp only [State.lens]; done)])

theorem execSecTamperLatchRead_keeps_eq {s0 s t₀ : State}  (e₀ : execSecTamperLatchRead s = .next t₀) (h₀ : Keeps s0 s) : Keeps s0 t₀ := by
  unfold execSecTamperLatchRead at e₀
  try dsimp only at e₀
  repeat' split at e₀
  all_goals first
    | (obtain rfl := Host.Outcome.next.inj e₀
       with_reducible repeat' first | assumption | apply State.setReg_keeps)
    | (cases e₀; done)

theorem State.closeUdp_keeps {s0 s : State} (h : Keeps s0 s) : Keeps s0 (State.closeUdp s) := by
  unfold State.closeUdp
  try dsimp only
  with_reducible repeat' first
    | assumption | intro _ | apply State.closeSess_keeps | apply Keeps.foldl | apply Keeps.ite | split | dsimp only

theorem specDiagLifecycle_ok : specDiagLifecycle.Ok := by
  refine ⟨fun c h => ?_, fun c bad h => ?_, fun c h => ?_, fun c h => ?_, fun c h => ?_⟩
  all_goals
    dsimp only [specDiagLifecycle]
    with_reducible repeat' first
      | assumption | apply readOk_keeps | apply State.closeWindow_keeps | apply State.wipe_keeps
      | apply State.closeUdp_keeps | apply Keeps.ite | split | dsimp only
      | (refine Keeps.mk' ?_ rfl ?_ <;> [skip; (simp only [State.lens]; done)])

theorem State.fromSleep_keeps {s0 s : State} (h : Keeps s0 s) (old : State) : Keeps s0 (State.fromSleep s old) := by
  unfold State.fromSleep
  try dsimp only
  with_reducible repeat' first
    | assumption | apply State.resumeSleep_keeps | apply State.tamperOwed_keeps | apply Keeps.ite | split | dsimp only

theorem execSfpModabsChange_keeps_eq {s0 s t₀ : State} {k : Fin 4} {present : Bool} (e₀ : execSfpModabsChange k present s = .next t₀) (h₀ : Keeps s0 s) : Keeps s0 t₀ := by
  unfold execSfpModabsChange at e₀
  try dsimp only at e₀
  repeat' split at e₀
  all_goals first
    | (obtain rfl := Host.Outcome.next.inj e₀
       with_reducible repeat' first
         | assumption | apply State.emit_keeps | apply Keeps.ite | split | dsimp only
         | (refine Keeps.mk' ?_ rfl ?_ <;> [skip; (simp only [State.lens]; done)]))
    | (cases e₀; done)

theorem State.resetPcie_keeps {s0 s : State} (h : Keeps s0 s) : Keeps s0 (State.resetPcie s) := by
  unfold State.resetPcie
  try dsimp only
  with_reducible repeat' first
    | assumption | intro _ | apply State.closeSess_keeps | apply Keeps.foldl | apply Keeps.ite | split | dsimp only
    | (refine Keeps.mkShape ?_ rfl ?_ <;> [skip; (intro hx; simp only [State.Shape] at hx ⊢; simp_all; done)])

/-! ### Machine/Transport.lean -/

theorem State.closeEp_keeps {s0 s : State} (h : Keeps s0 s) (e : Endpoint) : Keeps s0 (State.closeEp s e) := by
  unfold State.closeEp
  try dsimp only
  with_reducible repeat' first
    | assumption | intro _ | apply State.closeSess_keeps | apply Keeps.foldl | apply Keeps.ite | split | dsimp only

theorem State.ringHalt_keeps {s0 s : State} (h : Keeps s0 s) (k : Fin 4) (cause : Nat) : Keeps s0 (State.ringHalt s k cause) := by
  unfold State.ringHalt
  try dsimp only
  with_reducible repeat' first
    | assumption | apply State.raise_keeps | apply State.putReg_keeps | apply State.setRing_keeps | apply State.devIrq_keeps
    | apply State.closeEp_keeps

theorem State.ringTail_keeps {s0 s : State} (h : Keeps s0 s) (k o sizeOff : Nat) (v : Word) : Keeps s0 (State.ringTail s k o sizeOff v) := by
  unfold State.ringTail
  try dsimp only
  with_reducible repeat' first
    | assumption | apply State.setReg_keeps | apply State.raise_keeps | apply Keeps.ite | split | dsimp only

theorem State.cmdTail_keeps {s0 s : State} (h : Keeps s0 s) (k : Nat) (v : Word) : Keeps s0 (State.cmdTail s k v) := by
  unfold State.cmdTail
  try dsimp only
  with_reducible repeat' first | assumption | apply State.ringTail_keeps

theorem execCmdTailDoorbell_keeps_eq {s0 s t₀ : State} {k : Fin 4} {v : Word} (e₀ : execCmdTailDoorbell k v s = .next t₀) (h₀ : Keeps s0 s) : Keeps s0 t₀ := by
  unfold execCmdTailDoorbell at e₀
  try dsimp only at e₀
  repeat' split at e₀
  all_goals first
    | (obtain rfl := Host.Outcome.next.inj e₀
       assumption)
    | (cases e₀; done)
    | (refine guarded_keeps_eq e₀ ?_
       with_reducible repeat' first | assumption | apply State.cmdTail_keeps)

theorem State.readReply_keeps {s0 s : State} (h : Keeps s0 s) (k : Fin 4) (size : Nat) (d : RplDesc) : Keeps s0 (State.readReply k size s d) := by
  unfold State.readReply
  try dsimp only
  with_reducible repeat' first
    | assumption | intro _ | apply State.setRing_keeps | apply State.ringHalt_keeps | apply Keeps.foldl
    | apply Keeps.ite | split | dsimp only | (refine Keeps.mk' ?_ rfl ?_ <;> [skip; (simp only [State.lens]; done)])
    | (refine Keeps.mk' ?_ rfl ?_ <;> [skip; (simp [State.lens]; done)])

theorem State.rplTail_keeps {s0 s : State} (h : Keeps s0 s) (k : Fin 4) (v : Word) (bufs : List RplDesc) : Keeps s0 (State.rplTail s k v bufs) := by
  unfold State.rplTail
  try dsimp only
  with_reducible repeat' first
    | assumption | intro _ | apply flushRing_keeps | apply State.ringTail_keeps | apply State.readReply_keeps
    | apply Keeps.foldl | apply Keeps.ite | split | dsimp only
    | (refine Keeps.mk' ?_ rfl ?_ <;> [skip; (simp only [State.lens]; done)])
    | (refine Keeps.mk' ?_ rfl ?_ <;> [skip; (simp [State.lens]; done)])

theorem execRplTailPost_keeps_eq {s0 s t₀ : State} {k : Fin 4} {v : Word} {bufs : List RplDesc} (e₀ : execRplTailPost k v bufs s = .next t₀) (h₀ : Keeps s0 s) : Keeps s0 t₀ :=
  guarded_keeps_eq e₀ (State.rplTail_keeps h₀ _ _ _)

theorem State.writeBack_keeps {s0 s : State} (h : Keeps s0 s) (k : Nat) : Keeps s0 (State.writeBack s k) := by
  unfold State.writeBack
  try dsimp only
  with_reducible repeat' first | assumption | apply State.emit_keeps | apply Keeps.ite | split | dsimp only

theorem execRingReadCompletion_keeps_eq {s0 s t₀ : State} {k : Fin 4} {d : RingRead} (e₀ : execRingReadCompletion k d s = .next t₀) (h₀ : Keeps s0 s) : Keeps s0 t₀ := by
  unfold execRingReadCompletion at e₀
  try dsimp only at e₀
  repeat' split at e₀
  all_goals first
    | (obtain rfl := Host.Outcome.next.inj e₀
       with_reducible repeat' first
         | assumption | apply State.setReg_keeps | apply State.ringHalt_keeps | apply State.writeBack_keeps
         | apply Keeps.ite | split | dsimp only | (refine Keeps.mk' ?_ rfl ?_ <;> [skip; (simp only [State.lens]; done)]))
    | (cases e₀; done)

theorem State.ringCtl_keeps {s0 s : State} (h : Keeps s0 s) (k : Fin 4) (v : Word) : Keeps s0 (State.ringCtl s k v) := by
  unfold State.ringCtl
  try dsimp only
  with_reducible repeat' first
    | assumption | intro _ | apply State.setReg_keeps | apply State.putReg_keeps | apply State.setRing_keeps
    | apply State.closeEp_keeps | apply Keeps.foldl | apply Keeps.ite | split | dsimp only
    | (refine Keeps.mk' ?_ rfl ?_ <;> [skip; (simp only [State.lens]; done)])

theorem execRingCtlWrite_keeps_eq {s0 s t₀ : State} {k : Fin 4} {v : Word} (e₀ : execRingCtlWrite k v s = .next t₀) (h₀ : Keeps s0 s) : Keeps s0 t₀ := by
  unfold execRingCtlWrite at e₀
  try dsimp only at e₀
  repeat' split at e₀
  all_goals first
    | (obtain rfl := Host.Outcome.next.inj e₀
       assumption)
    | (cases e₀; done)
    | (refine guarded_keeps_eq e₀ ?_
       with_reducible repeat' first | assumption | apply State.ringCtl_keeps)

theorem execCoalescingTimeExpiry_keeps_eq {s0 s t₀ : State} {k : Fin 4} (e₀ : execCoalescingTimeExpiry k s = .next t₀) (h₀ : Keeps s0 s) : Keeps s0 t₀ := by
  unfold execCoalescingTimeExpiry at e₀
  try dsimp only at e₀
  repeat' split at e₀
  all_goals first
    | (obtain rfl := Host.Outcome.next.inj e₀
       with_reducible repeat' first | assumption | apply State.msix_keeps | apply State.setRing_keeps)
    | (cases e₀; done)

theorem State.msixCtl_keeps {s0 s : State} (h : Keeps s0 s) (v : Nat) (w : Word) : Keeps s0 (State.msixCtl s v w) := by
  unfold State.msixCtl
  try dsimp only
  with_reducible repeat' first
    | assumption | apply State.setReg_keeps | apply State.lower_keeps | apply State.emit_keeps | apply Keeps.ite | split
    | dsimp only

theorem execPcieFlr_keeps_eq {s0 s t₀ : State}  (e₀ : execPcieFlr s = .next t₀) (h₀ : Keeps s0 s) : Keeps s0 t₀ := by
  unfold execPcieFlr at e₀
  try dsimp only at e₀
  repeat' split at e₀
  all_goals first
    | (obtain rfl := Host.Outcome.next.inj e₀
       with_reducible repeat' first | assumption | apply State.resetPcie_keeps)
    | (cases e₀; done)

theorem execPciePerst_keeps_eq {s0 s t₀ : State}  (e₀ : execPciePerst s = .next t₀) (h₀ : Keeps s0 s) : Keeps s0 t₀ := by
  unfold execPciePerst at e₀
  try dsimp only at e₀
  repeat' split at e₀
  all_goals first
    | (obtain rfl := Host.Outcome.next.inj e₀
       with_reducible repeat' first | assumption | apply State.resetPcie_keeps)
    | (cases e₀; done)

theorem execSpiWrite_keeps_eq {s0 s t₀ : State} {bytes : List Byte} (e₀ : execSpiWrite bytes s = .next t₀) (h₀ : Keeps s0 s) : Keeps s0 t₀ := by
  unfold execSpiWrite at e₀
  try dsimp only at e₀
  repeat' split at e₀
  all_goals first
    | (obtain rfl := Host.Outcome.next.inj e₀
       with_reducible repeat' first
         | assumption | apply State.count_keeps | apply Keeps.ite | split | dsimp only
         | (refine Keeps.mk' ?_ rfl ?_ <;> [skip; (simp only [State.lens]; done)]))
    | (cases e₀; done)

theorem execSpiStatus_keeps_eq {s0 s t₀ : State}  (e₀ : execSpiStatus s = .next t₀) (h₀ : Keeps s0 s) : Keeps s0 t₀ := by
  unfold execSpiStatus at e₀
  try dsimp only at e₀
  repeat' split at e₀
  all_goals first
    | (obtain rfl := Host.Outcome.next.inj e₀
       with_reducible repeat' first | assumption | apply State.emit_keeps)
    | (cases e₀; done)

theorem execSpiRead_keeps_eq {s0 s t₀ : State} {n : Nat} (e₀ : execSpiRead n s = .next t₀) (h₀ : Keeps s0 s) : Keeps s0 t₀ := by
  unfold execSpiRead at e₀
  try dsimp only at e₀
  repeat' split at e₀
  all_goals first
    | (obtain rfl := Host.Outcome.next.inj e₀
       with_reducible repeat' first
         | assumption | apply State.emit_keeps | apply Keeps.ite | split | dsimp only
         | (refine Keeps.mk' ?_ rfl ?_ <;> [skip; (simp only [State.lens]; done)]))
    | (cases e₀; done)

theorem execSpiInvalidInstruction_keeps_eq {s0 s t₀ : State} {b : Byte} {n : Nat} (e₀ : execSpiInvalidInstruction b n s = .next t₀) (h₀ : Keeps s0 s) : Keeps s0 t₀ := by
  unfold execSpiInvalidInstruction at e₀
  try dsimp only at e₀
  repeat' split at e₀
  all_goals first
    | (obtain rfl := Host.Outcome.next.inj e₀
       with_reducible repeat' first | assumption | apply State.emit_keeps)
    | (cases e₀; done)

theorem execSessionIdleTimeout_keeps_eq {s0 s t₀ : State} {x : Fin 8} (e₀ : execSessionIdleTimeout x s = .next t₀) (h₀ : Keeps s0 s) : Keeps s0 t₀ := by
  unfold execSessionIdleTimeout at e₀
  try dsimp only at e₀
  repeat' split at e₀
  all_goals first
    | (obtain rfl := Host.Outcome.next.inj e₀
       with_reducible repeat' first | assumption | apply State.enter_keeps | apply State.closeSess_keeps)
    | (cases e₀; done)

theorem State.noteDrop_keeps {s0 s : State} (h : Keeps s0 s) (x : Nat) (marked : Bool) : Keeps s0 (State.noteDrop s x marked) := by
  unfold State.noteDrop
  try dsimp only
  with_reducible repeat' first
    | assumption | intro _ | apply State.count_keeps | apply State.setSess_keeps | apply Keeps.foldl
    | apply Keeps.ite | split | dsimp only | (refine Keeps.mk' ?_ rfl ?_ <;> [skip; (simp only [State.lens]; done)])
    | (refine Keeps.mk' ?_ rfl ?_ <;> [skip; (simp [State.lens]; done)])

theorem execEventDrop_keeps_eq {s0 s t₀ : State} {x : Fin 8} (e₀ : execEventDrop x s = .next t₀) (h₀ : Keeps s0 s) : Keeps s0 t₀ := by
  unfold execEventDrop at e₀
  try dsimp only at e₀
  repeat' split at e₀
  all_goals first
    | (obtain rfl := Host.Outcome.next.inj e₀
       with_reducible repeat' first
         | assumption | intro _ | apply State.setRing_keeps | apply State.noteDrop_keeps | apply Keeps.foldl
         | apply Keeps.ite | split | dsimp only | (refine Keeps.mk' ?_ rfl ?_ <;> [skip; (simp [State.lens]; done)]))
    | (cases e₀; done)

theorem execWindowExpiry_keeps_eq {s0 s t₀ : State}  (e₀ : execWindowExpiry s = .next t₀) (h₀ : Keeps s0 s) : Keeps s0 t₀ := by
  unfold execWindowExpiry at e₀
  try dsimp only at e₀
  repeat' split at e₀
  all_goals first
    | (obtain rfl := Host.Outcome.next.inj e₀
       with_reducible repeat' first | assumption | apply State.closeWindow_keeps)
    | (cases e₀; done)

/-! ### Machine/Regs.lean -/

theorem State.regReadDone_keeps {s0 s : State} (h : Keeps s0 s) (a : Nat) : Keeps s0 (State.regReadDone s a) := by
  unfold State.regReadDone
  try dsimp only
  with_reducible repeat' first | assumption | apply State.setReg_keeps | apply Keeps.ite | split | dsimp only

theorem State.regFields_keeps {s0 s : State} (h : Keeps s0 s) (a : Nat) (i : RegInfo) (v : Word) : Keeps s0 (State.regFields s a i v) := by
  unfold State.regFields
  try dsimp only
  with_reducible repeat' first | assumption | apply State.setReg_keeps

theorem State.modCh_keeps {s0 s : State} (h : Keeps s0 s) (c : Nat) (f : DmaCh → DmaCh) : Keeps s0 (State.modCh s c f) := by
  unfold State.modCh
  try dsimp only
  with_reducible repeat' first
    | assumption | apply Keeps.ite | split | dsimp only | (refine Keeps.mk' ?_ rfl ?_ <;> [skip; (simp [State.lens]; done)])

theorem State.dmaStatus_keeps {s0 s : State} (h : Keeps s0 s) (c cause : Nat) (done : Bool) : Keeps s0 (State.dmaStatus s c cause done) := by
  unfold State.dmaStatus
  try dsimp only
  with_reducible repeat' first | assumption | apply State.memWrite_keeps

theorem State.dmaHalt_keeps {s0 s : State} (h : Keeps s0 s) (c cause : Nat) (at' : Option Nat) : Keeps s0 (State.dmaHalt s c cause at') := by
  unfold State.dmaHalt
  try dsimp only
  with_reducible repeat' first
    | assumption | apply State.raise_keeps | apply State.count_keeps | apply State.report_keeps | apply State.modCh_keeps
    | apply State.dmaStatus_keeps

theorem State.dmaCtl_keeps {s0 s : State} (h : Keeps s0 s) (c : Nat) (v : Word) : Keeps s0 (State.dmaCtl s c v) := by
  unfold State.dmaCtl
  try dsimp only
  with_reducible repeat' first
    | assumption | apply State.setReg_keeps | apply State.modCh_keeps | apply State.dmaHalt_keeps | apply Keeps.ite | split
    | dsimp only

theorem specialWrite_keeps_eq {s0 s t : State} {blk o : Nat} {v : Word} {g : Bool} (e : specialWrite s blk o v g = some t)
    (h : Keeps s0 s) : Keeps s0 t := by
  unfold specialWrite at e
  dsimp only at e
  repeat' split at e
  all_goals first
    | exact (Option.some_ne_none _ e.symm).elim
    | (obtain rfl := Option.some.inj e
       with_reducible repeat' first
    | assumption | apply State.cntSnap_keeps | apply State.pmuReq_keeps | apply State.retryDomain_keeps
    | apply State.refuseClr_keeps | apply State.timeErr_keeps | apply State.timeSnap_keeps | apply State.timeAdj_keeps
    | apply State.cmpCtl_keeps | apply State.captCtl_keeps | apply State.txtsStatus_keeps | apply State.netCtlWrite_keeps
    | apply State.ringTailWrite_keeps | apply State.flowtabCtl_keeps | apply State.dmaCtl_keeps | apply State.tdmCtl_keeps
    | apply State.maskApply_keeps | apply State.sideCtl_keeps | apply State.sideGainWrite_keeps | apply State.syncCtl_keeps
    | apply State.inCfg_keeps | apply State.facetCtl_keeps | apply State.pairCtl_keeps | apply State.clearFault_keeps
    | apply State.cmdTail_keeps | apply State.rplTail_keeps | apply State.ringCtl_keeps | apply State.msixCtl_keeps
    | apply State.setReg_keeps)

theorem State.regWrite_keeps {s0 s : State} (h : Keeps s0 s) (a : Nat) (v : Word) (g : Bool) : Keeps s0 (s.regWrite a v g) := by
  unfold State.regWrite
  generalize regInfo a = r
  cases r with
  | none => exact h
  | some i =>
    extract_lets blk o w t
    clear_value blk o w
    refine Keeps.ite h ?_
    generalize e : specialWrite s blk o w g = r
    cases r with
    | some t => exact specialWrite_keeps_eq e h
    | none => exact Keeps.ite (State.reselect_keeps (State.regFields_keeps h _ _ _) _) (State.regFields_keeps h _ _ _)

/-! ### Machine/Bus.lean -/

theorem State.wakeFor_keeps {s0 s : State} (h : Keeps s0 s) (d : Nat) : Keeps s0 (State.wakeFor s d) := by
  unfold State.wakeFor
  try dsimp only
  with_reducible repeat' first
    | assumption | apply State.setDom_keeps | apply State.setDemand_keeps | apply Keeps.ite | split | dsimp only

theorem State.respond_keeps {s0 s : State} (h : Keeps s0 s) (q : BusReq) (err : Bool) (data : List Byte) : Keeps s0 (State.respond s q err data) := by
  unfold State.respond
  try dsimp only
  with_reducible repeat' first | assumption | apply State.emit_keeps | apply Keeps.ite | split | dsimp only

theorem State.busError_keeps {s0 s : State} (h : Keeps s0 s) (q : BusReq) : Keeps s0 (State.busError s q) := by
  unfold State.busError
  try dsimp only
  with_reducible repeat' first
    | assumption | apply State.spoilStep_keeps | apply State.respond_keeps | apply Keeps.ite | split | dsimp only
    | (refine Keeps.mk' ?_ rfl ?_ <;> [skip; (simp only [State.lens]; done)])

theorem State.periphAccess_keeps {s0 s : State} (h : Keeps s0 s) (q : BusReq) : Keeps s0 (State.periphAccess s q) := by
  unfold State.periphAccess
  try dsimp only
  with_reducible repeat' first
    | assumption | apply State.regReadDone_keeps | apply State.regWrite_keeps | apply State.respond_keeps
    | apply State.busError_keeps | apply Keeps.ite | split | dsimp only

theorem State.secureAccess_keeps {s0 s : State} (h : Keeps s0 s) (q : BusReq) : Keeps s0 (State.secureAccess s q) := by
  unfold State.secureAccess
  try dsimp only
  with_reducible repeat' first
    | assumption | apply State.raise_keeps | apply State.count_keeps | apply State.report_keeps | apply State.memWrite_keeps
    | apply State.respond_keeps | apply State.busError_keeps | apply Keeps.ite | split | dsimp only

theorem State.wordFault_keeps {s0 s : State} (h : Keeps s0 s) (r : Region) (inst a synd : Nat) (dev scrub : Bool) : Keeps s0 (State.wordFault s r inst a synd dev scrub) := by
  unfold State.wordFault
  try dsimp only
  with_reducible repeat' first
    | assumption | intro _ | apply State.eccReport_keeps | apply State.facetFault_keeps | apply Keeps.foldl
    | apply Keeps.ite | split | dsimp only | (refine Keeps.mk' ?_ rfl ?_ <;> [skip; (simp only [State.lens]; done)])
    | (refine Keeps.mk' ?_ rfl ?_ <;> [skip; (simp [State.lens]; done)])

theorem State.memAccess_keeps {s0 s : State} (h : Keeps s0 s) (q : BusReq) : Keeps s0 (State.memAccess s q) := by
  unfold State.memAccess
  try dsimp only
  with_reducible repeat' first
    | assumption | intro _ | apply State.memWrite_keeps | apply State.eccCorrected_keeps
    | apply State.takeTokens_keeps | apply State.respond_keeps | apply State.busError_keeps
    | apply State.wordFault_keeps | apply Keeps.foldl | apply Keeps.ite | split | dsimp only
    | (refine Keeps.mk' ?_ rfl ?_ <;> [skip; (simp only [State.lens]; done)])
    | (refine Keeps.mk' ?_ rfl ?_ <;> [skip; (simp [State.lens]; done)])

theorem State.busServe_keeps {s0 s : State} (h : Keeps s0 s) (q : BusReq) : Keeps s0 (State.busServe s q) := by
  unfold State.busServe
  try dsimp only
  with_reducible repeat' first
    | assumption | intro _ | apply State.busError_keeps | apply State.periphAccess_keeps
    | apply State.secureAccess_keeps | apply State.memAccess_keeps | apply Keeps.foldl | apply Keeps.ite | split
    | dsimp only | (refine Keeps.mk' ?_ rfl ?_ <;> [skip; (simp only [State.lens]; done)])
    | (refine Keeps.mk' ?_ rfl ?_ <;> [skip; (simp [State.lens]; done)])

theorem State.addOut_keeps {s0 s : State} (h : Keeps s0 s) (q : BusReq) (t : Nat) (wait : Option Nat) : Keeps s0 (State.addOut s q t wait) := by
  unfold State.addOut
  try dsimp only
  with_reducible repeat' first
    | assumption | apply Keeps.ite | split | dsimp only
    | (refine Keeps.mk' ?_ rfl ?_ <;> [skip; (simp only [State.lens]; done)])

theorem State.busIssue_keeps {s0 s : State} (h : Keeps s0 s) (q : BusReq) : Keeps s0 (State.busIssue s q) := by
  unfold State.busIssue
  try dsimp only
  with_reducible repeat' first
    | assumption | apply State.count_keeps | apply State.wakeFor_keeps | apply State.busError_keeps
    | apply State.busServe_keeps | apply State.addOut_keeps | apply Keeps.ite | split | dsimp only
    | (refine Keeps.mk' ?_ rfl ?_ <;> [skip; (simp only [State.lens]; done)])

theorem State.reissue_keeps {s0 s : State} (h : Keeps s0 s) : Keeps s0 (State.reissue s) := by
  unfold State.reissue
  try dsimp only
  with_reducible repeat' first
    | assumption | intro _ | apply State.busIssue_keeps | apply Keeps.foldl | apply Keeps.ite | split | dsimp only
    | (refine Keeps.mk' ?_ rfl ?_ <;> [skip; (simp only [State.lens]; done)])

theorem State.endQueued_keeps {s0 s : State} (h : Keeps s0 s) : Keeps s0 (State.endQueued s) := by
  unfold State.endQueued
  refine Keeps.ite (State.reissue_keeps (Keeps.foldl (h.upd rfl rfl rfl) fun _ _ k => State.busError_keeps k _)) h

theorem execClockLoss_keeps_eq {s0 s t₀ : State} {c : Fin 4} (e₀ : execClockLoss c s = .next t₀) (h₀ : Keeps s0 s) : Keeps s0 t₀ := by
  unfold execClockLoss at e₀
  try dsimp only at e₀
  repeat' split at e₀
  all_goals first
    | (obtain rfl := Host.Outcome.next.inj e₀
       with_reducible repeat' first
         | assumption | intro _ | apply State.clockLoss_keeps | apply State.endQueued_keeps | apply Keeps.foldl
         | apply Keeps.ite | split | dsimp only | (refine Keeps.mk' ?_ rfl ?_ <;> [skip; (simp [State.lens]; done)]))
    | (cases e₀; done)

theorem execBusHang_keeps_eq {s0 s t₀ : State} {m : Fin 8} {id : Fin 16} (e₀ : execBusHang m id s = .next t₀) (h₀ : Keeps s0 s) : Keeps s0 t₀ := by
  unfold execBusHang at e₀
  try dsimp only at e₀
  repeat' split at e₀
  all_goals first
    | (obtain rfl := Host.Outcome.next.inj e₀
       with_reducible repeat' first
         | assumption | apply State.busError_keeps | apply State.reissue_keeps | apply State.hangRecord_keeps
         | apply Keeps.ite | split | dsimp only | (refine Keeps.mk' ?_ rfl ?_ <;> [skip; (simp only [State.lens]; done)]))
    | (cases e₀; done)

theorem execLateResponse_keeps_eq {s0 s t₀ : State} {m : Fin 8} {id : Fin 16} (e₀ : execLateResponse m id s = .next t₀) (h₀ : Keeps s0 s) : Keeps s0 t₀ := by
  unfold execLateResponse at e₀
  try dsimp only at e₀
  repeat' split at e₀
  all_goals first
    | (obtain rfl := Host.Outcome.next.inj e₀
       with_reducible repeat' first
         | assumption | apply State.raise_keeps | apply State.count_keeps | apply Keeps.ite | split | dsimp only
         | (refine Keeps.mk' ?_ rfl ?_ <;> [skip; (simp only [State.lens]; done)]))
    | (cases e₀; done)

theorem State.stalled_keeps {s0 s : State} (h : Keeps s0 s) (d : Nat) (ok : Bool) : Keeps s0 (State.stalled s d ok) := by
  unfold State.stalled
  try dsimp only
  with_reducible repeat' first
    | assumption | intro _ | apply State.busError_keeps | apply State.busServe_keeps | apply State.addOut_keeps
    | apply State.reissue_keeps | apply Keeps.foldl | apply Keeps.ite | split | dsimp only
    | (refine Keeps.mk' ?_ rfl ?_ <;> [skip; (simp only [State.lens]; done)])

theorem execDomainReady_keeps_eq {s0 s t₀ : State} {d : Fin 11} (e₀ : execDomainReady d s = .next t₀) (h₀ : Keeps s0 s) : Keeps s0 t₀ := by
  unfold execDomainReady at e₀
  try dsimp only at e₀
  repeat' split at e₀
  all_goals first
    | (obtain rfl := Host.Outcome.next.inj e₀
       with_reducible repeat' first
         | assumption | apply State.domReady_keeps | apply State.fromSleep_keeps | apply State.stalled_keeps)
    | (cases e₀; done)

theorem execDomainWake_keeps_eq {s0 s t₀ : State} {d : Fin 11} {lock : Bool} (e₀ : execDomainWake d lock s = .next t₀) (h₀ : Keeps s0 s) : Keeps s0 t₀ := by
  unfold execDomainWake at e₀
  try dsimp only at e₀
  repeat' split at e₀
  all_goals first
    | (obtain rfl := Host.Outcome.next.inj e₀
       with_reducible repeat' first
         | assumption | intro _ | apply State.domLate_keeps | apply State.endQueued_keeps
         | apply State.fromSleep_keeps | apply State.stalled_keeps | apply Keeps.foldl | apply Keeps.ite | split
         | dsimp only | (refine Keeps.mk' ?_ rfl ?_ <;> [skip; (simp [State.lens]; done)]))
    | (cases e₀; done)

theorem execBusTransaction_keeps_eq {s0 s t₀ : State} {q : BusReq} (e₀ : execBusTransaction q s = .next t₀) (h₀ : Keeps s0 s) : Keeps s0 t₀ := by
  unfold execBusTransaction at e₀
  try dsimp only at e₀
  repeat' split at e₀
  all_goals first
    | (obtain rfl := Host.Outcome.next.inj e₀
       with_reducible repeat' first | assumption | apply State.busIssue_keeps)
    | (cases e₀; done)

theorem execRegisterWrite_keeps_eq {s0 s t₀ : State} {addr : Nat} {size : Nat} {v : Word} (e₀ : execRegisterWrite addr size v s = .next t₀) (h₀ : Keeps s0 s) : Keeps s0 t₀ := by
  unfold execRegisterWrite at e₀
  try dsimp only at e₀
  repeat' split at e₀
  all_goals first
    | (obtain rfl := Host.Outcome.next.inj e₀
       with_reducible repeat' first | assumption | apply State.busIssue_keeps)
    | (cases e₀; done)

theorem execBar2Access_keeps_eq {s0 s t₀ : State} {addr : Nat} {size : Nat} {w : Option Word} (e₀ : execBar2Access addr size w s = .next t₀) (h₀ : Keeps s0 s) : Keeps s0 t₀ := by
  unfold execBar2Access at e₀
  try dsimp only at e₀
  repeat' split at e₀
  all_goals first
    | (obtain rfl := Host.Outcome.next.inj e₀
       with_reducible repeat' first
         | assumption | apply State.emit_keeps | apply State.busError_keeps | apply State.busIssue_keeps)
    | (cases e₀; done)

theorem execJtagDebugAccess_keeps_eq {s0 s t₀ : State} {a : JtagAccess} (e₀ : execJtagDebugAccess a s = .next t₀) (h₀ : Keeps s0 s) : Keeps s0 t₀ := by
  unfold execJtagDebugAccess at e₀
  try dsimp only at e₀
  repeat' split at e₀
  all_goals first
    | (obtain rfl := Host.Outcome.next.inj e₀
       with_reducible repeat' first | assumption | apply State.busIssue_keeps)
    | (cases e₀; done)

/-! ### Machine/Dma.lean -/

theorem State.dmaFail_keeps {s0 s : State} (h : Keeps s0 s) (c a : Nat) : Keeps s0 (State.dmaFail s c a) := by
  unfold State.dmaFail
  try dsimp only
  with_reducible repeat' first
    | assumption | apply State.count_keeps | apply State.modCh_keeps | apply State.dmaHalt_keeps | apply Keeps.ite | split
    | dsimp only

theorem State.dmaHang_keeps {s0 s : State} (h : Keeps s0 s) (c a : Nat) (write : Bool) : Keeps s0 (State.dmaHang s c a write) := by
  unfold State.dmaHang
  try dsimp only
  with_reducible repeat' first | assumption | apply State.dmaHalt_keeps | apply State.hangRecord_keeps

theorem State.dmaBlocked_keeps {s0 s : State} (h : Keeps s0 s) (c a u : Nat) (write : Bool) : Keeps s0 (State.dmaBlocked s c a u write) := by
  unfold State.dmaBlocked
  try dsimp only
  with_reducible repeat' first
    | assumption | apply State.wakeFor_keeps | apply State.dmaFail_keeps | apply State.dmaHang_keeps | apply Keeps.ite
    | split | dsimp only

theorem State.dmaTokens_keeps {s0 s : State} (h : Keeps s0 s) (a n : Nat) : Keeps s0 (State.dmaTokens s a n) := by
  unfold State.dmaTokens
  try dsimp only
  with_reducible repeat' first | assumption | apply State.takeTokens_keeps | apply Keeps.ite | split | dsimp only

theorem State.dmaFetch_keeps {s0 s : State} (h : Keeps s0 s) (c : Nat) : Keeps s0 (State.dmaFetch s c) := by
  unfold State.dmaFetch
  try dsimp only
  with_reducible repeat' first
    | assumption | apply State.modCh_keeps | apply State.dmaHalt_keeps | apply State.dmaBlocked_keeps | apply Keeps.ite
    | split | dsimp only

theorem dmaPull_keeps {s0 : State} (fixed : Bool) (need n : Nat) : ∀ (s : State) (d : DmaSide) (buf : List Byte), Keeps s0 s →
    Keeps s0 (dmaPull fixed need n s d buf).2.1 := by
  induction n with
  | zero => intro _ _ _ h; exact h
  | succ n ih =>
    intro s d buf h
    unfold dmaPull
    repeat' first
      | with_reducible assumption
      | split
      | (with_reducible refine ih _ _ _ ?_)
      | with_reducible apply State.dmaTokens_keeps
      | with_reducible apply State.regReadDone_keeps
      | dsimp only
theorem dmaPull_keeps_eq {s0 s t : State} {fixed : Bool} {need n : Nat} {d e : DmaSide} {buf b : List Byte} {r : SideIs}
    (q : dmaPull fixed need n s d buf = (r, t, e, b)) (h : Keeps s0 s) : Keeps s0 t := by
  have := dmaPull_keeps fixed need n s d buf h; rw [q] at this; exact this

theorem State.dmaPush_keeps {s0 s : State} (h : Keeps s0 s) (a : Nat) (bs : List Byte) : Keeps s0 (State.dmaPush s a bs) := by
  unfold State.dmaPush
  try dsimp only
  with_reducible repeat' first
    | assumption | apply State.memWrite_keeps | apply State.regWrite_keeps | apply State.dmaTokens_keeps | apply Keeps.ite
    | split | dsimp only

theorem State.dmaMove_keeps {s0 s : State} (h : Keeps s0 s) (c : Nat) (pace : Option Nat) : Keeps s0 (s.dmaMove c pace).1 := by
  unfold State.dmaMove
  with_reducible repeat' first
    | assumption | apply State.dmaHalt_keeps | apply State.dmaBlocked_keeps | apply State.modCh_keeps
    | apply State.dmaPush_keeps | (refine dmaPull_keeps_eq (by assumption) ?_) | apply Keeps.ite | split | dsimp only

theorem State.dmaBurst_keeps {s0 s : State} (h : Keeps s0 s) (c : Nat) (pace : Option Nat) (r : DmaResp) : Keeps s0 (State.dmaBurst s c pace r).1 := by
  unfold State.dmaBurst
  try dsimp only
  with_reducible repeat' first
    | assumption | intro _ | apply State.wordFault_keeps | apply State.dmaFail_keeps | apply State.dmaHang_keeps
    | apply State.dmaFetch_keeps | apply State.dmaMove_keeps | apply Keeps.foldl | apply Keeps.ite | split
    | dsimp only | (refine Keeps.mk' ?_ rfl ?_ <;> [skip; (simp only [State.lens]; done)])
    | (refine Keeps.mk' ?_ rfl ?_ <;> [skip; (simp [State.lens]; done)])

theorem execDmaStart_keeps_eq {s0 s t₀ : State} {c : Fin 32} {v : Word} (e₀ : execDmaStart c v s = .next t₀) (h₀ : Keeps s0 s) : Keeps s0 t₀ := by
  unfold execDmaStart at e₀
  try dsimp only at e₀
  repeat' split at e₀
  all_goals first
    | (obtain rfl := Host.Outcome.next.inj e₀
       assumption)
    | (cases e₀; done)
    | (refine guarded_keeps_eq e₀ ?_
       with_reducible repeat' first | assumption | apply State.dmaCtl_keeps)

theorem execDmaStop_keeps_eq {s0 s t₀ : State} {c : Fin 32} {v : Word} (e₀ : execDmaStop c v s = .next t₀) (h₀ : Keeps s0 s) : Keeps s0 t₀ := by
  unfold execDmaStop at e₀
  try dsimp only at e₀
  repeat' split at e₀
  all_goals first
    | (obtain rfl := Host.Outcome.next.inj e₀
       assumption)
    | (cases e₀; done)
    | (refine guarded_keeps_eq e₀ ?_
       with_reducible repeat' first | assumption | apply State.dmaCtl_keeps)

theorem execDmaBurstResponse_keeps_eq {s0 s t₀ : State} {c : Fin 32} {r : DmaResp} (e₀ : execDmaBurstResponse c r s = .next t₀) (h₀ : Keeps s0 s) : Keeps s0 t₀ := by
  unfold execDmaBurstResponse at e₀
  try dsimp only at e₀
  repeat' split at e₀
  all_goals first
    | (obtain rfl := Host.Outcome.next.inj e₀
       with_reducible repeat' first | assumption | apply State.dmaBurst_keeps)
    | (cases e₀; done)

theorem execDmaRequest_keeps_eq {s0 s t₀ : State} {c : Fin 32} {line : Fin 31} {r : DmaResp} (e₀ : execDmaRequest c line r s = .next t₀) (h₀ : Keeps s0 s) : Keeps s0 t₀ := by
  unfold execDmaRequest at e₀
  try dsimp only at e₀
  repeat' split at e₀
  all_goals first
    | (obtain rfl := Host.Outcome.next.inj e₀
       with_reducible repeat' first | assumption | apply State.dmaBurst_keeps)
    | (cases e₀; done)

theorem State.dmaDone_keeps {s0 s : State} (h : Keeps s0 s) (c : Nat) : Keeps s0 (State.dmaDone s c) := by
  unfold State.dmaDone
  try dsimp only
  with_reducible repeat' first
    | assumption | apply State.raise_keeps | apply State.modCh_keeps | apply State.dmaStatus_keeps | apply Keeps.ite | split
    | dsimp only

theorem execDmaCopyComplete_keeps_eq {s0 s t₀ : State} {c : Fin 32} (e₀ : execDmaCopyComplete c s = .next t₀) (h₀ : Keeps s0 s) : Keeps s0 t₀ := by
  unfold execDmaCopyComplete at e₀
  try dsimp only at e₀
  repeat' split at e₀
  all_goals first
    | (obtain rfl := Host.Outcome.next.inj e₀
       with_reducible repeat' first
         | assumption | apply State.memWrite_keeps | apply State.dmaHalt_keeps | apply State.dmaDone_keeps)
    | (cases e₀; done)

theorem execDmaFenceComplete_keeps_eq {s0 s t₀ : State} {c : Fin 32} (e₀ : execDmaFenceComplete c s = .next t₀) (h₀ : Keeps s0 s) : Keeps s0 t₀ := by
  unfold execDmaFenceComplete at e₀
  try dsimp only at e₀
  repeat' split at e₀
  all_goals first
    | (obtain rfl := Host.Outcome.next.inj e₀
       with_reducible repeat' first | assumption | apply State.dmaDone_keeps)
    | (cases e₀; done)

/-! ### Machine/System.lean -/

theorem specSysInfo_ok : specSysInfo.Ok := by
  refine ⟨fun c h => ?_, fun c bad h => ?_, fun c h => ?_, fun c h => ?_, fun c h => ?_⟩
  all_goals
    dsimp only [specSysInfo]
    with_reducible repeat' first | assumption | apply readOk_keeps

theorem specSysStatus_ok : specSysStatus.Ok := by
  refine ⟨fun c h => ?_, fun c bad h => ?_, fun c h => ?_, fun c h => ?_, fun c h => ?_⟩
  all_goals
    dsimp only [specSysStatus]
    with_reducible repeat' first | assumption | apply readOk_keeps

theorem State.stageAs_keeps {s0 s : State} (h : Keeps s0 s) (x : Nat) (f : Session → Session) : Keeps s0 (State.stageAs s x f) := by
  unfold State.stageAs
  try dsimp only
  with_reducible repeat' first
    | assumption | intro _ | apply State.bezel_keeps | apply State.setSess_keeps | apply Keeps.foldl
    | apply Keeps.ite | split | dsimp only | (refine Keeps.mk' ?_ rfl ?_ <;> [skip; (simp only [State.lens]; done)])
    | (refine Keeps.mk' ?_ rfl ?_ <;> [skip; (simp [State.lens]; done)])

theorem State.stageSess_keeps {s0 s : State} (h : Keeps s0 s) (x : Nat) : Keeps s0 (State.stageSess s x) := by
  unfold State.stageSess
  try dsimp only
  with_reducible repeat' first
    | assumption | intro _ | apply State.stageAs_keeps | apply Keeps.foldl | apply Keeps.ite | split | dsimp only
    | (refine Keeps.mk' ?_ rfl ?_ <;> [skip; (simp only [State.lens]; done)])
    | (refine Keeps.mk' ?_ rfl ?_ <;> [skip; (simp [State.lens]; done)])

theorem specSessionOpen_ok : specSessionOpen.Ok := by
  refine ⟨fun c h => ?_, fun c bad h => ?_, fun c h => ?_, fun c h => ?_, fun c h => ?_⟩
  all_goals
    dsimp only [specSessionOpen]
    with_reducible repeat' first
      | assumption | apply State.setSess_keeps | apply State.closeSess_keeps | apply readOk_keeps
      | apply State.speedCheck_keeps | apply State.stageSess_keeps

theorem specSessionClose_ok : specSessionClose.Ok := by
  refine ⟨fun c h => ?_, fun c bad h => ?_, fun c h => ?_, fun c h => ?_, fun c h => ?_⟩
  all_goals
    dsimp only [specSessionClose]
    with_reducible repeat' first
      | assumption | intro _ | apply State.closeSess_keeps | apply readOk_keeps | apply State.stageAs_keeps
      | apply Keeps.foldl | apply Keeps.ite | split | dsimp only
      | (refine Keeps.mk' ?_ rfl ?_ <;> [skip; (simp only [State.lens]; done)])

theorem specSeqQuery_ok : specSeqQuery.Ok := by
  refine ⟨fun c h => ?_, fun c bad h => ?_, fun c h => ?_, fun c h => ?_, fun c h => ?_⟩
  all_goals
    dsimp only [specSeqQuery]
    with_reducible repeat' first | assumption | apply readOk_keeps

theorem specEventMask_ok : specEventMask.Ok := by
  refine ⟨fun c h => ?_, fun c bad h => ?_, fun c h => ?_, fun c h => ?_, fun c h => ?_⟩
  all_goals
    dsimp only [specEventMask]
    with_reducible repeat' first | assumption | apply State.setSess_keeps | apply readOk_keeps | apply State.stageSess_keeps

theorem specKeySet_ok : specKeySet.Ok := by
  refine ⟨fun c h => ?_, fun c bad h => ?_, fun c h => ?_, fun c h => ?_, fun c h => ?_⟩
  all_goals
    dsimp only [specKeySet]
    with_reducible repeat' first
      | assumption | apply State.setSess_keeps | apply State.closeSess_keeps | apply readOk_keeps | apply Keeps.ite | split
      | dsimp only | (refine Keeps.mk' ?_ rfl ?_ <;> [skip; (simp [State.lens]; done)])

theorem State.rateChange_keeps {s0 s : State} (h : Keeps s0 s) (rate96 : Bool) : Keeps s0 (State.rateChange s rate96) := by
  unfold State.rateChange
  try dsimp only
  with_reducible repeat' first
    | assumption | apply Keeps.ite | split | dsimp only
    | (refine Keeps.mk' ?_ rfl ?_ <;> [skip; (simp only [State.lens]; done)])

theorem specRenderRate_ok : specRenderRate.Ok := by
  refine ⟨fun c h => ?_, fun c bad h => ?_, fun c h => ?_, fun c h => ?_, fun c h => ?_⟩
  all_goals
    dsimp only [specRenderRate]
    with_reducible repeat' first | assumption | apply State.rateChange_keeps | apply Keeps.ite | split | dsimp only

theorem execRenderRateResume_keeps_eq {s0 s t₀ : State}  (e₀ : execRenderRateResume s = .next t₀) (h₀ : Keeps s0 s) : Keeps s0 t₀ := by
  unfold execRenderRateResume at e₀
  try dsimp only at e₀
  repeat' split at e₀
  all_goals first
    | (obtain rfl := Host.Outcome.next.inj e₀
       with_reducible repeat' first
         | assumption | apply Keeps.ite | split | dsimp only
         | (refine Keeps.mk' ?_ rfl ?_ <;> [skip; (simp only [State.lens]; done)]))
    | (cases e₀; done)

theorem execGanenRestartDone_keeps_eq {s0 s t₀ : State}  (e₀ : execGanenRestartDone s = .next t₀) (h₀ : Keeps s0 s) : Keeps s0 t₀ := by
  unfold execGanenRestartDone at e₀
  try dsimp only at e₀
  repeat' split at e₀
  all_goals first
    | (obtain rfl := Host.Outcome.next.inj e₀
       with_reducible repeat' first
         | assumption | apply State.loadTime_keeps | apply Keeps.ite | split | dsimp only
         | (refine Keeps.mk' ?_ rfl ?_ <;> [skip; (simp only [State.lens]; done)]))
    | (cases e₀; done)

theorem State.restoreFeed_keeps {s0 s : State} (h : Keeps s0 s) (f : Nat) : Keeps s0 (State.restoreFeed s f) := by
  unfold State.restoreFeed
  try dsimp only
  with_reducible repeat' first
    | assumption | apply State.event_keeps | apply State.unwithdraw_keeps | apply State.modLf_keeps | apply Keeps.ite
    | split | dsimp only

theorem specFeedRestore_ok : specFeedRestore.Ok := by
  refine ⟨fun c h => ?_, fun c bad h => ?_, fun c h => ?_, fun c h => ?_, fun c h => ?_⟩
  all_goals
    dsimp only [specFeedRestore]
    with_reducible repeat' first
      | assumption | intro _ | apply State.unwithdraw_keeps | apply State.restoreFeed_keeps | apply Keeps.foldl
      | apply Keeps.ite | split | dsimp only

theorem specTxnBegin_ok : specTxnBegin.Ok := by
  refine ⟨fun c h => ?_, fun c bad h => ?_, fun c h => ?_, fun c h => ?_, fun c h => ?_⟩
  all_goals
    dsimp only [specTxnBegin]
    with_reducible repeat' first | assumption | apply State.setSess_keeps | apply readOk_keeps | apply State.stageSess_keeps

theorem specTxnAbort_ok : specTxnAbort.Ok := by
  refine ⟨fun c h => ?_, fun c bad h => ?_, fun c h => ?_, fun c h => ?_, fun c h => ?_⟩
  all_goals
    dsimp only [specTxnAbort]
    with_reducible repeat' first | assumption | apply State.setSess_keeps | apply readOk_keeps | apply State.stageSess_keeps

theorem specWindowUnlock_ok : specWindowUnlock.Ok := by
  refine ⟨fun c h => ?_, fun c bad h => ?_, fun c h => ?_, fun c h => ?_, fun c h => ?_⟩
  all_goals
    dsimp only [specWindowUnlock]
    with_reducible repeat' first
      | assumption | apply State.event_keeps | apply readOk_keeps | apply Keeps.ite | split | dsimp only
      | (refine Keeps.mk' ?_ rfl ?_ <;> [skip; (simp only [State.lens]; done)])

theorem specWindowLock_ok : specWindowLock.Ok := by
  refine ⟨fun c h => ?_, fun c bad h => ?_, fun c h => ?_, fun c h => ?_, fun c h => ?_⟩
  all_goals
    dsimp only [specWindowLock]
    with_reducible repeat' first | assumption | apply readOk_keeps | apply State.closeWindow_keeps

theorem State.regReach_keeps {s0 s : State} (h : Keeps s0 s) (a : Nat) : Keeps s0 (State.regReach s a) := by
  unfold State.regReach
  try dsimp only
  with_reducible repeat' first
    | assumption | apply State.wakeFor_keeps | apply State.hangRecord_keeps | apply Keeps.ite | split | dsimp only

theorem regReads_keeps {s0 : State} (a n : Nat) : ∀ (i : Nat) (s : State), Keeps s0 s → Keeps s0 (regReads a n i s).2.2 := by
  induction n with
  | zero => intro _ _ h; exact h
  | succ n ih =>
    intro i s h; unfold regReads; dsimp only; split
    · exact State.regReach_keeps h _
    · exact ih _ _ (State.regReadDone_keeps (State.regReach_keeps h _) _)

theorem regWrites_keeps {s0 : State} (a : Nat) (l : List Word) : ∀ (i : Nat) (s : State), Keeps s0 s → Keeps s0 (regWrites a l i s).2 := by
  induction l with
  | nil => intro _ _ h; exact h
  | cons w t ih =>
    intro i s h; unfold regWrites; dsimp only; split
    · exact State.regReach_keeps h _
    · exact ih _ _ (State.regWrite_keeps (State.regReach_keeps h _) _ _ _)

theorem regFailed_keeps {s0 s : State} (h : Keeps s0 s) (i : Nat) : Keeps s0 (regFailed s i).1 := h

theorem specRegRead_ok : specRegRead.Ok := by
  refine ⟨fun c h => ?_, fun c bad h => ?_, fun c h => ?_, fun c h => ?_, fun c h => ?_⟩
  all_goals
    dsimp only [specRegRead]
    with_reducible repeat' first
      | assumption | apply readOk_keeps | apply regReads_keeps | apply regFailed_keeps | apply Keeps.ite | split
      | dsimp only

theorem specRegWrite_ok : specRegWrite.Ok := by
  refine ⟨fun c h => ?_, fun c bad h => ?_, fun c h => ?_, fun c h => ?_, fun c h => ?_⟩
  all_goals
    dsimp only [specRegWrite]
    with_reducible repeat' first
      | assumption | apply readOk_keeps | apply regWrites_keeps | apply regFailed_keeps | apply Keeps.ite | split
      | dsimp only

theorem State.takeCnts_keeps {s0 s : State} (h : Keeps s0 s) (p : Nat → Bool) (clear : Bool) : Keeps s0 (State.takeCnts s p clear) := by
  unfold State.takeCnts
  try dsimp only
  with_reducible repeat' first
    | assumption | apply Keeps.ite | split | dsimp only
    | (refine Keeps.mk' ?_ rfl ?_ <;> [skip; (simp only [State.lens]; done)])

theorem specDiagCounters_ok : specDiagCounters.Ok := by
  refine ⟨fun c h => ?_, fun c bad h => ?_, fun c h => ?_, fun c h => ?_, fun c h => ?_⟩
  all_goals
    dsimp only [specDiagCounters]
    with_reducible repeat' first
      | assumption | apply readOk_keeps | apply State.takeCnts_keeps | apply Keeps.ite | split | dsimp only

end Sys2Proof.Machine
end

