-- ==== Sys2Proof/Laws/KeepsRun.lean ====
section
/-! SUPPORT. What is kept (Laws/Keeps.lean) by the delta, the renders stages and the command packets. -/

set_option linter.unusedTactic false
set_option linter.unreachableTactic false
set_option linter.unusedVariables false

namespace Sys2Proof.Machine

/-! ### Machine/Opcodes.lean -/

theorem specOf_keeps_eq {op : Nat} {sp : OpSpec} (e : specOf op = some sp) : sp.Ok := by
  unfold specOf at e
  split at e <;> first
    | exact (Option.some_ne_none _ e.symm).elim
    | (obtain rfl := Option.some.inj e
       first
         | exact specSysInfo_ok
         | exact specSessionOpen_ok
         | exact specSessionClose_ok
         | exact specSeqQuery_ok
         | exact specEventMask_ok
         | exact specKeySet_ok
         | exact specRenderRate_ok
         | exact specSysStatus_ok
         | exact specSysKernelLoad_ok
         | exact specSysKernelRun_ok
         | exact specSysKernelUnload_ok
         | exact specSysKernelRead_ok
         | exact specZoneSet_ok
         | exact specZoneExclSet_ok
         | exact specZoneRead_ok
         | exact specFeedSet_ok
         | exact specFeedRead_ok
         | exact specFeedWithdraw_ok
         | exact specFeedRestore_ok
         | exact specLayoutStatus_ok
         | exact specLayoutResolve_ok
         | exact specObjectSet_ok
         | exact specObjectPosBulk_ok
         | exact specObjectRead_ok
         | exact specObjectRestore_ok
         | exact specRouteSet_ok
         | exact specRouteDelete_ok
         | exact specRouteRead_ok
         | exact specMatrixStatus_ok
         | exact specChainSet_ok
         | exact specBiquadSet_ok
         | exact specChainRead_ok
         | exact specFeedStatus_ok
         | exact specFilterLibWrite_ok
         | exact specFilterLibFree_ok
         | exact specFilterStage_ok
         | exact specFilterSwap_ok
         | exact specFilterDiscard_ok
         | exact specFilterDirect_ok
         | exact specFilterAb_ok
         | exact specFilterRead_ok
         | exact specLoupeZoneSet_ok
         | exact specLoupeInputSet_ok
         | exact specLoupeSync_ok
         | exact specLoupeJobStart_ok
         | exact specLoupeJobAbort_ok
         | exact specLoupeLearn_ok
         | exact specLoupeVeto_ok
         | exact specLoupeCompClear_ok
         | exact specLoupeAuditRead_ok
         | exact specLoupeJobRead_ok
         | exact specLoupeDerive_ok
         | exact specNetportSet_ok
         | exact specFlowSet_ok
         | exact specFlowDelete_ok
         | exact specFlowRead_ok
         | exact specNetportRead_ok
         | exact specNetKcpSet_ok
         | exact specPtpSet_ok
         | exact specRefInputSet_ok
         | exact specRefPrioritySet_ok
         | exact specRefForce_ok
         | exact specTriggerSet_ok
         | exact specCaptureRead_ok
         | exact specTimeRead_ok
         | exact specRefStatus_ok
         | exact specPortSet_ok
         | exact specPortMask_ok
         | exact specPortRun_ok
         | exact specSidetoneSet_ok
         | exact specPortRead_ok
         | exact specPairSet_ok
         | exact specPairStatus_ok
         | exact specPairSync_ok
         | exact specPairHandover_ok
         | exact specTxnBegin_ok
         | exact specTxnAbort_ok
         | exact specPwrState_ok
         | exact specPwrOppoint_ok
         | exact specPwrDomainRetry_ok
         | exact specPwrStatus_ok
         | exact specWindowUnlock_ok
         | exact specWindowLock_ok
         | exact specRegRead_ok
         | exact specRegWrite_ok
         | exact specDiagCounters_ok
         | exact specDiagInclusionRead_ok
         | exact specDiagFacetRetry_ok
         | exact specDiagLifecycle_ok)

theorem State.applyCmd_keeps {s0 s : State} (h : Keeps s0 s) (c : Cmd) (bad : List Nat) : Keeps s0 (s.applyCmd c bad) := by
  unfold State.applyCmd
  split
  · rename_i e; exact (specOf_keeps_eq e).apply _ _ h
  · exact h

theorem State.mirror_keeps {s0 s : State} (h : Keeps s0 s) (x q : Nat) (r : ReplyRec) : Keeps s0 (State.mirror s x q r) := by
  unfold State.mirror
  try dsimp only
  with_reducible repeat' first | assumption | apply State.setSess_keeps | apply Keeps.ite | split | dsimp only

theorem State.applySeed_keeps {s0 s : State} (h : Keeps s0 s) (what index value : Nat) : Keeps s0 (State.applySeed s what index value) := by
  unfold State.applySeed
  try dsimp only
  with_reducible repeat' first
    | assumption | apply State.modObjRt_keeps | apply State.modFlowRt_keeps | apply Keeps.ite | split | dsimp only
    | (refine Keeps.mk' ?_ rfl ?_ <;> [skip; (simp only [State.lens]; done)])

theorem State.takeSession_keeps {s0 s : State} (h : Keeps s0 s) (x : Nat) (m : SessImage) : Keeps s0 (State.takeSession s x m) := by
  unfold State.takeSession
  try dsimp only
  with_reducible repeat' first | assumption | apply State.setSess_keeps | apply Keeps.ite | split | dsimp only

theorem State.takeTimer_keeps {s0 s : State} (h : Keeps s0 s) (t : TimerOut) : Keeps s0 (State.takeTimer s t) := by
  unfold State.takeTimer
  try dsimp only
  with_reducible repeat' first
    | assumption | intro _ | apply State.closeSess_keeps | apply State.dropPieces_keeps | apply State.modRef_keeps
    | apply State.modLf_keeps | apply Keeps.foldl | apply Keeps.ite | split | dsimp only
    | (refine Keeps.mk' ?_ rfl ?_ <;> [skip; (simp only [State.lens]; done)])
    | (refine Keeps.mk' ?_ rfl ?_ <;> [skip; (simp [State.lens]; done)])

theorem State.dropUnplaced_keeps {s0 s : State} (h : Keeps s0 s)  : Keeps s0 (State.dropUnplaced s) := by
  unfold State.dropUnplaced
  try dsimp only
  with_reducible repeat' first
    | assumption | intro _ | apply Keeps.foldl | apply Keeps.ite | split | dsimp only
    | (refine Keeps.mk' ?_ rfl ?_ <;> [skip; (simp only [State.lens]; done)])
    | (refine Keeps.mk' ?_ rfl ?_ <;> [skip; (simp [State.lens]; done)])

theorem State.settleKernel_keeps {s0 s : State} (h : Keeps s0 s) (e : Nat × Kernel) : Keeps s0 (State.settleKernel s e) := by
  unfold State.settleKernel
  try dsimp only
  with_reducible repeat' first
    | assumption | intro _ | apply State.modKernel_keeps | apply State.loadKernel_keeps | apply State.runKernel_keeps
    | apply Keeps.foldl | apply Keeps.ite | split | dsimp only
    | (refine Keeps.mk' ?_ rfl ?_ <;> [skip; (simp only [State.lens]; done)])
    | (refine Keeps.mk' ?_ rfl ?_ <;> [skip; (simp [State.lens]; done)])

theorem State.settleKernels_keeps {s0 s : State} (h : Keeps s0 s)  : Keeps s0 (State.settleKernels s) := by
  unfold State.settleKernels
  try dsimp only
  with_reducible repeat' first
    | assumption | intro _ | apply State.settleKernel_keeps | apply Keeps.foldl | apply Keeps.ite | split
    | dsimp only | (refine Keeps.mk' ?_ rfl ?_ <;> [skip; (simp only [State.lens]; done)])
    | (refine Keeps.mk' ?_ rfl ?_ <;> [skip; (simp [State.lens]; done)])

theorem State.settle_keeps {s0 s : State} (h : Keeps s0 s)  : Keeps s0 (State.settle s) := by
  unfold State.settle
  try dsimp only
  with_reducible repeat' first
    | assumption | intro _ | apply State.speedCheck_keeps | apply State.dropUnplaced_keeps
    | apply State.settleKernels_keeps | apply Keeps.foldl | apply Keeps.ite | split | dsimp only
    | (refine Keeps.mk' ?_ rfl ?_ <;> [skip; (simp only [State.lens]; done)])
    | (refine Keeps.mk' ?_ rfl ?_ <;> [skip; (simp [State.lens]; done)])

theorem State.applyEntry_keeps {s0 s : State} (h : Keeps s0 s) (e : Entry) : Keeps s0 (State.applyEntry s e) := by
  unfold State.applyEntry
  try dsimp only
  with_reducible repeat' first
    | assumption | intro _ | apply State.layoutEntry_keeps | apply State.posBulk_keeps | apply State.refApply_keeps
    | apply State.loupeDec_keeps | apply State.modPort_keeps | apply State.asrcLocked_keeps
    | apply State.compareCarats_keeps | apply State.pwrBegin_keeps | apply State.pointBegin_keeps
    | apply State.applyCmd_keeps | apply State.mirror_keeps | apply State.applySeed_keeps
    | apply State.takeSession_keeps | apply State.takeTimer_keeps | apply State.settle_keeps | apply Keeps.foldl
    | apply Keeps.ite | split | dsimp only | (refine Keeps.mk' ?_ rfl ?_ <;> [skip; (simp only [State.lens]; done)])
    | (refine Keeps.mk' ?_ rfl ?_ <;> [skip; (simp [State.lens]; done)])

theorem State.applyAll_keeps {s0 s : State} (h : Keeps s0 s) (k : Nat) (es : List Entry) : Keeps s0 (State.applyAll s k es) := by
  unfold State.applyAll
  try dsimp only
  with_reducible repeat' first
    | assumption | intro _ | apply State.applyEntry_keeps | apply Keeps.foldl | apply Keeps.ite | split | dsimp only
    | (refine Keeps.mk' ?_ rfl ?_ <;> [skip; (simp only [State.lens]; done)])

theorem State.projected_keeps {s0 s : State} (h : Keeps s0 s) : Keeps s0 (State.projected s) := by
  unfold State.projected
  try dsimp only
  with_reducible repeat' first | assumption | apply State.applyAll_keeps | apply Keeps.ite | split | dsimp only

/-! ### Machine/Delta.lean -/

theorem State.draw_keeps {s0 s : State} (h : Keeps s0 s) (l : List (Nat × Nat)) : Keeps s0 (State.draw s l) := by
  unfold State.draw
  try dsimp only
  with_reducible repeat' first
    | assumption | intro _ | apply State.fresh_keeps | apply State.enter_keeps | apply Keeps.foldl | apply Keeps.ite | split
    | dsimp only

theorem State.acceptCmd_keeps {s0 s : State} (h : Keeps s0 s) (sp : OpSpec) (c : Cmd) (hs : sp.Ok) : Keeps s0 (State.acceptCmd s sp c) := by
  unfold State.acceptCmd
  try dsimp only
  with_reducible repeat' first
    | assumption | apply hs.accept | apply State.bezel_keeps | apply State.enter_keeps | apply State.replyTo_keeps
    | apply State.draw_keeps | apply Keeps.ite | split | dsimp only

theorem State.enterSet_keeps {s0 s : State} (h : Keeps s0 s) (c : Cmd) (r : SetRun) (timed late : Bool) : Keeps s0 (State.enterSet s c r timed late) := by
  unfold State.enterSet
  try dsimp only
  with_reducible repeat' first | assumption | apply State.enter_keeps | apply State.draw_keeps

theorem State.txnCommit_keeps {s0 s : State} (h : Keeps s0 s) (c : Cmd) : Keeps s0 (State.txnCommit s c) := by
  unfold State.txnCommit
  try dsimp only
  with_reducible repeat' first
    | assumption | apply State.setSess_keeps | apply State.replyTo_keeps | apply State.stageSess_keeps
    | apply State.enterSet_keeps | apply Keeps.ite | split | dsimp only

theorem State.finalCheck_keeps {s0 s : State} (h : Keeps s0 s) (x : Nat) (w : Timed) : Keeps s0 (State.finalCheck s x w) := by
  unfold State.finalCheck
  try dsimp only
  with_reducible repeat' first
    | assumption | apply State.setSess_keeps | apply State.enterSet_keeps | apply Keeps.ite | split | dsimp only
    | (refine Keeps.mk' ?_ rfl ?_ <;> [skip; (simp only [State.lens]; done)])

theorem State.finalChecks_keeps {s0 s : State} (h : Keeps s0 s) : Keeps s0 (State.finalChecks s) := by
  unfold State.finalChecks
  try dsimp only
  with_reducible repeat' first
    | assumption | intro _ | apply State.finalCheck_keeps | apply Keeps.foldl | apply Keeps.ite | split | dsimp only

theorem State.noteDelta_keeps {s0 s : State} (h : Keeps s0 s) (c : Closed) : Keeps s0 (State.noteDelta s c) := by
  unfold State.noteDelta
  try dsimp only
  with_reducible repeat' first
    | assumption | intro _ | apply State.setReg_keeps | apply Keeps.foldl | apply Keeps.ite | split | dsimp only
    | (refine Keeps.mk' ?_ rfl ?_ <;> [skip; (simp only [State.lens]; done)])
    | (refine Keeps.mk' ?_ rfl ?_ <;> [skip; (simp [State.lens]; done)])

theorem State.closeDelta_keeps {s0 s : State} (h : Keeps s0 s)  : Keeps s0 (State.closeDelta s) := by
  unfold State.closeDelta
  try dsimp only
  with_reducible repeat' first
    | assumption | intro _ | apply State.bezel_keeps | apply State.servo_keeps | apply State.finalChecks_keeps
    | apply State.noteDelta_keeps | apply Keeps.foldl | apply Keeps.ite | split | dsimp only
    | (refine Keeps.mk' ?_ rfl ?_ <;> [skip; (simp only [State.lens]; done)])
    | (refine Keeps.mk' ?_ rfl ?_ <;> [skip; (simp [State.lens]; done)])

theorem execDeltaCutoff_keeps_eq {s0 s t₀ : State}  (e₀ : execDeltaCutoff s = .next t₀) (h₀ : Keeps s0 s) : Keeps s0 t₀ := by
  unfold execDeltaCutoff at e₀
  try dsimp only at e₀
  repeat' split at e₀
  all_goals first
    | (obtain rfl := Host.Outcome.next.inj e₀
       with_reducible repeat' first | assumption | apply State.closeDelta_keeps)
    | (cases e₀; done)

theorem State.txnDone_keeps {s0 s : State} (h : Keeps s0 s) (txn : Nat) (r : ReplyRec) (late : Bool) : Keeps s0 (State.txnDone s txn r late) := by
  unfold State.txnDone
  try dsimp only
  with_reducible repeat' first | assumption | apply State.eventTxn_keeps

theorem State.answer_keeps {s0 s : State} (h : Keeps s0 s) (e : Entry) : Keeps s0 (State.answer s e) := by
  unfold State.answer
  try dsimp only
  with_reducible repeat' first
    | assumption | apply State.reply_keeps | apply State.txnDone_keeps | apply Keeps.ite | split | dsimp only

theorem State.commitDelta_keeps {s0 s : State} (h : Keeps s0 s) (c : Closed) : Keeps s0 (State.commitDelta s c) := by
  unfold State.commitDelta
  try dsimp only
  with_reducible repeat' first
    | assumption | intro _ | apply State.bezel_keeps | apply State.answer_keeps | apply Keeps.foldl | apply Keeps.ite
    | split | dsimp only | (refine Keeps.mk' ?_ rfl ?_ <;> [skip; (simp only [State.lens]; done)])

theorem State.forget_keeps {s0 s : State} (h : Keeps s0 s) (x q : Nat) : Keeps s0 (State.forget s x q) := by
  unfold State.forget
  try dsimp only
  with_reducible repeat' first | assumption | apply State.setSess_keeps

theorem State.void_keeps {s0 s : State} (h : Keeps s0 s) (e : Entry) : Keeps s0 (State.void s e) := by
  unfold State.void
  try dsimp only
  with_reducible repeat' first
    | assumption | apply State.setSess_keeps | apply State.forget_keeps | apply Keeps.ite | split | dsimp only

theorem State.dropDelta_keeps {s0 s : State} (h : Keeps s0 s) (c : Closed) : Keeps s0 (State.dropDelta s c) := by
  unfold State.dropDelta
  try dsimp only
  with_reducible repeat' first
    | assumption | intro _ | apply State.raise_keeps | apply State.count_keeps | apply State.bezel_keeps
    | apply State.peerState_keeps | apply State.report_keeps | apply State.void_keeps | apply Keeps.foldl | apply Keeps.ite
    | split | dsimp only | (refine Keeps.mk' ?_ rfl ?_ <;> [skip; (simp only [State.lens]; done)])

theorem State.deadline_keeps {s0 s : State} (h : Keeps s0 s) : Keeps s0 (State.deadline s) := by
  unfold State.deadline
  try dsimp only
  with_reducible repeat' first
    | assumption | intro _ | apply State.txnDone_keeps | apply State.commitDelta_keeps | apply State.dropDelta_keeps
    | apply Keeps.foldl | apply Keeps.ite | split | dsimp only
    | (refine Keeps.mk' ?_ rfl ?_ <;> [skip; (simp only [State.lens]; done)])

theorem execAckDeadline_keeps_eq {s0 s t₀ : State}  (e₀ : execAckDeadline s = .next t₀) (h₀ : Keeps s0 s) : Keeps s0 t₀ := by
  unfold execAckDeadline at e₀
  try dsimp only at e₀
  repeat' split at e₀
  all_goals first
    | (obtain rfl := Host.Outcome.next.inj e₀
       with_reducible repeat' first | assumption | apply State.deadline_keeps)
    | (cases e₀; done)

theorem execResendRx_keeps_eq {s0 s t₀ : State} {segs : List Nat} (e₀ : execResendRx segs s = .next t₀) (h₀ : Keeps s0 s) : Keeps s0 t₀ := by
  unfold execResendRx at e₀
  try dsimp only at e₀
  repeat' split at e₀
  all_goals first
    | (obtain rfl := Host.Outcome.next.inj e₀
       with_reducible repeat' first | assumption | apply State.bezel_keeps)
    | (cases e₀; done)

theorem execAckRx_keeps_eq {s0 s t₀ : State} {seq : Nat} (e₀ : execAckRx seq s = .next t₀) (h₀ : Keeps s0 s) : Keeps s0 t₀ := by
  unfold execAckRx at e₀
  try dsimp only at e₀
  repeat' split at e₀
  all_goals first
    | (obtain rfl := Host.Outcome.next.inj e₀
       with_reducible repeat' first
         | assumption | apply Keeps.ite | split | dsimp only
         | (refine Keeps.mk' ?_ rfl ?_ <;> [skip; (simp only [State.lens]; done)]))
    | (cases e₀; done)

theorem State.tryAck_keeps {s0 s : State} (h : Keeps s0 s) (c : Closed) (names : List Nat) : Keeps s0 (State.tryAck s c names) := by
  unfold State.tryAck
  try dsimp only
  with_reducible repeat' first
    | assumption | apply State.bezel_keeps | apply Keeps.ite | split | dsimp only
    | (refine Keeps.mk' ?_ rfl ?_ <;> [skip; (simp only [State.lens]; done)])

theorem execDeltaSegment_keeps_eq {s0 s t₀ : State} {g : DeltaSeg} (e₀ : execDeltaSegment g s = .next t₀) (h₀ : Keeps s0 s) : Keeps s0 t₀ := by
  unfold execDeltaSegment at e₀
  try dsimp only at e₀
  repeat' split at e₀
  all_goals first
    | (obtain rfl := Host.Outcome.next.inj e₀
       with_reducible repeat' first
         | assumption | apply State.bezel_keeps | apply State.tryAck_keeps | apply Keeps.ite | split | dsimp only
         | (refine Keeps.mk' ?_ rfl ?_ <;> [skip; (simp only [State.lens]; done)]))
    | (cases e₀; done)

theorem execMarkRx_keeps_eq {s0 s t₀ : State} {seq : Nat} {commit : Bool} (e₀ : execMarkRx seq commit s = .next t₀) (h₀ : Keeps s0 s) : Keeps s0 t₀ := by
  unfold execMarkRx at e₀
  try dsimp only at e₀
  repeat' split at e₀
  all_goals first
    | (obtain rfl := Host.Outcome.next.inj e₀
       with_reducible repeat' first
         | assumption | apply Keeps.ite | split | dsimp only
         | (refine Keeps.mk' ?_ rfl ?_ <;> [skip; (simp only [State.lens]; done)]))
    | (cases e₀; done)

theorem State.stagedRx_keeps {s0 s : State} (h : Keeps s0 s) (x txn : Nat) (g : Staged) : Keeps s0 (State.stagedRx s x txn g) := by
  unfold State.stagedRx
  dsimp only
  split
  · exact h
  · rename_i e
    have h1 := (specOf_keeps_eq e).accept (stagedCmd (s.sess x).ep x txn (s.sess x).tagged g) h
    exact Keeps.ite h1 (Keeps.ite (State.setSess_keeps (State.stage_keeps h1 _ _) _ _) h1)

theorem State.takeStaged_keeps {s0 s : State} (h : Keeps s0 s) (o : StagedObj) : Keeps s0 (State.takeStaged s o) := by
  unfold State.takeStaged
  try dsimp only
  with_reducible repeat' first
    | assumption | intro _ | apply State.takeSession_keeps | apply State.stagedRx_keeps | apply Keeps.foldl
    | apply Keeps.ite | split | dsimp only | (refine Keeps.mk' ?_ rfl ?_ <;> [skip; (simp only [State.lens]; done)])
    | (refine Keeps.mk' ?_ rfl ?_ <;> [skip; (simp [State.lens]; done)])

theorem execStagingRx_keeps_eq {s0 s t₀ : State} {num : Nat} {o : StagedObj} (e₀ : execStagingRx num o s = .next t₀) (h₀ : Keeps s0 s) : Keeps s0 t₀ := by
  unfold execStagingRx at e₀
  try dsimp only at e₀
  repeat' split at e₀
  all_goals first
    | (obtain rfl := Host.Outcome.next.inj e₀
       with_reducible repeat' first
         | assumption | intro _ | apply State.tryAck_keeps | apply State.takeStaged_keeps | apply Keeps.foldl
         | apply Keeps.ite | split | dsimp only | (refine Keeps.mk' ?_ rfl ?_ <;> [skip; (simp [State.lens]; done)]))
    | (cases e₀; done)

theorem held_length {α : Type} (n : Nat) (d : α) (l : List α) : (held n d l).length = n := by
  unfold held; simp
theorem State.takeImage_keeps {s0 s : State} (h : Keeps s0 s) (m : Image) : Keeps s0 (s.takeImage m) :=
  h.updShape rfl rfl fun x => by
    simp only [State.Shape] at x
    simp only [State.Shape, State.takeImage, held_length]
    simp_all

theorem State.takeFlows_keeps {s0 s : State} (h : Keeps s0 s) (m : SMap Flow) : Keeps s0 (State.takeFlows s m) := by
  unfold State.takeFlows
  try dsimp only
  with_reducible repeat' first
    | assumption | intro _ | apply State.setFlow_keeps | apply Keeps.foldl | apply Keeps.ite | split | dsimp only
    | (refine Keeps.mk' ?_ rfl ?_ <;> [skip; (simp only [State.lens]; done)])
    | (refine Keeps.mk' ?_ rfl ?_ <;> [skip; (simp [State.lens]; done)])

theorem execSyncImageComplete_keeps_eq {s0 s t₀ : State} {image : Image} (e₀ : execSyncImageComplete image s = .next t₀) (h₀ : Keeps s0 s) : Keeps s0 t₀ := by
  unfold execSyncImageComplete at e₀
  try dsimp only at e₀
  repeat' split at e₀
  all_goals first
    | (obtain rfl := Host.Outcome.next.inj e₀
       with_reducible repeat' first
         | assumption | intro _ | apply State.applyAll_keeps | apply State.takeImage_keeps
         | apply State.takeFlows_keeps | apply Keeps.foldl | apply Keeps.ite | split | dsimp only
         | (refine Keeps.mk' ?_ rfl ?_ <;> [skip; (simp [State.lens]; done)]))
    | (cases e₀; done)

theorem State.applyDelta_keeps {s0 s : State} (h : Keeps s0 s)  : Keeps s0 (State.applyDelta s) := by
  unfold State.applyDelta
  try dsimp only
  with_reducible repeat' first
    | assumption | intro _ | apply State.loseStep_keeps | apply State.applyEntry_keeps | apply State.noteDelta_keeps
    | apply State.boundary_keeps | apply Keeps.foldl | apply Keeps.ite | split | dsimp only
    | (refine Keeps.mk' ?_ rfl ?_ <;> [skip; (simp only [State.lens]; done)])
    | (refine Keeps.mk' ?_ rfl ?_ <;> [skip; (simp [State.lens]; done)])

/-! ### Machine/Stages.lean -/

theorem State.caratWords_keeps {s0 s : State} (h : Keeps s0 s) (chan num : Nat) (corrupt : Bool) :
    Keeps s0 (s.caratWords chan num corrupt).1 := by
  unfold State.caratWords; split
  · exact State.fresh_keeps h
  · split <;> exact h

theorem State.noteCheck_keeps {s0 s : State} (h : Keeps s0 s) (v : Check) (cls inst : Nat) (unit : Option Nat) (chan num cyc : Nat) (corrupt : Bool) : Keeps s0 (State.noteCheck s v cls inst unit chan num cyc corrupt) := by
  unfold State.noteCheck
  try dsimp only
  with_reducible repeat' first
    | assumption | apply State.report_keeps | apply State.caratWords_keeps | apply Keeps.ite | split | dsimp only

theorem State.putBlk_keeps {s0 s : State} (h : Keeps s0 s) (chan : Nat) (smp : List Int) : Keeps s0 (State.putBlk s chan smp) := by
  unfold State.putBlk
  try dsimp only
  with_reducible repeat' first
    | assumption | apply Keeps.ite | split | dsimp only
    | (refine Keeps.mk' ?_ rfl ?_ <;> [skip; (simp only [State.lens]; done)])

theorem State.inputSig_keeps {s0 s : State} (h : Keeps s0 s) (x : RunFacts) (code : Nat) : Keeps s0 (s.inputSig x code).1 := by
  unfold State.inputSig
  with_reducible repeat' first
    | assumption | apply State.noteCheck_keeps | apply Keeps.ite | split | dsimp only
    | (refine Keeps.mk' ?_ rfl ?_ <;> [skip; (simp only [State.lens]; done)])

theorem State.pavHold_keeps {s0 s : State} (h : Keeps s0 s) (o : Nat) : Keeps s0 (State.pavHold s o) := by
  unfold State.pavHold
  try dsimp only
  with_reducible repeat' first
    | assumption | apply State.raise_keeps | apply State.count_keeps | apply State.report_keeps | apply Keeps.ite | split
    | dsimp only | (refine Keeps.mk' ?_ rfl ?_ <;> [skip; (simp only [State.lens]; done)])

theorem State.extLate_keeps {s0 s : State} (h : Keeps s0 s) (o : Nat) : Keeps s0 (State.extLate s o) := by
  unfold State.extLate
  try dsimp only
  with_reducible repeat' first | assumption | apply State.raise_keeps | apply State.count_keeps | apply State.report_keeps

theorem State.lineRun_keeps {s0 s : State} (h : Keeps s0 s) (x : RunFacts) (i : Nat) : Keeps s0 (State.lineRun x s i) := by
  unfold State.lineRun
  try dsimp only
  with_reducible repeat' first
    | assumption | intro _ | apply State.modObjRt_keeps | apply State.putBlk_keeps | apply State.inputSig_keeps
    | apply Keeps.foldl | apply Keeps.ite | split | dsimp only
    | (refine Keeps.mk' ?_ rfl ?_ <;> [skip; (simp only [State.lens]; done)])
    | (refine Keeps.mk' ?_ rfl ?_ <;> [skip; (simp [State.lens]; done)])

theorem State.objRun_keeps {s0 s : State} (h : Keeps s0 s) (x : RunFacts) (o : Fin 1024) : Keeps s0 (State.objRun x s o) := by
  unfold State.objRun
  try dsimp only
  with_reducible repeat' first
    | assumption | intro _ | apply State.modObjRt_keeps | apply State.putBlk_keeps | apply State.inputSig_keeps
    | apply State.pavHold_keeps | apply State.extLate_keeps | apply State.lineRun_keeps | apply Keeps.foldl
    | apply Keeps.ite | split | dsimp only | (refine Keeps.mk' ?_ rfl ?_ <;> [skip; (simp only [State.lens]; done)])
    | (refine Keeps.mk' ?_ rfl ?_ <;> [skip; (simp [State.lens]; done)])

theorem State.holdList_keeps {s0 s : State} (h : Keeps s0 s) (fs : List Nat) (o : Nat) : Keeps s0 (State.holdList fs s o) := by
  unfold State.holdList
  try dsimp only
  with_reducible repeat' first
    | assumption | apply State.modObjRt_keeps | apply State.pavHold_keeps | apply Keeps.ite | split | dsimp only

theorem State.rowSig_keeps {s0 : State} (x : RunFacts) (a : State × SMap RowSig) (o : Nat) (h : Keeps s0 a.1) :
    Keeps s0 (State.rowSig x a o).1 := by
  unfold State.rowSig; dsimp only
  with_reducible repeat' first | assumption | apply State.noteCheck_keeps | apply Keeps.ite | split | dsimp only

theorem State.matrixRun_keeps {s0 s : State} (h : Keeps s0 s) (x : RunFacts) (fs : List Nat) : Keeps s0 (State.matrixRun x s fs) := by
  unfold State.matrixRun
  dsimp only
  with_reducible repeat' first
    | assumption | intro _ | apply State.count_keeps | apply State.putBlk_keeps | apply State.holdList_keeps
    | apply State.rowSig_keeps | apply Keeps.foldlFst | apply Keeps.foldl | apply Keeps.ite | split | dsimp only

theorem State.chainRun_keeps {s0 s : State} (h : Keeps s0 s) (x : RunFacts) (f : Nat) : Keeps s0 (State.chainRun x s f) := by
  unfold State.chainRun
  try dsimp only
  with_reducible repeat' first
    | assumption | apply State.count_keeps | apply State.modFeedRt_keeps | apply State.injectDone_keeps
    | apply State.noteCheck_keeps | apply State.putBlk_keeps | apply Keeps.ite | split | dsimp only

theorem State.startRun_keeps {s0 s : State} (h : Keeps s0 s) (k : Nat) : Keeps s0 (State.startRun s k) := by
  unfold State.startRun
  try dsimp only
  with_reducible repeat' first
    | assumption | intro _ | apply State.setCore_keeps | apply Keeps.foldl | apply Keeps.ite | split | dsimp only
    | (refine Keeps.mk' ?_ rfl ?_ <;> [skip; (simp only [State.lens]; done)])
    | (refine Keeps.mk' ?_ rfl ?_ <;> [skip; (simp [State.lens]; done)])

theorem State.kernelStart_keeps {s0 s : State} (h : Keeps s0 s) (k : Nat) : Keeps s0 (State.kernelStart s k) := by
  unfold State.kernelStart
  try dsimp only
  with_reducible repeat' first
    | assumption | intro _ | apply State.modKernel_keeps | apply State.startRun_keeps | apply Keeps.foldl
    | apply Keeps.ite | split | dsimp only | (refine Keeps.mk' ?_ rfl ?_ <;> [skip; (simp only [State.lens]; done)])
    | (refine Keeps.mk' ?_ rfl ?_ <;> [skip; (simp [State.lens]; done)])

theorem State.renderStart_keeps {s0 s : State} (h : Keeps s0 s) (k : Nat) (w : Work) : Keeps s0 (State.renderStart s k w) := by
  unfold State.renderStart
  try dsimp only
  with_reducible repeat' first
    | assumption | intro _ | apply State.fresh_keeps | (refine State.fresh_keeps_eq (by assumption) ?_)
    | apply State.setReg_keeps | apply State.startRun_keeps | apply Keeps.foldl | apply Keeps.ite | split
    | dsimp only | (refine Keeps.mk' ?_ rfl ?_ <;> [skip; (simp only [State.lens]; done)])
    | (refine Keeps.mk' ?_ rfl ?_ <;> [skip; (simp [State.lens]; done)])

theorem execFacetRunStart_keeps_eq {s0 s t₀ : State} {k : Fin 64} {w : Work} {facts : RunFacts} (e₀ : execFacetRunStart k w facts s = .next t₀) (h₀ : Keeps s0 s) : Keeps s0 t₀ := by
  unfold execFacetRunStart at e₀
  try dsimp only at e₀
  repeat' split at e₀
  all_goals first
    | (obtain rfl := Host.Outcome.next.inj e₀
       with_reducible repeat' first
         | assumption | intro _ | apply State.objRun_keeps | apply State.matrixRun_keeps | apply State.chainRun_keeps
         | apply State.kernelStart_keeps | apply State.renderStart_keeps | apply Keeps.foldl | apply Keeps.ite
         | split | dsimp only | (refine Keeps.mk' ?_ rfl ?_ <;> [skip; (simp [State.lens]; done)]))
    | (cases e₀; done)

/-! ### Machine/Boundary.lean -/

theorem State.watchdog_keeps {s0 s : State} (h : Keeps s0 s) : Keeps s0 (State.watchdog s) := by
  unfold State.watchdog
  try dsimp only
  with_reducible repeat' first
    | assumption | apply State.controlFault_keeps | apply State.stallRecord_keeps | apply Keeps.ite | split | dsimp only
    | (refine Keeps.mk' ?_ rfl ?_ <;> [skip; (simp only [State.lens]; done)])

theorem State.exitFeed_keeps {s0 s : State} (h : Keeps s0 s) (bad : List (Fin 1024)) (f : Nat) : Keeps s0 (State.exitFeed bad s f) := by
  unfold State.exitFeed
  try dsimp only
  with_reducible repeat' first
    | assumption | intro _ | apply State.modFeedRt_keeps | apply State.noteCheck_keeps | apply Keeps.foldl | apply Keeps.ite
    | split | dsimp only

theorem State.muteFeed_keeps {s0 s : State} (h : Keeps s0 s) (f : Nat) : Keeps s0 (State.muteFeed s f) := by
  unfold State.muteFeed
  try dsimp only
  with_reducible repeat' first | assumption | apply State.modFeedRt_keeps

theorem State.unmuted_keeps {s0 s : State} (h : Keeps s0 s) : Keeps s0 (State.unmuted s) := by
  unfold State.unmuted
  try dsimp only
  with_reducible repeat' first
    | assumption | apply Keeps.ite | split | dsimp only
    | (refine Keeps.mk' ?_ rfl ?_ <;> [skip; (simp only [State.lens]; done)])

theorem State.exits_keeps {s0 s : State} (h : Keeps s0 s) (bad : List (Fin 1024)) : Keeps s0 (State.exits s bad) := by
  unfold State.exits
  try dsimp only
  with_reducible repeat' first
    | assumption | intro _ | apply State.portHand_keeps | apply State.netHand_keeps | apply State.exitFeed_keeps
    | apply State.muteFeed_keeps | apply State.unmuted_keeps | apply Keeps.foldl | apply Keeps.ite | split | dsimp only

theorem State.addInputs_keeps {s0 s : State} (h : Keeps s0 s) : Keeps s0 (State.addInputs s) := by
  unfold State.addInputs
  try dsimp only
  with_reducible repeat' first
    | assumption | apply Keeps.ite | split | dsimp only
    | (refine Keeps.mk' ?_ rfl ?_ <;> [skip; (simp only [State.lens]; done)])

theorem State.closeWindows_keeps {s0 s : State} (h : Keeps s0 s) (meas : List MeasLine) : Keeps s0 (State.closeWindows s meas) := by
  unfold State.closeWindows
  try dsimp only
  with_reducible repeat' first
    | assumption | intro _ | apply State.measAll_keeps | apply State.portClose_keeps | apply State.addInputs_keeps
    | apply Keeps.foldl | apply Keeps.ite | split | dsimp only
    | (refine Keeps.mk' ?_ rfl ?_ <;> [skip; (simp only [State.lens]; done)])
    | (refine Keeps.mk' ?_ rfl ?_ <;> [skip; (simp [State.lens]; done)])

theorem State.dopplerDue_keeps {s0 s : State} (h : Keeps s0 s) (o : Nat) : Keeps s0 (State.dopplerDue s o) := by
  unfold State.dopplerDue
  try dsimp only
  with_reducible repeat' first
    | assumption | apply State.modObjRt_keeps | apply State.setDoppler_keeps | apply Keeps.ite | split | dsimp only

theorem State.waiters_keeps {s0 s : State} (h : Keeps s0 s) : Keeps s0 (State.waiters s) := by
  unfold State.waiters
  try dsimp only
  with_reducible repeat' first
    | assumption | intro _ | apply State.switchDue_keeps | apply State.releaseWaiting_keeps | apply State.align_keeps
    | apply State.dopplerDue_keeps | apply Keeps.foldl | apply Keeps.ite | split | dsimp only

theorem State.feedChange_keeps {s0 s : State} (h : Keeps s0 s) (f : Nat) : Keeps s0 (State.feedChange s f) := by
  unfold State.feedChange
  try dsimp only
  with_reducible repeat' first | assumption | apply State.modFeedRt_keeps | apply Keeps.ite | split | dsimp only

theorem State.directBoundary_keeps {s0 s : State} (h : Keeps s0 s) : Keeps s0 (State.directBoundary s) := by
  unfold State.directBoundary
  try dsimp only
  with_reducible repeat' first
    | assumption | intro _ | apply State.event_keeps | apply State.modFeedRt_keeps | apply Keeps.foldl | apply Keeps.ite
    | split | dsimp only | (refine Keeps.mk' ?_ rfl ?_ <;> [skip; (simp only [State.lens]; done)])

theorem State.shedOne_keeps {s0 s : State} (h : Keeps s0 s) (o : Nat) : Keeps s0 (State.shedOne s o) := by
  unfold State.shedOne
  try dsimp only
  with_reducible repeat' first | assumption | apply State.event_keeps | apply State.report_keeps | apply State.modObjRt_keeps

theorem State.shedLoad_keeps {s0 s : State} (h : Keeps s0 s) (n : Nat) : Keeps s0 (State.shedLoad s n) := by
  unfold State.shedLoad
  try dsimp only
  with_reducible repeat' first
    | assumption | intro _ | apply State.shedOne_keeps | apply Keeps.foldl | apply Keeps.ite | split | dsimp only

theorem State.pavOne_keeps {s0 s : State} (h : Keeps s0 s) (o : Nat) : Keeps s0 (State.pavOne s o) := by
  unfold State.pavOne
  try dsimp only
  with_reducible repeat' first
    | assumption | apply State.count_keeps | apply State.event_keeps | apply State.modObjRt_keeps | apply Keeps.ite | split
    | dsimp only

theorem State.pavilion_keeps {s0 s : State} (h : Keeps s0 s) : Keeps s0 (State.pavilion s) := by
  unfold State.pavilion
  try dsimp only
  with_reducible repeat' first
    | assumption | intro _ | apply State.fresh_keeps | apply State.putReg_keeps | apply State.pavOne_keeps
    | apply Keeps.foldl | apply Keeps.ite | split | dsimp only
    | (refine Keeps.mk' ?_ rfl ?_ <;> [skip; (simp only [State.lens]; done)])

theorem State.stepNow_keeps {s0 s : State} (h : Keeps s0 s) : Keeps s0 (State.stepNow s) := by
  unfold State.stepNow
  try dsimp only
  with_reducible repeat' first
    | assumption | apply State.stepL_keeps | apply State.realign_keeps | apply Keeps.ite | split | dsimp only
    | (refine Keeps.mk' ?_ rfl ?_ <;> [skip; (simp only [State.lens]; done)])

theorem State.imageSend_keeps {s0 s : State} (h : Keeps s0 s) : Keeps s0 (State.imageSend s) := by
  unfold State.imageSend
  try dsimp only
  with_reducible repeat' first
    | assumption | apply State.bezel_keeps | apply Keeps.ite | split | dsimp only
    | (refine Keeps.mk' ?_ rfl ?_ <;> [skip; (simp only [State.lens]; done)])

theorem State.reqBoundary_keeps {s0 s : State} (h : Keeps s0 s)  : Keeps s0 (State.reqBoundary s) := by
  unfold State.reqBoundary
  try dsimp only
  with_reducible repeat' first
    | assumption | intro _ | apply State.syncReset_keeps | apply Keeps.foldl | apply Keeps.ite | split | dsimp only
    | (refine Keeps.mk' ?_ rfl ?_ <;> [skip; (simp only [State.lens]; done)])
    | (refine Keeps.mk' ?_ rfl ?_ <;> [skip; (simp [State.lens]; done)])

theorem State.ganenBoundary_keeps {s0 s : State} (h : Keeps s0 s) (shed : Nat) : Keeps s0 (State.ganenBoundary s shed) := by
  unfold State.ganenBoundary
  try dsimp only
  with_reducible repeat' first
    | assumption | intro _ | apply State.solveAsked_keeps | apply State.facetBoundary_keeps
    | apply State.loupeBoundary_keeps | apply State.loupeTakenOver_keeps | apply State.handoverBoundary_keeps
    | apply State.applyDelta_keeps | apply State.waiters_keeps | apply State.directBoundary_keeps
    | apply State.shedLoad_keeps | apply State.stepNow_keeps | apply State.reqBoundary_keeps | apply Keeps.foldl
    | apply Keeps.ite | split | dsimp only | (refine Keeps.mk' ?_ rfl ?_ <;> [skip; (simp only [State.lens]; done)])
    | (refine Keeps.mk' ?_ rfl ?_ <;> [skip; (simp [State.lens]; done)])

theorem State.boundary_keeps {s0 s : State} (h : Keeps s0 s) (x : BoundaryFacts) : Keeps s0 (State.boundary s x) := by
  unfold State.boundary
  try dsimp only
  with_reducible repeat' first
    | assumption | intro _ | apply State.netClose_keeps | apply State.reconSend_keeps | apply State.carrySend_keeps
    | apply State.pmuBoundary_keeps | apply State.deadline_keeps | apply State.watchdog_keeps
    | apply State.exits_keeps | apply State.addInputs_keeps | apply State.closeWindows_keeps
    | apply State.feedChange_keeps | apply State.pavilion_keeps | apply State.imageSend_keeps
    | apply State.ganenBoundary_keeps | apply Keeps.foldl | apply Keeps.ite | split | dsimp only
    | (refine Keeps.mk' ?_ rfl ?_ <;> [skip; (simp only [State.lens]; done)])
    | (refine Keeps.mk' ?_ rfl ?_ <;> [skip; (simp [State.lens]; done)])

theorem execRenderBoundary_keeps_eq {s0 s t₀ : State} {x : BoundaryFacts} (e₀ : execRenderBoundary x s = .next t₀) (h₀ : Keeps s0 s) : Keeps s0 t₀ := by
  unfold execRenderBoundary at e₀
  try dsimp only at e₀
  repeat' split at e₀
  all_goals first
    | (obtain rfl := Host.Outcome.next.inj e₀
       with_reducible repeat' first | assumption | apply State.boundary_keeps)
    | (cases e₀; done)

/-! ### Machine/KcpExec.lean -/

theorem State.takeRx_keeps {s0 s : State} (h : Keeps s0 s) (e : Endpoint) : Keeps s0 (State.takeRx s e) := by
  unfold State.takeRx
  try dsimp only
  with_reducible repeat' first
    | assumption | apply Keeps.ite | split | dsimp only
    | (refine Keeps.mk' ?_ rfl ?_ <;> [skip; (simp only [State.lens]; done)])

theorem State.runNow_keeps {s0 s : State} (h : Keeps s0 s) (sp : OpSpec) (c : Cmd) (hs : sp.Ok) : Keeps s0 (State.runNow s sp c) := by
  unfold State.runNow
  try dsimp only
  with_reducible repeat' first
    | assumption | apply hs.run | apply hs.after | apply State.replyTo_keeps | apply Keeps.ite | split | dsimp only

theorem State.internal_keeps {s0 s : State} (h : Keeps s0 s) (c : Cmd) : Keeps s0 (State.internal s c) := by
  unfold State.internal
  try dsimp only
  with_reducible repeat' first | assumption | apply State.report_keeps | apply State.replyTo_keeps

theorem State.stageCmd_keeps {s0 s : State} (h : Keeps s0 s) (sp : OpSpec) (c : Cmd) (hs : sp.Ok) : Keeps s0 (State.stageCmd s sp c) := by
  unfold State.stageCmd
  exact State.stage_keeps (hs.accept c (Keeps.ite (State.bezel_keeps (State.setSess_keeps h _ _) _) h)) _ _

theorem State.withStaged_keeps {s0 t : State} (h : Keeps s0 t) (c : Cmd) : Keeps s0 (State.withStaged t c) := by
  unfold State.withStaged
  try dsimp only
  with_reducible repeat' first
    | assumption | intro _ | apply State.applyCmd_keeps | apply Keeps.foldl | apply Keeps.ite | split | dsimp only
    | (refine Keeps.mk' ?_ rfl ?_ <;> [skip; (simp only [State.lens]; done)])
    | (refine Keeps.mk' ?_ rfl ?_ <;> [skip; (simp [State.lens]; done)])

theorem State.checked_keeps {s0 s : State} (h : Keeps s0 s) (sp : OpSpec) (c : Cmd) (hs : sp.Ok) : Keeps s0 (State.checked s sp c) := by
  unfold State.checked
  try dsimp only
  with_reducible repeat' first
    | assumption | apply State.replyTo_keeps | apply State.stageCmd_keeps | apply State.acceptCmd_keeps
    | apply State.runNow_keeps | apply hs.spoil | apply Keeps.ite | split | dsimp only

theorem State.staleOrDup_keeps {s0 s : State} (h : Keeps s0 s) (c : Cmd) (dup : Bool) : Keeps s0 (State.staleOrDup s c dup) := by
  unfold State.staleOrDup
  try dsimp only
  with_reducible repeat' first
    | assumption | apply State.count_keeps | apply State.deliver_keeps | apply State.replyTo_keeps | apply Keeps.ite | split
    | dsimp only

theorem seqIs_cases (r : SeqIs) : r = .stale ∨ r = .dup ∨ r = .new := by cases r <;> simp
theorem State.turnAway_keeps {s0 s : State} (h : Keeps s0 s) (c : Cmd) (status : Nat) : Keeps s0 (State.turnAway s c status) := by
  unfold State.turnAway
  try dsimp only
  with_reducible repeat' first
    | assumption | intro _ | apply State.sendReply_keeps | apply Keeps.foldl | apply Keeps.ite | split | dsimp only
    | (refine Keeps.mk' ?_ rfl ?_ <;> [skip; (simp only [State.lens]; done)])
    | (refine Keeps.mk' ?_ rfl ?_ <;> [skip; (simp [State.lens]; done)])

theorem State.inSession_keeps {s0 s : State} (h : Keeps s0 s) (c : Cmd) (k : State → State) (hk : ∀ t, Keeps s0 t → Keeps s0 (k t)) :
    Keeps s0 (State.inSession s c k) := by
  unfold State.inSession
  refine Keeps.ite (State.turnAway_keeps h _ _) (Keeps.ite (State.sendReply_keeps h _ _ _ _ _ _ _ _) (Keeps.ite (hk _ h) ?_))
  obtain hr | hr | hr := seqIs_cases (seqTest (s.sess c.sess).h (s.sess c.sess).seen c.seq).1
  · simp only [hr]; exact State.staleOrDup_keeps h _ _
  · simp only [hr]; exact State.staleOrDup_keeps h _ _
  · simp only [hr]; exact hk _ (Keeps.ite (State.setSess_keeps (State.takeSeq_keeps h _ _) _ _) (State.takeSeq_keeps h _ _))

theorem handle_keeps {s0 s : State} (h : Keeps s0 s) (op : Nat) (p : Packet) (k : Cmd → State → State) (hk : ∀ c t, Keeps s0 t → Keeps s0 (k c t)) : Keeps s0 (handle op p k s) := by
  have h1 : Keeps s0 { s.takeRx p.ep with kcp := { (s.takeRx p.ep).kcp with lastServed := p.session.toNat } } :=
    (State.takeRx_keeps h _).upd rfl rfl rfl
  unfold handle
  dsimp only
  split
  · exact State.count_keeps h1 _ _
  · split
    · exact State.turnAway_keeps h1 _ _
    · exact State.inSession_keeps h1 _ _ fun t ht => Keeps.ite (State.internal_keeps ht _) (hk _ _ ht)

theorem State.serveStray_keeps {s0 s : State} (h : Keeps s0 s) (x : Endpoint × List Byte) : Keeps s0 (State.serveStray s x) := by
  unfold State.serveStray
  try dsimp only
  with_reducible repeat' first
    | assumption | intro _ | apply State.count_keeps | apply State.replyTo_keeps | apply State.takeRx_keeps
    | apply handle_keeps | apply Keeps.foldl | apply Keeps.ite | split | dsimp only
    | (refine Keeps.mk' ?_ rfl ?_ <;> [skip; (simp only [State.lens]; done)])
    | (refine Keeps.mk' ?_ rfl ?_ <;> [skip; (simp [State.lens]; done)])

theorem State.waits_keeps {s0 s : State} (h : Keeps s0 s) (op : Nat) (p : Packet) : Keeps s0 (State.waits s op p) := by
  unfold State.waits
  try dsimp only
  with_reducible repeat' first
    | assumption | intro _ | apply Keeps.foldl | apply Keeps.ite | split | dsimp only
    | (refine Keeps.mk' ?_ rfl ?_ <;> [skip; (simp only [State.lens]; done)])
    | (refine Keeps.mk' ?_ rfl ?_ <;> [skip; (simp [State.lens]; done)])

theorem State.serveStrays_keeps {s0 : State} (n : Nat) : ∀ s : State, Keeps s0 s → Keeps s0 (State.serveStrays n s) := by
  induction n with
  | zero => intro _ h; exact h
  | succ n ih =>
    intro s h; unfold State.serveStrays; split
    · exact ih _ (State.serveStray_keeps h _)
    · exact h

theorem served_keeps {s0 s : State} (h : Keeps s0 s) (op : Nat) (p : Packet) (k : Cmd → State → State)
    (hk : ∀ c t, Keeps s0 t → Keeps s0 (k c t)) : Keeps s0 (served op p k s) := by
  have h1 := State.serveStrays_keeps s.kcp.rx.length s h
  unfold served
  dsimp only
  exact Keeps.ite (Keeps.ite (State.waits_keeps h _ _) h) (Keeps.ite h (Keeps.ite (handle_keeps h1 _ _ _ hk) (State.waits_keeps h1 _ _)))

theorem kcpOp_keeps {s0 s : State} (h : Keeps s0 s) (op : Nat) (sp : OpSpec) (p : Packet) (hs : sp.Ok) : Keeps s0 (kcpOp op sp p s) :=
  served_keeps h _ _ _ fun c _ k => State.checked_keeps k sp c hs

theorem bootOp_keeps {s0 s : State} (h : Keeps s0 s) (op : Nat) (sp : OpSpec) (p : Packet) (hs : sp.Ok) : Keeps s0 (bootOp op sp p s) := by
  unfold bootOp
  try dsimp only
  with_reducible repeat' first
    | assumption | apply State.replyTo_keeps | apply State.takeRx_keeps | apply State.runNow_keeps | apply Keeps.ite | split
    | dsimp only

theorem romOp_keeps {s0 s : State} (h : Keeps s0 s) (op : Nat) (sp : OpSpec) (p : Packet) (hs : sp.Ok) : Keeps s0 (romOp op sp p s) := by
  unfold romOp
  exact Keeps.ite (bootOp_keeps h _ _ _ hs) (served_keeps h _ _ _ fun _ _ k => State.replyTo_keeps k _ _ _)

theorem execSysInfo_keeps_eq {s0 s t₀ : State} {p : Packet} (e₀ : execSysInfo p s = .next t₀) (h₀ : Keeps s0 s) : Keeps s0 t₀ := by
  unfold execSysInfo at e₀
  try dsimp only at e₀
  repeat' split at e₀
  all_goals first
    | (obtain rfl := Host.Outcome.next.inj e₀
       with_reducible repeat' first | assumption | apply specSysInfo_ok | apply kcpOp_keeps | apply bootOp_keeps)
    | (cases e₀; done)

theorem execBootStatus_keeps_eq {s0 s t₀ : State} {p : Packet} (e₀ : execBootStatus p s = .next t₀) (h₀ : Keeps s0 s) : Keeps s0 t₀ := by
  unfold execBootStatus at e₀
  try dsimp only at e₀
  repeat' split at e₀
  all_goals first
    | (obtain rfl := Host.Outcome.next.inj e₀
       with_reducible repeat' first | assumption | apply specBootStatus_ok | apply romOp_keeps)
    | (cases e₀; done)

theorem execBootWrite_keeps_eq {s0 s t₀ : State} {p : Packet} (e₀ : execBootWrite p s = .next t₀) (h₀ : Keeps s0 s) : Keeps s0 t₀ := by
  unfold execBootWrite at e₀
  try dsimp only at e₀
  repeat' split at e₀
  all_goals first
    | (obtain rfl := Host.Outcome.next.inj e₀
       with_reducible repeat' first | assumption | apply specBootWrite_ok | apply romOp_keeps)
    | (cases e₀; done)

theorem execBootStart_keeps_eq {s0 s t₀ : State} {p : Packet} (e₀ : execBootStart p s = .next t₀) (h₀ : Keeps s0 s) : Keeps s0 t₀ := by
  unfold execBootStart at e₀
  try dsimp only at e₀
  repeat' split at e₀
  all_goals first
    | (obtain rfl := Host.Outcome.next.inj e₀
       with_reducible repeat' first | assumption | apply specBootStart_ok | apply romOp_keeps)
    | (cases e₀; done)

theorem execTxnCommit_keeps_eq {s0 s t₀ : State} {p : Packet} (e₀ : execTxnCommit p s = .next t₀) (h₀ : Keeps s0 s) : Keeps s0 t₀ := by
  obtain rfl := Host.Outcome.next.inj e₀
  refine served_keeps h₀ _ _ _ fun c t ht => ?_
  exact Keeps.ite (State.replyTo_keeps ht _ _ _) (Keeps.ite (State.replyTo_keeps ht _ _ _)
    (Keeps.ite (State.replyTo_keeps ht _ _ _) (State.txnCommit_keeps ht _)))

theorem execDiagRegWrite_keeps_eq {s0 s t₀ : State} {p : Packet} (e₀ : execDiagRegWrite p s = .next t₀) (h₀ : Keeps s0 s) : Keeps s0 t₀ := by
  unfold execDiagRegWrite at e₀
  try dsimp only at e₀
  repeat' split at e₀
  all_goals first
    | (obtain rfl := Host.Outcome.next.inj e₀
       with_reducible repeat' first | assumption | apply specRegWrite_ok | apply kcpOp_keeps)
    | (cases e₀; done)

theorem execSysSessionOpen_keeps_eq {s0 s t₀ : State} {p : Packet} (e₀ : execSysSessionOpen p s = .next t₀) (h₀ : Keeps s0 s) : Keeps s0 t₀ := by
  unfold execSysSessionOpen at e₀
  try dsimp only at e₀
  repeat' split at e₀
  all_goals first
    | (obtain rfl := Host.Outcome.next.inj e₀
       with_reducible repeat' first | assumption | apply specSessionOpen_ok | apply kcpOp_keeps)
    | (cases e₀; done)

theorem execSysSessionClose_keeps_eq {s0 s t₀ : State} {p : Packet} (e₀ : execSysSessionClose p s = .next t₀) (h₀ : Keeps s0 s) : Keeps s0 t₀ := by
  unfold execSysSessionClose at e₀
  try dsimp only at e₀
  repeat' split at e₀
  all_goals first
    | (obtain rfl := Host.Outcome.next.inj e₀
       with_reducible repeat' first | assumption | apply specSessionClose_ok | apply kcpOp_keeps)
    | (cases e₀; done)

theorem execSysSeqQuery_keeps_eq {s0 s t₀ : State} {p : Packet} (e₀ : execSysSeqQuery p s = .next t₀) (h₀ : Keeps s0 s) : Keeps s0 t₀ := by
  unfold execSysSeqQuery at e₀
  try dsimp only at e₀
  repeat' split at e₀
  all_goals first
    | (obtain rfl := Host.Outcome.next.inj e₀
       with_reducible repeat' first | assumption | apply specSeqQuery_ok | apply kcpOp_keeps)
    | (cases e₀; done)

theorem execSysEventMask_keeps_eq {s0 s t₀ : State} {p : Packet} (e₀ : execSysEventMask p s = .next t₀) (h₀ : Keeps s0 s) : Keeps s0 t₀ := by
  unfold execSysEventMask at e₀
  try dsimp only at e₀
  repeat' split at e₀
  all_goals first
    | (obtain rfl := Host.Outcome.next.inj e₀
       with_reducible repeat' first | assumption | apply specEventMask_ok | apply kcpOp_keeps)
    | (cases e₀; done)

theorem execSysKeySet_keeps_eq {s0 s t₀ : State} {p : Packet} (e₀ : execSysKeySet p s = .next t₀) (h₀ : Keeps s0 s) : Keeps s0 t₀ := by
  unfold execSysKeySet at e₀
  try dsimp only at e₀
  repeat' split at e₀
  all_goals first
    | (obtain rfl := Host.Outcome.next.inj e₀
       with_reducible repeat' first | assumption | apply specKeySet_ok | apply kcpOp_keeps)
    | (cases e₀; done)

theorem execSysRenderRate_keeps_eq {s0 s t₀ : State} {p : Packet} (e₀ : execSysRenderRate p s = .next t₀) (h₀ : Keeps s0 s) : Keeps s0 t₀ := by
  unfold execSysRenderRate at e₀
  try dsimp only at e₀
  repeat' split at e₀
  all_goals first
    | (obtain rfl := Host.Outcome.next.inj e₀
       with_reducible repeat' first | assumption | apply specRenderRate_ok | apply kcpOp_keeps)
    | (cases e₀; done)

theorem execSysStatus_keeps_eq {s0 s t₀ : State} {p : Packet} (e₀ : execSysStatus p s = .next t₀) (h₀ : Keeps s0 s) : Keeps s0 t₀ := by
  unfold execSysStatus at e₀
  try dsimp only at e₀
  repeat' split at e₀
  all_goals first
    | (obtain rfl := Host.Outcome.next.inj e₀
       with_reducible repeat' first | assumption | apply specSysStatus_ok | apply kcpOp_keeps)
    | (cases e₀; done)

theorem execSysKernelLoad_keeps_eq {s0 s t₀ : State} {p : Packet} (e₀ : execSysKernelLoad p s = .next t₀) (h₀ : Keeps s0 s) : Keeps s0 t₀ := by
  unfold execSysKernelLoad at e₀
  try dsimp only at e₀
  repeat' split at e₀
  all_goals first
    | (obtain rfl := Host.Outcome.next.inj e₀
       with_reducible repeat' first | assumption | apply specSysKernelLoad_ok | apply kcpOp_keeps)
    | (cases e₀; done)

theorem execSysKernelRun_keeps_eq {s0 s t₀ : State} {p : Packet} (e₀ : execSysKernelRun p s = .next t₀) (h₀ : Keeps s0 s) : Keeps s0 t₀ := by
  unfold execSysKernelRun at e₀
  try dsimp only at e₀
  repeat' split at e₀
  all_goals first
    | (obtain rfl := Host.Outcome.next.inj e₀
       with_reducible repeat' first | assumption | apply specSysKernelRun_ok | apply kcpOp_keeps)
    | (cases e₀; done)

theorem execSysKernelUnload_keeps_eq {s0 s t₀ : State} {p : Packet} (e₀ : execSysKernelUnload p s = .next t₀) (h₀ : Keeps s0 s) : Keeps s0 t₀ := by
  unfold execSysKernelUnload at e₀
  try dsimp only at e₀
  repeat' split at e₀
  all_goals first
    | (obtain rfl := Host.Outcome.next.inj e₀
       with_reducible repeat' first | assumption | apply specSysKernelUnload_ok | apply kcpOp_keeps)
    | (cases e₀; done)

theorem execSysKernelRead_keeps_eq {s0 s t₀ : State} {p : Packet} (e₀ : execSysKernelRead p s = .next t₀) (h₀ : Keeps s0 s) : Keeps s0 t₀ := by
  unfold execSysKernelRead at e₀
  try dsimp only at e₀
  repeat' split at e₀
  all_goals first
    | (obtain rfl := Host.Outcome.next.inj e₀
       with_reducible repeat' first | assumption | apply specSysKernelRead_ok | apply kcpOp_keeps)
    | (cases e₀; done)

theorem execZoneSet_keeps_eq {s0 s t₀ : State} {p : Packet} (e₀ : execZoneSet p s = .next t₀) (h₀ : Keeps s0 s) : Keeps s0 t₀ := by
  unfold execZoneSet at e₀
  try dsimp only at e₀
  repeat' split at e₀
  all_goals first
    | (obtain rfl := Host.Outcome.next.inj e₀
       with_reducible repeat' first | assumption | apply specZoneSet_ok | apply kcpOp_keeps)
    | (cases e₀; done)

theorem execZoneExclSet_keeps_eq {s0 s t₀ : State} {p : Packet} (e₀ : execZoneExclSet p s = .next t₀) (h₀ : Keeps s0 s) : Keeps s0 t₀ := by
  unfold execZoneExclSet at e₀
  try dsimp only at e₀
  repeat' split at e₀
  all_goals first
    | (obtain rfl := Host.Outcome.next.inj e₀
       with_reducible repeat' first | assumption | apply specZoneExclSet_ok | apply kcpOp_keeps)
    | (cases e₀; done)

theorem execZoneRead_keeps_eq {s0 s t₀ : State} {p : Packet} (e₀ : execZoneRead p s = .next t₀) (h₀ : Keeps s0 s) : Keeps s0 t₀ := by
  unfold execZoneRead at e₀
  try dsimp only at e₀
  repeat' split at e₀
  all_goals first
    | (obtain rfl := Host.Outcome.next.inj e₀
       with_reducible repeat' first | assumption | apply specZoneRead_ok | apply kcpOp_keeps)
    | (cases e₀; done)

theorem execFeedSet_keeps_eq {s0 s t₀ : State} {p : Packet} (e₀ : execFeedSet p s = .next t₀) (h₀ : Keeps s0 s) : Keeps s0 t₀ := by
  unfold execFeedSet at e₀
  try dsimp only at e₀
  repeat' split at e₀
  all_goals first
    | (obtain rfl := Host.Outcome.next.inj e₀
       with_reducible repeat' first | assumption | apply specFeedSet_ok | apply kcpOp_keeps)
    | (cases e₀; done)

theorem execFeedRead_keeps_eq {s0 s t₀ : State} {p : Packet} (e₀ : execFeedRead p s = .next t₀) (h₀ : Keeps s0 s) : Keeps s0 t₀ := by
  unfold execFeedRead at e₀
  try dsimp only at e₀
  repeat' split at e₀
  all_goals first
    | (obtain rfl := Host.Outcome.next.inj e₀
       with_reducible repeat' first | assumption | apply specFeedRead_ok | apply kcpOp_keeps)
    | (cases e₀; done)

theorem execFeedWithdraw_keeps_eq {s0 s t₀ : State} {p : Packet} (e₀ : execFeedWithdraw p s = .next t₀) (h₀ : Keeps s0 s) : Keeps s0 t₀ := by
  unfold execFeedWithdraw at e₀
  try dsimp only at e₀
  repeat' split at e₀
  all_goals first
    | (obtain rfl := Host.Outcome.next.inj e₀
       with_reducible repeat' first | assumption | apply specFeedWithdraw_ok | apply kcpOp_keeps)
    | (cases e₀; done)

theorem execFeedRestore_keeps_eq {s0 s t₀ : State} {p : Packet} (e₀ : execFeedRestore p s = .next t₀) (h₀ : Keeps s0 s) : Keeps s0 t₀ := by
  unfold execFeedRestore at e₀
  try dsimp only at e₀
  repeat' split at e₀
  all_goals first
    | (obtain rfl := Host.Outcome.next.inj e₀
       with_reducible repeat' first | assumption | apply specFeedRestore_ok | apply kcpOp_keeps)
    | (cases e₀; done)

theorem execLayoutStatus_keeps_eq {s0 s t₀ : State} {p : Packet} (e₀ : execLayoutStatus p s = .next t₀) (h₀ : Keeps s0 s) : Keeps s0 t₀ := by
  unfold execLayoutStatus at e₀
  try dsimp only at e₀
  repeat' split at e₀
  all_goals first
    | (obtain rfl := Host.Outcome.next.inj e₀
       with_reducible repeat' first | assumption | apply specLayoutStatus_ok | apply kcpOp_keeps)
    | (cases e₀; done)

theorem execLayoutResolve_keeps_eq {s0 s t₀ : State} {p : Packet} (e₀ : execLayoutResolve p s = .next t₀) (h₀ : Keeps s0 s) : Keeps s0 t₀ := by
  unfold execLayoutResolve at e₀
  try dsimp only at e₀
  repeat' split at e₀
  all_goals first
    | (obtain rfl := Host.Outcome.next.inj e₀
       with_reducible repeat' first | assumption | apply specLayoutResolve_ok | apply kcpOp_keeps)
    | (cases e₀; done)

theorem execObjectSet_keeps_eq {s0 s t₀ : State} {p : Packet} (e₀ : execObjectSet p s = .next t₀) (h₀ : Keeps s0 s) : Keeps s0 t₀ := by
  unfold execObjectSet at e₀
  try dsimp only at e₀
  repeat' split at e₀
  all_goals first
    | (obtain rfl := Host.Outcome.next.inj e₀
       with_reducible repeat' first | assumption | apply specObjectSet_ok | apply kcpOp_keeps)
    | (cases e₀; done)

theorem execObjectPosBulk_keeps_eq {s0 s t₀ : State} {p : Packet} (e₀ : execObjectPosBulk p s = .next t₀) (h₀ : Keeps s0 s) : Keeps s0 t₀ := by
  unfold execObjectPosBulk at e₀
  try dsimp only at e₀
  repeat' split at e₀
  all_goals first
    | (obtain rfl := Host.Outcome.next.inj e₀
       with_reducible repeat' first | assumption | apply specObjectPosBulk_ok | apply kcpOp_keeps)
    | (cases e₀; done)

theorem execObjectRead_keeps_eq {s0 s t₀ : State} {p : Packet} (e₀ : execObjectRead p s = .next t₀) (h₀ : Keeps s0 s) : Keeps s0 t₀ := by
  unfold execObjectRead at e₀
  try dsimp only at e₀
  repeat' split at e₀
  all_goals first
    | (obtain rfl := Host.Outcome.next.inj e₀
       with_reducible repeat' first | assumption | apply specObjectRead_ok | apply kcpOp_keeps)
    | (cases e₀; done)

theorem execObjectRestore_keeps_eq {s0 s t₀ : State} {p : Packet} (e₀ : execObjectRestore p s = .next t₀) (h₀ : Keeps s0 s) : Keeps s0 t₀ := by
  unfold execObjectRestore at e₀
  try dsimp only at e₀
  repeat' split at e₀
  all_goals first
    | (obtain rfl := Host.Outcome.next.inj e₀
       with_reducible repeat' first | assumption | apply specObjectRestore_ok | apply kcpOp_keeps)
    | (cases e₀; done)

theorem execRouteSet_keeps_eq {s0 s t₀ : State} {p : Packet} (e₀ : execRouteSet p s = .next t₀) (h₀ : Keeps s0 s) : Keeps s0 t₀ := by
  unfold execRouteSet at e₀
  try dsimp only at e₀
  repeat' split at e₀
  all_goals first
    | (obtain rfl := Host.Outcome.next.inj e₀
       with_reducible repeat' first | assumption | apply specRouteSet_ok | apply kcpOp_keeps)
    | (cases e₀; done)

theorem execRouteDelete_keeps_eq {s0 s t₀ : State} {p : Packet} (e₀ : execRouteDelete p s = .next t₀) (h₀ : Keeps s0 s) : Keeps s0 t₀ := by
  unfold execRouteDelete at e₀
  try dsimp only at e₀
  repeat' split at e₀
  all_goals first
    | (obtain rfl := Host.Outcome.next.inj e₀
       with_reducible repeat' first | assumption | apply specRouteDelete_ok | apply kcpOp_keeps)
    | (cases e₀; done)

theorem execRouteRead_keeps_eq {s0 s t₀ : State} {p : Packet} (e₀ : execRouteRead p s = .next t₀) (h₀ : Keeps s0 s) : Keeps s0 t₀ := by
  unfold execRouteRead at e₀
  try dsimp only at e₀
  repeat' split at e₀
  all_goals first
    | (obtain rfl := Host.Outcome.next.inj e₀
       with_reducible repeat' first | assumption | apply specRouteRead_ok | apply kcpOp_keeps)
    | (cases e₀; done)

theorem execMatrixStatus_keeps_eq {s0 s t₀ : State} {p : Packet} (e₀ : execMatrixStatus p s = .next t₀) (h₀ : Keeps s0 s) : Keeps s0 t₀ := by
  unfold execMatrixStatus at e₀
  try dsimp only at e₀
  repeat' split at e₀
  all_goals first
    | (obtain rfl := Host.Outcome.next.inj e₀
       with_reducible repeat' first | assumption | apply specMatrixStatus_ok | apply kcpOp_keeps)
    | (cases e₀; done)

theorem execChainSet_keeps_eq {s0 s t₀ : State} {p : Packet} (e₀ : execChainSet p s = .next t₀) (h₀ : Keeps s0 s) : Keeps s0 t₀ := by
  unfold execChainSet at e₀
  try dsimp only at e₀
  repeat' split at e₀
  all_goals first
    | (obtain rfl := Host.Outcome.next.inj e₀
       with_reducible repeat' first | assumption | apply specChainSet_ok | apply kcpOp_keeps)
    | (cases e₀; done)

theorem execBiquadSet_keeps_eq {s0 s t₀ : State} {p : Packet} (e₀ : execBiquadSet p s = .next t₀) (h₀ : Keeps s0 s) : Keeps s0 t₀ := by
  unfold execBiquadSet at e₀
  try dsimp only at e₀
  repeat' split at e₀
  all_goals first
    | (obtain rfl := Host.Outcome.next.inj e₀
       with_reducible repeat' first | assumption | apply specBiquadSet_ok | apply kcpOp_keeps)
    | (cases e₀; done)

theorem execChainRead_keeps_eq {s0 s t₀ : State} {p : Packet} (e₀ : execChainRead p s = .next t₀) (h₀ : Keeps s0 s) : Keeps s0 t₀ := by
  unfold execChainRead at e₀
  try dsimp only at e₀
  repeat' split at e₀
  all_goals first
    | (obtain rfl := Host.Outcome.next.inj e₀
       with_reducible repeat' first | assumption | apply specChainRead_ok | apply kcpOp_keeps)
    | (cases e₀; done)

theorem execFeedStatus_keeps_eq {s0 s t₀ : State} {p : Packet} (e₀ : execFeedStatus p s = .next t₀) (h₀ : Keeps s0 s) : Keeps s0 t₀ := by
  unfold execFeedStatus at e₀
  try dsimp only at e₀
  repeat' split at e₀
  all_goals first
    | (obtain rfl := Host.Outcome.next.inj e₀
       with_reducible repeat' first | assumption | apply specFeedStatus_ok | apply kcpOp_keeps)
    | (cases e₀; done)

theorem execFilterLibWrite_keeps_eq {s0 s t₀ : State} {p : Packet} (e₀ : execFilterLibWrite p s = .next t₀) (h₀ : Keeps s0 s) : Keeps s0 t₀ := by
  unfold execFilterLibWrite at e₀
  try dsimp only at e₀
  repeat' split at e₀
  all_goals first
    | (obtain rfl := Host.Outcome.next.inj e₀
       with_reducible repeat' first | assumption | apply specFilterLibWrite_ok | apply kcpOp_keeps)
    | (cases e₀; done)

theorem execFilterLibFree_keeps_eq {s0 s t₀ : State} {p : Packet} (e₀ : execFilterLibFree p s = .next t₀) (h₀ : Keeps s0 s) : Keeps s0 t₀ := by
  unfold execFilterLibFree at e₀
  try dsimp only at e₀
  repeat' split at e₀
  all_goals first
    | (obtain rfl := Host.Outcome.next.inj e₀
       with_reducible repeat' first | assumption | apply specFilterLibFree_ok | apply kcpOp_keeps)
    | (cases e₀; done)

theorem execFilterStage_keeps_eq {s0 s t₀ : State} {p : Packet} (e₀ : execFilterStage p s = .next t₀) (h₀ : Keeps s0 s) : Keeps s0 t₀ := by
  unfold execFilterStage at e₀
  try dsimp only at e₀
  repeat' split at e₀
  all_goals first
    | (obtain rfl := Host.Outcome.next.inj e₀
       with_reducible repeat' first | assumption | apply specFilterStage_ok | apply kcpOp_keeps)
    | (cases e₀; done)

theorem execFilterSwap_keeps_eq {s0 s t₀ : State} {p : Packet} (e₀ : execFilterSwap p s = .next t₀) (h₀ : Keeps s0 s) : Keeps s0 t₀ := by
  unfold execFilterSwap at e₀
  try dsimp only at e₀
  repeat' split at e₀
  all_goals first
    | (obtain rfl := Host.Outcome.next.inj e₀
       with_reducible repeat' first | assumption | apply specFilterSwap_ok | apply kcpOp_keeps)
    | (cases e₀; done)

theorem execFilterDiscard_keeps_eq {s0 s t₀ : State} {p : Packet} (e₀ : execFilterDiscard p s = .next t₀) (h₀ : Keeps s0 s) : Keeps s0 t₀ := by
  unfold execFilterDiscard at e₀
  try dsimp only at e₀
  repeat' split at e₀
  all_goals first
    | (obtain rfl := Host.Outcome.next.inj e₀
       with_reducible repeat' first | assumption | apply specFilterDiscard_ok | apply kcpOp_keeps)
    | (cases e₀; done)

theorem execFilterDirect_keeps_eq {s0 s t₀ : State} {p : Packet} (e₀ : execFilterDirect p s = .next t₀) (h₀ : Keeps s0 s) : Keeps s0 t₀ := by
  unfold execFilterDirect at e₀
  try dsimp only at e₀
  repeat' split at e₀
  all_goals first
    | (obtain rfl := Host.Outcome.next.inj e₀
       with_reducible repeat' first | assumption | apply specFilterDirect_ok | apply kcpOp_keeps)
    | (cases e₀; done)

theorem execFilterAb_keeps_eq {s0 s t₀ : State} {p : Packet} (e₀ : execFilterAb p s = .next t₀) (h₀ : Keeps s0 s) : Keeps s0 t₀ := by
  unfold execFilterAb at e₀
  try dsimp only at e₀
  repeat' split at e₀
  all_goals first
    | (obtain rfl := Host.Outcome.next.inj e₀
       with_reducible repeat' first | assumption | apply specFilterAb_ok | apply kcpOp_keeps)
    | (cases e₀; done)

theorem execFilterRead_keeps_eq {s0 s t₀ : State} {p : Packet} (e₀ : execFilterRead p s = .next t₀) (h₀ : Keeps s0 s) : Keeps s0 t₀ := by
  unfold execFilterRead at e₀
  try dsimp only at e₀
  repeat' split at e₀
  all_goals first
    | (obtain rfl := Host.Outcome.next.inj e₀
       with_reducible repeat' first | assumption | apply specFilterRead_ok | apply kcpOp_keeps)
    | (cases e₀; done)

theorem execLoupeZoneSet_keeps_eq {s0 s t₀ : State} {p : Packet} (e₀ : execLoupeZoneSet p s = .next t₀) (h₀ : Keeps s0 s) : Keeps s0 t₀ := by
  unfold execLoupeZoneSet at e₀
  try dsimp only at e₀
  repeat' split at e₀
  all_goals first
    | (obtain rfl := Host.Outcome.next.inj e₀
       with_reducible repeat' first | assumption | apply specLoupeZoneSet_ok | apply kcpOp_keeps)
    | (cases e₀; done)

theorem execLoupeInputSet_keeps_eq {s0 s t₀ : State} {p : Packet} (e₀ : execLoupeInputSet p s = .next t₀) (h₀ : Keeps s0 s) : Keeps s0 t₀ := by
  unfold execLoupeInputSet at e₀
  try dsimp only at e₀
  repeat' split at e₀
  all_goals first
    | (obtain rfl := Host.Outcome.next.inj e₀
       with_reducible repeat' first | assumption | apply specLoupeInputSet_ok | apply kcpOp_keeps)
    | (cases e₀; done)

theorem execLoupeSync_keeps_eq {s0 s t₀ : State} {p : Packet} (e₀ : execLoupeSync p s = .next t₀) (h₀ : Keeps s0 s) : Keeps s0 t₀ := by
  unfold execLoupeSync at e₀
  try dsimp only at e₀
  repeat' split at e₀
  all_goals first
    | (obtain rfl := Host.Outcome.next.inj e₀
       with_reducible repeat' first | assumption | apply specLoupeSync_ok | apply kcpOp_keeps)
    | (cases e₀; done)

theorem execLoupeJobStart_keeps_eq {s0 s t₀ : State} {p : Packet} (e₀ : execLoupeJobStart p s = .next t₀) (h₀ : Keeps s0 s) : Keeps s0 t₀ := by
  unfold execLoupeJobStart at e₀
  try dsimp only at e₀
  repeat' split at e₀
  all_goals first
    | (obtain rfl := Host.Outcome.next.inj e₀
       with_reducible repeat' first | assumption | apply specLoupeJobStart_ok | apply kcpOp_keeps)
    | (cases e₀; done)

theorem execLoupeJobAbort_keeps_eq {s0 s t₀ : State} {p : Packet} (e₀ : execLoupeJobAbort p s = .next t₀) (h₀ : Keeps s0 s) : Keeps s0 t₀ := by
  unfold execLoupeJobAbort at e₀
  try dsimp only at e₀
  repeat' split at e₀
  all_goals first
    | (obtain rfl := Host.Outcome.next.inj e₀
       with_reducible repeat' first | assumption | apply specLoupeJobAbort_ok | apply kcpOp_keeps)
    | (cases e₀; done)

theorem execLoupeLearn_keeps_eq {s0 s t₀ : State} {p : Packet} (e₀ : execLoupeLearn p s = .next t₀) (h₀ : Keeps s0 s) : Keeps s0 t₀ := by
  unfold execLoupeLearn at e₀
  try dsimp only at e₀
  repeat' split at e₀
  all_goals first
    | (obtain rfl := Host.Outcome.next.inj e₀
       with_reducible repeat' first | assumption | apply specLoupeLearn_ok | apply kcpOp_keeps)
    | (cases e₀; done)

theorem execLoupeVeto_keeps_eq {s0 s t₀ : State} {p : Packet} (e₀ : execLoupeVeto p s = .next t₀) (h₀ : Keeps s0 s) : Keeps s0 t₀ := by
  unfold execLoupeVeto at e₀
  try dsimp only at e₀
  repeat' split at e₀
  all_goals first
    | (obtain rfl := Host.Outcome.next.inj e₀
       with_reducible repeat' first | assumption | apply specLoupeVeto_ok | apply kcpOp_keeps)
    | (cases e₀; done)

theorem execLoupeCompClear_keeps_eq {s0 s t₀ : State} {p : Packet} (e₀ : execLoupeCompClear p s = .next t₀) (h₀ : Keeps s0 s) : Keeps s0 t₀ := by
  unfold execLoupeCompClear at e₀
  try dsimp only at e₀
  repeat' split at e₀
  all_goals first
    | (obtain rfl := Host.Outcome.next.inj e₀
       with_reducible repeat' first | assumption | apply specLoupeCompClear_ok | apply kcpOp_keeps)
    | (cases e₀; done)

theorem execLoupeAuditRead_keeps_eq {s0 s t₀ : State} {p : Packet} (e₀ : execLoupeAuditRead p s = .next t₀) (h₀ : Keeps s0 s) : Keeps s0 t₀ := by
  unfold execLoupeAuditRead at e₀
  try dsimp only at e₀
  repeat' split at e₀
  all_goals first
    | (obtain rfl := Host.Outcome.next.inj e₀
       with_reducible repeat' first | assumption | apply specLoupeAuditRead_ok | apply kcpOp_keeps)
    | (cases e₀; done)

theorem execLoupeJobRead_keeps_eq {s0 s t₀ : State} {p : Packet} (e₀ : execLoupeJobRead p s = .next t₀) (h₀ : Keeps s0 s) : Keeps s0 t₀ := by
  unfold execLoupeJobRead at e₀
  try dsimp only at e₀
  repeat' split at e₀
  all_goals first
    | (obtain rfl := Host.Outcome.next.inj e₀
       with_reducible repeat' first | assumption | apply specLoupeJobRead_ok | apply kcpOp_keeps)
    | (cases e₀; done)

theorem execLoupeDerive_keeps_eq {s0 s t₀ : State} {p : Packet} (e₀ : execLoupeDerive p s = .next t₀) (h₀ : Keeps s0 s) : Keeps s0 t₀ := by
  unfold execLoupeDerive at e₀
  try dsimp only at e₀
  repeat' split at e₀
  all_goals first
    | (obtain rfl := Host.Outcome.next.inj e₀
       with_reducible repeat' first | assumption | apply specLoupeDerive_ok | apply kcpOp_keeps)
    | (cases e₀; done)

theorem execNetportSet_keeps_eq {s0 s t₀ : State} {p : Packet} (e₀ : execNetportSet p s = .next t₀) (h₀ : Keeps s0 s) : Keeps s0 t₀ := by
  unfold execNetportSet at e₀
  try dsimp only at e₀
  repeat' split at e₀
  all_goals first
    | (obtain rfl := Host.Outcome.next.inj e₀
       with_reducible repeat' first | assumption | apply specNetportSet_ok | apply kcpOp_keeps)
    | (cases e₀; done)

theorem execFlowSet_keeps_eq {s0 s t₀ : State} {p : Packet} (e₀ : execFlowSet p s = .next t₀) (h₀ : Keeps s0 s) : Keeps s0 t₀ := by
  unfold execFlowSet at e₀
  try dsimp only at e₀
  repeat' split at e₀
  all_goals first
    | (obtain rfl := Host.Outcome.next.inj e₀
       with_reducible repeat' first | assumption | apply specFlowSet_ok | apply kcpOp_keeps)
    | (cases e₀; done)

theorem execFlowDelete_keeps_eq {s0 s t₀ : State} {p : Packet} (e₀ : execFlowDelete p s = .next t₀) (h₀ : Keeps s0 s) : Keeps s0 t₀ := by
  unfold execFlowDelete at e₀
  try dsimp only at e₀
  repeat' split at e₀
  all_goals first
    | (obtain rfl := Host.Outcome.next.inj e₀
       with_reducible repeat' first | assumption | apply specFlowDelete_ok | apply kcpOp_keeps)
    | (cases e₀; done)

theorem execFlowRead_keeps_eq {s0 s t₀ : State} {p : Packet} (e₀ : execFlowRead p s = .next t₀) (h₀ : Keeps s0 s) : Keeps s0 t₀ := by
  unfold execFlowRead at e₀
  try dsimp only at e₀
  repeat' split at e₀
  all_goals first
    | (obtain rfl := Host.Outcome.next.inj e₀
       with_reducible repeat' first | assumption | apply specFlowRead_ok | apply kcpOp_keeps)
    | (cases e₀; done)

theorem execNetportRead_keeps_eq {s0 s t₀ : State} {p : Packet} (e₀ : execNetportRead p s = .next t₀) (h₀ : Keeps s0 s) : Keeps s0 t₀ := by
  unfold execNetportRead at e₀
  try dsimp only at e₀
  repeat' split at e₀
  all_goals first
    | (obtain rfl := Host.Outcome.next.inj e₀
       with_reducible repeat' first | assumption | apply specNetportRead_ok | apply kcpOp_keeps)
    | (cases e₀; done)

theorem execNetKcpSet_keeps_eq {s0 s t₀ : State} {p : Packet} (e₀ : execNetKcpSet p s = .next t₀) (h₀ : Keeps s0 s) : Keeps s0 t₀ := by
  unfold execNetKcpSet at e₀
  try dsimp only at e₀
  repeat' split at e₀
  all_goals first
    | (obtain rfl := Host.Outcome.next.inj e₀
       with_reducible repeat' first | assumption | apply specNetKcpSet_ok | apply kcpOp_keeps)
    | (cases e₀; done)

theorem execPtpSet_keeps_eq {s0 s t₀ : State} {p : Packet} (e₀ : execPtpSet p s = .next t₀) (h₀ : Keeps s0 s) : Keeps s0 t₀ := by
  unfold execPtpSet at e₀
  try dsimp only at e₀
  repeat' split at e₀
  all_goals first
    | (obtain rfl := Host.Outcome.next.inj e₀
       with_reducible repeat' first | assumption | apply specPtpSet_ok | apply kcpOp_keeps)
    | (cases e₀; done)

theorem execRefInputSet_keeps_eq {s0 s t₀ : State} {p : Packet} (e₀ : execRefInputSet p s = .next t₀) (h₀ : Keeps s0 s) : Keeps s0 t₀ := by
  unfold execRefInputSet at e₀
  try dsimp only at e₀
  repeat' split at e₀
  all_goals first
    | (obtain rfl := Host.Outcome.next.inj e₀
       with_reducible repeat' first | assumption | apply specRefInputSet_ok | apply kcpOp_keeps)
    | (cases e₀; done)

theorem execRefPrioritySet_keeps_eq {s0 s t₀ : State} {p : Packet} (e₀ : execRefPrioritySet p s = .next t₀) (h₀ : Keeps s0 s) : Keeps s0 t₀ := by
  unfold execRefPrioritySet at e₀
  try dsimp only at e₀
  repeat' split at e₀
  all_goals first
    | (obtain rfl := Host.Outcome.next.inj e₀
       with_reducible repeat' first | assumption | apply specRefPrioritySet_ok | apply kcpOp_keeps)
    | (cases e₀; done)

theorem execRefForce_keeps_eq {s0 s t₀ : State} {p : Packet} (e₀ : execRefForce p s = .next t₀) (h₀ : Keeps s0 s) : Keeps s0 t₀ := by
  unfold execRefForce at e₀
  try dsimp only at e₀
  repeat' split at e₀
  all_goals first
    | (obtain rfl := Host.Outcome.next.inj e₀
       with_reducible repeat' first | assumption | apply specRefForce_ok | apply kcpOp_keeps)
    | (cases e₀; done)

theorem execTriggerSet_keeps_eq {s0 s t₀ : State} {p : Packet} (e₀ : execTriggerSet p s = .next t₀) (h₀ : Keeps s0 s) : Keeps s0 t₀ := by
  unfold execTriggerSet at e₀
  try dsimp only at e₀
  repeat' split at e₀
  all_goals first
    | (obtain rfl := Host.Outcome.next.inj e₀
       with_reducible repeat' first | assumption | apply specTriggerSet_ok | apply kcpOp_keeps)
    | (cases e₀; done)

theorem execCaptureRead_keeps_eq {s0 s t₀ : State} {p : Packet} (e₀ : execCaptureRead p s = .next t₀) (h₀ : Keeps s0 s) : Keeps s0 t₀ := by
  unfold execCaptureRead at e₀
  try dsimp only at e₀
  repeat' split at e₀
  all_goals first
    | (obtain rfl := Host.Outcome.next.inj e₀
       with_reducible repeat' first | assumption | apply specCaptureRead_ok | apply kcpOp_keeps)
    | (cases e₀; done)

theorem execTimeRead_keeps_eq {s0 s t₀ : State} {p : Packet} (e₀ : execTimeRead p s = .next t₀) (h₀ : Keeps s0 s) : Keeps s0 t₀ := by
  unfold execTimeRead at e₀
  try dsimp only at e₀
  repeat' split at e₀
  all_goals first
    | (obtain rfl := Host.Outcome.next.inj e₀
       with_reducible repeat' first | assumption | apply specTimeRead_ok | apply kcpOp_keeps)
    | (cases e₀; done)

theorem execRefStatus_keeps_eq {s0 s t₀ : State} {p : Packet} (e₀ : execRefStatus p s = .next t₀) (h₀ : Keeps s0 s) : Keeps s0 t₀ := by
  unfold execRefStatus at e₀
  try dsimp only at e₀
  repeat' split at e₀
  all_goals first
    | (obtain rfl := Host.Outcome.next.inj e₀
       with_reducible repeat' first | assumption | apply specRefStatus_ok | apply kcpOp_keeps)
    | (cases e₀; done)

theorem execPortSet_keeps_eq {s0 s t₀ : State} {p : Packet} (e₀ : execPortSet p s = .next t₀) (h₀ : Keeps s0 s) : Keeps s0 t₀ := by
  unfold execPortSet at e₀
  try dsimp only at e₀
  repeat' split at e₀
  all_goals first
    | (obtain rfl := Host.Outcome.next.inj e₀
       with_reducible repeat' first | assumption | apply specPortSet_ok | apply kcpOp_keeps)
    | (cases e₀; done)

theorem execPortMask_keeps_eq {s0 s t₀ : State} {p : Packet} (e₀ : execPortMask p s = .next t₀) (h₀ : Keeps s0 s) : Keeps s0 t₀ := by
  unfold execPortMask at e₀
  try dsimp only at e₀
  repeat' split at e₀
  all_goals first
    | (obtain rfl := Host.Outcome.next.inj e₀
       with_reducible repeat' first | assumption | apply specPortMask_ok | apply kcpOp_keeps)
    | (cases e₀; done)

theorem execPortRun_keeps_eq {s0 s t₀ : State} {p : Packet} (e₀ : execPortRun p s = .next t₀) (h₀ : Keeps s0 s) : Keeps s0 t₀ := by
  unfold execPortRun at e₀
  try dsimp only at e₀
  repeat' split at e₀
  all_goals first
    | (obtain rfl := Host.Outcome.next.inj e₀
       with_reducible repeat' first | assumption | apply specPortRun_ok | apply kcpOp_keeps)
    | (cases e₀; done)

theorem execSidetoneSet_keeps_eq {s0 s t₀ : State} {p : Packet} (e₀ : execSidetoneSet p s = .next t₀) (h₀ : Keeps s0 s) : Keeps s0 t₀ := by
  unfold execSidetoneSet at e₀
  try dsimp only at e₀
  repeat' split at e₀
  all_goals first
    | (obtain rfl := Host.Outcome.next.inj e₀
       with_reducible repeat' first | assumption | apply specSidetoneSet_ok | apply kcpOp_keeps)
    | (cases e₀; done)

theorem execPortRead_keeps_eq {s0 s t₀ : State} {p : Packet} (e₀ : execPortRead p s = .next t₀) (h₀ : Keeps s0 s) : Keeps s0 t₀ := by
  unfold execPortRead at e₀
  try dsimp only at e₀
  repeat' split at e₀
  all_goals first
    | (obtain rfl := Host.Outcome.next.inj e₀
       with_reducible repeat' first | assumption | apply specPortRead_ok | apply kcpOp_keeps)
    | (cases e₀; done)

theorem execPairSet_keeps_eq {s0 s t₀ : State} {p : Packet} (e₀ : execPairSet p s = .next t₀) (h₀ : Keeps s0 s) : Keeps s0 t₀ := by
  unfold execPairSet at e₀
  try dsimp only at e₀
  repeat' split at e₀
  all_goals first
    | (obtain rfl := Host.Outcome.next.inj e₀
       with_reducible repeat' first | assumption | apply specPairSet_ok | apply kcpOp_keeps)
    | (cases e₀; done)

theorem execPairStatus_keeps_eq {s0 s t₀ : State} {p : Packet} (e₀ : execPairStatus p s = .next t₀) (h₀ : Keeps s0 s) : Keeps s0 t₀ := by
  unfold execPairStatus at e₀
  try dsimp only at e₀
  repeat' split at e₀
  all_goals first
    | (obtain rfl := Host.Outcome.next.inj e₀
       with_reducible repeat' first | assumption | apply specPairStatus_ok | apply kcpOp_keeps)
    | (cases e₀; done)

theorem execPairSync_keeps_eq {s0 s t₀ : State} {p : Packet} (e₀ : execPairSync p s = .next t₀) (h₀ : Keeps s0 s) : Keeps s0 t₀ := by
  unfold execPairSync at e₀
  try dsimp only at e₀
  repeat' split at e₀
  all_goals first
    | (obtain rfl := Host.Outcome.next.inj e₀
       with_reducible repeat' first | assumption | apply specPairSync_ok | apply kcpOp_keeps)
    | (cases e₀; done)

theorem execPairHandover_keeps_eq {s0 s t₀ : State} {p : Packet} (e₀ : execPairHandover p s = .next t₀) (h₀ : Keeps s0 s) : Keeps s0 t₀ := by
  unfold execPairHandover at e₀
  try dsimp only at e₀
  repeat' split at e₀
  all_goals first
    | (obtain rfl := Host.Outcome.next.inj e₀
       with_reducible repeat' first | assumption | apply specPairHandover_ok | apply kcpOp_keeps)
    | (cases e₀; done)

theorem execTxnBegin_keeps_eq {s0 s t₀ : State} {p : Packet} (e₀ : execTxnBegin p s = .next t₀) (h₀ : Keeps s0 s) : Keeps s0 t₀ := by
  unfold execTxnBegin at e₀
  try dsimp only at e₀
  repeat' split at e₀
  all_goals first
    | (obtain rfl := Host.Outcome.next.inj e₀
       with_reducible repeat' first | assumption | apply specTxnBegin_ok | apply kcpOp_keeps)
    | (cases e₀; done)

theorem execTxnAbort_keeps_eq {s0 s t₀ : State} {p : Packet} (e₀ : execTxnAbort p s = .next t₀) (h₀ : Keeps s0 s) : Keeps s0 t₀ := by
  unfold execTxnAbort at e₀
  try dsimp only at e₀
  repeat' split at e₀
  all_goals first
    | (obtain rfl := Host.Outcome.next.inj e₀
       with_reducible repeat' first | assumption | apply specTxnAbort_ok | apply kcpOp_keeps)
    | (cases e₀; done)

theorem execPwrState_keeps_eq {s0 s t₀ : State} {p : Packet} (e₀ : execPwrState p s = .next t₀) (h₀ : Keeps s0 s) : Keeps s0 t₀ := by
  unfold execPwrState at e₀
  try dsimp only at e₀
  repeat' split at e₀
  all_goals first
    | (obtain rfl := Host.Outcome.next.inj e₀
       with_reducible repeat' first | assumption | apply specPwrState_ok | apply kcpOp_keeps)
    | (cases e₀; done)

theorem execPwrOppoint_keeps_eq {s0 s t₀ : State} {p : Packet} (e₀ : execPwrOppoint p s = .next t₀) (h₀ : Keeps s0 s) : Keeps s0 t₀ := by
  unfold execPwrOppoint at e₀
  try dsimp only at e₀
  repeat' split at e₀
  all_goals first
    | (obtain rfl := Host.Outcome.next.inj e₀
       with_reducible repeat' first | assumption | apply specPwrOppoint_ok | apply kcpOp_keeps)
    | (cases e₀; done)

theorem execPwrDomainRetry_keeps_eq {s0 s t₀ : State} {p : Packet} (e₀ : execPwrDomainRetry p s = .next t₀) (h₀ : Keeps s0 s) : Keeps s0 t₀ := by
  unfold execPwrDomainRetry at e₀
  try dsimp only at e₀
  repeat' split at e₀
  all_goals first
    | (obtain rfl := Host.Outcome.next.inj e₀
       with_reducible repeat' first | assumption | apply specPwrDomainRetry_ok | apply kcpOp_keeps)
    | (cases e₀; done)

theorem execPwrStatus_keeps_eq {s0 s t₀ : State} {p : Packet} (e₀ : execPwrStatus p s = .next t₀) (h₀ : Keeps s0 s) : Keeps s0 t₀ := by
  unfold execPwrStatus at e₀
  try dsimp only at e₀
  repeat' split at e₀
  all_goals first
    | (obtain rfl := Host.Outcome.next.inj e₀
       with_reducible repeat' first | assumption | apply specPwrStatus_ok | apply kcpOp_keeps)
    | (cases e₀; done)

theorem execDiagWindowUnlock_keeps_eq {s0 s t₀ : State} {p : Packet} (e₀ : execDiagWindowUnlock p s = .next t₀) (h₀ : Keeps s0 s) : Keeps s0 t₀ := by
  unfold execDiagWindowUnlock at e₀
  try dsimp only at e₀
  repeat' split at e₀
  all_goals first
    | (obtain rfl := Host.Outcome.next.inj e₀
       with_reducible repeat' first | assumption | apply specWindowUnlock_ok | apply kcpOp_keeps)
    | (cases e₀; done)

theorem execDiagWindowLock_keeps_eq {s0 s t₀ : State} {p : Packet} (e₀ : execDiagWindowLock p s = .next t₀) (h₀ : Keeps s0 s) : Keeps s0 t₀ := by
  unfold execDiagWindowLock at e₀
  try dsimp only at e₀
  repeat' split at e₀
  all_goals first
    | (obtain rfl := Host.Outcome.next.inj e₀
       with_reducible repeat' first | assumption | apply specWindowLock_ok | apply kcpOp_keeps)
    | (cases e₀; done)

theorem execDiagRegRead_keeps_eq {s0 s t₀ : State} {p : Packet} (e₀ : execDiagRegRead p s = .next t₀) (h₀ : Keeps s0 s) : Keeps s0 t₀ := by
  unfold execDiagRegRead at e₀
  try dsimp only at e₀
  repeat' split at e₀
  all_goals first
    | (obtain rfl := Host.Outcome.next.inj e₀
       with_reducible repeat' first | assumption | apply specRegRead_ok | apply kcpOp_keeps)
    | (cases e₀; done)

theorem execDiagCounters_keeps_eq {s0 s t₀ : State} {p : Packet} (e₀ : execDiagCounters p s = .next t₀) (h₀ : Keeps s0 s) : Keeps s0 t₀ := by
  unfold execDiagCounters at e₀
  try dsimp only at e₀
  repeat' split at e₀
  all_goals first
    | (obtain rfl := Host.Outcome.next.inj e₀
       with_reducible repeat' first | assumption | apply specDiagCounters_ok | apply kcpOp_keeps)
    | (cases e₀; done)

theorem execDiagInclusionRead_keeps_eq {s0 s t₀ : State} {p : Packet} (e₀ : execDiagInclusionRead p s = .next t₀) (h₀ : Keeps s0 s) : Keeps s0 t₀ := by
  unfold execDiagInclusionRead at e₀
  try dsimp only at e₀
  repeat' split at e₀
  all_goals first
    | (obtain rfl := Host.Outcome.next.inj e₀
       with_reducible repeat' first | assumption | apply specDiagInclusionRead_ok | apply kcpOp_keeps)
    | (cases e₀; done)

theorem execDiagFacetRetry_keeps_eq {s0 s t₀ : State} {p : Packet} (e₀ : execDiagFacetRetry p s = .next t₀) (h₀ : Keeps s0 s) : Keeps s0 t₀ := by
  unfold execDiagFacetRetry at e₀
  try dsimp only at e₀
  repeat' split at e₀
  all_goals first
    | (obtain rfl := Host.Outcome.next.inj e₀
       with_reducible repeat' first | assumption | apply specDiagFacetRetry_ok | apply kcpOp_keeps)
    | (cases e₀; done)

theorem execDiagLifecycle_keeps_eq {s0 s t₀ : State} {p : Packet} (e₀ : execDiagLifecycle p s = .next t₀) (h₀ : Keeps s0 s) : Keeps s0 t₀ := by
  unfold execDiagLifecycle at e₀
  try dsimp only at e₀
  repeat' split at e₀
  all_goals first
    | (obtain rfl := Host.Outcome.next.inj e₀
       with_reducible repeat' first | assumption | apply specDiagLifecycle_ok | apply kcpOp_keeps)
    | (cases e₀; done)

end Sys2Proof.Machine
end

