-- ==== Sys2Proof/Laws/Map.lean ====
section
/-! SUPPORT. Laws of the sparse tables and of the registers, counters and like things that are kept in them. -/

namespace Sys2Proof.Machine

variable {α : Type}

/-! ### Tables -/

@[simp] theorem mfind_mset_self (m : SMap α) (k : Nat) (v : α) : mfind (mset m k v) k = some v := by
  induction m with
  | nil => simp [mset, mfind]
  | cons e t ih =>
    obtain ⟨a, w⟩ := e
    unfold mset
    split
    · simp [mfind]
    · split
      · simp [mfind]
      · rename_i h; simp [mfind, h, ih]

theorem mfind_mset_ne (m : SMap α) {k j : Nat} (v : α) (h : j ≠ k) : mfind (mset m k v) j = mfind m j := by
  induction m with
  | nil => simp [mset, mfind, Ne.symm h]
  | cons e t ih =>
    obtain ⟨a, w⟩ := e
    unfold mset
    split
    · simp [mfind, Ne.symm h]
    · split
      · rename_i he; subst he; simp [mfind, Ne.symm h]
      · simp [mfind, ih]

@[simp] theorem mfind_mdel_self (m : SMap α) (k : Nat) : mfind (mdel m k) k = none := by
  induction m with
  | nil => rfl
  | cons e t ih =>
    obtain ⟨a, w⟩ := e
    unfold mdel
    split
    · exact ih
    · rename_i h; simp [mfind, h, ih]

theorem mfind_mdel_ne (m : SMap α) {k j : Nat} (h : j ≠ k) : mfind (mdel m k) j = mfind m j := by
  induction m with
  | nil => rfl
  | cons e t ih =>
    obtain ⟨a, w⟩ := e
    unfold mdel
    split
    · rename_i he; subst he; simp [mfind, Ne.symm h, ih]
    · simp [mfind, ih]

/-- What a key holds, from whether it is listed. -/
theorem mget_eq (d : α) (m : SMap α) (k : Nat) : mget d m k = (mfind m k).getD d := by
  induction m with
  | nil => rfl
  | cons e t ih =>
    obtain ⟨a, w⟩ := e
    simp only [mget, mfind]
    split <;> simp [ih]

theorem mhas_eq (m : SMap α) (k : Nat) : mhas m k = (mfind m k).isSome := by
  induction m with
  | nil => rfl
  | cons e t ih =>
    obtain ⟨a, w⟩ := e
    simp only [mhas, mfind]
    split <;> simp [ih]

@[simp] theorem mget_mset_self (d : α) (m : SMap α) (k : Nat) (v : α) : mget d (mset m k v) k = v := by simp [mget_eq]
theorem mget_mset_ne (d : α) (m : SMap α) {k j : Nat} (v : α) (h : j ≠ k) : mget d (mset m k v) j = mget d m j := by
  simp [mget_eq, mfind_mset_ne m v h]
@[simp] theorem mget_mmod_self (d : α) (m : SMap α) (k : Nat) (f : α → α) : mget d (mmod d m k f) k = f (mget d m k) :=
  mget_mset_self ..
theorem mget_mmod_ne (d : α) (m : SMap α) {k j : Nat} (f : α → α) (h : j ≠ k) : mget d (mmod d m k f) j = mget d m j :=
  mget_mset_ne _ _ _ h

/-! ### Registers -/

/-- A register just stored holds its word. -/
@[simp] theorem State.reg_setReg_self (s : State) (a : Nat) (w : Word) : (s.setReg a w).reg a = w := by
  unfold State.reg State.setReg
  dsimp only
  split
  · rename_i h; simp [h]
  · simp

/-- Storing a register leaves every other alone. -/
theorem State.reg_setReg_ne (s : State) {a b : Nat} (w : Word) (h : b ≠ a) : (s.setReg a w).reg b = s.reg b := by
  unfold State.reg State.setReg
  dsimp only
  split
  · rw [mfind_mdel_ne _ h]
  · rw [mfind_mset_ne _ _ h]

@[simp] theorem State.reg_raise_self (s : State) (a : Nat) (m : Word) : (s.raise a m).reg a = s.reg a ||| m :=
  State.reg_setReg_self ..
theorem State.reg_raise_ne (s : State) {a b : Nat} (m : Word) (h : b ≠ a) : (s.raise a m).reg b = s.reg b :=
  State.reg_setReg_ne s _ h

/-! ### Counters -/

/-- Counting adds to one counter. -/
theorem State.cnts_count_self (s : State) (k n : Nat) (h : n ≠ 0) :
    mget {} (s.count k n).cnts k = (mget {} s.cnts k).add n := by
  unfold State.count; rw [if_neg h]; exact mget_mmod_self {} s.cnts k (Cnt.add · n)
theorem State.cnts_count_ne (s : State) {j k : Nat} (n : Nat) (h : j ≠ k) : mget {} (s.count k n).cnts j = mget {} s.cnts j := by
  unfold State.count
  split
  · rfl
  · exact mget_mmod_ne {} s.cnts (Cnt.add · n) h

/-! ### Numbered things -/

theorem nth_modify_self (d : α) (l : List α) (k : Nat) (f : α → α) (h : k < l.length) : nth d (l.modify k f) k = f (nth d l k) := by
  simp [nth, h]

theorem nth_modify_ne (d : α) (l : List α) {k j : Nat} (f : α → α) (h : j ≠ k) : nth d (l.modify k f) j = nth d l j := by
  simp [nth, Ne.symm h]

theorem nth_set_self (d : α) (l : List α) (k : Nat) (v : α) (h : k < l.length) : nth d (l.set k v) k = v := by
  simp [nth, h]

theorem nth_set_ne (d : α) (l : List α) {k j : Nat} (v : α) (h : j ≠ k) : nth d (l.set k v) j = nth d l j := by
  simp [nth, Ne.symm h]

/-- A session is changed alone. -/
theorem State.sess_setSess_self (s : State) (x : Nat) (f : Session → Session) (h : x < s.kcp.sess.length) :
    (s.setSess x f).sess x = f (s.sess x) := nth_modify_self _ _ _ _ h
theorem State.sess_setSess_ne (s : State) {x y : Nat} (f : Session → Session) (h : y ≠ x) : (s.setSess x f).sess y = s.sess y :=
  nth_modify_ne _ _ _ h

end Sys2Proof.Machine
end

