-- ==== Sys2Proof/Laws/State.lean ====
section
/-! SUPPORT. What each update of the state leaves alone, one lemma per field per update, and what it changes. -/

namespace Sys2Proof.Machine

/-! ### What stays -/

/-! #### setReg -/

@[simp] theorem State.setReg_pending (s : State) (a : Nat) (w : Word) : (s.setReg a w).pending = s.pending := rfl
@[simp] theorem State.setReg_freeCtr (s : State) (a : Nat) (w : Word) : (s.setReg a w).freeCtr = s.freeCtr := rfl
@[simp] theorem State.setReg_out (s : State) (a : Nat) (w : Word) : (s.setReg a w).out = s.out := rfl
@[simp] theorem State.setReg_pins (s : State) (a : Nat) (w : Word) : (s.setReg a w).pins = s.pins := rfl
@[simp] theorem State.setReg_cnts (s : State) (a : Nat) (w : Word) : (s.setReg a w).cnts = s.cnts := rfl
@[simp] theorem State.setReg_power (s : State) (a : Nat) (w : Word) : (s.setReg a w).power = s.power := rfl
@[simp] theorem State.setReg_sec (s : State) (a : Nat) (w : Word) : (s.setReg a w).sec = s.sec := rfl
@[simp] theorem State.setReg_boot (s : State) (a : Nat) (w : Word) : (s.setReg a w).boot = s.boot := rfl
@[simp] theorem State.setReg_kcp (s : State) (a : Nat) (w : Word) : (s.setReg a w).kcp = s.kcp := rfl
@[simp] theorem State.setReg_delta (s : State) (a : Nat) (w : Word) : (s.setReg a w).delta = s.delta := rfl
@[simp] theorem State.setReg_render (s : State) (a : Nat) (w : Word) : (s.setReg a w).render = s.render := rfl
@[simp] theorem State.setReg_integ (s : State) (a : Nat) (w : Word) : (s.setReg a w).integ = s.integ := rfl
@[simp] theorem State.setReg_pair (s : State) (a : Nat) (w : Word) : (s.setReg a w).pair = s.pair := rfl
@[simp] theorem State.setReg_time (s : State) (a : Nat) (w : Word) : (s.setReg a w).time = s.time := rfl
@[simp] theorem State.setReg_loupe (s : State) (a : Nat) (w : Word) : (s.setReg a w).loupe = s.loupe := rfl
@[simp] theorem State.setReg_facets (s : State) (a : Nat) (w : Word) : (s.setReg a w).facets = s.facets := rfl
@[simp] theorem State.setReg_mem (s : State) (a : Nat) (w : Word) : (s.setReg a w).mem = s.mem := rfl
@[simp] theorem State.setReg_dma (s : State) (a : Nat) (w : Word) : (s.setReg a w).dma = s.dma := rfl
@[simp] theorem State.setReg_net (s : State) (a : Nat) (w : Word) : (s.setReg a w).net = s.net := rfl
@[simp] theorem State.setReg_ports (s : State) (a : Nat) (w : Word) : (s.setReg a w).ports = s.ports := rfl

/-! #### raise -/

@[simp] theorem State.raise_pending (s : State) (a : Nat) (m : Word) : (s.raise a m).pending = s.pending := rfl
@[simp] theorem State.raise_freeCtr (s : State) (a : Nat) (m : Word) : (s.raise a m).freeCtr = s.freeCtr := rfl
@[simp] theorem State.raise_out (s : State) (a : Nat) (m : Word) : (s.raise a m).out = s.out := rfl
@[simp] theorem State.raise_pins (s : State) (a : Nat) (m : Word) : (s.raise a m).pins = s.pins := rfl
@[simp] theorem State.raise_cnts (s : State) (a : Nat) (m : Word) : (s.raise a m).cnts = s.cnts := rfl
@[simp] theorem State.raise_power (s : State) (a : Nat) (m : Word) : (s.raise a m).power = s.power := rfl
@[simp] theorem State.raise_sec (s : State) (a : Nat) (m : Word) : (s.raise a m).sec = s.sec := rfl
@[simp] theorem State.raise_boot (s : State) (a : Nat) (m : Word) : (s.raise a m).boot = s.boot := rfl
@[simp] theorem State.raise_kcp (s : State) (a : Nat) (m : Word) : (s.raise a m).kcp = s.kcp := rfl
@[simp] theorem State.raise_delta (s : State) (a : Nat) (m : Word) : (s.raise a m).delta = s.delta := rfl
@[simp] theorem State.raise_render (s : State) (a : Nat) (m : Word) : (s.raise a m).render = s.render := rfl
@[simp] theorem State.raise_integ (s : State) (a : Nat) (m : Word) : (s.raise a m).integ = s.integ := rfl
@[simp] theorem State.raise_pair (s : State) (a : Nat) (m : Word) : (s.raise a m).pair = s.pair := rfl
@[simp] theorem State.raise_time (s : State) (a : Nat) (m : Word) : (s.raise a m).time = s.time := rfl
@[simp] theorem State.raise_loupe (s : State) (a : Nat) (m : Word) : (s.raise a m).loupe = s.loupe := rfl
@[simp] theorem State.raise_facets (s : State) (a : Nat) (m : Word) : (s.raise a m).facets = s.facets := rfl
@[simp] theorem State.raise_mem (s : State) (a : Nat) (m : Word) : (s.raise a m).mem = s.mem := rfl
@[simp] theorem State.raise_dma (s : State) (a : Nat) (m : Word) : (s.raise a m).dma = s.dma := rfl
@[simp] theorem State.raise_net (s : State) (a : Nat) (m : Word) : (s.raise a m).net = s.net := rfl
@[simp] theorem State.raise_ports (s : State) (a : Nat) (m : Word) : (s.raise a m).ports = s.ports := rfl

/-! #### count -/

@[simp] theorem State.count_pending (s : State) (k : Nat) (n : Nat) : (s.count k n).pending = s.pending := by unfold State.count; split <;> rfl
@[simp] theorem State.count_freeCtr (s : State) (k : Nat) (n : Nat) : (s.count k n).freeCtr = s.freeCtr := by unfold State.count; split <;> rfl
@[simp] theorem State.count_out (s : State) (k : Nat) (n : Nat) : (s.count k n).out = s.out := by unfold State.count; split <;> rfl
@[simp] theorem State.count_pins (s : State) (k : Nat) (n : Nat) : (s.count k n).pins = s.pins := by unfold State.count; split <;> rfl
@[simp] theorem State.count_regs (s : State) (k : Nat) (n : Nat) : (s.count k n).regs = s.regs := by unfold State.count; split <;> rfl
@[simp] theorem State.count_power (s : State) (k : Nat) (n : Nat) : (s.count k n).power = s.power := by unfold State.count; split <;> rfl
@[simp] theorem State.count_sec (s : State) (k : Nat) (n : Nat) : (s.count k n).sec = s.sec := by unfold State.count; split <;> rfl
@[simp] theorem State.count_boot (s : State) (k : Nat) (n : Nat) : (s.count k n).boot = s.boot := by unfold State.count; split <;> rfl
@[simp] theorem State.count_kcp (s : State) (k : Nat) (n : Nat) : (s.count k n).kcp = s.kcp := by unfold State.count; split <;> rfl
@[simp] theorem State.count_delta (s : State) (k : Nat) (n : Nat) : (s.count k n).delta = s.delta := by unfold State.count; split <;> rfl
@[simp] theorem State.count_render (s : State) (k : Nat) (n : Nat) : (s.count k n).render = s.render := by unfold State.count; split <;> rfl
@[simp] theorem State.count_integ (s : State) (k : Nat) (n : Nat) : (s.count k n).integ = s.integ := by unfold State.count; split <;> rfl
@[simp] theorem State.count_pair (s : State) (k : Nat) (n : Nat) : (s.count k n).pair = s.pair := by unfold State.count; split <;> rfl
@[simp] theorem State.count_time (s : State) (k : Nat) (n : Nat) : (s.count k n).time = s.time := by unfold State.count; split <;> rfl
@[simp] theorem State.count_loupe (s : State) (k : Nat) (n : Nat) : (s.count k n).loupe = s.loupe := by unfold State.count; split <;> rfl
@[simp] theorem State.count_facets (s : State) (k : Nat) (n : Nat) : (s.count k n).facets = s.facets := by unfold State.count; split <;> rfl
@[simp] theorem State.count_mem (s : State) (k : Nat) (n : Nat) : (s.count k n).mem = s.mem := by unfold State.count; split <;> rfl
@[simp] theorem State.count_dma (s : State) (k : Nat) (n : Nat) : (s.count k n).dma = s.dma := by unfold State.count; split <;> rfl
@[simp] theorem State.count_net (s : State) (k : Nat) (n : Nat) : (s.count k n).net = s.net := by unfold State.count; split <;> rfl
@[simp] theorem State.count_ports (s : State) (k : Nat) (n : Nat) : (s.count k n).ports = s.ports := by unfold State.count; split <;> rfl

/-! #### emit -/

@[simp] theorem State.emit_pending (s : State) (o : OutMsg) : (s.emit o).pending = s.pending := rfl
@[simp] theorem State.emit_freeCtr (s : State) (o : OutMsg) : (s.emit o).freeCtr = s.freeCtr := rfl
@[simp] theorem State.emit_pins (s : State) (o : OutMsg) : (s.emit o).pins = s.pins := rfl
@[simp] theorem State.emit_regs (s : State) (o : OutMsg) : (s.emit o).regs = s.regs := rfl
@[simp] theorem State.emit_cnts (s : State) (o : OutMsg) : (s.emit o).cnts = s.cnts := rfl
@[simp] theorem State.emit_power (s : State) (o : OutMsg) : (s.emit o).power = s.power := rfl
@[simp] theorem State.emit_sec (s : State) (o : OutMsg) : (s.emit o).sec = s.sec := rfl
@[simp] theorem State.emit_boot (s : State) (o : OutMsg) : (s.emit o).boot = s.boot := rfl
@[simp] theorem State.emit_kcp (s : State) (o : OutMsg) : (s.emit o).kcp = s.kcp := rfl
@[simp] theorem State.emit_delta (s : State) (o : OutMsg) : (s.emit o).delta = s.delta := rfl
@[simp] theorem State.emit_render (s : State) (o : OutMsg) : (s.emit o).render = s.render := rfl
@[simp] theorem State.emit_integ (s : State) (o : OutMsg) : (s.emit o).integ = s.integ := rfl
@[simp] theorem State.emit_pair (s : State) (o : OutMsg) : (s.emit o).pair = s.pair := rfl
@[simp] theorem State.emit_time (s : State) (o : OutMsg) : (s.emit o).time = s.time := rfl
@[simp] theorem State.emit_loupe (s : State) (o : OutMsg) : (s.emit o).loupe = s.loupe := rfl
@[simp] theorem State.emit_facets (s : State) (o : OutMsg) : (s.emit o).facets = s.facets := rfl
@[simp] theorem State.emit_mem (s : State) (o : OutMsg) : (s.emit o).mem = s.mem := rfl
@[simp] theorem State.emit_dma (s : State) (o : OutMsg) : (s.emit o).dma = s.dma := rfl
@[simp] theorem State.emit_net (s : State) (o : OutMsg) : (s.emit o).net = s.net := rfl
@[simp] theorem State.emit_ports (s : State) (o : OutMsg) : (s.emit o).ports = s.ports := rfl

/-! #### setSess -/

@[simp] theorem State.setSess_pending (s : State) (x : Nat) (f : Session → Session) : (s.setSess x f).pending = s.pending := rfl
@[simp] theorem State.setSess_freeCtr (s : State) (x : Nat) (f : Session → Session) : (s.setSess x f).freeCtr = s.freeCtr := rfl
@[simp] theorem State.setSess_out (s : State) (x : Nat) (f : Session → Session) : (s.setSess x f).out = s.out := rfl
@[simp] theorem State.setSess_pins (s : State) (x : Nat) (f : Session → Session) : (s.setSess x f).pins = s.pins := rfl
@[simp] theorem State.setSess_regs (s : State) (x : Nat) (f : Session → Session) : (s.setSess x f).regs = s.regs := rfl
@[simp] theorem State.setSess_cnts (s : State) (x : Nat) (f : Session → Session) : (s.setSess x f).cnts = s.cnts := rfl
@[simp] theorem State.setSess_power (s : State) (x : Nat) (f : Session → Session) : (s.setSess x f).power = s.power := rfl
@[simp] theorem State.setSess_sec (s : State) (x : Nat) (f : Session → Session) : (s.setSess x f).sec = s.sec := rfl
@[simp] theorem State.setSess_boot (s : State) (x : Nat) (f : Session → Session) : (s.setSess x f).boot = s.boot := rfl
@[simp] theorem State.setSess_delta (s : State) (x : Nat) (f : Session → Session) : (s.setSess x f).delta = s.delta := rfl
@[simp] theorem State.setSess_render (s : State) (x : Nat) (f : Session → Session) : (s.setSess x f).render = s.render := rfl
@[simp] theorem State.setSess_integ (s : State) (x : Nat) (f : Session → Session) : (s.setSess x f).integ = s.integ := rfl
@[simp] theorem State.setSess_pair (s : State) (x : Nat) (f : Session → Session) : (s.setSess x f).pair = s.pair := rfl
@[simp] theorem State.setSess_time (s : State) (x : Nat) (f : Session → Session) : (s.setSess x f).time = s.time := rfl
@[simp] theorem State.setSess_loupe (s : State) (x : Nat) (f : Session → Session) : (s.setSess x f).loupe = s.loupe := rfl
@[simp] theorem State.setSess_facets (s : State) (x : Nat) (f : Session → Session) : (s.setSess x f).facets = s.facets := rfl
@[simp] theorem State.setSess_mem (s : State) (x : Nat) (f : Session → Session) : (s.setSess x f).mem = s.mem := rfl
@[simp] theorem State.setSess_dma (s : State) (x : Nat) (f : Session → Session) : (s.setSess x f).dma = s.dma := rfl
@[simp] theorem State.setSess_net (s : State) (x : Nat) (f : Session → Session) : (s.setSess x f).net = s.net := rfl
@[simp] theorem State.setSess_ports (s : State) (x : Nat) (f : Session → Session) : (s.setSess x f).ports = s.ports := rfl

/-! #### setRing -/

@[simp] theorem State.setRing_pending (s : State) (k : Nat) (f : Ring → Ring) : (s.setRing k f).pending = s.pending := rfl
@[simp] theorem State.setRing_freeCtr (s : State) (k : Nat) (f : Ring → Ring) : (s.setRing k f).freeCtr = s.freeCtr := rfl
@[simp] theorem State.setRing_out (s : State) (k : Nat) (f : Ring → Ring) : (s.setRing k f).out = s.out := rfl
@[simp] theorem State.setRing_pins (s : State) (k : Nat) (f : Ring → Ring) : (s.setRing k f).pins = s.pins := rfl
@[simp] theorem State.setRing_regs (s : State) (k : Nat) (f : Ring → Ring) : (s.setRing k f).regs = s.regs := rfl
@[simp] theorem State.setRing_cnts (s : State) (k : Nat) (f : Ring → Ring) : (s.setRing k f).cnts = s.cnts := rfl
@[simp] theorem State.setRing_power (s : State) (k : Nat) (f : Ring → Ring) : (s.setRing k f).power = s.power := rfl
@[simp] theorem State.setRing_sec (s : State) (k : Nat) (f : Ring → Ring) : (s.setRing k f).sec = s.sec := rfl
@[simp] theorem State.setRing_boot (s : State) (k : Nat) (f : Ring → Ring) : (s.setRing k f).boot = s.boot := rfl
@[simp] theorem State.setRing_delta (s : State) (k : Nat) (f : Ring → Ring) : (s.setRing k f).delta = s.delta := rfl
@[simp] theorem State.setRing_render (s : State) (k : Nat) (f : Ring → Ring) : (s.setRing k f).render = s.render := rfl
@[simp] theorem State.setRing_integ (s : State) (k : Nat) (f : Ring → Ring) : (s.setRing k f).integ = s.integ := rfl
@[simp] theorem State.setRing_pair (s : State) (k : Nat) (f : Ring → Ring) : (s.setRing k f).pair = s.pair := rfl
@[simp] theorem State.setRing_time (s : State) (k : Nat) (f : Ring → Ring) : (s.setRing k f).time = s.time := rfl
@[simp] theorem State.setRing_loupe (s : State) (k : Nat) (f : Ring → Ring) : (s.setRing k f).loupe = s.loupe := rfl
@[simp] theorem State.setRing_facets (s : State) (k : Nat) (f : Ring → Ring) : (s.setRing k f).facets = s.facets := rfl
@[simp] theorem State.setRing_mem (s : State) (k : Nat) (f : Ring → Ring) : (s.setRing k f).mem = s.mem := rfl
@[simp] theorem State.setRing_dma (s : State) (k : Nat) (f : Ring → Ring) : (s.setRing k f).dma = s.dma := rfl
@[simp] theorem State.setRing_net (s : State) (k : Nat) (f : Ring → Ring) : (s.setRing k f).net = s.net := rfl
@[simp] theorem State.setRing_ports (s : State) (k : Nat) (f : Ring → Ring) : (s.setRing k f).ports = s.ports := rfl

/-! #### enter -/

@[simp] theorem State.enter_pending (s : State) (e : Entry) : (s.enter e).pending = s.pending := rfl
@[simp] theorem State.enter_freeCtr (s : State) (e : Entry) : (s.enter e).freeCtr = s.freeCtr := rfl
@[simp] theorem State.enter_out (s : State) (e : Entry) : (s.enter e).out = s.out := rfl
@[simp] theorem State.enter_pins (s : State) (e : Entry) : (s.enter e).pins = s.pins := rfl
@[simp] theorem State.enter_regs (s : State) (e : Entry) : (s.enter e).regs = s.regs := rfl
@[simp] theorem State.enter_cnts (s : State) (e : Entry) : (s.enter e).cnts = s.cnts := rfl
@[simp] theorem State.enter_power (s : State) (e : Entry) : (s.enter e).power = s.power := rfl
@[simp] theorem State.enter_sec (s : State) (e : Entry) : (s.enter e).sec = s.sec := rfl
@[simp] theorem State.enter_boot (s : State) (e : Entry) : (s.enter e).boot = s.boot := rfl
@[simp] theorem State.enter_kcp (s : State) (e : Entry) : (s.enter e).kcp = s.kcp := rfl
@[simp] theorem State.enter_render (s : State) (e : Entry) : (s.enter e).render = s.render := rfl
@[simp] theorem State.enter_integ (s : State) (e : Entry) : (s.enter e).integ = s.integ := rfl
@[simp] theorem State.enter_pair (s : State) (e : Entry) : (s.enter e).pair = s.pair := rfl
@[simp] theorem State.enter_time (s : State) (e : Entry) : (s.enter e).time = s.time := rfl
@[simp] theorem State.enter_loupe (s : State) (e : Entry) : (s.enter e).loupe = s.loupe := rfl
@[simp] theorem State.enter_facets (s : State) (e : Entry) : (s.enter e).facets = s.facets := rfl
@[simp] theorem State.enter_mem (s : State) (e : Entry) : (s.enter e).mem = s.mem := rfl
@[simp] theorem State.enter_dma (s : State) (e : Entry) : (s.enter e).dma = s.dma := rfl
@[simp] theorem State.enter_net (s : State) (e : Entry) : (s.enter e).net = s.net := rfl
@[simp] theorem State.enter_ports (s : State) (e : Entry) : (s.enter e).ports = s.ports := rfl

/-! #### modZone -/

@[simp] theorem State.modZone_pending (s : State) (z : Nat) (f : Zone → Zone) : (s.modZone z f).pending = s.pending := rfl
@[simp] theorem State.modZone_freeCtr (s : State) (z : Nat) (f : Zone → Zone) : (s.modZone z f).freeCtr = s.freeCtr := rfl
@[simp] theorem State.modZone_out (s : State) (z : Nat) (f : Zone → Zone) : (s.modZone z f).out = s.out := rfl
@[simp] theorem State.modZone_pins (s : State) (z : Nat) (f : Zone → Zone) : (s.modZone z f).pins = s.pins := rfl
@[simp] theorem State.modZone_regs (s : State) (z : Nat) (f : Zone → Zone) : (s.modZone z f).regs = s.regs := rfl
@[simp] theorem State.modZone_cnts (s : State) (z : Nat) (f : Zone → Zone) : (s.modZone z f).cnts = s.cnts := rfl
@[simp] theorem State.modZone_power (s : State) (z : Nat) (f : Zone → Zone) : (s.modZone z f).power = s.power := rfl
@[simp] theorem State.modZone_sec (s : State) (z : Nat) (f : Zone → Zone) : (s.modZone z f).sec = s.sec := rfl
@[simp] theorem State.modZone_boot (s : State) (z : Nat) (f : Zone → Zone) : (s.modZone z f).boot = s.boot := rfl
@[simp] theorem State.modZone_kcp (s : State) (z : Nat) (f : Zone → Zone) : (s.modZone z f).kcp = s.kcp := rfl
@[simp] theorem State.modZone_delta (s : State) (z : Nat) (f : Zone → Zone) : (s.modZone z f).delta = s.delta := rfl
@[simp] theorem State.modZone_integ (s : State) (z : Nat) (f : Zone → Zone) : (s.modZone z f).integ = s.integ := rfl
@[simp] theorem State.modZone_pair (s : State) (z : Nat) (f : Zone → Zone) : (s.modZone z f).pair = s.pair := rfl
@[simp] theorem State.modZone_time (s : State) (z : Nat) (f : Zone → Zone) : (s.modZone z f).time = s.time := rfl
@[simp] theorem State.modZone_loupe (s : State) (z : Nat) (f : Zone → Zone) : (s.modZone z f).loupe = s.loupe := rfl
@[simp] theorem State.modZone_facets (s : State) (z : Nat) (f : Zone → Zone) : (s.modZone z f).facets = s.facets := rfl
@[simp] theorem State.modZone_mem (s : State) (z : Nat) (f : Zone → Zone) : (s.modZone z f).mem = s.mem := rfl
@[simp] theorem State.modZone_dma (s : State) (z : Nat) (f : Zone → Zone) : (s.modZone z f).dma = s.dma := rfl
@[simp] theorem State.modZone_net (s : State) (z : Nat) (f : Zone → Zone) : (s.modZone z f).net = s.net := rfl
@[simp] theorem State.modZone_ports (s : State) (z : Nat) (f : Zone → Zone) : (s.modZone z f).ports = s.ports := rfl

/-! #### modZoneRt -/

@[simp] theorem State.modZoneRt_pending (s : State) (z : Nat) (f : ZoneRt → ZoneRt) : (s.modZoneRt z f).pending = s.pending := rfl
@[simp] theorem State.modZoneRt_freeCtr (s : State) (z : Nat) (f : ZoneRt → ZoneRt) : (s.modZoneRt z f).freeCtr = s.freeCtr := rfl
@[simp] theorem State.modZoneRt_out (s : State) (z : Nat) (f : ZoneRt → ZoneRt) : (s.modZoneRt z f).out = s.out := rfl
@[simp] theorem State.modZoneRt_pins (s : State) (z : Nat) (f : ZoneRt → ZoneRt) : (s.modZoneRt z f).pins = s.pins := rfl
@[simp] theorem State.modZoneRt_regs (s : State) (z : Nat) (f : ZoneRt → ZoneRt) : (s.modZoneRt z f).regs = s.regs := rfl
@[simp] theorem State.modZoneRt_cnts (s : State) (z : Nat) (f : ZoneRt → ZoneRt) : (s.modZoneRt z f).cnts = s.cnts := rfl
@[simp] theorem State.modZoneRt_power (s : State) (z : Nat) (f : ZoneRt → ZoneRt) : (s.modZoneRt z f).power = s.power := rfl
@[simp] theorem State.modZoneRt_sec (s : State) (z : Nat) (f : ZoneRt → ZoneRt) : (s.modZoneRt z f).sec = s.sec := rfl
@[simp] theorem State.modZoneRt_boot (s : State) (z : Nat) (f : ZoneRt → ZoneRt) : (s.modZoneRt z f).boot = s.boot := rfl
@[simp] theorem State.modZoneRt_kcp (s : State) (z : Nat) (f : ZoneRt → ZoneRt) : (s.modZoneRt z f).kcp = s.kcp := rfl
@[simp] theorem State.modZoneRt_delta (s : State) (z : Nat) (f : ZoneRt → ZoneRt) : (s.modZoneRt z f).delta = s.delta := rfl
@[simp] theorem State.modZoneRt_integ (s : State) (z : Nat) (f : ZoneRt → ZoneRt) : (s.modZoneRt z f).integ = s.integ := rfl
@[simp] theorem State.modZoneRt_pair (s : State) (z : Nat) (f : ZoneRt → ZoneRt) : (s.modZoneRt z f).pair = s.pair := rfl
@[simp] theorem State.modZoneRt_time (s : State) (z : Nat) (f : ZoneRt → ZoneRt) : (s.modZoneRt z f).time = s.time := rfl
@[simp] theorem State.modZoneRt_loupe (s : State) (z : Nat) (f : ZoneRt → ZoneRt) : (s.modZoneRt z f).loupe = s.loupe := rfl
@[simp] theorem State.modZoneRt_facets (s : State) (z : Nat) (f : ZoneRt → ZoneRt) : (s.modZoneRt z f).facets = s.facets := rfl
@[simp] theorem State.modZoneRt_mem (s : State) (z : Nat) (f : ZoneRt → ZoneRt) : (s.modZoneRt z f).mem = s.mem := rfl
@[simp] theorem State.modZoneRt_dma (s : State) (z : Nat) (f : ZoneRt → ZoneRt) : (s.modZoneRt z f).dma = s.dma := rfl
@[simp] theorem State.modZoneRt_net (s : State) (z : Nat) (f : ZoneRt → ZoneRt) : (s.modZoneRt z f).net = s.net := rfl
@[simp] theorem State.modZoneRt_ports (s : State) (z : Nat) (f : ZoneRt → ZoneRt) : (s.modZoneRt z f).ports = s.ports := rfl

/-! #### modObj -/

@[simp] theorem State.modObj_pending (s : State) (o : Nat) (f : Obj → Obj) : (s.modObj o f).pending = s.pending := rfl
@[simp] theorem State.modObj_freeCtr (s : State) (o : Nat) (f : Obj → Obj) : (s.modObj o f).freeCtr = s.freeCtr := rfl
@[simp] theorem State.modObj_out (s : State) (o : Nat) (f : Obj → Obj) : (s.modObj o f).out = s.out := rfl
@[simp] theorem State.modObj_pins (s : State) (o : Nat) (f : Obj → Obj) : (s.modObj o f).pins = s.pins := rfl
@[simp] theorem State.modObj_regs (s : State) (o : Nat) (f : Obj → Obj) : (s.modObj o f).regs = s.regs := rfl
@[simp] theorem State.modObj_cnts (s : State) (o : Nat) (f : Obj → Obj) : (s.modObj o f).cnts = s.cnts := rfl
@[simp] theorem State.modObj_power (s : State) (o : Nat) (f : Obj → Obj) : (s.modObj o f).power = s.power := rfl
@[simp] theorem State.modObj_sec (s : State) (o : Nat) (f : Obj → Obj) : (s.modObj o f).sec = s.sec := rfl
@[simp] theorem State.modObj_boot (s : State) (o : Nat) (f : Obj → Obj) : (s.modObj o f).boot = s.boot := rfl
@[simp] theorem State.modObj_kcp (s : State) (o : Nat) (f : Obj → Obj) : (s.modObj o f).kcp = s.kcp := rfl
@[simp] theorem State.modObj_delta (s : State) (o : Nat) (f : Obj → Obj) : (s.modObj o f).delta = s.delta := rfl
@[simp] theorem State.modObj_integ (s : State) (o : Nat) (f : Obj → Obj) : (s.modObj o f).integ = s.integ := rfl
@[simp] theorem State.modObj_pair (s : State) (o : Nat) (f : Obj → Obj) : (s.modObj o f).pair = s.pair := rfl
@[simp] theorem State.modObj_time (s : State) (o : Nat) (f : Obj → Obj) : (s.modObj o f).time = s.time := rfl
@[simp] theorem State.modObj_loupe (s : State) (o : Nat) (f : Obj → Obj) : (s.modObj o f).loupe = s.loupe := rfl
@[simp] theorem State.modObj_facets (s : State) (o : Nat) (f : Obj → Obj) : (s.modObj o f).facets = s.facets := rfl
@[simp] theorem State.modObj_mem (s : State) (o : Nat) (f : Obj → Obj) : (s.modObj o f).mem = s.mem := rfl
@[simp] theorem State.modObj_dma (s : State) (o : Nat) (f : Obj → Obj) : (s.modObj o f).dma = s.dma := rfl
@[simp] theorem State.modObj_net (s : State) (o : Nat) (f : Obj → Obj) : (s.modObj o f).net = s.net := rfl
@[simp] theorem State.modObj_ports (s : State) (o : Nat) (f : Obj → Obj) : (s.modObj o f).ports = s.ports := rfl

/-! #### modObjRt -/

@[simp] theorem State.modObjRt_pending (s : State) (o : Nat) (f : ObjRt → ObjRt) : (s.modObjRt o f).pending = s.pending := rfl
@[simp] theorem State.modObjRt_freeCtr (s : State) (o : Nat) (f : ObjRt → ObjRt) : (s.modObjRt o f).freeCtr = s.freeCtr := rfl
@[simp] theorem State.modObjRt_out (s : State) (o : Nat) (f : ObjRt → ObjRt) : (s.modObjRt o f).out = s.out := rfl
@[simp] theorem State.modObjRt_pins (s : State) (o : Nat) (f : ObjRt → ObjRt) : (s.modObjRt o f).pins = s.pins := rfl
@[simp] theorem State.modObjRt_regs (s : State) (o : Nat) (f : ObjRt → ObjRt) : (s.modObjRt o f).regs = s.regs := rfl
@[simp] theorem State.modObjRt_cnts (s : State) (o : Nat) (f : ObjRt → ObjRt) : (s.modObjRt o f).cnts = s.cnts := rfl
@[simp] theorem State.modObjRt_power (s : State) (o : Nat) (f : ObjRt → ObjRt) : (s.modObjRt o f).power = s.power := rfl
@[simp] theorem State.modObjRt_sec (s : State) (o : Nat) (f : ObjRt → ObjRt) : (s.modObjRt o f).sec = s.sec := rfl
@[simp] theorem State.modObjRt_boot (s : State) (o : Nat) (f : ObjRt → ObjRt) : (s.modObjRt o f).boot = s.boot := rfl
@[simp] theorem State.modObjRt_kcp (s : State) (o : Nat) (f : ObjRt → ObjRt) : (s.modObjRt o f).kcp = s.kcp := rfl
@[simp] theorem State.modObjRt_delta (s : State) (o : Nat) (f : ObjRt → ObjRt) : (s.modObjRt o f).delta = s.delta := rfl
@[simp] theorem State.modObjRt_integ (s : State) (o : Nat) (f : ObjRt → ObjRt) : (s.modObjRt o f).integ = s.integ := rfl
@[simp] theorem State.modObjRt_pair (s : State) (o : Nat) (f : ObjRt → ObjRt) : (s.modObjRt o f).pair = s.pair := rfl
@[simp] theorem State.modObjRt_time (s : State) (o : Nat) (f : ObjRt → ObjRt) : (s.modObjRt o f).time = s.time := rfl
@[simp] theorem State.modObjRt_loupe (s : State) (o : Nat) (f : ObjRt → ObjRt) : (s.modObjRt o f).loupe = s.loupe := rfl
@[simp] theorem State.modObjRt_facets (s : State) (o : Nat) (f : ObjRt → ObjRt) : (s.modObjRt o f).facets = s.facets := rfl
@[simp] theorem State.modObjRt_mem (s : State) (o : Nat) (f : ObjRt → ObjRt) : (s.modObjRt o f).mem = s.mem := rfl
@[simp] theorem State.modObjRt_dma (s : State) (o : Nat) (f : ObjRt → ObjRt) : (s.modObjRt o f).dma = s.dma := rfl
@[simp] theorem State.modObjRt_net (s : State) (o : Nat) (f : ObjRt → ObjRt) : (s.modObjRt o f).net = s.net := rfl
@[simp] theorem State.modObjRt_ports (s : State) (o : Nat) (f : ObjRt → ObjRt) : (s.modObjRt o f).ports = s.ports := rfl

/-! #### modFeed -/

@[simp] theorem State.modFeed_pending (s : State) (f : Nat) (g : Feed → Feed) : (s.modFeed f g).pending = s.pending := rfl
@[simp] theorem State.modFeed_freeCtr (s : State) (f : Nat) (g : Feed → Feed) : (s.modFeed f g).freeCtr = s.freeCtr := rfl
@[simp] theorem State.modFeed_out (s : State) (f : Nat) (g : Feed → Feed) : (s.modFeed f g).out = s.out := rfl
@[simp] theorem State.modFeed_pins (s : State) (f : Nat) (g : Feed → Feed) : (s.modFeed f g).pins = s.pins := rfl
@[simp] theorem State.modFeed_regs (s : State) (f : Nat) (g : Feed → Feed) : (s.modFeed f g).regs = s.regs := rfl
@[simp] theorem State.modFeed_cnts (s : State) (f : Nat) (g : Feed → Feed) : (s.modFeed f g).cnts = s.cnts := rfl
@[simp] theorem State.modFeed_power (s : State) (f : Nat) (g : Feed → Feed) : (s.modFeed f g).power = s.power := rfl
@[simp] theorem State.modFeed_sec (s : State) (f : Nat) (g : Feed → Feed) : (s.modFeed f g).sec = s.sec := rfl
@[simp] theorem State.modFeed_boot (s : State) (f : Nat) (g : Feed → Feed) : (s.modFeed f g).boot = s.boot := rfl
@[simp] theorem State.modFeed_kcp (s : State) (f : Nat) (g : Feed → Feed) : (s.modFeed f g).kcp = s.kcp := rfl
@[simp] theorem State.modFeed_delta (s : State) (f : Nat) (g : Feed → Feed) : (s.modFeed f g).delta = s.delta := rfl
@[simp] theorem State.modFeed_integ (s : State) (f : Nat) (g : Feed → Feed) : (s.modFeed f g).integ = s.integ := rfl
@[simp] theorem State.modFeed_pair (s : State) (f : Nat) (g : Feed → Feed) : (s.modFeed f g).pair = s.pair := rfl
@[simp] theorem State.modFeed_time (s : State) (f : Nat) (g : Feed → Feed) : (s.modFeed f g).time = s.time := rfl
@[simp] theorem State.modFeed_loupe (s : State) (f : Nat) (g : Feed → Feed) : (s.modFeed f g).loupe = s.loupe := rfl
@[simp] theorem State.modFeed_facets (s : State) (f : Nat) (g : Feed → Feed) : (s.modFeed f g).facets = s.facets := rfl
@[simp] theorem State.modFeed_mem (s : State) (f : Nat) (g : Feed → Feed) : (s.modFeed f g).mem = s.mem := rfl
@[simp] theorem State.modFeed_dma (s : State) (f : Nat) (g : Feed → Feed) : (s.modFeed f g).dma = s.dma := rfl
@[simp] theorem State.modFeed_net (s : State) (f : Nat) (g : Feed → Feed) : (s.modFeed f g).net = s.net := rfl
@[simp] theorem State.modFeed_ports (s : State) (f : Nat) (g : Feed → Feed) : (s.modFeed f g).ports = s.ports := rfl

/-! #### modFeedRt -/

@[simp] theorem State.modFeedRt_pending (s : State) (f : Nat) (g : FeedRt → FeedRt) : (s.modFeedRt f g).pending = s.pending := rfl
@[simp] theorem State.modFeedRt_freeCtr (s : State) (f : Nat) (g : FeedRt → FeedRt) : (s.modFeedRt f g).freeCtr = s.freeCtr := rfl
@[simp] theorem State.modFeedRt_out (s : State) (f : Nat) (g : FeedRt → FeedRt) : (s.modFeedRt f g).out = s.out := rfl
@[simp] theorem State.modFeedRt_pins (s : State) (f : Nat) (g : FeedRt → FeedRt) : (s.modFeedRt f g).pins = s.pins := rfl
@[simp] theorem State.modFeedRt_regs (s : State) (f : Nat) (g : FeedRt → FeedRt) : (s.modFeedRt f g).regs = s.regs := rfl
@[simp] theorem State.modFeedRt_cnts (s : State) (f : Nat) (g : FeedRt → FeedRt) : (s.modFeedRt f g).cnts = s.cnts := rfl
@[simp] theorem State.modFeedRt_power (s : State) (f : Nat) (g : FeedRt → FeedRt) : (s.modFeedRt f g).power = s.power := rfl
@[simp] theorem State.modFeedRt_sec (s : State) (f : Nat) (g : FeedRt → FeedRt) : (s.modFeedRt f g).sec = s.sec := rfl
@[simp] theorem State.modFeedRt_boot (s : State) (f : Nat) (g : FeedRt → FeedRt) : (s.modFeedRt f g).boot = s.boot := rfl
@[simp] theorem State.modFeedRt_kcp (s : State) (f : Nat) (g : FeedRt → FeedRt) : (s.modFeedRt f g).kcp = s.kcp := rfl
@[simp] theorem State.modFeedRt_delta (s : State) (f : Nat) (g : FeedRt → FeedRt) : (s.modFeedRt f g).delta = s.delta := rfl
@[simp] theorem State.modFeedRt_integ (s : State) (f : Nat) (g : FeedRt → FeedRt) : (s.modFeedRt f g).integ = s.integ := rfl
@[simp] theorem State.modFeedRt_pair (s : State) (f : Nat) (g : FeedRt → FeedRt) : (s.modFeedRt f g).pair = s.pair := rfl
@[simp] theorem State.modFeedRt_time (s : State) (f : Nat) (g : FeedRt → FeedRt) : (s.modFeedRt f g).time = s.time := rfl
@[simp] theorem State.modFeedRt_loupe (s : State) (f : Nat) (g : FeedRt → FeedRt) : (s.modFeedRt f g).loupe = s.loupe := rfl
@[simp] theorem State.modFeedRt_facets (s : State) (f : Nat) (g : FeedRt → FeedRt) : (s.modFeedRt f g).facets = s.facets := rfl
@[simp] theorem State.modFeedRt_mem (s : State) (f : Nat) (g : FeedRt → FeedRt) : (s.modFeedRt f g).mem = s.mem := rfl
@[simp] theorem State.modFeedRt_dma (s : State) (f : Nat) (g : FeedRt → FeedRt) : (s.modFeedRt f g).dma = s.dma := rfl
@[simp] theorem State.modFeedRt_net (s : State) (f : Nat) (g : FeedRt → FeedRt) : (s.modFeedRt f g).net = s.net := rfl
@[simp] theorem State.modFeedRt_ports (s : State) (f : Nat) (g : FeedRt → FeedRt) : (s.modFeedRt f g).ports = s.ports := rfl

/-! #### modChain -/

@[simp] theorem State.modChain_pending (s : State) (f : Nat) (g : Chain → Chain) : (s.modChain f g).pending = s.pending := rfl
@[simp] theorem State.modChain_freeCtr (s : State) (f : Nat) (g : Chain → Chain) : (s.modChain f g).freeCtr = s.freeCtr := rfl
@[simp] theorem State.modChain_out (s : State) (f : Nat) (g : Chain → Chain) : (s.modChain f g).out = s.out := rfl
@[simp] theorem State.modChain_pins (s : State) (f : Nat) (g : Chain → Chain) : (s.modChain f g).pins = s.pins := rfl
@[simp] theorem State.modChain_regs (s : State) (f : Nat) (g : Chain → Chain) : (s.modChain f g).regs = s.regs := rfl
@[simp] theorem State.modChain_cnts (s : State) (f : Nat) (g : Chain → Chain) : (s.modChain f g).cnts = s.cnts := rfl
@[simp] theorem State.modChain_power (s : State) (f : Nat) (g : Chain → Chain) : (s.modChain f g).power = s.power := rfl
@[simp] theorem State.modChain_sec (s : State) (f : Nat) (g : Chain → Chain) : (s.modChain f g).sec = s.sec := rfl
@[simp] theorem State.modChain_boot (s : State) (f : Nat) (g : Chain → Chain) : (s.modChain f g).boot = s.boot := rfl
@[simp] theorem State.modChain_kcp (s : State) (f : Nat) (g : Chain → Chain) : (s.modChain f g).kcp = s.kcp := rfl
@[simp] theorem State.modChain_delta (s : State) (f : Nat) (g : Chain → Chain) : (s.modChain f g).delta = s.delta := rfl
@[simp] theorem State.modChain_integ (s : State) (f : Nat) (g : Chain → Chain) : (s.modChain f g).integ = s.integ := rfl
@[simp] theorem State.modChain_pair (s : State) (f : Nat) (g : Chain → Chain) : (s.modChain f g).pair = s.pair := rfl
@[simp] theorem State.modChain_time (s : State) (f : Nat) (g : Chain → Chain) : (s.modChain f g).time = s.time := rfl
@[simp] theorem State.modChain_loupe (s : State) (f : Nat) (g : Chain → Chain) : (s.modChain f g).loupe = s.loupe := rfl
@[simp] theorem State.modChain_facets (s : State) (f : Nat) (g : Chain → Chain) : (s.modChain f g).facets = s.facets := rfl
@[simp] theorem State.modChain_mem (s : State) (f : Nat) (g : Chain → Chain) : (s.modChain f g).mem = s.mem := rfl
@[simp] theorem State.modChain_dma (s : State) (f : Nat) (g : Chain → Chain) : (s.modChain f g).dma = s.dma := rfl
@[simp] theorem State.modChain_net (s : State) (f : Nat) (g : Chain → Chain) : (s.modChain f g).net = s.net := rfl
@[simp] theorem State.modChain_ports (s : State) (f : Nat) (g : Chain → Chain) : (s.modChain f g).ports = s.ports := rfl

/-! #### modRoute -/

@[simp] theorem State.modRoute_pending (s : State) (r : Nat) (g : RouteRt → RouteRt) : (s.modRoute r g).pending = s.pending := rfl
@[simp] theorem State.modRoute_freeCtr (s : State) (r : Nat) (g : RouteRt → RouteRt) : (s.modRoute r g).freeCtr = s.freeCtr := rfl
@[simp] theorem State.modRoute_out (s : State) (r : Nat) (g : RouteRt → RouteRt) : (s.modRoute r g).out = s.out := rfl
@[simp] theorem State.modRoute_pins (s : State) (r : Nat) (g : RouteRt → RouteRt) : (s.modRoute r g).pins = s.pins := rfl
@[simp] theorem State.modRoute_regs (s : State) (r : Nat) (g : RouteRt → RouteRt) : (s.modRoute r g).regs = s.regs := rfl
@[simp] theorem State.modRoute_cnts (s : State) (r : Nat) (g : RouteRt → RouteRt) : (s.modRoute r g).cnts = s.cnts := rfl
@[simp] theorem State.modRoute_power (s : State) (r : Nat) (g : RouteRt → RouteRt) : (s.modRoute r g).power = s.power := rfl
@[simp] theorem State.modRoute_sec (s : State) (r : Nat) (g : RouteRt → RouteRt) : (s.modRoute r g).sec = s.sec := rfl
@[simp] theorem State.modRoute_boot (s : State) (r : Nat) (g : RouteRt → RouteRt) : (s.modRoute r g).boot = s.boot := rfl
@[simp] theorem State.modRoute_kcp (s : State) (r : Nat) (g : RouteRt → RouteRt) : (s.modRoute r g).kcp = s.kcp := rfl
@[simp] theorem State.modRoute_delta (s : State) (r : Nat) (g : RouteRt → RouteRt) : (s.modRoute r g).delta = s.delta := rfl
@[simp] theorem State.modRoute_integ (s : State) (r : Nat) (g : RouteRt → RouteRt) : (s.modRoute r g).integ = s.integ := rfl
@[simp] theorem State.modRoute_pair (s : State) (r : Nat) (g : RouteRt → RouteRt) : (s.modRoute r g).pair = s.pair := rfl
@[simp] theorem State.modRoute_time (s : State) (r : Nat) (g : RouteRt → RouteRt) : (s.modRoute r g).time = s.time := rfl
@[simp] theorem State.modRoute_loupe (s : State) (r : Nat) (g : RouteRt → RouteRt) : (s.modRoute r g).loupe = s.loupe := rfl
@[simp] theorem State.modRoute_facets (s : State) (r : Nat) (g : RouteRt → RouteRt) : (s.modRoute r g).facets = s.facets := rfl
@[simp] theorem State.modRoute_mem (s : State) (r : Nat) (g : RouteRt → RouteRt) : (s.modRoute r g).mem = s.mem := rfl
@[simp] theorem State.modRoute_dma (s : State) (r : Nat) (g : RouteRt → RouteRt) : (s.modRoute r g).dma = s.dma := rfl
@[simp] theorem State.modRoute_net (s : State) (r : Nat) (g : RouteRt → RouteRt) : (s.modRoute r g).net = s.net := rfl
@[simp] theorem State.modRoute_ports (s : State) (r : Nat) (g : RouteRt → RouteRt) : (s.modRoute r g).ports = s.ports := rfl

/-! #### modRef -/

@[simp] theorem State.modRef_pending (s : State) (r : Nat) (f : Ref → Ref) : (s.modRef r f).pending = s.pending := rfl
@[simp] theorem State.modRef_freeCtr (s : State) (r : Nat) (f : Ref → Ref) : (s.modRef r f).freeCtr = s.freeCtr := rfl
@[simp] theorem State.modRef_out (s : State) (r : Nat) (f : Ref → Ref) : (s.modRef r f).out = s.out := rfl
@[simp] theorem State.modRef_pins (s : State) (r : Nat) (f : Ref → Ref) : (s.modRef r f).pins = s.pins := rfl
@[simp] theorem State.modRef_regs (s : State) (r : Nat) (f : Ref → Ref) : (s.modRef r f).regs = s.regs := rfl
@[simp] theorem State.modRef_cnts (s : State) (r : Nat) (f : Ref → Ref) : (s.modRef r f).cnts = s.cnts := rfl
@[simp] theorem State.modRef_power (s : State) (r : Nat) (f : Ref → Ref) : (s.modRef r f).power = s.power := rfl
@[simp] theorem State.modRef_sec (s : State) (r : Nat) (f : Ref → Ref) : (s.modRef r f).sec = s.sec := rfl
@[simp] theorem State.modRef_boot (s : State) (r : Nat) (f : Ref → Ref) : (s.modRef r f).boot = s.boot := rfl
@[simp] theorem State.modRef_kcp (s : State) (r : Nat) (f : Ref → Ref) : (s.modRef r f).kcp = s.kcp := rfl
@[simp] theorem State.modRef_delta (s : State) (r : Nat) (f : Ref → Ref) : (s.modRef r f).delta = s.delta := rfl
@[simp] theorem State.modRef_render (s : State) (r : Nat) (f : Ref → Ref) : (s.modRef r f).render = s.render := rfl
@[simp] theorem State.modRef_integ (s : State) (r : Nat) (f : Ref → Ref) : (s.modRef r f).integ = s.integ := rfl
@[simp] theorem State.modRef_pair (s : State) (r : Nat) (f : Ref → Ref) : (s.modRef r f).pair = s.pair := rfl
@[simp] theorem State.modRef_loupe (s : State) (r : Nat) (f : Ref → Ref) : (s.modRef r f).loupe = s.loupe := rfl
@[simp] theorem State.modRef_facets (s : State) (r : Nat) (f : Ref → Ref) : (s.modRef r f).facets = s.facets := rfl
@[simp] theorem State.modRef_mem (s : State) (r : Nat) (f : Ref → Ref) : (s.modRef r f).mem = s.mem := rfl
@[simp] theorem State.modRef_dma (s : State) (r : Nat) (f : Ref → Ref) : (s.modRef r f).dma = s.dma := rfl
@[simp] theorem State.modRef_net (s : State) (r : Nat) (f : Ref → Ref) : (s.modRef r f).net = s.net := rfl
@[simp] theorem State.modRef_ports (s : State) (r : Nat) (f : Ref → Ref) : (s.modRef r f).ports = s.ports := rfl

/-! #### modSel -/

@[simp] theorem State.modSel_pending (s : State) (f : Sel → Sel) : (s.modSel f).pending = s.pending := rfl
@[simp] theorem State.modSel_freeCtr (s : State) (f : Sel → Sel) : (s.modSel f).freeCtr = s.freeCtr := rfl
@[simp] theorem State.modSel_out (s : State) (f : Sel → Sel) : (s.modSel f).out = s.out := rfl
@[simp] theorem State.modSel_pins (s : State) (f : Sel → Sel) : (s.modSel f).pins = s.pins := rfl
@[simp] theorem State.modSel_regs (s : State) (f : Sel → Sel) : (s.modSel f).regs = s.regs := rfl
@[simp] theorem State.modSel_cnts (s : State) (f : Sel → Sel) : (s.modSel f).cnts = s.cnts := rfl
@[simp] theorem State.modSel_power (s : State) (f : Sel → Sel) : (s.modSel f).power = s.power := rfl
@[simp] theorem State.modSel_sec (s : State) (f : Sel → Sel) : (s.modSel f).sec = s.sec := rfl
@[simp] theorem State.modSel_boot (s : State) (f : Sel → Sel) : (s.modSel f).boot = s.boot := rfl
@[simp] theorem State.modSel_kcp (s : State) (f : Sel → Sel) : (s.modSel f).kcp = s.kcp := rfl
@[simp] theorem State.modSel_delta (s : State) (f : Sel → Sel) : (s.modSel f).delta = s.delta := rfl
@[simp] theorem State.modSel_render (s : State) (f : Sel → Sel) : (s.modSel f).render = s.render := rfl
@[simp] theorem State.modSel_integ (s : State) (f : Sel → Sel) : (s.modSel f).integ = s.integ := rfl
@[simp] theorem State.modSel_pair (s : State) (f : Sel → Sel) : (s.modSel f).pair = s.pair := rfl
@[simp] theorem State.modSel_loupe (s : State) (f : Sel → Sel) : (s.modSel f).loupe = s.loupe := rfl
@[simp] theorem State.modSel_facets (s : State) (f : Sel → Sel) : (s.modSel f).facets = s.facets := rfl
@[simp] theorem State.modSel_mem (s : State) (f : Sel → Sel) : (s.modSel f).mem = s.mem := rfl
@[simp] theorem State.modSel_dma (s : State) (f : Sel → Sel) : (s.modSel f).dma = s.dma := rfl
@[simp] theorem State.modSel_net (s : State) (f : Sel → Sel) : (s.modSel f).net = s.net := rfl
@[simp] theorem State.modSel_ports (s : State) (f : Sel → Sel) : (s.modSel f).ports = s.ports := rfl

/-! #### modPtp -/

@[simp] theorem State.modPtp_pending (s : State) (d : Nat) (f : Ptp → Ptp) : (s.modPtp d f).pending = s.pending := rfl
@[simp] theorem State.modPtp_freeCtr (s : State) (d : Nat) (f : Ptp → Ptp) : (s.modPtp d f).freeCtr = s.freeCtr := rfl
@[simp] theorem State.modPtp_out (s : State) (d : Nat) (f : Ptp → Ptp) : (s.modPtp d f).out = s.out := rfl
@[simp] theorem State.modPtp_pins (s : State) (d : Nat) (f : Ptp → Ptp) : (s.modPtp d f).pins = s.pins := rfl
@[simp] theorem State.modPtp_regs (s : State) (d : Nat) (f : Ptp → Ptp) : (s.modPtp d f).regs = s.regs := rfl
@[simp] theorem State.modPtp_cnts (s : State) (d : Nat) (f : Ptp → Ptp) : (s.modPtp d f).cnts = s.cnts := rfl
@[simp] theorem State.modPtp_power (s : State) (d : Nat) (f : Ptp → Ptp) : (s.modPtp d f).power = s.power := rfl
@[simp] theorem State.modPtp_sec (s : State) (d : Nat) (f : Ptp → Ptp) : (s.modPtp d f).sec = s.sec := rfl
@[simp] theorem State.modPtp_boot (s : State) (d : Nat) (f : Ptp → Ptp) : (s.modPtp d f).boot = s.boot := rfl
@[simp] theorem State.modPtp_kcp (s : State) (d : Nat) (f : Ptp → Ptp) : (s.modPtp d f).kcp = s.kcp := rfl
@[simp] theorem State.modPtp_delta (s : State) (d : Nat) (f : Ptp → Ptp) : (s.modPtp d f).delta = s.delta := rfl
@[simp] theorem State.modPtp_render (s : State) (d : Nat) (f : Ptp → Ptp) : (s.modPtp d f).render = s.render := rfl
@[simp] theorem State.modPtp_integ (s : State) (d : Nat) (f : Ptp → Ptp) : (s.modPtp d f).integ = s.integ := rfl
@[simp] theorem State.modPtp_pair (s : State) (d : Nat) (f : Ptp → Ptp) : (s.modPtp d f).pair = s.pair := rfl
@[simp] theorem State.modPtp_loupe (s : State) (d : Nat) (f : Ptp → Ptp) : (s.modPtp d f).loupe = s.loupe := rfl
@[simp] theorem State.modPtp_facets (s : State) (d : Nat) (f : Ptp → Ptp) : (s.modPtp d f).facets = s.facets := rfl
@[simp] theorem State.modPtp_mem (s : State) (d : Nat) (f : Ptp → Ptp) : (s.modPtp d f).mem = s.mem := rfl
@[simp] theorem State.modPtp_dma (s : State) (d : Nat) (f : Ptp → Ptp) : (s.modPtp d f).dma = s.dma := rfl
@[simp] theorem State.modPtp_net (s : State) (d : Nat) (f : Ptp → Ptp) : (s.modPtp d f).net = s.net := rfl
@[simp] theorem State.modPtp_ports (s : State) (d : Nat) (f : Ptp → Ptp) : (s.modPtp d f).ports = s.ports := rfl

/-! #### memWrite -/

@[simp] theorem State.memWrite_pending (s : State) (a : Nat) (bs : List Byte) : (s.memWrite a bs).pending = s.pending := rfl
@[simp] theorem State.memWrite_freeCtr (s : State) (a : Nat) (bs : List Byte) : (s.memWrite a bs).freeCtr = s.freeCtr := rfl
@[simp] theorem State.memWrite_out (s : State) (a : Nat) (bs : List Byte) : (s.memWrite a bs).out = s.out := rfl
@[simp] theorem State.memWrite_pins (s : State) (a : Nat) (bs : List Byte) : (s.memWrite a bs).pins = s.pins := rfl
@[simp] theorem State.memWrite_regs (s : State) (a : Nat) (bs : List Byte) : (s.memWrite a bs).regs = s.regs := rfl
@[simp] theorem State.memWrite_cnts (s : State) (a : Nat) (bs : List Byte) : (s.memWrite a bs).cnts = s.cnts := rfl
@[simp] theorem State.memWrite_power (s : State) (a : Nat) (bs : List Byte) : (s.memWrite a bs).power = s.power := rfl
@[simp] theorem State.memWrite_sec (s : State) (a : Nat) (bs : List Byte) : (s.memWrite a bs).sec = s.sec := rfl
@[simp] theorem State.memWrite_boot (s : State) (a : Nat) (bs : List Byte) : (s.memWrite a bs).boot = s.boot := rfl
@[simp] theorem State.memWrite_kcp (s : State) (a : Nat) (bs : List Byte) : (s.memWrite a bs).kcp = s.kcp := rfl
@[simp] theorem State.memWrite_delta (s : State) (a : Nat) (bs : List Byte) : (s.memWrite a bs).delta = s.delta := rfl
@[simp] theorem State.memWrite_render (s : State) (a : Nat) (bs : List Byte) : (s.memWrite a bs).render = s.render := rfl
@[simp] theorem State.memWrite_integ (s : State) (a : Nat) (bs : List Byte) : (s.memWrite a bs).integ = s.integ := rfl
@[simp] theorem State.memWrite_pair (s : State) (a : Nat) (bs : List Byte) : (s.memWrite a bs).pair = s.pair := rfl
@[simp] theorem State.memWrite_time (s : State) (a : Nat) (bs : List Byte) : (s.memWrite a bs).time = s.time := rfl
@[simp] theorem State.memWrite_loupe (s : State) (a : Nat) (bs : List Byte) : (s.memWrite a bs).loupe = s.loupe := rfl
@[simp] theorem State.memWrite_facets (s : State) (a : Nat) (bs : List Byte) : (s.memWrite a bs).facets = s.facets := rfl
@[simp] theorem State.memWrite_dma (s : State) (a : Nat) (bs : List Byte) : (s.memWrite a bs).dma = s.dma := rfl
@[simp] theorem State.memWrite_net (s : State) (a : Nat) (bs : List Byte) : (s.memWrite a bs).net = s.net := rfl
@[simp] theorem State.memWrite_ports (s : State) (a : Nat) (bs : List Byte) : (s.memWrite a bs).ports = s.ports := rfl

/-! #### memClear -/

@[simp] theorem State.memClear_pending (s : State) (lo hi : Nat) : (s.memClear lo hi).pending = s.pending := rfl
@[simp] theorem State.memClear_freeCtr (s : State) (lo hi : Nat) : (s.memClear lo hi).freeCtr = s.freeCtr := rfl
@[simp] theorem State.memClear_out (s : State) (lo hi : Nat) : (s.memClear lo hi).out = s.out := rfl
@[simp] theorem State.memClear_pins (s : State) (lo hi : Nat) : (s.memClear lo hi).pins = s.pins := rfl
@[simp] theorem State.memClear_regs (s : State) (lo hi : Nat) : (s.memClear lo hi).regs = s.regs := rfl
@[simp] theorem State.memClear_cnts (s : State) (lo hi : Nat) : (s.memClear lo hi).cnts = s.cnts := rfl
@[simp] theorem State.memClear_power (s : State) (lo hi : Nat) : (s.memClear lo hi).power = s.power := rfl
@[simp] theorem State.memClear_sec (s : State) (lo hi : Nat) : (s.memClear lo hi).sec = s.sec := rfl
@[simp] theorem State.memClear_boot (s : State) (lo hi : Nat) : (s.memClear lo hi).boot = s.boot := rfl
@[simp] theorem State.memClear_kcp (s : State) (lo hi : Nat) : (s.memClear lo hi).kcp = s.kcp := rfl
@[simp] theorem State.memClear_delta (s : State) (lo hi : Nat) : (s.memClear lo hi).delta = s.delta := rfl
@[simp] theorem State.memClear_render (s : State) (lo hi : Nat) : (s.memClear lo hi).render = s.render := rfl
@[simp] theorem State.memClear_integ (s : State) (lo hi : Nat) : (s.memClear lo hi).integ = s.integ := rfl
@[simp] theorem State.memClear_pair (s : State) (lo hi : Nat) : (s.memClear lo hi).pair = s.pair := rfl
@[simp] theorem State.memClear_time (s : State) (lo hi : Nat) : (s.memClear lo hi).time = s.time := rfl
@[simp] theorem State.memClear_loupe (s : State) (lo hi : Nat) : (s.memClear lo hi).loupe = s.loupe := rfl
@[simp] theorem State.memClear_facets (s : State) (lo hi : Nat) : (s.memClear lo hi).facets = s.facets := rfl
@[simp] theorem State.memClear_dma (s : State) (lo hi : Nat) : (s.memClear lo hi).dma = s.dma := rfl
@[simp] theorem State.memClear_net (s : State) (lo hi : Nat) : (s.memClear lo hi).net = s.net := rfl
@[simp] theorem State.memClear_ports (s : State) (lo hi : Nat) : (s.memClear lo hi).ports = s.ports := rfl

/-! #### setCore -/

@[simp] theorem State.setCore_pending (s : State) (k : Nat) (c : FacetCore) : (s.setCore k c).pending = s.pending := rfl
@[simp] theorem State.setCore_freeCtr (s : State) (k : Nat) (c : FacetCore) : (s.setCore k c).freeCtr = s.freeCtr := rfl
@[simp] theorem State.setCore_out (s : State) (k : Nat) (c : FacetCore) : (s.setCore k c).out = s.out := rfl
@[simp] theorem State.setCore_pins (s : State) (k : Nat) (c : FacetCore) : (s.setCore k c).pins = s.pins := rfl
@[simp] theorem State.setCore_regs (s : State) (k : Nat) (c : FacetCore) : (s.setCore k c).regs = s.regs := rfl
@[simp] theorem State.setCore_cnts (s : State) (k : Nat) (c : FacetCore) : (s.setCore k c).cnts = s.cnts := rfl
@[simp] theorem State.setCore_power (s : State) (k : Nat) (c : FacetCore) : (s.setCore k c).power = s.power := rfl
@[simp] theorem State.setCore_sec (s : State) (k : Nat) (c : FacetCore) : (s.setCore k c).sec = s.sec := rfl
@[simp] theorem State.setCore_boot (s : State) (k : Nat) (c : FacetCore) : (s.setCore k c).boot = s.boot := rfl
@[simp] theorem State.setCore_kcp (s : State) (k : Nat) (c : FacetCore) : (s.setCore k c).kcp = s.kcp := rfl
@[simp] theorem State.setCore_delta (s : State) (k : Nat) (c : FacetCore) : (s.setCore k c).delta = s.delta := rfl
@[simp] theorem State.setCore_render (s : State) (k : Nat) (c : FacetCore) : (s.setCore k c).render = s.render := rfl
@[simp] theorem State.setCore_integ (s : State) (k : Nat) (c : FacetCore) : (s.setCore k c).integ = s.integ := rfl
@[simp] theorem State.setCore_pair (s : State) (k : Nat) (c : FacetCore) : (s.setCore k c).pair = s.pair := rfl
@[simp] theorem State.setCore_time (s : State) (k : Nat) (c : FacetCore) : (s.setCore k c).time = s.time := rfl
@[simp] theorem State.setCore_loupe (s : State) (k : Nat) (c : FacetCore) : (s.setCore k c).loupe = s.loupe := rfl
@[simp] theorem State.setCore_mem (s : State) (k : Nat) (c : FacetCore) : (s.setCore k c).mem = s.mem := rfl
@[simp] theorem State.setCore_dma (s : State) (k : Nat) (c : FacetCore) : (s.setCore k c).dma = s.dma := rfl
@[simp] theorem State.setCore_net (s : State) (k : Nat) (c : FacetCore) : (s.setCore k c).net = s.net := rfl
@[simp] theorem State.setCore_ports (s : State) (k : Nat) (c : FacetCore) : (s.setCore k c).ports = s.ports := rfl

/-! #### setFst -/

@[simp] theorem State.setFst_pending (s : State) (k v : Nat) : (s.setFst k v).pending = s.pending := rfl
@[simp] theorem State.setFst_freeCtr (s : State) (k v : Nat) : (s.setFst k v).freeCtr = s.freeCtr := rfl
@[simp] theorem State.setFst_out (s : State) (k v : Nat) : (s.setFst k v).out = s.out := rfl
@[simp] theorem State.setFst_pins (s : State) (k v : Nat) : (s.setFst k v).pins = s.pins := rfl
@[simp] theorem State.setFst_regs (s : State) (k v : Nat) : (s.setFst k v).regs = s.regs := rfl
@[simp] theorem State.setFst_cnts (s : State) (k v : Nat) : (s.setFst k v).cnts = s.cnts := rfl
@[simp] theorem State.setFst_power (s : State) (k v : Nat) : (s.setFst k v).power = s.power := rfl
@[simp] theorem State.setFst_sec (s : State) (k v : Nat) : (s.setFst k v).sec = s.sec := rfl
@[simp] theorem State.setFst_boot (s : State) (k v : Nat) : (s.setFst k v).boot = s.boot := rfl
@[simp] theorem State.setFst_kcp (s : State) (k v : Nat) : (s.setFst k v).kcp = s.kcp := rfl
@[simp] theorem State.setFst_delta (s : State) (k v : Nat) : (s.setFst k v).delta = s.delta := rfl
@[simp] theorem State.setFst_render (s : State) (k v : Nat) : (s.setFst k v).render = s.render := rfl
@[simp] theorem State.setFst_integ (s : State) (k v : Nat) : (s.setFst k v).integ = s.integ := rfl
@[simp] theorem State.setFst_pair (s : State) (k v : Nat) : (s.setFst k v).pair = s.pair := rfl
@[simp] theorem State.setFst_time (s : State) (k v : Nat) : (s.setFst k v).time = s.time := rfl
@[simp] theorem State.setFst_loupe (s : State) (k v : Nat) : (s.setFst k v).loupe = s.loupe := rfl
@[simp] theorem State.setFst_mem (s : State) (k v : Nat) : (s.setFst k v).mem = s.mem := rfl
@[simp] theorem State.setFst_dma (s : State) (k v : Nat) : (s.setFst k v).dma = s.dma := rfl
@[simp] theorem State.setFst_net (s : State) (k v : Nat) : (s.setFst k v).net = s.net := rfl
@[simp] theorem State.setFst_ports (s : State) (k v : Nat) : (s.setFst k v).ports = s.ports := rfl

/-! #### modLin -/

@[simp] theorem State.modLin_pending (s : State) (n : Nat) (f : LIn → LIn) : (s.modLin n f).pending = s.pending := rfl
@[simp] theorem State.modLin_freeCtr (s : State) (n : Nat) (f : LIn → LIn) : (s.modLin n f).freeCtr = s.freeCtr := rfl
@[simp] theorem State.modLin_out (s : State) (n : Nat) (f : LIn → LIn) : (s.modLin n f).out = s.out := rfl
@[simp] theorem State.modLin_pins (s : State) (n : Nat) (f : LIn → LIn) : (s.modLin n f).pins = s.pins := rfl
@[simp] theorem State.modLin_regs (s : State) (n : Nat) (f : LIn → LIn) : (s.modLin n f).regs = s.regs := rfl
@[simp] theorem State.modLin_cnts (s : State) (n : Nat) (f : LIn → LIn) : (s.modLin n f).cnts = s.cnts := rfl
@[simp] theorem State.modLin_power (s : State) (n : Nat) (f : LIn → LIn) : (s.modLin n f).power = s.power := rfl
@[simp] theorem State.modLin_sec (s : State) (n : Nat) (f : LIn → LIn) : (s.modLin n f).sec = s.sec := rfl
@[simp] theorem State.modLin_boot (s : State) (n : Nat) (f : LIn → LIn) : (s.modLin n f).boot = s.boot := rfl
@[simp] theorem State.modLin_kcp (s : State) (n : Nat) (f : LIn → LIn) : (s.modLin n f).kcp = s.kcp := rfl
@[simp] theorem State.modLin_delta (s : State) (n : Nat) (f : LIn → LIn) : (s.modLin n f).delta = s.delta := rfl
@[simp] theorem State.modLin_render (s : State) (n : Nat) (f : LIn → LIn) : (s.modLin n f).render = s.render := rfl
@[simp] theorem State.modLin_integ (s : State) (n : Nat) (f : LIn → LIn) : (s.modLin n f).integ = s.integ := rfl
@[simp] theorem State.modLin_pair (s : State) (n : Nat) (f : LIn → LIn) : (s.modLin n f).pair = s.pair := rfl
@[simp] theorem State.modLin_time (s : State) (n : Nat) (f : LIn → LIn) : (s.modLin n f).time = s.time := rfl
@[simp] theorem State.modLin_facets (s : State) (n : Nat) (f : LIn → LIn) : (s.modLin n f).facets = s.facets := rfl
@[simp] theorem State.modLin_mem (s : State) (n : Nat) (f : LIn → LIn) : (s.modLin n f).mem = s.mem := rfl
@[simp] theorem State.modLin_dma (s : State) (n : Nat) (f : LIn → LIn) : (s.modLin n f).dma = s.dma := rfl
@[simp] theorem State.modLin_net (s : State) (n : Nat) (f : LIn → LIn) : (s.modLin n f).net = s.net := rfl
@[simp] theorem State.modLin_ports (s : State) (n : Nat) (f : LIn → LIn) : (s.modLin n f).ports = s.ports := rfl

/-! #### modLf -/

@[simp] theorem State.modLf_pending (s : State) (f : Nat) (g : LFeed → LFeed) : (s.modLf f g).pending = s.pending := rfl
@[simp] theorem State.modLf_freeCtr (s : State) (f : Nat) (g : LFeed → LFeed) : (s.modLf f g).freeCtr = s.freeCtr := rfl
@[simp] theorem State.modLf_out (s : State) (f : Nat) (g : LFeed → LFeed) : (s.modLf f g).out = s.out := rfl
@[simp] theorem State.modLf_pins (s : State) (f : Nat) (g : LFeed → LFeed) : (s.modLf f g).pins = s.pins := rfl
@[simp] theorem State.modLf_regs (s : State) (f : Nat) (g : LFeed → LFeed) : (s.modLf f g).regs = s.regs := rfl
@[simp] theorem State.modLf_cnts (s : State) (f : Nat) (g : LFeed → LFeed) : (s.modLf f g).cnts = s.cnts := rfl
@[simp] theorem State.modLf_power (s : State) (f : Nat) (g : LFeed → LFeed) : (s.modLf f g).power = s.power := rfl
@[simp] theorem State.modLf_sec (s : State) (f : Nat) (g : LFeed → LFeed) : (s.modLf f g).sec = s.sec := rfl
@[simp] theorem State.modLf_boot (s : State) (f : Nat) (g : LFeed → LFeed) : (s.modLf f g).boot = s.boot := rfl
@[simp] theorem State.modLf_kcp (s : State) (f : Nat) (g : LFeed → LFeed) : (s.modLf f g).kcp = s.kcp := rfl
@[simp] theorem State.modLf_delta (s : State) (f : Nat) (g : LFeed → LFeed) : (s.modLf f g).delta = s.delta := rfl
@[simp] theorem State.modLf_render (s : State) (f : Nat) (g : LFeed → LFeed) : (s.modLf f g).render = s.render := rfl
@[simp] theorem State.modLf_integ (s : State) (f : Nat) (g : LFeed → LFeed) : (s.modLf f g).integ = s.integ := rfl
@[simp] theorem State.modLf_pair (s : State) (f : Nat) (g : LFeed → LFeed) : (s.modLf f g).pair = s.pair := rfl
@[simp] theorem State.modLf_time (s : State) (f : Nat) (g : LFeed → LFeed) : (s.modLf f g).time = s.time := rfl
@[simp] theorem State.modLf_facets (s : State) (f : Nat) (g : LFeed → LFeed) : (s.modLf f g).facets = s.facets := rfl
@[simp] theorem State.modLf_mem (s : State) (f : Nat) (g : LFeed → LFeed) : (s.modLf f g).mem = s.mem := rfl
@[simp] theorem State.modLf_dma (s : State) (f : Nat) (g : LFeed → LFeed) : (s.modLf f g).dma = s.dma := rfl
@[simp] theorem State.modLf_net (s : State) (f : Nat) (g : LFeed → LFeed) : (s.modLf f g).net = s.net := rfl
@[simp] theorem State.modLf_ports (s : State) (f : Nat) (g : LFeed → LFeed) : (s.modLf f g).ports = s.ports := rfl

/-! #### modSlot -/

@[simp] theorem State.modSlot_pending (s : State) (j : Nat) (f : Slot → Slot) : (s.modSlot j f).pending = s.pending := rfl
@[simp] theorem State.modSlot_freeCtr (s : State) (j : Nat) (f : Slot → Slot) : (s.modSlot j f).freeCtr = s.freeCtr := rfl
@[simp] theorem State.modSlot_out (s : State) (j : Nat) (f : Slot → Slot) : (s.modSlot j f).out = s.out := rfl
@[simp] theorem State.modSlot_pins (s : State) (j : Nat) (f : Slot → Slot) : (s.modSlot j f).pins = s.pins := rfl
@[simp] theorem State.modSlot_regs (s : State) (j : Nat) (f : Slot → Slot) : (s.modSlot j f).regs = s.regs := rfl
@[simp] theorem State.modSlot_cnts (s : State) (j : Nat) (f : Slot → Slot) : (s.modSlot j f).cnts = s.cnts := rfl
@[simp] theorem State.modSlot_power (s : State) (j : Nat) (f : Slot → Slot) : (s.modSlot j f).power = s.power := rfl
@[simp] theorem State.modSlot_sec (s : State) (j : Nat) (f : Slot → Slot) : (s.modSlot j f).sec = s.sec := rfl
@[simp] theorem State.modSlot_boot (s : State) (j : Nat) (f : Slot → Slot) : (s.modSlot j f).boot = s.boot := rfl
@[simp] theorem State.modSlot_kcp (s : State) (j : Nat) (f : Slot → Slot) : (s.modSlot j f).kcp = s.kcp := rfl
@[simp] theorem State.modSlot_delta (s : State) (j : Nat) (f : Slot → Slot) : (s.modSlot j f).delta = s.delta := rfl
@[simp] theorem State.modSlot_render (s : State) (j : Nat) (f : Slot → Slot) : (s.modSlot j f).render = s.render := rfl
@[simp] theorem State.modSlot_integ (s : State) (j : Nat) (f : Slot → Slot) : (s.modSlot j f).integ = s.integ := rfl
@[simp] theorem State.modSlot_pair (s : State) (j : Nat) (f : Slot → Slot) : (s.modSlot j f).pair = s.pair := rfl
@[simp] theorem State.modSlot_time (s : State) (j : Nat) (f : Slot → Slot) : (s.modSlot j f).time = s.time := rfl
@[simp] theorem State.modSlot_facets (s : State) (j : Nat) (f : Slot → Slot) : (s.modSlot j f).facets = s.facets := rfl
@[simp] theorem State.modSlot_mem (s : State) (j : Nat) (f : Slot → Slot) : (s.modSlot j f).mem = s.mem := rfl
@[simp] theorem State.modSlot_dma (s : State) (j : Nat) (f : Slot → Slot) : (s.modSlot j f).dma = s.dma := rfl
@[simp] theorem State.modSlot_net (s : State) (j : Nat) (f : Slot → Slot) : (s.modSlot j f).net = s.net := rfl
@[simp] theorem State.modSlot_ports (s : State) (j : Nat) (f : Slot → Slot) : (s.modSlot j f).ports = s.ports := rfl

/-! #### setSlot -/

@[simp] theorem State.setSlot_pending (s : State) (j : Nat) (q : Option Slot) : (s.setSlot j q).pending = s.pending := rfl
@[simp] theorem State.setSlot_freeCtr (s : State) (j : Nat) (q : Option Slot) : (s.setSlot j q).freeCtr = s.freeCtr := rfl
@[simp] theorem State.setSlot_out (s : State) (j : Nat) (q : Option Slot) : (s.setSlot j q).out = s.out := rfl
@[simp] theorem State.setSlot_pins (s : State) (j : Nat) (q : Option Slot) : (s.setSlot j q).pins = s.pins := rfl
@[simp] theorem State.setSlot_regs (s : State) (j : Nat) (q : Option Slot) : (s.setSlot j q).regs = s.regs := rfl
@[simp] theorem State.setSlot_cnts (s : State) (j : Nat) (q : Option Slot) : (s.setSlot j q).cnts = s.cnts := rfl
@[simp] theorem State.setSlot_power (s : State) (j : Nat) (q : Option Slot) : (s.setSlot j q).power = s.power := rfl
@[simp] theorem State.setSlot_sec (s : State) (j : Nat) (q : Option Slot) : (s.setSlot j q).sec = s.sec := rfl
@[simp] theorem State.setSlot_boot (s : State) (j : Nat) (q : Option Slot) : (s.setSlot j q).boot = s.boot := rfl
@[simp] theorem State.setSlot_kcp (s : State) (j : Nat) (q : Option Slot) : (s.setSlot j q).kcp = s.kcp := rfl
@[simp] theorem State.setSlot_delta (s : State) (j : Nat) (q : Option Slot) : (s.setSlot j q).delta = s.delta := rfl
@[simp] theorem State.setSlot_render (s : State) (j : Nat) (q : Option Slot) : (s.setSlot j q).render = s.render := rfl
@[simp] theorem State.setSlot_integ (s : State) (j : Nat) (q : Option Slot) : (s.setSlot j q).integ = s.integ := rfl
@[simp] theorem State.setSlot_pair (s : State) (j : Nat) (q : Option Slot) : (s.setSlot j q).pair = s.pair := rfl
@[simp] theorem State.setSlot_time (s : State) (j : Nat) (q : Option Slot) : (s.setSlot j q).time = s.time := rfl
@[simp] theorem State.setSlot_facets (s : State) (j : Nat) (q : Option Slot) : (s.setSlot j q).facets = s.facets := rfl
@[simp] theorem State.setSlot_mem (s : State) (j : Nat) (q : Option Slot) : (s.setSlot j q).mem = s.mem := rfl
@[simp] theorem State.setSlot_dma (s : State) (j : Nat) (q : Option Slot) : (s.setSlot j q).dma = s.dma := rfl
@[simp] theorem State.setSlot_net (s : State) (j : Nat) (q : Option Slot) : (s.setSlot j q).net = s.net := rfl
@[simp] theorem State.setSlot_ports (s : State) (j : Nat) (q : Option Slot) : (s.setSlot j q).ports = s.ports := rfl

/-! #### modPort -/

@[simp] theorem State.modPort_pending (s : State) (p : Nat) (f : Port → Port) : (s.modPort p f).pending = s.pending := rfl
@[simp] theorem State.modPort_freeCtr (s : State) (p : Nat) (f : Port → Port) : (s.modPort p f).freeCtr = s.freeCtr := rfl
@[simp] theorem State.modPort_out (s : State) (p : Nat) (f : Port → Port) : (s.modPort p f).out = s.out := rfl
@[simp] theorem State.modPort_pins (s : State) (p : Nat) (f : Port → Port) : (s.modPort p f).pins = s.pins := rfl
@[simp] theorem State.modPort_regs (s : State) (p : Nat) (f : Port → Port) : (s.modPort p f).regs = s.regs := rfl
@[simp] theorem State.modPort_cnts (s : State) (p : Nat) (f : Port → Port) : (s.modPort p f).cnts = s.cnts := rfl
@[simp] theorem State.modPort_power (s : State) (p : Nat) (f : Port → Port) : (s.modPort p f).power = s.power := rfl
@[simp] theorem State.modPort_sec (s : State) (p : Nat) (f : Port → Port) : (s.modPort p f).sec = s.sec := rfl
@[simp] theorem State.modPort_boot (s : State) (p : Nat) (f : Port → Port) : (s.modPort p f).boot = s.boot := rfl
@[simp] theorem State.modPort_kcp (s : State) (p : Nat) (f : Port → Port) : (s.modPort p f).kcp = s.kcp := rfl
@[simp] theorem State.modPort_delta (s : State) (p : Nat) (f : Port → Port) : (s.modPort p f).delta = s.delta := rfl
@[simp] theorem State.modPort_render (s : State) (p : Nat) (f : Port → Port) : (s.modPort p f).render = s.render := rfl
@[simp] theorem State.modPort_integ (s : State) (p : Nat) (f : Port → Port) : (s.modPort p f).integ = s.integ := rfl
@[simp] theorem State.modPort_pair (s : State) (p : Nat) (f : Port → Port) : (s.modPort p f).pair = s.pair := rfl
@[simp] theorem State.modPort_time (s : State) (p : Nat) (f : Port → Port) : (s.modPort p f).time = s.time := rfl
@[simp] theorem State.modPort_loupe (s : State) (p : Nat) (f : Port → Port) : (s.modPort p f).loupe = s.loupe := rfl
@[simp] theorem State.modPort_facets (s : State) (p : Nat) (f : Port → Port) : (s.modPort p f).facets = s.facets := rfl
@[simp] theorem State.modPort_mem (s : State) (p : Nat) (f : Port → Port) : (s.modPort p f).mem = s.mem := rfl
@[simp] theorem State.modPort_dma (s : State) (p : Nat) (f : Port → Port) : (s.modPort p f).dma = s.dma := rfl
@[simp] theorem State.modPort_net (s : State) (p : Nat) (f : Port → Port) : (s.modPort p f).net = s.net := rfl

/-! #### modNp -/

@[simp] theorem State.modNp_pending (s : State) (k : Nat) (f : NetPort → NetPort) : (s.modNp k f).pending = s.pending := rfl
@[simp] theorem State.modNp_freeCtr (s : State) (k : Nat) (f : NetPort → NetPort) : (s.modNp k f).freeCtr = s.freeCtr := rfl
@[simp] theorem State.modNp_out (s : State) (k : Nat) (f : NetPort → NetPort) : (s.modNp k f).out = s.out := rfl
@[simp] theorem State.modNp_pins (s : State) (k : Nat) (f : NetPort → NetPort) : (s.modNp k f).pins = s.pins := rfl
@[simp] theorem State.modNp_regs (s : State) (k : Nat) (f : NetPort → NetPort) : (s.modNp k f).regs = s.regs := rfl
@[simp] theorem State.modNp_cnts (s : State) (k : Nat) (f : NetPort → NetPort) : (s.modNp k f).cnts = s.cnts := rfl
@[simp] theorem State.modNp_power (s : State) (k : Nat) (f : NetPort → NetPort) : (s.modNp k f).power = s.power := rfl
@[simp] theorem State.modNp_sec (s : State) (k : Nat) (f : NetPort → NetPort) : (s.modNp k f).sec = s.sec := rfl
@[simp] theorem State.modNp_boot (s : State) (k : Nat) (f : NetPort → NetPort) : (s.modNp k f).boot = s.boot := rfl
@[simp] theorem State.modNp_kcp (s : State) (k : Nat) (f : NetPort → NetPort) : (s.modNp k f).kcp = s.kcp := rfl
@[simp] theorem State.modNp_delta (s : State) (k : Nat) (f : NetPort → NetPort) : (s.modNp k f).delta = s.delta := rfl
@[simp] theorem State.modNp_render (s : State) (k : Nat) (f : NetPort → NetPort) : (s.modNp k f).render = s.render := rfl
@[simp] theorem State.modNp_integ (s : State) (k : Nat) (f : NetPort → NetPort) : (s.modNp k f).integ = s.integ := rfl
@[simp] theorem State.modNp_pair (s : State) (k : Nat) (f : NetPort → NetPort) : (s.modNp k f).pair = s.pair := rfl
@[simp] theorem State.modNp_time (s : State) (k : Nat) (f : NetPort → NetPort) : (s.modNp k f).time = s.time := rfl
@[simp] theorem State.modNp_loupe (s : State) (k : Nat) (f : NetPort → NetPort) : (s.modNp k f).loupe = s.loupe := rfl
@[simp] theorem State.modNp_facets (s : State) (k : Nat) (f : NetPort → NetPort) : (s.modNp k f).facets = s.facets := rfl
@[simp] theorem State.modNp_mem (s : State) (k : Nat) (f : NetPort → NetPort) : (s.modNp k f).mem = s.mem := rfl
@[simp] theorem State.modNp_dma (s : State) (k : Nat) (f : NetPort → NetPort) : (s.modNp k f).dma = s.dma := rfl
@[simp] theorem State.modNp_ports (s : State) (k : Nat) (f : NetPort → NetPort) : (s.modNp k f).ports = s.ports := rfl

/-! #### modFlowRt -/

@[simp] theorem State.modFlowRt_pending (s : State) (f : Nat) (g : FlowRt → FlowRt) : (s.modFlowRt f g).pending = s.pending := rfl
@[simp] theorem State.modFlowRt_freeCtr (s : State) (f : Nat) (g : FlowRt → FlowRt) : (s.modFlowRt f g).freeCtr = s.freeCtr := rfl
@[simp] theorem State.modFlowRt_out (s : State) (f : Nat) (g : FlowRt → FlowRt) : (s.modFlowRt f g).out = s.out := rfl
@[simp] theorem State.modFlowRt_pins (s : State) (f : Nat) (g : FlowRt → FlowRt) : (s.modFlowRt f g).pins = s.pins := rfl
@[simp] theorem State.modFlowRt_regs (s : State) (f : Nat) (g : FlowRt → FlowRt) : (s.modFlowRt f g).regs = s.regs := rfl
@[simp] theorem State.modFlowRt_cnts (s : State) (f : Nat) (g : FlowRt → FlowRt) : (s.modFlowRt f g).cnts = s.cnts := rfl
@[simp] theorem State.modFlowRt_power (s : State) (f : Nat) (g : FlowRt → FlowRt) : (s.modFlowRt f g).power = s.power := rfl
@[simp] theorem State.modFlowRt_sec (s : State) (f : Nat) (g : FlowRt → FlowRt) : (s.modFlowRt f g).sec = s.sec := rfl
@[simp] theorem State.modFlowRt_boot (s : State) (f : Nat) (g : FlowRt → FlowRt) : (s.modFlowRt f g).boot = s.boot := rfl
@[simp] theorem State.modFlowRt_kcp (s : State) (f : Nat) (g : FlowRt → FlowRt) : (s.modFlowRt f g).kcp = s.kcp := rfl
@[simp] theorem State.modFlowRt_delta (s : State) (f : Nat) (g : FlowRt → FlowRt) : (s.modFlowRt f g).delta = s.delta := rfl
@[simp] theorem State.modFlowRt_render (s : State) (f : Nat) (g : FlowRt → FlowRt) : (s.modFlowRt f g).render = s.render := rfl
@[simp] theorem State.modFlowRt_integ (s : State) (f : Nat) (g : FlowRt → FlowRt) : (s.modFlowRt f g).integ = s.integ := rfl
@[simp] theorem State.modFlowRt_pair (s : State) (f : Nat) (g : FlowRt → FlowRt) : (s.modFlowRt f g).pair = s.pair := rfl
@[simp] theorem State.modFlowRt_time (s : State) (f : Nat) (g : FlowRt → FlowRt) : (s.modFlowRt f g).time = s.time := rfl
@[simp] theorem State.modFlowRt_loupe (s : State) (f : Nat) (g : FlowRt → FlowRt) : (s.modFlowRt f g).loupe = s.loupe := rfl
@[simp] theorem State.modFlowRt_facets (s : State) (f : Nat) (g : FlowRt → FlowRt) : (s.modFlowRt f g).facets = s.facets := rfl
@[simp] theorem State.modFlowRt_mem (s : State) (f : Nat) (g : FlowRt → FlowRt) : (s.modFlowRt f g).mem = s.mem := rfl
@[simp] theorem State.modFlowRt_dma (s : State) (f : Nat) (g : FlowRt → FlowRt) : (s.modFlowRt f g).dma = s.dma := rfl
@[simp] theorem State.modFlowRt_ports (s : State) (f : Nat) (g : FlowRt → FlowRt) : (s.modFlowRt f g).ports = s.ports := rfl

/-! #### modCh -/

@[simp] theorem State.modCh_pending (s : State) (c : Nat) (f : DmaCh → DmaCh) : (s.modCh c f).pending = s.pending := rfl
@[simp] theorem State.modCh_freeCtr (s : State) (c : Nat) (f : DmaCh → DmaCh) : (s.modCh c f).freeCtr = s.freeCtr := rfl
@[simp] theorem State.modCh_out (s : State) (c : Nat) (f : DmaCh → DmaCh) : (s.modCh c f).out = s.out := rfl
@[simp] theorem State.modCh_pins (s : State) (c : Nat) (f : DmaCh → DmaCh) : (s.modCh c f).pins = s.pins := rfl
@[simp] theorem State.modCh_regs (s : State) (c : Nat) (f : DmaCh → DmaCh) : (s.modCh c f).regs = s.regs := rfl
@[simp] theorem State.modCh_cnts (s : State) (c : Nat) (f : DmaCh → DmaCh) : (s.modCh c f).cnts = s.cnts := rfl
@[simp] theorem State.modCh_power (s : State) (c : Nat) (f : DmaCh → DmaCh) : (s.modCh c f).power = s.power := rfl
@[simp] theorem State.modCh_sec (s : State) (c : Nat) (f : DmaCh → DmaCh) : (s.modCh c f).sec = s.sec := rfl
@[simp] theorem State.modCh_boot (s : State) (c : Nat) (f : DmaCh → DmaCh) : (s.modCh c f).boot = s.boot := rfl
@[simp] theorem State.modCh_kcp (s : State) (c : Nat) (f : DmaCh → DmaCh) : (s.modCh c f).kcp = s.kcp := rfl
@[simp] theorem State.modCh_delta (s : State) (c : Nat) (f : DmaCh → DmaCh) : (s.modCh c f).delta = s.delta := rfl
@[simp] theorem State.modCh_render (s : State) (c : Nat) (f : DmaCh → DmaCh) : (s.modCh c f).render = s.render := rfl
@[simp] theorem State.modCh_integ (s : State) (c : Nat) (f : DmaCh → DmaCh) : (s.modCh c f).integ = s.integ := rfl
@[simp] theorem State.modCh_pair (s : State) (c : Nat) (f : DmaCh → DmaCh) : (s.modCh c f).pair = s.pair := rfl
@[simp] theorem State.modCh_time (s : State) (c : Nat) (f : DmaCh → DmaCh) : (s.modCh c f).time = s.time := rfl
@[simp] theorem State.modCh_loupe (s : State) (c : Nat) (f : DmaCh → DmaCh) : (s.modCh c f).loupe = s.loupe := rfl
@[simp] theorem State.modCh_facets (s : State) (c : Nat) (f : DmaCh → DmaCh) : (s.modCh c f).facets = s.facets := rfl
@[simp] theorem State.modCh_mem (s : State) (c : Nat) (f : DmaCh → DmaCh) : (s.modCh c f).mem = s.mem := rfl
@[simp] theorem State.modCh_net (s : State) (c : Nat) (f : DmaCh → DmaCh) : (s.modCh c f).net = s.net := rfl
@[simp] theorem State.modCh_ports (s : State) (c : Nat) (f : DmaCh → DmaCh) : (s.modCh c f).ports = s.ports := rfl

/-! #### setDom -/

@[simp] theorem State.setDom_pending (s : State) (d c : Nat) : (s.setDom d c).pending = s.pending := rfl
@[simp] theorem State.setDom_freeCtr (s : State) (d c : Nat) : (s.setDom d c).freeCtr = s.freeCtr := rfl
@[simp] theorem State.setDom_out (s : State) (d c : Nat) : (s.setDom d c).out = s.out := rfl
@[simp] theorem State.setDom_pins (s : State) (d c : Nat) : (s.setDom d c).pins = s.pins := rfl
@[simp] theorem State.setDom_regs (s : State) (d c : Nat) : (s.setDom d c).regs = s.regs := rfl
@[simp] theorem State.setDom_cnts (s : State) (d c : Nat) : (s.setDom d c).cnts = s.cnts := rfl
@[simp] theorem State.setDom_sec (s : State) (d c : Nat) : (s.setDom d c).sec = s.sec := rfl
@[simp] theorem State.setDom_boot (s : State) (d c : Nat) : (s.setDom d c).boot = s.boot := rfl
@[simp] theorem State.setDom_kcp (s : State) (d c : Nat) : (s.setDom d c).kcp = s.kcp := rfl
@[simp] theorem State.setDom_delta (s : State) (d c : Nat) : (s.setDom d c).delta = s.delta := rfl
@[simp] theorem State.setDom_render (s : State) (d c : Nat) : (s.setDom d c).render = s.render := rfl
@[simp] theorem State.setDom_integ (s : State) (d c : Nat) : (s.setDom d c).integ = s.integ := rfl
@[simp] theorem State.setDom_pair (s : State) (d c : Nat) : (s.setDom d c).pair = s.pair := rfl
@[simp] theorem State.setDom_time (s : State) (d c : Nat) : (s.setDom d c).time = s.time := rfl
@[simp] theorem State.setDom_loupe (s : State) (d c : Nat) : (s.setDom d c).loupe = s.loupe := rfl
@[simp] theorem State.setDom_facets (s : State) (d c : Nat) : (s.setDom d c).facets = s.facets := rfl
@[simp] theorem State.setDom_mem (s : State) (d c : Nat) : (s.setDom d c).mem = s.mem := rfl
@[simp] theorem State.setDom_dma (s : State) (d c : Nat) : (s.setDom d c).dma = s.dma := rfl
@[simp] theorem State.setDom_net (s : State) (d c : Nat) : (s.setDom d c).net = s.net := rfl
@[simp] theorem State.setDom_ports (s : State) (d c : Nat) : (s.setDom d c).ports = s.ports := rfl

/-! #### bezel -/

@[simp] theorem State.bezel_pending (s : State) (b : Bezel) : (s.bezel b).pending = s.pending := rfl
@[simp] theorem State.bezel_freeCtr (s : State) (b : Bezel) : (s.bezel b).freeCtr = s.freeCtr := rfl
@[simp] theorem State.bezel_pins (s : State) (b : Bezel) : (s.bezel b).pins = s.pins := rfl
@[simp] theorem State.bezel_regs (s : State) (b : Bezel) : (s.bezel b).regs = s.regs := rfl
@[simp] theorem State.bezel_cnts (s : State) (b : Bezel) : (s.bezel b).cnts = s.cnts := rfl
@[simp] theorem State.bezel_power (s : State) (b : Bezel) : (s.bezel b).power = s.power := rfl
@[simp] theorem State.bezel_sec (s : State) (b : Bezel) : (s.bezel b).sec = s.sec := rfl
@[simp] theorem State.bezel_boot (s : State) (b : Bezel) : (s.bezel b).boot = s.boot := rfl
@[simp] theorem State.bezel_kcp (s : State) (b : Bezel) : (s.bezel b).kcp = s.kcp := rfl
@[simp] theorem State.bezel_delta (s : State) (b : Bezel) : (s.bezel b).delta = s.delta := rfl
@[simp] theorem State.bezel_render (s : State) (b : Bezel) : (s.bezel b).render = s.render := rfl
@[simp] theorem State.bezel_integ (s : State) (b : Bezel) : (s.bezel b).integ = s.integ := rfl
@[simp] theorem State.bezel_pair (s : State) (b : Bezel) : (s.bezel b).pair = s.pair := rfl
@[simp] theorem State.bezel_time (s : State) (b : Bezel) : (s.bezel b).time = s.time := rfl
@[simp] theorem State.bezel_loupe (s : State) (b : Bezel) : (s.bezel b).loupe = s.loupe := rfl
@[simp] theorem State.bezel_facets (s : State) (b : Bezel) : (s.bezel b).facets = s.facets := rfl
@[simp] theorem State.bezel_mem (s : State) (b : Bezel) : (s.bezel b).mem = s.mem := rfl
@[simp] theorem State.bezel_dma (s : State) (b : Bezel) : (s.bezel b).dma = s.dma := rfl
@[simp] theorem State.bezel_net (s : State) (b : Bezel) : (s.bezel b).net = s.net := rfl
@[simp] theorem State.bezel_ports (s : State) (b : Bezel) : (s.bezel b).ports = s.ports := rfl

/-! ### What changes -/

@[simp] theorem State.emit_out (s : State) (o : OutMsg) : (s.emit o).out = o :: s.out := rfl
@[simp] theorem State.bezel_out (s : State) (b : Bezel) : (s.bezel b).out = .bezel b :: s.out := rfl
@[simp] theorem State.enter_entries (s : State) (e : Entry) : (s.enter e).delta.entries = s.delta.entries ++ [e] := rfl
@[simp] theorem State.setReg_reg_self (s : State) (a : Nat) (w : Word) : (s.setReg a w).reg a = w := s.reg_setReg_self a w
@[simp] theorem State.memWrite_bytes (s : State) (a : Nat) (bs : List Byte) : (s.memWrite a bs).mem.bytes = cellsSet s.mem.bytes a bs := rfl
@[simp] theorem State.core_setCore_self (s : State) (k : Nat) (c : FacetCore) : (s.setCore k c).core k = c := mget_mset_self ..
theorem State.core_setCore_ne (s : State) {j k : Nat} (c : FacetCore) (h : j ≠ k) : (s.setCore k c).core j = s.core j :=
  mget_mset_ne _ _ _ h
@[simp] theorem State.objRt_modObjRt_self (s : State) (k : Nat) (f : ObjRt → ObjRt) : (s.modObjRt k f).objRt k = f (s.objRt k) := mget_mmod_self ..
theorem State.objRt_modObjRt_ne (s : State) {j k : Nat} (f : ObjRt → ObjRt) (h : j ≠ k) : (s.modObjRt k f).objRt j = s.objRt j := mget_mmod_ne _ _ _ h
@[simp] theorem State.feedRt_modFeedRt_self (s : State) (k : Nat) (f : FeedRt → FeedRt) : (s.modFeedRt k f).feedRt k = f (s.feedRt k) := mget_mmod_self ..
theorem State.feedRt_modFeedRt_ne (s : State) {j k : Nat} (f : FeedRt → FeedRt) (h : j ≠ k) : (s.modFeedRt k f).feedRt j = s.feedRt j := mget_mmod_ne _ _ _ h
@[simp] theorem State.zoneRt_modZoneRt_self (s : State) (k : Nat) (f : ZoneRt → ZoneRt) : (s.modZoneRt k f).zoneRt k = f (s.zoneRt k) := mget_mmod_self ..
theorem State.zoneRt_modZoneRt_ne (s : State) {j k : Nat} (f : ZoneRt → ZoneRt) (h : j ≠ k) : (s.modZoneRt k f).zoneRt j = s.zoneRt j := mget_mmod_ne _ _ _ h
@[simp] theorem State.flowRt_modFlowRt_self (s : State) (k : Nat) (f : FlowRt → FlowRt) : (s.modFlowRt k f).flowRt k = f (s.flowRt k) := mget_mmod_self ..
theorem State.flowRt_modFlowRt_ne (s : State) {j k : Nat} (f : FlowRt → FlowRt) (h : j ≠ k) : (s.modFlowRt k f).flowRt j = s.flowRt j := mget_mmod_ne _ _ _ h
@[simp] theorem State.lf_modLf_self (s : State) (k : Nat) (f : LFeed → LFeed) : (s.modLf k f).lf k = f (s.lf k) := mget_mmod_self ..
theorem State.lf_modLf_ne (s : State) {j k : Nat} (f : LFeed → LFeed) (h : j ≠ k) : (s.modLf k f).lf j = s.lf j := mget_mmod_ne _ _ _ h
theorem State.ring_setRing_self (s : State) (k : Nat) (f : Ring → Ring) (h : k < s.kcp.rings.length) : (s.setRing k f).ring k = f (s.ring k) :=
  nth_modify_self _ _ _ _ h
theorem State.ring_setRing_ne (s : State) {j k : Nat} (f : Ring → Ring) (h : j ≠ k) : (s.setRing k f).ring j = s.ring j := nth_modify_ne _ _ _ h
theorem State.np_modNp_self (s : State) (k : Nat) (f : NetPort → NetPort) (h : k < s.net.port.length) : (s.modNp k f).np k = f (s.np k) :=
  nth_modify_self _ _ _ _ h
theorem State.np_modNp_ne (s : State) {j k : Nat} (f : NetPort → NetPort) (h : j ≠ k) : (s.modNp k f).np j = s.np j := nth_modify_ne _ _ _ h
theorem State.ch_modCh_self (s : State) (k : Nat) (f : DmaCh → DmaCh) (h : k < s.dma.ch.length) : (s.modCh k f).ch k = f (s.ch k) :=
  nth_modify_self _ _ _ _ h
theorem State.ch_modCh_ne (s : State) {j k : Nat} (f : DmaCh → DmaCh) (h : j ≠ k) : (s.modCh k f).ch j = s.ch j := nth_modify_ne _ _ _ h
theorem State.ref_modRef_self (s : State) (k : Nat) (f : Ref → Ref) (h : k < s.time.refs.length) : (s.modRef k f).ref k = f (s.ref k) :=
  nth_modify_self _ _ _ _ h
theorem State.ref_modRef_ne (s : State) {j k : Nat} (f : Ref → Ref) (h : j ≠ k) : (s.modRef k f).ref j = s.ref j := nth_modify_ne _ _ _ h
theorem State.lin_modLin_self (s : State) (k : Nat) (f : LIn → LIn) (h : k < s.loupe.ins.length) : (s.modLin k f).lin k = f (s.lin k) :=
  nth_modify_self _ _ _ _ h
theorem State.lin_modLin_ne (s : State) {j k : Nat} (f : LIn → LIn) (h : j ≠ k) : (s.modLin k f).lin j = s.lin j := nth_modify_ne _ _ _ h
theorem State.port_modPort_self (s : State) (k : Nat) (f : Port → Port) (h : k < s.ports.port.length) : (s.modPort k f).port k = f (s.port k) :=
  nth_modify_self _ _ _ _ h
theorem State.port_modPort_ne (s : State) {j k : Nat} (f : Port → Port) (h : j ≠ k) : (s.modPort k f).port j = s.port j := nth_modify_ne _ _ _ h

end Sys2Proof.Machine
end

