-- ==== Sys2Proof/Laws/Ops.lean ====
section
/-! SUPPORT. Laws of the shared operations: replies, events, records and counts go outward and leave everything else alone. -/

set_option linter.unusedTactic false
set_option linter.unreachableTactic false

namespace Sys2Proof.Machine

/-- Only what carries signals outward differs: registers, counters, the protocol's state, the delta in hand, the log, the pair and
what waits or leaves at the network ports. -/
def Signals (s t : State) : Prop :=
  t = { s with regs := t.regs, cnts := t.cnts, out := t.out, kcp := t.kcp, delta := t.delta, integ := t.integ, pair := t.pair,
               net := { s.net with port := t.net.port } }

theorem Signals.refl (s : State) : Signals s s := rfl

theorem Signals.trans {s t u : State} (h : Signals s t) (k : Signals t u) : Signals s u := by
  unfold Signals at *
  exact k.trans (by rw [h])

theorem Signals.mk' {s0 s : State} {out regs cnts kcp delta integ pair} (h : Signals s0 s) :
    Signals s0 (State.mk s.pending s.freeCtr out s.pins regs cnts s.power s.sec s.boot kcp delta s.render integ pair s.time s.loupe
      s.facets s.mem s.dma s.net s.ports) := h.trans rfl

theorem Signals.ite {s0 a b : State} {c : Prop} [Decidable c] (ha : Signals s0 a) (hb : Signals s0 b) :
    Signals s0 (if c then a else b) := by split <;> assumption

theorem Signals.foldl {β : Type} {s0 s : State} {f : State → β → State} {l : List β}
    (h : Signals s0 s) (hf : ∀ t b, Signals s0 t → Signals s0 (f t b)) : Signals s0 (l.foldl f s) := by
  induction l generalizing s with
  | nil => exact h
  | cons a l ih => exact ih (hf _ _ h)

/-! ### Each operation -/

theorem State.setReg_signals {s0 s : State} (h : Signals s0 s) (a : Nat) (w : Word) : Signals s0 (State.setReg s a w) := by
  unfold State.setReg
  try dsimp only
  with_reducible repeat' first
    | assumption | apply Signals.ite | split | dsimp only | refine Signals.mk' ?_

theorem State.raise_signals {s0 s : State} (h : Signals s0 s) (a : Nat) (m : Word) : Signals s0 (State.raise s a m) := by
  unfold State.raise
  try dsimp only
  with_reducible repeat' first
    | assumption | apply State.setReg_signals | apply Signals.ite | split | dsimp only | refine Signals.mk' ?_

theorem State.lower_signals {s0 s : State} (h : Signals s0 s) (a : Nat) (m : Word) : Signals s0 (State.lower s a m) := by
  unfold State.lower
  try dsimp only
  with_reducible repeat' first
    | assumption | apply State.setReg_signals | apply Signals.ite | split | dsimp only | refine Signals.mk' ?_

theorem State.count_signals {s0 s : State} (h : Signals s0 s) (k : Nat) (n : Nat) : Signals s0 (State.count s k n) := by
  unfold State.count
  try dsimp only
  with_reducible repeat' first
    | assumption | apply Signals.ite | split | dsimp only | refine Signals.mk' ?_

theorem State.emit_signals {s0 s : State} (h : Signals s0 s) (o : OutMsg) : Signals s0 (State.emit s o) := by
  unfold State.emit
  try dsimp only
  with_reducible repeat' first
    | assumption | apply Signals.ite | split | dsimp only | refine Signals.mk' ?_

theorem State.bezel_signals {s0 s : State} (h : Signals s0 s) (b : Bezel) : Signals s0 (State.bezel s b) := by
  unfold State.bezel
  try dsimp only
  with_reducible repeat' first
    | assumption | apply State.emit_signals | apply Signals.ite | split | dsimp only | refine Signals.mk' ?_

theorem State.msix_signals {s0 s : State} (h : Signals s0 s) (v : Nat) : Signals s0 (State.msix s v) := by
  unfold State.msix
  try dsimp only
  with_reducible repeat' first
    | assumption | apply State.raise_signals | apply State.emit_signals | apply Signals.ite | split | dsimp only
    | refine Signals.mk' ?_

theorem State.setSess_signals {s0 s : State} (h : Signals s0 s) (x : Nat) (f : Session → Session) : Signals s0 (State.setSess s x f) := by
  unfold State.setSess
  try dsimp only
  with_reducible repeat' first
    | assumption | apply Signals.ite | split | dsimp only | refine Signals.mk' ?_

theorem State.setRing_signals {s0 s : State} (h : Signals s0 s) (k : Nat) (f : Ring → Ring) : Signals s0 (State.setRing s k f) := by
  unfold State.setRing
  try dsimp only
  with_reducible repeat' first
    | assumption | apply Signals.ite | split | dsimp only | refine Signals.mk' ?_

theorem fillOne_signals {s0 s : State} (h : Signals s0 s) (k : Nat) (isFirst isLast isEvent : Bool) (addr : Nat) (bs : List Byte) : Signals s0 (fillOne k isFirst isLast isEvent addr bs s) := by
  unfold fillOne
  try dsimp only
  with_reducible repeat' first
    | assumption | apply State.setReg_signals | apply State.emit_signals | apply State.msix_signals
    | apply State.setRing_signals | apply Signals.ite | split | dsimp only | refine Signals.mk' ?_

theorem fillAll_signals {s0 : State} (k : Nat) (ev : Bool) (l : List (Nat × List Byte)) : ∀ (first : Bool) (s : State),
    Signals s0 s → Signals s0 (fillAll k ev first l s) := by
  induction l with
  | nil => intro _ _ h; exact h
  | cons a t ih => intro _ _ h; exact ih _ _ (fillOne_signals h _ _ _ _ _ _)

theorem flushRing_signals {s0 : State} (k n : Nat) : ∀ s : State, Signals s0 s → Signals s0 (flushRing k n s) := by
  induction n with
  | zero => intro _ h; exact h
  | succ n ih =>
    intro s h
    unfold flushRing
    with_reducible repeat' first | assumption | split | apply ih | apply fillAll_signals | apply State.setRing_signals | dsimp only

theorem State.modNp_signals {s0 s : State} (h : Signals s0 s) (k : Nat) (f : NetPort → NetPort) : Signals s0 (State.modNp s k f) :=
  h.trans rfl

theorem State.sendOwn_signals {s0 s : State} (h : Signals s0 s) (k : Nat) (f : OwnFrame) : Signals s0 (State.sendOwn s k f) :=
  State.count_signals (State.emit_signals h _) _ _

theorem State.place_signals {s0 s : State} (h : Signals s0 s) (k r : Nat) (f : OwnFrame) : Signals s0 (State.place s k r f) :=
  Signals.ite h (Signals.ite (State.modNp_signals h _ _) (State.sendOwn_signals h _ _))

theorem State.deliver_signals {s0 s : State} (h : Signals s0 s) (p : OutPkt) : Signals s0 (State.deliver s p) := by
  unfold State.deliver
  split
  · exact State.place_signals h _ _ _
  · exact Signals.mk' h
  · exact flushRing_signals _ _ _ (State.setRing_signals h _ _)

theorem sendEvent_signals {s0 s : State} (h : Signals s0 s) (code txn : Nat) (payload : List Byte) (x : Nat) : Signals s0 (sendEvent code txn payload x s) := by
  unfold sendEvent
  try dsimp only
  with_reducible repeat' first
    | assumption | apply State.setSess_signals | apply State.deliver_signals | apply Signals.ite | split | dsimp only
    | refine Signals.mk' ?_

theorem State.eventTxn_signals {s0 s : State} (h : Signals s0 s) (code txn : Nat) (payload : List Byte) : Signals s0 (State.eventTxn s code txn payload) := by
  unfold State.eventTxn
  try dsimp only
  with_reducible repeat' first
    | assumption | intro _ | apply sendEvent_signals | apply Signals.foldl | apply Signals.ite | split | dsimp only
    | refine Signals.mk' ?_

theorem State.eventAny_signals {s0 s : State} (h : Signals s0 s) (code : Nat) (payload : List Byte) : Signals s0 (State.eventAny s code payload) := by
  unfold State.eventAny
  try dsimp only
  with_reducible repeat' first
    | assumption | intro _ | apply sendEvent_signals | apply Signals.foldl | apply Signals.ite | split | dsimp only
    | refine Signals.mk' ?_

theorem State.event_signals {s0 s : State} (h : Signals s0 s) (code : Nat) (payload : List Byte) : Signals s0 (State.event s code payload) := by
  unfold State.event
  try dsimp only
  with_reducible repeat' first
    | assumption | apply State.eventAny_signals | apply Signals.ite | split | dsimp only | refine Signals.mk' ?_

theorem State.devIrq_signals {s0 s : State} (h : Signals s0 s)  : Signals s0 (State.devIrq s) := by
  unfold State.devIrq
  try dsimp only
  with_reducible repeat' first
    | assumption | apply State.msix_signals | apply Signals.ite | split | dsimp only | refine Signals.mk' ?_

theorem State.peerState_signals {s0 s : State} (h : Signals s0 s)  : Signals s0 (State.peerState s) := by
  unfold State.peerState
  try dsimp only
  with_reducible repeat' first
    | assumption | apply State.event_signals | apply Signals.ite | split | dsimp only | refine Signals.mk' ?_

theorem State.toCold_signals {s0 s : State} (h : Signals s0 s)  : Signals s0 (State.toCold s) := by
  unfold State.toCold
  try dsimp only
  with_reducible repeat' first
    | assumption | apply Signals.ite | split | dsimp only | refine Signals.mk' ?_

theorem State.loseStep_signals {s0 s : State} (h : Signals s0 s)  : Signals s0 (State.loseStep s) := by
  unfold State.loseStep
  try dsimp only
  with_reducible repeat' first
    | assumption | apply State.raise_signals | apply State.count_signals | apply State.toCold_signals | apply Signals.ite
    | split | dsimp only | refine Signals.mk' ?_

theorem State.cutMedia_signals {s0 s : State} (h : Signals s0 s) : Signals s0 (State.cutMedia s) := by
  unfold State.cutMedia
  refine Signals.foldl h fun t k ht => ?_
  split
  · exact State.modNp_signals (Signals.ite (State.emit_signals ht _) ht) _ _
  · exact ht

theorem State.releaseIlk_signals {s0 s : State} (h : Signals s0 s) (synced : Bool) : Signals s0 (State.releaseIlk s synced) :=
  Signals.mk' (Signals.ite (State.cutMedia_signals h) h)

theorem State.writeRecord_signals {s0 s : State} (h : Signals s0 s) (r : Incl) : Signals s0 (State.writeRecord s r) := by
  unfold State.writeRecord
  try dsimp only
  with_reducible repeat' first
    | assumption | apply State.setReg_signals | apply State.raise_signals | apply State.count_signals | apply Signals.ite
    | split | dsimp only | refine Signals.mk' ?_

theorem State.devFault_signals {s0 s : State} (h : Signals s0 s) (cls : Nat) : Signals s0 (State.devFault s cls) := by
  unfold State.devFault
  try dsimp only
  with_reducible repeat' first
    | assumption | apply State.raise_signals | apply State.bezel_signals | apply State.toCold_signals
    | apply State.releaseIlk_signals | apply Signals.ite | split | dsimp only | refine Signals.mk' ?_

theorem State.report_signals {s0 s : State} (h : Signals s0 s) (d : Det) : Signals s0 (State.report s d) := by
  unfold State.report
  try dsimp only
  with_reducible repeat' first
    | assumption | apply State.count_signals | apply State.eventAny_signals | apply State.writeRecord_signals
    | apply State.devFault_signals | apply Signals.ite | split | dsimp only | refine Signals.mk' ?_

theorem State.enter_signals {s0 s : State} (h : Signals s0 s) (e : Entry) : Signals s0 (State.enter s e) := by
  unfold State.enter
  try dsimp only
  with_reducible repeat' first
    | assumption | apply Signals.ite | split | dsimp only | refine Signals.mk' ?_

theorem State.takeSeq_signals {s0 s : State} (h : Signals s0 s) (x q : Nat) : Signals s0 (State.takeSeq s x q) := by
  unfold State.takeSeq
  try dsimp only
  with_reducible repeat' first
    | assumption | apply State.setSess_signals | apply Signals.ite | split | dsimp only | refine Signals.mk' ?_

theorem State.closeSess_signals {s0 s : State} (h : Signals s0 s) (x : Nat) : Signals s0 (State.closeSess s x) := by
  unfold State.closeSess
  try dsimp only
  with_reducible repeat' first
    | assumption | apply State.setSess_signals | apply Signals.ite | split | dsimp only | refine Signals.mk' ?_

theorem State.sendReply_signals {s0 s : State} (h : Signals s0 s) (ep : Endpoint) (x q op txn : Nat) (tagged : Bool) (r : ReplyRec) (data : List Byte) : Signals s0 (State.sendReply s ep x q op txn tagged r data) :=
  State.deliver_signals h _

theorem State.reply_signals {s0 s : State} (h : Signals s0 s) (ep : Endpoint) (x q op txn : Nat) (tagged : Bool) (r : ReplyRec) (data : List Byte) : Signals s0 (State.reply s ep x q op txn tagged r data) :=
  State.sendReply_signals (Signals.ite (State.setSess_signals h _ _) h) _ _ _ _ _ _ _ _

theorem State.replyTo_signals {s0 s : State} (h : Signals s0 s) (c : Cmd) (r : ReplyRec) (data : List Byte) : Signals s0 (State.replyTo s c r data) := by
  unfold State.replyTo
  try dsimp only
  with_reducible repeat' first
    | assumption | apply State.reply_signals | apply Signals.ite | split | dsimp only | refine Signals.mk' ?_

/-! ### What a record leaves alone -/

@[simp] theorem State.report_pending (s : State) (d : Det) : (s.report d).pending = s.pending := by
  rw [State.report_signals (Signals.refl s)]
@[simp] theorem State.report_freeCtr (s : State) (d : Det) : (s.report d).freeCtr = s.freeCtr := by
  rw [State.report_signals (Signals.refl s)]
@[simp] theorem State.report_pins (s : State) (d : Det) : (s.report d).pins = s.pins := by
  rw [State.report_signals (Signals.refl s)]
@[simp] theorem State.report_power (s : State) (d : Det) : (s.report d).power = s.power := by
  rw [State.report_signals (Signals.refl s)]
@[simp] theorem State.report_sec (s : State) (d : Det) : (s.report d).sec = s.sec := by
  rw [State.report_signals (Signals.refl s)]
@[simp] theorem State.report_boot (s : State) (d : Det) : (s.report d).boot = s.boot := by
  rw [State.report_signals (Signals.refl s)]
@[simp] theorem State.report_render (s : State) (d : Det) : (s.report d).render = s.render := by
  rw [State.report_signals (Signals.refl s)]
@[simp] theorem State.report_time (s : State) (d : Det) : (s.report d).time = s.time := by
  rw [State.report_signals (Signals.refl s)]
@[simp] theorem State.report_loupe (s : State) (d : Det) : (s.report d).loupe = s.loupe := by
  rw [State.report_signals (Signals.refl s)]
@[simp] theorem State.report_facets (s : State) (d : Det) : (s.report d).facets = s.facets := by
  rw [State.report_signals (Signals.refl s)]
@[simp] theorem State.report_mem (s : State) (d : Det) : (s.report d).mem = s.mem := by
  rw [State.report_signals (Signals.refl s)]
@[simp] theorem State.report_dma (s : State) (d : Det) : (s.report d).dma = s.dma := by
  rw [State.report_signals (Signals.refl s)]
@[simp] theorem State.report_flows (s : State) (d : Det) : (s.report d).net.flows = s.net.flows := by
  rw [State.report_signals (Signals.refl s)]
@[simp] theorem State.report_rt (s : State) (d : Det) : (s.report d).net.rt = s.net.rt := by
  rw [State.report_signals (Signals.refl s)]
@[simp] theorem State.report_ports (s : State) (d : Det) : (s.report d).ports = s.ports := by
  rw [State.report_signals (Signals.refl s)]
@[simp] theorem State.event_pending (s : State) (c : Nat) (p : List Byte) : (s.event c p).pending = s.pending := by
  rw [State.event_signals (Signals.refl s)]
@[simp] theorem State.event_freeCtr (s : State) (c : Nat) (p : List Byte) : (s.event c p).freeCtr = s.freeCtr := by
  rw [State.event_signals (Signals.refl s)]
@[simp] theorem State.event_pins (s : State) (c : Nat) (p : List Byte) : (s.event c p).pins = s.pins := by
  rw [State.event_signals (Signals.refl s)]
@[simp] theorem State.event_power (s : State) (c : Nat) (p : List Byte) : (s.event c p).power = s.power := by
  rw [State.event_signals (Signals.refl s)]
@[simp] theorem State.event_sec (s : State) (c : Nat) (p : List Byte) : (s.event c p).sec = s.sec := by
  rw [State.event_signals (Signals.refl s)]
@[simp] theorem State.event_boot (s : State) (c : Nat) (p : List Byte) : (s.event c p).boot = s.boot := by
  rw [State.event_signals (Signals.refl s)]
@[simp] theorem State.event_render (s : State) (c : Nat) (p : List Byte) : (s.event c p).render = s.render := by
  rw [State.event_signals (Signals.refl s)]
@[simp] theorem State.event_time (s : State) (c : Nat) (p : List Byte) : (s.event c p).time = s.time := by
  rw [State.event_signals (Signals.refl s)]
@[simp] theorem State.event_loupe (s : State) (c : Nat) (p : List Byte) : (s.event c p).loupe = s.loupe := by
  rw [State.event_signals (Signals.refl s)]
@[simp] theorem State.event_facets (s : State) (c : Nat) (p : List Byte) : (s.event c p).facets = s.facets := by
  rw [State.event_signals (Signals.refl s)]
@[simp] theorem State.event_mem (s : State) (c : Nat) (p : List Byte) : (s.event c p).mem = s.mem := by
  rw [State.event_signals (Signals.refl s)]
@[simp] theorem State.event_dma (s : State) (c : Nat) (p : List Byte) : (s.event c p).dma = s.dma := by
  rw [State.event_signals (Signals.refl s)]
@[simp] theorem State.event_flows (s : State) (c : Nat) (p : List Byte) : (s.event c p).net.flows = s.net.flows := by
  rw [State.event_signals (Signals.refl s)]
@[simp] theorem State.event_rt (s : State) (c : Nat) (p : List Byte) : (s.event c p).net.rt = s.net.rt := by
  rw [State.event_signals (Signals.refl s)]
@[simp] theorem State.event_ports (s : State) (c : Nat) (p : List Byte) : (s.event c p).ports = s.ports := by
  rw [State.event_signals (Signals.refl s)]
@[simp] theorem State.deliver_pending (s : State) (p : OutPkt) : (s.deliver p).pending = s.pending := by
  rw [State.deliver_signals (Signals.refl s)]
@[simp] theorem State.deliver_freeCtr (s : State) (p : OutPkt) : (s.deliver p).freeCtr = s.freeCtr := by
  rw [State.deliver_signals (Signals.refl s)]
@[simp] theorem State.deliver_pins (s : State) (p : OutPkt) : (s.deliver p).pins = s.pins := by
  rw [State.deliver_signals (Signals.refl s)]
@[simp] theorem State.deliver_power (s : State) (p : OutPkt) : (s.deliver p).power = s.power := by
  rw [State.deliver_signals (Signals.refl s)]
@[simp] theorem State.deliver_sec (s : State) (p : OutPkt) : (s.deliver p).sec = s.sec := by
  rw [State.deliver_signals (Signals.refl s)]
@[simp] theorem State.deliver_boot (s : State) (p : OutPkt) : (s.deliver p).boot = s.boot := by
  rw [State.deliver_signals (Signals.refl s)]
@[simp] theorem State.deliver_render (s : State) (p : OutPkt) : (s.deliver p).render = s.render := by
  rw [State.deliver_signals (Signals.refl s)]
@[simp] theorem State.deliver_time (s : State) (p : OutPkt) : (s.deliver p).time = s.time := by
  rw [State.deliver_signals (Signals.refl s)]
@[simp] theorem State.deliver_loupe (s : State) (p : OutPkt) : (s.deliver p).loupe = s.loupe := by
  rw [State.deliver_signals (Signals.refl s)]
@[simp] theorem State.deliver_facets (s : State) (p : OutPkt) : (s.deliver p).facets = s.facets := by
  rw [State.deliver_signals (Signals.refl s)]
@[simp] theorem State.deliver_mem (s : State) (p : OutPkt) : (s.deliver p).mem = s.mem := by
  rw [State.deliver_signals (Signals.refl s)]
@[simp] theorem State.deliver_dma (s : State) (p : OutPkt) : (s.deliver p).dma = s.dma := by
  rw [State.deliver_signals (Signals.refl s)]
@[simp] theorem State.deliver_flows (s : State) (p : OutPkt) : (s.deliver p).net.flows = s.net.flows := by
  rw [State.deliver_signals (Signals.refl s)]
@[simp] theorem State.deliver_rt (s : State) (p : OutPkt) : (s.deliver p).net.rt = s.net.rt := by
  rw [State.deliver_signals (Signals.refl s)]
@[simp] theorem State.deliver_ports (s : State) (p : OutPkt) : (s.deliver p).ports = s.ports := by
  rw [State.deliver_signals (Signals.refl s)]

/-- An interrupt message changes nothing of the control protocol. -/
@[simp] theorem State.msix_kcp (s : State) (v : Nat) : (s.msix v).kcp = s.kcp := by unfold State.msix; split <;> rfl
/-- A change of a ring pair changes no session. -/
@[simp] theorem State.setRing_sessions (s : State) (k : Nat) (f : Ring → Ring) : (s.setRing k f).kcp.sess = s.kcp.sess := rfl
/-- Filling a reply buffer changes no session. -/
theorem fillOne_sessions (k : Nat) (a b c : Bool) (x : Nat) (bs : List Byte) (s : State) :
    (fillOne k a b c x bs s).kcp.sess = s.kcp.sess := by
  unfold fillOne; extract_lets b size head desc stat head' s1 wb s2 ctl n
  have h : s2.kcp.sess = s.kcp.sess := by
    show (if wb = 0 then s1 else s1.emit _).kcp.sess = _
    split <;> rfl
  split
  · rw [State.msix_kcp, State.setRing_sessions, h]
  · rw [State.setRing_sessions, h]
/-- Filling several changes none either. -/
theorem fillAll_sessions (k : Nat) (ev : Bool) (l : List (Nat × List Byte)) : ∀ (first : Bool) (s : State),
    (fillAll k ev first l s).kcp.sess = s.kcp.sess := by
  induction l with
  | nil => intro _ _; rfl
  | cons a t ih => intro _ _; exact (ih _ _).trans (fillOne_sessions ..)
/-- What a ring pair delivers changes no session. -/
theorem flushRing_sessions (k n : Nat) : ∀ s : State, (flushRing k n s).kcp.sess = s.kcp.sess := by
  induction n with
  | zero => intro _; rfl
  | succ n ih =>
    intro s; unfold flushRing; split
    · rfl
    · split
      · rfl
      · exact (ih _).trans (fillAll_sessions ..)

/-- A frame that Ganen places changes no session. -/
theorem State.place_sessions (s : State) (k r : Nat) (f : OwnFrame) : (s.place k r f).kcp.sess = s.kcp.sess := by
  unfold State.place State.sendOwn State.count; split
  · rfl
  · split
    · rfl
    · split <;> rfl

/-- A packet that leaves changes no session. -/
@[simp] theorem State.deliver_sessions (s : State) (p : OutPkt) : (s.deliver p).kcp.sess = s.kcp.sess := by
  unfold State.deliver; split
  · exact State.place_sessions ..
  · rfl
  · exact flushRing_sessions ..

/-- An event that a session is due moves that session's event sequence alone. -/
theorem sendEvent_sess_ne (code txn : Nat) (pl : List Byte) {x y : Nat} (s : State) (h : y ≠ x) :
    (sendEvent code txn pl x s).sess y = s.sess y := by
  unfold sendEvent; dsimp only; split
  · unfold State.sess; rw [State.deliver_sessions]; exact State.sess_setSess_ne s _ h
  · rfl

/-- A session that is not due an event is sent none. -/
theorem sendEvent_none (code txn : Nat) (pl : List Byte) {x : Nat} (s : State)
    (h : ((s.sess x).isOpen && (s.sess x).mask.testBit (code / 256 % 16)) = false) : sendEvent code txn pl x s = s := by
  unfold sendEvent; simp [h]

/-- With no session due an event, none is sent. -/
theorem State.eventAny_none (s : State) (code : Nat) (pl : List Byte)
    (h : ∀ x < 8, ((s.sess x).isOpen && (s.sess x).mask.testBit (code / 256 % 16)) = false) : s.eventAny code pl = s := by
  have : ∀ l : List Nat, (∀ x ∈ l, x < 8) → l.foldl (fun s x => sendEvent code 0 pl x s) s = s := by
    intro l; induction l with
    | nil => intro _; rfl
    | cons a t ih =>
      intro hl
      rw [List.foldl_cons, sendEvent_none _ _ _ _ (h a (hl a (by simp)))]
      exact ih fun x hx => hl x (by simp [hx])
  exact this _ fun x hx => List.mem_range.mp hx

/-- A reply changes only its own session, and only what it records of its replies. -/
theorem State.replyTo_sess_ne (s : State) (c : Cmd) (r : ReplyRec) (d : List Byte) {y : Nat} (h : y ≠ c.sess) :
    (s.replyTo c r d).sess y = s.sess y := by
  unfold State.replyTo State.reply State.sendReply; dsimp only
  unfold State.sess; rw [State.deliver_sessions]
  split
  · exact State.sess_setSess_ne s _ h
  · rfl

/-! ### The hash's constants -/

/-- The first 64 primes lie below 312. -/
theorem primes64_length : primes64.length = 64 := by decide +kernel

/-- Each round's constant is the fraction of the cube root of its prime. -/
theorem shaK_roots : primes64.map (rootBits 3) = shaK := by decide +kernel

/-- The chaining value at the start is the fractions of the square roots of the first 8 primes. -/
theorem shaInit_roots : (primes64.take 8).map (rootBits 2) = shaInit := by decide +kernel

end Sys2Proof.Machine
end

