-- ==== Sys2Proof/WellFormed.lean ====
section
/-! DEFINITION. Which commands are well-formed: operands that the part's interfaces can carry. A command that is not well-formed never
reaches the part; the meanings are total on it all the same. -/

namespace Sys2Proof

/-- A number that `w` bits hold. -/
def fits (w : Nat) (x : Int) : Bool := decide (-(2 ^ (w - 1) : Int) ≤ x) && decide (x < 2 ^ (w - 1))

/-- A channel identifier (R366). -/
def chanOk (c : Nat) : Bool := (decide (c / 2 ^ 28 ≤ 4) || c / 2 ^ 28 == 15) && decide (c / 2 ^ 28 < 16) && decide (c % 2 ^ 28 < 2 ^ 16)

/-- No channel is named twice. -/
def Work.wf : Work → Bool
  | .kernel => true
  | .objects os => decide os.Nodup
  | .matrix fs => decide fs.Nodup
  | .chains fs => decide fs.Nodup

def RunFacts.wf (x : RunFacts) : Bool := x.corrupt.all chanOk
def BoundaryFacts.wf (x : BoundaryFacts) : Bool := decide (x.shed ≤ 1024) && x.meas.all fun e => e.rise.all (fits 32) && e.fall.all (fits 32)
def RingRead.wf (d : RingRead) : Bool := decide (d.addr < 2 ^ 64) && decide (d.len < 2 ^ 32) && decide (d.bytes.length ≤ d.len)
def TdmFrame.wf (f : TdmFrame) : Bool := decide (f.slots.length ≤ 32) && f.slots.all (fits 32)
def RefMeas.wf (m : RefMeas) : Bool := decide (m.grade < 4)
def DmaResp.wf : DmaResp → Bool
  | .uncorrectable synd => decide (synd < 2 ^ 32)
  | .ok | .error _ | .hang _ => true
def JtagAccess.wf : JtagAccess → Bool
  | .scan => true
  | .debug addr _ => decide (addr < 2 ^ 36)
def PtpMsg.wf : PtpMsg → Bool
  | .announce d _ cls acc _ _ => decide (d < 256) && decide (cls < 256) && decide (acc < 256)
  | .sync d q _ _ _ | .followUp d q _ | .delayReq d q => decide (d < 256) && decide (q < 2 ^ 16)
  | .delayResp d _ => decide (d < 256)

/-- A transaction that a master can make (R329): a write carries as many bytes as it says. -/
def BusReq.wf (q : BusReq) : Bool :=
  decide (q.addr < 2 ^ 40) && decide (0 < q.size) && decide (q.size ≤ 256) &&
    q.write.all fun bs => bs.length == q.size

/-- A packet as a transport can deliver it: at most a whole UDP payload or ring packet, with a tag of 16 bytes or none. -/
def Packet.wf (p : Packet) : Bool := decide (p.payload.length ≤ 2 ^ 17) && (p.tag.isEmpty || p.tag.length == 16)

/-- A scalar or vector slot has 24 bits below its opcode, a memory slot 28. -/
def Issue.wf (mem : Bool) (i : Issue) : Bool := mem || decide (i.f.toNat < 2 ^ 24)

/-- The check of a command. -/
def Instr.wf : Instr → Bool
  | .renderBoundary facts => facts.wf
  | .facetRunStart _ w facts => w.wf && facts.wf
  | .solveComplete _ us _ => decide (us < 2 ^ 32)
  | .jobStepComplete step => decide (step < 2 ^ 16)
  | .actionDueTime _ id => id.all fun x => decide (x < 2 ^ 16)
  | .spareReplacement _ w => w.wf
  | .piecedObjectDiscard _ op name => decide (op < 2 ^ 16) && decide (name < 2 ^ 16)
  | .rplTailPost _ _ bufs => bufs.all fun e => decide (e.addr < 2 ^ 64) && decide (e.len < 2 ^ 32)
  | .ringReadCompletion _ d => d.wf
  | .bar2Access addr size _ => decide (addr < 2 ^ 25) && decide (size ≤ 8)
  | .spiRead n => decide (n ≤ 8192)
  | .spiInvalidInstruction b n => b != 2 && b != 5 && b != 0x0B && decide (0 < n)
  | .frameReceived _ bs _ _ _ => decide (14 ≤ bs.length) && decide (bs.length ≤ 9022)
  | .positionDatagram _ b => decide (b.length ≤ 65507)
  | .ptpMessage _ m => m.wf
  | .ringFrameTransmit _ frags => decide (frags ≤ 64)
  | .wakeFrame _ bs => decide (14 ≤ bs.length) && decide (bs.length ≤ 9022)
  | .referencePresent _ m => m.wf
  | .deviationEval ms => ms.all RefMeas.wf
  | .pullStep m => m.wf
  | .tdmFrame _ f => f.wf
  | .busTransaction q => q.wf
  | .cdcQueue _ _ _ chans => chans.all chanOk
  | .dmaBurstResponse _ r => r.wf
  | .dmaRequest _ _ r => r.wf
  | .scrubWord _ _ addr _ _ => decide (addr < 2 ^ 40)
  | .lockstep _ pc => decide (pc < 2 ^ 32)
  | .supply _ mv => decide (mv < 2 ^ 16)
  | .thermalSample t => fits 16 t
  | .repeatRecord cls unit inst => decide (cls < 2 ^ 16) && decide (unit < 2 ^ 8) && decide (inst < 2 ^ 16)
  | .cntSnap addr _ => decide (addr < 2 ^ 36)
  | .registerWrite addr size _ => decide (addr < 2 ^ 36) && (size == 1 || size == 2 || size == 4)
  | .noticeRx cls => decide (cls < 2 ^ 16)
  | .deltaSegment g => decide (g.index < g.total)
  | .resendRx segs => segs.all fun i => decide (i < 2 ^ 16)
  | .ackRx seq => decide (seq < 2 ^ 32)
  | .markRx seq _ => decide (seq < 2 ^ 32)
  | .stagingRx num _ => decide (num < 2 ^ 32)
  | .reconRx carats => carats.all fun e => chanOk e.1
  | .reconDataRx blocks _ => blocks.all fun e => chanOk e.1 && e.2.2.length == 16 && e.2.2.all (fits 32)
  | .voltageConfirmed mv _ => decide (mv < 2 ^ 16)
  | .jtagDebugAccess a => a.wf
  | .nop i | .add i | .sub i | .addi i | .mul i | .mulh i | .and i | .or i | .xor i | .shl i | .shr i | .sra i | .min i
  | .max i | .cmpeq i | .cmplt i | .cmpltu i | .pand i | .por i | .pnot i | .pmov i | .movi i | .movhi i | .mfs i
  | .mts i | .jmp i | .bnz i | .dbnz i | .call i | .ret i | .loop i | .endRun i | .get i | .put i | .gwait i | .vadd i
  | .vsub i | .vneg i | .vabs i | .vmin i | .vmax i | .vand i | .vor i | .vxor i | .vshl i | .vsra i | .vmpy i | .vmac i
  | .vmsc i | .vmacs i | .aclr i | .aext i | .ains i | .ashr i | .vcmpy i | .vcmac i | .vcmacj i | .vbfly i | .vsplat i
  | .vperm i | .vsel i | .vextr i | .vcmpeq i | .vcmplt i | .vcmple i | .vnorm i | .vcrc i | .vmov i => i.wf false
  | .ldW i | .stW i | .ldV i | .stV i | .ldB i | .ldP i | .stP i => i.wf true
  | .sysInfo p | .sysSessionOpen p | .sysSessionClose p | .sysSeqQuery p | .sysEventMask p | .sysKeySet p
  | .sysRenderRate p | .sysStatus p | .sysKernelLoad p | .sysKernelRun p | .sysKernelUnload p | .sysKernelRead p
  | .zoneSet p | .zoneExclSet p | .zoneRead p | .feedSet p | .feedRead p | .feedWithdraw p | .feedRestore p
  | .layoutStatus p | .layoutResolve p | .objectSet p | .objectPosBulk p | .objectRead p | .objectRestore p
  | .routeSet p | .routeDelete p | .routeRead p | .matrixStatus p | .chainSet p | .biquadSet p | .chainRead p
  | .feedStatus p | .filterLibWrite p | .filterLibFree p | .filterStage p | .filterSwap p | .filterDiscard p
  | .filterDirect p | .filterAb p | .filterRead p | .loupeZoneSet p | .loupeInputSet p | .loupeSync p | .loupeJobStart p
  | .loupeJobAbort p | .loupeLearn p | .loupeVeto p | .loupeCompClear p | .loupeAuditRead p | .loupeJobRead p
  | .loupeDerive p | .netportSet p | .flowSet p | .flowDelete p | .flowRead p | .netportRead p | .netKcpSet p
  | .ptpSet p | .refInputSet p | .refPrioritySet p | .refForce p | .triggerSet p | .captureRead p | .timeRead p
  | .refStatus p | .portSet p | .portMask p | .portRun p | .sidetoneSet p | .portRead p | .pairSet p | .pairStatus p
  | .pairSync p | .pairHandover p | .txnBegin p | .txnCommit p | .txnAbort p | .pwrState p | .pwrOppoint p
  | .pwrDomainRetry p | .pwrStatus p | .diagWindowUnlock p | .diagWindowLock p | .diagRegRead p | .diagRegWrite p
  | .diagCounters p | .diagInclusionRead p | .diagFacetRetry p | .diagLifecycle p | .bootStatus p | .bootWrite p
  | .bootStart p => p.wf
  | .budgetExpiry _ | .deltaCutoff | .ackDeadline | .layoutSwitchEntry _ | .layoutXfadeEnd _ | .routeXfadeEnd _
  | .delayJumpXfadeEnd _ | .dopplerXfadeEnd _ | .placementXfadeEnd _ | .alignDelayXfadeEnd _ | .filterStagingComplete
  | .firCopyBackComplete | .abXfadeEnd | .abCopyBackComplete | .renderRateResume | .loupeStuck _ | .stuckRecover _
  | .settlingEnd _ | .loupeSyncEdge | .loupeSyncReq _ | .loupeInCfgWrite _ _ | .conclusiveResult _ _ | .maximumDwell _ _
  | .compStep | .driftStep _
  | .girdleReservationStall _ | .girdleTransferComplete _ _ _ | .selftestComplete _ _ | .facetReset _ _
  | .facetWinLock _ _ | .facetRunSet _ _ | .sessionIdleTimeout _ | .eventDrop _ | .windowExpiry | .cmdTailDoorbell _ _
  | .ringCtlWrite _ _ | .pcieFlr | .pciePerst | .spiWrite _ | .spiStatus | .pauseExpiry _ | .ptpAnnounceTimeout _
  | .linkUp _ | .linkDown _ | .pathDown _ _ | .packetTransmit _ | .txLateDrop _ | .netportRingTail _ _ _
  | .preemptVerifyDone _ _ | .pauseTx _ | .speedReduction _ | .lpFail _ | .speedRestore _ | .arpRefresh _
  | .flowtabCtlWrite _ _ | .timeSnap _ | .timeAdjNs _ _ | .comparatorFire _ | .captureEdge _ _ | .captPop _ _
  | .txtsPop _ _ | .referenceLost _ | .waitToRestoreEnd _ | .holdoverEval | .clockLoss _ | .syspllRelock
  | .maskApply _ _ _ | .portZcTimeout _ | .asrcLock _ | .noLock _ | .portClockLost _ _ | .portRange _
  | .portRangeRecover _ | .tdmCtlWrite _ _ | .sidetoneCtlWrite _ _ | .sidetoneGainWrite _ _ | .busHang _ _
  | .lateResponse _ _ | .secureWipeDone | .dramInitDone | .dramReadRetrain | .dramPowerDown _ _ | .dmaStart _ _
  | .dmaStop _ _ | .dmaCopyComplete _ | .dmaFenceComplete _ | .ganenRestartDone | .ganenRestartTimeout | .logCopy
  | .integFaultWrite _ | .ilkBEdge | .claimTieTimeout | .ilkFault | .heartbeatTx | .heartbeatRx _ | .bezelLink _
  | .reconDeadline | .transplantRx _ | .autoSyncStart | .syncImageComplete _ | .syncSettleEnd | .syncVerified
  | .reclaimHoldoffExpiry | .handoverFail | .domainGrant _ | .domainDelay _ | .domainDelayExpired _ | .domainRefuse _ _
  | .domainReady _ | .domainWake _ _ | .wakeNEdge | .pmuReqWrite _ | .pmuRetryWrite _ | .pmuRefuseClr _
  | .secTamperLatchRead | .voltageTimeout | .pmbAlert _ | .porAssert | .porRelease _ | .tamper _ _ | .ilkBFall
  | .supplyInRange _ | .coalescingTimeExpiry _ | .ptpSyncInterval _ _ | .igmpUnsolicitedReport _ | .sfpModabsChange _ _ => true

end Sys2Proof
end

