-- ==== Sys2Proof/Tests/Slice0.lean ====
section
/-! SUPPORT. Tests: the checks of WellFormed, single steps with results worked out from the spec, and for every statement states and
operands that meet its hypotheses. -/

set_option Elab.async false

namespace Sys2Proof.Tests

open Sys2Proof.Machine

/-! ### Helpers -/

/-- A packet of ring pair 0 and session 0 with its Carat. -/
def pk (op : Nat) (payload : List Byte) (seq : Word := 1) (txn : Word := 0) : Packet :=
  let n := payload.length
  let p : Packet :=
    { ep := .pcie 0
      received := 24 + n
      length := BitVec.ofNat 32 (24 + n)
      seq := seq
      session := 0
      txn := txn
      payload := payload
      carat := 0 }
  { p with carat := crc32c (packetHead op p) }

/-- A payload of `n` bytes with the fields (offset from byte 0 of the packet, bytes, value). -/
def fill (n : Nat) (l : List (Nat × Nat × Nat)) : List Byte :=
  (List.range n).map fun i => match l.find? fun e => decide (e.1 ≤ 20 + i) && decide (20 + i < e.1 + e.2.1) with
    | some e => BitVec.ofNat 8 (e.2.2 / 256 ^ (e.1 + e.2.1 - 21 - i))
    | none => 0

/-- Ganen serves, and session 0 is open for ring pair 0. -/
def live : State :=
  { State.reset with
    boot := { State.reset.boot with phase := .ready }
    kcp := { State.reset.kcp with sess := State.reset.kcp.sess.set 0 { isOpen := true, ep := .pcie 0 } } }

def withRender (f : Render → Render) (s : State) : State := { s with render := f s.render }
def withLoupe (f : Loupe → Loupe) (s : State) : State := { s with loupe := f s.loupe }
def withFacets (f : Facets → Facets) (s : State) : State := { s with facets := f s.facets }
def withPair (f : Pair → Pair) (s : State) : State := { s with pair := f s.pair }
def withMem (f : Mem → Mem) (s : State) : State := { s with mem := f s.mem }
def withPower (f : Power → Power) (s : State) : State := { s with power := f s.power }
def withTime (f : TimeU → TimeU) (s : State) : State := { s with time := f s.time }
def withKcp (f : Kcp → Kcp) (s : State) : State := { s with kcp := f s.kcp }
def withDelta (f : Delta → Delta) (s : State) : State := { s with delta := f s.delta }
def withInteg (f : Integ → Integ) (s : State) : State := { s with integ := f s.integ }
def withNet (f : Net → Net) (s : State) : State := { s with net := f s.net }

/-- What holds of the next state of a command; false where it stops. -/
def after (i : Instr) (s : State) (f : State → Bool) : Bool :=
  match exec i s with
  | .next t => f t
  | _ => false

/-- A heartbeat of a peer with role `r` in synchronisation state `x`. -/
def beat (r : Fin 4) (x : Fin 8) : Heartbeat :=
  { role := r, sync := x, preferred := false, unhealthy := false, stepping := 0xB0, ganen := 0, rate96 := false, dram := 0, status := 0,
    peerL := 0, ownL := 0 }

/-- An active whose standby is synchronised and has been heard. -/
def synced (s : State) : State :=
  withPair (fun p => { p with claim := true, lane0 := true, lane1 := true, beat := true, peer := some (beat 2 5) }) (s.setReg aPair 1)

/-- A unit of a pair that has not claimed, in synchronisation state `x`, beside an active. -/
def standby (x : Nat) (s : State) : State :=
  withPair (fun p => { p with lane0 := true, lane1 := true, beat := true, peer := some (beat 1 0), sync := x }) (s.setReg aPair 1)

/-- A kernel in slot 0, on Facet 3. -/
def kernel0 : State → State :=
  withFacets fun f => { f with
    st := f.st.set 3 3
    kernels := [(0, { facet := 3, entry := 0, budget := 1000, start := 0, shareAt := 0, share := 0, limit := 1 })] }

/-- A job of one step that has ended, or runs. -/
def job0 (result : Nat) : State → State :=
  withLoupe fun l => { l with
    job := if result = 0 then some 0 else none
    jobs := [(0, { zone := 0, mls := false, level := -1000, f1 := 20, f2 := 20000, dur := 1000, tail := 0, order := 12, reps := 2,
                   inputs := 1, len := 1024, mute := false, freeze := false, base := 0, steps := [[0]], result := result,
                   going := result == 0 })] }

/-- Session 0 subscribes to no event. -/
def withSess' (s : State) : State := withKcp (fun k => { k with sess := k.sess.map fun t => { t with mask := 0 } }) s

/-! ### An image (Table PWR-8) -/

/-- The header of an image of one section of four bytes, which loads at 0x1000_0000; its key is the public key of private key 1. -/
def imageHead : List Byte :=
  leBytes 4 0x47414E31 ++ leBytes 2 0 ++ leBytes 2 3 ++ leBytes 4 1 ++ leBytes 4 1 ++ beBytes 32 p256G.1 ++ beBytes 32 p256G.2 ++
    leBytes 4 912 ++ leBytes 4 4 ++ leBytes 8 0x10000000 ++
    beBytes 32 0x9f64a747e1b97f131fabb6b447296c9b6f0201e79fb3c5356e6c77e89b6a806a ++ zeros 720

/-- Its signature, worked out outside Lean. -/
def imageSig : List Byte := beBytes 32 0x7cf27b188d034f7e8a52380304b51ac3c08969e277f21b35a60b48fc47669978 ++
  beBytes 32 0x30f24bcd3811417fba1bcd23f8a4d3df50328725e0635a429bdbb40813fd07d4

def image : List Byte := imageHead ++ imageSig ++ [1, 2, 3, 4]

/-- SHA-256 of bytes 0 to 847, as another implementation gives it. -/
theorem image_hash : beNat (sha256 (image.take 848)) = 0xe4f21c80e31f3381e9e56244ec948cfa9cc29f16efec37d48565e9d6dcf69b81 := by
  decide +kernel

theorem image_inverse : invMod 0x30f24bcd3811417fba1bcd23f8a4d3df50328725e0635a429bdbb40813fd07d4 p256N =
    0xf78254e90547086e9a6a20873fa597cccbb126d98ecf7916219d858231caa974 := by decide +kernel
theorem image_u1 : p256Mul (0xe4f21c80e31f3381e9e56244ec948cfa9cc29f16efec37d48565e9d6dcf69b81 *
    0xf78254e90547086e9a6a20873fa597cccbb126d98ecf7916219d858231caa974 % p256N) p256G =
    some (0x874c15ef5d82129ecf9be0f176595a6bd77f48ee663e35f6074887c959d0c0d8,
      0x655907d8fce11905695cd083273bf1ccbaf06315d599c260d48892b1597827c3) := by decide +kernel
theorem image_u2 : p256Mul (0x7cf27b188d034f7e8a52380304b51ac3c08969e277f21b35a60b48fc47669978 *
    0xf78254e90547086e9a6a20873fa597cccbb126d98ecf7916219d858231caa974 % p256N) p256G =
    some (0xeeff8628b6e5ba0e6f4d0d15ffc4da01c2d20dbf7f41f255d0ff22a6a47855b8,
      0x715672487f585fdea87db1da26204ef68d821a5a2923ff6594de45f12d7b93fe) := by decide +kernel

theorem image_signed : ecdsaVerify (image.take 848) (slice image 16 64) (slice image 848 64) = true := by
  unfold ecdsaVerify
  simp only [image_hash]
  rw [show beAt (slice image 16 64) 0 32 = p256G.1 by decide +kernel, show beAt (slice image 16 64) 32 32 = p256G.2 by decide +kernel,
    show beAt (slice image 848 64) 0 32 = 0x7cf27b188d034f7e8a52380304b51ac3c08969e277f21b35a60b48fc47669978 by decide +kernel,
    show beAt (slice image 848 64) 32 32 = 0x30f24bcd3811417fba1bcd23f8a4d3df50328725e0635a429bdbb40813fd07d4 by decide +kernel,
    image_inverse, show (p256G.1, p256G.2) = p256G from rfl, image_u1, image_u2]
  decide +kernel

/-- R436: the image is good for a part in BLANK. -/
theorem test_image (s : State) (hs : s.sec = State.reset.sec) (hd : s.mem.dramFailed = false) : tryImg s (some image) = 0 := by
  have e : tryImg s (some image) = tryImg State.reset (some image) := by
    have h2 : loadable s image = loadable State.reset image := by
      unfold loadable; rw [hd]; rfl
    unfold tryImg imgErr; simp only [hs, h2]
  rw [e]
  unfold tryImg imgErr
  simp only [image_signed]
  decide +kernel

/-! ### Command packets -/

/-- Where no other packet waits, it is the packet's turn. -/
def turnB (p : Packet) (s : State) : Bool := s.serving && listens s p.ep && s.kcp.rx.isEmpty

/-- Checks 1 and 3 to 5, as a test that can be run: `pk` gives a packet its Carat. -/
def framedB (op : Nat) (p : Packet) (s : State) : Bool :=
  turnB p s && !badFrame s p && !badTag s op p && p.version == 1 && !badHeader p && !p.ganenFault

/-- Checks 1 to 7. -/
def inOrderB (op : Nat) (p : Packet) (s : State) : Bool :=
  framedB op p s && decide (p.session.toNat < 8) && s.bound p.session.toNat p.ep &&
    decide ((seqTest (s.sess p.session.toNat).h (s.sess p.session.toNat).seen p.seq.toNat).1 = .new)

/-- Checks 9 to 11. -/
def admittedB (sp : OpSpec) (c : Cmd) (u : State) : Bool :=
  sp.len c && (notAllowed sp c u).isNone && (!u.handingOver || sp.standby) && decide (c.txn = 0)

theorem pk_carat (op : Nat) (pl : List Byte) (q x : Word) : badCarat op (pk op pl q x) = false := by
  simp [badCarat, pk, packetHead]

theorem turn_of {op : Nat} {p : Packet} {s : State} (h : turnB p s = true) : Turn op p s := by
  simp only [turnB, Bool.and_eq_true, List.isEmpty_iff] at h
  obtain ⟨⟨a, b⟩, c⟩ := h
  refine ⟨a, b, by simp [State.strayDue, dueOf, fronts, c], ?_⟩
  simp [inTurn, arrived, dueOf, fronts, isPacket, c]

theorem framed_of {op : Nat} {p : Packet} {s : State} (hc : badCarat op p = false) (h : framedB op p s = true) : Framed op p s := by
  simp only [framedB, Bool.and_eq_true, Bool.not_eq_true', beq_iff_eq] at h
  obtain ⟨⟨⟨⟨⟨a, b⟩, d⟩, e⟩, f⟩, g⟩ := h
  exact { turn_of a with framed := b, carat := hc, tag := d, version := e, header := f, sane := g }

theorem inOrder_of {op : Nat} {p : Packet} {s : State} (hc : badCarat op p = false) (h : inOrderB op p s = true) : InOrder op p s := by
  simp only [inOrderB, Bool.and_eq_true, decide_eq_true_eq] at h
  obtain ⟨⟨⟨a, b⟩, c⟩, d⟩ := h
  exact { framed_of hc a with session := b, bound := c, fresh := d }

theorem admitted_of {sp : OpSpec} {c : Cmd} {u : State} (h : admittedB sp c u = true) : Admitted sp c u := by
  simp only [admittedB, Bool.and_eq_true, Bool.or_eq_true, Bool.not_eq_true', Option.isNone_iff_eq_none, decide_eq_true_eq] at h
  obtain ⟨⟨⟨a, b⟩, c⟩, d⟩ := h
  exact ⟨a, b, c, d⟩

/-- A kernel image of one bundle (Table FACET-10). -/
def image0 : List Byte :=
  let tail := zeros 36
  leBytes 4 0x46544B31 ++ leBytes 2 1 ++ leBytes 2 0 ++ leBytes 4 16 ++ zeros 12 ++ leBytes 4 1000 ++ zeros 8 ++ leBytes 2 2 ++
    leBytes 2 1 ++ leBytes 4 (crc32c tail).toNat ++ tail

/-- For each opcode that enters the delta: a state, and a payload from its table of 08. -/
def deferredCases : List (Nat × (State → State) × List Byte) :=
  [(0x0006, id, fill 4 [(20, 1, 1)]), (0x0009, kernel0, fill 4 [(21, 1, 1)]), (0x000A, kernel0, zeros 4),
   (0x0100, id, fill 40 [(24, 4, 1), (28, 1, 1)]), (0x0101, id, fill 28 [(23, 1, 1), (28, 4, 1000)]),
   (0x0103, id, fill 48 [(24, 4, 1), (28, 1, 1)]),
   (0x0105, withRender fun r => { r with feeds := [(0, { aux := false, zone := 0 })] }, zeros 4),
   (0x0106, id, zeros 4), (0x0108, id, zeros 4), (0x0200, id, fill 64 [(24, 4, 16), (56, 2, 100)]),
   (0x0201, id, fill 32 [(32, 2, 1)]), (0x0203, id, fill 4 [(22, 2, 1)]), (0x0300, id, zeros 16),
   (0x0301, withRender fun r => { r with routes := [(0, { cur := some { obj := 0, feed := 0 } })] }, zeros 8),
   (0x0400, id, fill 20 [(24, 4, 1)]), (0x0401, id, fill 24 [(23, 1, 1), (24, 4, 0x40000000)]),
   (0x0501, withRender fun r => { r with lib := [(1, { len := 0, entry := 1 })] }, fill 4 [(20, 2, 1)]),
   (0x0502, id, fill 8 [(20, 2, 1), (26, 2, 0xFFFF)]),
   (0x0503, withRender fun r => { r with shadow := { st := 2, set := [(0, {})] } }, zeros 4), (0x0504, id, zeros 4),
   (0x0505, id, fill 8 [(20, 2, 1), (26, 2, 0xFFFF)]),
   (0x0506, id, fill 12 [(20, 2, 1), (22, 2, 16), (30, 2, 0xFFFF)])] ++
  [(0x0600, id, fill 36 [(24, 4, 32), (34, 1, 10)]), (0x0601, id, fill 24 [(24, 4, 2)]), (0x0602, id, zeros 4),
   (0x0603, fun s => withRender (fun r => { r with feeds := [(0, { zone := 0 })] })
      (withLoupe (fun l => { l with ins := l.ins.set 0 { st := 2 } }) (withMem (fun m => { m with capacity := 1 }) s)),
    fill 52 [(22, 2, 0xFC18), (24, 2, 20), (26, 2, 20000), (28, 2, 1000), (30, 2, 100), (32, 1, 12), (33, 1, 2), (34, 2, 1),
      (36, 4, 1024), (42, 2, 1), (44, 8, dramLo), (52, 8, 8192), (60, 2, 1), (64, 1, 1)]),
   (0x0604, job0 0, zeros 4), (0x0605, id, fill 4 [(22, 2, 0xFFFF)]), (0x0607, id, zeros 4),
   (0x060A, job0 1, fill 12 [(24, 2, 256)]), (0x0700, id, fill 56 [(24, 4, 64), (41, 1, 8)]),
   (0x0701, id, fill 44 [(20, 2, 256), (24, 4, 64), (40, 2, 5004)]), (0x0702, id, zeros 4), (0x0705, id, fill 4 [(20, 2, 5000)]),
   (0x0800, id, fill 20 [(24, 4, 1), (28, 1, 1)]), (0x0801, id, fill 32 [(24, 4, 32), (40, 2, 10)]),
   (0x0802, id, fill 16 [(20, 8, 0x000102030405FFFF), (30, 2, 300), (32, 2, 10)]), (0x0803, id, fill 4 [(20, 1, 0xFF)]),
   (0x0804, id, fill 24 [(36, 4, 1000000), (40, 4, 1000)]), (0x0900, id, fill 16 [(24, 4, 64), (34, 2, 10)]),
   (0x0901, id, zeros 12), (0x0902, id, fill 4 [(21, 1, 1)]), (0x0903, id, fill 8 [(21, 1, 1)]),
   (0x0C02, withPower fun p => { p with dom := p.dom.set 4 6 }, fill 4 [(20, 1, 4)])] ++
  [(0x0008, withFacets fun f => { f with st := f.st.set 0 1 }, fill 8 [(21, 1, 1)] ++ image0),
   (0x0500, id, fill 12 [(20, 2, 1), (22, 2, 256), (28, 1, 1)] ++ zeros 1024),
   (0x0606, withLoupe fun l => { l with acts := [(5, { feed := 0, kind := 0, target := 0, due := 0 })] }, fill 4 [(20, 2, 5)]),
   (0x0C00, id, fill 4 [(20, 1, 1)]), (0x0C01, id, fill 4 [(20, 1, 1)])]

/-- What the statements ask of a command that enters the delta. -/
def entersB (r : KcpRow) (p : Packet) (s : State) : Bool :=
  let u := s.received p
  let c := toCmd r.op p
  let t := u.projected
  inOrderB r.op p s && admittedB r.spec c u && !r.spec.atOnce c u && (r.spec.param c t).isNone && (r.spec.busy c t).isNone &&
    (failedUnits u (r.spec.units c t)).isEmpty && (wholeCheck t (r.spec.apply c [] t) (r.spec.scalars c t) (r.spec.firs c t)).isNone

/-- Every opcode of O6 has a packet, and a state that takes it into the delta. -/
theorem test_o6_hypotheses : ∀ r ∈ deferredRows ++ shapedRows, ∃ p s, InOrder r.op p s ∧
    Admitted r.spec (toCmd r.op p) (s.received p) ∧ entersB r p s = true := by
  have h : ∀ r ∈ deferredRows ++ shapedRows, ∃ e ∈ deferredCases, entersB r (pk r.op e.2.2) (e.2.1 live) = true := by decide +kernel
  intro r hr
  obtain ⟨e, -, he⟩ := h r hr
  refine ⟨_, _, ?_, ?_, he⟩
  all_goals
    simp only [entersB, Bool.and_eq_true] at he
    obtain ⟨⟨⟨⟨⟨⟨a, b⟩, -⟩, -⟩, -⟩, -⟩, -⟩ := he
  · exact inOrder_of (pk_carat ..) a
  · exact admitted_of b

/-- For each opcode that is answered at once: a state, a payload, and the header's Transaction. -/
def immediateCases : List (Nat × (State → State) × List Byte × Word) :=
  [(0x0002, id, zeros 4, 0), (0x0004, id, fill 4 [(20, 2, 3)], 0), (0x0005, id, fill 36 [(24, 4, 7)], 0), (0x0007, id, zeros 4, 0),
   (0x000B, kernel0, fill 12 [(28, 4, 4)], 0), (0x0102, id, zeros 4, 0), (0x0104, id, zeros 4, 0), (0x0107, id, zeros 4, 0),
   (0x0202, id, zeros 4, 0), (0x0302, id, zeros 4, 0), (0x0303, id, zeros 4, 0), (0x0402, id, zeros 4, 0), (0x0403, id, zeros 4, 0),
   (0x0507, id, zeros 4, 0), (0x0608, id, zeros 4, 0), (0x0609, job0 1, fill 8 [(22, 2, 1)], 0), (0x0703, id, zeros 4, 0),
   (0x0704, id, zeros 4, 0), (0x0805, id, zeros 4, 0), (0x0806, id, zeros 4, 0), (0x0807, id, zeros 4, 0), (0x0904, id, zeros 4, 0)] ++
  [(0x0A00, id, fill 4 [(20, 1, 1), (22, 2, 1)], 0), (0x0A01, id, zeros 4, 0), (0x0A02, id, fill 4 [(20, 1, 3)], 0),
   (0x0A03, synced, zeros 8, 0), (0x0B00, id, zeros 4, 9),
   (0x0B02, withKcp fun k => { k with sess := k.sess.set 0 { isOpen := true, ep := .pcie 0, txn := some { id := 9 } } }, zeros 4, 9),
   (0x0C03, id, zeros 4, 0), (0x0F00, id, fill 4 [(20, 4, 60)], 0), (0x0F01, id, zeros 4, 0),
   (0x0F02, withKcp fun k => { k with window := some 60 }, fill 8 [(20, 4, 0x40000000), (24, 2, 1)], 0),
   (0x0F04, id, fill 4 [(20, 2, 1)], 0), (0x0F05, id, fill 8 [(24, 2, 1)], 0),
   (0x0F06, withFacets fun f => { f with st := f.st.set 0 7 }, zeros 4, 0),
   (0x0F07, id, fill 40 [(20, 1, 1), (24, 4, 0x4C435943), (28, 4, 7)], 0)]

/-- What O7 asks of a command that is answered at once. -/
def answersB (r : KcpRow) (p : Packet) (s : State) : Bool :=
  let u := s.received p
  let c := toCmd r.op p
  inOrderB r.op p s && r.spec.len c && (notAllowed r.spec c u).isNone && (!u.handingOver || r.spec.standby) &&
    (decide (c.txn = 0) || r.spec.ownTxn) && (r.spec.param c u).isNone && (r.spec.busy c u).isNone &&
    decide ((r.spec.run c u).2.1.status = stOK)

/-- Every opcode of O7 has a packet and a state that answers it at once. -/
theorem test_o7_hypotheses : ∀ r ∈ immediateRows, ∃ p s, InOrder r.op p s ∧ answersB r p s = true := by
  have h : ∀ r ∈ immediateRows, ∃ e ∈ immediateCases, answersB r (pk r.op e.2.2.1 1 e.2.2.2) (e.2.1 live) = true := by decide +kernel
  intro r hr
  obtain ⟨e, -, he⟩ := h r hr
  refine ⟨_, _, ?_, he⟩
  simp only [answersB, Bool.and_eq_true] at he
  obtain ⟨⟨⟨⟨⟨⟨⟨a, -⟩, -⟩, -⟩, -⟩, -⟩, -⟩, -⟩ := he
  exact inOrder_of (pk_carat ..) a
/-- Session 0 of `live` as `t`. -/
def withSess (t : Session) : State := withKcp (fun k => { k with sess := k.sess.set 0 { t with isOpen := true, ep := .pcie 0 } }) live

theorem test_shape : State.Shape State.reset ∧ State.Shape live ∧ State.MemOk live := by
  unfold State.Shape State.MemOk; decide +kernel

/-- Every opcode of O8. -/
theorem test_o8_hypotheses : (∀ r ∈ readRows, ∃ e ∈ immediateCases, answersB r (pk r.op e.2.2.1) (e.2.1 live) = true ∧
      admittedB r.spec (toCmd r.op (pk r.op e.2.2.1)) ((e.2.1 live).received (pk r.op e.2.2.1)) = true) ∧
    inOrderB 0 (pk 0 (zeros 4)) live = true ∧ bootServes live (.pcie 0) = false ∧ framedB 3 (pk 3 (zeros 4)) live = true := by
  decide +kernel
/-- R228: SYS_INFO's answer, read from the ring pair that waits for a buffer. -/
theorem test_sysInfo : after (.sysInfo (pk 0 (zeros 4))) live (fun t => ((t.ring 0).waiting.map fun p => (p.bytes.drop 40).take 16) ==
    [[0, 0, 0x90, 0x12, 0, 0, 0, 0xB0, 0, 0, 0, 0, 0, 0, 0, 0]]) = true := by decide +kernel

/-- O9: an open of a session that its sender already holds, and commands of that session. -/
theorem test_o9_open : after (.sysSessionOpen (pk 1 (fill 4 [(22, 2, 0x8000)]) 7)) (withSess { h := 90, seen := 5, evSeq := 4 })
    (fun t => (t.sess 0).isOpen && (t.sess 0).h == 7 && (t.sess 0).seen == 1 && (t.sess 0).evSeq == 0 && (t.sess 0).mask == 0x8000) = true := by
  decide +kernel
theorem test_o9_hypotheses : framedB 1 (pk 1 (fill 4 [(22, 2, 0x8000)]) 7) live = true ∧
    (∀ y < 8, y ≠ 0 → live.bound y (.pcie 0) = false) ∧ hasAuth (pk 1 (zeros 4)) = false ∧ live.standby = false ∧
    ((live.takeRx (.pcie 0)).handingOver = false) ∧ (∀ k < 4, (live.np k).reduced = false) ∧
    (live.received (pk 4 (zeros 4))).paired = false ∧ admittedB specEventMask (toCmd 4 (pk 4 (zeros 4))) (live.received (pk 4 (zeros 4))) = true ∧
    inOrderB 0x0B00 (pk 0x0B00 (zeros 4) 1 9) live = true ∧ (live.sess 0).txn = none ∧ (live.sess 0).timed = [] ∧
    inOrderB 0x0B02 (pk 0x0B02 (zeros 4) 1 9) (withSess { txn := some { id := 9 } }) = true := by decide +kernel
theorem test_o9_begin : after (.txnBegin (pk 0x0B00 (zeros 4) 1 9)) live (fun t => (t.sess 0).txn == some { id := 9 }) = true := by
  decide +kernel
theorem test_o9_close : after (.sysSessionClose (pk 2 (zeros 4))) live (fun t => !(t.sess 0).isOpen) = true := by decide +kernel

/-- O10: a key is stored and erased; the window opens and closes; a register is written through it. -/
theorem test_o10_key : after (.sysKeySet (pk 5 (fill 36 [(20, 1, 1), (21, 1, 2), (24, 4, 7)]))) live
    (fun t => (nth none t.sec.keys 1).any fun k => k.admin && !k.diag && k.key == [0, 0, 0, 7] ++ zeros 28) = true := by decide +kernel
theorem test_o10_window : after (.diagWindowUnlock (pk 0x0F00 (fill 4 [(20, 4, 3600)]))) (withSess { mask := 0 })
    (fun t => t.kcp.window == some 3600) = true := by decide +kernel
theorem test_o10_lock : after (.diagWindowLock (pk 0x0F01 (zeros 4))) (withKcp (fun k => { k with window := some 1 }) (withSess { mask := 0 }))
    (fun t => t.kcp.window.isNone) = true := by decide +kernel
/-- DIAG_REG_WRITE of a comparator's period. -/
def regWritePk : Packet := pk 0x0F03 (fill 12 [(20, 4, aTime + 0x210), (24, 2, 1), (28, 4, 5000)])
theorem test_o10_regWrite : after (.diagRegWrite regWritePk) (withKcp (fun k => { k with window := some 60 }) live)
    (fun t => t.reg (aTime + 0x210) == 5000) = true := by decide +kernel
theorem test_o10_hypotheses : adminTag (toCmd 5 (pk 5 (zeros 36))) live = true ∧ live.sec.tamperLow = false ∧
    (let s := withKcp (fun k => { k with window := some 60 }) live
     let u := s.received regWritePk
     let c := toCmd 0x0F03 regWritePk
     inOrderB 0x0F03 regWritePk s = true ∧ admittedB specRegWrite c u = true ∧ regParam c = none ∧ regReserved c s = false ∧
       (regWrites (c.at 20 4) (regValues c) 0 u).1 = none) ∧
    (∀ x < 8, (((withSess { mask := 0x7FFF }).received (pk 0x0F00 (zeros 4))).sess x).mask.testBit 15 = false ∨ x ≠ 0) := by
  decide +kernel

/-- O11: a CHAIN_SET is staged; commits of an empty transaction, and of one that holds it. -/
def chainSetPl : List Byte := fill 20 [(24, 4, 1), (28, 2, 100)]
def openTxn (l : List Staged) : State := withSess { txn := some { id := 9, cmds := l } }
theorem test_o11_stage : after (.chainSet (pk 0x0400 chainSetPl 1 9)) (openTxn [])
    (fun t => ((t.sess 0).txn.map fun q => q.cmds.length) == some 1 && t.delta.entries.isEmpty) = true := by decide +kernel
theorem test_o11_commit : after (.txnCommit (pk 0x0B01 (zeros 12) 2 9)) (openTxn [{ seq := 1, op := 0x0400, payload := chainSetPl }])
    (fun t => (t.sess 0).txn.isNone && t.delta.entries.length == 1) = true := by decide +kernel
theorem test_o11_hypotheses : specChainSet.txn = true ∧ inOrderB 0x0400 (pk 0x0400 chainSetPl 1 9) (openTxn []) = true ∧
    inOrderB 0x0B01 (pk 0x0B01 (zeros 12) 2 9) (openTxn []) = true ∧ wholeCheck live.projected live.projected 0 [] = none ∧
    (match runSet live.projected [stagedCmd (.pcie 0) 0 9 false { seq := 1, op := 0x0400, payload := chainSetPl }] with
      | .ok _ => true | .error _ => false) = true := by decide +kernel

/-- O12: a packet one byte too long, one with a bad Carat, one without a tag where tags are asked for, a duplicate, a stale number. -/
theorem test_o12_drops : badFrame live { pk 7 (zeros 4) with received := 29 } = true ∧
    (badFrame live { pk 7 (zeros 4) with carat := 0 } = false ∧ badCarat 7 { pk 7 (zeros 4) with carat := 0 } = true) ∧
    (let s := { live with sec := { live.sec with lifecycle := 2 } }
     let p := { pk 7 (zeros 4) with ep := .udp 0 1 2 }
     badFrame s p = false ∧ badCarat 7 p = false ∧ badTag s 7 p = true) := by decide +kernel
theorem test_o12_dup : after (.sysStatus (pk 7 (zeros 4) 5)) (withSess { h := 5, seen := 1, replies := [(5, some (answered [1]))] })
    (fun t => ((t.ring 0).waiting.map fun p => nth 0 p.bytes 3) == [9] &&
      (t.sess 0).h == 5) = true := by decide +kernel
theorem test_o12_hypotheses : (seqTest 5 1 5).1 = .dup ∧ (seqTest 100 1 36).1 = .stale ∧ (seqTest 100 1 37).1 = .new ∧
    (seqTest 0xFFFFFFFF 1 0).1 = .new ∧ framedB 7 (pk 7 (zeros 4) 5) (withSess { h := 5, seen := 1 }) = true := by decide +kernel

/-- O13: an event of ring pair 0's session waits for a buffer; the SPI slave's session has it in its buffer. -/
theorem test_o13_event : (fun (t : State) => (t.sess 0).evSeq == 0 && t.kcp.spiOut.length == 1)
    (sendEvent 0x8100 7 [1, 2, 3, 4] 0 (withKcp (fun k => { k with sess := k.sess.set 0 { isOpen := true, ep := .spi, evSeq := 0xFFFFFFFF } }) live)) =
    true := by decide +kernel
theorem test_o13_hypotheses : (live.ring 3).posted = [] ∧ (live.ring 3).waiting = [] ∧ (live.sess 0).isOpen = true ∧
    (live.sess 0).mask.testBit (0x8100 / 256 % 16) = true ∧ (live.sess 1).isOpen = false ∧ secOf live.nowNs < 2 ^ 64 := by decide +kernel

/-- A reply on network port 4 while it is paused, and while it is not. -/
def udpReply : OutPkt := { ep := .udp 4 1 2, session := 0, seq := 1, op := 7, txn := 0, tagged := false, body := .reply (answered [1]) false [] }
def port4 (pause : Nat) : State := withNet (fun n => { n with port := n.port.set 4 { up := true, pause := pause } })
  (withPower (fun p => { p with dom := List.replicate 11 1 }) live)
theorem test_o13_paused : ((((port4 3).deliver udpReply).out.isEmpty && (((port4 3).deliver udpReply).np 4).own.length == 1) &&
    ((port4 0).deliver udpReply).out.length == 1) = true := by decide +kernel

/-- O14: the part in recovery, its DRAM trained. -/
def recovery : State :=
  withMem (fun m => { m with st := 3, capacity := 4 }) { State.reset with boot := { State.reset.boot with phase := .recovery, env := some { slot0 := none, slot1 := none } } }
theorem test_o14_write : after (.bootWrite (pk 0x11 (fill 8 [(20, 4, 64), (24, 4, 0x01020304)]))) recovery
    (fun t => t.memBytes (dramLo + 64) 4 == [1, 2, 3, 4]) = true := by decide +kernel
/-- The same part once the image is pushed. -/
def pushed : State := recovery.memWrite dramLo image
theorem pushed_bytes : pushed.readBytes dramLo 916 = image := by
  have h := State.memBytes_memWrite (s := recovery) (by unfold State.MemOk; decide +kernel) dramLo image
  rw [show image.length = 916 by decide +kernel] at h
  have e : pushed.readBytes dramLo 916 = pushed.memBytes dramLo 916 := by
    unfold State.readBytes State.memBytes
    apply List.map_congr_left
    intro i _
    unfold State.readByte
    have : secLo ≤ dramLo := by decide
    rw [if_neg (by unfold dramLo; omega), if_neg (by omega), if_neg (by unfold dramLo crownBlocks; omega)]
  rw [e]; exact h
theorem pushed_image : pushedImage pushed = image := by
  have h : pushed.readBytes dramLo 912 = image.take 912 := by
    rw [← pushed_bytes]; unfold State.readBytes; rw [← List.map_take, List.take_range]; rfl
  unfold pushedImage
  simp only [h]
  rw [show ((imgSections (if leAt (image.take 912) 12 4 > 16 then [] else image.take 912)).map fun q => q.1 + q.2.1).foldl max 912 = 916
    by decide +kernel]
  exact pushed_bytes
theorem test_o14_start : tryImg pushed (some (pushedImage pushed)) = 0 := by
  rw [pushed_image]; exact test_image _ rfl rfl
theorem test_o14_unknown : after (.bootStatus (pk 0x10 (zeros 4))) live
    (fun t => ((t.ring 0).waiting.map fun p => beAt p.bytes 20 2) == [0x0103]) = true := by decide +kernel
theorem test_o14_hypotheses : bootServes recovery (.pcie 0) = true ∧ badFrame recovery (pk 0x11 (zeros 8)) = false ∧
    badHeader (pk 0x11 (zeros 8)) = false ∧ recovery.mem.dramFailed = false ∧ inOrderB 0x12 (pk 0x12 (zeros 4)) live = true := by decide +kernel

/-! ### Facets -/

/-- A slot of Facet 0, its bundle's last, with its fields in bits 23 to 0 or 27 to 0. -/
def slot (f : Nat) (last : Bool := true) : Issue := { k := 0, f := BitVec.ofNat 28 f, last := last }

/-- Fields of the register form. -/
def regF (d a b : Nat) (sat : Nat := 0) (pred : Nat := 0) (rnd : Nat := 0) (mod : Nat := 0) : Nat :=
  sat * 2 ^ 23 + pred * 2 ^ 20 + d * 2 ^ 15 + a * 2 ^ 10 + b * 2 ^ 5 + rnd * 2 ^ 3 + mod

/-- Fields of the memory form. -/
def memF (pred dr base off : Nat) : Nat := pred * 2 ^ 25 + dr * 2 ^ 20 + base * 2 ^ 15 + off

/-- Facet 0 with these registers. -/
def core0 (c : FacetCore) : State := withFacets (fun f => { f with core := [(0, { c with run := true })] }) live

/-- S1 and S2. -/
def twoS (a b : Word) : State := core0 { s := [(1, a), (2, b)] }

/-- V1 and V2, each lane alike. -/
def twoV (a b : Word) : State := core0 { v := [(1, List.replicate 16 a), (2, List.replicate 16 b)] }

/-- R168: without SAT the sum wraps; with it, it is clamped and SATF set. -/
theorem test_add_wraps : after (.add (slot (regF 3 1 2))) (twoS 0x7FFFFFFF 1)
    (fun t => (t.core 0).rS 3 == 0x80000000 && !(t.core 0).satf) = true := by decide +kernel
theorem test_add_clamps : after (.add (slot (regF 3 1 2 1))) (twoS 0x7FFFFFFF 1)
    (fun t => (t.core 0).rS 3 == 0x7FFFFFFF && (t.core 0).satf) = true := by decide +kernel
theorem test_sub : after (.sub (slot (regF 3 1 2))) (twoS 3 5) (fun t => (t.core 0).rS 3 == 0xFFFFFFFE) = true := by decide +kernel
/-- R167: an immediate of ten bits, signed. -/
theorem test_addi_signed : after (.addi (slot (3 * 2 ^ 15 + 1 * 2 ^ 10 + 1023))) (twoS 5 0) (fun t => (t.core 0).rS 3 == 4) = true := by
  decide +kernel
/-- R169: ties to even and away from zero. -/
theorem test_sra_even : after (.sra (slot (regF 3 1 2 0 0 1))) (twoS 0xFFFFFFFB 1) (fun t => (t.core 0).rS 3 == 0xFFFFFFFE) = true := by
  decide +kernel
theorem test_sra_away : after (.sra (slot (regF 3 1 2 0 0 2))) (twoS 0xFFFFFFFB 1) (fun t => (t.core 0).rS 3 == 0xFFFFFFFD) = true := by
  decide +kernel
/-- A predicate whose bit 0 is clear suppresses the result. -/
theorem test_add_suppressed : after (.add (slot (regF 3 1 2 0 1))) (twoS 7 1) (fun t => (t.core 0).rS 3 == 0) = true := by decide +kernel
/-- R167: a product is there after three bundles, not after one. -/
theorem test_mul_latency : after (.mul (slot (regF 3 1 2))) (twoS 7 6) (fun t => (t.core 0).rS 3 == 0 &&
    after (.nop (slot 0)) t fun t => after (.nop (slot 0)) t fun t => (t.core 0).rS 3 == 42) = true := by decide +kernel
theorem test_cmplt_signed : after (.cmplt (slot (regF 1 1 2))) (twoS 0xFFFFFFFF 0) (fun t => (t.core 0).rP 1 == 0xFFFF) = true := by
  decide +kernel
theorem test_cmpltu_unsigned : after (.cmpltu (slot (regF 1 1 2))) (twoS 0xFFFFFFFF 0) (fun t => (t.core 0).rP 1 == 0) = true := by
  decide +kernel
/-- R167: VABS of the most negative number with SAT. -/
theorem test_vabs_clamps : after (.vabs (slot (regF 3 1 0 1))) (twoV 0x80000000 0)
    (fun t => (t.core 0).vW 3 15 == 0x7FFFFFFF && (t.core 0).satf) = true := by decide +kernel
theorem test_vnorm : after (.vnorm (slot (regF 3 1 0))) (twoV 0x00FF0000 0) (fun t => after (.nop (slot 0)) t
    fun t => (t.core 0).rS 3 == 7) = true := by decide +kernel
/-- A branch is taken after three empty cycles (R167). -/
theorem test_jmp : after (.jmp (slot 0x123)) (core0 {}) (fun t => (t.core 0).pc == 0x123 && (t.core 0).cyc == 4) = true := by decide +kernel
theorem test_dbnz_last : after (.dbnz (slot (1 * 2 ^ 10 + 5))) (twoS 1 0) (fun t => (t.core 0).rS 1 == 0 && (t.core 0).pc == 1) = true := by
  decide +kernel
/-- A store is read back by a load three bundles later (R170). -/
theorem test_store_then_load : after (.stW (slot (memF 0 1 2 0))) (twoS 0xCAFE0001 0x100) (fun t => after (.ldW (slot (memF 0 5 2 0))) t
    fun t => after (.nop (slot 0)) t fun t => after (.nop (slot 0)) t fun t => (t.core 0).rS 5 == 0xCAFE0001) = true := by decide +kernel
/-- An address that its access does not divide stops the Facet with cause 5. -/
theorem test_load_misaligned : after (.ldW (slot (memF 0 5 2 0))) (twoS 0 0x101)
    (fun t => (mget (0, 0) t.facets.fault 0).1 == 5) = true := by decide +kernel

theorem issues_slot (s : State) (f : Nat) (l : Bool) (r : (s.core 0).run = true) (h : (s.core 0).hold = false) : Issues s (slot f l) :=
  ⟨r, h, by change WordCheck.clean ≠ .uncorrectable; decide⟩

/-- Every row of O1 has legal fields, SAT among them where the row takes it. -/
theorem test_o1_hypotheses :
    (∀ r ∈ scalarRows, ∃ i s, Issues s i ∧ legalR i { sat := r.sat, rnd := r.rnd } = true ∧ (r.sat = true → i.sat = true)) ∧
    (∀ r ∈ compareRows, ∃ i s, Issues s i ∧ legalR i { d := 8 } = true) ∧
    (∀ r ∈ predicateRows, ∃ i s, Issues s i ∧ legalR i r.2.1 = true) := by
  refine ⟨fun r hr => ?_, fun r hr => ?_, fun r hr => ?_⟩
  · refine ⟨slot (regF 31 31 31 (if r.sat then 1 else 0)), core0 {}, issues_slot _ _ _ (by decide) (by decide), ?_, ?_⟩
    · revert r; decide +kernel
    · revert r; decide +kernel
  · refine ⟨slot (regF 7 31 31), core0 {}, issues_slot _ _ _ (by decide) (by decide), by decide +kernel⟩
  · refine ⟨slot 0, core0 {}, issues_slot _ _ _ (by decide) (by decide), ?_⟩
    revert r; decide +kernel

/-- The forms of O2. -/
theorem test_o2_hypotheses : Issues (core0 {}) (slot 0) ∧ (slot 0).f = 0 ∧ legalR (slot (regF 31 31 0)) { b := 0 } = true ∧
    legalR (slot (regF 12 31 0)) { d := 13, b := 0 } = true ∧ (slot 4095).ld = 0 ∧ (slot 4095).imm16 < 4096 ∧
    legalR (slot 0) { d := 0, a := 0, b := 0 } = true ∧ (slot (31 * 2 ^ 10)).sat = false ∧ (slot (31 * 2 ^ 10)).d = 0 ∧
    ((core0 {}).core 0).loop = none := ⟨issues_slot _ _ _ (by decide) (by decide), by decide +kernel⟩

/-- Every row of O3. -/
theorem test_o3_hypotheses :
    (∀ r ∈ vectorRows ++ accumulatorRows, ∃ i s, Issues s i ∧ legalR i r.uses = true ∧ (r.uses.sat = true → i.sat = true)) ∧
    (∀ r ∈ laneCompareRows, ∃ i s, Issues s i ∧ legalR i { d := 8 } = true) ∧
    legalR (slot (regF 0 31 15)) { b := 16 } = true ∧ legalR (slot (regF 31 31 0 1)) { sat := true, b := 0 } = true ∧
    ((core0 { p := [(1, 0xFFFE)] }).core 0).rP 1 % 2 = 0 ∧ legalR (slot (regF 31 31 31)) {} = true := by
  refine ⟨fun r hr => ?_, fun r hr => ?_, by decide +kernel⟩
  · refine ⟨slot (regF 0 0 0 (if r.uses.sat then 1 else 0)), core0 {}, issues_slot _ _ _ (by decide) (by decide), ?_, ?_⟩
    · revert r; decide +kernel
    · revert r; decide +kernel
  · exact ⟨slot (regF 7 31 31), core0 {}, issues_slot _ _ _ (by decide) (by decide), by decide +kernel⟩

/-- Every row of O4, and VBFLY. -/
theorem test_o4_hypotheses : (∀ r ∈ multiplierRows, ∃ i s, Issues s i ∧ legalR i r.row.uses = true ∧ (s.core i.k.val).hot = false ∧
      i.residue = false) ∧
    legalR (slot (regF 30 31 31 1)) { sat := true, rnd := true } = true ∧ (slot (regF 30 31 31 1)).d % 2 = 0 := by
  refine ⟨fun r hr => ⟨slot (regF 7 31 31 1), core0 {}, issues_slot _ _ _ (by decide) (by decide), ?_, by decide +kernel⟩, by decide +kernel⟩
  revert r; decide +kernel

/-- O5 at the last address of data memory, and suppressed. -/
theorem test_o5_hypotheses :
    (∀ r ∈ loadRows, ∃ i s, Issues s i ∧ i.dr < r.regs ∧ (s.core 0).rP i.mPred % 2 = 1 ∧ (memAddr (s.core 0) i r.size).1 + r.size = 0x80000 ∧
      (memAddr (s.core 0) i r.size).1 % r.size = 0 ∧ (s.core 0).xfers = []) ∧
    (∀ r ∈ storeRows, ∃ i s, Issues s i ∧ i.dr < r.regs ∧ (memAddr (s.core 0) i r.size).1 + r.size = 0x80000 ∧ (s.core 0).stored = false) ∧
    (live.core 0).rP (slot (memF 1 0 0 0)).mPred = 0 ∧ (slot 0).dmem ≠ .uncorrectable := by
  refine ⟨fun r hr => ?_, fun r hr => ?_, by decide +kernel⟩
  · refine ⟨slot (memF 0 7 2 0), twoS 0 (BitVec.ofNat 32 (0x80000 - r.size)), issues_slot _ _ _ (by rfl) (by rfl), ?_⟩
    revert r; decide +kernel
  · refine ⟨slot (memF 0 7 2 0), twoS 0 (BitVec.ofNat 32 (0x80000 - r.size)), issues_slot _ _ _ (by rfl) (by rfl), ?_⟩
    revert r; decide +kernel

/-- LOOP's last bundle in a pass. -/
def loopEnd (pass : Nat) : State := core0 { pc := 5, loop := some { start := 4, len := 2, count := 2, stages := 2, pass := pass } }

theorem test_o15_loop_goes_on : (fun (d : FacetCore) => d.pc == 4 && d.carousel == 1 && d.rP 4 == 0xFFFF &&
    d.rP 5 == 0xFFFF && d.rP 6 == 0) (((loopEnd 0).endBundle 0).core 0) = true := by decide +kernel
theorem test_o15_loop_ends : (fun (d : FacetCore) => d.pc == 6 && d.loop.isNone && d.rP 4 == 0)
    (((loopEnd 2).endBundle 0).core 0) = true := by
  decide +kernel
theorem test_o15_hypotheses : ((loopEnd 1).core 0).hold = false ∧ ((loopEnd 1).core 0).ending = false ∧
    ((loopEnd 1).core 0).branch = none ∧ ((loopEnd 1).core 0).newLoop = none ∧ ((loopEnd 1).core 0).flight = [] ∧
    ((core0 { flight := [(1, 0, .s 3 9)] }).core 0).flight = [(((live.core 0).issued + 1), 0, .s 3 9)] ∧
    ((core0 { branch := some 7, skip := some 9, hold := true }).core 0).hold = true := by decide +kernel

/-- R165, R166: words written out from Tables FACET-3 to FACET-7: ADD S3 = S1 + S2 with SAT under P1, VMAC A2 with V1 and V31, LD.V
V5 from S2 with U at offset -1 in slot 3, NOP, and reserved opcodes. -/
theorem test_decodeSlots :
    decodeSlot 7 0 0b00000001_1_001_00011_00001_00010_00_000#32 = some (.add { k := 7, f := 0b1_001_00011_00001_00010_00_000#28, last := false }) ∧
    decodeSlot 7 1 0b00010001_0_000_00010_00001_11111_00_000#32 = some (.vmac { k := 7, f := 0b0_000_00010_00001_11111_00_000#28, last := false }) ∧
    decodeSlot 7 3 0b0011_000_00101_00010_1_0_1111111111111#32 =
      some (.ldV { k := 7, f := 0b000_00101_00010_1_0_1111111111111#28, m := 1, last := true }) ∧
    decodeSlot 0 2 0 = some (.nop { k := 0, f := 0, m := 0, last := false }) ∧
    decodeSlot 0 0 0x11000000 = none ∧ decodeSlot 0 1 0x3F000000 = none ∧ decodeSlot 0 3 0x80000000 = none := by decide +kernel
theorem test_slotWord : slotWord 1 true 1 3 1 2 0 0 = 0b00000001_1_001_00011_00001_00010_00_000#32 ∧
    memWord 3 0 5 2 true false (-1) = 0b0011_000_00101_00010_1_0_1111111111111#32 := by decide +kernel
theorem test_o16_reserved : (fun (t : State) => (mget (0, 0) t.facets.fault 0).1 == 4 && !(t.core 0).run)
    ((core0 {}).issueSlot 0 (1, 0x3F000000)) = true := by decide +kernel

/-- O16: an unreadable word, an illegal field (RND 3), RESET and its absence, a self-test, and a spare. -/
theorem test_o16_unreadable : after (.add { slot (regF 3 1 2) with pmem := .uncorrectable }) (core0 {})
    (fun t => (mget (0, 0) t.facets.fault 0).1 == 3) = true := by decide +kernel
theorem test_o16_illegal : after (.add (slot (regF 3 1 2 0 0 3))) (core0 {}) (fun t => (mget (0, 0) t.facets.fault 0).1 == 4) = true := by
  decide +kernel
theorem test_o16_reset : after (.facetReset 5 0x20000) live (fun t => t.fst 5 == 1) = true := by decide +kernel
theorem test_o16_run : after (.facetRunSet 5 0x10123) live (fun t => t.reg (aFacet 5) == 0x10123) = true := by decide +kernel
theorem test_o16_selftest : after (.selftestComplete 5 true) (withFacets (fun f => { f with st := f.st.set 5 6 }) live)
    (fun t => t.fst 5 == 4) = true := by decide +kernel

/-- Facet 2 has stopped and Facet 9 is the one spare. -/
def oneSpare : State :=
  withTime (fun t => { t with l := 20000 * 2 ^ 48 })
    (withFacets (fun f => { f with st := (f.st.set 2 2).set 9 4, stopped := [(2, 0)] }) live)

theorem test_o16_spare : after (.spareReplacement 2 .kernel) oneSpare (fun t => t.fst 9 == 2 && t.fst 2 == 5) = true := by decide +kernel
theorem test_o16_hypotheses : reservedWrite (aFacet 5) 0x20000 = false ∧ reservedWrite (aFacet 63) 0x50FFF = false ∧
    mfind oneSpare.facets.stopped 2 = some 0 ∧ oneSpare.fst 9 = 4 ∧ (∀ i < 9, oneSpare.fst i ≠ 4) ∧ (∀ i < 2, mfind oneSpare.facets.stopped i = none) ∧ 0 + 20000 ≤ oneSpare.lNs := by
  decide +kernel

/-- O17: a GET of 64 bytes to the end of data memory, inside the window of Facet 0; the same while its tag is outstanding; GWAIT. -/
def girdle (busy : Bool) : State :=
  ((core0 { s := [(1, 0x7FFC0), (2, 0x20000), (3, 64), (4, 8)]
            xfers := if busy then [{ tag := 3, put := false, localA := 0, remote := 0x20000, len := 64, old := [] }] else [] }).setReg
    (aFacet 0 + 0x18) 2).setReg (aFacet 0 + 0x1C) 1

theorem test_o17_get : after (.get (slot (regF 3 1 2 0 0 0 3) false)) (girdle false)
    (fun t => (t.core 0).newX.isSome && !(t.core 0).hold) = true := by decide +kernel
/-- R180: a transfer starts at its bundle's end. -/
theorem test_o17_get_starts : after (.get (slot (regF 3 1 2 0 0 0 3))) (girdle false)
    (fun t => (t.core 0).xfers.length == 1 && (t.core 0).newX.isNone) = true := by decide +kernel
theorem test_o17_get_busy : after (.get (slot (regF 3 1 2 0 0 0 3) false)) (girdle true) (fun t => (t.core 0).hold) = true := by
  decide +kernel
theorem test_o17_gwait : after (.gwait (slot (regF 0 4 0) false)) (girdle true) (fun t => (t.core 0).hold) = true := by decide +kernel
theorem test_o17_complete : (after (.girdleTransferComplete 0 3 .busError) (girdle true) (fun t => (t.core 0).gdone == 8 && (t.core 0).gerr == 8) &&
    after (.girdleTransferComplete 0 3 (.whole .clean)) (girdle true) (fun t => (t.core 0).gdone == 8 && (t.core 0).gerr == 0)) = true := by
  decide +kernel
/-- A PUT of 64 bytes from 0x100 to the user partition, its tag 5. -/
def putting : State := core0 { xfers := [{ tag := 5, put := true, localA := 0x100, remote := 0x25A00000, len := 64, old := List.replicate 64 9 }] }
theorem test_o17_put : after (.girdleTransferComplete 0 5 (.whole .clean)) putting
    (fun t => (t.core 0).gdone == 32) = true := by decide +kernel
/-- No free slot for its fourth cycle in a row, under a reservation that waits that long, and for its third. -/
def gresAt (n : Nat) : State := (core0 { full := n }).setReg (aFacet 0 + 16) 4
theorem test_o17_gres : (after (.girdleReservationStall 0) (gresAt 3) (fun t => (t.core 0).full == 0 && (t.core 0).cyc == 1) &&
    after (.girdleReservationStall 0) (gresAt 2) (fun t => (t.core 0).full == 2 && (t.core 0).cyc == 0)) = true := by decide +kernel
theorem test_o17_hypotheses : (girdle false).inWin 0 0x18 0x20000 64 = true ∧ legalR (slot (regF 3 1 2 0 0 0 3)) { mod := true } = true ∧
    legalR (slot (regF 0 4 0)) { d := 0, b := 0 } = true ∧ ((girdle true).core 0).run = true ∧ putting.spanOk 0x25A00000 64 = true ∧
    (girdle true).spanOk 0x20000 64 = true ∧ gresN (gresAt 3) 0 ≤ 3 + 1 ∧ 2 + 1 < gresN (gresAt 2) 0 := by decide +kernel

/-- O18: a kernel of Facet 3 that may run, and one whose budget runs out at its limit. -/
def kernelRun (run : Bool) (limit : Nat) : State :=
  (withFacets (fun f => { f with
      kernels := [(0, { facet := 3, entry := 0, budget := 1000, start := 0, shareAt := 0, share := 0, limit := limit, run := true })]
      core := [(3, { run := run })] }) (kernel0 (withRender (fun r => { r with run := true, n := 40 }) live))).setReg (aFacet 3) 0x10007

theorem test_o18_start : after (.facetRunStart 3 .kernel {}) (kernelRun false 1)
    (fun t => (t.core 3).run && (t.core 3).pc == 7 && (t.core 3).blk == 42) = true := by decide +kernel
theorem test_o18_expiry : after (.budgetExpiry 3) (kernelRun true 0)
    (fun t => !(t.core 3).run && (mget (0, 0) t.facets.fault 3).1 == 7 && t.facets.kernels.all fun e => e.2.suspended) = true := by
  decide +kernel

/-! ### Transports -/

/-- Ring pair 0 enabled, with `n` entries in each ring. -/
def ring0 (n : Word) : State := (((live.setReg (aRing 0 + 0x40) 1).setReg (aRing 0 + 8) n).setReg (aRing 0 + 0x28) n)

/-- O19: a tail at the last entry is stored; one at the ring's size sets BAD_DB. -/
theorem test_o19_tail : after (.cmdTailDoorbell 0 15) (ring0 16) (fun t => t.reg (aRing 0 + 0xC) == 15 && t.reg (aRing 0 + 0x44) == 0) = true := by
  decide +kernel
theorem test_o19_badTail : after (.cmdTailDoorbell 0 16) (ring0 16)
    (fun t => t.reg (aRing 0 + 0xC) == 0 && t.reg (aRing 0 + 0x44) == 0x100) = true := by decide +kernel
theorem test_o19_post : after (.rplTailPost 0 2 [{ addr := 64, len := 256 }, { addr := 1024, len := 512 }]) (ring0 16)
    (fun t => (t.ring 0).posted == [(64, 256), (1024, 512)]) = true := by decide +kernel
def ringRead (a n : Nat) (e : Bool) : RingRead := { addr := a, len := n, bytes := zeros 28, error := e }
def ringFull : State := ((ring0 16).setRing 0 fun r => { r with posted := [(64, 256)] }).setReg (aRing 0 + 0xC) 1
theorem test_o19_noBuffer : after (.ringReadCompletion 0 (ringRead 64 28 false)) ((ring0 16).setReg (aRing 0 + 0xC) 1)
    (fun t => t.kcp.rx.isEmpty) = true := by decide +kernel
theorem test_o19_badBuffer : after (.rplTailPost 0 1 [{ addr := 64, len := 256, reserved := 1 }]) (ring0 16) (fun t => ringCause t 0 == 1) = true := by
  decide +kernel
theorem test_o19_read : after (.ringReadCompletion 0 (ringRead 64 28 false)) ringFull
    (fun t => t.kcp.rx.length == 1 && t.reg (aRing 0 + 0x10) == 1) = true := by decide +kernel
theorem test_o19_halts : [(2, 28, false, 1), (64, 65561, false, 2), (64, 28, true, 3)].all (fun (e : Nat × Nat × Bool × Nat) =>
    after (.ringReadCompletion 0 (ringRead e.1 e.2.1 e.2.2.1)) ringFull
      fun t => ringCause t 0 == e.2.2.2 && !(t.sess 0).isOpen) = true := by decide +kernel
theorem test_o19_hypotheses : reservedWrite (aRing 3 + 0xC) 0xFFF = false ∧ reservedWrite (aRing 3 + 0x2C) 0xFFF = false ∧
    ringRuns (ring0 16) 0 = true ∧ ringEntries (ring0 16) 0 8 = 16 ∧ goodBuffer { addr := 64, len := 256 } = true ∧ (ringFull.ring 0).posted ≠ [] ∧ (ringFull.ring 0).waiting = [] ∧ ((ring0 16).ring 0).waiting = [] ∧
    (ring0 16).reg64 (aRing 0 + 0x48) = 0 := by decide +kernel

/-- O20: both edges of ENABLE, and the timers. -/
theorem test_o20_disable : after (.ringCtlWrite 0 0) (ring0 16) (fun t => !(t.sess 0).isOpen && !ringEnabled t 0) = true := by decide +kernel
theorem test_o20_enable : after (.ringCtlWrite 0 1) (live.setReg (aRing 0 + 0x10) 3) (fun t => t.reg (aRing 0 + 0x10) == 0) = true := by
  decide +kernel
theorem test_o20_flr : after .pcieFlr (ring0 16) (fun t => !(t.sess 0).isOpen) = true := by decide +kernel
def coal0 : State := (withKcp (fun k => { k with rings := k.rings.set 0 { coal := 2 } }) live).setReg (aRing 0 + 0x40) 0x00010001
theorem test_o20_coalesced : after (.coalescingTimeExpiry 0) coal0 (fun t => (t.ring 0).coal == 0) = true := by decide +kernel
def evPkt : OutPkt := { ep := .spi, session := 0, seq := 0, op := 0x8100, txn := 0, tagged := false, body := .event 0 0 [] false }
def spiEvent : State := withKcp (fun k => { k with sess := k.sess.set 0 { isOpen := true, ep := .spi }, spiOut := [evPkt] }) live
theorem test_o20_drop : after (.eventDrop 0) spiEvent (fun t => t.kcp.spiOut.isEmpty && (t.sess 0).loss) = true := by decide +kernel
/-- R215: an event that waits behind the dropped one says that one was lost. -/
theorem test_o20_dropSaid : after (.eventDrop 0) (withKcp (fun k => { k with spiOut := [evPkt, { evPkt with seq := 1 }] }) spiEvent)
    (fun t => t.kcp.spiOut == [{ evPkt with seq := 1, body := .event 0 0 [] true }] && !(t.sess 0).loss) = true := by decide +kernel
def udp0 : State := withKcp (fun k => { k with
  sess := k.sess.set 0 { isOpen := true, ep := .udp 4 1 2 }, pieces := [{ session := 0, op := 0x500, name := 3, txn := 0, bytes := [] }] }) live
theorem test_o20_idle : after (.sessionIdleTimeout 0) udp0 (fun t => !(t.sess 0).isOpen && t.delta.entries.length == 1) = true := by
  decide +kernel
theorem test_o20_pieces : after (.piecedObjectDiscard 0 0x500 3) udp0 (fun t => t.kcp.pieces.isEmpty) = true := by decide +kernel
theorem test_o20_hypotheses : reservedWrite (aRing 0 + 0x40) 0 = false ∧ reservedWrite (aRing 0 + 0x40) 1 = false ∧
    ringEnabled (ring0 16) 0 = true ∧ ringEnabled live 0 = false ∧ (coal0.ring 0).coal = 2 ∧
    (coal0.reg (aRing 0 + 0x40)).toNat / 65536 % 1024 ≠ 0 ∧ isUdp (udp0.sess 0).ep = true ∧ (udp0.sess 0).idle ≠ 0 := by decide +kernel

/-- O21: the window's answers, and the SPI slave's. -/
def window0 : State := withKcp (fun k => { k with window := some 5 }) live
theorem test_o21_closed : after (.bar2Access 0 4 none) live (fun t => t.out == [.bar2 1 0]) = true := by decide +kernel
theorem test_o21_word : after (.bar2Access 0 4 none) window0 (fun t => t.out == [.bar2 0 0x9012]) = true := by decide +kernel
theorem test_o21_write : after (.spiWrite (beBytes 4 0x4B430100 ++ beBytes 4 28 ++ zeros 20)) live (fun t => rxBusy t) = true := by
  decide +kernel
theorem test_o21_badWrite : after (.spiWrite (zeros 28)) live
    (fun t => !rxBusy t && (mget {} t.cnts (kDev 6)).live == 1) = true := by decide +kernel
theorem test_o21_status : after .spiStatus live (fun t => t.out == [.spi [4]]) = true := by decide +kernel
theorem test_o21_read : after (.spiRead 44) spiEvent (fun t => t.kcp.spiOut.isEmpty) = true := by decide +kernel
theorem test_o21_hypotheses : windowOpen live = false ∧ windowOpen window0 = true ∧ reservedReq window0 (bar2Req 0 4 none) = false ∧
    reservedReq window0 (bar2Req 1 2 none) = false ∧ spiAlive live = true ∧ rxBusy live = false := by decide +kernel

/-! ### The render -/

/-- The render runs, at block 100. -/
def running : State := withRender (fun r => { r with run := true, n := 100 }) live

/-- O22: a plain boundary, and a render Facet's run of a feed, a column and an object. -/
def renderFacet : State := withFacets (fun f => { f with st := f.st.set 2 2 })
  (withRender (fun r => { r with feedRt := [(1023, { on := true })], objs := [(7, { zone := 0 })], zones := [(0, { enable := true })] }) (running.setReg (aFacet 2) 0x10000))
theorem test_o22_chain : after (.facetRunStart 2 (.chains [1023]) {}) renderFacet
    (fun t => (t.blk (chId 4 1023)).map (fun b => b.num) == some 102) = true := by decide +kernel
/-- A committed ZONE_SET that enables zone 3. -/
def zoneEntry : Entry := .command (.pcie 0) 0 1 0x0100 0 false (fill 40 [(20, 2, 3), (24, 4, 1), (28, 1, 1)]) { status := stOK, touched := 2, succeeded := 2 } []
def committed : State := withDelta (fun d => { d with
  closed := some { boundary := 101, seq := 3, verify := false, entries := [zoneEntry] }, committed := true }) running
theorem test_o22_zoneSet : ((running.applyEntry zoneEntry).zone 3).enable = true ∧ committed.render.run = true ∧
    committed.delta.committed = true ∧ committed.delta.held = none := by decide +kernel
theorem test_o22_hypotheses : renderFacet.fst 2 = 2 ∧ mhas renderFacet.facets.stopped 2 = false ∧ (renderFacet.feedRt 1023).on = true ∧
    objRuns renderFacet 7 = true ∧ runsOn renderFacet 2 = true ∧ running.delta.closed = none ∧ running.delta.held = none ∧ running.time.sel.stepTo = none ∧ running.pair.handover = none ∧
    wbit (running.reg aInteg) 1 = false := by decide +kernel
/-- R119's hold: sixteen blocks, a ramp, zeros. -/
theorem test_o22_hold : (({ heldBlocks := 15, last := 9 } : FeedRt).hold.leaving == List.replicate 16 9 &&
    nth 1 ({ heldBlocks := 16, last := 16 } : FeedRt).hold.leaving 15 == 0 &&
    ({ heldBlocks := 17, last := 9 } : FeedRt).hold.leaving == List.replicate 16 0) = true := by decide +kernel

/-- O23: the cut-off, and the deadline with and without the standby's acknowledgement. -/
theorem test_o23_cutoff : after .deltaCutoff (withDelta (fun d => { d with seq := 0xFFFFFFFF }) running)
    (fun t => (t.delta.closed.map fun c => (c.boundary, c.seq)) == some (101, 0xFFFFFFFF) && t.delta.seq == 0) = true := by decide +kernel
def closedAt : Closed := { boundary := 101, seq := 3, verify := false, entries := [.timer (.confirm 0), .timer (.idle 1)] }
def deadline (acked : Bool) (s : State) : State := withDelta (fun d => { d with closed := some closedAt, acked := acked }) s
theorem test_o23_drop : after .ackDeadline (withDelta (fun d => { d with drops := 1 }) (deadline false (synced running)))
    (fun t => t.delta.drops == 2 && t.pair.peerCold && (t.delta.closed.map fun c => c.entries.length) == some 0) = true := by decide +kernel
theorem test_o23_commit : after .ackDeadline (deadline true (synced running)) (fun t => t.delta.committed && t.delta.drops == 0) = true := by
  decide +kernel
theorem test_o23_hypotheses : (synced running).paired = true ∧ running.paired = false ∧ running.serving = true ∧ running.standby = false ∧
    running.delta.cutoff = false := by decide +kernel

/-- O24: solves, switches and crossfades. -/
def solving (enabled : Bool) : State :=
  withRender (fun r => { r with zoneRt := [(3, { solving := true, live := { enabled := enabled }, run := { enabled := true } })] }) running
theorem test_o24_solved : after (.solveComplete 3 77 false) (solving false)
    (fun t => (t.zoneRt 3).pending == some { enabled := true } && (t.zoneRt 3).lastUs == 77) = true := by decide +kernel
theorem test_o24_failed : after (.solveComplete 3 77 true) (solving true) (fun t => (t.zoneRt 3).failed && (t.zoneRt 3).reason == 4) = true := by
  decide +kernel
def fades : State := withRender (fun r => { r with
  zones := [(3, { xfade := 16 })]
  zoneRt := [(3, { pending := some {}, outgoing := some {}, xStart := 87, gen := 65535 })]
  objRt := [(5, { jump := some { start := 99, oldD := 0 }, dopFade := some 99, place := some { start := 99, oldD := 0 },
                  xf := some { start := 0, n := 1648, equalGain := false } })]
  feedRt := [(9, { dFade := some (99, 3) })] }) running
theorem test_o24_entry : after (.layoutSwitchEntry 3) fades (fun t => t.delta.entries.length == 1 && (t.zoneRt 3).pending.isNone) = true := by
  decide +kernel
theorem test_o24_layoutEnd : after (.layoutXfadeEnd 3) fades (fun t => (t.zoneRt 3).outgoing.isNone && (t.zoneRt 3).gen == 0) = true := by
  decide +kernel
theorem test_o24_objectFades : (after (.delayJumpXfadeEnd 5) fades (fun t => (t.objRt 5).jump.isNone) &&
    after (.dopplerXfadeEnd 5) fades (fun t => (t.objRt 5).dopFade.isNone) &&
    after (.placementXfadeEnd 5) fades (fun t => (t.objRt 5).place.isNone) &&
    after (.alignDelayXfadeEnd 9) fades (fun t => (t.feedRt 9).dFade.isNone) &&
    after (.routeXfadeEnd 5) fades (fun t => (t.objRt 5).xf.isNone)) = true := by decide +kernel
theorem test_o24_hypotheses : ((fades.zoneRt 3).xStart + (fades.zone 3).xfade ≤ fades.render.n + 3) ∧
    ((solving true).zoneRt 3).runReason = 0 ∧ ((solving true).zoneRt 3).again = false ∧ 99 + 4 ≤ fades.render.n + 3 ∧
    1648 + 16 * 0 ≤ 16 * (fades.render.n + 3) ∧ (fades.objRt 5).release = false := by decide +kernel

/-- O25: the shadow bank's stages. -/
def shadow (h : Shadow) : State := withRender (fun r => { r with shadow := h, feedRt := [(4, { ab := some { b := {}, start := 100, n := 48, equalGain := false } })] }) running
theorem test_o25_staged : after .filterStagingComplete (shadow { st := 1 }) (fun t => t.render.shadow.st == 2) = true := by decide +kernel
theorem test_o25_copied : after .firCopyBackComplete (shadow { st := 3, since := 96 }) (fun t => t.render.shadow == {}) = true := by
  decide +kernel
theorem test_o25_abCopied : after .abCopyBackComplete (shadow { st := 3, ab := true }) (fun t => t.render.shadow == {}) = true := by
  decide +kernel
theorem test_o25_abEnd : after .abXfadeEnd (shadow { st := 4, set := [(4, {})] })
    (fun t => t.render.shadow.st == 3 && (t.feedRt 4).ab.isNone) = true := by decide +kernel
theorem test_o25_resume : after .renderRateResume (withRender (fun r => { r with changing := true }) live)
    (fun t => t.render.run && !t.render.changing) = true := by decide +kernel

/-! ### Loupe -/

/-- Input 5 in state `st`, its register a PDM mode. -/
def micIn (st : Nat) : State := (withLoupe (fun l => { l with ins := l.ins.set 5 { st := st } }) running).setReg (aLin 5) 0x000E0001
theorem test_o26_inputs : (after (.settlingEnd 5) (micIn 1) (fun t => (t.lin 5).st == 2) &&
    after (.loupeStuck 5) (micIn 2) (fun t => (t.lin 5).st == 3 && (t.reg (aLoupe + 4)).getLsbD 1) &&
    after (.stuckRecover 5) (micIn 3) (fun t => (t.lin 5).st == 1)) = true := by decide +kernel
theorem test_o26_cfg : after (.loupeInCfgWrite 5 0x000E0001) live (fun t => (t.lin 5).st == 1 && t.reg (aLin 5) == 0x000E0001) = true := by decide +kernel
theorem test_o26_cfgErr : after (.loupeInCfgWrite 5 7) live (fun t => (t.reg (aLoupe + 4)).getLsbD 3 && (t.lin 5).st == 0) = true := by
  decide +kernel
theorem test_o26_syncReq : after (.loupeSyncReq 0x100) live (fun t => t.loupe.reqIn == 1 && t.delta.entries.isEmpty) = true := by decide +kernel
theorem test_o26_edge : after .loupeSyncEdge (live.setReg (aLoupe + 0x10) 1) (fun t => t.loupe.lastEdge == some 0) = true := by decide +kernel
theorem test_o26_early : after .loupeSyncEdge (withLoupe (fun l => { l with lastEdge := some 0 }) (live.setReg (aLoupe + 0x10) 1))
    (fun t => (t.reg (aLoupe + 4)).getLsbD 2 && t.delta.entries.isEmpty) = true := by decide +kernel
theorem test_o26_hypotheses : reservedWrite (aLin 5) 0x000E0001 = false ∧ inCfgErr live 5 0x000E0001 = false ∧ reservedWrite (aLin 5) 7 = false ∧
    inCfgErr live 5 7 = true ∧ reservedWrite (aLoupe + 0x10) 0x100 = false ∧ 3 * (live.lNs - 0) < twoCycles live := by decide +kernel

/-- O27: an offline job whose step has run its length; a slot's results; actions; the totals. -/
theorem test_o27_job : after (.jobStepComplete 0) (withRender (fun r => { r with n := 100000 }) (job0 0 running))
    (fun t => t.delta.entries == [.loupe (.jobStep 0 1 false)]) = true := by decide +kernel
/-- A correlator of microphone 5 with one peak, its gain 0 dB. -/
def mic5 : Corr := { mic := 5, first := 0, c := List.replicate 20 0 ++ [2 ^ 20] ++ List.replicate 19 0, p2 := 2 ^ 20, m2 := 2 ^ 20, n := 48000 }
/-- Feed 6 of zone 0 is audited, in slot 2, with microphone 5. -/
def auditing (now : Nat) : State :=
  withTime (fun t => { t with l := now * 2 ^ 48, sel := { t.sel with ever := true } })
    (withLoupe (fun l => { l with zones := [(0, { audit := true, mics := 32 })], slots := l.slots.set 2 (some { feed := 6, since := 0, start := 0, corr := [mic5] })
                                  feeds := [(6, { st := 3, confirmAt := some 9, gainTgt := 50, delTgt := 3 })]
                                  acts := [(8, { feed := 6, kind := 0, target := 0, due := 9 })] })
      (withRender (fun r => { r with feeds := [(6, { enable := true, zone := 0, aux := false })] }) ((micIn 2).setReg aTime 1)))
/-- R145: one peak over zeros; its lag of 20 samples is 16 times as many 1/16 samples. -/
theorem test_o27_result : (fun (m : MicResult) => m.gain == 0 && m.snr == 32767 && m.peakLag == 20 && m.arrival == 320) (mic5.result 0) = true := by
  decide +kernel
theorem test_o27_conclusive : after (.conclusiveResult 2 6) (auditing 1000000000)
    (fun t => (match t.delta.entries.getLast? with | some (.loupe (.release 2 _)) => true | _ => false)) = true := by decide +kernel
theorem test_o27_dwell : after (.maximumDwell 2 6) (auditing 16000000000)
    (fun t => (match t.delta.entries.getLast? with | some (.loupe (.release 2 _)) => true | _ => false)) = true := by decide +kernel
theorem test_o27_judged : judge (auditing 1000000000) 6 0 [mic5.result 0] = .verdict 0 (mic5.result 0) := by decide +kernel
/-- R146: nothing is heard for the longest dwell, and something weak. -/
theorem test_o27_quiet : after (.maximumDwell 2 6) (withLoupe (fun l => { l with slots := l.slots.set 2 (some { feed := 6, since := 0, start := 0 }) })
    (auditing 16000000000)) (fun t => (t.lf 6).quiet && (t.lf 6).verdict == 0) = true := by decide +kernel
/-- R156: a withdrawal beyond its zone's limit sends the feed to LOST. -/
theorem test_o27_limit : after (.actionDueTime 6 (some 8)) (withLoupe (fun l => { l with
    zones := [(0, { audit := true, mics := 32, wdLimit := 1, withdrawn := [5] })], acts := [(8, { feed := 6, kind := 2, target := 0, due := 9 })] })
    (auditing 9)) (fun t => (t.lf 6).st == 4 && t.loupe.acts.isEmpty && !(t.feed 6).withdrawn) = true := by decide +kernel
theorem test_o27_action : after (.actionDueTime 6 (some 8)) (auditing 9) (fun t => t.delta.entries == [.loupe (.action 8)]) = true := by
  decide +kernel
theorem test_o27_lost : after (.actionDueTime 6 none) (auditing 9) (fun t => (t.lf 6).st == 4) = true := by decide +kernel
theorem test_o27_steps : (after .compStep (auditing 9) (fun t => (t.lf 6).gain == 1) &&
    after (.driftStep 6) (auditing 9) (fun t => (t.lf 6).delay == 1)) = true := by decide +kernel
theorem test_o27_hypotheses : (auditing 9).decides = true ∧ audited (auditing 9) 6 = true ∧ (auditing 9).zoneJob 0 = none ∧
    ((auditing 9).lf 6).delay ≠ (delayAim (auditing 9) 6).1 ∧ ((auditing 9).lf 6).stepAt = none := by decide +kernel

/-! ### Network -/

/-- A frame of 64 bytes to `dst` with its FCS. -/
def frame (dst etype : Nat) (body : List Byte) : List Byte :=
  let h := beBytes 6 dst ++ beBytes 6 0x020000000001 ++ beBytes 2 etype ++ body
  let b := h ++ zeros (60 - h.length)
  b ++ leBytes 4 (crc32eth b).toNat

/-- An IPv4 header without its sum, and with it. -/
def ipHead (len dst sum : Nat) : List Byte :=
  [0x45, 0] ++ beBytes 2 len ++ zeros 4 ++ [64, 17] ++ beBytes 2 sum ++ beBytes 4 0x0A000002 ++ beBytes 4 dst

/-- A UDP datagram of no bytes from 10.0.0.2 to group 239.1.1.1 or to 10.0.0.9, port 5004. -/
def udpFrame (dst : Nat) : List Byte :=
  let s := folded (sum16 (ipHead 28 dst 0))
  frame 0xFFFFFFFFFFFF 0x0800 (ipHead 28 dst (0xFFFF - s) ++ beBytes 2 700 ++ beBytes 2 5004 ++ beBytes 2 8 ++ zeros 2)

/-- Every domain is on. -/
def awake : State := withPower (fun p => { p with dom := List.replicate 11 1 }) running
/-- Port 1 is up. -/
def port1 : State := withNet (fun n => { n with port := n.port.set 1 { up := true } }) (withPower (fun p => { p with dom := List.replicate 11 1 }) running)

/-- Table entry 9 carries group 239.1.1.1, port 5004, on network port 1, to flow 3. -/
def entry9 (src : Word) : State :=
  (((port1.setReg (aEntry 9) 0xEF010101).setReg (aEntry 9 + 4) (5004 * 65536)).setReg (aEntry 9 + 8) src).setReg (aEntry 9 + 12) 0x81000003

theorem test_o28_fcs : after (.frameReceived 1 (zeros 64) false false false) port1
    (fun t => (mget {} t.cnts (aNet 1 + 0x98)).live == 1 && t.out.isEmpty) = true := by decide +kernel
theorem test_o28_pause : after (.frameReceived 1 (frame 0x0180C2000001 0x8808 [0, 1, 0, 7]) false false false) port1
    (fun t => (t.np 1).pause == 7) = true := by decide +kernel
theorem test_o28_resume : after (.frameReceived 1 (frame 0x0180C2000001 0x8808 [0, 1, 0, 0]) false false false)
    (withNet (fun n => { n with port := n.port.set 1 { up := true, pause := 7 } }) port1) (fun t => (t.np 1).pause == 0) = true := by decide +kernel
theorem test_o28_hypotheses :
    (let bs := udpFrame 0xEF010101
     let f := parseFrame bs
     leAt bs 60 4 = (crc32eth (bs.take 60)).toNat ∧ bs.length = 64 ∧ (64 : Nat) ≤ maxFrame port1 1 ∧ addrPass port1 1 f.dst = true ∧
       vlanPass port1 1 f = true ∧ f.etype = 0x0800 ∧
       ((parseIp f).any fun p => decide (p.proto = 17 ∧ p.frag = false ∧ p.sumOk = true ∧ (parseUdp p).2.1 = 5004 ∧ (parseUdp p).2.2.1 = true ∧
            lookup (entry9 0) 1 f p.dst 5004 = some 9 ∧ (entry9 0).reg (aEntry 9 + 8) = 0 ∧ (entryCtl (entry9 0) 9).getLsbD 8 = false ∧
            (entry9 0x0A000003).reg (aEntry 9 + 8) ≠ 0 ∧ ((entry9 0x0A000003).reg (aEntry 9 + 8)).toNat ≠ p.src ∧
            lookup port1 1 f p.dst 5004 = none)) = true) ∧ addrPass port1 1 0x020000000077 = false := by decide +kernel

/-- Flow 3 receives one channel of L16 in packets of 6 samples. -/
def rxFlow (s : State) : State := withNet (fun n => { n with flows := [(3, { enable := true })] }) s
/-- Its packet of timestamp `ts`: sample j is 256 × j. -/
def rtpPkt (ts : Nat) : List Byte := [0x80, 96, 0, 1] ++ beBytes 4 ts ++ beBytes 4 77 ++ (List.range 6).flatMap fun j => beBytes 2 (256 * j)
/-- Media time in the middle of block 100's cycle. -/
def midCycle : State := withTime (fun t => { t with l := 1616 * 2 ^ 48 * 1000000000 / 48000 }) (rxFlow running)

/-- R263: the second sample lies one sample number on, as Q5.27 of 256 / 2^15. -/
theorem test_o29_placed : (midCycle.rtp 3 0 (rtpPkt 1620)).render.playout.map (fun e => mget 0 e.2 1621) = [2 ^ 20] := by decide +kernel
theorem test_o29_hypotheses :
    (let s := midCycle
     let w := s.flow 3
     let at' := fun ts => nearestMod (2 ^ 32) ts s.sampleNow + linkFloor s w
     w.sec = 0xFF ∧ w.ch = 1 ∧ pktSamples false w = 6 ∧ (rtpPkt 0).length = 12 + rtpBytes false w ∧ s.openSample = 1616 ∧ depth s w = 22 ∧
       at' 1616 = 1616 ∧ at' 1632 + 6 - 1 < 1616 + 22 ∧ 1616 + 22 ≤ at' 1633 + 6 - 1 ∧ at' 1610 + 6 ≤ 1616) := by decide +kernel

/-- Transmit flow 2 to a group on port 1, its first packet due; and the unit's gate. -/
def txFlow (pause : Nat) (open' : Bool) (age : Nat := 0) : State :=
  withPair (fun p => { p with claim := open' })
    (withTime (fun t => { t with l := 1620 * 2 ^ 48 * 1000000000 / 48000 })
      (withNet (fun n => { n with
        flows := [(258, { enable := true, prim := 1, dst := 0xEF010101 })], rt := [(258, { seq := 0xFFFF, since := 1600 })]
        port := n.port.set 1 { up := true, pause := pause, wait := if pause = 9 then [(258, { seq := 1, ts := 2, smp := [[]], at' := age })] else [] } })
        (withPower (fun p => { p with dom := List.replicate 11 1 }) running)))
theorem test_o30_packet : after (.packetTransmit 2) (txFlow 0 true) (fun t => (t.flowRt 258).seq == 0 &&
    (match t.out with
      | [.media 258 1 l] => l.take 6 == [1, 0, 0x5E, 1, 1, 1] && beAt l 44 2 == 0xFFFF && beAt l 46 4 == 1614 && l.length == 70
      | _ => false)) = true := by decide +kernel
theorem test_o30_waits : after (.packetTransmit 2) (txFlow 1 true) (fun t => t.out.isEmpty && (t.np 1).wait.length == 1) = true := by
  decide +kernel
theorem test_o30_late : after (.txLateDrop 1) (txFlow 9 true) (fun t => (t.np 1).wait.isEmpty && (t.reg (aNet 1 + 8)).getLsbD 5) = true := by
  decide +kernel
theorem test_o30_pauseEnds : after (.pauseExpiry 1) (txFlow 9 true 33700000)
    (fun t => (match t.out with | [.media 258 1 _] => true | _ => false) && (t.np 1).pause == 0) = true := by decide +kernel
theorem test_o30_ownFrame : after (.pauseExpiry 1)
    (withNet (fun n => { n with port := n.port.set 1 { up := true, pause := 9, own := [(2, .msg "Sync" [1, 2])] } }) (txFlow 0 true))
    (fun t => t.out == [.net 1 "Sync" [1, 2]] && (t.np 1).own.isEmpty) = true := by decide +kernel
/-- Transmit rings 2 and 3 of port 1 hold a descriptor each: 32 bytes of DRAM that name 4 bytes. -/
def txRing (express : Bool) : State :=
  let r := fun (s : State) (k : Nat) => ((s.setReg (aNetRing 1 k + 4) 8).setReg (aNetRing 1 k + 20) 0x71).setReg (aNetRing 1 k + 12) 1
  let s := r (withMem (fun m => { m with st := 3, capacity := 4 }) (txFlow 0 true)) 3
  ((if express then r s 2 else s).memWrite dramLo (leBytes 8 (dramLo + 64) ++ leBytes 4 4)).memWrite (dramLo + 64) [1, 2, 3, 4]
theorem test_o30_express : after (.ringFrameTransmit 1 0) (txRing true) (fun t => ringHead t 1 2 == 1 && ringHead t 1 3 == 0) = true := by
  decide +kernel
theorem test_o30_frame : after (.ringFrameTransmit 1 0) (txRing false) (fun t => t.out == [.frame 1 3 [1, 2, 3, 4]]) = true := by decide +kernel
def mgmt (n : Word) (pausing : Bool) : State :=
  (((((withNet (fun n => { n with port := n.port.set 4 { up := true, pausing := pausing } }) live).setReg (aNet 4) 0x10001).setReg
    (aNetRing 4 0 + 20) 0x71).setReg (aNetRing 4 1 + 20) 0x71).setReg (aNetRing 4 0 + 12) n).setReg (aNetRing 4 1 + 12) n
theorem test_o30_pauseTx : after (.pauseTx 0) (mgmt 1 false) (fun t => t.out == [.net 4 "pause" [0xFFFF]] && (t.np 4).pausing) = true := by
  decide +kernel
theorem test_o30_pauseTxEnds : after (.pauseTx 0) (mgmt 4 true) (fun t => t.out == [.net 4 "pause" [0]] && !(t.np 4).pausing) = true := by
  decide +kernel
theorem test_o30_hypotheses : (txFlow 0 true).gate = true ∧ (txFlow 0 false).gate = false ∧ isMulticast 0xEF010101 = true ∧
    ((txFlow 0 true).flow 258).sec = 0xFF ∧ ((txFlow 0 true).flowRt 258).done = none ∧
    ((txFlow 0 true).flowRt 258).since ≤ ((txFlow 0 true).sampleNow / 6 - 1) * 6 ∧ ringHeld (txRing true) 1 2 ≠ 0 ∧
    ringHeld (txRing false) 1 2 = 0 ∧ ringHeld (txRing false) 1 3 ≠ 0 ∧ (ringHeld (mgmt 1 false) 4 0) * 8 < ringSize (mgmt 1 false) 4 0 ∧
    ringSize (mgmt 4 true) 4 1 ≤ ringHeld (mgmt 4 true) 4 1 * 4 ∧ reservedWrite (aNetRing 5 1 + 12) 0xFFF = false := by decide +kernel

/-- O31: each event of a link. -/
def link (k : Nat) (c : Word) (p : NetPort) : State :=
  (withNet (fun n => { n with port := n.port.set k p }) (withPower (fun p => { p with dom := List.replicate 11 1 }) (withSess' live))).setReg (aNet k) c
theorem test_o31_up : after (.linkUp 1) (link 1 0x1000001 {}) (fun t => (t.np 1).up && (t.np 1).preempt == 1) = true := by decide +kernel
theorem test_o31_down : after (.linkDown 1) (link 1 1 { up := true, pause := 3 }) (fun t => !(t.np 1).up && (t.np 1).pause == 0 &&
    (t.reg (aNet 1 + 8)).getLsbD 2) = true := by decide +kernel
theorem test_o31_preempt : (after (.preemptVerifyDone 1 true) (link 1 1 { preempt := 1 }) (fun t => (t.np 1).preempt == 2) &&
    after (.preemptVerifyDone 1 false) (link 1 1 { preempt := 1 }) (fun t => (t.np 1).preempt == 3 && (t.reg (aNet 1 + 8)).getLsbD 4)) = true := by
  decide +kernel
theorem test_o31_reduce : after (.speedReduction 1) (link 1 0x2000101 { up := true }) (fun t => (t.np 1).reduced && !(t.np 1).up) = true := by
  decide +kernel
theorem test_o31_restore : (after (.speedRestore 1) (link 1 0x2000101 { reduced := true, up := true }) (fun t => (t.np 1).restoring && !(t.np 1).up) &&
    after (.lpFail 1) (link 1 0x2000101 { reduced := true }) (fun t => !(t.np 1).reduced && (t.reg (aNet 1 + 8)).getLsbD 3 &&
      !(t.reg (aNet 1)).getLsbD 25)) = true := by decide +kernel
theorem test_o31_module : after (.sfpModabsChange 3 true) live (fun t => t.out == [.net 3 "sfp-identity-read" []]) = true := by decide +kernel
theorem test_o31_hypotheses : (∀ x < 8, ((link 1 1 {}).sess x).mask.testBit 7 = false) ∧ (link 1 1 {}).netOn = true ∧
    speedCode (link 1 0x2000101 { up := true }) 1 = 3 ∧ portInUse (link 1 0x2000101 { up := true }) 1 = false := by decide +kernel

/-- O32: paths, reports, requests, entries, positions. -/
def rxPath : State := withTime (fun t => { t with l := 1000010 * 2 ^ 48 })
  (withNet (fun n => { n with
    flows := [(3, { enable := true, prim := 2, dst := 0xEF010101 }), (259, { enable := true, prim := 2, dst := 0x0A000001 })]
    rt := [(3, { upA := true, upB := true, lastA := 10, lastB := 10, reports := 2 })]
    port := n.port.set 2 { up := true } }) awake)
theorem test_o32_pathDown : (after (.pathDown 3 false) rxPath (fun t => !(t.flowRt 3).upA && (t.flowRt 3).upB) &&
    after (.pathDown 3 true) rxPath (fun t => !(t.flowRt 3).upB)) = true := by decide +kernel
theorem test_o32_report : after (.igmpUnsolicitedReport 3) rxPath
    (fun t => t.out == [.net 2 "igmp-report" [0xEF010101, 0]] && (t.flowRt 3).reports == 1) = true := by decide +kernel
theorem test_o32_arp : after (.arpRefresh 3) rxPath (fun t => t.out == [.net 2 "arp-request" [0x0A000001]]) = true := by decide +kernel
theorem test_o32_entry : after (.flowtabCtlWrite 4 0x81000003) ((entry9 0).setReg (aEntry 4) 0xEF010101 |>.setReg (aEntry 4 + 4) (5004 * 65536))
    (fun t => !entryValid t 4 && (t.reg (aFlowtab + 4)).getLsbD 0) = true := by decide +kernel
theorem test_o32_entryStored : after (.flowtabCtlWrite 4 0x81000003) port1 (fun t => entryCtl t 4 == 0x81000003) = true := by decide +kernel
/-- A position datagram of one object, number `q`. -/
def posGram (q : Nat) : List Byte :=
  let b := beBytes 4 0x4B504F53 ++ beBytes 4 q ++ zeros 12 ++ beBytes 2 1 ++ zeros 18
  b ++ beBytes 4 (crc32c b).toNat
def posFlow : State := withNet (fun n => { n with flows := [(5, { enable := true, position := true })], rt := [(5, { pos := some 0xFFFFFFFF })] }) live
theorem test_o32_position : after (.positionDatagram 5 (posGram 0)) posFlow
    (fun t => (t.flowRt 5).pos == some 0 && t.delta.entries.length == 1) = true := by decide +kernel
theorem test_o32_positionOld : after (.positionDatagram 5 (posGram 0xFFFFFFFF)) posFlow
    (fun t => (mget {} t.cnts (kFlow 5 9)).live == 1 && t.delta.entries.isEmpty) = true := by decide +kernel
theorem test_o32_hypotheses : posOk posFlow 5 (posGram 0) = true ∧ posOk posFlow 5 (posGram 0xFFFFFFFF) = false ∧
    10 + max 1000000 (8 * 6 * 1000000000 / 48000) ≤ rxPath.lNs ∧ reservedWrite (aEntry 511 + 12) 0x81000003 = false ∧
    reservedWrite (aEntry 4 + 12) 3 = false ∧ posFlow.serving = true ∧ posFlow.standby = false := by decide +kernel

/-! ### Time -/

/-- L at 5 s and 7 ns, with the bases loaded. -/
def timed : State :=
  withTime (fun t => { t with a := 1000000000 * 2 ^ 48, l := 5000000007 * 2 ^ 48, frc := 99 })
    (withPower (fun p => { p with dom := List.replicate 11 1 }) (live.setReg aTime 1))
theorem test_o33_snap : after (.timeSnap 1) timed (fun t => t.time.snap.l == 5000000007 * 2 ^ 48 && t.time.snap.frc == 99) = true := by
  decide +kernel
theorem test_o33_adjust : after (.timeAdjNs 0 0xFFFFFFFF) (timed.setReg (aTime + 0x34) 1)
    (fun t => t.base 0 == 1999999999 * 2 ^ 48 && t.base 2 == 5000000007 * 2 ^ 48) = true := by decide +kernel
def stamps : State := withTime (fun t => { t with capt := t.capt.set 8 [1, 2, 3, 4, 5, 6, 7, 8], txts := t.txts.set 5 [(1, 2)] }) timed
theorem test_o33_pops : (after (.captPop 8 0x100) stamps (fun t => (nth [] t.time.capt 8).length == 7) &&
    after (.txtsPop 5 0x10000) stamps (fun t => (nth [] t.time.txts 5).isEmpty)) = true := by decide +kernel
def compared (period : Word) : State :=
  (((timed.setReg (aTime + 0x3E0) 5).setReg (aTime + 0x3E4) 5).setReg (aTime + 0x3EC) 7).setReg (aTime + 0x3F0) period
theorem test_o33_once : after (.comparatorFire 15) (compared 0) (fun t => t.out.length == 1 && !(t.reg (aTime + 0x3E0)).getLsbD 0) = true := by
  decide +kernel
theorem test_o33_again : after (.comparatorFire 15) (compared 1000) (fun t => t.cmpNs 15 == 5000001007 && (t.reg (aTime + 0x3E0)).getLsbD 0) = true := by
  decide +kernel
theorem test_o33_ninth : after (.captureEdge 8 true) (stamps.setReg (aTime + 0x500) 1)
    (fun t => (nth [] t.time.capt 8).length == 8 && (t.reg (aTime + 8)).getLsbD 1) = true := by decide +kernel
theorem test_o33_hypotheses : reservedWrite (aTime + 0xC) 1 = false ∧ (timed.reg aTime).getLsbD 0 = true ∧
    reservedWrite (aTime + 0x38 + 0x20 * 2) 0xFFFFFFFF = false ∧ reservedWrite (aTime + 0x500) 0x103 = false ∧
    reservedWrite (aTime + 0x6A0) 0x10100 = false ∧ (compared 0).cmpDue 15 = true ∧
    (timed.reg (aTime + 0x400)).getLsbD 1 = false ∧ ((timed.setReg (aTime + 0x400) 2).reg (aTime + 0x400)).getLsbD 1 = true ∧
    (nth [] timed.time.capt 0).length < 8 := by decide +kernel

/-- O34: reference 3 is selected, and reference 2 waits to be restored. -/
def refs3 (st : Nat) : State :=
  withTime (fun t => { t with
    refs := (t.refs.set 3 { enable := true, present := true, level := 2, intrinsic := 2 }).set 2 { enable := true, wtr := true }
    sel := { t.sel with st := st, sel := if st = 3 then none else some 3, ever := true } }) timed
def meas : RefMeas := { phase := 60, freq := 1000 }
theorem test_o34_lost : after (.referenceLost 3) (refs3 2) (fun t => t.time.sel.st == 3 && t.time.sel.sel.isNone && !(t.ref 3).present) = true := by
  decide +kernel
theorem test_o34_present : after (.referencePresent 5 { meas with phase := 1000001 }) (refs3 2) (fun t => (t.ref 5).present && (t.ref 5).misaligned) = true := by
  decide +kernel
theorem test_o34_restored : after (.waitToRestoreEnd 2) (refs3 2) (fun t => !(t.ref 2).wtr && !t.delta.entries.isEmpty) = true := by decide +kernel
theorem test_o34_pull : (after (.pullStep meas) (refs3 1) (fun t => t.time.sel.st == 1) &&
    after (.pullStep { meas with phase := -50 }) (refs3 1) (fun t => t.time.sel.st == 2)) = true := by decide +kernel
theorem test_o34_holdover : after .holdoverEval (refs3 3) (fun t => t.time.sel.holdS == 1 && t.time.sel.st == 3) = true := by decide +kernel
/-- R293: level 2 beyond tolerance for its dwell is level 3; within it for its dwell it is 2 again; beyond the limit it is 7. -/
theorem test_o34_levels : (Nat.repeat (fun q : Ref => q.second 501) 10 { level := 2, intrinsic := 2 }).level = 3 ∧
    (Nat.repeat (fun q : Ref => q.second 501) 9 { level := 2, intrinsic := 2 }).level = 2 ∧
    (Nat.repeat (fun q : Ref => q.second (-500)) 10 { level := 3, intrinsic := 2 }).level = 2 ∧
    (({ level := 2 } : Ref).second (-5001)).level = 7 := by decide +kernel
theorem test_o34_hypotheses : (refs3 2).role ≠ 2 ∧ (refs3 2).prio.all (fun q => q = 3 || !(refs3 2).eligible q) = true ∧
    ((refs3 1).ref 3).misaligned = decide (1000000 < meas.phase.natAbs) ∧ (refs3 1).time.sel.stepTo = none := by decide +kernel

/-- O35: slot 0 in each state. -/
def ptp0 (st : Nat) (steered : Bool) : State :=
  withTime (fun t => { t with ptp := t.ptp.set 0 { enable := true, st := st, steered := steered, master := true, hasGm := st == 1, gmSrc := 5, gmKey := 9 } })
    (withNet (fun n => { n with port := n.port.set 0 { up := true } }) timed)
theorem test_o35_announce : after (.ptpMessage 0 (.announce ((ptp0 0 false).slot 0).dom 5 6 0x21 3 false)) (ptp0 0 false)
    (fun t => (t.slot 0).st == 1 && (t.slot 0).gmClass == 6) = true := by decide +kernel
theorem test_o35_step : after (.ptpMessage 0 (.sync ((ptp0 1 false).slot 0).dom 1 false 1000 3000)) (ptp0 1 false)
    (fun t => t.base 0 == (1000000000 - 2000) * 2 ^ 48 && (t.slot 0).steered) = true := by decide +kernel
theorem test_o35_rate : after (.ptpMessage 0 (.sync ((ptp0 1 true).slot 0).dom 1 false 1000 3000)) (ptp0 1 true)
    (fun t => t.base 0 == 1000000000 * 2 ^ 48) = true := by decide +kernel
theorem test_o35_timeout : after (.ptpAnnounceTimeout 0) (ptp0 1 true) (fun t => (t.slot 0).st == 2) = true := by decide +kernel
theorem test_o35_sends : (after (.ptpSyncInterval 0 0) (ptp0 2 false) (fun t => t.out.length == 2 && (t.slot 0).seqSync == 1) &&
    after (.ptpSyncInterval 0 2) (ptp0 1 false) (fun t => t.out.length == 1 && (t.slot 0).seqDly == 1)) = true := by decide +kernel

/-! ### Audio ports -/

/-- Port 6 in state `st`, its control word I2S at 48 kHz with 2 slots of 32 bits, and a timeout of 10 ms. -/
def ctl2 : Word := 0x02800808
def port6 (st : Nat) (open' : Bool) : State :=
  withPair (fun p => { p with claim := open' })
    ({ (withSess' (withTime (fun t => { t with l := 10000000 * 2 ^ 48 }) running)) with ports :=
        { port := State.reset.ports.port.set 6 { st := st, locked := true, back := 2, maskWait := 1, outAct := 2 }, side := [] } }.setReg (aPort 6) ctl2)
theorem test_o36_frame : after (.tdmFrame 6 { slots := [1, -1], idx := 500 }) ((port6 3 true).setReg (aPort 6 + 0x14) 3)
    (fun t => (t.port 6).side.getLast? == some (500, [1, -1]) && (t.port 6).outAct == 3 &&
      (match t.out with | [.tdm 6 [none, some _]] => true | _ => false)) = true := by decide +kernel
theorem test_o36_lock : after (.tdmFrame 6 { slots := [], idx := 500 }) (port6 5 true) (fun t => (t.port 6).st == 1 && t.out.isEmpty) = true := by
  decide +kernel
theorem test_o36_hypotheses : (∀ x < 8, ((port6 3 true).sess x).mask.testBit 9 = false) ∧ (port6 3 true).gate = true ∧
    (port6 3 false).gate = false ∧ ctlSlots ((port6 3 true).pctl 6) = 2 ∧ ctlWidth ((port6 3 true).pctl 6) = 32 := by decide +kernel

theorem test_o37_states : (after (.noLock 6) (port6 1 true) (fun t => (t.reg (aPort 6 + 8)).getLsbD 5) &&
    after (.asrcLock 6) (port6 1 true) (fun t => t.delta.entries.length == 1) &&
    after (.portZcTimeout 6) (port6 2 true) (fun t => (t.port 6).st == 3) &&
    after (.portZcTimeout 6) (port6 4 true) (fun t => (t.port 6).st == 0) &&
    after (.portClockLost 6 false) (port6 3 true) (fun t => (t.port 6).st == 5 && (t.reg (aPort 6 + 8)).getLsbD 1) &&
    after (.portRange 6) (port6 3 true) (fun t => (t.port 6).st == 6) &&
    after (.portRangeRecover 6) (port6 6 true) (fun t => (t.port 6).st == 1)) = true := by decide +kernel
theorem test_o37_mask : after (.maskApply 2 1 true) live (fun t => (t.port 2).maskWait == 2) = true := by decide +kernel
theorem test_o37_ctl : after (.tdmCtlWrite 2 (ctl2 + 1)) (withSess' live) (fun t => (t.port 2).st == 1 && t.pctl 2 == ctl2 + 1) = true := by
  decide +kernel
theorem test_o37_ctlBad : after (.tdmCtlWrite 2 (ctl2 + 0x300)) live (fun t => (t.reg (aPort 2 + 8)).getLsbD 7) = true := by decide +kernel
theorem test_o37_side : after (.sidetoneCtlWrite 63 0x80010000) live (fun t => t.reg (aRoute 63) == 0x80010000) = true := by decide +kernel
theorem test_o37_sideHeld : after (.sidetoneCtlWrite 63 0x80010000)
    (withRender (fun r => { r with feeds := [(3, { dest := [slotDest 0 1, 0, 0, 0] })] }) live) (fun t => (t.reg (aSide + 4)).getLsbD 1) = true := by
  decide +kernel
theorem test_o37_gain : after (.sidetoneGainWrite 63 0) (live.setReg (aRoute 63) 0x80000000) (fun t => (t.route' 63).tgt == 2 ^ 27) = true := by
  decide +kernel
theorem test_o37_hypotheses : (port6 2 true).decides = true ∧ 0 + ctlTimeout ((port6 2 true).pctl 6) * 1000000 ≤ (port6 2 true).lNs ∧
    ctlMaster ctl2 = false ∧ ctlOk ctl2 = true ∧ ctlOk (ctl2 + 0x300) = false ∧ groupClash live 2 ctl2 = none ∧
    reservedWrite (aPort 2) (ctl2 + 1) = false ∧ reservedWrite (aPort 15 + 0xC) 1 = false ∧ reservedWrite (aRoute 63) 0x80010000 = false ∧
    reservedWrite (aRoute 63 + 4) 0xFFFF = false ∧ ((port6 3 true).pctl 6 ^^^ (ctl2 + 0x400)) &&& 0x003FFFFE ≠ 0 ∧
    (routeIn 0x80010000).1 = (routeOut 0x80010000).1 := by decide +kernel

/-! ### Bus, memory and DMA -/

/-- Word 0x11223344 at the start of Facet 4's memory. -/
def facetWord : State := awake.memWrite 0x30400000 [0x44, 0x33, 0x22, 0x11]
theorem test_o38_read : after (.busTransaction { master := 0, addr := 0x30400000, size := 4 }) facetWord
    (fun t => t.out == [.bus 0 0 false [0x44, 0x33, 0x22, 0x11]]) = true := by decide +kernel
theorem test_o38_write : after (.busTransaction { master := 1, id := 15, addr := 0x3048FFFC, size := 4, write := some [1, 2, 3, 4] }) awake
    (fun t => t.memBytes 0x3048FFFC 4 == [1, 2, 3, 4]) = true := by decide +kernel
theorem test_o38_hole : after (.busTransaction { master := 0, addr := 0x50000000, size := 4 }) awake
    (fun t => t.out.isEmpty && t.mem.outs.length == 1) = true := by decide +kernel
theorem test_o38_asleep : after (.busTransaction { master := 0, addr := 0x30400000, size := 4 }) running
    (fun t => t.mem.outs.map (fun x => x.wait) == [asleep running 0x30400000]) = true := by decide +kernel
theorem test_o38_secure : after (.busTransaction { master := 0, addr := secLo, size := 4, machine := false }) awake
    (fun t => t.out == [.bus 0 0 true []] && (t.reg (aBusmx + 4)).getLsbD 2) = true := by decide +kernel
theorem test_o38_register : after (.registerWrite (aTime + 0x210) 4 77) awake
    (fun t => t.reg (aTime + 0x210) == 77 && t.out == [.bus 0 0 false []]) = true := by decide +kernel
theorem test_o38_half : after (.registerWrite (aTime + 0x210) 2 77) awake
    (fun t => t.reg (aTime + 0x210) == 0 && t.out == [.bus 0 0 true []]) = true := by decide +kernel
def busyBus : State := withMem (fun m => { m with outs := [{ req := { master := 0, id := 2, addr := 0x30400000, size := 4 }, target := 2 }] }) awake
theorem test_o38_held : after (.busTransaction { master := 0, addr := 0x30400004, size := 4 }) busyBus
    (fun t => t.mem.held.length == 1 && t.out.isEmpty) = true := by decide +kernel
theorem test_o38_hypotheses :
    (let q : BusReq := { master := 0, addr := 0x30400000, size := 4 }
     reservedReq awake q = false ∧ heldBack awake q = false ∧ awake.mem.held = [] ∧ reqTarget awake q ≠ 15 ∧ asleep awake q.addr = none ∧
       deadMem awake q.addr = false ∧ awake.region q.addr = .facet ∧ reqTarget awake { q with addr := 0x50000000 } = 15 ∧
       (asleep running q.addr).isSome = true ∧ heldBack busyBus q = true ∧ awake.region secLo = .secure ∧
       reqTarget awake { q with addr := secLo } ≠ 15 ∧ asleep awake secLo = none ∧ awake.sec.wiping = false) ∧
    (let q := coreReq (aTime + 0x210) 4 (some 77)
     reservedReq awake q = false ∧ heldBack awake q = false ∧ reqTarget awake q ≠ 15 ∧ awake.region (aTime + 0x210) = .periph ∧
       asleep awake (aTime + 0x210) = none) := by decide +kernel

/-- O39: a hang, a late response, a queue, and the memories. -/
theorem test_o39_hang : after (.busHang 0 2) busyBus (fun t => t.mem.outs.isEmpty && t.out.head? == some (.bus 0 2 true []) &&
    t.mem.ended == [(0, 2)]) = true := by decide +kernel
theorem test_o39_late : after (.lateResponse 0 2) (withMem (fun m => { m with ended := [(0, 2)] }) awake)
    (fun t => t.mem.ended.isEmpty && (t.reg (aBusmx + 4)).getLsbD 1) = true := by decide +kernel
theorem test_o39_queue : after (.cdcQueue .tdmPort 3 false [chId 1 5])
    (withRender (fun r => { r with blocks := [(chId 1 5, { num := 1, carat := 7, smp := [] })] }) awake)
    (fun t => (t.blk (chId 1 5)).any (fun b => b.carat != 7) && t.reg (aInteg + 0xC) == 0) = true := by decide +kernel
/-- R24: samples lost on their way in belong to the open window. -/
theorem test_o39_inward : after (.cdcQueue .media 0 false [9]) awake (fun t => t.render.cdcBad == [9]) = true := by decide +kernel
def dramOn : State := withMem (fun m => { m with st := 3, ranks := 1, capacity := 1 }) (awake.setReg (aDramc + 0x18) 100)
theorem test_o39_dram : (after .dramInitDone dramOn (fun t => t.mem.initDone && t.mem.mark == 896) &&
    after (.dramPowerDown 1 0) dramOn (fun t => t.mem.down == [2])) = true := by decide +kernel
theorem test_o39_scrub : after (.scrubWord 0 1 2 3 .corrected) (awake.setReg (aInteg + 8) 1)
    (fun t => (mget {} t.cnts (aInteg + 0xA8)).live == 1) = true := by decide +kernel
theorem test_o39_hypotheses : (0 : Nat) < dramOn.mem.ranks ∧ dramOn.reg (aDramc + 0x18) ≠ 0 ∧ 2 * 1 + 0 ∉ dramOn.mem.down ∧
    ((awake.setReg (aInteg + 8) 1).reg (aInteg + 8)).getLsbD 0 = true ∧
    busyBus.mem.outs.find? (fun t => t.req.master == 0 && t.req.id == 2 && t.wait.isNone) = busyBus.mem.outs.head? := by decide +kernel

/-- O40: a descriptor: a COPY of a list of one entry to another, triggered by nobody; a FENCE; a bad one. -/
def dmaAt (job : DmaJob) (word : Nat) (at' : Nat := 0x30400000) : State :=
  let q : DmaCh :=
    { job := job
      desc := at'
      dsc := leBytes 4 word ++ zeros 60
      src := { addr := 0x30400000, rem := 64 }
      dst := { addr := 0x30400400, rem := 64 } }
  { (awake.memWrite at' (leBytes 4 word ++ leBytes 4 0 ++ leBytes 8 0x30400100 ++ leBytes 2 1 ++ leBytes 2 1 ++ leBytes 4 0 ++
      leBytes 8 0x30400200)) with dma := { ch := State.reset.dma.ch.set 7 q } }
theorem test_o40_start : after (.dmaStart 7 1) (awake.setReg (aDma + 0x1000 + 64 * 7 + 8) 0x30400000)
    (fun t => (t.ch 7).job == .fetch && (t.ch 7).desc == 0x30400000) = true := by decide +kernel
theorem test_o40_stop : after (.dmaStop 7 2) (dmaAt .copying 0) (fun t => (t.ch 7).job == .idle && (t.ch 7).cause == 7) = true := by decide +kernel
theorem test_o40_copy : after (.dmaBurstResponse 7 .ok) (dmaAt .fetch (31 * 1024) 0x20000000)
    (fun t => (t.ch 7).job == .copying && (t.ch 7).dst.entry == 0x30400200) = true := by decide +kernel
theorem test_o40_fence : after (.dmaBurstResponse 7 .ok) (dmaAt .fetch (31 * 1024 + 1) 0x20000000) (fun t => (t.ch 7).job == .fence) = true := by decide +kernel
theorem test_o40_bad : after (.dmaBurstResponse 7 .ok) (dmaAt .fetch (31 * 1024 + 2) 0x20000000) (fun t => (t.ch 7).cause == 1) = true := by decide +kernel
theorem test_o40_burst : after (.dmaBurstResponse 7 .ok) (dmaAt .copying (31 * 1024))
    (fun t => t.memBytes 0x30400400 20 == t.memBytes 0x30400000 20 && (t.ch 7).bytes == 64) = true := by decide +kernel
theorem test_o40_request : after (.dmaRequest 7 3 .ok) (dmaAt .copying (3 * 1024 + 2 ^ 15)) (fun t => (t.ch 7).bytes == 8) = true := by
  decide +kernel
theorem test_o40_hypotheses :
    (let s := dmaAt .copying (31 * 1024)
     let q := s.ch 7
     q.flag 8 = false ∧ q.flag 9 = false ∧ q.buf = [] ∧ q.ctl 10 5 = 31 ∧ accessLen q.dst.addr q.dst.rem = 64 ∧ s.region q.src.addr = .facet ∧
       unreach s q.src.addr = 0 ∧ unreach s q.dst.addr = 0 ∧ q.desc % 64 = 0 ∧ badDesc (s.readBytes q.desc 64) = false ∧
       badList 0x30400100 1 = false ∧ badDesc (leBytes 4 (31 * 1024 + 2) ++ zeros 60) = true) ∧
    ((dmaAt .copying (3 * 1024 + 2 ^ 15)).ch 7).ctl 10 5 = 3 ∧ min (4 * 2 ^ ((dmaAt .copying (3 * 1024 + 2 ^ 15)).ch 7).ctl 15 3) 64 = 8 ∧
    reservedWrite (aDma + 0x1000 + 64 * 31) 3 = false := by decide +kernel

theorem test_o41_done : (after (.dmaFenceComplete 7) (dmaAt .fence (31 * 1024 + 16)) (fun t => t.memBytes 0x30400004 4 == [0, 0, 0, 0x80] &&
      (t.ch 7).job == .idle && (t.reg (aDma + 4)).getLsbD 7) &&
    after (.dmaCopyComplete 7) (dmaAt .moved (31 * 1024)) (fun t => t.memBytes 0x30400004 4 == [0, 0, 0, 0x80])) = true := by decide +kernel
theorem test_o41_check : after (.dmaCopyComplete 7) (dmaAt .moved (31 * 1024 + 32)) (fun t => t.memBytes 0x3040003C 4 == [0, 0, 0, 0]) = true := by
  decide +kernel
theorem test_o41_checkFails : after (.dmaCopyComplete 7)
    { dmaAt .moved 0 with dma := { ch := State.reset.dma.ch.set 7 { job := .moved, desc := 0x30400000, dsc := leBytes 4 (31 * 1024 + 32 + 128) ++ zeros 52 ++ [1, 0, 0, 0, 0, 0, 0, 0] } } }
    (fun t => (t.ch 7).cause == 6 && (t.ch 7).halted) = true := by decide +kernel

/-! ### The pair -/

def claimed : State := withPair (fun p => { p with claim := true }) live
/-- Both have claimed; the peer's strap is `x`, this unit's `y`. -/
def tied (x y : Bool) : State :=
  { withPair (fun p => { p with claim := true, tie := true, peer := some { beat 1 5 with preferred := x } }) live with
    pins := { live.pins with preferred := y } }
theorem test_o42_claim : after .ilkBEdge live (fun t => t.gate && t.pair.claim && t.pair.sync == 0) = true := by decide +kernel
theorem test_o42_noClaim : after .ilkBEdge State.reset (fun t => t.pair.ilkB && !t.gate) = true := by decide +kernel
theorem test_o42_both : after .ilkBFall claimed (fun t => t.pair.tie && !t.gate) = true := by decide +kernel
theorem test_o42_straps : (after .claimTieTimeout (tied true true) (fun t => !t.pair.claim && (t.reg (aPair + 8)).getLsbD 6) &&
    after .claimTieTimeout (tied true false) (fun t => !t.pair.claim && t.reg (aPair + 8) == 0) &&
    after .claimTieTimeout (tied false true) (fun t => t.pair.claim)) = true := by decide +kernel
theorem test_o42_takenBack : after .handoverFail (withPair (fun p => { p with awaiting := true, sync := 5 }) live)
    (fun t => t.pair.claim && t.gate) = true := by decide +kernel
theorem test_o42_heartbeat : (after .heartbeatTx (standby 5 live) (fun t => t.out == [.bezel (.heartbeat (ownBeat (standby 5 live)))]) &&
    after (.heartbeatRx { beat 1 0 with peerL := 1001 }) (standby 5 live) (fun t => t.pair.sync == 0 && (t.reg (aPair + 8)).getLsbD 2) &&
    after (.heartbeatRx { beat 1 0 with peerL := 1000 }) (standby 5 live) (fun t => t.pair.sync == 5)) = true := by decide +kernel
theorem test_o42_link : after (.bezelLink 1) (synced live) (fun t => !t.linkUp && (t.reg (aPair + 8)).getLsbD 1) = true := by decide +kernel
theorem test_o42_hypotheses : live.pair.claim = false ∧ live.canClaim = true ∧ State.reset.canClaim = false ∧ claimed.pair.ilkB = true ∧
    strapsEqual (tied true true) = true ∧ strapsEqual (tied true false) = false ∧ strapsEqual (tied false true) = false ∧
    (standby 5 live).pairEn = true ∧ incompatible live { beat 1 0 with ganen := 1 } = true ∧ (synced live).linkUp = true := by decide +kernel

/-- O43: a segment of one delta, of one segment, good or not. -/
def seg (good : Bool) : DeltaSeg :=
  { seq := 9, boundary := 101, verify := false, index := 0, total := 1, good := good, entries := [.handover 105 2], names := [3] }
def closed9 : Closed := { boundary := 101, seq := 9, verify := false, entries := [.handover 105 2] }
def holds3 (x : Nat) : State := withPair (fun p => { p with staged := [(3, [1])] }) (standby x live)
theorem test_o43_segment : (after (.deltaSegment (seg false)) (holds3 5) (fun t => t.out == [.bezel (.resend [0])] && t.delta.held.isNone) &&
    after (.deltaSegment (seg true)) (holds3 5) (fun t => t.out == [.bezel (.ack 9)] && t.delta.held == some closed9)) = true := by decide +kernel
theorem test_o43_waits : after (.deltaSegment (seg true)) (standby 5 live) (fun t => t.out.isEmpty && t.delta.rxWhole == some closed9) = true := by
  decide +kernel
theorem test_o43_staged : after (.stagingRx 3 (.bytes [7])) (withDelta (fun d => { d with rxSeq := 9, rxWhole := some closed9, rxNames := [3] }) (standby 5 live))
    (fun t => t.out == [.bezel (.ack 9)] && t.delta.held == some closed9) = true := by decide +kernel
/-- R474, R212: a change of a session and a command of its transaction reach the standby. -/
def image3 : SessImage := { isOpen := true, ep := .spi, h := 4, seen := 1, evSeq := 0, mask := 7, idle := 0, tagged := false, txn := some { id := 9 }, timed := [], ver := 2 }
theorem test_o43_session : after (.stagingRx 5 (.session 3 image3)) (standby 5 live)
    (fun t => (t.sess 3).isOpen && (t.sess 3).mask == 7 && after (.stagingRx 6 (.command 3 9 { seq := 5, op := 0x0400, payload := chainSetPl })) t
      fun u => ((u.sess 3).txn.map fun q => q.cmds.length) == some 1) = true := by decide +kernel
theorem test_o43_standby : (standby 5 live).standby = true ∧ ((standby 5 live).sess 3).ver ≤ image3.ver := by decide +kernel
theorem test_o43_mark : (after (.markRx 9 true) (withDelta (fun d => { d with held := some closed9 }) (standby 5 live)) (fun t => t.delta.marked) &&
    after (.markRx 9 true) (withDelta (fun d => { d with held := some closed9 }) (standby 1 live)) (fun t => t.delta.kept == [closed9]) &&
    after (.markRx 9 false) (withDelta (fun d => { d with held := some closed9 }) (standby 5 live)) (fun t => t.delta.held.isNone)) = true := by
  decide +kernel
theorem test_o43_active : (after (.ackRx 9) (withDelta (fun d => { d with closed := some closed9 }) (synced live)) (fun t => t.delta.acked) &&
    after (.resendRx [0]) (withDelta (fun d => { d with closed := some closed9 }) (synced live))
      (fun t => t.out == [.bezel (.deltaAgain closed9 [0])])) = true := by decide +kernel
theorem test_o43_hypotheses : takesDeltas (holds3 5) = true ∧ takesDeltas (standby 1 live) = true ∧ (holds3 5).delta.rxSeq ≠ (seg true).seq ∧
    (∀ n ∈ (seg true).names, mhas (holds3 5).pair.staged n = true) ∧ (synced live).role = 1 := by decide +kernel

/-- O44: channel 0 of zone 0 of TDM port 1 holds block 100. -/
def block9 (s : State) : State := withRender (fun r => { r with blocks := [(9, { num := 100, carat := 5, smp := [1] }), (10, { num := 100, carat := 6, smp := [2] })] }) s
def reconciling (n : Nat) : State := withPair (fun p => { p with reconDone := false, reconCount := n }) (block9 (standby 5 live))
theorem test_o44_asked : after (.reconRx [(9, 5), (10, 7), (11, 0)]) (block9 (synced live))
    (fun t => t.out == [.bezel (.reconData [(10, 6, [2])])]) = true := by decide +kernel
theorem test_o44_taken : after (.reconDataRx [(10, 8, [4])] true) (reconciling 255)
    (fun t => t.blk 10 == some { num := 100, carat := 8, smp := [4] } && t.pair.reconCount == 256 && t.pair.sync == 5) = true := by decide +kernel
theorem test_o44_many : after (.reconDataRx [(10, 8, [4])] true) (reconciling 256) (fun t => t.pair.sync == 0 && (t.reg (aPair + 8)).getLsbD 3) = true := by
  decide +kernel
theorem test_o44_late : after .reconDeadline (reconciling 1) (fun t => t.pair.sync == 0 && (t.reg (aPair + 8)).getLsbD 2) = true := by
  decide +kernel
theorem test_o44_hypotheses : (block9 (synced live)).role = 1 ∧ (reconciling 255).pairEn = true ∧ (reconciling 255).pair.claim = false := by
  decide +kernel

/-- O45: the steps of synchronisation. -/
def autoOn : State := withPower (fun p => { p with dom := List.replicate 11 1 }) ((standby 0 live).setReg aPair 3)
theorem test_o45_start : after .autoSyncStart autoOn (fun t => t.pair.sync == 1) = true := by decide +kernel
theorem test_o45_image : after (.syncImageComplete
      { render := { live.render with n := 77, feeds := [(511, { zone := 5 })] }, sess := [], loupe := live.loupe, flows := [],
        ptp := live.time.ptp, refs := live.time.refs, sel := live.time.sel, kernels := [], regs := [] })
    (standby 1 live) (fun t => t.pair.sync == 2 && (t.feed 511).zone == 5 && t.render.n == 0) = true := by decide +kernel
theorem test_o45_record : after (.transplantRx (.object 1023 { snapOut := some 3 })) (standby 2 live)
    (fun t => (t.objRt 1023).snapOut == some 3 && t.pair.sync == 3) = true := by decide +kernel
theorem test_o45_verified : (after .syncSettleEnd (standby 3 live) (fun t => t.pair.sync == 4) &&
    after .syncVerified (withPair (fun p => { p with verifyCount := 64 }) (standby 4 live)) (fun t => t.pair.sync == 5)) = true := by decide +kernel
def preferredPeer : State := withPair (fun p => { p with peer := some { beat 2 5 with preferred := true } }) (synced live)
theorem test_o45_reclaim : after .reclaimHoldoffExpiry preferredPeer (fun t => t.delta.entries == [.handover 5 3]) = true := by decide +kernel
theorem test_o45_hypotheses : mayStart autoOn = true ∧ takesDeltas (standby 1 live) = true ∧ (standby 1 live).delta.kept = [] ∧
    mayReclaim preferredPeer = true := by decide +kernel

/-! ### Power, integrity and start-up -/

def withTemp (n : Nat) : State := withInteg (fun i => { i with hot := n }) awake
theorem test_o46_lockstep : (after (.lockstep 1 0) (withDelta (fun d => { d with entries := [.handover 5 2] }) awake)
      (fun t => t.integ.restarting && t.delta.entries.isEmpty) &&
    after (.lockstep 1 0) (withInteg (fun i => { i with restarting := true }) awake) (fun t => t.integ.stopped) &&
    after .ganenRestartDone (withInteg (fun i => { i with restarting := true }) awake)
      (fun t => !t.integ.restarting && t.delta.closed == some { boundary := 101, seq := 0, verify := false, entries := [] })) = true := by
  decide +kernel
theorem test_o46_thermal : (after (.thermalSample 9501) (withTemp 3) (fun t => (t.reg (aInteg + 4)).getLsbD 3) &&
    after (.thermalSample 9501) (withTemp 2) (fun t => t.reg (aInteg + 4) == 0) &&
    after (.thermalSample 9500) (withTemp 3) (fun t => t.integ.hot == 0)) = true := by decide +kernel
theorem test_o46_supply : (after (.supply 2 756) awake (fun t => t.pins.supplyBad == 4 && t.boot.phase == .ready) &&
    after (.supply 3 800) State.reset (fun t => t.pins.supplyBad == 8 && t.regs == []) &&
    after (.supply 2 699) awake (fun t => t.boot.phase == .inReset)) = true := by decide +kernel
theorem test_o46_clocks : (after (.clockLoss 1) awake (fun t => t.time.lostSys && !t.render.run && t.integ.stopped) &&
    after .syspllRelock (withTime (fun t => { t with lostSys := true }) awake) (fun t => !t.time.lostSys && t.integ.restarting)) = true := by
  decide +kernel
theorem test_o46_hypotheses : awake.tjMax = 9500 ∧ awake.integ.restarting = false ∧ supplyRange 2 0 = (7600, 8400) ∧ supplyReset 2 = 700 ∧
    supplyReset 3 = 0 ∧ awake.time.lostSys = false ∧ awake.boot.phase ≠ .inReset := by decide +kernel

/-- O47: a record waits to be copied to a DRAM ring of four records at 0x1_0000_0000. -/
def record5 : Incl := { cls := 0x12, dev := true, unit := 1, seq := 5 }
def ring4 : State :=
  withInteg (fun i => { i with log := [record5], uncopied := [5], recent := [(0x12, 1, 0, true, 3), (0x12, 2, 0, true, 0)] })
    (((awake.setReg (aInteg + 0x18) 0).setReg (aInteg + 0x1C) 1).setReg (aInteg + 0x20) 4)
theorem test_o47_copy : after .logCopy ring4 (fun t => t.integ.uncopied.isEmpty && t.memBytes (0x100000000 + 64) 64 == record5.stored &&
    t.integ.dram == [record5]) = true := by decide +kernel
theorem test_o47_repeat : (after (.repeatRecord 0x12 1 0) ring4 (fun t => t.integ.log.length == 2 && t.integ.recent.any (fun e => e.2.1 == 2)) &&
    after (.repeatRecord 0x12 2 0) ring4 (fun t => t.integ.log.length == 1)) = true := by decide +kernel
theorem test_o47_fault : (after (.integFaultWrite 1) (ring4.setReg (aInteg + 0xC) 1) (fun t => t.reg (aInteg + 0xC) == 0) &&
    after (.integFaultWrite 1) (withTime (fun t => { t with lostOsc := true }) (ring4.setReg (aInteg + 0xC) 1))
      (fun t => t.reg (aInteg + 0xC) == 1)) = true := by decide +kernel
theorem test_o47_snap : after (.cntSnap (aTime + 0x80) 1) { awake with cnts := mset awake.cnts (aTime + 0x88) { live := 2 ^ 33 + 7 } }
    (fun t => (mget {} t.cnts (aTime + 0x88)).lo == 7) = true := by decide +kernel
theorem test_o47_hypotheses : ring4.logBase ≠ 0 ∧ ring4.logLen ≠ 0 ∧ ring4.mem.dramFailed = false ∧
    ring4.integ.log.find? (fun r => r.seq == 5) = some record5 ∧ ring4.MemOk ∧ reservedWrite (aInteg + 0xC) 1 = false ∧ ring4.persist = false ∧
    aTime + 0x80 ∈ snapRegs ∧ reservedWrite (aTime + 0x80) 1 = false := by
  unfold State.MemOk; decide +kernel

/-- O48: an entry into STANDBY asks domain 6 next; domains 4 and 5 have stopped. -/
def entering (stopped rest : List Nat) : State :=
  withPower (fun p => { p with st := 1, target := 2, job := some (.entry 2 (6 :: rest) stopped false) }) awake
theorem test_o48_grant : (after (.domainGrant 6) (entering [5, 4] [7]) (fun t => t.dom 6 == 0 && t.dom 7 == 5 && t.power.st == 1) &&
    after (.domainGrant 6) (entering [5, 4] []) (fun t => t.dom 6 == 0 && t.power.st == 2 && t.power.job.isNone)) = true := by decide +kernel
theorem test_o48_expired : (after (.domainDelayExpired 6) (entering [] [7]) (fun t => t.power.job.isNone && t.power.st == 1 && nth 0 t.power.refuse 6 == 1) &&
    after (.domainDelayExpired 6) (entering [5, 4] [7]) (fun t => t.dom 5 == 4)) = true := by decide +kernel
def jobRuns : State := withPower (fun p => { p with st := 1, target := 2, job := some (.entry 2 [8] [] false) }) (job0 0 awake)
theorem test_o48_refuses : after (.domainRefuse 8 5) jobRuns (fun t => t.power.job.isNone && t.reg (aPmu + 0xC) == 0x00020508) = true := by
  decide +kernel
def asleep3 : State :=
  withPower (fun p => { p with st := 3, dom := [1, 0, 0, 0, 0, 0, 0, 0, 0, 0, 3] })
    (((running.setReg (aPmu + 0x20) 7).setReg (aNet 4) 0x08000000).setReg (aNet 4 + 0x28) 9)
theorem test_o48_wakes : (after .wakeNEdge asleep3 (fun t => t.power.job.isSome) &&
    after .wakeNEdge (asleep3.setReg (aPmu + 0x20) 6) (fun t => t.power.job.isNone) &&
    after .wakeNEdge ((entering [] [7]).setReg (aPmu + 0x20) 1) (fun t => t.power.job.isNone)) = true := by decide +kernel
/-- A SYS_STATUS request in a frame to port 4 (R425). -/
def wakePacket : List Byte :=
  let p := beBytes 2 0x4B43 ++ beBytes 2 0x0100 ++ beBytes 4 28 ++ zeros 6 ++ beBytes 2 0x0C00 ++ zeros 8
  p ++ beBytes 4 (crc32c p).toNat
def wakeBytes : List Byte :=
  frame 0 0x0800 (beBytes 2 0x4500 ++ beBytes 2 56 ++ zeros 4 ++ beBytes 2 0x4011 ++ zeros 10 ++ beBytes 2 9 ++ beBytes 2 9 ++ beBytes 2 36 ++
    zeros 2 ++ wakePacket)
theorem test_o48_wakeFrame : after (.wakeFrame 0 wakeBytes) asleep3 (fun t => t.power.job.isSome) = true := by decide +kernel
def waking (d : Nat) : State := withPower (fun p => { p with dom := p.dom.set d 4 }) awake
theorem test_o48_ready : (after (.domainReady 7) (waking 7) (fun t => t.dom 7 == 1) &&
    after (.domainWake 7 false) (waking 7) (fun t => t.dom 7 == 6 && (t.reg (aPmu + 4)).getLsbD 1)) = true := by decide +kernel
theorem test_o48_registers : (after (.pmuRetryWrite 7) (withPower (fun p => { p with dom := p.dom.set 7 6 }) awake) (fun t => t.dom 7 == 4) &&
    after (.pmuRefuseClr 1) (withPower (fun p => { p with refuse := p.refuse.set 7 6 }) awake) (fun t => nth 9 t.power.refuse 7 == 0) &&
    after (.pmuReqWrite 3) awake (fun t => t.power.job == some (.begin' 3))) = true := by decide +kernel
def point (j : PmuJob) (p : Nat) : State := withPower (fun q => { q with job := some j, point := p, volt := p }) awake
theorem test_o48_points : (after (.voltageConfirmed 640 0) (point (.lowered 2) 2) (fun t => t.power.job.isNone) &&
    after (.voltageConfirmed 639 0) (point (.lowered 2) 2) (fun t => t.power.job.isSome) &&
    after (.voltageConfirmed 730 0) (point (.raising 1) 2) (fun t => t.power.job == some (.raised 1) && t.power.point == 2) &&
    after .voltageTimeout (point (.raising 1) 2) (fun t => t.power.job.isNone && t.out.any (· == .pmbus 0x21 650)) &&
    after (.pmbAlert 0x8010) awake (fun t => t.reg (aPmu + 0x28) == 0x80100000)) = true := by decide +kernel
theorem test_o48_hypotheses : refusal (entering [5, 4] [7]) 2 6 = none ∧ (entering [] [7]).power.refuse.length = 11 ∧ refusal jobRuns 2 8 = some 5 ∧
    isKcpWake asleep3 4 wakeBytes = true ∧ toWake asleep3 0 ≠ [] ∧ (waking 7).mem.outs = [] ∧ (waking 7).mem.held = [] ∧
    mayRetry (withPower (fun p => { p with dom := p.dom.set 7 6 }) awake) 7 = true ∧ reservedWrite (aPmu + 0x1C) 7 = false ∧
    reservedWrite (aPmu + 0x48) 1 = false ∧ reservedWrite (aPmu + 8) 3 = false ∧ pointMv 2 ≤ 640 + 10 := by
  decide +kernel
theorem test_o48_shapes : (entering [5, 4] [7]).Shape ∧ jobRuns.Shape ∧ asleep3.Shape ∧ (waking 7).Shape := by
  refine ⟨?_, ?_, ?_, ?_⟩ <;> (unfold State.Shape; decide +kernel)

/-- O49: what start-up finds, with these images in its flash. -/
def found (a b : Option (List Byte)) : StartEnv :=
  { slot0 := a
    slot1 := b
    spiHeld := false
    powerOk := true
    sysPll := true
    audioPll := true
    dramPll := true
    pciePll := true
    calPorts := []
    calSensor := true
    trained := true
    capacityGiB := 4
    density := 1
    ranks := 1
    trainWords := []
    preferred := false
    ilkB := true }
theorem test_o49_reset : after .porAssert (withKcp (fun k => { k with window := some 5 }) facetWord)
    (fun t => t.mem.bytes.isEmpty && t.kcp.window.isNone && t.boot.phase == .inReset) = true := by decide +kernel
theorem test_o49_recovery : after (.porRelease (found none (some [1, 2, 3]))) State.reset (fun t => t.boot.phase == .recovery && !t.render.run) = true := by
  decide +kernel
theorem test_o49_hypotheses : State.reset.boot.phase = .inReset ∧ State.reset.pins.supplyBad = 0 ∧ State.reset.mem.dramFailed = false ∧
    tryImg State.reset (found (some image) none).slot0 = 0 ∧ tryImg State.reset (found none (some image)).slot0 ≠ 0 ∧
    tryImg State.reset (found none (some image)).slot1 = 0 ∧ tryImg State.reset (some [1, 2, 3]) ≠ 0 :=
  ⟨by decide +kernel, by decide +kernel, by decide +kernel, test_image _ rfl rfl, by decide +kernel, test_image _ rfl rfl, by decide +kernel⟩

def keyed : State := { withKcp (fun k => { k with window := some 5 }) awake with
  sec := { awake.sec with keys := awake.sec.keys.set 3 (some { key := zeros 32, diag := true, admin := false }) } }
theorem test_o50_tamper : (after (.tamper 0 true) keyed (fun t => t.sec.keys.all (·.isNone) && t.kcp.window.isNone && t.reg (aSec + 8) == 1) &&
    after .secTamperLatchRead (keyed.setReg (aSec + 8) 5) (fun t => t.reg (aSec + 8) == 0)) = true := by decide +kernel
theorem test_o50_jtag : (after (.jtagDebugAccess (.debug 0x30400000 none)) facetWord (fun t => t.out == [.bus 0 0 false [0x44, 0x33, 0x22, 0x11]]) &&
    after (.jtagDebugAccess (.debug 0x30400000 none)) { facetWord with sec := { facetWord.sec with lifecycle := 2 } } (fun t => t.out.isEmpty)) = true := by
  decide +kernel
theorem test_o50_hypotheses : facetWord.sec.lifecycle < 2 ∧ reservedReq facetWord (coreReq 0x30400000 4 none) = false := by decide +kernel

theorem test_o51 : ((({ live := 2 ^ 48 - 2 } : Cnt).add 5).live, (({ live := 2 ^ 48 - 2 } : Cnt).add 5).sat, (({ live := 2 ^ 48 - 2 } : Cnt).add 1).sat) =
    (2 ^ 48 - 1, true, true) := by decide +kernel

/-! ### Commands at their boundary -/

/-- Every command of O59 and O60 has a packet, and a state that takes it into the delta. -/
theorem test_o59_hypotheses : ∀ r ∈ renderEffects ++ deviceEffects, ∃ p s, InOrder r.op p s ∧
    Admitted r.spec (toCmd r.op p) (s.received p) ∧ entersB ⟨r.op, r.spec, r.send⟩ p s = true := by
  have h : ∀ r ∈ renderEffects ++ deviceEffects, ∃ e ∈ deferredCases, entersB ⟨r.op, r.spec, r.send⟩ (pk r.op e.2.2) (e.2.1 live) = true := by
    decide +kernel
  intro r hr
  obtain ⟨e, -, he⟩ := h r hr
  refine ⟨_, _, ?_, ?_, he⟩
  all_goals
    simp only [entersB, Bool.and_eq_true] at he
    obtain ⟨⟨⟨⟨⟨⟨a, b⟩, -⟩, -⟩, -⟩, -⟩, -⟩ := he
  · exact inOrder_of (pk_carat ..) a
  · exact admitted_of b
/-- What an entry of these bytes does to a state. -/
def taken (op : Nat) (pl : List Byte) (s : State) : State :=
  s.applyEntry (.command (.pcie 0) 0 1 op 0 false pl (answered []) [])
theorem test_o59_feed : ((taken 0x0103 (fill 48 [(20, 2, 7), (24, 4, 1), (28, 1, 1)]) running).feed 7).enable = true := by decide +kernel
theorem test_o59_route : ((taken 0x0300 (fill 16 [(20, 2, 9), (22, 2, 7), (24, 2, 5), (28, 2, 0xFFFF)]) running).routeRt 9).cur =
    some { obj := 7, feed := 5, tap := 0, gain := -1, follow := false } := by decide +kernel
theorem test_o59_object : ((taken 0x0200 (fill 64 [(20, 2, 7), (24, 4, 3), (28, 1, 0xFF), (32, 4, 5)]) running).obj 7).pos.x = 5 := by decide +kernel
theorem test_o60_flow : ((taken 0x0701 (fill 44 [(20, 2, 256), (24, 4, 1), (28, 1, 1)]) running).flow 256).enable = true := by decide +kernel
/-- The premises of O60's requests: a veto's action, a domain to ask and one to wake, and points below and above. -/
theorem test_o60_hypotheses : mfind (withLoupe (fun l => { l with acts := [(5, { feed := 0, kind := 2, target := 0, due := 0 })] }) live).loupe.acts 5 ≠ none ∧
    awake.power.st < 2 ∧ toAsk awake 2 ≠ [] ∧ awake.power.job = none ∧ 0 < asleep3.power.st ∧ toWake asleep3 0 ≠ [] ∧
    awake.power.point < 1 ∧ 0 < (withPower (fun p => { p with point := 1 }) awake).power.point ∧ unplaced running = [] := by decide +kernel

/-! ### The machine as a whole -/

theorem test_o52 : (match step { live with pending := [.wakeNEdge, .heartbeatTx] } with | .next t => t.pending == [.heartbeatTx] | _ => false) = true := by
  decide +kernel
/-- A cycle of 500 MHz moves the free-running counter's clock on. -/
theorem test_idle : (match step timed with | .next t => t.pending.isEmpty && decide (t.time.l > timed.time.l) | _ => false) = true := by decide +kernel
/-- Log 192: 2 ns of a Facet clock of 1000 MHz issue two bundles, here of NOPs. -/
theorem test_kernelTick : (match step (withFacets (fun f => { f with live := [(3, (0, 1000))] }) (kernelRun true 1)) with
    | .next t => (t.core 3).pc == 2 && (t.core 3).cyc == 2
    | _ => false) = true := by decide +kernel
theorem test_o53 : (regRead live aSys, regRead live (aSys + 4)) = (0x9012, 0xB0) := by decide +kernel
theorem test_invariants : facetWord.MemOk ∧ facetWord.Shape ∧ keyed.MemOk ∧ keyed.Shape := by
  unfold State.MemOk State.Shape; decide +kernel
/-- O58: R13's fault, and commands that cannot stop. -/
theorem test_o58 : (match exec (.registerWrite (aTime + 0xC) 4 2) awake with | .fault .reservedField => true | _ => false) = true ∧
    mayFault (.registerWrite (aTime + 0xC) 4 2) = true ∧ mayFault .wakeNEdge = false := by decide +kernel

/-! ### Well-formedness: for each check a term that it refuses -/

theorem test_wf_good : (Instr.sysInfo (pk 0 (zeros 4))).wf = true ∧ (Instr.add { k := 63, f := 0xFFFFFF }).wf = true ∧
    (Instr.ldW { k := 0, f := 0xFFFFFFF }).wf = true ∧ (Instr.registerWrite 0xFFFFFFFFF 4 1).wf = true ∧
    (Instr.busTransaction { master := 7, addr := 2 ^ 40 - 1, size := 1, write := some [1] }).wf = true := by decide +kernel
theorem test_wf_boundary : (Instr.renderBoundary { shed := 1025 }).wf = false ∧ (Instr.renderBoundary { meas := [{ ball := 0, rise := [2 ^ 31] }] }).wf = false := by
  decide +kernel
theorem test_wf_run : (Instr.facetRunStart 0 (.objects [1, 1]) {}).wf = false ∧ (Instr.facetRunStart 0 (.matrix [2, 2]) {}).wf = false ∧
    (Instr.facetRunStart 0 (.chains [3, 3]) {}).wf = false ∧ (Instr.facetRunStart 0 .kernel { corrupt := [5 * 2 ^ 28] }).wf = false ∧
    (Instr.spareReplacement 0 (.chains [3, 3])).wf = false := by decide +kernel
theorem test_wf_loupe : (Instr.solveComplete 0 (2 ^ 32) false).wf = false ∧
    (Instr.jobStepComplete (2 ^ 16)).wf = false ∧
    (Instr.actionDueTime 0 (some (2 ^ 16))).wf = false := by decide +kernel
theorem test_wf_transport : (Instr.piecedObjectDiscard 0 (2 ^ 16) 0).wf = false ∧ (Instr.rplTailPost 0 0 [{ addr := 2 ^ 64, len := 0 }]).wf = false ∧
    (Instr.ringReadCompletion 0 { addr := 0, len := 0, bytes := [1] }).wf = false ∧ (Instr.bar2Access (2 ^ 25) 4 none).wf = false ∧
    (Instr.bar2Access 0 9 none).wf = false ∧ (Instr.spiRead 8193).wf = false ∧ (Instr.spiInvalidInstruction 2 1).wf = false ∧
    (Instr.spiInvalidInstruction 7 0).wf = false ∧ (Instr.sysInfo { pk 0 [] with tag := [1] }).wf = false := by decide +kernel
theorem test_wf_net : (Instr.frameReceived 0 (zeros 13) false false false).wf = false ∧ (Instr.wakeFrame 0 (zeros 13)).wf = false ∧
    (Instr.ptpMessage 0 (.delayReq 256 0)).wf = false ∧ (Instr.ptpMessage 0 (.announce 0 0 256 0 0 false)).wf = false ∧
    (Instr.ptpMessage 0 (.followUp 0 (2 ^ 16) 0)).wf = false ∧ (Instr.ptpMessage 0 (.delayResp 256 0)).wf = false ∧
    (Instr.ringFrameTransmit 0 65).wf = false := by decide +kernel
theorem test_wf_time : (Instr.referencePresent 0 { phase := 0, freq := 0, grade := 4 }).wf = false ∧
    (Instr.deviationEval [{ phase := 0, freq := 0, grade := 4 }]).wf = false ∧ (Instr.pullStep { phase := 0, freq := 0, grade := 4 }).wf = false ∧
    (Instr.tdmFrame 0 { slots := List.replicate 33 0, idx := 0 }).wf = false ∧ (Instr.tdmFrame 0 { slots := [2 ^ 31], idx := 0 }).wf = false := by
  decide +kernel
theorem test_wf_bus : (Instr.busTransaction { master := 0, addr := 2 ^ 40, size := 4 }).wf = false ∧
    (Instr.busTransaction { master := 0, addr := 0, size := 0 }).wf = false ∧ (Instr.busTransaction { master := 0, addr := 0, size := 257 }).wf = false ∧
    (Instr.busTransaction { master := 0, addr := 0, size := 4, write := some [1] }).wf = false ∧ (Instr.cdcQueue .media 0 false [7 * 2 ^ 28]).wf = false ∧
    (Instr.cdcQueue .media 0 false [2 ^ 16]).wf = false ∧ (Instr.dmaBurstResponse 0 (.uncorrectable (2 ^ 32))).wf = false ∧
    (Instr.dmaRequest 0 0 (.uncorrectable (2 ^ 32))).wf = false ∧ (Instr.scrubWord 0 0 (2 ^ 40) 0 .clean).wf = false ∧
    (Instr.registerWrite (2 ^ 36) 4 0).wf = false ∧ (Instr.registerWrite 0 3 0).wf = false ∧ (Instr.cntSnap (2 ^ 36) 0).wf = false := by decide +kernel
theorem test_wf_integrity : (Instr.lockstep 0 (2 ^ 32)).wf = false ∧ (Instr.supply 0 (2 ^ 16)).wf = false ∧ (Instr.thermalSample 32768).wf = false ∧
    (Instr.repeatRecord (2 ^ 16) 0 0).wf = false ∧ (Instr.repeatRecord 0 (2 ^ 8) 0).wf = false ∧ (Instr.repeatRecord 0 0 (2 ^ 16)).wf = false ∧
    (Instr.voltageConfirmed (2 ^ 16) 0).wf = false ∧ (Instr.jtagDebugAccess (.debug (2 ^ 36) none)).wf = false := by decide +kernel
theorem test_wf_pair : (Instr.noticeRx (2 ^ 16)).wf = false ∧ (Instr.deltaSegment { seg true with index := 1 }).wf = false ∧
    (Instr.resendRx [2 ^ 16]).wf = false ∧ (Instr.ackRx (2 ^ 32)).wf = false ∧ (Instr.markRx (2 ^ 32) true).wf = false ∧
    (Instr.stagingRx (2 ^ 32) (.bytes [])).wf = false ∧ (Instr.reconRx [(7 * 2 ^ 28, 0)]).wf = false ∧ (Instr.reconDataRx [(9, 0, [1])] true).wf = false := by
  decide +kernel
theorem test_wf_issue : (Instr.add { k := 0, f := 0x1000000 }).wf = false := by decide +kernel

/-- No row of the opcode table has bits. -/
theorem test_decode (n w : Nat) (s : State) : decodeTableWord n w = none ∧ s.withFetchWord n w = s := ⟨rfl, rfl⟩

end Sys2Proof.Tests
end

namespace Sys2Proof.Machine

/-! ### How a command ends (R13) -/

/-- The command ends in a next state. -/
def Goes (o : Host.Outcome State Fault Refusal) : Prop := ∃ t, o = .next t

theorem Goes.next (t : State) : Goes (.next t) := ⟨t, rfl⟩

theorem Goes.ite {c : Prop} [Decidable c] {a b : Host.Outcome State Fault Refusal} (ha : Goes a) (hb : Goes b) :
    Goes (if c then a else b) := by
  split <;> assumption

/-- The command ends in a next state or stops at a reserved field. -/
def GoesOrStops (o : Host.Outcome State Fault Refusal) : Prop := Goes o ∨ o = .fault .reservedField

theorem GoesOrStops.next (t : State) : GoesOrStops (.next t) := .inl (.next t)

theorem GoesOrStops.fault : GoesOrStops (.fault .reservedField) := .inr rfl

theorem GoesOrStops.ite {c : Prop} [Decidable c] {a b : Host.Outcome State Fault Refusal} (ha : GoesOrStops a) (hb : GoesOrStops b) :
    GoesOrStops (if c then a else b) := by
  split <;> assumption

theorem guarded_goesOrStops (a : Nat) (v : Word) (t : State) : GoesOrStops (guarded a v t) := by
  unfold guarded guardWrite
  split
  · exact .next t
  · exact .ite .fault (.next t)

/-- A command that writes no register by address goes on, whichever branch its meaning takes. -/
theorem exec_goes {i : Instr} (h : mayFault i = false) (s : State) : Goes (exec i s) := by
  cases i with
  | facetRunStart | budgetExpiry | layoutSwitchEntry | delayJumpXfadeEnd | dopplerXfadeEnd | placementXfadeEnd |
    alignDelayXfadeEnd | filterStagingComplete | firCopyBackComplete | abXfadeEnd | abCopyBackComplete | loupeStuck | stuckRecover
    | settlingEnd | loupeSyncEdge | jobStepComplete | conclusiveResult | maximumDwell | actionDueTime | compStep | driftStep |
    girdleReservationStall | spareReplacement | selftestComplete | txnCommit | sessionIdleTimeout | eventDrop |
    piecedObjectDiscard | ringReadCompletion | spiWrite | spiStatus | spiRead | spiInvalidInstruction | frameReceived |
    positionDatagram | ptpAnnounceTimeout | linkUp | pathDown | packetTransmit | txLateDrop | ringFrameTransmit |
    preemptVerifyDone | pauseTx | speedReduction | lpFail | arpRefresh | wakeFrame | waitToRestoreEnd | holdoverEval |
    syspllRelock | tdmFrame | portZcTimeout | asrcLock | portClockLost | portRange | busHang | lateResponse | dramInitDone |
    dramReadRetrain | dramPowerDown | dmaCopyComplete | scrubWord | lockstep | ganenRestartDone | supply | thermalSample | logCopy
    | repeatRecord | ilkBEdge | claimTieTimeout | heartbeatRx | bezelLink | deltaSegment | resendRx | ackRx | markRx | stagingRx |
    reconRx | reconDataRx | transplantRx | syncImageComplete | syncVerified | reclaimHoldoffExpiry | handoverFail | domainGrant |
    domainRefuse | domainReady | domainWake | voltageConfirmed | voltageTimeout | porAssert | porRelease | tamper | ilkBFall |
    supplyInRange | coalescingTimeExpiry | ptpSyncInterval | igmpUnsolicitedReport | sfpModabsChange =>
    dsimp only [exec, execFacetRunStart, execBudgetExpiry, execLayoutSwitchEntry, execDelayJumpXfadeEnd, execDopplerXfadeEnd,
      execPlacementXfadeEnd, execAlignDelayXfadeEnd, execFilterStagingComplete, execFirCopyBackComplete, execAbXfadeEnd,
      execAbCopyBackComplete, execLoupeStuck, execStuckRecover, execSettlingEnd, execLoupeSyncEdge, execJobStepComplete,
      execConclusiveResult, execMaximumDwell, execActionDueTime, execCompStep, execDriftStep, execGirdleReservationStall,
      execSpareReplacement, execSelftestComplete, execTxnCommit, execSessionIdleTimeout, execEventDrop, execPiecedObjectDiscard,
      execRingReadCompletion, execSpiWrite, execSpiStatus, execSpiRead, execSpiInvalidInstruction, execFrameReceived,
      execPositionDatagram, execPtpAnnounceTimeout, execLinkUp, execPathDown, execPacketTransmit, execTxLateDrop,
      execRingFrameTransmit, execPreemptVerifyDone, execPauseTx, execSpeedReduction, execLpFail, execArpRefresh, execWakeFrame,
      execWaitToRestoreEnd, execHoldoverEval, execSyspllRelock, execTdmFrame, execPortZcTimeout, execAsrcLock, execPortClockLost,
      execPortRange, execBusHang, execLateResponse, execDramInitDone, execDramReadRetrain, execDramPowerDown, execDmaCopyComplete,
      execScrubWord, execLockstep, execGanenRestartDone, execSupply, execThermalSample, execLogCopy, execRepeatRecord,
      execIlkBEdge, execClaimTieTimeout, execHeartbeatRx, execBezelLink, execDeltaSegment, execResendRx, execAckRx, execMarkRx,
      execStagingRx, execReconRx, execReconDataRx, execTransplantRx, execSyncImageComplete, execSyncVerified,
      execReclaimHoldoffExpiry, execHandoverFail, execDomainGrant, execDomainRefuse, execDomainReady, execDomainWake,
      execVoltageConfirmed, execVoltageTimeout, execPorAssert, execPorRelease, execTamper, execIlkBFall, execSupplyInRange,
      execCoalescingTimeExpiry, execPtpSyncInterval, execIgmpUnsolicitedReport, execSfpModabsChange]
    with_reducible repeat' first | exact .next _ | apply Goes.ite | split
  | loupeSyncReq | loupeInCfgWrite | facetReset | facetWinLock | facetRunSet | diagRegWrite | cmdTailDoorbell | rplTailPost |
    ringCtlWrite | bar2Access | netportRingTail | flowtabCtlWrite | timeSnap | timeAdjNs | captPop | txtsPop | maskApply |
    tdmCtlWrite | sidetoneCtlWrite | sidetoneGainWrite | busTransaction | dmaStart | dmaStop | dmaBurstResponse | dmaRequest |
    integFaultWrite | cntSnap | registerWrite | pmuReqWrite | pmuRetryWrite | pmuRefuseClr | jtagDebugAccess => cases h
  | _ => exact .next _

/-- A command that writes registers goes on or stops at a reserved field. -/
theorem exec_goesOrStops {i : Instr} (h : mayFault i = true) (s : State) : GoesOrStops (exec i s) := by
  cases i with
  | loupeSyncReq | loupeInCfgWrite | facetReset | facetWinLock | facetRunSet | cmdTailDoorbell | rplTailPost | ringCtlWrite |
    netportRingTail | flowtabCtlWrite | timeSnap | timeAdjNs | captPop | txtsPop | maskApply | tdmCtlWrite | sidetoneCtlWrite |
    sidetoneGainWrite | dmaStart | dmaStop | integFaultWrite | pmuReqWrite | pmuRetryWrite | pmuRefuseClr =>
    dsimp only [exec, execLoupeSyncReq, execLoupeInCfgWrite, execFacetReset, execFacetWinLock, execFacetRunSet,
      execCmdTailDoorbell, execRplTailPost, execRingCtlWrite, execNetportRingTail, execFlowtabCtlWrite, execTimeSnap,
      execTimeAdjNs, execCaptPop, execTxtsPop, execMaskApply, execTdmCtlWrite, execSidetoneCtlWrite, execSidetoneGainWrite,
      execDmaStart, execDmaStop, execIntegFaultWrite, execPmuReqWrite, execPmuRetryWrite, execPmuRefuseClr]
    exact guarded_goesOrStops ..
  | cntSnap => exact .ite (guarded_goesOrStops ..) (.next _)
  | busTransaction | registerWrite | diagRegWrite => exact .ite .fault (.next _)
  | bar2Access => exact .ite (.next _) (.ite .fault (.ite (.next _) (.next _)))
  | dmaBurstResponse | dmaRequest => exact .ite (.ite .fault (.next _)) (.next _)
  | jtagDebugAccess a =>
    cases a with
    | scan => exact .next _
    | debug => exact .ite (.next _) (.ite .fault (.next _))
  | _ => cases h

theorem exec_ends (i : Instr) (s : State) : GoesOrStops (exec i s) := by
  cases h : mayFault i
  · exact .inl (exec_goes h s)
  · exact exec_goesOrStops h s

theorem exec_not_refused (i : Instr) (s : State) (r : Refusal) : exec i s ≠ .refused r := by
  intro e
  obtain ⟨t, ht⟩ | hf := exec_ends i s
  · cases e.symm.trans ht
  · cases e.symm.trans hf

theorem exec_fault {i : Instr} {s : State} {f : Fault} (e : exec i s = .fault f) : f = .reservedField := by
  obtain ⟨t, ht⟩ | hf := exec_ends i s
  · cases e.symm.trans ht
  · cases e.symm.trans hf; rfl

/-- Settles O58: a command that writes no register always ends in a next state; the others end in one or stop at a reserved field. -/
theorem onlyReservedFieldsStop : Obligations.OnlyReservedFieldsStop :=
  ⟨fun _ s h => exec_goes h s, fun _ _ _ e => exec_fault e, exec_not_refused⟩

/-! ### What every step keeps (R3) -/

/-- Every command keeps what `Keeps` says: by its own lemma. -/
theorem exec_keeps {s0 s t : State} (h : Keeps s0 s) : ∀ i : Instr, exec i s = .next t → Keeps s0 t
  | .renderBoundary _, e => execRenderBoundary_keeps_eq e h
  | .facetRunStart _ _ _, e => execFacetRunStart_keeps_eq e h
  | .budgetExpiry _, e => execBudgetExpiry_keeps_eq e h
  | .deltaCutoff, e => execDeltaCutoff_keeps_eq e h
  | .ackDeadline, e => execAckDeadline_keeps_eq e h
  | .solveComplete _ _ _, e => execSolveComplete_keeps_eq e h
  | .layoutSwitchEntry _, e => execLayoutSwitchEntry_keeps_eq e h
  | .layoutXfadeEnd _, e => execLayoutXfadeEnd_keeps_eq e h
  | .routeXfadeEnd _, e => execRouteXfadeEnd_keeps_eq e h
  | .delayJumpXfadeEnd _, e => execDelayJumpXfadeEnd_keeps_eq e h
  | .dopplerXfadeEnd _, e => execDopplerXfadeEnd_keeps_eq e h
  | .placementXfadeEnd _, e => execPlacementXfadeEnd_keeps_eq e h
  | .alignDelayXfadeEnd _, e => execAlignDelayXfadeEnd_keeps_eq e h
  | .filterStagingComplete, e => execFilterStagingComplete_keeps_eq e h
  | .firCopyBackComplete, e => execFirCopyBackComplete_keeps_eq e h
  | .abXfadeEnd, e => execAbXfadeEnd_keeps_eq e h
  | .abCopyBackComplete, e => execAbCopyBackComplete_keeps_eq e h
  | .renderRateResume, e => execRenderRateResume_keeps_eq e h
  | .loupeStuck _, e => execLoupeStuck_keeps_eq e h
  | .stuckRecover _, e => execStuckRecover_keeps_eq e h
  | .settlingEnd _, e => execSettlingEnd_keeps_eq e h
  | .loupeSyncEdge, e => execLoupeSyncEdge_keeps_eq e h
  | .loupeSyncReq _, e => execLoupeSyncReq_keeps_eq e h
  | .loupeInCfgWrite _ _, e => execLoupeInCfgWrite_keeps_eq e h
  | .jobStepComplete _, e => execJobStepComplete_keeps_eq e h
  | .conclusiveResult _ _, e => execConclusiveResult_keeps_eq e h
  | .maximumDwell _ _, e => execMaximumDwell_keeps_eq e h
  | .actionDueTime _ _, e => execActionDueTime_keeps_eq e h
  | .compStep, e => execCompStep_keeps_eq e h
  | .driftStep _, e => execDriftStep_keeps_eq e h
  | .nop _, e => execNop_keeps_eq e h
  | .add _, e => execAdd_keeps_eq e h
  | .sub _, e => execSub_keeps_eq e h
  | .addi _, e => execAddi_keeps_eq e h
  | .mul _, e => execMul_keeps_eq e h
  | .mulh _, e => execMulh_keeps_eq e h
  | .and _, e => execAnd_keeps_eq e h
  | .or _, e => execOr_keeps_eq e h
  | .xor _, e => execXor_keeps_eq e h
  | .shl _, e => execShl_keeps_eq e h
  | .shr _, e => execShr_keeps_eq e h
  | .sra _, e => execSra_keeps_eq e h
  | .min _, e => execMin_keeps_eq e h
  | .max _, e => execMax_keeps_eq e h
  | .cmpeq _, e => execCmpeq_keeps_eq e h
  | .cmplt _, e => execCmplt_keeps_eq e h
  | .cmpltu _, e => execCmpltu_keeps_eq e h
  | .pand _, e => execPand_keeps_eq e h
  | .por _, e => execPor_keeps_eq e h
  | .pnot _, e => execPnot_keeps_eq e h
  | .pmov _, e => execPmov_keeps_eq e h
  | .movi _, e => execMovi_keeps_eq e h
  | .movhi _, e => execMovhi_keeps_eq e h
  | .mfs _, e => execMfs_keeps_eq e h
  | .mts _, e => execMts_keeps_eq e h
  | .jmp _, e => execJmp_keeps_eq e h
  | .bnz _, e => execBnz_keeps_eq e h
  | .dbnz _, e => execDbnz_keeps_eq e h
  | .call _, e => execCall_keeps_eq e h
  | .ret _, e => execRet_keeps_eq e h
  | .loop _, e => execLoop_keeps_eq e h
  | .endRun _, e => execEndRun_keeps_eq e h
  | .get _, e => execGet_keeps_eq e h
  | .put _, e => execPut_keeps_eq e h
  | .gwait _, e => execGwait_keeps_eq e h
  | .vadd _, e => execVadd_keeps_eq e h
  | .vsub _, e => execVsub_keeps_eq e h
  | .vneg _, e => execVneg_keeps_eq e h
  | .vabs _, e => execVabs_keeps_eq e h
  | .vmin _, e => execVmin_keeps_eq e h
  | .vmax _, e => execVmax_keeps_eq e h
  | .vand _, e => execVand_keeps_eq e h
  | .vor _, e => execVor_keeps_eq e h
  | .vxor _, e => execVxor_keeps_eq e h
  | .vshl _, e => execVshl_keeps_eq e h
  | .vsra _, e => execVsra_keeps_eq e h
  | .vmpy _, e => execVmpy_keeps_eq e h
  | .vmac _, e => execVmac_keeps_eq e h
  | .vmsc _, e => execVmsc_keeps_eq e h
  | .vmacs _, e => execVmacs_keeps_eq e h
  | .aclr _, e => execAclr_keeps_eq e h
  | .aext _, e => execAext_keeps_eq e h
  | .ains _, e => execAins_keeps_eq e h
  | .ashr _, e => execAshr_keeps_eq e h
  | .vcmpy _, e => execVcmpy_keeps_eq e h
  | .vcmac _, e => execVcmac_keeps_eq e h
  | .vcmacj _, e => execVcmacj_keeps_eq e h
  | .vbfly _, e => execVbfly_keeps_eq e h
  | .vsplat _, e => execVsplat_keeps_eq e h
  | .vperm _, e => execVperm_keeps_eq e h
  | .vsel _, e => execVsel_keeps_eq e h
  | .vextr _, e => execVextr_keeps_eq e h
  | .vcmpeq _, e => execVcmpeq_keeps_eq e h
  | .vcmplt _, e => execVcmplt_keeps_eq e h
  | .vcmple _, e => execVcmple_keeps_eq e h
  | .vnorm _, e => execVnorm_keeps_eq e h
  | .vcrc _, e => execVcrc_keeps_eq e h
  | .vmov _, e => execVmov_keeps_eq e h
  | .ldW _, e => execLdW_keeps_eq e h
  | .stW _, e => execStW_keeps_eq e h
  | .ldV _, e => execLdV_keeps_eq e h
  | .stV _, e => execStV_keeps_eq e h
  | .ldB _, e => execLdB_keeps_eq e h
  | .ldP _, e => execLdP_keeps_eq e h
  | .stP _, e => execStP_keeps_eq e h
  | .girdleReservationStall _, e => execGirdleReservationStall_keeps_eq e h
  | .girdleTransferComplete _ _ _, e => execGirdleTransferComplete_keeps_eq e h
  | .spareReplacement _ _, e => execSpareReplacement_keeps_eq e h
  | .selftestComplete _ _, e => execSelftestComplete_keeps_eq e h
  | .facetReset _ _, e => execFacetReset_keeps_eq e h
  | .facetWinLock _ _, e => execFacetWinLock_keeps_eq e h
  | .facetRunSet _ _, e => execFacetRunSet_keeps_eq e h
  | .sysInfo _, e => execSysInfo_keeps_eq e h
  | .sysSessionOpen _, e => execSysSessionOpen_keeps_eq e h
  | .sysSessionClose _, e => execSysSessionClose_keeps_eq e h
  | .sysSeqQuery _, e => execSysSeqQuery_keeps_eq e h
  | .sysEventMask _, e => execSysEventMask_keeps_eq e h
  | .sysKeySet _, e => execSysKeySet_keeps_eq e h
  | .sysRenderRate _, e => execSysRenderRate_keeps_eq e h
  | .sysStatus _, e => execSysStatus_keeps_eq e h
  | .sysKernelLoad _, e => execSysKernelLoad_keeps_eq e h
  | .sysKernelRun _, e => execSysKernelRun_keeps_eq e h
  | .sysKernelUnload _, e => execSysKernelUnload_keeps_eq e h
  | .sysKernelRead _, e => execSysKernelRead_keeps_eq e h
  | .zoneSet _, e => execZoneSet_keeps_eq e h
  | .zoneExclSet _, e => execZoneExclSet_keeps_eq e h
  | .zoneRead _, e => execZoneRead_keeps_eq e h
  | .feedSet _, e => execFeedSet_keeps_eq e h
  | .feedRead _, e => execFeedRead_keeps_eq e h
  | .feedWithdraw _, e => execFeedWithdraw_keeps_eq e h
  | .feedRestore _, e => execFeedRestore_keeps_eq e h
  | .layoutStatus _, e => execLayoutStatus_keeps_eq e h
  | .layoutResolve _, e => execLayoutResolve_keeps_eq e h
  | .objectSet _, e => execObjectSet_keeps_eq e h
  | .objectPosBulk _, e => execObjectPosBulk_keeps_eq e h
  | .objectRead _, e => execObjectRead_keeps_eq e h
  | .objectRestore _, e => execObjectRestore_keeps_eq e h
  | .routeSet _, e => execRouteSet_keeps_eq e h
  | .routeDelete _, e => execRouteDelete_keeps_eq e h
  | .routeRead _, e => execRouteRead_keeps_eq e h
  | .matrixStatus _, e => execMatrixStatus_keeps_eq e h
  | .chainSet _, e => execChainSet_keeps_eq e h
  | .biquadSet _, e => execBiquadSet_keeps_eq e h
  | .chainRead _, e => execChainRead_keeps_eq e h
  | .feedStatus _, e => execFeedStatus_keeps_eq e h
  | .filterLibWrite _, e => execFilterLibWrite_keeps_eq e h
  | .filterLibFree _, e => execFilterLibFree_keeps_eq e h
  | .filterStage _, e => execFilterStage_keeps_eq e h
  | .filterSwap _, e => execFilterSwap_keeps_eq e h
  | .filterDiscard _, e => execFilterDiscard_keeps_eq e h
  | .filterDirect _, e => execFilterDirect_keeps_eq e h
  | .filterAb _, e => execFilterAb_keeps_eq e h
  | .filterRead _, e => execFilterRead_keeps_eq e h
  | .loupeZoneSet _, e => execLoupeZoneSet_keeps_eq e h
  | .loupeInputSet _, e => execLoupeInputSet_keeps_eq e h
  | .loupeSync _, e => execLoupeSync_keeps_eq e h
  | .loupeJobStart _, e => execLoupeJobStart_keeps_eq e h
  | .loupeJobAbort _, e => execLoupeJobAbort_keeps_eq e h
  | .loupeLearn _, e => execLoupeLearn_keeps_eq e h
  | .loupeVeto _, e => execLoupeVeto_keeps_eq e h
  | .loupeCompClear _, e => execLoupeCompClear_keeps_eq e h
  | .loupeAuditRead _, e => execLoupeAuditRead_keeps_eq e h
  | .loupeJobRead _, e => execLoupeJobRead_keeps_eq e h
  | .loupeDerive _, e => execLoupeDerive_keeps_eq e h
  | .netportSet _, e => execNetportSet_keeps_eq e h
  | .flowSet _, e => execFlowSet_keeps_eq e h
  | .flowDelete _, e => execFlowDelete_keeps_eq e h
  | .flowRead _, e => execFlowRead_keeps_eq e h
  | .netportRead _, e => execNetportRead_keeps_eq e h
  | .netKcpSet _, e => execNetKcpSet_keeps_eq e h
  | .ptpSet _, e => execPtpSet_keeps_eq e h
  | .refInputSet _, e => execRefInputSet_keeps_eq e h
  | .refPrioritySet _, e => execRefPrioritySet_keeps_eq e h
  | .refForce _, e => execRefForce_keeps_eq e h
  | .triggerSet _, e => execTriggerSet_keeps_eq e h
  | .captureRead _, e => execCaptureRead_keeps_eq e h
  | .timeRead _, e => execTimeRead_keeps_eq e h
  | .refStatus _, e => execRefStatus_keeps_eq e h
  | .portSet _, e => execPortSet_keeps_eq e h
  | .portMask _, e => execPortMask_keeps_eq e h
  | .portRun _, e => execPortRun_keeps_eq e h
  | .sidetoneSet _, e => execSidetoneSet_keeps_eq e h
  | .portRead _, e => execPortRead_keeps_eq e h
  | .pairSet _, e => execPairSet_keeps_eq e h
  | .pairStatus _, e => execPairStatus_keeps_eq e h
  | .pairSync _, e => execPairSync_keeps_eq e h
  | .pairHandover _, e => execPairHandover_keeps_eq e h
  | .txnBegin _, e => execTxnBegin_keeps_eq e h
  | .txnCommit _, e => execTxnCommit_keeps_eq e h
  | .txnAbort _, e => execTxnAbort_keeps_eq e h
  | .pwrState _, e => execPwrState_keeps_eq e h
  | .pwrOppoint _, e => execPwrOppoint_keeps_eq e h
  | .pwrDomainRetry _, e => execPwrDomainRetry_keeps_eq e h
  | .pwrStatus _, e => execPwrStatus_keeps_eq e h
  | .diagWindowUnlock _, e => execDiagWindowUnlock_keeps_eq e h
  | .diagWindowLock _, e => execDiagWindowLock_keeps_eq e h
  | .diagRegRead _, e => execDiagRegRead_keeps_eq e h
  | .diagRegWrite _, e => execDiagRegWrite_keeps_eq e h
  | .diagCounters _, e => execDiagCounters_keeps_eq e h
  | .diagInclusionRead _, e => execDiagInclusionRead_keeps_eq e h
  | .diagFacetRetry _, e => execDiagFacetRetry_keeps_eq e h
  | .diagLifecycle _, e => execDiagLifecycle_keeps_eq e h
  | .bootStatus _, e => execBootStatus_keeps_eq e h
  | .bootWrite _, e => execBootWrite_keeps_eq e h
  | .bootStart _, e => execBootStart_keeps_eq e h
  | .sessionIdleTimeout _, e => execSessionIdleTimeout_keeps_eq e h
  | .eventDrop _, e => execEventDrop_keeps_eq e h
  | .piecedObjectDiscard _ _ _, e => execPiecedObjectDiscard_keeps_eq e h
  | .windowExpiry, e => execWindowExpiry_keeps_eq e h
  | .cmdTailDoorbell _ _, e => execCmdTailDoorbell_keeps_eq e h
  | .rplTailPost _ _ _, e => execRplTailPost_keeps_eq e h
  | .ringReadCompletion _ _, e => execRingReadCompletion_keeps_eq e h
  | .ringCtlWrite _ _, e => execRingCtlWrite_keeps_eq e h
  | .bar2Access _ _ _, e => execBar2Access_keeps_eq e h
  | .pcieFlr, e => execPcieFlr_keeps_eq e h
  | .pciePerst, e => execPciePerst_keeps_eq e h
  | .spiWrite _, e => execSpiWrite_keeps_eq e h
  | .spiStatus, e => execSpiStatus_keeps_eq e h
  | .spiRead _, e => execSpiRead_keeps_eq e h
  | .spiInvalidInstruction _ _, e => execSpiInvalidInstruction_keeps_eq e h
  | .frameReceived _ _ _ _ _, e => execFrameReceived_keeps_eq e h
  | .pauseExpiry _, e => execPauseExpiry_keeps_eq e h
  | .positionDatagram _ _, e => execPositionDatagram_keeps_eq e h
  | .ptpMessage _ _, e => execPtpMessage_keeps_eq e h
  | .ptpAnnounceTimeout _, e => execPtpAnnounceTimeout_keeps_eq e h
  | .linkUp _, e => execLinkUp_keeps_eq e h
  | .linkDown _, e => execLinkDown_keeps_eq e h
  | .pathDown _ _, e => execPathDown_keeps_eq e h
  | .packetTransmit _, e => execPacketTransmit_keeps_eq e h
  | .txLateDrop _, e => execTxLateDrop_keeps_eq e h
  | .netportRingTail _ _ _, e => execNetportRingTail_keeps_eq e h
  | .ringFrameTransmit _ _, e => execRingFrameTransmit_keeps_eq e h
  | .preemptVerifyDone _ _, e => execPreemptVerifyDone_keeps_eq e h
  | .pauseTx _, e => execPauseTx_keeps_eq e h
  | .speedReduction _, e => execSpeedReduction_keeps_eq e h
  | .lpFail _, e => execLpFail_keeps_eq e h
  | .speedRestore _, e => execSpeedRestore_keeps_eq e h
  | .arpRefresh _, e => execArpRefresh_keeps_eq e h
  | .wakeFrame _ _, e => execWakeFrame_keeps_eq e h
  | .flowtabCtlWrite _ _, e => execFlowtabCtlWrite_keeps_eq e h
  | .timeSnap _, e => execTimeSnap_keeps_eq e h
  | .timeAdjNs _ _, e => execTimeAdjNs_keeps_eq e h
  | .comparatorFire _, e => execComparatorFire_keeps_eq e h
  | .captureEdge _ _, e => execCaptureEdge_keeps_eq e h
  | .captPop _ _, e => execCaptPop_keeps_eq e h
  | .txtsPop _ _, e => execTxtsPop_keeps_eq e h
  | .referenceLost _, e => execReferenceLost_keeps_eq e h
  | .referencePresent _ _, e => execReferencePresent_keeps_eq e h
  | .deviationEval _, e => execDeviationEval_keeps_eq e h
  | .waitToRestoreEnd _, e => execWaitToRestoreEnd_keeps_eq e h
  | .pullStep _, e => execPullStep_keeps_eq e h
  | .holdoverEval, e => execHoldoverEval_keeps_eq e h
  | .clockLoss _, e => execClockLoss_keeps_eq e h
  | .syspllRelock, e => execSyspllRelock_keeps_eq e h
  | .tdmFrame _ _, e => execTdmFrame_keeps_eq e h
  | .maskApply _ _ _, e => execMaskApply_keeps_eq e h
  | .portZcTimeout _, e => execPortZcTimeout_keeps_eq e h
  | .asrcLock _, e => execAsrcLock_keeps_eq e h
  | .noLock _, e => execNoLock_keeps_eq e h
  | .portClockLost _ _, e => execPortClockLost_keeps_eq e h
  | .portRange _, e => execPortRange_keeps_eq e h
  | .portRangeRecover _, e => execPortRangeRecover_keeps_eq e h
  | .tdmCtlWrite _ _, e => execTdmCtlWrite_keeps_eq e h
  | .sidetoneCtlWrite _ _, e => execSidetoneCtlWrite_keeps_eq e h
  | .sidetoneGainWrite _ _, e => execSidetoneGainWrite_keeps_eq e h
  | .busTransaction _, e => execBusTransaction_keeps_eq e h
  | .busHang _ _, e => execBusHang_keeps_eq e h
  | .lateResponse _ _, e => execLateResponse_keeps_eq e h
  | .cdcQueue _ _ _ _, e => execCdcQueue_keeps_eq e h
  | .secureWipeDone, e => execSecureWipeDone_keeps_eq e h
  | .dramInitDone, e => execDramInitDone_keeps_eq e h
  | .dramReadRetrain, e => execDramReadRetrain_keeps_eq e h
  | .dramPowerDown _ _, e => execDramPowerDown_keeps_eq e h
  | .dmaStart _ _, e => execDmaStart_keeps_eq e h
  | .dmaStop _ _, e => execDmaStop_keeps_eq e h
  | .dmaBurstResponse _ _, e => execDmaBurstResponse_keeps_eq e h
  | .dmaCopyComplete _, e => execDmaCopyComplete_keeps_eq e h
  | .dmaFenceComplete _, e => execDmaFenceComplete_keeps_eq e h
  | .dmaRequest _ _ _, e => execDmaRequest_keeps_eq e h
  | .scrubWord _ _ _ _ _, e => execScrubWord_keeps_eq e h
  | .lockstep _ _, e => execLockstep_keeps_eq e h
  | .ganenRestartDone, e => execGanenRestartDone_keeps_eq e h
  | .ganenRestartTimeout, e => execGanenRestartTimeout_keeps_eq e h
  | .supply _ _, e => execSupply_keeps_eq e h
  | .thermalSample _, e => execThermalSample_keeps_eq e h
  | .logCopy, e => execLogCopy_keeps_eq e h
  | .repeatRecord _ _ _, e => execRepeatRecord_keeps_eq e h
  | .integFaultWrite _, e => execIntegFaultWrite_keeps_eq e h
  | .cntSnap _ _, e => execCntSnap_keeps_eq e h
  | .registerWrite _ _ _, e => execRegisterWrite_keeps_eq e h
  | .ilkBEdge, e => execIlkBEdge_keeps_eq e h
  | .claimTieTimeout, e => execClaimTieTimeout_keeps_eq e h
  | .ilkFault, e => execIlkFault_keeps_eq e h
  | .heartbeatTx, e => execHeartbeatTx_keeps_eq e h
  | .heartbeatRx _, e => execHeartbeatRx_keeps_eq e h
  | .bezelLink _, e => execBezelLink_keeps_eq e h
  | .noticeRx _, e => execNoticeRx_keeps_eq e h
  | .deltaSegment _, e => execDeltaSegment_keeps_eq e h
  | .resendRx _, e => execResendRx_keeps_eq e h
  | .ackRx _, e => execAckRx_keeps_eq e h
  | .markRx _ _, e => execMarkRx_keeps_eq e h
  | .stagingRx _ _, e => execStagingRx_keeps_eq e h
  | .reconRx _, e => execReconRx_keeps_eq e h
  | .reconDataRx _ _, e => execReconDataRx_keeps_eq e h
  | .reconDeadline, e => execReconDeadline_keeps_eq e h
  | .transplantRx _, e => execTransplantRx_keeps_eq e h
  | .autoSyncStart, e => execAutoSyncStart_keeps_eq e h
  | .syncImageComplete _, e => execSyncImageComplete_keeps_eq e h
  | .syncSettleEnd, e => execSyncSettleEnd_keeps_eq e h
  | .syncVerified, e => execSyncVerified_keeps_eq e h
  | .reclaimHoldoffExpiry, e => execReclaimHoldoffExpiry_keeps_eq e h
  | .handoverFail, e => execHandoverFail_keeps_eq e h
  | .domainGrant _, e => execDomainGrant_keeps_eq e h
  | .domainDelay d, e => execDomainDelay_keeps_eq (_d := d) e h
  | .domainDelayExpired _, e => execDomainDelayExpired_keeps_eq e h
  | .domainRefuse _ _, e => execDomainRefuse_keeps_eq e h
  | .domainReady _, e => execDomainReady_keeps_eq e h
  | .domainWake _ _, e => execDomainWake_keeps_eq e h
  | .wakeNEdge, e => execWakeNEdge_keeps_eq e h
  | .pmuReqWrite _, e => execPmuReqWrite_keeps_eq e h
  | .pmuRetryWrite _, e => execPmuRetryWrite_keeps_eq e h
  | .pmuRefuseClr _, e => execPmuRefuseClr_keeps_eq e h
  | .secTamperLatchRead, e => execSecTamperLatchRead_keeps_eq e h
  | .voltageConfirmed _ _, e => execVoltageConfirmed_keeps_eq e h
  | .voltageTimeout, e => execVoltageTimeout_keeps_eq e h
  | .pmbAlert _, e => execPmbAlert_keeps_eq e h
  | .porAssert, e => execPorAssert_keeps_eq e h
  | .porRelease _, e => execPorRelease_keeps_eq e h
  | .tamper _ _, e => execTamper_keeps_eq e h
  | .jtagDebugAccess _, e => execJtagDebugAccess_keeps_eq e h
  | .ilkBFall, e => execIlkBFall_keeps_eq e h
  | .supplyInRange _, e => execSupplyInRange_keeps_eq e h
  | .coalescingTimeExpiry _, e => execCoalescingTimeExpiry_keeps_eq e h
  | .ptpSyncInterval _ _, e => execPtpSyncInterval_keeps_eq e h
  | .igmpUnsolicitedReport _, e => execIgmpUnsolicitedReport_keeps_eq e h
  | .sfpModabsChange _ _, e => execSfpModabsChange_keeps_eq e h

theorem State.issueSlot_keeps {s0 s : State} (h : Keeps s0 s) (k : Fin 64) (e : Fin 4 × Word) : Keeps s0 (State.issueSlot k s e) := by
  unfold State.issueSlot
  split
  · exact .ite (State.facetStop_keeps h _ _) h
  next i _ =>
    split
    next e => exact exec_keeps h i e
    next => exact h

theorem State.issueBundle_keeps {s0 s : State} (h : Keeps s0 s) (k : Fin 64) : Keeps s0 (s.issueBundle k) :=
  .foldl h fun _ e ht => State.issueSlot_keeps ht k e

theorem State.runFacet_keeps {s0 : State} (k : Fin 64) (n : Nat) : ∀ {s : State}, Keeps s0 s → Keeps s0 (State.runFacet k n s) := by
  induction n with
  | zero => exact id
  | succ n ih => exact fun h => .ite (ih (State.setCore_keeps (State.issueBundle_keeps h k) _ _)) h

theorem State.kernelTick_keeps {s0 s : State} (h : Keeps s0 s) : Keeps s0 s.kernelTick :=
  .foldl h fun _ k ht => State.runFacet_keeps k 2 (State.setCore_keeps ht _ _)

theorem State.takeStrays_keeps {s0 s : State} (h : Keeps s0 s) : Keeps s0 s.takeStrays :=
  .ite (State.serveStrays_keeps _ _ h) h

theorem State.idleStep_keeps {s0 s : State} (h : Keeps s0 s) : Keeps s0 s.idleStep :=
  have hc := State.crystal_keeps h
  .ite hc (State.takeStrays_keeps (State.kernelTick_keeps (State.fillBuckets_keeps (State.tick_keeps hc))))

/-- A step keeps what `Keeps` says of the state whose front command is taken. -/
theorem step_keeps {s t : State} (e : step s = .next t) : Keeps { s with pending := s.pending.tail } t := by
  unfold step at e
  split at e
  next hp =>
    cases e
    exact State.idleStep_keeps (.upd (.refl _) (by rw [hp]; rfl) rfl rfl)
  next c rest hp =>
    rw [hp]
    exact exec_keeps (.refl _) c e

/-- Settles O56: by what every command keeps, and so do the bundles and packets of an idle cycle. -/
theorem stepKeepsTheShape : Obligations.StepKeepsTheShape := fun _ _ hs e => (step_keeps e).shape hs

/-! ### The identity registers (R5) -/

/-- SYS_ID reads the word that the register table holds. -/
theorem regRead_sysId (s : State) : regRead s aSys = s.reg aSys := rfl

/-- SYS_STEPPING reads the word that the register table holds. -/
theorem regRead_sysStepping (s : State) : regRead s (aSys + 4) = s.reg (aSys + 4) := rfl

/-- Refutes O53: the words of SYS_ID and SYS_STEPPING are the register table's, and a state whose table holds another word for
SYS_ID reads that word; the statement speaks of every state, whether commands lead to it or not. -/
theorem not_identityRegistersReadThePart : ¬ Obligations.IdentityRegistersReadThePart := by
  intro h
  have hid := (h (State.reset.setReg aSys 0)).1
  rw [regRead_sysId, State.reg_setReg_self] at hid
  exact absurd hid (by decide)

/-! ### What a record and its event leave alone -/

/-- Register `a` and counter `k` are as they were. -/
structure Spares (a k : Nat) (s t : State) : Prop where
  reg : t.reg a = s.reg a
  cnt : mget {} t.cnts k = mget {} s.cnts k

namespace Spares
variable {a k : Nat} {s0 s : State}

theorem refl (s : State) : Spares a k s s := ⟨rfl, rfl⟩

/-- An update of neither registers nor counters. -/
theorem upd {pending freeCtr out pins power sec boot kcp delta render integ pair time loupe facets mem dma net ports}
    (h : Spares a k s0 s) : Spares a k s0 (State.mk pending freeCtr out pins s.regs s.cnts power sec boot kcp delta render integ pair
      time loupe facets mem dma net ports) :=
  ⟨h.reg, h.cnt⟩

theorem ite {c : Prop} [Decidable c] {t : State} (hs : Spares a k s0 s) (ht : Spares a k s0 t) :
    Spares a k s0 (if c then s else t) := by
  split <;> assumption

theorem foldl {β : Type} {f : State → β → State} (hf : ∀ t b, Spares a k s0 t → Spares a k s0 (f t b)) (l : List β) :
    ∀ {s : State}, Spares a k s0 s → Spares a k s0 (l.foldl f s) := by
  induction l with
  | nil => exact id
  | cons b l ih => exact fun h => ih (hf _ b h)

theorem setReg (h : Spares a k s0 s) {b : Nat} (w : Word) (hb : a ≠ b) : Spares a k s0 (s.setReg b w) :=
  ⟨(s.reg_setReg_ne w hb).trans h.reg, h.cnt⟩

theorem raise (h : Spares a k s0 s) {b : Nat} (m : Word) (hb : a ≠ b) : Spares a k s0 (s.raise b m) := h.setReg _ hb

theorem count (h : Spares a k s0 s) {j : Nat} (n : Nat) (hj : k ≠ j) : Spares a k s0 (s.count j n) :=
  ⟨(congrFun (reg_congr (s.count_regs j n)) a).trans h.reg, (s.cnts_count_ne n hj).trans h.cnt⟩

theorem modNp (h : Spares a k s0 s) (j : Nat) (f : NetPort → NetPort) : Spares a k s0 (s.modNp j f) := h.upd

theorem setRing (h : Spares a k s0 s) (j : Nat) (f : Ring → Ring) : Spares a k s0 (s.setRing j f) := h.upd

theorem emit (h : Spares a k s0 s) (o : OutMsg) : Spares a k s0 (s.emit o) := h.upd

theorem cutMedia (h : Spares a k s0 s) : Spares a k s0 s.cutMedia := by
  refine foldl (fun t j ht => ?_) _ h
  split
  · exact (ite (ht.emit _) ht).modNp _ _
  · exact ht

theorem releaseIlk (h : Spares a k s0 s) (synced : Bool) : Spares a k s0 (s.releaseIlk synced) :=
  (ite h.cutMedia h).upd

theorem toCold (h : Spares a k s0 s) : Spares a k s0 s.toCold := ite h h.upd

end Spares

/-! An event leaves by the network ports, the SPI slave or the rings: it touches no register below PCIe's block and counts frames
sent at the ports alone. -/

section Events
variable {a k : Nat} (ha : a < aPcie) (hk : ∀ j, k ≠ aNet j + 0xC0) {s0 s : State}

include ha in
theorem State.msix_spares (h : Spares a k s0 s) (v : Nat) : Spares a k s0 (s.msix v) :=
  .ite (h.raise _ (by omega)) (h.emit _)

include ha in
theorem fillOne_spares (h : Spares a k s0 s) (j : Nat) (isFirst isLast isEvent : Bool) (addr : Nat) (bs : List Byte) :
    Spares a k s0 (fillOne j isFirst isLast isEvent addr bs s) := by
  have hhead := fun o w => (((h.emit (.host addr bs)).emit o).setReg (b := aRing j + 0x30) w (by unfold aRing; omega))
  have hwb := fun {c : Prop} [Decidable c] o w o' => Spares.ite (c := c) (hhead o w) ((hhead o w).emit o')
  unfold fillOne
  exact .ite (State.msix_spares ha ((hwb _ _ _).setRing _ _) _) ((hwb _ _ _).setRing _ _)

include ha in
theorem fillAll_spares (j : Nat) (ev : Bool) (l : List (Nat × List Byte)) : ∀ (first : Bool) {s : State}, Spares a k s0 s →
    Spares a k s0 (fillAll j ev first l s) := by
  induction l with
  | nil => exact fun _ _ h => h
  | cons e l ih => exact fun _ _ h => ih _ (fillOne_spares ha h ..)

include ha in
theorem flushRing_spares (j n : Nat) : ∀ {s : State}, Spares a k s0 s → Spares a k s0 (flushRing j n s) := by
  induction n with
  | zero => exact id
  | succ n ih =>
    intro s h
    unfold flushRing
    split
    · exact h
    · split
      · exact h
      · exact ih (fillAll_spares ha _ _ _ _ (h.setRing _ _))

include hk in
theorem State.place_spares (h : Spares a k s0 s) (j r : Nat) (f : OwnFrame) : Spares a k s0 (s.place j r f) :=
  .ite h (.ite (h.modNp _ _) ((h.emit _).count 1 (hk j)))

include ha hk

theorem State.deliver_spares (h : Spares a k s0 s) (p : OutPkt) : Spares a k s0 (s.deliver p) := by
  unfold State.deliver
  split
  · exact State.place_spares hk h ..
  · exact h.upd
  · exact flushRing_spares ha _ _ (h.setRing _ _)

theorem sendEvent_spares (h : Spares a k s0 s) (code txn : Nat) (payload : List Byte) (x : Nat) :
    Spares a k s0 (sendEvent code txn payload x s) :=
  .ite (State.deliver_spares ha hk h.upd _) h

theorem State.eventAny_spares (h : Spares a k s0 s) (code : Nat) (payload : List Byte) : Spares a k s0 (s.eventAny code payload) :=
  .foldl (fun _ x ht => sendEvent_spares ha hk ht code 0 payload x) _ h

end Events

/-! A report of a detection marks FAULT, writes the log's registers and counts at its counters, and sends its event. -/

section Records
variable {a k : Nat} {s0 s : State}

theorem State.writeRecord_spares (h : Spares a k s0 s) (ha : a ≠ aInteg + 4 ∧ a ≠ aInteg + 0x10)
    (hk : k ≠ aInteg + 0x90 ∧ k ≠ aInteg + 0xA0) (r : Incl) : Spares a k s0 (s.writeRecord r) := by
  have hw : ∀ (t : State) w, Spares a k s0 t → Spares a k s0 ((t.setReg (aInteg + 0x10) w).count (aInteg + 0x90)) :=
    fun t w ht => (ht.setReg w ha.2).count 1 hk.1
  have h1 := fun i w => hw { s with integ := i } w h.upd
  unfold State.writeRecord
  exact .ite (((h1 _ _).raise _ ha.1).count 1 hk.2) (h1 _ _)

theorem State.devFault_spares (h : Spares a k s0 (s.raise (aInteg + 0xC) 1)) (cls : Nat) : Spares a k s0 (s.devFault cls) := by
  unfold State.devFault
  exact (Spares.ite ((h.emit _).releaseIlk true).upd h).toCold

/-- Whatever a report of a D detection does after FAULT is raised leaves other registers and counters alone. -/
theorem State.report_spares {d : Det} (hd : d.dev = true) (h : Spares a k s0 (s.raise (aInteg + 0xC) 1)) (ha : a < aPcie)
    (hr : a ≠ aInteg + 4 ∧ a ≠ aInteg + 0x10) (hk : ∀ j, k ≠ aNet j + 0xC0)
    (hc : k ≠ aInteg + 0x90 ∧ k ≠ aInteg + 0x98 ∧ k ≠ aInteg + 0xA0) : Spares a k s0 (s.report d) := by
  have h1 : Spares a k s0 (s.devFault d.cls) := State.devFault_spares h _
  have h2 := fun r => State.writeRecord_spares h1 hr ⟨hc.1, hc.2.2⟩ r
  unfold State.report
  simp only [hd, if_true]
  exact .ite (h1.upd.count 1 hc.2.1) (.ite (State.eventAny_spares ha hk (h2 _).upd _ _) (h2 _).upd)

/-- A report of a D detection asserts FAULT (R380). -/
theorem State.report_fault (s : State) {d : Det} (hd : d.dev = true) : ((s.report d).reg (aInteg + 0xC)).getLsbD 0 = true := by
  have h : Spares (aInteg + 0xC) 0 (s.raise (aInteg + 0xC) 1) (s.report d) :=
    State.report_spares hd (.refl _) (by decide) (by decide) (by unfold aNet; omega) (by decide)
  rw [h.reg, State.reg_raise_self]
  simp

end Records

/-! ### Words and bytes -/

theorem leNat_leBytes (n v : Nat) : leNat (leBytes n v) = v % 256 ^ n := by
  induction n generalizing v with
  | zero => simp [leBytes, leNat, Nat.mod_one]
  | succ n ih =>
    rw [leBytes, leNat, ih, BitVec.toNat_ofNat, Nat.pow_succ' (m := 256), Nat.mod_mul]

/-- The four bytes of a word spell it. -/
theorem wordN_leBytes (w : Word) : wordN (leNat (leBytes 4 w.toNat)) = w := by
  rw [leNat_leBytes, Nat.mod_eq_of_lt (b := 256 ^ 4) w.isLt]
  simp [wordN]

/-! ### Issuing a transaction (R28, R330 to R334, R341, R426) -/

section Issue
variable {s : State} {q : BusReq}

theorem exec_busTransaction (h : reservedReq s q = false) : exec (.busTransaction q) s = .next (s.busIssue q) :=
  if_neg (by simp [h])

theorem exec_registerWrite {a n : Nat} {v : Word} (h : reservedReq s (coreReq a n (some v)) = false) :
    exec (.registerWrite a n v) s = .next (s.busIssue (coreReq a n (some v))) :=
  if_neg (by simp [h])

/-- A request that is held back waits behind the others (R332, R333). -/
theorem State.busIssue_held (h : heldBack s q = true) : s.busIssue q = { s with mem := { s.mem with held := s.mem.held ++ [q] } } :=
  if_pos h

section Free
variable (hb : heldBack s q = false) (ha : q.aged = false)
include hb ha

/-- A request that no target answers stays outstanding. -/
theorem State.busIssue_hole (ht : reqTarget s q = 15) : s.busIssue q = s.addOut q 15 none := by
  simp [State.busIssue, hb, ha, ht]

/-- A request to a domain that sleeps wakes it and stays outstanding (R426). -/
theorem State.busIssue_asleep {d : Nat} (ht : reqTarget s q ≠ 15) (hz : asleep s q.addr = some d) (hd : deadMem s q.addr = false) :
    s.busIssue q = (s.wakeFor d).addOut q (reqTarget s q) (some d) := by
  simp [State.busIssue, hb, ha, ht, hz, hd]

/-- A request to a target that is awake and answers is served. -/
theorem State.busIssue_serves (ht : reqTarget s q ≠ 15) (hz : asleep s q.addr = none) (hs : q.silent = false) :
    s.busIssue q = s.busServe q := by
  simp [State.busIssue, hb, ha, ht, hz, hs]

end Free

theorem State.busServe_periph (hd : deadMem s q.addr = false) (hr : s.region q.addr = .periph) : s.busServe q = s.periphAccess q := by
  simp [State.busServe, hd, hr]

theorem State.busServe_secure (hd : deadMem s q.addr = false) (hr : s.region q.addr = .secure) : s.busServe q = s.secureAccess q := by
  simp [State.busServe, hd, hr]

section Memory
variable (hr : s.region q.addr = .table ∨ s.region q.addr = .crown ∨ s.region q.addr = .facet)
include hr

theorem State.busServe_memory (hd : deadMem s q.addr = false) : s.busServe q = s.memAccess q := by
  obtain hr | hr | hr := hr <;> simp [State.busServe, hd, hr]

variable (hc : q.check = .clean)
include hc

/-- A memory other than the DRAM and the boot ROM is read where its words pass their check. -/
theorem State.memAccess_read (hw : q.write = none) : s.memAccess q = s.respond q false (s.readBytes q.addr q.size) := by
  obtain hr | hr | hr := hr <;> simp [State.memAccess, hr, hc, hw]

/-- A memory other than the DRAM and the boot ROM is written. -/
theorem State.memAccess_write {bs : List Byte} (hw : q.write = some bs) :
    s.memAccess q = (s.memWrite q.addr (bs.take q.size)).respond q false [] := by
  obtain hr | hr | hr := hr <;> simp [State.memAccess, hr, hc, hw]

end Memory

/-- Only Loupe's and the Bezel link's requests do more at a bus error than answer. -/
theorem State.busError_answers (hm : q.master.val < 6) : s.busError q = s.respond q true [] := by
  have h6 : q.master ≠ 6 := by rintro h; simp [h] at hm
  have h7 : q.master ≠ 7 := by rintro h; simp [h] at hm
  simp [State.busError, h6, h7]

/-- An answer changes nothing but what leaves. -/
theorem State.respond_eq (s : State) (q : BusReq) (err : Bool) (data : List Byte) :
    s.respond q err data = { s with out := (s.respond q err data).out } := by
  unfold State.respond
  split <;> rfl

theorem State.respond_user (hu : q.user = false) (s : State) (err : Bool) (data : List Byte) :
    s.respond q err data = s.emit (.bus q.master.val q.id.val err data) := by
  simp [State.respond, hu]

end Issue

/-! ### The secure part (R334, R341) -/

/-- What the Secure SRAM does of a request that may not reach it, before its bus error. -/
def State.secureRefusal (s : State) (q : BusReq) : State :=
  ((s.raise (aBusmx + 4) 4).count (aBusmx + 0xA0)).report { cls := 0x21, dev := true, inst := q.master.val, addr := q.addr }

section Secure
variable {s : State} {q : BusReq}

theorem State.secureAccess_refused (hq : q.machine = false) : s.secureAccess q = (s.secureRefusal q).busError q := by
  simp [State.secureAccess, State.secureRefusal, hq]

section Machine
variable (hq : q.machine = true) (hm : q.master.val < 2) (hw : s.sec.wiping = false)
include hq hm hw

/-- A control core reads the Secure SRAM in machine mode. -/
theorem State.secureAccess_read (hn : q.write = none) : s.secureAccess q = s.respond q false (s.memBytes q.addr q.size) := by
  simp [State.secureAccess, hq, hw, hn, Nat.not_le.mpr hm]

/-- A control core writes the Secure SRAM in machine mode. -/
theorem State.secureAccess_write {bs : List Byte} (hs : q.write = some bs) :
    s.secureAccess q = (s.memWrite q.addr (bs.take q.size)).respond q false [] := by
  simp [State.secureAccess, hq, hw, hs, Nat.not_le.mpr hm]

end Machine

/-- The refusal raises its bit of the bus matrix's errors and counts once, whatever else its record does. -/
theorem State.secureRefusal_spares (s : State) (q : BusReq) :
    Spares (aBusmx + 4) (aBusmx + 0xA0) ((s.raise (aBusmx + 4) 4).count (aBusmx + 0xA0)) (s.secureRefusal q) :=
  State.report_spares rfl (.raise (.refl _) _ (by decide)) (by decide) (by decide) (by unfold aNet aBusmx; omega) (by decide)

theorem State.secureRefusal_err (s : State) (q : BusReq) : ((s.secureRefusal q).reg (aBusmx + 4)).getLsbD 2 = true := by
  rw [(s.secureRefusal_spares q).reg, reg_congr (State.count_regs ..), State.reg_raise_self]
  simp

theorem State.secureRefusal_count (s : State) (q : BusReq) :
    mget {} (s.secureRefusal q).cnts (aBusmx + 0xA0) = (mget {} s.cnts (aBusmx + 0xA0)).add 1 :=
  (s.secureRefusal_spares q).cnt.trans (State.cnts_count_self _ _ _ (by decide))

theorem State.secureRefusal_fault (s : State) (q : BusReq) : ((s.secureRefusal q).reg (aInteg + 0xC)).getLsbD 0 = true :=
  State.report_fault _ rfl

theorem State.secureRefusal_mem (s : State) (q : BusReq) : (s.secureRefusal q).mem = s.mem := by
  simp [State.secureRefusal]

end Secure

/-! ### Transactions are served -/

section Served
variable {s : State} {q : BusReq}

/-- A control core's request that is not in machine mode is refused, marked, counted and recorded, and the memory stays. -/
theorem State.secureAccess_refusal (hq : q.machine = false) (hm : q.master.val < 2) :
    ((s.secureAccess q).reg (aBusmx + 4)).getLsbD 2 = true ∧
    mget {} (s.secureAccess q).cnts (aBusmx + 0xA0) = (mget {} s.cnts (aBusmx + 0xA0)).add 1 ∧
    ((s.secureAccess q).reg (aInteg + 0xC)).getLsbD 0 = true ∧
    (q.user = false → (s.secureAccess q).out.head? = some (.bus q.master.val q.id.val true [])) ∧ (s.secureAccess q).mem = s.mem := by
  have he : s.secureAccess q = (s.secureRefusal q).respond q true [] := by
    rw [State.secureAccess_refused hq, State.busError_answers (by omega)]
  have hu := fun h : q.user = false => State.respond_user h (s.secureRefusal q) true []
  rw [he, State.respond_eq]
  exact ⟨s.secureRefusal_err q, s.secureRefusal_count q, s.secureRefusal_fault q, fun h => by rw [hu h]; rfl, s.secureRefusal_mem q⟩

end Served

/-- A write of a whole register by its address acts, and one of another size or place ends in a bus error (R12). -/
theorem State.busIssue_registerWrite {s : State} {a n : Nat} {v : Word} (hb : heldBack s (coreReq a n (some v)) = false)
    (ht : reqTarget s (coreReq a n (some v)) ≠ 15) (hr : s.region a = .periph) (hz : asleep s a = none) (hd : deadMem s a = false) :
    s.busIssue (coreReq a n (some v)) =
      if n ≠ 4 ∨ a % 4 ≠ 0 then s.emit (.bus 0 0 true []) else (s.regWrite a v false).emit (.bus 0 0 false []) := by
  have hv : wordN (leNat (leBytes 4 v.toNat)) = v := wordN_leBytes v
  rw [State.busIssue_serves hb rfl ht hz rfl, State.busServe_periph hd hr]
  show (if n ≠ 4 ∨ a % 4 ≠ 0 then _ else (s.regWrite a (wordN (leNat (leBytes 4 v.toNat))) false).emit _) = _
  rw [hv]
  rfl

/-- Settles O38: what each place answers, by the lemmas on issuing and serving a transaction. -/
theorem transactionsAreServed : Obligations.TransactionsAreServed := by
  refine ⟨fun s q hr hb _ ha => ?_, fun s q hr hb => ?_, fun s a n v hr hb _ ht hp hz hd => ?_⟩
  · rw [exec_busTransaction hr]
    refine ⟨fun ht => ?_, fun d ht hz hd => ?_, fun ht hz hd hs hc hm => ?_, fun ht hm hz hd hs => ?_⟩
    · rw [State.busIssue_hole hb ha ht]
    · rw [State.busIssue_asleep hb ha ht hz hd]
    · rw [State.busIssue_serves hb ha ht hz hs, State.busServe_memory hm hd]
      exact ⟨fun hw => by rw [State.memAccess_read hm hc hw], fun bs hw => by rw [State.memAccess_write hm hc hw]⟩
    · rw [State.busIssue_serves hb ha ht hz hs, State.busServe_secure hd hm]
      exact ⟨fun hq hm => ⟨_, rfl, State.secureAccess_refusal hq hm⟩, fun hq hm hw =>
        ⟨fun hn => by rw [State.secureAccess_read hq hm hw hn], fun bs hn => by rw [State.secureAccess_write hq hm hw hn]⟩⟩
  · rw [exec_busTransaction hr, State.busIssue_held hb]
    exact ⟨_, rfl, rfl, rfl⟩
  · rw [exec_registerWrite hr, State.busIssue_registerWrite hb ht hp hz hd]
    exact ⟨fun hn ha => by simp [hn, ha], fun h => by rw [if_pos h]⟩

end Sys2Proof.Machine

namespace Sys2Proof.Machine

/-! ### What a message to the outside leaves alone -/

/-- Only what tells the outside of something differs: registers, counters, what leaves, the protocol's state, the log, the interlock
and the synchronisation, the network ports, and free values used up. The delta and the rest of the integrity state are as they
were. -/
def Tells (s t : State) : Prop :=
  t = { s with
    freeCtr := t.freeCtr, regs := t.regs, cnts := t.cnts, out := t.out, kcp := t.kcp
    integ := { s.integ with log := t.integ.log, uncopied := t.integ.uncopied, recent := t.integ.recent }
    pair := { s.pair with
      claim := t.pair.claim, tie := t.pair.tie, sync := t.pair.sync, keeper := t.pair.keeper, verifyCount := t.pair.verifyCount
      imageDone := t.pair.imageDone, records := t.pair.records, releasedFault := t.pair.releasedFault }
    net := { s.net with port := t.net.port } }

namespace Tells
variable {s0 s t : State}

theorem refl (s : State) : Tells s s := rfl

theorem trans (h : Tells s0 s) (k : Tells s t) : Tells s0 t := by
  unfold Tells at *
  exact k.trans (by rw [h])

theorem ite {c : Prop} [Decidable c] (hs : Tells s0 s) (ht : Tells s0 t) : Tells s0 (if c then s else t) := by
  split <;> assumption

theorem foldl {β : Type} {f : State → β → State} (hf : ∀ t b, Tells t (f t b)) (l : List β) (s : State) : Tells s (l.foldl f s) := by
  induction l generalizing s with
  | nil => exact .refl s
  | cons b l ih => exact (hf s b).trans (ih _)

theorem delta (h : Tells s t) : t.delta = s.delta := by rw [h]
theorem render (h : Tells s t) : t.render = s.render := by rw [h]
theorem peerCold (h : Tells s t) : t.pair.peerCold = s.pair.peerCold := by rw [h]

/-- An update of the log and of the detections in their second. -/
theorem noted {log uncopied recent} (h : Tells s0 s) :
    Tells s0 { s with integ := { s.integ with log := log, uncopied := uncopied, recent := recent } } :=
  h.trans rfl

/-- An update of the interlock and of the synchronisation. -/
theorem interlock {claim tie sync keeper verifyCount imageDone records releasedFault} (h : Tells s0 s) :
    Tells s0 { s with pair := { s.pair with
      claim := claim, tie := tie, sync := sync, keeper := keeper, verifyCount := verifyCount, imageDone := imageDone, records := records
      releasedFault := releasedFault } } :=
  h.trans rfl

theorem fresh (s : State) : Tells s s.fresh.2 := rfl
theorem setReg (s : State) (a : Nat) (w : Word) : Tells s (s.setReg a w) := rfl
theorem raise (s : State) (a : Nat) (m : Word) : Tells s (s.raise a m) := rfl
theorem emit (s : State) (o : OutMsg) : Tells s (s.emit o) := rfl
theorem bezel (s : State) (b : Bezel) : Tells s (s.bezel b) := rfl
theorem setSess (s : State) (x : Nat) (f : Session → Session) : Tells s (s.setSess x f) := rfl
theorem setRing (s : State) (k : Nat) (f : Ring → Ring) : Tells s (s.setRing k f) := rfl
theorem modNp (s : State) (k : Nat) (f : NetPort → NetPort) : Tells s (s.modNp k f) := rfl

theorem count (s : State) (k n : Nat) : Tells s (s.count k n) := .ite (.refl s) rfl

theorem msix (s : State) (v : Nat) : Tells s (s.msix v) := .ite (.raise ..) (.emit ..)

theorem fillOne (k : Nat) (a b c : Bool) (x : Nat) (bs : List Byte) (s : State) : Tells s (fillOne k a b c x bs s) :=
  have h := fun {p : Prop} [Decidable p] o o' a w o'' =>
    Tells.ite (c := p) (Tells.setReg ((s.emit o).emit o') a w) (.trans (.setReg ((s.emit o).emit o') a w) (.emit _ o''))
  .ite (.trans (.trans (h _ _ _ _ _) (.setRing ..)) (.msix ..)) (.trans (h _ _ _ _ _) (.setRing ..))

theorem fillAll (k : Nat) (ev : Bool) (l : List (Nat × List Byte)) : ∀ (first : Bool) (s : State), Tells s (fillAll k ev first l s) := by
  induction l with
  | nil => exact fun _ s => .refl s
  | cons e l ih => exact fun _ s => (Tells.fillOne ..).trans (ih _ _)

theorem flushRing (k n : Nat) : ∀ s : State, Tells s (flushRing k n s) := by
  induction n with
  | zero => exact .refl
  | succ n ih =>
    intro s
    unfold Machine.flushRing
    split
    · exact .refl s
    · split
      · exact .refl s
      · exact ((Tells.setRing ..).trans (.fillAll ..)).trans (ih _)

theorem sendOwn (s : State) (k : Nat) (f : OwnFrame) : Tells s (s.sendOwn k f) := (Tells.emit ..).trans (.count ..)

theorem place (s : State) (k r : Nat) (f : OwnFrame) : Tells s (s.place k r f) :=
  .ite (.refl s) (.ite (.modNp ..) (.sendOwn ..))

theorem deliver (s : State) (p : OutPkt) : Tells s (s.deliver p) := by
  unfold State.deliver
  split
  · exact .place ..
  · rfl
  · exact (Tells.setRing ..).trans (.flushRing ..)

theorem sendEvent (code txn : Nat) (payload : List Byte) (x : Nat) (s : State) : Tells s (sendEvent code txn payload x s) :=
  .ite ((Tells.setSess ..).trans (.deliver ..)) (.refl s)

theorem eventTxn (s : State) (code txn : Nat) (payload : List Byte) : Tells s (s.eventTxn code txn payload) :=
  .ite (.refl s) (.foldl (fun _ _ => .sendEvent ..) _ s)

theorem eventAny (s : State) (code : Nat) (payload : List Byte) : Tells s (s.eventAny code payload) :=
  .foldl (fun _ _ => .sendEvent ..) _ s

theorem event (s : State) (code : Nat) (payload : List Byte) : Tells s (s.event code payload) :=
  .ite (.refl s) (.eventAny ..)

theorem peerState (s : State) : Tells s s.peerState := .event ..

theorem toCold (s : State) : Tells s s.toCold := .ite (.refl s) (.interlock (.refl s))

theorem cutMedia (s : State) : Tells s s.cutMedia := by
  refine .foldl (fun t k => ?_) _ s
  split
  · exact .trans (.ite (.emit ..) (.refl t)) (.modNp ..)
  · exact .refl t

theorem releaseIlk (s : State) (synced : Bool) : Tells s (s.releaseIlk synced) :=
  .interlock (.ite (.cutMedia s) (.refl s))

theorem writeRecord (s : State) (r : Incl) : Tells s (s.writeRecord r) := by
  have h := fun (t : State) (ht : Tells s t) w => (ht.trans (.setReg t (aInteg + 0x10) w)).trans (.count _ (aInteg + 0x90) 1)
  have h1 := fun log uncopied => h _ (.noted (log := log) (uncopied := uncopied) (recent := s.integ.recent) (.refl s))
  unfold State.writeRecord
  exact .ite (((h1 _ _ _).trans (.raise ..)).trans (.count ..)) (h1 _ _ _)

theorem devFault (s : State) (cls : Nat) : Tells s (s.devFault cls) := by
  have h : Tells s (s.raise (aInteg + 0xC) 1) := .raise ..
  unfold State.devFault
  exact (Tells.ite (.interlock ((h.trans (.bezel ..)).trans (.releaseIlk ..))) h).trans (.toCold _)

theorem report (s : State) (d : Det) : Tells s (s.report d) := by
  have h : Tells s (if d.dev then s.devFault d.cls else s) := .ite (.devFault ..) (.refl s)
  have h1 := fun r => h.trans (.writeRecord _ r)
  unfold State.report
  exact .ite (h.noted.trans (.count ..)) (.ite ((h1 _).noted.trans (.eventAny ..)) (h1 _).noted)

theorem reply (s : State) (ep : Endpoint) (x q op txn : Nat) (tagged : Bool) (r : ReplyRec) (data : List Byte) :
    Tells s (s.reply ep x q op txn tagged r data) :=
  .trans (.ite (.setSess ..) (.refl s)) (.deliver ..)

end Tells
end Sys2Proof.Machine

namespace Sys2Proof.Machine

/-! ### Deltas close, commit and drop (R17, R400, R401) -/

theorem exec_deltaCutoff {s : State} (hr : s.render.run = true) (hs : s.serving = true) (hb : s.standby = false)
    (hc : s.delta.cutoff = false) : exec .deltaCutoff s = .next s.closeDelta := by
  show execDeltaCutoff s = _
  simp [execDeltaCutoff, hr, hs, hb, hc]

/-- The closed delta is for the next boundary, has the next sequence number and awaits its deadline, sent or not. -/
theorem State.closeDelta_closed (s : State) : ∃ c, s.closeDelta.delta.closed = some c ∧ c.boundary = s.render.n + 1 ∧
    c.seq = s.delta.seq ∧ s.closeDelta.delta.cutoff = true ∧ s.closeDelta.delta.committed = false ∧
    s.closeDelta.delta.acked = false ∧ s.closeDelta.delta.seq = (s.delta.seq + 1) % 2 ^ 32 ∧
    s.closeDelta.integ.lastClosed = s.render.n + 1 := by
  unfold State.closeDelta
  split <;> exact ⟨_, rfl, rfl, rfl, rfl, rfl, rfl, rfl, rfl⟩

namespace Tells

theorem txnDone (s : State) (txn : Nat) (r : ReplyRec) (late : Bool) : Tells s (s.txnDone txn r late) := .eventTxn ..

theorem answer (s : State) (e : Entry) : Tells s (s.answer e) := by
  unfold State.answer
  split
  · exact .reply ..
  · exact .ite (.txnDone ..) (.reply ..)
  · exact .refl s

theorem void (s : State) (e : Entry) : Tells s (s.void e) := by
  unfold State.void
  split
  · exact .setSess ..
  · exact .ite (.refl s) ((Tells.setSess ..).trans (.setSess ..))
  · exact .refl s

/-- A commit answers what the delta carries, and leaves it closed. -/
theorem commitDelta (s : State) (c : Closed) :
    Tells { s with delta := { s.delta with committed := true, drops := 0 } } (s.commitDelta c) :=
  .trans (.ite (.bezel ..) (.refl _)) (.foldl .answer ..)

end Tells

/-- A state whose delta in hand is dropped: it keeps no command, what may be entered again is, and the drop counts (R401). -/
def State.dropped (s : State) (c : Closed) (drops : Nat) : State :=
  { s with
    delta := { s.delta with
      entries := c.entries.filterMap entryAgain ++ s.delta.entries, closed := some { c with entries := [] }, committed := true
      drops := drops }
    pair := { s.pair with peerCold := s.pair.peerCold || decide (drops ≥ 2) } }

theorem State.dropDelta_tells (s : State) (c : Closed) :
    ∃ t, Tells s t ∧ Tells (t.dropped c (s.delta.drops + 1)) (s.dropDelta c) :=
  ⟨_, ((((Tells.bezel ..).trans (.foldl .void ..)).trans (.raise ..)).trans (.count ..)).trans (.report ..),
    .ite (.peerState _) (.refl _)⟩

theorem State.dropDelta_delta (s : State) (c : Closed) : (s.dropDelta c).delta = (s.dropped c (s.delta.drops + 1)).delta := by
  obtain ⟨t, ht, hd⟩ := s.dropDelta_tells c
  rw [hd.delta, State.dropped, State.dropped, ht.delta]

/-- The second drop in a row holds the peer to be cold. -/
theorem State.dropDelta_peerCold (s : State) (c : Closed) (h : s.delta.drops + 1 = 2) : (s.dropDelta c).pair.peerCold = true := by
  obtain ⟨t, -, hd⟩ := s.dropDelta_tells c
  simp [hd.peerCold, State.dropped, h]

/-- The deadline commits the delta or drops it, and then tells what was rolled back at the cut-off. -/
theorem State.deadline_closed {s : State} {c : Closed} (hc : s.delta.closed = some c) (hm : s.delta.committed = false) :
    ∃ t, Tells (if s.paired && !s.delta.acked then s.dropDelta c else s.commitDelta c) t ∧
      s.deadline = { t with delta := { t.delta with rolled := [] } } := by
  simp only [State.deadline, hc, hm]
  exact ⟨_, .foldl (fun t (e : Nat × Nat × ReplyRec) => .txnDone t e.2.1 e.2.2 false) _ _, rfl⟩

theorem State.deadline_commits {s : State} {c : Closed} (hc : s.delta.closed = some c) (hm : s.delta.committed = false)
    (h : s.paired = false ∨ s.delta.acked = true) :
    s.deadline.delta = { s.delta with committed := true, drops := 0, rolled := [] } := by
  obtain ⟨t, ht, e⟩ := State.deadline_closed hc hm
  rw [if_neg (by obtain h | h := h <;> simp [h])] at ht
  rw [e, ht.delta, (Tells.commitDelta s c).delta]

theorem State.deadline_drops {s : State} {c : Closed} (hc : s.delta.closed = some c) (hm : s.delta.committed = false)
    (hp : s.paired = true) (ha : s.delta.acked = false) :
    s.deadline.delta = { (s.dropDelta c).delta with rolled := [] } ∧ s.deadline.pair.peerCold = (s.dropDelta c).pair.peerCold := by
  obtain ⟨t, ht, e⟩ := State.deadline_closed hc hm
  rw [if_pos (by simp [hp, ha])] at ht
  rw [e, ht.delta]
  exact ⟨rfl, ht.peerCold⟩

/-- Settles O23: by what closing, committing and dropping leave of the delta. -/
theorem deltasCloseAndCommit : Obligations.DeltasCloseAndCommit := by
  refine ⟨fun s hr hs hb hc => ?_, fun s c hc hm => ⟨fun h => ⟨_, rfl, ?_⟩, fun hp ha => ⟨_, rfl, ?_⟩⟩⟩
  · obtain ⟨c, h⟩ := s.closeDelta_closed
    exact ⟨_, c, exec_deltaCutoff hr hs hb hc, h⟩
  · rw [State.deadline_commits hc hm h]
    exact ⟨rfl, rfl, hc, rfl, rfl⟩
  · obtain ⟨hd, hcold⟩ := State.deadline_drops hc hm hp ha
    rw [hd, hcold, State.dropDelta_delta]
    refine ⟨rfl, rfl, rfl, fun e he => ?_, s.dropDelta_peerCold c⟩
    obtain h | h := List.mem_append.mp he
    · exact .inr (.inr (List.mem_filterMap.mp h))
    · exact .inl h

end Sys2Proof.Machine

namespace Sys2Proof.Machine

/-! ### Marks and counts through a report -/

/-- No bit of register `a` is cleared. -/
def Rises (a : Nat) (s t : State) : Prop := ∀ i, (s.reg a).getLsbD i = true → (t.reg a).getLsbD i = true

namespace Rises
variable {a : Nat} {s0 s t : State}

theorem refl (s : State) : Rises a s s := fun _ => id

theorem of_spares {k : Nat} (h : Rises a s0 s) (e : Spares a k s t) : Rises a s0 t := fun i hi => by
  rw [e.reg]
  exact h i hi

/-- An update of no register. -/
theorem upd {pending freeCtr out pins cnts power sec boot kcp delta render integ pair time loupe facets mem dma net ports}
    (h : Rises a s0 s) : Rises a s0 (State.mk pending freeCtr out pins s.regs cnts power sec boot kcp delta render integ pair time
      loupe facets mem dma net ports) := h

theorem ite {c : Prop} [Decidable c] (hs : Rises a s0 s) (ht : Rises a s0 t) : Rises a s0 (if c then s else t) := by
  split <;> assumption

theorem setReg (h : Rises a s0 s) {b : Nat} (w : Word) (hb : a ≠ b) : Rises a s0 (s.setReg b w) :=
  h.of_spares (k := 0) (.setReg (.refl s) w hb)

theorem count (h : Rises a s0 s) (k n : Nat) : Rises a s0 (s.count k n) := fun i hi => by
  rw [reg_congr (State.count_regs ..)]
  exact h i hi

theorem raise (h : Rises a s0 s) (b : Nat) (m : Word) : Rises a s0 (s.raise b m) := fun i hi => by
  by_cases hb : a = b
  · subst hb; simp [h i hi]
  · rw [State.reg_raise_ne s m hb]; exact h i hi

end Rises

/-- A report of any detection leaves alone what its record, its event and FAULT do not touch. -/
theorem State.report_spares_any {a k : Nat} {s0 s : State} (d : Det) (h : Spares a k s0 s) (ha : a < aPcie)
    (hr : a ≠ aInteg + 4 ∧ a ≠ aInteg + 0x10) (hf : d.dev = true → a ≠ aInteg + 0xC) (hk : ∀ j, k ≠ aNet j + 0xC0)
    (hc : k ≠ aInteg + 0x90 ∧ k ≠ aInteg + 0x98 ∧ k ≠ aInteg + 0xA0) : Spares a k s0 (s.report d) := by
  cases hd : d.dev
  · unfold State.report
    simp only [hd, Bool.false_eq_true, if_false, Bool.false_and]
    exact .ite (h.upd.count 1 hc.2.1) (State.writeRecord_spares h hr ⟨hc.1, hc.2.2⟩ _).upd
  · exact State.report_spares hd (h.raise _ (hf hd)) ha hr hk hc

/-- A report clears no bit of the register of integrity errors. -/
theorem State.report_rises (s : State) (d : Det) : Rises (aInteg + 4) s (s.report d) := by
  have hd : Rises (aInteg + 4) s (if d.dev then s.devFault d.cls else s) :=
    .ite (.of_spares (k := 0) (.refl s) (State.devFault_spares (.raise (.refl s) _ (by decide)) _)) (.refl s)
  have hw := fun (t : State) w (ht : Rises (aInteg + 4) s t) => (ht.setReg (b := aInteg + 0x10) w (by decide)).count (aInteg + 0x90) 1
  have hr : ∀ r, Rises (aInteg + 4) s ((if d.dev then s.devFault d.cls else s).writeRecord r) := fun r => by
    have h1 := fun i w => hw { (if d.dev then s.devFault d.cls else s) with integ := i } w hd.upd
    unfold State.writeRecord
    exact .ite (((h1 _ _).raise _ _).count _ _) (h1 _ _)
  have he := fun {t : State} code pl (ht : Rises (aInteg + 4) s t) =>
    ht.of_spares (State.eventAny_spares (k := 0) (by decide) (by unfold aNet; omega) (.refl t) code pl)
  unfold State.report
  exact .ite (hd.upd.count _ _) (.ite (he _ _ (hr _).upd) (hr _).upd)

/-! ### The watchdog of the bus matrix (R335) -/

/-- The record of a hang marks it. -/
theorem State.hangRecord_marked (s : State) (q : BusReq) (t : Nat) : ((s.hangRecord q t).reg (aBusmx + 4)).getLsbD 0 = true := by
  unfold State.hangRecord
  rw [(State.report_spares_any (k := 0) _ (.refl _) (by decide) (by decide) (fun _ => by decide) (by unfold aNet; omega) (by decide)).reg,
    reg_congr (State.count_regs ..), State.setReg64, State.reg_setReg_ne _ _ (by decide), State.reg_setReg_ne _ _ (by decide),
    State.reg_setReg_ne _ _ (by decide), State.reg_raise_self]
  simp

/-- The record of a hang counts it once. -/
theorem State.hangRecord_count (s : State) (q : BusReq) (t : Nat) :
    mget {} (s.hangRecord q t).cnts (aBusmx + 0x90) = (mget {} s.cnts (aBusmx + 0x90)).add 1 := by
  unfold State.hangRecord
  exact (State.report_spares_any (a := 0) _ (.refl _) (by decide) (by decide) (fun _ => by decide) (by unfold aNet aBusmx; omega)
    (by decide)).cnt.trans (State.cnts_count_self _ _ _ (by decide))

theorem State.hangRecord_mem (s : State) (q : BusReq) (t : Nat) : (s.hangRecord q t).mem = s.mem := by
  simp [State.hangRecord, State.setReg64]

/-- With nothing held back, nothing is issued again. -/
theorem State.reissue_none {s : State} (h : s.mem.held = []) : s.reissue = s := by
  have e : { s with mem := { s.mem with held := s.mem.held } } = s := rfl
  rw [h] at e
  rw [State.reissue, h]
  exact e

/-- A transaction has hung: it is outstanding no more, and a target that has it still owes its answer. -/
def State.hung (s : State) (m id : Nat) (x : BusTx) : State :=
  { s with mem := { s.mem with
    outs := s.mem.outs.erase x, ended := if x.target = 15 then s.mem.ended else s.mem.ended ++ [(m, id)] } }

theorem exec_busHang {s : State} {m : Fin 8} {id : Fin 16} {x : BusTx}
    (hx : s.mem.outs.find? (fun t => t.req.master == m && t.req.id == id && t.wait.isNone) = some x) (hh : s.mem.held = [])
    (hm : x.req.master.val < 6) :
    exec (.busHang m id) s = .next (((s.hung m.val id.val x).hangRecord x.req x.target).respond x.req true []) := by
  have hn : (((s.hung m.val id.val x).hangRecord x.req x.target).respond x.req true []).mem.held = [] := by
    rw [State.respond_eq]
    exact (congrArg Mem.held (State.hangRecord_mem ..)).trans hh
  show execBusHang m id s = _
  simp only [execBusHang, hx]
  show Host.Outcome.next (((s.hung m.val id.val x).hangRecord x.req x.target).busError x.req).reissue = _
  rw [State.busError_answers hm, State.reissue_none hn]

/-! ### Dual-clock queues (R24) -/

/-- Of the blocks at hand, those of the queue's channels are poisoned, but for input blocks that an inward queue still collects. -/
theorem State.queueLost_blocks (s : State) (q : Crossing) (chans : List Nat) :
    (s.queueLost q chans).render.blocks = s.render.blocks.map (fun e =>
      if chans.contains e.1 && !(inward q && e.1 < 2 ^ 28) then (e.1, poison e.2) else e) := by
  refine List.map_congr_left fun e _ => ?_
  simp [List.mem_filter]

/-- The input channels of an inward queue lose samples of their open window. -/
theorem State.mem_queueLost_cdcBad (s : State) {q : Crossing} {chans : List Nat} {c : Nat} (hc : c ∈ chans) (hq : inward q = true)
    (hi : c < 2 ^ 28) : c ∈ (s.queueLost q chans).render.cdcBad := by
  refine List.mem_eraseDups.mpr (List.mem_append_right _ (List.mem_filter.mpr ⟨hc, ?_⟩))
  simpa [hq] using hi

/-- A record that is no device's own leaves FAULT alone. -/
theorem State.report_keeps_fault (s : State) {d : Det} (hd : d.dev = false) : (s.report d).reg (aInteg + 0xC) = s.reg (aInteg + 0xC) :=
  (State.report_spares_any (k := 0) d (.refl s) (by decide) (by decide) (by simp [hd]) (by unfold aNet; omega) (by decide)).reg

/-! ### Memories (R346, R348, R370) -/

/-- A new low byte leaves the bits above it. -/
theorem wput_low_byte (w : Word) (v : Nat) : (wput w 0 8 v).toNat / 256 = w.toNat / 256 := by
  refine Nat.eq_of_testBit_eq fun i => ?_
  have hv : (v % 2 ^ 8).testBit (i + 8) = false :=
    Nat.testBit_lt_two_pow (lt_of_lt_of_le (Nat.mod_lt _ (by decide)) (Nat.pow_le_pow_right (by decide) (by omega)))
  have hm : Nat.testBit 255 (i + 8) = false :=
    Nat.testBit_lt_two_pow (lt_of_lt_of_le (by decide : 255 < 2 ^ 8) (Nat.pow_le_pow_right (by decide) (by omega)))
  show ((wput w 0 8 v).toNat / 2 ^ 8).testBit i = (w.toNat / 2 ^ 8).testBit i
  rw [Nat.testBit_div_two_pow, Nat.testBit_div_two_pow, BitVec.testBit_toNat, BitVec.testBit_toNat]
  by_cases hi : i + 8 < 32
  · have hf : (wfield 0 8 v).getLsbD (i + 8) = false := by simpa [wfield, BitVec.getLsbD_ofNat] using fun _ => hv
    have hk : (wmask 0 8).getLsbD (i + 8) = false := by simpa [wmask, BitVec.getLsbD_ofNat] using fun _ => hm
    rw [wput, BitVec.getLsbD_or, BitVec.getLsbD_and, BitVec.getLsbD_not, hf, hk]
    simp [hi]
  · simp [BitVec.getLsbD_of_ge _ _ (Nat.not_lt.mp hi)]

/-- Setting the read delays anew changes the low byte of each lane's word. -/
theorem nth_zipIdx_wput (l : List Word) (v : Nat → Nat) (i : Nat) :
    (nth 0 (l.zipIdx.map fun e => wput e.1 0 8 (v e.2)) i).toNat / 256 = (nth 0 l i).toNat / 256 := by
  unfold nth
  rw [List.getD_eq_getElem?_getD, List.getD_eq_getElem?_getD, List.getElem?_map, List.getElem?_zipIdx]
  cases l[i]? with
  | none => rfl
  | some w => exact wput_low_byte w _

theorem exec_dramPowerDown {s : State} {ch rank : Fin 2} (hs : s.mem.st = 3) (hr : rank.val < s.mem.ranks)
    (ht : s.reg (aDramc + 0x18) ≠ 0) (hd : 2 * ch.val + rank.val ∉ s.mem.down) :
    exec (.dramPowerDown ch rank) s = .next { s with mem := { s.mem with down := s.mem.down ++ [ch.val * 2 + rank.val] } } := by
  rw [Nat.mul_comm] at hd
  exact if_pos ⟨hs, hr, ht, by simpa using hd⟩

/-- What a scrubber does of a word that it corrects: its own counter, and that of the memory's controller. -/
def State.scrubCorrects (s : State) (m : Fin 4) : State :=
  let s1 := s.count (aInteg + 0xA8)
  if m = 2 then s1.count (aFacetctl + 0x90) else if m = 3 then s1.eccCorrected .dram else s1

/-- What a scrubber does of a word that it cannot correct: its count and mark, and the memory's record. -/
def State.scrubRecords (s : State) (m : Fin 4) (inst addr synd : Nat) : State :=
  let s1 := (s.count (aInteg + 0xB0)).raise (aInteg + 4) 4
  if m = 2 then s1.facetFault inst (if addr % 0x100000 < 0x80000 then 2 else 3) 4 addr
  else s1.eccReport (if m = 0 then .table else if m = 1 then .crown else .dram) inst addr synd false true

section Scrub
variable {s : State} (m : Fin 4) (inst addr synd : Nat)

theorem exec_scrubWord_clean : exec (.scrubWord m inst addr synd .clean) s = .next s := ite_self _

variable (h : (s.reg (aInteg + 8)).getLsbD 0 = true)
include h

theorem exec_scrubWord_corrected : exec (.scrubWord m inst addr synd .corrected) s = .next (s.scrubCorrects m) :=
  if_neg (by simp [wbit, h])

theorem exec_scrubWord_uncorrectable :
    exec (.scrubWord m inst addr synd .uncorrectable) s = .next (s.scrubRecords m inst addr synd) :=
  if_neg (by simp [wbit, h])

end Scrub

/-- A corrected word counts once at the scrubber's counter. -/
theorem State.scrubCorrects_count (s : State) (m : Fin 4) :
    mget {} (s.scrubCorrects m).cnts (aInteg + 0xA8) = (mget {} s.cnts (aInteg + 0xA8)).add 1 := by
  have h : Spares 0 (aInteg + 0xA8) (s.count (aInteg + 0xA8)) (s.scrubCorrects m) := by
    unfold State.scrubCorrects
    exact .ite ((Spares.refl _).count 1 (by decide)) (.ite (((Spares.refl _).raise _ (by decide)).count 1 (by decide)) (.refl _))
  exact h.cnt.trans (State.cnts_count_self _ _ _ (by decide))

/-- A corrected word changes neither the memory nor the log. -/
theorem State.scrubCorrects_keeps (s : State) (m : Fin 4) : (s.scrubCorrects m).mem = s.mem ∧ (s.scrubCorrects m).integ = s.integ := by
  unfold State.scrubCorrects State.eccCorrected
  dsimp only
  split
  · simp
  · split <;> simp

/-- A Facet that stops, marked with its cause, before the stop is recorded. -/
def State.faultNoted (s : State) (k cause : Nat) : State :=
  let s1 := (s.setCore k { (s.core k).clearBundle.drain with run := false }).raise (aFacetctl + 4) (wordN (2 ^ (cause - 1)))
  { s1 with facets := { s1.facets with fault := mset s1.facets.fault k (cause, (s.core k).pc) } }

/-- What the stop of a Facet reports. -/
def State.faultDet (s : State) (k cause flags addr : Nat) : Det :=
  { cls := 0x40, dev := stopDev cause (s.fst k), inst := k, flags := flags, addr := addr, detail := [wordN cause, wordN (s.core k).pc] }

section FacetFault
variable {s : State} {k cause flags addr : Nat}

/-- A kernel's suspension clears a bit of a Facet's register, which lies at a multiple of 64 bytes. -/
theorem State.suspendKernel_spares {a : Nat} (ha : a % 64 ≠ 0) (hp : a < aPcie) (s : State) (k cause : Nat) :
    Spares a 0 s (s.suspendKernel k cause) := by
  unfold State.suspendKernel
  split
  · exact .refl s
  · have h := fun f w n => Spares.setReg (a := a) (k := 0) (.upd (.refl s)) (s := s.modKernel n f)
      (b := aFacetctl + 0x1000 + 0x40 * k) w (by unfold aFacetctl; omega)
    exact .ite (h _ _ _) (State.eventAny_spares hp (by unfold aNet; omega) (h _ _ _) _ _)

/-- What follows the record of a stop leaves the registers of integrity alone. -/
theorem State.facetFault_spares {a : Nat} (ha : a % 64 ≠ 0) (hp : a < aPcie) :
    Spares a 0 ((s.faultNoted k cause).report (s.faultDet k cause flags addr)) (s.facetFault k cause flags addr) := by
  have h := fun t => State.suspendKernel_spares ha hp t k cause
  have hq := fun {t u : State} (e : Spares a 0 t u) => Spares.ite (c := cause ≤ 3 ∧ (s.fst k = 1 ∨ s.fst k = 3 ∨ s.fst k = 4))
    (s := u.quarantine k) e.upd e
  exact .ite (.ite (.refl _) (.upd (.refl _))) (hq (.ite (h _) (.refl _)))

theorem State.suspendKernel_mem (s : State) (k cause : Nat) : (s.suspendKernel k cause).mem = s.mem := by
  unfold State.suspendKernel
  split
  · rfl
  · rw [State.event_mem]
    rfl

theorem State.facetFault_mem : (s.facetFault k cause flags addr).mem = s.mem := by
  have hr : ((s.faultNoted k cause).report (s.faultDet k cause flags addr)).mem = s.mem := State.report_mem ..
  have hk := (State.suspendKernel_mem _ k cause).trans hr
  have hq := fun (t : State) (e : t.mem = s.mem) => show (t.quarantine k).mem = s.mem from e
  show State.mem (ite _ _ _) = s.mem
  split
  · split <;> exact hr
  · dsimp only
    split <;> split
    · exact hq _ hk
    · exact hq _ hr
    · exact hk
    · exact hr

/-- The stop of a Facet for a memory's error is a device record: FAULT is asserted, and no mark is cleared. -/
theorem State.facetFault_records (hc : cause ≤ 3) :
    ((s.facetFault k cause flags addr).reg (aInteg + 0xC)).getLsbD 0 = true ∧
      Rises (aInteg + 4) s (s.facetFault k cause flags addr) := by
  have hn : Rises (aInteg + 4) s (s.faultNoted k cause) := .upd (.raise (.upd (.refl s)) _ _)
  refine ⟨?_, fun i hi => ?_⟩
  · rw [(State.facetFault_spares (by decide) (by decide)).reg]
    exact State.report_fault _ (by simp [State.faultDet, stopDev, hc])
  · rw [(State.facetFault_spares (by decide) (by decide)).reg]
    exact State.report_rises _ _ i (hn i hi)

end FacetFault

/-- The record of a word of Table or Crown asserts FAULT and clears no mark. -/
theorem State.eccReport_sram {s : State} {r : Region} (hr : r = .table ∨ r = .crown) (inst addr synd : Nat) (dev scrub : Bool) :
    ((s.eccReport r inst addr synd dev scrub).reg (aInteg + 0xC)).getLsbD 0 = true ∧
      Rises (aInteg + 4) s (s.eccReport r inst addr synd dev scrub) ∧ (s.eccReport r inst addr synd dev scrub).mem = s.mem := by
  obtain rfl | rfl := hr <;> exact ⟨State.report_fault s rfl, State.report_rises s _, State.report_mem s _⟩

/-- The record of a word of the DRAM clears no mark and leaves the bytes. -/
theorem State.eccReport_dram (s : State) (inst addr synd : Nat) (dev scrub : Bool) :
    Rises (aInteg + 4) s (s.eccReport .dram inst addr synd dev scrub) ∧
      (s.eccReport .dram inst addr synd dev scrub).mem.bytes = s.mem.bytes := by
  have h : ∀ m, Rises (aInteg + 4) s ((({ s with mem := m } : State).raise (aDramc + 4) 2).count (aDramc + 0x98)) :=
    fun _ => .count (.raise (.upd (.refl s)) _ _) _ _
  refine ⟨fun i hi => State.report_rises _ _ i (h _ i hi), ?_⟩
  show (State.report _ _).mem.bytes = _
  rw [State.report_mem, State.count_mem]
  rfl

/-- A word that a scrubber cannot correct is marked and recorded, as a device's own but in the DRAM, and the bytes stay. -/
theorem State.scrubRecords_records (s : State) (m : Fin 4) (inst addr synd : Nat) :
    ((s.scrubRecords m inst addr synd).reg (aInteg + 4)).getLsbD 2 = true ∧
      (m ≠ 3 → ((s.scrubRecords m inst addr synd).reg (aInteg + 0xC)).getLsbD 0 = true) ∧
      (s.scrubRecords m inst addr synd).mem.bytes = s.mem.bytes := by
  have hm : ((((s.count (aInteg + 0xB0)).raise (aInteg + 4) 4)).reg (aInteg + 4)).getLsbD 2 = true := by
    rw [State.reg_raise_self]
    simp
  have hb : ((s.count (aInteg + 0xB0)).raise (aInteg + 4) 4).mem = s.mem := State.count_mem ..
  have hs := fun {r : Region} (hr : r = .table ∨ r = .crown) =>
    State.eccReport_sram (s := (s.count (aInteg + 0xB0)).raise (aInteg + 4) 4) hr inst addr synd false true
  match m with
  | 0 =>
    obtain ⟨hf, hr, he⟩ := hs (.inl rfl)
    exact ⟨hr 2 hm, fun _ => hf, congrArg Mem.bytes (he.trans hb)⟩
  | 1 =>
    obtain ⟨hf, hr, he⟩ := hs (.inr rfl)
    exact ⟨hr 2 hm, fun _ => hf, congrArg Mem.bytes (he.trans hb)⟩
  | 2 =>
    obtain ⟨hf, hr⟩ := State.facetFault_records (s := (s.count (aInteg + 0xB0)).raise (aInteg + 4) 4) (k := inst) (flags := 4)
      (addr := addr) (cause := if addr % 0x100000 < 0x80000 then 2 else 3) (by split <;> decide)
    exact ⟨hr 2 hm, fun _ => hf, congrArg Mem.bytes (State.facetFault_mem.trans hb)⟩
  | 3 =>
    obtain ⟨hr, he⟩ := State.eccReport_dram ((s.count (aInteg + 0xB0)).raise (aInteg + 4) 4) inst addr synd false true
    exact ⟨hr 2 hm, fun h => absurd rfl h, he.trans (congrArg Mem.bytes hb)⟩

/-! ### Hangs are contained and memories kept -/

/-- The watchdog ends a transaction with a bus error: it is gone, marked and counted, and a target that has it still owes an answer. -/
theorem hang_ends {s : State} {m : Fin 8} {id : Fin 16} {x : BusTx}
    (hx : s.mem.outs.find? (fun t => t.req.master == m && t.req.id == id && t.wait.isNone) = some x) (hh : s.mem.held = [])
    (h6 : m ≠ 6) (h7 : m ≠ 7) :
    ∃ t, exec (.busHang m id) s = .next t ∧ t.mem.outs = s.mem.outs.erase x ∧ (t.reg (aBusmx + 4)).getLsbD 0 = true ∧
      mget {} t.cnts (aBusmx + 0x90) = (mget {} s.cnts (aBusmx + 0x90)).add 1 ∧
      (x.req.user = false → t.out.head? = some (.bus m.val id.val true [])) ∧ (x.target ≠ 15 → (m.val, id.val) ∈ t.mem.ended) := by
  obtain ⟨⟨hm, hid⟩, -⟩ : (x.req.master = m ∧ x.req.id = id) ∧ x.wait = none := by simpa using List.find?_some hx
  have hmem := State.hangRecord_mem (s.hung m.val id.val x) x.req x.target
  refine ⟨_, exec_busHang hx hh (by omega), ?_⟩
  rw [State.respond_eq]
  refine ⟨congrArg Mem.outs hmem, State.hangRecord_marked .., State.hangRecord_count .., fun hu => ?_, fun ht => ?_⟩
  · dsimp only
    rw [State.respond_user hu, hm, hid]
    rfl
  · show _ ∈ (State.hangRecord _ _ _).mem.ended
    rw [hmem]
    simp [State.hung, ht]

/-- A late response of a transaction that the watchdog ended is discarded, marked and counted. -/
theorem late_response_discarded {s : State} {m : Fin 8} {id : Fin 16} (h : s.mem.ended.contains (m.val, id.val) = true) :
    ∃ t, exec (.lateResponse m id) s = .next t ∧ t.mem.ended = s.mem.ended.erase (m.val, id.val) ∧
      (t.reg (aBusmx + 4)).getLsbD 1 = true ∧ t.out = s.out ∧ t.cnts = (s.count (aBusmx + 0x98)).cnts := by
  refine ⟨_, if_pos h, by rw [State.count_mem]; rfl, ?_, by rw [State.count_out]; rfl, rfl⟩
  rw [reg_congr (State.count_regs ..), State.reg_raise_self]
  simp

/-- A queue's failure is recorded, and the blocks that it carries are poisoned. -/
theorem queue_poisons (s : State) (q : Crossing) (inst : Nat) (dir : Bool) (chans : List Nat) :
    ∃ t, exec (.cdcQueue q inst dir chans) s = .next t ∧
      t.render.blocks = s.render.blocks.map (fun e =>
        if chans.contains e.1 && !(inward q && e.1 < 2 ^ 28) then (e.1, poison e.2) else e) ∧
      (∀ c ∈ chans, inward q = true → c < 2 ^ 28 → c ∈ t.render.cdcBad) ∧
      (q ≠ .tdmPort → (t.reg (aInteg + 0xC)).getLsbD 0 = true) ∧ (q = .tdmPort → t.reg (aInteg + 0xC) = s.reg (aInteg + 0xC)) := by
  refine ⟨_, rfl, ?_, fun c hc hq hi => State.mem_queueLost_cdcBad _ hc hq hi, fun hq => ?_, fun hq => ?_⟩
  · rw [State.queueLost_blocks, State.report_render]
  · exact State.report_fault s (d := { cls := _, dev := q != .tdmPort, inst := _, unit := _, detail := _ }) (by simpa using hq)
  · exact State.report_keeps_fault s (by simp [hq])

/-- Read delays set anew change the low byte of each lane and one free value. -/
theorem retrain_sets_delays {s : State} (h : s.mem.st = 3) :
    ∃ t, exec .dramReadRetrain s = .next t ∧ t.mem.train.length = s.mem.train.length ∧
      (∀ i, (nth 0 t.mem.train i).toNat / 256 = (nth 0 s.mem.train i).toNat / 256) ∧
      t = { s with mem := t.mem, freeCtr := s.freeCtr + 1 } ∧ t.mem = { s.mem with train := t.mem.train } :=
  ⟨_, if_pos h, by simp, fun i => nth_zipIdx_wput s.mem.train (fun j => (Config.freeWord s.freeCtr j).toNat) i, rfl, rfl⟩

/-- Settles O39: by what each of these events does, by its own lemma. -/
theorem hangsAreContainedAndMemoriesKept : Obligations.HangsAreContainedAndMemoriesKept :=
  ⟨⟨fun _ _ _ _ => hang_ends, fun _ _ _ => late_response_discarded, queue_poisons⟩, fun s =>
    ⟨rfl, fun h => if_pos h, retrain_sets_delays, fun _ _ => exec_dramPowerDown, fun m inst addr synd h =>
      ⟨exec_scrubWord_clean .., ⟨_, exec_scrubWord_corrected m inst addr synd h, s.scrubCorrects_count m, s.scrubCorrects_keeps m⟩,
        ⟨_, exec_scrubWord_uncorrectable m inst addr synd h, s.scrubRecords_records m inst addr synd⟩⟩⟩⟩

end Sys2Proof.Machine

namespace Sys2Proof.Machine

/-! ### Held blocks (R369, R373) -/

/-- A ramp ends on its target. -/
theorem rampN_last (n : Nat) (p t : Int) (h : 0 < n) : rampN n p t (n - 1) = t := by
  have e : p + (t - p) = t := by omega
  rw [rampN, divEven, show ((n - 1 : Nat) : Int) + 1 = n by omega, Int.mul_ediv_cancel _ (by omega), Int.mul_emod_left]
  simp [h, e]

/-! ### Runs of a render Facet write their blocks (R365 to R368) -/

/-- Between two states of a cycle channel `c` stands written with its block of the cycle in hand: as it was, or anew with its Carat. -/
structure Renders (c : Nat) (s t : State) : Prop where
  number : t.render.n = s.render.n
  block : ∃ b, t.blk c = some b ∧ b.num = s.render.n + 2 ∧ (written s c = true → s.blk c = some b) ∧
    (written s c = false → b.carat = carat c b.num (b.smp.map (BitVec.ofInt 32)))

/-- A block that stands written stays. -/
theorem Renders.of_written {c : Nat} {s : State} (h : written s c = true) : Renders c s s := by
  cases hb : s.blk c with
  | none => simp [written, hb] at h
  | some b => exact ⟨rfl, b, hb, by simpa [written, hb] using h, fun _ => hb, fun hw => by simp [h] at hw⟩

/-- A block that is put has its number and its Carat. -/
theorem Renders.of_put {c : Nat} {s t : State} {smp : List Int} (h : written s c = false) (hn : t.render.n = s.render.n)
    (hb : t.blk c = some (mkBlk c (s.render.n + 2) smp)) : Renders c s t :=
  ⟨hn, _, hb, rfl, fun hw => by simp [h] at hw, fun _ => rfl⟩

/-- It depends on the state before by its render alone. -/
theorem Renders.of_render {c : Nat} {s s' t : State} (h : Renders c s' t) (e : s'.render = s.render) : Renders c s t := by
  obtain ⟨hn, b, hb, hnum, hold, hnew⟩ := h
  have hblk : s'.blk c = s.blk c := congrArg (fun r : Render => mfind r.blocks c) e
  have hw : written s' c = written s c := by unfold written; rw [hblk, e]
  rw [e] at hn hnum
  rw [hw, hblk] at hold
  rw [hw] at hnew
  exact ⟨hn, b, hb, hnum, hold, hnew⟩

theorem State.blk_putBlk_self (s : State) (c : Nat) (smp : List Int) :
    (s.putBlk c smp).blk c = some (mkBlk c (s.render.n + 2) smp) := mfind_mset_self ..
theorem State.blk_putBlk_ne (s : State) {c d : Nat} (smp : List Int) (h : d ≠ c) : (s.putBlk c smp).blk d = s.blk d :=
  mfind_mset_ne _ _ h

/-- What a run leaves of channel `c`. -/
theorem Renders.spec {c : Nat} {s t : State} (h : Renders c s t) : ∃ b, t.blk c = some b ∧ b.num = s.render.n + 2 ∧
    t.render.n = s.render.n ∧ (written s c = true → s.blk c = some b) ∧
    (written s c = false → b.carat = carat c b.num (b.smp.map (BitVec.ofInt 32))) := by
  obtain ⟨hn, b, hb, hnum, hold, hnew⟩ := h
  exact ⟨b, hb, hnum, hn, hold, hnew⟩

/-! #### What a run's checks and notes leave of the render -/

theorem Tells.caratWords (s : State) (c num : Nat) (corrupt : Bool) : Tells s (s.caratWords c num corrupt).1 := by
  unfold State.caratWords
  split
  · exact .fresh s
  · split <;> exact .refl s

theorem Tells.noteCheck (s : State) (v : Check) (cls inst : Nat) (unit : Option Nat) (c num cyc : Nat) (corrupt : Bool) :
    Tells s (s.noteCheck v cls inst unit c num cyc corrupt) :=
  .ite (.refl s) ((Tells.caratWords ..).trans (.report ..))

@[simp] theorem State.noteCheck_render (s : State) (v : Check) (cls inst : Nat) (unit : Option Nat) (c num cyc : Nat) (corrupt : Bool) :
    (s.noteCheck v cls inst unit c num cyc corrupt).render = s.render := (Tells.noteCheck ..).render

@[simp] theorem State.inputSig_n (s : State) (x : RunFacts) (code : Nat) : (s.inputSig x code).1.render.n = s.render.n := by
  by_cases hc : code = 0
  · simp [State.inputSig, hc]
  · simp only [State.inputSig, hc, if_false]
    split
    · rfl
    · split
      · rfl
      · show (State.noteCheck _ _ _ _ _ _ _ _ _).render.n = _
        rw [State.noteCheck_render]

@[simp] theorem State.pavHold_n (s : State) (o : Nat) : (s.pavHold o).render.n = s.render.n := by
  unfold State.pavHold
  split
  · rfl
  · rw [State.report_render, State.count_render]
    rfl

theorem Tells.extLate (s : State) (o : Nat) : Tells s (s.extLate o) := ((Tells.raise ..).trans (.count ..)).trans (.report ..)

@[simp] theorem State.injectDone_render (s : State) (f b : Nat) (x : List Int) (p t : Int) : (s.injectDone f b x p t).render = s.render := by
  unfold State.injectDone
  cases slotOf s f <;> rfl

@[simp] theorem State.rowSig_render (x : RunFacts) (a : State × SMap RowSig) (o : Nat) : (State.rowSig x a o).1.render = a.1.render := by
  unfold State.rowSig
  dsimp only
  split <;> simp

theorem State.foldl_rowSig_render (x : RunFacts) (l : List Nat) : ∀ a : State × SMap RowSig,
    (l.foldl (State.rowSig x) a).1.render = a.1.render := by
  induction l with
  | nil => exact fun _ => rfl
  | cons o l ih => exact fun a => (ih _).trans (State.rowSig_render ..)

@[simp] theorem State.holdList_n (fs : List Nat) (s : State) (o : Nat) : (State.holdList fs s o).render.n = s.render.n := by
  unfold State.holdList
  split
  · rfl
  · exact State.pavHold_n ..

theorem State.foldl_holdList_n (fs l : List Nat) : ∀ s : State, (l.foldl (State.holdList fs) s).render.n = s.render.n := by
  induction l with
  | nil => exact fun _ => rfl
  | cons o l ih => exact fun s => (ih _).trans (State.holdList_n ..)

/-! #### Chains, matrix and objects -/

theorem Renders.of_putBlk {c : Nat} {s t : State} {smp : List Int} (h : written s c = false) (hn : t.render.n = s.render.n) :
    Renders c s (t.putBlk c smp) := .of_put h hn (by rw [State.blk_putBlk_self, hn])

/-- A block put into another channel changes nothing of it. -/
theorem Renders.putBlk_ne {c d : Nat} {s t : State} (h : Renders c s t) (hd : c ≠ d) (smp : List Int) : Renders c s (t.putBlk d smp) := by
  obtain ⟨hn, b, hb, hr⟩ := h
  exact ⟨hn, b, (State.blk_putBlk_ne t smp hd).trans hb, hr⟩

/-- A feed's chain puts the feed's output. -/
theorem State.chainRun_renders (x : RunFacts) {s : State} {f : Nat} (h : (s.feedRt f).on = true) :
    Renders (chId 4 f) s (State.chainRun x s f) := by
  cases hw : written s (chId 4 f)
  · unfold State.chainRun
    extract_lets n rt c v s1 col r g _ s2 s3 trim
    have hn : s1.render.n = s.render.n := congrArg Render.n (Tells.ite (.refl s) (.noteCheck ..)).render
    have hn3 : s3.render.n = s.render.n := by
      simp only [s3, State.count_render]
      exact hn
    rw [if_neg (by simp [rt, h, hw])]
    exact .of_putBlk hw (by rw [State.injectDone_render, hn3])
  · have e : State.chainRun x s f = s := if_pos (by simp [hw])
    rw [e]
    exact .of_written hw

theorem objReaches_none (s : State) (o : Nat) : objReaches s [] o = false := by
  have h : ∀ q, routeHits [] o q = false := by
    intro q
    cases q <;> simp [routeHits]
  simp [objReaches, h]

/-- A run of the matrix that has no column due changes nothing. -/
theorem State.matrixRun_none (x : RunFacts) {s : State} {f : Nat} (h : written s (chId 3 f) = true) : s.matrixRun x [f] = s := by
  have hh : ∀ l : List Nat, l.foldl (State.holdList []) s = s := by
    intro l
    induction l with
    | nil => rfl
    | cons o l ih => rwa [List.foldl_cons, State.holdList, objReaches_none]
  simp [State.matrixRun, h, hh, objReaches_none]

/-- The matrix puts the column of a feed. -/
theorem State.matrixRun_renders (x : RunFacts) {s : State} {f : Nat} (h : (s.feedRt f).on = true) :
    Renders (chId 3 f) s (s.matrixRun x [f]) := by
  cases hw : written s (chId 3 f)
  · have hd : [f].filter (fun f => (s.feedRt f).on && !written s (chId 3 f)) = [f] := by simp [h, hw]
    unfold State.matrixRun
    rw [hd]
    extract_lets b due broken s1 os r one
    have hn : r.1.render.n = s.render.n :=
      (congrArg Render.n (State.foldl_rowSig_render ..)).trans (State.foldl_holdList_n ..)
    refine .of_putBlk hw ?_
    exact (congrArg Render.n (Tells.ite (.count ..) (.refl r.1)).render).trans hn
  · rw [State.matrixRun_none x hw]
    exact .of_written hw

/-- An object's chain puts the object's source signal; a diffuse signal is another channel. -/
theorem State.objRun_renders (x : RunFacts) {s : State} {o : Fin 1024} (h : objRuns s o.val = true) :
    Renders (chId 1 o.val) s (State.objRun x s o) := by
  cases hw : written s (chId 1 o.val)
  · unfold State.objRun
    extract_lets i b s1 new both r late s2 out s3
    rw [if_neg (by simp [i, hw]), if_neg (by simp [i, h])]
    have h1 : s1.render.n = s.render.n := by
      unfold s1
      split
      · exact State.pavHold_n ..
      · rfl
    have hnew : new.1.render.n = s.render.n := (State.inputSig_n ..).trans h1
    have hboth : both.1.render.n = s.render.n := by
      unfold both
      split
      · exact (State.inputSig_n ..).trans hnew
      · exact hnew
    have h2 : s2.render.n = s.render.n := (congrArg Render.n (Tells.ite (.extLate ..) (.refl both.1)).render).trans hboth
    have h3 : Renders (chId 1 i) s s3 := .of_putBlk hw h2
    split
    · exact h3.putBlk_ne (by unfold chId; omega) _
    · exact h3
  · have e : State.objRun x s o = s := if_pos (by simp [hw])
    rw [e]
    exact .of_written hw

section Run
variable {s : State} {k : Fin 64} (hr : s.render.run = true) (hk : s.fst k.val = 2) (hs : mhas s.facets.stopped k.val = false)
  (hi : s.integ.stopped = false) (ho : runsOn s k.val = true) (facts : RunFacts)
include hr hk hs hi ho

theorem exec_facetRunStart_chains (f : Fin 1024) : exec (.facetRunStart k (.chains [f]) facts) s =
    .next (State.chainRun facts (s.renderStart k.val (.chains [f])) f.val) := by
  show execFacetRunStart k (.chains [f]) facts s = _
  simp [execFacetRunStart, hr, hk, hs, hi, ho]

theorem exec_facetRunStart_matrix (f : Fin 1024) : exec (.facetRunStart k (.matrix [f]) facts) s =
    .next ((s.renderStart k.val (.matrix [f])).matrixRun facts [f.val]) := by
  show execFacetRunStart k (.matrix [f]) facts s = _
  simp [execFacetRunStart, hr, hk, hs, hi, ho]

theorem exec_facetRunStart_objects (o : Fin 1024) : exec (.facetRunStart k (.objects [o]) facts) s =
    .next (State.objRun facts (s.renderStart k.val (.objects [o])) o) := by
  show execFacetRunStart k (.objects [o]) facts s = _
  simp [execFacetRunStart, hr, hk, hs, hi, ho]

/-- The run of a render Facet puts what its work names. -/
theorem facetRunStart_renders_chains {f : Fin 1024} (h : (s.feedRt f.val).on = true) :
    ∃ t, exec (.facetRunStart k (.chains [f]) facts) s = .next t ∧ Renders (chId 4 f.val) s t :=
  ⟨_, exec_facetRunStart_chains hr hk hs hi ho facts f, (State.chainRun_renders facts (s := s.renderStart k.val _) h).of_render rfl⟩

theorem facetRunStart_renders_matrix {f : Fin 1024} (h : (s.feedRt f.val).on = true) :
    ∃ t, exec (.facetRunStart k (.matrix [f]) facts) s = .next t ∧ Renders (chId 3 f.val) s t :=
  ⟨_, exec_facetRunStart_matrix hr hk hs hi ho facts f, (State.matrixRun_renders facts (s := s.renderStart k.val _) h).of_render rfl⟩

theorem facetRunStart_renders_objects {o : Fin 1024} (h : objRuns s o.val = true) :
    ∃ t, exec (.facetRunStart k (.objects [o]) facts) s = .next t ∧ Renders (chId 1 o.val) s t :=
  ⟨_, exec_facetRunStart_objects hr hk hs hi ho facts o, (State.objRun_renders facts (s := s.renderStart k.val _) h).of_render rfl⟩

end Run

/-- A held block: the last good sample for 16 blocks, a ramp that ends at 0, then zeros. -/
theorem FeedRt.hold_spec (r : FeedRt) :
    (r.heldBlocks < 16 → r.hold.leaving = List.replicate 16 r.last ∧ r.hold.heldBlocks = r.heldBlocks + 1 ∧ r.hold.last = r.last) ∧
    (r.heldBlocks = 16 → nth 0 r.hold.leaving 15 = 0 ∧ r.hold.leaving.length = 16 ∧ r.hold.heldBlocks = 17) ∧
    (17 ≤ r.heldBlocks → r.hold.leaving = List.replicate 16 0 ∧ r.hold.heldBlocks = 18) ∧
    (r.heldBlocks = 0 → r.holdStopped.leaving = List.replicate 16 r.last ∧ r.holdStopped.hold.heldBlocks = 17) := by
  refine ⟨fun h => ?_, fun h => ?_, fun h => ?_, fun h => ?_⟩
  · have hn : min (r.heldBlocks + 1) 18 = r.heldBlocks + 1 := by omega
    rw [FeedRt.hold, hn]
    exact ⟨if_pos (by omega), rfl, rfl⟩
  · rw [FeedRt.hold, h]
    exact ⟨rampN_last 16 r.last 0 (by decide), rfl, rfl⟩
  · have hn : min (r.heldBlocks + 1) 18 = 18 := by omega
    rw [FeedRt.hold, hn]
    exact ⟨rfl, rfl⟩
  · rw [FeedRt.holdStopped, h]
    exact ⟨rfl, rfl⟩

end Sys2Proof.Machine

namespace Sys2Proof.Machine

/-! ### What the parts of a boundary leave alone (R15 to R17) -/

/-- What decides a boundary's course and what it shows at its end: the block number, the recorded inputs, the zones, the deltas in
hand, a step of L, and whether the unit has stopped or restarts. -/
structure Spine where
  n : Nat
  inBad : List Nat
  zones : SMap Zone
  closed : Option Closed
  held : Option Closed
  cutoff : Bool
  committed : Bool
  stepTo : Option Nat
  stopped : Bool
  restarting : Bool

def State.spine (s : State) : Spine :=
  { n := s.render.n, inBad := s.render.inBad, zones := s.render.zones, closed := s.delta.closed, held := s.delta.held
    cutoff := s.delta.cutoff, committed := s.delta.committed, stepTo := s.time.sel.stepTo, stopped := s.integ.stopped
    restarting := s.integ.restarting }

/-- No input has failed yet. -/
def Spine.cleared (p : Spine) : Spine := { p with inBad := [] }

/-- The spine is as it was. -/
def Steady (s t : State) : Prop := t.spine = s.spine

theorem Tells.steady {s t : State} (h : Tells s t) : Steady s t := by
  unfold Steady
  rw [h]
  rfl

namespace Steady
variable {s0 s t : State}

theorem of_eq (h : t.spine = s.spine) : Steady s t := h
theorem refl (s : State) : Steady s s := rfl
theorem trans (h : Steady s0 s) (k : Steady s t) : Steady s0 t := Eq.trans k h

theorem ite {c : Prop} [Decidable c] (hs : Steady s0 s) (ht : Steady s0 t) : Steady s0 (if c then s else t) := by
  split <;> assumption

theorem foldl {β : Type} {f : State → β → State} (hf : ∀ t b, Steady t (f t b)) (l : List β) (s : State) : Steady s (l.foldl f s) := by
  induction l generalizing s with
  | nil => exact .refl s
  | cons b l ih => exact (hf s b).trans (ih _)

/-- An update of none of the parts that the spine is of. -/
theorem upd {pending freeCtr out pins regs cnts power sec boot kcp pair loupe facets mem dma net ports} (h : Steady s0 s) :
    Steady s0 (State.mk pending freeCtr out pins regs cnts power sec boot kcp s.delta s.render s.integ pair s.time loupe facets mem dma
      net ports) := h

/-- An update of the render's other tables and of whether it runs. -/
theorem updRender {run zoneRt objs objRt routes feeds chains feedRt lib shadow direct blocks playout cdcBad pavHeld} (h : Steady s0 s) :
    Steady s0 { s with render := { s.render with
      run := run, zoneRt := zoneRt, objs := objs, objRt := objRt, routes := routes, feeds := feeds, chains := chains, feedRt := feedRt
      lib := lib, shadow := shadow, direct := direct, blocks := blocks, playout := playout, cdcBad := cdcBad, pavHeld := pavHeld } } := h

theorem setReg (s : State) (a : Nat) (w : Word) : Steady s (s.setReg a w) := rfl
theorem count (s : State) (k n : Nat) : Steady s (s.count k n) := (Tells.count ..).steady
theorem event (s : State) (code : Nat) (payload : List Byte) : Steady s (s.event code payload) := (Tells.event ..).steady
theorem report (s : State) (d : Det) : Steady s (s.report d) := (Tells.report ..).steady
theorem bezel (s : State) (b : Bezel) : Steady s (s.bezel b) := rfl
theorem enter (s : State) (e : Entry) : Steady s (s.enter e) := rfl
theorem modObjRt (s : State) (o : Nat) (f : ObjRt → ObjRt) : Steady s (s.modObjRt o f) := rfl
theorem modFeedRt (s : State) (f : Nat) (g : FeedRt → FeedRt) : Steady s (s.modFeedRt f g) := rfl
theorem modPort (s : State) (p : Nat) (f : Port → Port) : Steady s (s.modPort p f) := rfl
theorem modLin (s : State) (n : Nat) (f : LIn → LIn) : Steady s (s.modLin n f) := rfl

/-! #### Blocks leave -/

theorem exitFeed (bad : List (Fin 1024)) (s : State) (f : Nat) : Steady s (State.exitFeed bad s f) := by
  refine .ite (.modFeedRt ..) (.ite (.modFeedRt ..) ?_)
  split
  · exact .modFeedRt ..
  · exact .trans (.foldl (fun _ _ => (Tells.noteCheck ..).steady) _ s) (.modFeedRt ..)

theorem unmuted (s : State) : Steady s s.unmuted := by
  unfold State.unmuted
  split
  · exact .ite (.of_eq rfl) (.refl s)
  · exact .refl s

theorem netHand (s : State) : Steady s s.netHand := rfl

theorem exits (s : State) (bad : List (Fin 1024)) : Steady s (s.exits bad) := by
  unfold State.exits
  extract_lets fs s1 s2
  have h1 : Steady s s1 := .foldl (fun _ _ => .exitFeed ..) _ s
  have h2 : Steady s s2 := .ite (h1.trans (.foldl (fun _ _ => .modFeedRt ..) _ _)) h1
  exact ((h2.trans (.foldl (fun _ _ => .modPort ..) _ _)).trans (.netHand _)).trans (.unmuted _)

/-! #### Windows close -/

theorem measClose (s : State) (n : Nat) (raw : List Int) : Steady s (s.measClose n raw) := by
  refine .ite (.modLin ..) ?_
  extract_lets
  exact .ite (.modLin ..) ((Steady.modLin s n _).trans (.trans (.setReg ..) (.count ..)))

theorem captureStep (s : State) : Steady s s.captureStep := rfl

theorem measAll (s : State) (lines : List MeasLine) : Steady s (s.measAll lines) := by
  unfold State.measAll
  extract_lets s1 b l _ s2
  have h1 : Steady s s1 := .trans (.foldl (fun _ _ => .measClose ..) _ s) (.captureStep _)
  have h2 : Steady s s2 := h1.upd
  exact .ite (h2.trans (.enter ..)) h2

theorem portTo (s : State) (p st : Nat) : Steady s (s.portTo p st) := .ite (.refl s) ((Steady.modPort ..).trans (.event ..))

theorem portSwitched (s : State) (p : Nat) : Steady s (s.portSwitched p) :=
  .ite (.portTo ..) (.ite ((Steady.modPort ..).trans (.event ..)) (.refl s))

theorem portClose (s : State) (p : Nat) : Steady s (s.portClose p) := by
  refine .ite (.trans (.ite (.refl s) (.modPort ..)) (.modPort ..)) ?_
  extract_lets
  exact (Steady.modPort ..).trans (.portSwitched ..)

theorem addInputs (s : State) : Steady s s.addInputs := rfl

end Steady

theorem State.spine_windows (s : State) (blocks : SMap Blk) :
    ({ s with render := { s.render with blocks := blocks, inBad := [], pavHeld := [] } } : State).spine = s.spine.cleared := rfl

/-- As the windows close, the record of inputs that failed begins anew. -/
theorem State.closeWindows_spine (s : State) (meas : List MeasLine) : (s.closeWindows meas).spine = s.spine.cleared := by
  unfold State.closeWindows
  extract_lets s1 _ _
  have h : Steady s s1 := (Steady.measAll s meas).trans (.foldl (fun _ _ => .portClose ..) _ _)
  rw [← h, Steady.addInputs _]
  exact s1.spine_windows _

namespace Steady

/-! #### What waited takes effect -/

theorem setDoppler (s : State) (o : Nat) (d : Bool) : Steady s (s.setDoppler o d) :=
  have h : Steady s (s.modObj o fun q => { q with doppler := d }) := .of_eq rfl
  .ite h (h.trans (.modObjRt ..))

theorem dopplerDue (s : State) (o : Nat) : Steady s (s.dopplerDue o) := by
  unfold State.dopplerDue
  dsimp only
  split
  · exact (Steady.modObjRt ..).trans (.setDoppler ..)
  · exact .refl s

theorem beginXf (s : State) (o n : Nat) (eg own pan : Bool) : Steady s (s.beginXf o n eg own pan) := .modObjRt ..
theorem modObj (s : State) (o : Nat) (f : Obj → Obj) : Steady s (s.modObj o f) := rfl
theorem modRoute (s : State) (r : Nat) (f : RouteRt → RouteRt) : Steady s (s.modRoute r f) := rfl

theorem doRouteCh (s : State) (o : Nat) (ch : RouteCh) (n : Nat) (eg : Bool) : Steady s (s.doRouteCh o ch n eg) := by
  have h := fun o own pan f => (Steady.beginXf s o n eg own pan).trans (.modObj _ o f)
  cases ch with
  | zone z =>
    exact .ite (.refl s) (.ite ((h _ _ _ _).trans (.modObjRt ..)) (.ite ((h _ _ _ _).trans (.modObjRt ..)) ((h _ _ _ _).trans (.modObjRt ..))))
  | dense d => exact .ite (.refl s) ((h _ _ _ _).trans (.modObjRt ..))
  | source c => exact .ite (.refl s) ((h _ _ _ _).trans (.modObjRt ..))
  | create r o' f tap gain follow => exact (Steady.beginXf ..).trans (.modRoute ..)
  | change r o' f tap gain follow =>
    unfold State.doRouteCh
    dsimp only
    split
    · exact .refl s
    · exact .trans (.ite (.beginXf ..) ((Steady.beginXf ..).trans (.beginXf ..))) (.modRoute ..)
  | delete r =>
    unfold State.doRouteCh
    dsimp only
    split
    · exact .refl s
    · exact (Steady.beginXf ..).trans (.modRoute ..)

theorem routeCh (s : State) (o : Nat) (w : Waiting) : Steady s (s.routeCh o w) := by
  unfold State.routeCh
  dsimp only
  split
  · exact .doRouteCh ..
  · exact (Steady.modObjRt ..).trans (.foldl (fun _ _ => .count ..) _ _)

theorem releaseWaiting (s : State) (o : Nat) : Steady s (s.releaseWaiting o) :=
  .ite (.refl s) ((Steady.modObjRt ..).trans (.foldl (fun _ _ => .routeCh ..) _ _))

theorem align (s : State) (f : Nat) : Steady s (s.align f) := .modFeedRt ..

theorem modZoneRt (s : State) (z : Nat) (f : ZoneRt → ZoneRt) : Steady s (s.modZoneRt z f) := rfl

theorem copySnaps (s : State) (z : Nat) : Steady s (s.copySnaps z) := .updRender (.refl s)

theorem switchLayout (s : State) (z : Nat) (l : Layout) : Steady s (s.switchLayout z l) :=
  ((Steady.modZoneRt s z _).trans (.copySnaps ..)).trans (.event ..)

theorem switchDue (s : State) (z : Nat) : Steady s (s.switchDue z) := by
  unfold State.switchDue
  split
  · exact (Steady.modZoneRt ..).trans (.switchLayout ..)
  · exact .refl s

theorem waiters (s : State) : Steady s s.waiters := by
  unfold State.waiters
  extract_lets os s1 s2
  have h1 : Steady s s1 := .foldl (fun _ _ => (Steady.dopplerDue ..).trans (.releaseWaiting ..)) _ s
  have h2 : Steady s s2 := h1.trans (.foldl (fun _ _ => .align ..) _ _)
  exact h2.trans (.foldl (fun _ _ => .switchDue ..) _ _)

/-! #### Loupe, the handover and the Facets -/

theorem modJob (s : State) (j : Nat) (f : LJob → LJob) : Steady s (s.modJob j f) := rfl

theorem spoilStep (s : State) (j : Nat) (q : LJob) : Steady s (s.spoilStep j q) :=
  have h : Steady s (s.modJob j fun q => { q with going := false, invalid := q.again }) := .modJob ..
  .ite h (.ite (h.trans (.enter ..)) (h.trans (.enter ..)))

theorem syncReset (s : State) (clear : Bool) : Steady s (s.syncReset clear) := by
  unfold State.syncReset
  extract_lets one s0 _ s1
  have h0 : Steady s s0 := by
    unfold s0
    split
    · exact .ite (.spoilStep ..) (.refl s)
    · exact .refl s
  exact h0.upd.trans (.setReg ..)

theorem reqBoundary (s : State) : Steady s s.reqBoundary := by
  unfold State.reqBoundary
  extract_lets n _ s1
  have h1 : Steady s s1 := (Steady.refl s).upd
  exact .ite (h1.trans (.syncReset ..)) h1

theorem handoverBoundary (s : State) : Steady s s.handoverBoundary := by
  unfold State.handoverBoundary
  split
  · refine .ite ?_ (.refl s)
    exact (Steady.upd (Tells.releaseIlk ..).steady).trans (Tells.eventAny ..).steady
  · exact .refl s

theorem endJob (s : State) (j result : Nat) : Steady s (s.endJob j result) := by
  unfold State.endJob
  split
  · exact .refl s
  · dsimp only
    exact (Steady.upd (.upd (.modJob ..))).trans (.event ..)

theorem loupeTakenOver (s : State) : Steady s s.loupeTakenOver := by
  refine .ite ?_ (.refl s)
  extract_lets _ s1
  have h1 : Steady s s1 := (Steady.refl s).upd
  split
  · exact h1.trans (.endJob ..)
  · exact h1

theorem setSlot (s : State) (j : Nat) (q : Option Slot) : Steady s (s.setSlot j q) := rfl

theorem confirmSlot (s : State) (f : Nat) : Steady s (s.confirmSlot f) := by
  refine .ite (.refl s) ?_
  split
  · exact .setSlot ..
  · exact .refl s

theorem fillSlots (l : List Nat) : ∀ s : State, Steady s (s.fillSlots l) := by
  induction l with
  | nil => exact .refl
  | cons f l ih =>
    intro s
    unfold State.fillSlots
    split
    · exact .refl s
    · exact .ite ((Steady.upd (.setSlot s _ _)).trans (ih _)) (ih s)

theorem correlate (s : State) : Steady s s.correlate := .ite (.upd (.refl s)) (.refl s)

theorem compBoundary (s : State) : Steady s s.compBoundary :=
  .foldl (fun t _ => .ite (.refl t) ((Steady.upd (.refl t)).trans (.align ..))) _ s

theorem noiseBlock (s : State) : Steady s s.noiseBlock := .ite (.refl s) (.upd (.refl s))

theorem loupeBoundary (s : State) : Steady s s.loupeBoundary := by
  unfold State.loupeBoundary
  extract_lets _ _ s1 _ _ s' s2 s3
  have h1 : Steady s s1 := (Steady.refl s).upd
  have h2 : Steady s s2 := .ite h1 ((h1.trans (.foldl (fun _ _ => .confirmSlot ..) _ _)).trans (.fillSlots _ _))
  have h3 : Steady s s3 := by
    unfold s3
    split
    · exact h2
    · exact h2.trans (.modJob ..)
  exact ((h3.trans (.correlate _)).trans (.compBoundary _)).trans (.noiseBlock _)

theorem setFst (s : State) (k v : Nat) : Steady s (s.setFst k v) := rfl

theorem toRender (s : State) (k : Nat) : Steady s (s.toRender k) := rfl

theorem moveFacets (src dst n : Nat) : ∀ s : State, Steady s (s.moveFacets src dst n) := by
  induction n with
  | zero => exact .refl
  | succ n ih =>
    intro s
    unfold State.moveFacets
    split
    · exact .refl s
    · exact .trans (.ite (.toRender ..) (.setFst ..)) (ih _)

theorem endRole (s : State) (k c : Nat) : Steady s (s.endRole k c) := rfl

theorem quarantine (s : State) (k : Nat) : Steady s (s.quarantine k) := rfl

theorem retire (s : State) (k : Nat) : Steady s (s.retire k) := .upd ((Steady.endRole ..).trans (.quarantine ..))

theorem noSpareFor (s : State) (k : Nat) : Steady s (s.noSpareFor k) :=
  .trans (.trans (.trans (.trans (.upd (.refl s)) (.retire ..)) (.setReg ..)) (.report ..)) (.event ..)

theorem facetBoundary (s : State) : Steady s s.facetBoundary := by
  unfold State.facetBoundary
  extract_lets _ s0 s1 s2 s3 want s4 s5 s6
  have h1 : Steady s s1 := .trans (.upd (.refl s)) (.moveFacets _ _ _ s0)
  have h2 : Steady s s2 := .ite h1 (h1.trans (.foldl (fun _ _ => .retire ..) _ _))
  have h3 : Steady s s3 := .ite (h2.trans (.foldl (fun _ _ => .noSpareFor ..) _ _)) h2
  have h4 : Steady s s4 := h3.trans (.foldl (fun _ _ => .endRole ..) _ _)
  have h6 : Steady s s6 := (h4.trans (.moveFacets ..)).trans (.moveFacets ..)
  exact .ite h6.upd h6

end Steady
end Sys2Proof.Machine

namespace Sys2Proof.Machine
namespace Steady

/-! #### Objects, feeds and flows -/

theorem shedOne (s : State) (o : Nat) : Steady s (s.shedOne o) := ((Steady.modObjRt ..).trans (.report ..)).trans (.event ..)

theorem shedLoad (s : State) (n : Nat) : Steady s (s.shedLoad n) := .ite (.foldl .shedOne _ s) (.refl s)

theorem directBoundary (s : State) : Steady s s.directBoundary := by
  unfold State.directBoundary
  split
  · exact .refl s
  · extract_lets _ _ _ _ s1 _ s2
    have h1 : Steady s s1 := .foldl (fun _ _ => .modFeedRt ..) _ s
    have h2 : Steady s s2 := h1.trans (.foldl (fun _ _ => .modFeedRt ..) _ _)
    exact .ite (h2.updRender.trans (.event ..)) h2.updRender

theorem beginSolve (s : State) (z : Nat) : Steady s (s.beginSolve z) := .modZoneRt ..

theorem solveAsked (s : State) (z : Nat) : Steady s (s.solveAsked z) := .ite (.beginSolve ..) (.refl s)

theorem feedChange (s : State) (f : Nat) : Steady s (s.feedChange f) :=
  .ite (.modFeedRt ..) (.ite (.modFeedRt ..) (.ite (.modFeedRt ..) (.refl s)))

theorem modFlowRt (s : State) (f : Nat) (g : FlowRt → FlowRt) : Steady s (s.modFlowRt f g) := rfl

theorem flowClose (s : State) (f : Nat) : Steady s (s.flowClose f) := by
  unfold State.flowClose
  extract_lets _ _ _ _ _ _ _ s1 s2
  have h2 : Steady s s2 := (Steady.updRender (.refl s)).trans (.modFlowRt ..)
  split
  · exact h2
  · exact ((h2.trans (.count ..)).trans (.count ..)).trans (.modFlowRt ..)

theorem netClose (s : State) : Steady s s.netClose := .foldl (fun _ _ => .flowClose ..) _ s

theorem pavOne (s : State) (o : Nat) : Steady s (s.pavOne o) := by
  unfold State.pavOne
  refine .ite (.ite (.modObjRt ..) (.refl s)) ?_
  extract_lets _ _ _ _ s1 s2
  have h2 : Steady s s2 := (((Steady.modObjRt ..).trans (.count ..)).trans (.count ..)).trans (.count ..)
  exact .ite (h2.trans (.event ..)) h2

theorem fresh (s : State) : Steady s s.fresh.2 := rfl
theorem putReg (s : State) (a lo len v : Nat) : Steady s (s.putReg a lo len v) := rfl

theorem pavilion (s : State) : Steady s s.pavilion :=
  ((Steady.updRender (.foldl .pavOne _ s)).trans (.fresh _)).trans (.putReg ..)

/-! #### Power and the pair -/

theorem pwrResult (s : State) (state result dom reason : Nat) : Steady s (s.pwrResult state result dom reason) := .event ..
theorem setDom (s : State) (d c : Nat) : Steady s (s.setDom d c) := rfl
theorem setJob (s : State) (j : Option PmuJob) : Steady s (s.setJob j) := rfl

theorem wakeDemanded (s : State) : Steady s s.wakeDemanded := .foldl (fun t _ => .ite (.setDom ..) (.refl t)) _ s

theorem readyPin (s : State) (b : Bool) : Steady s (s.readyPin b) := rfl

theorem enterState (s : State) (t : Nat) : Steady s (s.enterState t) := by
  unfold State.enterState
  extract_lets _ s0 s1 s2
  have h1 : Steady s s1 := (Steady.upd (.refl s)).trans (.wakeDemanded s0)
  have h2 : Steady s s2 := .ite h1 (h1.trans (Tells.toCold _).steady)
  exact .ite (h2.updRender.trans (.readyPin ..)) h2

theorem askNext (s : State) (t : Nat) (ask stopped : List Nat) : Steady s (s.askNext t ask stopped) := by
  cases ask with
  | nil => exact .enterState ..
  | cons d _ => exact (Steady.setJob ..).trans (.setDom ..)

theorem pwrBegin (s : State) (t : Nat) : Steady s (s.pwrBegin t) := by
  refine .ite (.refl s) (.ite (.pwrResult ..) (.ite ?_ ?_))
  · extract_lets _ s1
    have h1 : Steady s s1 := .upd (.refl s)
    split
    · exact (h1.trans (.pwrResult ..)).trans (.enterState ..)
    · exact h1.trans (.askNext ..)
  · extract_lets _ s1
    have h1 : Steady s s1 := .upd (.refl s)
    split
    · exact (h1.trans (.enterState ..)).trans (.pwrResult ..)
    · exact (h1.trans (.setJob ..)).trans (.setDom ..)

theorem vout (s : State) (p : Nat) : Steady s (s.vout p) := rfl

theorem pointBegin (s : State) (p : Nat) : Steady s (s.pointBegin p) := by
  refine .ite (.refl s) (.ite (.pwrResult ..) (.ite ?_ ?_))
  · exact ((Steady.upd (.refl s)).trans (.setJob ..)).trans (.vout ..)
  · exact (Steady.setJob ..).trans (.vout ..)

theorem countRefusal (s : State) (d reason t : Nat) : Steady s (s.countRefusal d reason t) :=
  ((Steady.upd (.refl s)).trans (.setReg ..)).trans (Tells.raise ..).steady

theorem undone (s : State) (t d reason : Nat) : Steady s (s.undone t d reason) :=
  ((Steady.upd (.refl s)).trans (.countRefusal ..)).trans (.pwrResult ..)

theorem abortEntry (s : State) (d reason : Nat) : Steady s (s.abortEntry d reason) := by
  unfold State.abortEntry
  split
  · next _ _ ask _ _ _ =>
    extract_lets _ s0 s1
    have h0 : Steady s s0 := .upd (.refl s)
    have h1 : Steady s s1 := by
      cases ask with
      | nil => exact h0
      | cons a _ => exact h0.trans (.setDom ..)
    split
    · exact h1.trans (.undone ..)
    · exact (h1.trans (.setJob ..)).trans (.setDom ..)
  · exact .refl s

theorem wakeSource (s : State) : Steady s s.wakeSource := by
  unfold State.wakeSource
  split
  · exact .abortEntry ..
  · exact .ite (.refl s) (.pwrBegin ..)
  · exact .refl s
  · exact .refl s
  · exact .ite (.refl s) ((Steady.setJob ..).trans (.pwrBegin ..))
  · exact .upd (.refl s)

theorem pmuBoundary (s : State) : Steady s s.pmuBoundary := by
  unfold State.pmuBoundary
  split
  · exact (Steady.setJob ..).trans (.pwrBegin ..)
  · exact (Steady.setJob ..).trans (.pointBegin ..)
  · exact (Steady.upd (.refl s)).trans (.pwrResult ..)
  · exact .refl s
  · exact .ite ((Steady.upd (.refl s)).trans (.wakeSource _)) (.refl s)

theorem reconSend (s : State) : Steady s s.reconSend := .ite ((Steady.upd (.refl s)).trans (.bezel ..)) (.refl s)

theorem carrySend (s : State) : Steady s s.carrySend :=
  .ite (.ite ((Steady.upd (.refl s)).trans (.foldl (fun _ _ => .bezel ..) _ _)) (.upd (.refl s))) (.refl s)

theorem imageSend (s : State) : Steady s s.imageSend :=
  .ite (.ite (.refl s) ((Steady.upd (.refl s)).trans (.bezel ..))) (.ite (.upd (.refl s)) (.refl s))

/-! #### After an entry has taken effect -/

theorem raise (s : State) (a : Nat) (w : Word) : Steady s (s.raise a w) := rfl
theorem lower (s : State) (a : Nat) (w : Word) : Steady s (s.lower a w) := rfl
theorem memClear (s : State) (lo hi : Nat) : Steady s (s.memClear lo hi) := rfl
theorem memWrite (s : State) (a : Nat) (bs : List Byte) : Steady s (s.memWrite a bs) := rfl
theorem modKernel (s : State) (n : Nat) (f : Kernel → Kernel) : Steady s (s.modKernel n f) := rfl
theorem modNp (s : State) (k : Nat) (f : NetPort → NetPort) : Steady s (s.modNp k f) := rfl
theorem setSess (s : State) (x : Nat) (f : Session → Session) : Steady s (s.setSess x f) := (Tells.setSess ..).steady

theorem facetCtl (s : State) (k : Nat) (v : Word) : Steady s (s.facetCtl k v) :=
  .ite (.upd ((Steady.setReg ..).trans (.setFst ..))) (.setReg ..)

theorem loadKernel (s : State) (n k : Nat) (img : List Byte) : Steady s (s.loadKernel n k img) := by
  unfold State.loadKernel
  extract_lets _ _ _ _ _ _ s1 _ s2 s3
  have h1 : Steady s s1 := (Steady.facetCtl ..).trans (.setFst ..)
  have h3 : Steady s s3 := ((h1.upd.trans (.memClear s2 _ _)).trans (.memWrite ..)).trans (.memWrite ..)
  exact (((((((h3.trans (.setReg ..)).trans (.setReg ..)).trans (.setReg ..)).trans (.setReg ..)).trans (.setReg ..)).trans
    (.setReg ..)).trans (.setReg ..)).trans (.setReg ..)

theorem runKernel (s : State) (n : Nat) (go : Bool) : Steady s (s.runKernel n go) := by
  unfold State.runKernel
  split
  · exact .refl s
  · exact .ite (.modKernel ..) (.ite ((Steady.modKernel ..).trans (.raise ..)) ((Steady.modKernel ..).trans (.lower ..)))

theorem settleKernel (s : State) (e : Nat × Kernel) : Steady s (s.settleKernel e) := by
  unfold State.settleKernel
  extract_lets _ s1
  split
  · next k _ _ _ =>
    extract_lets s2
    have h2 : Steady s s2 := ((Steady.upd (.refl s)).trans (.loadKernel s1 e.1 k e.2.img)).trans (.modKernel ..)
    exact .ite (h2.trans (.runKernel ..)) h2
  · exact .refl s

theorem netCount (s : State) (k c n : Nat) : Steady s (s.netCount k c n) := .count ..
theorem netErr (s : State) (k bit : Nat) : Steady s (s.netErr k bit) := .raise ..
theorem netLink (s : State) (k : Nat) : Steady s (s.netLink k) := .event ..

theorem dropMedia (s : State) (f k : Nat) : Steady s (s.dropMedia f k) := ((Steady.netCount ..).trans (.netErr ..)).trans (.count ..)

theorem returnUnsent (k r n : Nat) : ∀ s : State, Steady s (returnUnsent k r n s) := by
  induction n with
  | zero => exact .refl
  | succ n ih => exact fun s => (Steady.trans (.ite (.memWrite ..) (.refl s)) (.setReg ..)).trans (ih _)

theorem unsent (s : State) (k : Nat) : Steady s (s.unsent k) := (Steady.returnUnsent ..).trans (.returnUnsent ..)

theorem linkDown (s : State) (k : Nat) : Steady s (s.linkDown k) := by
  refine .ite (.refl s) ?_
  extract_lets w s1 s2
  have h2 : Steady s s2 := (Steady.modNp ..).trans (.foldl (fun _ _ => .dropMedia ..) w s1)
  exact ((h2.trans (.unsent ..)).trans (.netCount ..)).trans ((Steady.netErr ..).trans (.netLink ..))

theorem speedBack (s : State) (k : Nat) : Steady s (s.speedBack k) := .ite ((Steady.linkDown ..).trans (.modNp ..)) (.refl s)

theorem speedCheck (s : State) : Steady s s.speedCheck := .foldl (fun t _ => .ite (.speedBack ..) (.refl t)) _ s

theorem settle (s : State) : Steady s s.settle :=
  (Steady.upd (.foldl .settleKernel _ s)).trans (.speedCheck _)

theorem mirror (s : State) (x q : Nat) (r : ReplyRec) : Steady s (s.mirror x q r) := .ite (.setSess ..) (.refl s)

/-! #### A zone's settings -/

theorem zoneStarts (s : State) (z : Nat) : Steady s (s.zoneStarts z) := .updRender (.foldl (fun _ _ => .modObjRt ..) _ s)
theorem zoneStops (s : State) (z : Nat) : Steady s (s.zoneStops z) := .updRender (.refl s)
theorem startSolve (s : State) (z : Nat) : Steady s (s.startSolve z) := .ite (.refl s) (.modZoneRt ..)

end Steady
end Sys2Proof.Machine

namespace Sys2Proof.Machine

/-! ### Boundaries (R15 to R17) -/

theorem Steady.spine_eq {s t : State} {p : Spine} (h : Steady s t) (hs : s.spine = p) : t.spine = p := Eq.trans h hs

section
variable {s : State} {p : Spine} (h : s.spine = p)
include h

theorem State.stepTo_of_spine : s.time.sel.stepTo = p.stepTo := h ▸ rfl
theorem State.stopped_of_spine : s.integ.stopped = p.stopped := h ▸ rfl
theorem State.restarting_of_spine : s.integ.restarting = p.restarting := h ▸ rfl
theorem State.closed_of_spine : s.delta.closed = p.closed := h ▸ rfl
theorem State.held_of_spine : s.delta.held = p.held := h ▸ rfl
theorem State.zones_of_spine : s.render.zones = p.zones := h ▸ rfl
theorem State.n_of_spine : s.render.n = p.n := h ▸ rfl
theorem State.inBad_of_spine : s.render.inBad = p.inBad := h ▸ rfl
theorem State.cutoff_of_spine : s.delta.cutoff = p.cutoff := h ▸ rfl
theorem State.committed_of_spine : s.delta.committed = p.committed := h ▸ rfl

end

/-- The next block's first sample has been passed: the number is up by one and no input of it has failed. -/
def Spine.advanced (p : Spine) : Spine := { p with n := p.n + 1, inBad := [] }

/-- The next cycle's delta is open. -/
def Spine.opened (p : Spine) : Spine := { p with closed := none, cutoff := false, committed := false }

/-- The entries of the closed delta, one after another. -/
def State.entriesApplied (s : State) : State :=
  match s.delta.closed with
  | some c => c.entries.foldl State.applyEntry s
  | none => s

/-- A closed delta's entries take effect and the next delta opens, where none is held for a later boundary. -/
theorem State.applyDelta_spine (s : State) (h : s.entriesApplied.delta.held = none) : s.applyDelta.spine = s.entriesApplied.spine.opened := by
  unfold State.applyDelta
  extract_lets n s1 _ s2
  have hs : s2.delta.held = none := h
  rw [hs]
  exact rfl

theorem State.applyDelta_spine_of_open (s : State) (hc : s.delta.closed = none) (hh : s.delta.held = none) :
    s.applyDelta.spine = s.spine.opened := by
  have e : s.entriesApplied = s := by unfold State.entriesApplied; rw [hc]
  rw [s.applyDelta_spine (by rw [e, hh]), e]

/-- A zone's settings change and no other's. -/
theorem specZoneSet_apply_spine (c : Cmd) (s : State) :
    (specZoneSet.apply c [] s).spine = { s.spine with zones := mmod {} s.render.zones (c.at 20 2) (zoneSet c) } := by
  have h : Steady (s.modZone (c.at 20 2) fun _ => zoneSet c (s.zone (c.at 20 2))) (specZoneSet.apply c [] s) := by
    unfold specZoneSet
    dsimp only
    rw [if_neg (by decide)]
    exact .ite (.trans (.ite (.zoneStarts ..) (.ite (.zoneStops ..) (.refl _))) (.startSolve ..))
      (.ite (.zoneStarts ..) (.ite (.zoneStops ..) (.refl _)))
  exact h

/-- What an entry of a ZONE_SET changes. -/
def Spine.zoneSet (p : Spine) (e : Entry) : Spine :=
  { p with zones := mmod {} p.zones ((entryCmd e).at 20 2) (Sys2Proof.Machine.zoneSet (entryCmd e)) }

/-- An entry that sets a zone in each of the units that it touches. -/
theorem State.applyEntry_spine_of_zoneSet (s : State) {e : Entry} {ep : Endpoint} {i q : Nat} {tg : Bool} {pl : List Byte}
    {rcd : ReplyRec} {dat : List Byte} (he : e = .command ep i q 0x0100 0 tg pl rcd dat) (h : rcd.touched = rcd.succeeded) :
    (s.applyEntry e).spine = s.spine.zoneSet e := by
  subst he
  have hb : ((List.range 16).filter fun u => rcd.touched.testBit u && !rcd.succeeded.testBit u) = [] := by simp [h]
  refine Steady.spine_eq ((Steady.settle _).trans (.mirror ..)) ?_
  rw [hb]
  exact specZoneSet_apply_spine ..

theorem State.entriesApplied_of_single {s : State} {d : Closed} {e : Entry} (hc : s.delta.closed = some d) (hd : d.entries = [e]) :
    s.entriesApplied = s.applyEntry e := by
  unfold State.entriesApplied
  rw [hc]
  show d.entries.foldl State.applyEntry s = _
  rw [hd, List.foldl_cons, List.foldl_nil]

theorem State.deadline_of_open {s : State} (h : s.delta.closed = none) : s.deadline = s := by
  unfold State.deadline
  rw [h]

theorem State.deadline_of_committed {s : State} (h : s.delta.committed = true) : s.deadline = s := by
  unfold State.deadline
  split
  · rfl
  · exact if_pos h

theorem State.watchdog_of_off {s : State} (h : wbit (s.reg (aInteg + 8)) 1 = false) : s.watchdog = s := if_pos (by simp [h])

theorem State.stepNow_of_none {s : State} (h : s.time.sel.stepTo = none) : s.stepNow = s := by
  have e : s.stepL = s := by unfold State.stepL; rw [h]
  unfold State.stepNow
  rw [e]
  exact if_pos rfl

/-- Ganen's part of a boundary, where no step of L is due, changes what the delta changes. -/
theorem State.ganenBoundary_spine {s : State} {p q : Spine} (n : Nat) (hs : s.spine = p) (ha : ∀ t : State, t.spine = p → t.applyDelta.spine = q)
    (hq : q.stepTo = none) : (s.ganenBoundary n).spine = q := by
  unfold State.ganenBoundary
  extract_lets s1 s2
  have h1 : s1.handoverBoundary.spine = q :=
    ((Steady.reqBoundary _).trans (.handoverBoundary _)).spine_eq (ha _ ((Steady.waiters s).spine_eq hs))
  have hstep : s1.handoverBoundary.time.sel.stepTo = none := (State.stepTo_of_spine h1).trans hq
  have h2 : s2.spine = q := by
    unfold s2
    rw [State.stepNow_of_none hstep]
    exact ((Steady.loupeTakenOver _).trans (.loupeBoundary _)).spine_eq h1
  have h3 : Steady s2 ((s2.facetBoundary.shedLoad n).directBoundary) :=
    ((Steady.facetBoundary _).trans (.shedLoad ..)).trans (.directBoundary _)
  exact (h3.trans (.foldl (fun _ _ => .solveAsked ..) _ _)).spine_eq h2

/-- A boundary of a unit that runs, where nothing is due before it and no step of L is: the next block begins, and the delta takes
effect in it. -/
theorem State.boundary_spine {s : State} {q : Spine} (x : BoundaryFacts) (hd : s.deadline = s) (hw : s.watchdog = s)
    (hstop : s.integ.stopped = false) (hre : s.integ.restarting = false)
    (ha : ∀ t : State, t.spine = s.spine.advanced → t.applyDelta.spine = q) (hq : q.stepTo = none) : (s.boundary x).spine = q := by
  unfold State.boundary
  rw [hd, hw]
  extract_lets _ _ s1 s2 _ s3 s4 _ s5 s6 s7 _ s8
  have h3 : s3.spine = s.spine.advanced := by
    unfold s3
    rw [State.closeWindows_spine, Steady.exits s1]
    rfl
  have hstop3 : s3.integ.stopped = false := (State.stopped_of_spine h3).trans hstop
  have hre3 : s3.integ.restarting = false := (State.restarting_of_spine h3).trans hre
  have h4 : s4.spine = q := by
    unfold s4
    rw [if_neg (by rw [hre3]; decide)]
    exact State.ganenBoundary_spine _ h3 ha hq
  have h5 : Steady s4 s5 := .upd (.refl s4)
  have h7 : Steady s4 s7 := (h5.trans (.foldl (fun _ _ => .feedChange ..) _ s5)).trans (.addInputs s6)
  have h8 : Steady s4 s8 := ((h7.updRender.trans (.netClose _)).trans (.pavilion _)).trans (.pmuBoundary _)
  rw [if_neg (by rw [hstop3]; decide)]
  exact (((h8.trans (.reconSend _)).trans (.carrySend _)).trans (.imageSend _)).spine_eq h4

theorem exec_renderBoundary {s : State} (x : BoundaryFacts) (hr : s.render.run = true) : exec (.renderBoundary x) s = .next (s.boundary x) := by
  show execRenderBoundary x s = _
  simp [execRenderBoundary, hr]

theorem State.boundary_pending (s : State) (x : BoundaryFacts) : (s.boundary x).pending = s.pending :=
  (State.boundary_keeps (Keeps.refl s) x).queue

end Sys2Proof.Machine

namespace Sys2Proof.Machine

section
variable {s : State} (x : BoundaryFacts) (hh : s.delta.held = none) (hl : s.time.sel.stepTo = none) (hstop : s.integ.stopped = false)
  (hre : s.integ.restarting = false) (hw : wbit (s.reg (aInteg + 8)) 1 = false)
include hh hl hstop hre hw

/-- A boundary with nothing waiting in the delta. -/
theorem State.boundary_spine_of_open (hc : s.delta.closed = none) : (s.boundary x).spine = s.spine.advanced.opened := by
  refine State.boundary_spine x (State.deadline_of_open hc) (State.watchdog_of_off hw) hstop hre (fun t ht => ?_) hl
  have hct : t.delta.closed = none := (State.closed_of_spine ht).trans hc
  have hht : t.delta.held = none := (State.held_of_spine ht).trans hh
  rw [t.applyDelta_spine_of_open hct hht, ht]

/-- A boundary at which a committed delta sets a zone. -/
theorem State.boundary_spine_of_zoneSet {d : Closed} {e : Entry} {ep : Endpoint} {i q : Nat} {tg : Bool} {pl : List Byte}
    {rcd : ReplyRec} {dat : List Byte} (hc : s.delta.closed = some d) (hcom : s.delta.committed = true) (hd : d.entries = [e])
    (he : e = .command ep i q 0x0100 0 tg pl rcd dat) (hrcd : rcd.touched = rcd.succeeded) :
    (s.boundary x).spine = (s.spine.advanced.zoneSet e).opened := by
  refine State.boundary_spine x (State.deadline_of_committed hcom) (State.watchdog_of_off hw) hstop hre (fun t ht => ?_) hl
  have hct : t.delta.closed = some d := (State.closed_of_spine ht).trans hc
  have hsp : t.entriesApplied.spine = s.spine.advanced.zoneSet e := by
    rw [State.entriesApplied_of_single hct hd, t.applyEntry_spine_of_zoneSet he hrcd, ht]
  have hht : t.entriesApplied.delta.held = none := (State.held_of_spine hsp).trans hh
  rw [t.applyDelta_spine hht, hsp]

end

/-- Settles O22. What a boundary leaves is read off its spine, which only the windows' close and the delta's entries change; what a
run leaves is read off `Renders`. -/
theorem boundariesRunsAndHeldBlocks : Obligations.BoundariesRunsAndHeldBlocks := by
  unfold Obligations.BoundariesRunsAndHeldBlocks
  refine ⟨?_, ?_, ?_, FeedRt.hold_spec⟩
  · intro s x hr hc hh hl _ hstop hre hw
    have h := State.boundary_spine_of_open x hh hl hstop hre hw hc
    exact ⟨_, exec_renderBoundary x hr, State.n_of_spine h, State.closed_of_spine h, State.cutoff_of_spine h, State.committed_of_spine h,
      State.inBad_of_spine h, s.boundary_pending x⟩
  · intro s x d ep i q tg pl rcd dat hr hc hcom hh hl _ hstop hre hw hd hrcd c
    have h := State.boundary_spine_of_zoneSet x hh hl hstop hre hw hc hcom hd rfl hrcd
    have hz := State.zones_of_spine h
    refine ⟨_, exec_renderBoundary x hr, State.n_of_spine h, State.closed_of_spine h, ?_, fun y hy => ?_⟩
    · rw [State.zone, hz]
      exact mget_mmod_self {} s.render.zones _ (zoneSet c)
    · rw [State.zone, hz]
      exact mget_mmod_ne {} s.render.zones (zoneSet c) hy
  · intro s k facts hr hk hs hi ho
    refine ⟨fun f h => ?_, fun f h => ?_, fun o h => ?_⟩
    · obtain ⟨t, e, ht⟩ := facetRunStart_renders_chains hr hk hs hi ho facts h
      exact ⟨t, ht.spec.choose, e, ht.spec.choose_spec⟩
    · obtain ⟨t, e, ht⟩ := facetRunStart_renders_matrix hr hk hs hi ho facts h
      exact ⟨t, ht.spec.choose, e, ht.spec.choose_spec⟩
    · obtain ⟨t, e, ht⟩ := facetRunStart_renders_objects hr hk hs hi ho facts h
      exact ⟨t, ht.spec.choose, e, ht.spec.choose_spec⟩

end Sys2Proof.Machine

namespace Sys2Proof.Machine

/-! ### Solves end and layouts switch (R59 to R61) -/

/-- A zone whose solve gave a structure: its switch is not entered yet. -/
def ZoneRt.solved (r : ZoneRt) (us : Nat) : ZoneRt :=
  { r with solving := false, lastUs := us, pending := some r.run, failed := false, reason := 0 }

/-- A zone whose solve gave a structure that is too big (Table PAV-2): what was pending stays so. -/
def ZoneRt.tooBig (r : ZoneRt) (us : Nat) : ZoneRt := { r with solving := false, lastUs := us, failed := true, reason := 4 }

/-- A zone whose pending layout's switch has been entered. -/
def ZoneRt.switchEntered (r : ZoneRt) (l : Layout) : ZoneRt := { r with pending := none, entered := r.entered ++ [l] }

/-- A zone whose layout crossfade is over: the old layout is gone and the generation moves. -/
def ZoneRt.switched (r : ZoneRt) : ZoneRt := { r with outgoing := none, gen := (r.gen + 1) % 2 ^ 16 }

section
variable {s : State} {z : Nat} (hs : (s.zoneRt z).solving = true) (hr : (s.zoneRt z).runReason = 0) (ha : (s.zoneRt z).again = false)
include hs hr ha

theorem State.solveDone_of_fits (us : Nat) : s.solveDone z us false = s.modZoneRt z fun q => q.solved us := by
  simp [State.solveDone, hs, hr, ha, ZoneRt.solved]

/-- Where a layout is in force, a failure is told of and changes nothing but the solve's own state. -/
theorem State.solveDone_of_tooBig (us : Nat) (hl : (s.zoneRt z).live.enabled = true) :
    Tells (s.modZoneRt z fun q => q.tooBig us) (s.solveDone z us true) := by
  simp only [State.solveDone, hs, hr, ha, hl]
  exact (Tells.raise ..).trans (.event ..)

end

theorem Tells.zoneRt {s t : State} (h : Tells s t) (z : Nat) : t.zoneRt z = s.zoneRt z := by rw [State.zoneRt, h.render, State.zoneRt]

theorem exec_layoutSwitchEntry {s : State} {z : Fin 16} {l : Layout} (h : (s.zoneRt z.val).pending = some l) :
    exec (.layoutSwitchEntry z) s = .next ((s.modZoneRt z.val fun r => r.switchEntered l).enter (.layout z.val l)) := by
  show execLayoutSwitchEntry z s = _
  rw [execLayoutSwitchEntry, h]
  rfl

theorem State.layoutXfadeEnd_of_over {s : State} {z : Nat} (ho : (s.zoneRt z).outgoing.isSome = true)
    (hn : (s.zoneRt z).xStart + (s.zone z).xfade ≤ s.render.n + 3) : s.layoutXfadeEnd z = s.modZoneRt z ZoneRt.switched :=
  if_pos (by simp [ho, hn])

/-! ### Crossfades of 64 samples end (R81 to R83, R105) -/

theorem done64_of_le {s : State} {b : Nat} (h : b + 4 ≤ s.render.n + 3) : done64 s b = true := decide_eq_true h

section
variable {s : State} {b : Nat} (hn : b + 4 ≤ s.render.n + 3)
include hn

theorem exec_dopplerXfadeEnd {o : Fin 1024} (h : (s.objRt o.val).dopFade = some b) :
    exec (.dopplerXfadeEnd o) s = .next (s.modObjRt o.val fun r => { r with dopFade := none }) := by
  show execDopplerXfadeEnd o s = _
  simp only [execDopplerXfadeEnd, h, done64_of_le hn, if_true]

theorem exec_alignDelayXfadeEnd {f : Fin 1024} {d : Nat} (h : (s.feedRt f.val).dFade = some (b, d)) :
    exec (.alignDelayXfadeEnd f) s = .next (s.modFeedRt f.val fun r => { r with dFade := none }) := by
  show execAlignDelayXfadeEnd f s = _
  simp only [execAlignDelayXfadeEnd, h, done64_of_le hn, if_true]

end

section
variable {s : State} {o : Fin 1024} {f : TapFade} (hn : f.start + 4 ≤ s.render.n + 3)
include hn

theorem exec_delayJumpXfadeEnd (h : (s.objRt o.val).jump = some f) :
    exec (.delayJumpXfadeEnd o) s = .next (s.modObjRt o.val fun r => { r with jump := none }) := by
  show execDelayJumpXfadeEnd o s = _
  simp only [execDelayJumpXfadeEnd, h, done64_of_le hn, if_true]

theorem exec_placementXfadeEnd (h : (s.objRt o.val).place = some f) :
    exec (.placementXfadeEnd o) s = .next (s.modObjRt o.val fun r => { r with place := none, line := r.line.take 4096 }) := by
  show execPlacementXfadeEnd o s = _
  simp only [execPlacementXfadeEnd, h, done64_of_le hn, if_true]

end

/-! ### A route crossfade ends (R96 to R98) -/

/-- An object with no old side left. -/
def ObjRt.xfEnded (r : ObjRt) : ObjRt :=
  { r with xf := none, xfPan := false, oldDirect := [], oldDiffuse := [], oldSource := none, oldZone := 0xFF, oldW := 0, xfOwn := false }

/-- A route's place once object `o`'s crossfade is over: nothing of `o` fades out or in. -/
def RouteRt.xfEnded (t : RouteRt) (o : Nat) : RouteRt :=
  { t with
    old := if (match t.old with | some q => q.obj == o | none => false) then none else t.old
    fadingIn := if (match t.cur with | some q => q.obj == o | none => false) then false else t.fadingIn }

/-- A state in which object `o`'s route crossfade is over. -/
def State.xfEnded (s : State) (o : Nat) : State :=
  let s1 := s.modObjRt o ObjRt.xfEnded
  { s1 with render := { s1.render with routes := s1.render.routes.map fun e => (e.1, e.2.xfEnded o) } }

/-- An object is changed by what it holds alone. -/
theorem State.modObjRt_congr {s : State} {o : Nat} {f g : ObjRt → ObjRt} (h : f (s.objRt o) = g (s.objRt o)) :
    s.modObjRt o f = s.modObjRt o g := by
  have e : mmod {} s.render.objRt o f = mmod {} s.render.objRt o g := congrArg (mset s.render.objRt o) h
  rw [State.modObjRt, e, State.modObjRt]

theorem State.endXf_of_over {s : State} {o : Nat} {x : Xfade} (hx : (s.objRt o).xf = some x)
    (hn : x.n + 16 * x.start ≤ 16 * (s.render.n + 3)) (hr : (s.objRt o).release = false) : s.endXf o = s.xfEnded o := by
  unfold State.endXf State.xfEnded
  rw [hx]
  dsimp only
  rw [if_neg (by omega), State.modObjRt_congr (g := ObjRt.xfEnded) (by simp [hr, ObjRt.xfEnded])]
  rfl

theorem State.objRt_xfEnded_self (s : State) (o : Nat) : (s.xfEnded o).objRt o = (s.objRt o).xfEnded :=
  s.objRt_modObjRt_self o ObjRt.xfEnded

theorem State.objRt_xfEnded_ne (s : State) {o j : Nat} (h : j ≠ o) : (s.xfEnded o).objRt j = s.objRt j :=
  s.objRt_modObjRt_ne ObjRt.xfEnded h

theorem RouteRt.old_xfEnded {t : RouteRt} {o : Nat} {q : Route} (h : (t.xfEnded o).old = some q) : q.obj ≠ o := by
  unfold RouteRt.xfEnded at h
  cases ht : t.old with
  | none => simp [ht] at h
  | some p =>
    obtain ⟨hp, rfl⟩ : p.obj ≠ o ∧ p = q := by simpa [ht] using h
    exact hp

/-- No route of the object fades out any more. -/
theorem State.xfEnded_old {s : State} {o : Nat} {e : Nat × RouteRt} (he : e ∈ (s.xfEnded o).render.routes) {q : Route}
    (hq : e.2.old = some q) : q.obj ≠ o := by
  obtain ⟨e', -, rfl⟩ := List.mem_map.mp he
  exact RouteRt.old_xfEnded hq

/-- Settles O24. A solve's end, a switch and the end of a layout's crossfade each change one zone; the ends of the crossfades of
64 samples and of a route's each change one object or feed, and the latter the routes of its object. -/
theorem layoutsAndCrossfadesMove : Obligations.LayoutsAndCrossfadesMove := by
  unfold Obligations.LayoutsAndCrossfadesMove
  refine ⟨fun s z => ⟨?_, ?_, ?_, ?_⟩, fun s => ⟨?_, ?_, ?_, ?_, ?_⟩⟩
  · intro us hs hr ha
    have e := State.solveDone_of_fits hs hr ha us
    have hz : (s.solveDone z.val us false).zoneRt z.val = (s.zoneRt z.val).solved us := by rw [e, State.zoneRt_modZoneRt_self]
    refine ⟨_, rfl, ?_⟩
    rw [hz]
    exact ⟨rfl, rfl, rfl, rfl, fun y hy => by rw [e, State.zoneRt_modZoneRt_ne _ _ hy]⟩
  · intro us hs hr ha hl
    have hz : (s.solveDone z.val us true).zoneRt z.val = (s.zoneRt z.val).tooBig us := by
      rw [(State.solveDone_of_tooBig hs hr ha us hl).zoneRt, State.zoneRt_modZoneRt_self]
    refine ⟨_, rfl, ?_⟩
    rw [hz]
    exact ⟨rfl, rfl, rfl, rfl, rfl⟩
  · intro l hl
    have hz : ((s.modZoneRt z.val fun r => r.switchEntered l).enter (.layout z.val l)).zoneRt z.val = (s.zoneRt z.val).switchEntered l :=
      s.zoneRt_modZoneRt_self z.val fun r => r.switchEntered l
    refine ⟨_, exec_layoutSwitchEntry hl, State.enter_entries .., ?_⟩
    rw [hz]
    exact ⟨rfl, rfl⟩
  · intro ho hn
    have e := State.layoutXfadeEnd_of_over ho hn
    have hz : (s.layoutXfadeEnd z.val).zoneRt z.val = (s.zoneRt z.val).switched := by rw [e, State.zoneRt_modZoneRt_self]
    refine ⟨_, rfl, ?_⟩
    rw [hz]
    exact ⟨rfl, rfl, fun y hy => by rw [e, State.zoneRt_modZoneRt_ne _ _ hy]⟩
  · exact fun o f hf hn => exec_delayJumpXfadeEnd hn hf
  · exact fun o b hb hn => exec_dopplerXfadeEnd hn hb
  · exact fun o f hf hn => exec_placementXfadeEnd hn hf
  · exact fun f b d hd hn => exec_alignDelayXfadeEnd hn hd
  · intro o x hx hn hr
    have e : exec (.routeXfadeEnd o) s = .next (s.xfEnded o.val) := congrArg Host.Outcome.next (State.endXf_of_over hx hn hr)
    refine ⟨_, e, ?_⟩
    rw [State.objRt_xfEnded_self]
    exact ⟨rfl, rfl, rfl, rfl, fun j hj => s.objRt_xfEnded_ne hj, fun _ he _ hq => State.xfEnded_old he hq, rfl⟩

end Sys2Proof.Machine

namespace Sys2Proof.Machine

/-! ### The shadow bank is freed (R112, R117) -/

/-- A feed that runs from the live bank. -/
def FeedRt.fromLive (r : FeedRt) : FeedRt := { r with shadow := false }

theorem Tells.feedRt {s t : State} (h : Tells s t) (f : Nat) : t.feedRt f = s.feedRt f := by rw [State.feedRt, h.render, State.feedRt]

theorem State.modFeedRt_fromLive_shadow {s : State} {f : Nat} (g : Nat) (h : (s.feedRt f).shadow = false) :
    ((s.modFeedRt g FeedRt.fromLive).feedRt f).shadow = false := by
  by_cases e : f = g
  · rw [e, State.feedRt_modFeedRt_self, FeedRt.fromLive]
  · rw [State.feedRt_modFeedRt_ne _ _ e, h]

/-- A feed runs from the live bank once the list has been gone through, if it is on the list or did so before. -/
theorem State.foldl_fromLive_shadow {f : Nat} (l : List (Nat × Fir)) : ∀ s : State, f ∈ l.map (·.1) ∨ (s.feedRt f).shadow = false →
    ((l.foldl (fun s e => s.modFeedRt e.1 FeedRt.fromLive) s).feedRt f).shadow = false := by
  induction l with
  | nil => exact fun s h => h.resolve_left List.not_mem_nil
  | cons e l ih =>
    intro s h
    refine ih _ ?_
    rcases h with h | h
    · rcases List.mem_cons.mp h with rfl | h
      · exact .inr (by rw [State.feedRt_modFeedRt_self, FeedRt.fromLive])
      · exact .inl h
    · exact .inr (State.modFeedRt_fromLive_shadow _ h)

theorem State.freeShadow_feeds_live (s : State) {e : Nat × Fir} (he : e ∈ s.render.shadow.set) :
    (s.freeShadow.feedRt e.1).shadow = false :=
  State.foldl_fromLive_shadow _ s (.inl (List.mem_map_of_mem he))

/-- A bank that was freed and told of is free, and its feeds run from the live bank. -/
theorem Tells.freeShadow {s t : State} (h : Tells s.freeShadow t) :
    t.render.shadow = {} ∧ ∀ e ∈ s.render.shadow.set, (t.feedRt e.1).shadow = false :=
  ⟨by rw [h.render]; rfl, fun e he => by rw [h.feedRt, s.freeShadow_feeds_live he]⟩

theorem exec_firCopyBackComplete {s : State} (hst : s.render.shadow.st = 3) (hab : s.render.shadow.ab = false)
    (hn : s.render.shadow.since + 4 ≤ s.render.n) : exec .firCopyBackComplete s = .next (s.freeShadow.event 0x8501 []) :=
  if_pos ⟨hst, hab, hn⟩

theorem exec_abCopyBackComplete {s : State} (hst : s.render.shadow.st = 3) (hab : s.render.shadow.ab = true) :
    exec .abCopyBackComplete s = .next (s.freeShadow.event 0x8503 (beBytes 2 s.render.shadow.set.length ++ zeros 2)) :=
  if_pos ⟨hst, hab⟩

/-! ### An A/B crossfade ends (R117) -/

/-- A feed whose A/B crossfade is over: the B filter stands alone. -/
def FeedRt.abEnded (r : FeedRt) (a : AbFade) : FeedRt := { r with fir := a.b, ab := none, tail := r.tailB, tailB := [] }

/-- A state in which feed `f`'s A/B crossfade is over and the copy-back of its bank has begun. -/
def State.abEnded (s : State) (f : Nat) (a : AbFade) : State :=
  let s1 := s.modFeedRt f fun r => r.abEnded a
  { s1 with render := { s1.render with shadow := { s.render.shadow with st := 3, since := s.render.n } } }

/-- A feed is changed by what it holds alone. -/
theorem State.modFeedRt_congr {s : State} {f : Nat} {g h : FeedRt → FeedRt} (e : g (s.feedRt f) = h (s.feedRt f)) :
    s.modFeedRt f g = s.modFeedRt f h := by
  have e' : mmod {} s.render.feedRt f g = mmod {} s.render.feedRt f h := congrArg (mset s.render.feedRt f) e
  rw [State.modFeedRt, e', State.modFeedRt]

theorem exec_abXfadeEnd_of_over {s : State} {f : Nat} {b : Fir} {a : AbFade} (hst : s.render.shadow.st = 4)
    (hset : s.render.shadow.set = [(f, b)]) (ha : (s.feedRt f).ab = some a) (hn : a.n + 16 * a.start ≤ 16 * (s.render.n + 3)) :
    exec .abXfadeEnd s = .next (s.abEnded f a) := by
  show execAbXfadeEnd s = _
  simp only [execAbXfadeEnd, hst, hset, ha, hn, List.all_cons, List.all_nil, List.foldl_cons, List.foldl_nil, ge_iff_le, decide_true,
    Bool.and_self, if_true]
  rw [State.modFeedRt_congr (h := fun r => r.abEnded a)]
  · simp only [State.abEnded, hset]
  · rw [ha, FeedRt.abEnded]

theorem State.feedRt_abEnded_self (s : State) (f : Nat) (a : AbFade) : (s.abEnded f a).feedRt f = (s.feedRt f).abEnded a :=
  s.feedRt_modFeedRt_self f fun r => r.abEnded a

theorem State.feedRt_abEnded_ne (s : State) {f g : Nat} (a : AbFade) (h : g ≠ f) : (s.abEnded f a).feedRt g = s.feedRt g :=
  s.feedRt_modFeedRt_ne (fun r => r.abEnded a) h

/-! ### Staging ends (R113) and the render resumes (R45) -/

theorem exec_filterStagingComplete {s : State} (h : s.render.shadow.st = 1) :
    exec .filterStagingComplete s =
      .next (({ s with render := { s.render with shadow := { s.render.shadow with st := 2 } } }).event 0x8500
        (beBytes 2 s.render.shadow.set.length ++ zeros 2)) :=
  if_pos h

theorem exec_renderRateResume {s : State} (h : s.render.changing = true) :
    exec .renderRateResume s = .next { s with
      render := { s.render with changing := false, run := !s.integ.pllStop, n := blockAt s.render.rate96 s.lNs } } :=
  congrArg Host.Outcome.next (if_pos h)

/-- Settles O25. Staging and the copy-backs change the render and tell of it by an event, which leaves the render as it is; that a freed
bank's feeds run from the live one is by induction on its set. -/
theorem shadowBankAdvances : Obligations.ShadowBankAdvances := by
  unfold Obligations.ShadowBankAdvances
  refine fun s => ⟨fun hst => ?_, fun hst hab hn => ?_, fun hst hab => ?_, fun f b a hst hset ha hn => ?_, exec_renderRateResume⟩
  · exact ⟨_, exec_filterStagingComplete hst, State.event_render ..⟩
  · exact ⟨_, exec_firCopyBackComplete hst hab hn, (Tells.event ..).freeShadow⟩
  · exact ⟨_, exec_abCopyBackComplete hst hab, (Tells.event ..).freeShadow⟩
  · refine ⟨_, exec_abXfadeEnd_of_over hst hset ha hn, ?_⟩
    rw [State.feedRt_abEnded_self]
    exact ⟨rfl, rfl, rfl, rfl, fun g hg => s.feedRt_abEnded_ne a hg⟩

end Sys2Proof.Machine

namespace Sys2Proof.Machine

/-! ### Measurement inputs (R120, R121, R124, R130 to R132) -/

/-- A write with no 1 in a reserved field acts. -/
theorem guarded_of_unreserved {a : Nat} {v : Word} (h : reservedWrite a v = false) (t : State) : guarded a v t = .next t := by
  unfold reservedWrite at h
  unfold guarded guardWrite
  split at h
  next i hi => simp_all
  next hi => simp [hi]

/-- An event touches no register below PCIe's block. -/
theorem State.reg_event (s : State) (code : Nat) (payload : List Byte) {a : Nat} (ha : a < aPcie) : (s.event code payload).reg a = s.reg a :=
  (Spares.ite (k := 0) (.refl s) (State.eventAny_spares ha (by unfold aNet; omega) (.refl s) code payload)).reg

theorem State.lin_congr {s t : State} (h : t.loupe.ins = s.loupe.ins) (n : Nat) : t.lin n = s.lin n := by rw [State.lin, h, State.lin]

/-- There are 16 inputs. -/
theorem State.Shape.ins {s : State} (h : s.Shape) : s.loupe.ins.length = 16 := by
  obtain ⟨-, -, -, -, -, -, -, -, -, -, -, -, h, -⟩ := h
  exact h

/-- An abandoned step touches no register and no input. -/
theorem State.spoilStep_eq (s : State) (j : Nat) (q : LJob) :
    s.spoilStep j q = { s with loupe := { s.loupe with jobs := (s.spoilStep j q).loupe.jobs }, delta := (s.spoilStep j q).delta } := by
  unfold State.spoilStep
  dsimp only
  split
  · rfl
  · split <;> rfl

theorem State.spoil_eq (s : State) (n : Nat) :
    s.spoil n = { s with loupe := { s.loupe with jobs := (s.spoil n).loupe.jobs }, delta := (s.spoil n).delta } := by
  unfold State.spoil
  split
  · exact s.spoilStep_eq _ _
  · rfl

@[simp] theorem State.spoil_regs (s : State) (n : Nat) : (s.spoil n).regs = s.regs := by rw [s.spoil_eq n]
@[simp] theorem State.spoil_ins (s : State) (n : Nat) : (s.spoil n).loupe.ins = s.loupe.ins := by rw [s.spoil_eq n]
@[simp] theorem State.reg_spoil (s : State) (n : Nat) : (s.spoil n).reg = s.reg := reg_congr (s.spoil_regs n)
@[simp] theorem State.lin_spoil (s : State) (n m : Nat) : (s.spoil n).lin m = s.lin m := State.lin_congr (s.spoil_ins n) m
@[simp] theorem State.lin_linEvent (s : State) (n m : Nat) : (s.linEvent n).lin m = s.lin m := State.lin_congr (congrArg _ (s.event_loupe _ _)) m

/-- Once a step that captures the input is spoiled, the input takes its state, and it alone. -/
theorem State.lin_spoil_modLin {s : State} (hs : s.Shape) (n : Fin 16) (f : LIn → LIn) :
    ((s.spoil n.val).modLin n.val f).lin n.val = f (s.lin n.val) ∧ ∀ m, m ≠ n.val → ((s.spoil n.val).modLin n.val f).lin m = s.lin m := by
  refine ⟨?_, fun m hm => ?_⟩
  · rw [State.lin_modLin_self _ _ _ (by rw [s.spoil_ins, hs.ins]; exact n.isLt), State.lin_spoil]
  · rw [State.lin_modLin_ne _ _ hm, State.lin_spoil]

/-! #### An input's events -/

theorem exec_settlingEnd {s : State} {n : Fin 16} (h : (s.lin n.val).st = 1) :
    exec (.settlingEnd n) s = .next (s.modLin n.val fun q => { q with st := 2 }) := if_pos h

theorem exec_stuckRecover {s : State} {n : Fin 16} (h : (s.lin n.val).st = 3) :
    exec (.stuckRecover n) s = .next (((s.spoil n.val).modLin n.val fun q => { q with st := 1 }).linEvent n.val) := if_pos h

/-- A state in which input `n` is STUCK, marked and told so. -/
def State.stuckIn (s : State) (n : Nat) : State :=
  (((((s.spoil n).modLin n fun q => { q with st := 3 }).raise (aLoupe + 4) 2).count (aLoupe + 0xA0)).report
    { cls := 0x70, dev := false, inst := n }).linEvent n

theorem inMode_eq (v : Word) : inMode v = v.toNat % 8 := by simp [inMode, wbits, bitsOf]

theorem exec_loupeStuck {s : State} {n : Fin 16} (hm : (s.reg (aLin n.val)).toNat % 8 = 1 ∨ (s.reg (aLin n.val)).toNat % 8 = 2)
    (hst : (s.lin n.val).st = 1 ∨ (s.lin n.val).st = 2) : exec (.loupeStuck n) s = .next (s.stuckIn n.val) :=
  if_pos ⟨by rwa [inMode_eq], hst⟩

/-- The record and the event of a STUCK input leave its mark. -/
theorem State.reg_stuckIn (s : State) (n : Nat) : (s.stuckIn n).reg (aLoupe + 4) = s.reg (aLoupe + 4) ||| 2 := by
  rw [State.stuckIn, State.linEvent, State.reg_event _ _ _ (by decide),
    (State.report_spares_any (k := 0) _ (.refl _) (by decide) (by decide) (fun _ => by decide) (by unfold aNet; omega) (by decide)).reg,
    reg_congr (State.count_regs ..), State.reg_raise_self, reg_congr (State.modLin_regs ..), State.reg_spoil]

theorem State.lin_stuckIn (s : State) (n m : Nat) : (s.stuckIn n).lin m = ((s.spoil n).modLin n fun q => { q with st := 3 }).lin m := by
  rw [State.stuckIn, State.lin_linEvent]
  exact State.lin_congr (by rw [State.report_loupe, State.count_loupe, State.raise_loupe]) m

/-! #### Configuration -/

theorem exec_loupeInCfgWrite {s : State} {n : Fin 16} {v : Word} (hr : reservedWrite (aLin n.val) v = false) :
    exec (.loupeInCfgWrite n v) s = .next (s.inCfg n.val v) := guarded_of_unreserved hr _

theorem State.inCfg_of_odd {s : State} {n : Nat} {v : Word} (he : inCfgErr s n v = false) (hn : n % 2 = 1) : s.inCfg n v = s.setInCfg n v := by
  simp [State.inCfg, he, hn]

/-- A configuration that the input takes is its register's, and no other register is touched. -/
theorem State.setInCfg_regs (s : State) (n : Nat) (v : Word) : (s.setInCfg n v).regs = (s.setReg (aLin n) v).regs := by
  unfold State.setInCfg
  dsimp only
  split
  · rfl
  · split
    · exact State.spoil_regs ..
    · rfl

theorem State.lin_setInCfg_of_off {s : State} {n : Nat} {v : Word} (hn : n < s.loupe.ins.length) (hv : v.toNat % 8 = 0) :
    ((s.setInCfg n v).lin n).st = 0 := by
  simp only [State.setInCfg, inMode_eq, hv, if_true]
  rw [State.lin_modLin_self _ _ _ (by exact hn)]

/-- An input that leaves Off settles. -/
theorem State.lin_setInCfg_of_on {s : State} {n : Nat} {v : Word} (hn : n < s.loupe.ins.length) (hv : v.toNat % 8 ≠ 0)
    (hst : (s.lin n).st = 0) : ((s.setInCfg n v).lin n).st = 1 := by
  simp only [State.setInCfg, inMode_eq, hv, hst, if_true, if_false]
  rw [State.lin_modLin_self _ _ _ (by rwa [State.spoil_ins])]

/-! #### Synchronised reset -/

theorem exec_loupeSyncReq {s : State} {v : Word} (hr : reservedWrite (aLoupe + 0x10) v = false) (hv : v.getLsbD 8 = true) :
    exec (.loupeSyncReq v) s = .next
      ((s.setReg (aLoupe + 0x10) ((v &&& 3) ||| (s.reg (aLoupe + 0x10) &&& 0x100))).raise (aLoupe + 0x10) 0x100).reqReset := by
  refine (guarded_of_unreserved hr (s.syncCtl v)).trans ?_
  rw [State.syncCtl]
  simp [wbit, hv]

/-- A request is noted in this unit alone: no register and no delta moves. -/
theorem State.reqReset_eq (s : State) : s.reqReset = { s with loupe := { s.loupe with
    reqIn := if s.loupe.reqIn ≠ 0 then s.loupe.reqIn else if s.delta.cutoff then 2 else 1 } } := by
  unfold State.reqReset
  split <;> rfl

theorem exec_loupeSyncEdge_first {s : State} (hs : s.standby = false) (hen : (s.reg (aLoupe + 0x10)).getLsbD 0 = true)
    (hl : s.loupe.lastEdge = none) : exec .loupeSyncEdge s = .next
      (State.enter { s with loupe := { s.loupe with lastEdge := some s.lNs } } (.loupe (.syncReset ((s.reg (aLoupe + 0x10)).getLsbD 1)))) := by
  have hs' : ({ s with loupe := { s.loupe with lastEdge := some s.lNs } } : State).standby = false := hs
  show execLoupeSyncEdge s = _
  simp only [execLoupeSyncEdge, wbit, hen, hl, State.askReset, hs']
  rfl

theorem exec_loupeSyncEdge_soon {s : State} {at' : Nat} (hen : (s.reg (aLoupe + 0x10)).getLsbD 0 = true)
    (hl : s.loupe.lastEdge = some at') (h : 3 * (s.lNs - at') < twoCycles s) :
    exec .loupeSyncEdge s = .next ((s.raise (aLoupe + 4) 4).count (aLoupe + 0x98)) := by
  show execLoupeSyncEdge s = _
  simp [execLoupeSyncEdge, wbit, hen, hl, h]

/-- Settles O26: by what each event of an input does to it, and by what a reset asked for by the register or by an edge changes. -/
theorem loupeInputsFollowTheirEvents : Obligations.LoupeInputsFollowTheirEvents := by
  unfold Obligations.LoupeInputsFollowTheirEvents
  have hins : ∀ {s : State} (n : Fin 16), s.Shape → n.val < s.loupe.ins.length := fun n hs => by
    rw [hs.ins]; exact n.isLt
  refine ⟨fun s n hs h => ?_, fun s n hs h => ?_, fun s n hs hm hst => ?_, fun s n v hs hr he hn => ?_, fun s n v hr he => ?_,
    fun s v hr hv => ?_, fun s hs hen hl => ?_, fun s at' hen hl hsoon => ?_⟩
  · refine ⟨_, exec_settlingEnd h, ?_, fun m hm => s.lin_modLin_ne _ hm, rfl⟩
    rw [State.lin_modLin_self _ _ _ (hins n hs)]
  · obtain ⟨hself, hne⟩ := State.lin_spoil_modLin hs n fun q => { q with st := 1 }
    refine ⟨_, exec_stuckRecover h, ?_, fun m hm => ?_⟩
    · rw [State.lin_linEvent, hself]
    · rw [State.lin_linEvent, hne m hm]
  · obtain ⟨hself, hne⟩ := State.lin_spoil_modLin hs n fun q => { q with st := 3 }
    refine ⟨_, exec_loupeStuck hm hst, ?_, ?_, fun m hm => ?_⟩
    · rw [State.lin_stuckIn, hself]
    · rw [State.reg_stuckIn]; simp
    · rw [State.lin_stuckIn, hne m hm]
  · have hreg := reg_congr (s.setInCfg_regs n.val v)
    refine ⟨_, exec_loupeInCfgWrite hr, ?_⟩
    rw [State.inCfg_of_odd he hn, hreg]
    exact ⟨s.reg_setReg_self _ _, State.lin_setInCfg_of_off (hins n hs), State.lin_setInCfg_of_on (hins n hs),
      fun a ha => s.reg_setReg_ne _ ha⟩
  · rw [exec_loupeInCfgWrite hr, State.inCfg, if_pos he, State.raise]
  · refine ⟨_, exec_loupeSyncReq hr hv, ?_⟩
    rw [State.reqReset_eq]
    refine ⟨?_, ?_, rfl, rfl, rfl⟩
    · show ((State.raise _ _ _).reg _).getLsbD 8 = true
      simp
    · show ((State.raise _ _ _).reg _).getLsbD 1 = v.getLsbD 1
      simp
  · exact ⟨_, exec_loupeSyncEdge_first hs hen hl, rfl, rfl⟩
  · refine ⟨_, exec_loupeSyncEdge_soon hen hl hsoon, State.count_loupe .., State.count_delta .., ?_⟩
    rw [reg_congr (State.count_regs ..), State.reg_raise_self]
    simp

end Sys2Proof.Machine

namespace Sys2Proof.Machine

/-! ### Tables whose entries are changed in place -/

/-- A change of what the keys hold, key by key. -/
theorem mfind_map {α : Type} {g : Nat × α → Nat × α} (hg : ∀ e, (g e).1 = e.1) (m : SMap α) (k : Nat) :
    mfind (m.map g) k = (mfind m k).map fun v => (g (k, v)).2 := by
  induction m with
  | nil => rfl
  | cons e t ih =>
    obtain ⟨a, v⟩ := e
    rw [List.map_cons, ← Prod.eta (g (a, v)), hg, mfind, mfind]
    by_cases h : a = k
    · rw [if_pos h, if_pos h, h]; rfl
    · rw [if_neg h, if_neg h, ih]

theorem mfind_of_mhas {α : Type} (d : α) {m : SMap α} {k : Nat} (h : mhas m k = true) : mfind m k = some (mget d m k) := by
  rw [mhas_eq] at h
  obtain ⟨v, hv⟩ := Option.isSome_iff_exists.mp h
  rw [mget_eq, hv, Option.getD_some]

/-- The job in hand is changed alone. -/
theorem State.job_modJob {s : State} {j : Nat} {q : LJob} (h : mfind s.loupe.jobs j = some q) (f : LJob → LJob) :
    mfind (s.modJob j f).loupe.jobs j = some (f q) := by
  refine (mfind_map (fun e => ?_) _ _).trans (by rw [h]; simp)
  split <;> rfl

theorem State.act_modAct {s : State} {id : Nat} {a : LAction} (h : mfind s.loupe.acts id = some a) (f : LAction → LAction) :
    mfind (s.modAct id f).loupe.acts id = some (f a) := by
  refine (mfind_map (fun e => ?_) _ _).trans (by rw [h]; simp)
  split <;> rfl

/-! ### A job's step ends (R137, R138) -/

/-- A step's records are of its responses, in order. -/
theorem LJob.addRecs_recs (q : LJob) (rs : List RespFacts) (invalid : Bool) : ∃ l, (q.addRecs rs invalid).recs = q.recs ++ l ∧
    l.map (fun r => (r.step, r.feed, r.input)) = (q.pairs q.step).map fun e => (q.step, e.1, e.2) := by
  refine ⟨_, rfl, ?_⟩
  rw [List.map_map]
  conv_rhs => rw [← List.zipIdx_map_fst 0 (q.pairs q.step), List.map_map]
  rfl

theorem State.foldl_memWrite {β : Type} (a : β → Nat) (bs : β → List Byte) (l : List β) (s : State) :
    l.foldl (fun s e => s.memWrite (a e) (bs e)) s = { s with mem := (l.foldl (fun s e => s.memWrite (a e) (bs e)) s).mem } := by
  induction l generalizing s with
  | nil => rfl
  | cons e l ih => rw [List.foldl_cons, ih]; rfl

/-- What the end of a step writes to memory moves neither Loupe nor the delta. -/
theorem exec_jobStepComplete {s : State} {j : Nat} {q : LJob} (hs : s.standby = false) (hj : s.loupe.job = some j)
    (hq : mfind s.loupe.jobs j = some q) (hg : q.going = true) (hn : q.stimLen s.fs ≤ 16 * (s.render.n - q.start)) :
    ∃ (t : State) (rs : List RespFacts), exec (.jobStepComplete q.step) s =
      .next ((t.modJob j fun q => { q.addRecs rs false with going := false }).enter (.loupe (.jobStep j (q.step + 1) false))) ∧
      t.loupe = s.loupe ∧ t.delta = s.delta := by
  show ∃ t rs, execJobStepComplete q.step s = _ ∧ _
  have hgoes : (!q.going || decide (q.step ≠ q.step) || decide (16 * (s.render.n - q.start) < q.stimLen s.fs)) = false := by
    simp [hg, hn]
  simp only [execJobStepComplete, hj, hq, hs, hgoes, Option.bind_some, Option.map_some, Bool.false_eq_true, if_false]
  refine ⟨_, _, rfl, ?_⟩
  rw [State.foldl_memWrite]
  exact ⟨rfl, rfl⟩

/-! ### What a decision about a feed leaves alone -/

/-- What the audit record shows of a feed's last result. -/
structure Shown where
  verdict : Nat
  lastAt : Option Nat
  best : Option Nat
  arrival : Int
  snr : Int
  quiet : Bool
  weak : Bool

def LFeed.shown (q : LFeed) : Shown :=
  { verdict := q.verdict, lastAt := q.lastAt, best := q.best, arrival := q.arrival, snr := q.snr, quiet := q.quiet, weak := q.weak }

/-- The time, the probe slots and what feed `f`'s record shows are as they were. -/
structure Settled (f : Nat) (s t : State) : Prop where
  now : t.nowNs = s.nowNs
  slots : t.loupe.slots = s.loupe.slots
  shown : (t.lf f).shown = (s.lf f).shown

theorem State.nowNs_event (s : State) (code : Nat) (payload : List Byte) : (s.event code payload).nowNs = s.nowNs := by
  have hr := fun a (ha : a < aPcie) => s.reg_event code payload ha
  have hloaded : (s.event code payload).loaded = s.loaded := by rw [State.loaded, hr _ (by decide), State.loaded]
  have hfrc : ∀ n, (s.event code payload).frcNs n = s.frcNs n := fun n => by
    rw [State.frcNs, State.reg64, hr _ (by decide), hr _ (by decide), hr _ (by decide), State.frcNs, State.reg64]
  rw [State.nowNs, hloaded, hfrc, State.lNs, s.event_time, State.nowNs, State.lNs]

theorem State.lf_congr {s t : State} (h : t.loupe.feeds = s.loupe.feeds) (f : Nat) : t.lf f = s.lf f := by rw [State.lf, h, State.lf]

theorem State.lf_event (s : State) (code : Nat) (payload : List Byte) (f : Nat) : (s.event code payload).lf f = s.lf f :=
  State.lf_congr (congrArg Loupe.feeds (s.event_loupe ..)) f

namespace Settled
variable {f : Nat} {s0 s t : State}

theorem refl (s : State) : Settled f s s := ⟨rfl, rfl, rfl⟩
theorem trans (h : Settled f s0 s) (k : Settled f s t) : Settled f s0 t :=
  ⟨k.now.trans h.now, k.slots.trans h.slots, k.shown.trans h.shown⟩

theorem ite {c : Prop} [Decidable c] (hs : Settled f s0 s) (ht : Settled f s0 t) : Settled f s0 (if c then s else t) := by
  split <;> assumption

theorem foldl {β : Type} {g : State → β → State} (hg : ∀ t b, Settled f t (g t b)) (l : List β) (s : State) :
    Settled f s (l.foldl g s) := by
  induction l generalizing s with
  | nil => exact .refl s
  | cons b l ih => exact (hg s b).trans (ih _)

/-- Two states that agree, after changes of feed `k` that agree. -/
theorem modLf_both (h : Settled f s t) (k : Nat) {g g' : LFeed → LFeed} (e : ∀ q r, r.shown = q.shown → (g' r).shown = (g q).shown) :
    Settled f (s.modLf k g) (t.modLf k g') := by
  refine ⟨h.now, h.slots, ?_⟩
  by_cases hk : f = k
  · subst hk
    rw [State.lf_modLf_self, State.lf_modLf_self, e _ _ h.shown]
  · rw [State.lf_modLf_ne _ _ hk, State.lf_modLf_ne _ _ hk, h.shown]

/-- Two states that agree still do once feed `k` has one verdict in both. -/
theorem withVerdict (h : Settled f s t) (k v : Nat) :
    Settled f (s.modLf k fun q => { q with verdict := v }) (t.modLf k fun q => { q with verdict := v }) :=
  h.modLf_both k fun _ _ e => congrArg (fun x : Shown => { x with verdict := v }) e

theorem modLf (s : State) (k : Nat) {g : LFeed → LFeed} (e : ∀ q, (g q).shown = q.shown) : Settled f s (s.modLf k g) := by
  refine ⟨rfl, rfl, ?_⟩
  by_cases hk : f = k
  · subst hk
    rw [State.lf_modLf_self, e]
  · rw [State.lf_modLf_ne _ _ hk]

theorem enter (s : State) (e : Entry) : Settled f s (s.enter e) := ⟨rfl, rfl, rfl⟩
theorem event (s : State) (code : Nat) (payload : List Byte) : Settled f s (s.event code payload) :=
  ⟨s.nowNs_event _ _, by rw [s.event_loupe], by rw [s.lf_event]⟩
theorem modLz (s : State) (z : Nat) (g : LZone → LZone) : Settled f s (s.modLz z g) := ⟨rfl, rfl, rfl⟩
theorem modAct (s : State) (id : Nat) (g : LAction → LAction) : Settled f s (s.modAct id g) := ⟨rfl, rfl, rfl⟩
theorem delAct (s : State) (id : Nat) : Settled f s (s.delAct id) := ⟨rfl, rfl, rfl⟩

theorem noteVerdict (s : State) (k : Nat) (old : LFeed) : Settled f s (s.noteVerdict k old) :=
  .ite (.refl s) ((Settled.event ..).trans (.enter ..))

theorem takeAct (s : State) (id : Nat) : Settled f s (s.takeAct id) := by
  unfold State.takeAct
  split
  · exact .refl s
  · extract_lets z recent lost taken
    have hl : Settled f s lost := (Settled.delAct s id).trans (.modLf _ _ fun _ => rfl)
    have ht : Settled f s taken := .ite (.modLz ..) (.refl s)
    exact .ite (((hl.trans (.noteVerdict ..)).trans (.enter ..)).trans (.event ..)) ((ht.trans (.modAct ..)).trans (.enter ..))

theorem createAct (s : State) (k kind : Nat) (target : Int) : Settled f s (s.createAct k kind target) := by
  unfold State.createAct
  extract_lets id due _ s1 s2
  have h1 : Settled f s s1 := ⟨rfl, rfl, rfl⟩
  have h2 : Settled f s s2 := (h1.trans (.enter ..)).trans (.event ..)
  exact .ite (h2.trans (.takeAct ..)) h2

theorem cancelAct (s : State) (id cause : Nat) : Settled f s (s.cancelAct id cause) := by
  unfold State.cancelAct
  split
  · exact .refl s
  · exact .trans (.trans (.delAct ..) (.enter ..)) (.event ..)

theorem compensate (s : State) (k : Nat) (gain delay : Int) : Settled f s (s.compensate k gain delay) := by
  unfold State.compensate
  extract_lets drop s1
  have h1 : Settled f s s1 := .foldl (fun t id => (Settled.delAct t id).trans (.enter ..)) _ s
  exact .ite (.refl s) ((h1.trans (.createAct ..)).trans (.createAct ..))

theorem learn (s : State) (k : Nat) (refs : List MicRef) : Settled f s (s.learn k refs) := by
  unfold State.learn
  extract_lets s1
  have h1 : Settled f s s1 := .modLf _ _ fun _ => rfl
  exact (h1.trans (.event ..)).trans (.enter ..)

theorem mapFeeds (s : State) {g : Nat × LFeed → Nat × LFeed} (hg : ∀ e, (g e).1 = e.1) (e : ∀ e, (g e).2.shown = e.2.shown) :
    Settled f s { s with loupe := { s.loupe with feeds := s.loupe.feeds.map g } } := by
  refine ⟨rfl, rfl, ?_⟩
  simp only [State.lf, mget_eq, mfind_map hg]
  cases mfind s.loupe.feeds f with
  | none => rfl
  | some q => exact e (f, q)

theorem aimDrift (s : State) (z : Nat) : Settled f s (s.aimDrift z) := by
  refine .ite (.refl s) ?_
  split
  · exact .refl s
  · refine .mapFeeds s (fun e => ?_) (fun e => ?_) <;> dsimp only <;> split <;> rfl

theorem driftRatio (s : State) (z : Nat) (delta tau : Int) : Settled f s (s.driftRatio z delta tau) :=
  .ite (.refl s) (.ite (.modLz ..) (.trans (.trans (.modLz ..) (.aimDrift ..)) (.enter ..)))

/-- Of what a feed's record shows, a verdict changes the verdict alone. -/
theorem takeVerdict (s : State) (k v : Nat) (lev del : Int) :
    Settled f (s.modLf k fun q => { q with verdict := v }) (s.takeVerdict k v lev del) := by
  have hv : ∀ q r : LFeed, r.shown = q.shown → { r.shown with verdict := v } = { q.shown with verdict := v } := fun _ _ e => by rw [e]
  unfold State.takeVerdict
  extract_lets old layout z enters lost told cancelled judged noted
  split
  · next h3 =>
    subst h3
    have h1 : Settled f (s.modLf k fun q => { q with verdict := 3 }) lost := .modLf_both (.refl s) k hv
    have h2 := h1.trans (.noteVerdict lost k old)
    exact .ite (h2.trans (.createAct ..)) h2
  · have h1 : Settled f s cancelled := .foldl (fun t id => .cancelAct t id 1) _ s
    have h2 : Settled f (s.modLf k fun q => { q with verdict := v }) judged := h1.modLf_both k hv
    have h3 := h2.trans (.noteVerdict judged k old)
    exact .ite (h3.trans (.compensate ..)) (.ite (h3.trans (.compensate ..)) h3)

end Settled

/-! ### A conclusive result (R144 to R149, R154) -/

/-- Where peaks lay near an end, only the windows of the feed's next integration and the mark of it differ. -/
theorem State.lf_noteEdges (s : State) (f : Nat) (ms : List MicResult) :
    ∃ e c, (s.noteEdges f ms).lf f = { s.lf f with edge := e, centre := c } := by
  unfold State.noteEdges
  dsimp only
  split
  · exact ⟨_, _, rfl⟩
  · exact ⟨_, _, State.lf_modLf_self ..⟩

theorem Settled.noteEdges {f : Nat} (s : State) (k : Nat) (ms : List MicResult) : Settled f s (s.noteEdges k ms) :=
  .ite (.refl s) (.modLf _ _ fun _ => rfl)

/-- A result is recorded and the slot released; what is decided on the way changes of the record's part the verdict alone, which is
the one concluded unless the feed learns its reference. -/
theorem State.conclude_settles (s : State) (j f v : Nat) (b : MicResult) (ms : List MicResult) (weak : Bool) :
    ∃ (t : State) (w : Nat), s.conclude j f v b ms weak = t.endSlot j f ∧
      Settled f ((s.recordResult f b weak).modLf f fun q => { q with verdict := w }) t ∧
      ((s.lf f).learn = false → (s.lf f).refs ≠ [] → w = if v = 0 then (s.lf f).verdict else v) := by
  unfold State.conclude
  extract_lets q z strong shown s1 learns refs _ s2 t r u s3
  have h2 : Settled f s1 s2 := .ite ⟨rfl, rfl, rfl⟩ (.refl _)
  have taken : ∀ {x : State} (w : Nat) (lev del : Int), Settled f s2 x →
      Settled f (s1.modLf f fun q => { q with verdict := w }) (x.takeVerdict f w lev del) := fun w _ _ hx =>
    ((h2.trans hx).withVerdict f w).trans (.takeVerdict ..)
  by_cases hl : learns = true
  · have hno : ¬ (q.learn = false ∧ q.refs ≠ []) := by
      rintro ⟨h, hr⟩
      simp [learns, h, hr] at hl
    have e3 : s3 = t.takeVerdict f (if v = 3 then 3 else 1) 0 0 := (if_pos hl).trans (by split <;> rfl)
    exact ⟨s3, _, rfl, e3 ▸ taken _ 0 0 (.learn s2 f refs), fun h hr => absurd ⟨h, hr⟩ hno⟩
  · have e3 : s3 = if v = 0 then s2 else u.takeVerdict f v r.lev r.delDev := if_neg hl
    by_cases h0 : v = 0
    · refine ⟨s3, q.verdict, rfl, ?_, fun _ _ => (if_pos h0).symm⟩
      rw [e3, if_pos h0]
      refine ⟨h2.now, h2.slots, h2.shown.trans ?_⟩
      simp [s1, q, State.recordResult, LFeed.shown]
    · refine ⟨s3, v, rfl, ?_, fun _ _ => (if_neg h0).symm⟩
      have hu : Settled f s2 u := by
        unfold u
        split
        · exact .ite (.refl _) (.driftRatio ..)
        · exact .refl _
      rw [e3, if_neg h0]
      exact taken v _ _ hu

/-- What a concluded result shows. -/
theorem State.conclude_shows (s : State) (j f v : Nat) (b : MicResult) (ms : List MicResult) (weak : Bool) :
    ∃ (t : State) (w : Nat), s.conclude j f v b ms weak = t.endSlot j f ∧ t.nowNs = s.nowNs ∧ t.loupe.slots = s.loupe.slots ∧
      (t.lf f).shown = { verdict := w, lastAt := some s.nowNs, best := some b.mic.val, arrival := b.arrival, snr := b.snr
                         quiet := false, weak := weak } ∧
      ((s.lf f).learn = false → (s.lf f).refs ≠ [] → w = if v = 0 then (s.lf f).verdict else v) := by
  obtain ⟨t, w, e, ht, hw⟩ := s.conclude_settles j f v b ms weak
  refine ⟨t, w, e, ht.now, ht.slots, ht.shown.trans ?_, hw⟩
  simp [State.recordResult, LFeed.shown]

/-- The slot's release enters the delta last; its integration begins again now. A feed that keeps its slot is in LOST_CONFIRM. -/
theorem State.endSlot_releases {t : State} {j : Nat} {q : Slot} (hq : nth none t.loupe.slots j = some q) (f : Nat) :
    ∃ keep w, (t.endSlot j f).delta.entries.getLast? = some (.loupe (.release j keep)) ∧ (keep = true → ((t.endSlot j f).lf f).st = 3) ∧
      nth none (t.endSlot j f).loupe.slots j = some w ∧ w.feed = q.feed ∧ w.start = t.nowNs := by
  refine ⟨_, { q with start := t.nowNs, corr := newCorrs t q.feed }, List.getLast?_concat, fun hk => ?_, ?_, rfl, rfl⟩
  · obtain ⟨hst, -⟩ := Bool.and_eq_true_iff.mp hk
    exact beq_iff_eq.mp hst
  · have hj : j < t.loupe.slots.length := by
      by_contra h
      simp [nth, Nat.le_of_not_lt h] at hq
    refine (nth_modify_self _ _ _ _ hj).trans ?_
    rw [hq]
    rfl

/-- An integration of an audited feed that has lasted to `lim` is not skipped. -/
theorem slot_goes {s : State} {f : Fin 1024} {q : Slot} {lim : Nat} (hd : s.decides = true) (ha : audited s q.feed = true)
    (hf : q.feed = f.val) (ht : lim ≤ s.nowNs) :
    (decide (q.feed ≠ f.val) || !s.decides || !audited s q.feed || decide (s.nowNs < lim)) = false := by
  rw [hd, ha, decide_eq_false (not_not.mpr hf), decide_eq_false (not_lt.mpr ht)]
  rfl

theorem exec_conclusiveResult {s : State} {j : Fin 64} {f : Fin 1024} {q : Slot} {v : Nat} {b : MicResult}
    (hq : nth none s.loupe.slots j.val = some q) (hd : s.decides = true) (ha : audited s q.feed = true) (hf : q.feed = f.val)
    (ht : q.start + 1000000000 ≤ s.nowNs) (hj : judge s q.feed q.since (slotResults s q) = .verdict v b) :
    exec (.conclusiveResult j f) s = .next ((s.noteEdges q.feed (slotResults s q)).conclude j.val q.feed v b (slotResults s q) false) := by
  show execConclusiveResult j f s = _
  simp only [execConclusiveResult, hq, slot_goes hd ha hf ht, hj, Bool.false_eq_true, if_false]

/-! ### The maximum dwell (R146) -/

/-- What the record shows once an integration has ended at the maximum dwell. -/
def DwellShows (judged : Judged) (weak : Option MicResult) (old r : LFeed) : Prop :=
  (judged = .nothing → weak = none → r.quiet = true ∧ r.verdict = old.verdict) ∧
    (judged = .nothing → weak.isSome = true → r.weak = true) ∧ (∀ l, judged = .suspect l → r.micSuspect = true) ∧
    ∀ v b, judged = .verdict v b → r.best = some b.mic.val ∧ r.weak = (v == 1 && weak.isSome)

theorem exec_maximumDwell {s : State} {j : Fin 64} {f : Fin 1024} {q : Slot} (hq : nth none s.loupe.slots j.val = some q)
    (hd : s.decides = true) (ha : audited s q.feed = true) (hf : q.feed = f.val)
    (ht : q.start + (s.lz (s.feed q.feed).zone).dwell * 100000000 ≤ s.nowNs) :
    ∃ t : State, exec (.maximumDwell j f) s = .next (t.endSlot j.val q.feed) ∧ t.nowNs = s.nowNs ∧ t.loupe.slots = s.loupe.slots ∧
      DwellShows (judge s q.feed q.since (slotResults s q)) (bestOf (weakRow (s.lf q.feed) (slotResults s q))) (s.lf q.feed) (t.lf q.feed) := by
  show ∃ t : State, execMaximumDwell j f s = _ ∧ _
  simp only [execMaximumDwell, hq, slot_goes hd ha hf ht, Bool.false_eq_true, if_false]
  set ms := slotResults s q
  set s1 := s.noteEdges q.feed ms
  have h1 : Settled q.feed s s1 := .noteEdges s q.feed ms
  have concluded : ∀ (v : Nat) (b : MicResult) (weak : Bool), ∃ t : State, s1.conclude j.val q.feed v b ms weak = t.endSlot j.val q.feed ∧
      t.nowNs = s.nowNs ∧ t.loupe.slots = s.loupe.slots ∧ (t.lf q.feed).best = some b.mic.val ∧ (t.lf q.feed).weak = weak := by
    intro v b weak
    obtain ⟨t, w, e, hnow, hslots, hshown, -⟩ := s1.conclude_shows j.val q.feed v b ms weak
    exact ⟨t, e, hnow.trans h1.now, hslots.trans h1.slots, congrArg Shown.best hshown, congrArg Shown.weak hshown⟩
  cases judge s q.feed q.since ms with
  | verdict v b =>
    cases hw : decide (v = 1) && (bestOf (weakRow (s.lf q.feed) ms)).isSome with
    | true =>
      obtain ⟨t, e, hnow, hslots, hbest, hweak⟩ := concluded 2 b true
      refine ⟨t, by simp only [hw, if_true, e], hnow, hslots, nofun, nofun, nofun, ?_⟩
      rintro _ _ ⟨⟩
      exact ⟨hbest, hweak.trans hw.symm⟩
    | false =>
      obtain ⟨t, e, hnow, hslots, hbest, hweak⟩ := concluded v b false
      refine ⟨t, by simp only [hw, Bool.false_eq_true, if_false, e], hnow, hslots, nofun, nofun, nofun, ?_⟩
      rintro _ _ ⟨⟩
      exact ⟨hbest, hweak.trans hw.symm⟩
  | suspect l =>
    refine ⟨_, rfl, (State.nowNs_event ..).trans h1.now, ?_, nofun, nofun, fun _ _ => ?_, nofun⟩
    · rw [State.event_loupe]
      exact h1.slots
    · rw [State.lf_event, State.lf_modLf_self]
  | nothing =>
    cases hw : bestOf (weakRow (s.lf q.feed) ms) with
    | some b =>
      obtain ⟨t, e, hnow, hslots, -, hweak⟩ := concluded 2 b true
      exact ⟨t, by rw [← e], hnow, hslots, nofun, fun _ _ => hweak, nofun, nofun⟩
    | none =>
      refine ⟨_, rfl, h1.now, h1.slots, fun _ _ => ?_, nofun, nofun, nofun⟩
      rw [State.lf_modLf_self]
      exact ⟨rfl, congrArg Shown.verdict h1.shown⟩

/-! ### Actions and confirm timers that are due (R155, R156) -/

theorem exec_actionDueTime {s : State} {f : Fin 1024} {id : Nat} {a : LAction} (hd : s.decides = true)
    (ha : mfind s.loupe.acts id = some a) (he : a.entered = false) (ht : a.due ≤ s.nowNs) :
    exec (.actionDueTime f (some id)) s = .next (s.takeAct id) := by
  show execActionDueTime f (some id) s = _
  simp [execActionDueTime, hd, ha, he, ht]

theorem State.takeAct_of_comp {s : State} {id : Nat} {a : LAction} (ha : mfind s.loupe.acts id = some a) (hk : a.kind ≠ 2) :
    s.takeAct id = (s.modAct id fun q => { q with entered := true }).enter (.loupe (.action id)) := by
  simp [State.takeAct, ha, hk]

theorem Signals.loupe {s t : State} (h : Signals s t) : t.loupe = s.loupe := by rw [h]
theorem Signals.render {s t : State} (h : Signals s t) : t.render = s.render := by rw [h]

theorem State.noteVerdict_signals (s : State) (f : Nat) (old : LFeed) : Signals s (s.noteVerdict f old) :=
  .ite (.refl s) (State.enter_signals (State.event_signals (.refl s) _ _) _)

/-- A withdrawal beyond the zone's limit is cancelled, and its feed is LOST. -/
theorem State.takeAct_over_limit {s : State} {id : Nat} {a : LAction} (ha : mfind s.loupe.acts id = some a) (hk : a.kind = 2)
    (hl : (s.lz (s.feed a.feed).zone).wdLimit ≤
      ((s.lz (s.feed a.feed).zone).withdrawn.filter fun t => s.nowNs < t + 64000000000).length) :
    Signals ((s.delAct id).modLf a.feed fun q => { q with st := 4, confirmAt := none }) (s.takeAct id) ∧
      .loupe (.cancel id false) ∈ (s.takeAct id).delta.entries := by
  simp only [State.takeAct, ha]
  rw [if_pos ⟨hk, hl⟩, (Tells.event ..).delta]
  exact ⟨State.event_signals (State.enter_signals (State.noteVerdict_signals ..) _) _ _, by simp⟩

theorem exec_actionDueTime_confirm {s : State} {f : Fin 1024} {at' : Nat} (hd : s.decides = true) (hst : (s.lf f.val).st = 3)
    (hc : (s.lf f.val).confirmAt = some at') (ht : at' ≤ s.nowNs) (ha : ∀ e ∈ s.loupe.acts, e.2.feed ≠ f.val ∨ e.2.kind ≠ 2) :
    ∃ t, exec (.actionDueTime f none) s = .next t ∧
      t.loupe = (s.modLf f.val fun q => { q with st := 4, confirmAt := none }).loupe := by
  have hheld : (s.loupe.acts.any fun e => e.2.feed == f.val && e.2.kind == 2) = false := by
    simpa [imp_iff_not_or] using ha
  show ∃ t, execActionDueTime f none s = _ ∧ _
  simp only [execActionDueTime, hd, hst, hc, ht, hheld]
  exact ⟨_, rfl, (State.noteVerdict_signals ..).loupe⟩

/-! ### Totals move (R151, R152) -/

theorem toward_eq (x t : Int) : (x < t → toward x t = x + 1) ∧ (t < x → toward x t = x - 1) ∧ (x = t → toward x t = x) := by
  unfold toward
  refine ⟨fun h => if_pos h, fun h => ?_, fun h => ?_⟩
  · rw [if_neg (by omega), if_pos h]
  · rw [if_neg (by omega), if_neg (by omega)]

/-- A gain total moves toward its aim where no job holds its zone. -/
theorem exec_compStep (s : State) : ∃ feeds, exec .compStep s = .next { s with loupe := { s.loupe with feeds := feeds } } ∧
    ∀ f, mhas s.loupe.feeds f = true → s.zoneJob (s.feed f).zone = none →
      (mget {} feeds f).gain = toward (s.lf f).gain (gainAim s f).1 ∧ (mget {} feeds f).delay = (s.lf f).delay := by
  refine ⟨_, rfl, fun f hf hz => ?_⟩
  rw [mget_eq, mfind_map (fun e => by dsimp only; split <;> rfl), mfind_of_mhas {} hf]
  simp only [Option.map_some, Option.getD_some, hz, Option.isSome_none, Bool.false_eq_true, if_false]
  exact ⟨rfl, rfl⟩

/-- A feed whose delay total has just moved toward `a`. -/
def LFeed.stepped (q : LFeed) (a : Int) (now : Nat) : LFeed :=
  { q with delay := toward q.delay a, driftCur := toward q.driftCur q.driftTgt, stepAt := some now }

theorem exists_next_of_ite {c : Prop} [Decidable c] {a b : State} {P : State → Prop} (ha : P a) (hb : P b) :
    ∃ t, (if c then (.next a : Host.Outcome State Fault Refusal) else .next b) = .next t ∧ P t := by
  split
  · exact ⟨a, rfl, ha⟩
  · exact ⟨b, rfl, hb⟩

/-- The delay total moves; where drift moved it, an event may tell of it. -/
theorem exec_driftStep {s : State} {f : Fin 1024} (hd : (s.lf f.val).delay ≠ (delayAim s f.val).1) (hs : (s.lf f.val).stepAt = none)
    (hz : s.zoneJob (s.feed f.val).zone = none) :
    ∃ t, exec (.driftStep f) s = .next t ∧
      t.loupe.feeds = (s.modLf f.val fun q => q.stepped (delayAim s f.val).1 s.nowNs).loupe.feeds := by
  show ∃ t, execDriftStep f s = _ ∧ _
  simp only [execDriftStep, hs, hz, beq_eq_false_iff_ne.mpr hd, Option.isSome_none, Bool.or_false, Bool.false_eq_true, if_false]
  exact exists_next_of_ite (by rw [State.event_loupe]; rfl) rfl

/-- Settles O27: by what each decision enters, and by what the chain of a decision leaves of a feed's record. -/
theorem loupeDecisionsEnterTheDelta : Obligations.LoupeDecisionsEnterTheDelta := by
  unfold Obligations.LoupeDecisionsEnterTheDelta
  refine ⟨fun s j q hs hj hq _ hg hn => ?_, fun s j f q v b _ hq hd ha hf ht hv => ?_, fun s j f q _ hq hd ha hf ht => ?_,
    fun s f id a hd ha he ht hk => ?_, fun s f id a hd ha he ht hk hl => ?_, fun s f at' hd hst hc ht ha => ?_, fun s => ?_,
    fun s f hd hst hz => ?_⟩
  · obtain ⟨t, rs, e, hloupe, hdelta⟩ := exec_jobStepComplete hs hj hq hg hn
    obtain ⟨l, hl, hrecs⟩ := q.addRecs_recs rs false
    refine ⟨_, { q.addRecs rs false with going := false }, l, e, ?_, rfl, rfl, hl, hrecs, ?_⟩
    · exact State.job_modJob (hloupe ▸ hq) fun q => { q.addRecs rs false with going := false }
    · rw [State.enter_entries, ← hdelta]
      rfl
  · have hexec := exec_conclusiveResult hq hd ha hf ht hv
    rw [← hf]
    have h1 : Settled q.feed s (s.noteEdges q.feed (slotResults s q)) := .noteEdges ..
    obtain ⟨t, w, e, hnow, hslots, hshown, hw⟩ := State.conclude_shows (s.noteEdges q.feed (slotResults s q)) j.val q.feed v b
      (slotResults s q) false
    obtain ⟨keep, w', hlast, hkeep, hslot, hfeed, hstart⟩ := State.endSlot_releases (by rw [hslots, h1.slots, hq]) q.feed
    obtain ⟨_, _, hlf⟩ := s.lf_noteEdges q.feed (slotResults s q)
    rw [h1.now] at hnow hshown
    rw [hlf] at hw
    refine ⟨_, keep, w', hexec.trans (congrArg _ e), hlast, hkeep, hslot, hfeed, hstart.trans hnow, ?_⟩
    exact ⟨congrArg Shown.lastAt hshown, congrArg Shown.best hshown, congrArg Shown.arrival hshown, congrArg Shown.snr hshown,
      congrArg Shown.quiet hshown, congrArg Shown.weak hshown, fun hlearn hrefs => (congrArg Shown.verdict hshown).trans (hw hlearn hrefs)⟩
  · obtain ⟨t, e, hnow, hslots, hshows⟩ := exec_maximumDwell hq hd ha hf ht
    rw [← hf]
    obtain ⟨keep, w, hlast, hkeep, hslot, hfeed, hstart⟩ := State.endSlot_releases (by rw [hslots, hq]) q.feed
    exact ⟨_, keep, w, e, hlast, hkeep, hslot, hfeed, hstart.trans hnow, hshows⟩
  · refine ⟨_, exec_actionDueTime hd ha he ht, ?_⟩
    rw [State.takeAct_of_comp ha hk]
    exact ⟨rfl, State.act_modAct ha fun q => { q with entered := true }, rfl⟩
  · obtain ⟨hsig, hmem⟩ := State.takeAct_over_limit ha hk hl
    refine ⟨_, exec_actionDueTime hd ha he ht, ?_, ?_, ?_, hmem⟩
    · rw [State.lf_congr (congrArg Loupe.feeds hsig.loupe), State.lf_modLf_self]
    · rw [hsig.loupe]
      exact mfind_mdel_self ..
    · rw [State.feed, hsig.render]
      rfl
  · obtain ⟨t, e, hloupe⟩ := exec_actionDueTime_confirm hd hst hc ht ha
    have hlf := State.lf_congr (congrArg Loupe.feeds hloupe)
    refine ⟨t, e, ?_, ?_, fun g hg => ?_⟩
    · rw [hlf, State.lf_modLf_self]
    · rw [hlf, State.lf_modLf_self]
    · rw [hlf, State.lf_modLf_ne _ _ hg]
  · obtain ⟨feeds, e, hfeeds⟩ := exec_compStep s
    refine ⟨_, e, rfl, fun f hf hz => ?_⟩
    obtain ⟨hgain, hdelay⟩ := hfeeds f hf hz
    obtain ⟨hup, hdown, hstay⟩ := toward_eq (s.lf f).gain (gainAim s f).1
    exact ⟨fun h => hgain.trans (hup h), fun h => hgain.trans (hdown h), fun h => hgain.trans (hstay h), hdelay⟩
  · obtain ⟨t, e, hfeeds⟩ := exec_driftStep hd hst hz
    obtain ⟨hup, hdown, -⟩ := toward_eq (s.lf f.val).delay (delayAim s f.val).1
    have hlf := State.lf_congr hfeeds
    have hself : t.lf f.val = (s.lf f.val).stepped (delayAim s f.val).1 s.nowNs := (hlf _).trans (State.lf_modLf_self ..)
    refine ⟨t, e, ?_, ?_, ?_, fun g hg => (hlf g).trans (State.lf_modLf_ne _ _ hg)⟩
    · rw [hself]; rfl
    · rw [hself]; exact hup
    · rw [hself]; exact hdown

end Sys2Proof.Machine

namespace Sys2Proof.Machine

/-! ### Scalar and predicate slots (Table FACET-5) -/

/-- The low bits of a word, as a number. -/
theorem wbits_zero (w : Word) (n : Nat) : wbits w 0 n = w.toNat % 2 ^ n := by simp [wbits, bitsOf]

/-- Each arithmetic and logical row is a scalar slot of its fields and latency, whose number is the row's on legal fields. -/
theorem exec_scalarRow : ∀ r ∈ scalarRows, ∀ (i : Issue) (s : State), ∃ f,
    exec (r.slot i) s = .next (s.scalar2 i r.sat r.rnd r.lat f) ∧
    (legalR i { sat := r.sat, rnd := r.rnd } = true → f = r.val i) := by
  simp only [scalarRows, List.forall_mem_cons, List.not_mem_nil, false_imp_iff, implies_true, and_true]
  refine ⟨?add, ?sub, ?mul, ?mulh, ?and, ?or, ?xor, ?shl, ?shr, ?sra, ?min, ?max⟩
  case shl | shr => exact fun i s => ⟨_, rfl, fun _ => by simp only [wbits_zero, Nat.reducePow]⟩
  case sra => exact fun i s => ⟨_, rfl, fun hl => by simp only [wbits_zero, Nat.reducePow, rounded_eq _ (legal_rnd hl)]⟩
  case min => exact fun i s => ⟨_, rfl, fun _ => by simp only [min_def]⟩
  case max => exact fun i s => ⟨_, rfl, fun _ => by simp only [max_def]⟩
  all_goals exact fun i s => ⟨_, rfl, fun _ => rfl⟩

/-- A slot that issues, and whose body ends without a stop, leaves what its body gives. -/
theorem Issues.slotStep {s t : State} {i : Issue} (h : Issues s i) {ok : Bool} (hok : ok = true)
    {body : State → FacetCore → State × FacetCore × Nat} {c : FacetCore} (hb : body (s.fetched i) (s.core i.k.val) = (t, c, 0)) :
    s.slotStep i ok body = t.slotDone i c := by
  rw [slotStep_ok _ _ _ _ h hok (by rw [hb]), hb]

section
variable {s : State} {i : Issue} (h : Issues s i)
include h

/-- A scalar slot that issues sends its number. -/
theorem Issues.scalar2 {sat rnd : Bool} (hl : legalR i { sat := sat, rnd := rnd } = true) (lat : Nat) (f : Word → Word → Int) :
    s.scalar2 i sat rnd lat f = (s.fetched i).slotDone i
      (let c := s.core i.k.val
       let x := f (c.rS i.a) (c.rS i.b)
       if (c.rP i.pred).testBit 0 then c.sends 0 lat (.s i.d (BitVec.ofInt 32 (brought 32 i.sat x))) (i.sat && outside 32 x) else c) := by
  rw [State.scalar2, regSlot_ok _ _ _ _ h hl, sendS_eq]

theorem Issues.exec_addi : exec (.addi i) s = .next ((s.fetched i).slotDone i
    (let c := s.core i.k.val
     let x := (c.rS i.a).toInt + i.imm10
     if (c.rP i.pred).testBit 0 then c.sends 0 1 (.s i.d (BitVec.ofInt 32 (brought 32 i.sat x))) (i.sat && outside 32 x) else c)) := by
  show Host.Outcome.next (s.regSlot i _ _) = _
  rw [regSlot_ok _ _ _ _ h rfl, sendS_eq]

/-- A comparison that issues sends a predicate of all ones or zeros. -/
theorem Issues.scalarCmp (hl : legalR i { d := 8 } = true) (f : Word → Word → Bool) :
    s.scalarCmp i f = (s.fetched i).slotDone i
      (let c := s.core i.k.val
       if (c.rP i.pred).testBit 0 then c.send 0 1 (.p i.d (if f (c.rS i.a) (c.rS i.b) then 0xFFFF else 0) 0xFFFF) else c) :=
  regSlot_ok _ _ _ _ h hl

/-- A predicate operation that issues sends its bits. -/
theorem Issues.predOp {u : Uses} (hl : legalR i u = true) (f : FacetCore → Nat) :
    s.predOp i u f = (s.fetched i).slotDone i
      (let c := s.core i.k.val
       if (c.rP i.pred).testBit 0 then c.send 0 1 (.p i.d (f c) 0xFFFF) else c) :=
  regSlot_ok _ _ _ _ h hl

end

theorem exec_compareRow : ∀ r ∈ compareRows, ∀ (i : Issue) (s : State), exec (r.1 i) s = .next (s.scalarCmp i r.2) := by
  simp only [compareRows, List.forall_mem_cons, List.not_mem_nil, false_imp_iff, implies_true, and_true]
  have heq : (fun a b : Word => a == b) = fun a b => decide (a = b) := by funext a b; exact beq_eq_decide a b
  exact ⟨fun i s => congrArg (fun f => Host.Outcome.next (s.scalarCmp i f)) heq, fun _ _ => rfl, fun _ _ => rfl⟩

theorem exec_predicateRow : ∀ r ∈ predicateRows, ∀ (i : Issue) (s : State), exec (r.1 i) s = .next (s.predOp i r.2.1 (r.2.2 i)) := by
  simp only [predicateRows, List.forall_mem_cons, List.not_mem_nil, false_imp_iff, implies_true, and_true]
  refine ⟨fun _ _ => rfl, fun _ _ => rfl, fun i s => ?pnot, fun i s => ?pmov⟩
  case pnot => simp only [exec, execPnot, Nat.xor_comm 0xFFFF]
  case pmov => simp only [exec, execPmov, wbits_zero, Nat.reducePow]

/-- Settles O1: each row is a scalar slot, a comparison or a predicate operation, and what such a slot sends is its lemma. -/
theorem scalarAndPredicateSlots : Obligations.ScalarAndPredicateSlots := by
  refine ⟨⟨fun r hr i s h hl => ?_, fun i s h => h.exec_addi⟩, fun r hr i s h hl => ?_, fun r hr i s h hl => ?_⟩
  · obtain ⟨f, he, hf⟩ := exec_scalarRow r hr i s
    rw [he, hf hl, h.scalar2 hl]
  · rw [exec_compareRow r hr, h.scalarCmp hl]
  · rw [exec_predicateRow r hr, h.predOp hl]

/-! ### Moves and control (Table FACET-5, R164, R174, R175, R179) -/

/-- A word's high half replaced is the new half above the old low one. -/
theorem wput_high (w : Word) {v : Nat} (hv : v < 65536) : wput w 16 16 v = BitVec.ofNat 32 (v * 65536 + w.toNat % 65536) := by
  have hm : ~~~wmask 16 16 = BitVec.ofNat 32 (2 ^ 16 - 1) := by decide
  have hl : w &&& BitVec.ofNat 32 (2 ^ 16 - 1) = BitVec.ofNat 32 (w.toNat % 2 ^ 16) := by
    rw [← Nat.and_two_pow_sub_one_eq_mod, BitVec.ofNat_and, BitVec.ofNat_toNat, BitVec.setWidth_eq]
  have hs := Nat.shiftLeft_add_eq_or_of_lt (Nat.mod_lt w.toNat (show 2 ^ 16 > 0 by decide)) v
  rw [wput, wfield, hm, hl, Nat.mod_eq_of_lt (a := v) (b := 2 ^ 16) hv, ← BitVec.ofNat_or, Nat.or_comm,
    ← Nat.shiftLeft_eq, ← hs, Nat.shiftLeft_eq]

theorem imm16_lt (i : Issue) : i.imm16 < 65536 := Nat.mod_lt _ (by decide)

section
variable {s : State} {i : Issue} (h : Issues s i)
include h

theorem Issues.exec_nop (hf : i.f = 0) : exec (.nop i) s = .next ((s.fetched i).slotDone i (s.core i.k.val)) :=
  congrArg _ (regSlot_ok _ _ _ _ h (by simpa using hf))

/-- A long-form slot that issues sends its word. -/
theorem Issues.longS (f : FacetCore → Word) : s.longS i f = (s.fetched i).slotDone i
    (let c := s.core i.k.val
     if (c.rP i.lpred).testBit 0 then c.send 0 1 (.s i.ld (f c)) else c) := regSlot_ok _ _ _ _ h rfl

theorem Issues.exec_mfs (hl : legalR i { b := 0 } = true) : exec (.mfs i) s = .next ((s.fetched i).slotDone i
    (let c := s.core i.k.val
     if (c.rP i.pred).testBit 0 then c.send 0 1 (.s i.d (specialReg (s.fetched i) i.k.val c i.a)) else c)) :=
  congrArg _ (h.slotStep hl rfl)

end

/-- A word counted down is 0 where it was 1, clamped or not. -/
theorem brought_pred_eq_zero (b : Bool) (w : Word) : brought 32 b (w.toInt - 1) = 0 ↔ w = 1 := by
  have hw := w.isLt
  have h1 : w = 1 ↔ w.toNat = 1 := by rw [← BitVec.toNat_inj]; rfl
  rw [h1, BitVec.toInt_eq_toNat_cond]
  unfold brought
  cases b
  · simp only [Bool.false_eq_true, if_false]; split <;> omega
  · simp only [if_true]; split <;> omega

section
variable {s : State} {i : Issue} (h : Issues s i)
include h

theorem Issues.exec_bnz (hs : i.sat = false) (hd : i.d = 0) : exec (.bnz i) s = .next ((s.fetched i).slotDone i
    (let c := s.core i.k.val
     if (c.rP i.pred).testBit 0 ∧ c.rS i.a ≠ 0 then { c with branch := some (branchTo c i) } else c)) := by
  show Host.Outcome.next (s.regSlot i _ _) = _
  rw [regSlot_ok _ _ _ _ h (by simp [hs, hd])]
  simp only [FacetCore.on, Bool.and_eq_true, decide_eq_true_eq]

theorem Issues.exec_dbnz (hd : i.d = 0) : exec (.dbnz i) s = .next ((s.fetched i).slotDone i
    (let c := s.core i.k.val
     let x := (c.rS i.a).toInt - 1
     let c1 := c.sends 0 1 (.s i.a (BitVec.ofInt 32 (brought 32 i.sat x))) (i.sat && outside 32 x)
     if (c.rP i.pred).testBit 0 then (if c.rS i.a = 1 then c1 else { c1 with branch := some (branchTo c i) }) else c)) := by
  show Host.Outcome.next (s.regSlot i _ _) = _
  rw [regSlot_ok _ _ _ _ h (by simp [hd])]
  simp only [FacetCore.on, fit_eq 32 (.inl rfl), ne_eq, brought_pred_eq_zero, ite_not, FacetCore.sends, smp]

theorem Issues.exec_loop (hs : i.sat = false) (hd : i.d = 0) (hn : (s.core i.k.val).loop = none) :
    exec (.loop i) s = .next ((s.fetched i).slotDone i
      (let c := s.core i.k.val
       let len := i.bits 2 8 + 1
       if (c.rP i.pred).testBit 0 then
         if c.rS i.a = 0 then { c with skip := some (c.pc + 1 + len) }
         else { c with newLoop := some { start := c.pc + 1, len := len, count := (c.rS i.a).toNat, stages := i.bits 0 2 + 1 } }
       else c)) := by
  have hok : (!i.sat && decide (i.d = 0) && (s.core i.k.val).loop.isNone) = true := by simp [hs, hd, hn]
  have hz : (s.core i.k.val).rS i.a = 0 ↔ ((s.core i.k.val).rS i.a).toNat = 0 := by rw [← BitVec.toNat_inj]; rfl
  dsimp only
  split
  next hp =>
    have hon : ¬(!(s.core i.k.val).on i.pred) = true := by simp [FacetCore.on, hp]
    split
    next h0 => exact congrArg _ (h.slotStep hok ((if_neg hon).trans (if_pos (hz.mp h0))))
    next h0 => exact congrArg _ (h.slotStep hok ((if_neg hon).trans (if_neg (h0 ∘ hz.mpr))))
  next hp => exact congrArg _ (h.slotStep hok (if_pos (by simp [FacetCore.on, hp])))

end

/-- Settles O2: what each slot's body leaves, by its own lemma. -/
theorem moveAndControlSlots : Obligations.MoveAndControlSlots := by
  refine ⟨fun i s h => ⟨h.exec_nop, ?movi, ?movhi, h.exec_mfs, ?mts⟩,
    fun i s h => ⟨?jmp, ?call, ?ret, h.exec_bnz, h.exec_dbnz, h.exec_loop, ?endRun⟩⟩
  case movi => exact congrArg _ (h.longS _)
  case movhi =>
    refine congrArg _ ((h.longS _).trans ?_)
    dsimp only
    rw [wput_high _ (imm16_lt i)]
  case mts => exact fun hl => congrArg _ (regSlot_ok _ _ _ _ h hl)
  case jmp | call => exact fun hd hv => congrArg _ (regSlot_ok _ _ _ _ h (by simp [hd, hv]))
  case ret =>
    refine fun hl => congrArg _ ((regSlot_ok _ _ _ _ h hl).trans ?_)
    simp only [wbits_zero, Nat.reducePow, FacetCore.on]
  case endRun => exact fun hl => congrArg _ (regSlot_ok _ _ _ _ h hl)

/-! ### Lane slots (Table FACET-6) -/

/-- A vector result is its lanes' numbers, with one mark where any was clamped. -/
theorem sendV_eq (c : FacetCore) (i : Issue) (d lat : Nat) (f : Nat → Int) :
    c.sendV i d lat f = c.sends 1 lat (.v (physV c.carousel d) ((laneResults c i 32 f).1.map fun e => (e.1, BitVec.ofInt 32 e.2)))
      (laneResults c i 32 f).2 := by
  unfold FacetCore.sendV FacetCore.sends laneResults FacetCore.lanes
  simp only [fit_eq 32 (.inl rfl), List.map_map, List.any_map, Function.comp_def, smp, List.and_any_distrib_left]

/-- So is an accumulator result. -/
theorem sendA_eq (c : FacetCore) (i : Issue) (lat : Nat) (fwd : Bool) (f : Nat → Int) :
    c.sendA i lat fwd f = c.sends 1 lat (.a i.d (laneResults c i 72 f).1 fwd) (laneResults c i 72 f).2 := by
  unfold FacetCore.sendA FacetCore.sends laneResults FacetCore.lanes
  simp only [fit_eq 72 (.inr rfl), List.map_map, List.any_map, Function.comp_def, List.and_any_distrib_left]

theorem exec_vectorRow : ∀ r ∈ vectorRows, ∀ (i : Issue) (s : State), legalR i r.uses = true →
    exec (r.slot i) s = .next (s.vec2 i r.uses r.lat (r.val i)) := by
  simp only [vectorRows, List.forall_mem_cons, List.not_mem_nil, false_imp_iff, implies_true, and_true]
  refine ⟨?vadd, ?vsub, ?vneg, ?vabs, ?vmin, ?vmax, ?vand, ?vor, ?vxor, ?vshl, ?vsra, ?aext, ?vsplat, ?vperm, ?vsel, ?vmov⟩
  case vabs =>
    have habs : ∀ x : Int, (x.natAbs : Int) = if 0 ≤ x then x else -x := fun x => by split <;> omega
    exact fun i s _ => by simp only [exec, execVabs, habs]
  case vmin => exact fun i s _ => by simp only [exec, execVmin, min_def]
  case vmax => exact fun i s _ => by simp only [exec, execVmax, max_def]
  case vshl => exact fun i s _ => by simp only [exec, execVshl, wbits_zero, Nat.reducePow]
  case vsra => exact fun i s hl => by simp only [exec, execVsra, wbits_zero, Nat.reducePow, rounded_eq _ (legal_rnd hl)]
  case aext => exact fun i s hl => by simp only [exec, execAext, rounded_eq _ (legal_rnd hl), State.vec2]
  all_goals exact fun i s _ => rfl

/-- A slot of one cycle that writes an accumulator and uses no multiplier. -/
def State.accSlot (s : State) (i : Issue) (u : Uses) (lat : Nat) (f : FacetCore → Nat → Int) : State :=
  s.regSlot i (legalR i u) fun c => c.sendA i lat false (f c)

theorem exec_accumulatorRow : ∀ r ∈ accumulatorRows, ∀ (i : Issue) (s : State), legalR i r.uses = true →
    exec (r.slot i) s = .next (s.accSlot i r.uses r.lat (r.val i)) := by
  simp only [accumulatorRows, List.forall_mem_cons, List.not_mem_nil, false_imp_iff, implies_true, and_true]
  refine ⟨fun _ _ _ => rfl, fun _ _ _ => rfl, fun i s hl => ?_⟩
  simp only [exec, execAshr, rounded_eq _ (legal_rnd hl), State.accSlot]

theorem exec_laneCompareRow : ∀ r ∈ laneCompareRows, ∀ (i : Issue) (s : State), exec (r.1 i) s = .next (s.vecCmp i r.2) := by
  simp only [laneCompareRows, List.forall_mem_cons, List.not_mem_nil, false_imp_iff, implies_true, and_true]
  exact ⟨fun _ _ => rfl, fun _ _ => rfl, fun _ _ => rfl⟩

/-- The number whose bits below `k` are those that `b` gives. -/
theorem nsum_bits (b : Nat → Bool) (k : Nat) :
    (∀ n < k, (nsum ((List.range k).map fun n => if b n then 2 ^ n else 0)).testBit n = b n) ∧
      nsum ((List.range k).map fun n => if b n then 2 ^ n else 0) < 2 ^ k := by
  induction k with
  | zero => simp [nsum]
  | succ k ih =>
    obtain ⟨ihb, ihl⟩ := ih
    have hs : nsum ((List.range (k + 1)).map fun n => if b n then 2 ^ n else 0) =
        2 ^ k * (b k).toNat + nsum ((List.range k).map fun n => if b n then 2 ^ n else 0) := by
      rw [List.range_succ, List.map_append, nsum, List.foldl_append, ← nsum]
      cases hb : b k <;> simp [hb, Nat.add_comm]
    rw [hs]
    refine ⟨fun n hn => ?_, ?_⟩
    · rw [Nat.testBit_two_pow_mul_add _ ihl]
      split
      · exact ihb n ‹_›
      · obtain rfl : n = k := by omega
        cases b n <;> simp
    · rw [Nat.pow_succ]
      cases b k <;> simp <;> omega

/-- A bound of the least of a list is a bound of each. -/
theorem le_foldl_min {j : Nat} (l : List Nat) : ∀ {a : Nat}, j ≤ l.foldl min a ↔ j ≤ a ∧ ∀ x ∈ l, j ≤ x := by
  induction l with
  | nil => simp
  | cons x l ih => intro a; rw [List.foldl_cons, ih]; simp [and_assoc]

/-- A word has so many redundant sign bits as its number lies within powers of 2. -/
theorem le_signBits {x : Int} (hx : -(2 ^ 31) ≤ x ∧ x < 2 ^ 31) {j : Nat} (hj : j ≤ 31) :
    j ≤ signBits x ↔ -(2 ^ (31 - j)) ≤ x ∧ x < 2 ^ (31 - j) := by
  have key : ∀ m : Nat, m < 2 ^ 31 → (j ≤ 31 - Nat.log2 (2 * m + 1) ↔ m < 2 ^ (31 - j)) := fun m hm => by
    have hl : Nat.log2 (2 * m + 1) < 32 := (Nat.log2_lt (by omega)).mpr (by omega)
    have hp : 2 ^ (32 - j) = 2 * 2 ^ (31 - j) := by rw [← Nat.pow_succ']; congr 1; omega
    have hj' : Nat.log2 (2 * m + 1) < 32 - j ↔ 2 * m + 1 < 2 ^ (32 - j) := Nat.log2_lt (by omega)
    omega
  have hp : ((2 ^ (31 - j) : Nat) : Int) = 2 ^ (31 - j) := by push_cast; rfl
  have hpos : (0 : Int) < 2 ^ (31 - j) := by positivity
  rw [signBits]
  split
  · rw [key _ (by omega)]; omega
  · rw [key _ (by omega)]; omega

/-- A lane's number is that of a word. -/
theorem vI_bounds (c : FacetCore) (r n : Nat) : -(2 ^ 31) ≤ c.vI r n ∧ c.vI r n < 2 ^ 31 :=
  ⟨BitVec.le_toInt _, BitVec.toInt_lt⟩

/-- The least count of redundant sign bits of a vector's lanes. -/
def vnormOf (c : FacetCore) (r : Nat) : Nat := ((List.range 16).map fun n => signBits (c.vI r n)).foldl min 31

theorem le_vnormOf {c : FacetCore} {r j : Nat} (hj : j ≤ 31) :
    j ≤ vnormOf c r ↔ ∀ n < 16, -(2 ^ (31 - j)) ≤ c.vI r n ∧ c.vI r n < 2 ^ (31 - j) := by
  rw [vnormOf, le_foldl_min]
  simp [hj, le_signBits (vI_bounds c r _) hj]

section
variable {s : State} {i : Issue} (h : Issues s i)
include h

/-- A lane slot that issues sends its lanes' numbers. -/
theorem Issues.vec2 {u : Uses} (hl : legalR i u = true) (lat : Nat) (f : FacetCore → Nat → Int) :
    s.vec2 i u lat f = (s.fetched i).slotDone i
      (let c := s.core i.k.val
       let l := laneResults c i 32 (f c)
       c.sends 1 lat (.v (physV c.carousel i.d) (l.1.map fun e => (e.1, BitVec.ofInt 32 e.2))) l.2) := by
  rw [State.vec2, regSlot_ok _ _ _ _ h hl, sendV_eq]

theorem Issues.accSlot {u : Uses} (hl : legalR i u = true) (lat : Nat) (f : FacetCore → Nat → Int) :
    s.accSlot i u lat f = (s.fetched i).slotDone i
      (let c := s.core i.k.val
       let l := laneResults c i 72 (f c)
       c.sends 1 lat (.a i.d l.1 false) l.2) := by
  rw [State.accSlot, regSlot_ok _ _ _ _ h hl, sendA_eq]

/-- A comparison of lanes that issues sends a bit for each. -/
theorem Issues.vecCmp (hl : legalR i { d := 8 } = true) (f : Int → Int → Bool) :
    let c := s.core i.k.val
    ∃ bits, (∀ n < 16, bits.testBit n = f (c.vI i.a n) (c.vI i.b n)) ∧ bits < 65536 ∧
      s.vecCmp i f = (s.fetched i).slotDone i (c.send 1 1 (.p i.d bits (c.rP i.pred))) :=
  have hb := nsum_bits (fun n => f ((s.core i.k.val).vI i.a n) ((s.core i.k.val).vI i.b n)) 16
  ⟨_, hb.1, hb.2, regSlot_ok _ _ _ _ h hl⟩

theorem Issues.exec_vnorm (hl : legalR i { sat := true, b := 0 } = true) : exec (.vnorm i) s = .next ((s.fetched i).slotDone i
    (let c := s.core i.k.val
     if (c.rP i.pred).testBit 0 then c.send 1 2 (.s i.d (wordN (vnormOf c i.a))) else c)) := congrArg _ (regSlot_ok _ _ _ _ h hl)

theorem Issues.exec_vcrc (hl : legalR i {} = true) : exec (.vcrc i) s = .next ((s.fetched i).slotDone i
    (let c := s.core i.k.val
     if (c.rP i.pred).testBit 0 then
       c.send 1 4 (.s i.d (crc32cSeed (~~~(c.rS i.b)) ((c.rV i.a).flatMap fun w => leBytes 4 w.toNat)))
     else c)) := by
  simp only [List.flatMap_def]
  exact congrArg _ (regSlot_ok _ _ _ _ h hl)

end

/-- Settles O3: each row is a lane slot, an accumulator slot or a comparison of lanes, and what such a slot sends is its lemma. -/
theorem laneAndReductionSlots : Obligations.LaneAndReductionSlots := by
  refine ⟨⟨fun r hr i s h hl => ?_, fun r hr i s h hl => ?_⟩, fun r hr i s h hl => ?_, fun i s h =>
    ⟨fun hl => congrArg _ (regSlot_ok _ _ _ _ h hl), fun hl hp => ?_, fun hl hp => ?_, h.exec_vcrc⟩⟩
  · rw [exec_vectorRow r hr i s hl, h.vec2 hl]
  · rw [exec_accumulatorRow r hr i s hl, h.accSlot hl]
  · obtain ⟨bits, hb, hlt, he⟩ := h.vecCmp hl r.2
    exact ⟨bits, hb, hlt, by rw [exec_laneCompareRow r hr, he]⟩
  · have hm : vnormOf (s.core i.k.val) i.a ≤ 31 := ((le_foldl_min _).mp le_rfl).1
    refine ⟨vnormOf (s.core i.k.val) i.a, ?_, hm, (le_vnormOf hm).mp le_rfl, fun hlt => ?_⟩
    · rw [h.exec_vnorm hl]
      simp only [hp, if_true]
      rfl
    · have hn := (le_vnormOf (c := s.core i.k.val) (r := i.a) (j := vnormOf (s.core i.k.val) i.a + 1) (by omega)).not.mp (by omega)
      simp only [not_forall, not_and_or, not_le, not_lt] at hn
      obtain ⟨n, hn16, hn⟩ := hn
      rw [show 31 - (vnormOf (s.core i.k.val) i.a + 1) = 30 - vnormOf (s.core i.k.val) i.a by omega] at hn
      exact ⟨n, hn16, hn⟩
  · rw [h.exec_vnorm hl]
    simp only [hp, Bool.false_eq_true, if_false]

/-! ### Multiplier slots (Table FACET-6, R166, R167, R176) -/

theorem cmul_eq (c : FacetCore) (i : Issue) (conj : Bool) (n : Nat) :
    c.cmul i conj n = complexAt c i (if conj then -1 else 1) n := by
  unfold FacetCore.cmul complexAt
  rw [Nat.mul_comm 2 (n / 2)]
  cases conj <;> simp

theorem exec_multiplierRow : ∀ r ∈ multiplierRows, ∀ (i : Issue) (s : State), exec (r.row.slot i) s =
    .next (s.mulSlot i r.row.uses r.wide fun c => c.sendA i r.row.lat r.chained (r.row.val i c)) := by
  simp only [multiplierRows, List.forall_mem_cons, List.not_mem_nil, false_imp_iff, implies_true, and_true]
  refine ⟨fun _ _ => rfl, fun _ _ => rfl, fun _ _ => rfl, fun _ _ => rfl, fun i s => ?vcmpy, fun i s => ?vcmac, fun i s => ?vcmacj⟩
  case vcmpy => simp only [exec, execVcmpy, cmul_eq, Bool.false_eq_true, if_false]
  case vcmac => simp only [exec, execVcmac, cmul_eq, Bool.false_eq_true, if_false]
  case vcmacj => simp only [exec, execVcmacj, cmul_eq, if_true]

/-- A result on its way neither turns the register file nor changes which lanes are on. -/
theorem sends_carousel (c : FacetCore) (slot lat : Nat) (x : Land) (b : Bool) : (c.sends slot lat x b).carousel = c.carousel := by
  cases b <;> rfl

theorem laneResults_sends (c : FacetCore) (slot lat : Nat) (x : Land) (b : Bool) (i : Issue) (w : Nat) (f : Nat → Int) :
    laneResults (c.sends slot lat x b) i w f = laneResults c i w f := by cases b <;> rfl

section
variable {s : State} {i : Issue} (h : Issues s i) (hh : (s.core i.k.val).hot = false) (hr : i.residue = false)
include h hh hr

/-- A multiplier slot whose residues agree, after a bundle with no instruction of issue interval 2, leaves what its body gives. -/
theorem Issues.mulSlot {u : Uses} (hl : legalR i u = true) (wide : Bool) (body : FacetCore → FacetCore) :
    s.mulSlot i u wide body = (s.fetched i).slotDone i { body (s.core i.k.val) with wide := wide } :=
  h.slotStep (by simp [hl, hh]) (if_neg (by simp [hr]))

/-- A butterfly sends its sums and its differences. -/
theorem Issues.exec_vbfly (hl : legalR i { sat := true, rnd := true } = true) (hd : i.d % 2 = 0) :
    let c := s.core i.k.val
    let t := fun n => rounded i.rnd (c.vI i.b n * c.vI ((i.b + 1) % 32) n) 31
    let p := laneResults c i 32 fun n => c.vI i.a n + t n
    let q := laneResults c i 32 fun n => c.vI i.a n - t n
    let c1 := c.sends 1 4 (.v (physV c.carousel i.d) (p.1.map fun e => (e.1, BitVec.ofInt 32 e.2))) p.2
    exec (.vbfly i) s = .next ((s.fetched i).slotDone i
      { c1.sends 1 4 (.v (physV c.carousel (i.d + 1)) (q.1.map fun e => (e.1, BitVec.ofInt 32 e.2))) q.2 with wide := true }) := by
  intro c t p q c1
  have hv : ((c.sendV i i.d 4 fun n => c.vI i.a n + t n).sendV i (i.d + 1) 4 fun n => c.vI i.a n - t n) =
      c1.sends 1 4 (.v (physV c.carousel (i.d + 1)) (q.1.map fun e => (e.1, BitVec.ofInt 32 e.2))) q.2 := by
    rw [sendV_eq, sendV_eq, sends_carousel, laneResults_sends]
  show Host.Outcome.next (s.slotStep i _ _) = _
  rw [slotStep_ok _ _ _ _ h (by simp [hl, hd, hh]) (by simp [hr])]
  simp only [hr, Bool.false_eq_true, if_false, rounded_eq _ (legal_rnd hl)]
  exact congrArg (fun d : FacetCore => Host.Outcome.next ((s.fetched i).slotDone i { d with wide := true })) hv

end

/-- Settles O4: each row is a multiplier slot, and what one sends is its lemma; so with the butterfly. -/
theorem multiplierSlots : Obligations.MultiplierSlots := by
  refine ⟨fun r hr i s h hl hh hres => ?_, fun i s h hl hd hh hres => h.exec_vbfly hh hres hl hd⟩
  rw [exec_multiplierRow r hr, h.mulSlot hh hres hl]
  simp only [sendA_eq]

end Sys2Proof.Machine

namespace Sys2Proof.Machine

/-! ### Memory slots (Table FACET-7, R170, R172) -/

@[simp] theorem State.fetched_mem (s : State) (i : Issue) : (s.fetched i).mem = s.mem := by
  unfold State.fetched; split
  · exact State.count_mem ..
  · rfl

/-- States with the same memory hold the same bytes. -/
theorem State.memBytes_congr {s t : State} (h : t.mem = s.mem) (a n : Nat) : t.memBytes a n = s.memBytes a n := by
  rw [State.memBytes, h, State.memBytes]

/-- A load outside the destinations of GETs not yet waited for sees the memory. -/
theorem State.loadBytes_of_outside {s : State} {c : FacetCore} {a : Nat}
    (hx : ∀ x ∈ c.xfers, x.put = true ∨ a < x.localA ∨ x.localA + x.len ≤ a) (k n : Nat) :
    s.loadBytes k c a n = (s.memBytes (facetBase k + a) n, s) := by
  have hn : c.xfers.find? (fun x => !x.put && x.localA ≤ a && a < x.localA + x.len) = none := by
    refine List.find?_eq_none.mpr fun x hm => ?_
    have := hx x hm
    simp only [Bool.and_eq_true, Bool.not_eq_true', decide_eq_true_eq, not_and]
    rintro hp hl
    rw [hp.1] at this
    simp only [Bool.false_eq_true, false_or] at this
    omega
  simp only [State.loadBytes, hn]

theorem exec_loadRow : ∀ r ∈ loadRows, ∀ (i : Issue) (s : State),
    exec (r.slot i) s = .next (s.loadSlot i r.size r.regs (r.land i)) := by
  simp only [loadRows, List.forall_mem_cons, List.not_mem_nil, false_imp_iff, implies_true, and_true]
  exact ⟨fun _ _ => rfl, fun _ _ => rfl, fun _ _ => rfl, fun _ _ => rfl⟩

theorem exec_storeRow : ∀ r ∈ storeRows, ∀ (i : Issue) (s : State),
    exec (r.slot i) s = .next (s.storeSlot i r.size r.regs r.lanes (r.bytes i)) := by
  simp only [storeRows, List.forall_mem_cons, List.not_mem_nil, false_imp_iff, implies_true, and_true]
  exact ⟨fun _ _ => rfl, fun _ _ => rfl, fun _ _ => rfl⟩

/-- A store's bytes do not depend on whether its bundle holds a store. -/
theorem storeRow_bytes : ∀ r ∈ storeRows, ∀ (i : Issue) (c : FacetCore), r.bytes i { c with stored := true } = r.bytes i c := by
  simp only [storeRows, List.forall_mem_cons, List.not_mem_nil, false_imp_iff, implies_true, and_true]
  exact ⟨fun _ _ => rfl, fun _ _ => rfl, fun _ _ => rfl⟩

/-- The fields of a memory slot are legal: its register exists, and a circular access moves its base. -/
theorem legalM {i : Issue} {regs : Nat} (hr : i.dr < regs) (hc : i.circ = true → i.upd = true) :
    (decide (i.dr < regs) && (i.upd || !i.circ)) = true := by
  cases hi : i.circ <;> simp_all

section
variable {s : State} {i : Issue} {size regs : Nat} (h : Issues s i) (hr : i.dr < regs) (hc : i.circ = true → i.upd = true)
include h hr hc

/-- A load that its predicate suppresses does nothing. -/
theorem Issues.loadSlot_off (f : FacetCore → List Byte → Land) (hp : ((s.core i.k.val).rP i.mPred).testBit 0 = false) :
    s.loadSlot i size regs f = (s.fetched i).slotDone i (s.core i.k.val) :=
  h.slotStep (legalM hr hc) (by simp [FacetCore.on, hp])

/-- A load that its predicate lets run sends the bytes of its address, and moves its base on an update. -/
theorem Issues.loadSlot_on (f : FacetCore → List Byte → Land) (hd : i.dmem ≠ .uncorrectable) :
    let c := s.core i.k.val
    let a := (memAddr c i size).1
    (c.rP i.mPred).testBit 0 = true → a % size = 0 → a + size ≤ 0x80000 →
    (∀ x ∈ c.xfers, x.put = true ∨ a < x.localA ∨ x.localA + x.len ≤ a) →
    let c1 := ({ c with used := c.used + 1 }).send i.mSlot 3 (f c (s.memBytes (facetBase i.k.val + a) size))
    let f1 := if i.dmem = .corrected then (s.fetched i).count (aFacetctl + 0x90) else s.fetched i
    s.loadSlot i size regs f = f1.slotDone i (if i.upd then c1.send i.mSlot 1 (.s i.base (memAddr c i size).2) else c1) := by
  intro c a hp ha hb hx c1 f1
  have hm : f1.mem = s.mem := by
    unfold f1; split <;> simp
  have hon : ¬(!c.on i.mPred) = true := by simp [FacetCore.on, hp]
  have hin : ¬(a % size ≠ 0 ∨ a + size > 0x80000) := by omega
  refine h.slotStep (legalM hr hc) ((if_neg hon).trans ((if_neg hin).trans ((if_neg hd).trans ?_)))
  have hb : f1.loadBytes i.k.val c a size = (s.memBytes (facetBase i.k.val + a) size, f1) := by
    rw [State.loadBytes_of_outside hx, State.memBytes_congr hm]
  exact congrArg (fun r : List Byte × State =>
    let c1 := ({ c with used := c.used + 1 }).send i.mSlot 3 (f c r.1)
    (r.2, if i.upd then c1.send i.mSlot 1 (.s i.base (memAddr c i size).2) else c1, 0)) hb

end

section
variable {s : State} {i : Issue} {size regs : Nat} (h : Issues s i) (hr : i.dr < regs) (hc : i.circ = true → i.upd = true)
  (hs : (s.core i.k.val).stored = false)
include h hr hc hs

/-- What a store leaves: its base moved where its predicate's bit 0 lets it, and its bytes held where any of its lanes stores. -/
theorem Issues.storeSlot (all : Bool) (f : FacetCore → List (Option Byte))
    (hf : f { s.core i.k.val with stored := true } = f (s.core i.k.val)) :
    let c := { s.core i.k.val with stored := true }
    let a := (memAddr c i size).1
    let on := (c.rP i.mPred).testBit 0
    let live := if all then c.rP i.mPred ≠ 0 else on = true
    let c1 := if i.upd && on then c.send i.mSlot 1 (.s i.base (memAddr c i size).2) else c
    (¬ live → s.storeSlot i size regs all f = (s.fetched i).slotDone i c1) ∧
    (live → a % size = 0 → a + size ≤ 0x80000 →
      s.storeSlot i size regs all f = (s.fetched i).slotDone i { c1 with used := c.used + 1, stores := [(a, f c)] }) := by
  intro c a on live c1
  have hok : (decide (i.dr < regs) && (i.upd || !i.circ) && !(s.core i.k.val).stored) = true := by rw [legalM hr hc, hs]; rfl
  have hin : a % size = 0 → a + size ≤ 0x80000 → ¬(a % size ≠ 0 ∨ a + size > 0x80000) := by omega
  refine ⟨fun hn => h.slotStep hok (if_pos ?_), fun hv ha hb => h.slotStep hok ((if_neg ?_).trans ((if_neg (hin ha hb)).trans ?_))⟩
  · exact (Bool.not_eq_true' _).mpr (decide_eq_false hn)
  · exact fun e => (of_decide_eq_false ((Bool.not_eq_true' _).mp e)) hv
  · exact congrArg (fun bs => (s.fetched i, { c1 with used := c.used + 1, stores := [(a, bs)] }, 0)) hf.symm

end

/-- Settles O5: each row is a load or a store, and what such a slot does is its lemma. -/
theorem loadAndStoreSlots : Obligations.LoadAndStoreSlots := by
  refine ⟨fun r hr i s h hd hc hu => ⟨fun hp => ?_, fun hp ha hb hx => ?_⟩,
    fun r hr i s h hd hc hs => ⟨fun hn => ?_, fun hv ha hb => ?_⟩⟩
  · rw [exec_loadRow r hr, h.loadSlot_off hd hc _ hp]
  · rw [exec_loadRow r hr, h.loadSlot_on hd hc _ hu hp ha hb hx]
  · rw [exec_storeRow r hr, (h.storeSlot hd hc hs _ _ (storeRow_bytes r hr i _)).1 hn]
  · rw [exec_storeRow r hr, (h.storeSlot hd hc hs _ _ (storeRow_bytes r hr i _)).2 hv ha hb]

end Sys2Proof.Machine

namespace Sys2Proof.Machine

/-! ### Results land (R167) -/

/-- Only registers that results land in differ: S, V, A and P registers, SATF and the circular buffers. -/
def Lands (c d : FacetCore) : Prop := d = { c with s := d.s, v := d.v, a := d.a, p := d.p, satf := d.satf, cb := d.cb }

namespace Lands
variable {c d e : FacetCore}

theorem refl (c : FacetCore) : Lands c c := rfl

theorem trans (h : Lands c d) (k : Lands d e) : Lands c e := by
  unfold Lands at *
  exact k.trans (by rw [h])

theorem land (c : FacetCore) (x : Land) : Lands c (c.land x) := by
  cases x with
  | s r w => rfl
  | v r ls => rfl
  | a r ls fwd => rfl
  | satf => rfl
  | p r bits mask =>
    show Lands c (ite _ _ _)
    split <;> rfl
  | sp i w =>
    show Lands c (ite _ _ _)
    split
    · rfl
    · split <;> rfl

theorem foldl (l : List (Nat × Nat × Land)) : ∀ c : FacetCore, Lands c (l.foldl (fun c e => c.land e.2.2) c) := by
  induction l with
  | nil => exact refl
  | cons e l ih => exact fun c => (land c e.2.2).trans (ih _)

theorem landDue (c : FacetCore) : Lands { c with flight := c.flight.filter fun e => e.1 > c.issued } c.landDue := foldl _ _

theorem drain (c : FacetCore) : Lands { c with flight := [] } c.drain := foldl _ _

end Lands

/-- A result for another register leaves an S register alone. -/
theorem rS_land_of_ne {c : FacetCore} {x : Land} {r : Nat} (h : ∀ w, x ≠ .s r w) : (c.land x).rS r = c.rS r := by
  cases x with
  | s q w => exact mget_mset_ne _ _ _ (by rintro rfl; exact h w rfl)
  | v | a | satf => rfl
  | p q bits mask =>
    show FacetCore.rS (ite _ _ _) r = _
    split <;> rfl
  | sp i w =>
    show FacetCore.rS (ite _ _ _) r = _
    split
    · rfl
    · split <;> rfl

theorem rS_foldl_land_of_ne {r : Nat} : ∀ (l : List (Nat × Nat × Land)) (c : FacetCore), (∀ e ∈ l, ∀ w, e.2.2 ≠ .s r w) →
    (l.foldl (fun c e => c.land e.2.2) c).rS r = c.rS r
  | [], _, _ => rfl
  | e :: l, c, h => (rS_foldl_land_of_ne l _ fun x hx => h x (by simp [hx])).trans (rS_land_of_ne (h e (by simp)))

/-- An S register for which no result is due stays. -/
theorem rS_landDue_of_ne {c : FacetCore} {r : Nat} (h : ∀ e ∈ c.flight, e.1 ≤ c.issued → ∀ w, e.2.2 ≠ .s r w) :
    c.landDue.rS r = c.rS r :=
  rS_foldl_land_of_ne _ _ fun e he => by
    obtain ⟨hm, hd⟩ := List.mem_filter.mp he
    exact h e hm (by simpa using hd)

/-- A result that is due lands. -/
theorem rS_landDue_of_single {c : FacetCore} {r slot : Nat} {w : Word} (h : c.flight = [(c.issued, slot, .s r w)]) :
    c.landDue.rS r = w := by
  have hf : c.flight.filter (fun e => e.1 ≤ c.issued) = [(c.issued, slot, .s r w)] := by simp [h]
  unfold FacetCore.landDue
  rw [hf]
  exact mget_mset_self _ _ _ _

theorem landDue_of_empty {c : FacetCore} (h : c.flight = []) : c.landDue = c := by
  cases c
  cases h
  rfl

/-! ### The next bundle (R174, R175) -/

/-- Only the next bundle's place differs: the program counter, the cycles, the loop with its predicates and the turn of the register
file. -/
def Moves (c d : FacetCore) : Prop := d = { c with p := d.p, loop := d.loop, pc := d.pc, cyc := d.cyc, carousel := d.carousel }

theorem Moves.advance (c : FacetCore) : Moves c c.advance := by
  unfold FacetCore.advance
  split
  · dsimp only; split <;> rfl
  · rfl
  · rfl
  · split
    · split
      · dsimp only; split <;> rfl
      · rfl
    · rfl

section
variable {c : FacetCore}

theorem advance_of_branch {t : Nat} (hb : c.branch = some t) :
    c.advance.pc = t % 4096 ∧ c.advance.cyc = c.cyc + 4 ∧ c.advance.loop = none := by
  unfold FacetCore.advance
  rw [hb]
  dsimp only
  refine ⟨rfl, rfl, ?_⟩
  split
  · rfl
  · rename_i hl; simpa using hl

theorem advance_of_skip {t : Nat} (hb : c.branch = none) (hn : c.newLoop = none) (hs : c.skip = some t) :
    c.advance = { c with pc := t % 4096, cyc := c.cyc + 1 } := by
  unfold FacetCore.advance
  rw [hb, hn, hs]

theorem advance_of_none (hb : c.branch = none) (hn : c.newLoop = none) (hs : c.skip = none) (hl : c.loop = none) :
    c.advance = { c with pc := (c.pc + 1) % 4096, cyc := c.cyc + 1 } := by
  unfold FacetCore.advance
  rw [hb, hn, hs, hl]

theorem advance_of_last {l : LoopSt} (hb : c.branch = none) (hn : c.newLoop = none) (hs : c.skip = none) (hl : c.loop = some l)
    (hp : c.pc = l.start + l.len - 1) : c.advance =
      if l.count + l.stages ≤ l.pass + 2 then
        ({ c with carousel := (c.carousel + 1) % 4, cyc := c.cyc + 1, loop := none, pc := (c.pc + 1) % 4096 }).setPreds noPreds
      else
        ({ c with carousel := (c.carousel + 1) % 4, cyc := c.cyc + 1, loop := some { l with pass := l.pass + 1 }, pc := l.start }).setPreds
          (loopPreds { l with pass := l.pass + 1 }) := by
  unfold FacetCore.advance
  rw [hb, hn, hs, hl]
  exact if_pos hp

end

/-- The stage predicates as they are set. -/
theorem rP_setPreds (c : FacetCore) (f : Nat → Nat) : ∀ g < 4,
    (c.setPreds ((List.range 4).map fun g => (4 + g, f g))).rP (4 + g) = f g := by
  intro g hg
  have hr : List.range 4 = [0, 1, 2, 3] := rfl
  rw [FacetCore.rP, if_neg (by omega), FacetCore.setPreds, hr]
  simp only [List.map_cons, List.map_nil, List.foldl_cons, List.foldl_nil]
  interval_cases g
  all_goals simp [mget_mset_ne]

theorem rP_loopPreds (c : FacetCore) (l : LoopSt) : ∀ g < 4, (c.setPreds (loopPreds l)).rP (4 + g) =
    if g < l.stages ∧ g ≤ l.pass ∧ l.pass + 1 ≤ g + l.count then 0xFFFF else 0 :=
  rP_setPreds c fun g => if g < l.stages ∧ g ≤ l.pass ∧ l.pass + 1 ≤ g + l.count then 0xFFFF else 0

theorem rP_noPreds (c : FacetCore) : ∀ g < 4, (c.setPreds noPreds).rP (4 + g) = 0 := rP_setPreds c fun _ => 0

/-! ### The end of a bundle (R165, R175) -/

/-- What the end of a bundle that is not stalled leaves of the registers, before a run that ends. -/
def FacetCore.ended (c : FacetCore) : FacetCore :=
  FacetCore.landDue { c.keep.advance.clearBundle with
    issued := c.issued + 1, hot := c.wide, full := if c.crowded then c.full + 1 else 0 }

theorem State.endBundle_eq {s : State} {k : Nat} (hh : (s.core k).hold = false) (he : (s.core k).ending = false) :
    s.endBundle k = (s.doStores k (s.core k).stores).setCore k (s.core k).ended := by
  unfold State.endBundle
  simp only [hh, he, Bool.false_eq_true, if_false]
  rfl

theorem ended_flight (c : FacetCore) : c.ended.flight = c.keep.flight.filter fun e => decide (c.issued + 1 < e.1) := by
  unfold FacetCore.ended
  rw [Lands.landDue]
  dsimp only [FacetCore.clearBundle]
  rw [Moves.advance]

/-- The registers that the end of a bundle fixes, and those that the next bundle's place gives. -/
theorem ended_spec (c : FacetCore) : c.ended.issued = c.issued + 1 ∧ c.ended.stores = [] ∧ c.ended.branch = none ∧ c.ended.made = [] ∧
    c.ended.xfers = c.xfers ++ c.newX.toList ∧ c.ended.newX = none ∧ c.ended.pc = c.keep.advance.pc ∧ c.ended.cyc = c.keep.advance.cyc ∧
    c.ended.loop = c.keep.advance.loop := by
  unfold FacetCore.ended
  rw [Lands.landDue]
  refine ⟨rfl, rfl, rfl, rfl, ?_, rfl, rfl, rfl, rfl⟩
  dsimp only [FacetCore.clearBundle]
  rw [Moves.advance]
  rfl

theorem ended_rS_of_ne {c : FacetCore} {r : Nat} (h : ∀ e ∈ c.keep.flight, e.1 ≤ c.issued + 1 → ∀ w, e.2.2 ≠ .s r w) :
    c.ended.rS r = c.rS r := by
  have hm : Moves c.keep c.keep.advance := .advance _
  have hf : c.keep.advance.flight = c.keep.flight := by rw [hm]
  have hs : c.keep.advance.s = c.s := by rw [hm]; rfl
  unfold FacetCore.ended
  rw [rS_landDue_of_ne]
  · exact congrArg (fun m => mget 0 m r) hs
  · exact fun e he => h e (hf ▸ he)

theorem ended_rS_of_single {c : FacetCore} {r : Nat} {w : Word} (h : c.keep.flight = [(c.issued + 1, 0, .s r w)]) : c.ended.rS r = w := by
  have hm : Moves c.keep c.keep.advance := .advance _
  have hf : c.keep.advance.flight = c.keep.flight := by rw [hm]
  exact rS_landDue_of_single (hf.trans h)

/-- With nothing in flight the end of a bundle moves on and no more. -/
theorem ended_of_empty {c : FacetCore} (hf : c.flight = []) (hm : c.made = []) : c.ended = { c.keep.advance.clearBundle with
    issued := c.issued + 1, hot := c.wide, full := if c.crowded then c.full + 1 else 0 } := by
  have hk : c.keep.flight = [] := by
    show c.made.foldl _ c.flight = []
    rw [hm, hf]
    rfl
  have ha : c.keep.advance.flight = c.keep.flight := by rw [Moves.advance c.keep]
  exact landDue_of_empty (ha.trans hk)

/-- Where a loop turns, the stage predicates are those of the next pass; where it ends they are zeros (R175). -/
theorem ended_of_last {c : FacetCore} {l : LoopSt} (hb : c.branch = none) (hn : c.newLoop = none) (hs : c.skip = none)
    (hf : c.flight = []) (hm : c.made = []) (hl : c.loop = some l) (hp : c.pc = l.start + l.len - 1) :
    c.ended.carousel = (c.carousel + 1) % 4 ∧
    (l.pass + 2 < l.count + l.stages → c.ended.loop = some { l with pass := l.pass + 1 } ∧ c.ended.pc = l.start ∧
      ∀ g < 4, c.ended.rP (4 + g) =
        if g < l.stages ∧ g ≤ l.pass + 1 ∧ l.pass + 1 ≤ g + l.count - 1 ∧ 0 < l.count then 0xFFFF else 0) ∧
    (l.count + l.stages ≤ l.pass + 2 → c.ended.loop = none ∧ c.ended.pc = (c.pc + 1) % 4096 ∧ ∀ g < 4, c.ended.rP (4 + g) = 0) := by
  have ha := advance_of_last (c := c.keep) hb hn hs hl hp
  rw [ended_of_empty hf hm, ha]
  refine ⟨?_, fun hlt => ?_, fun hle => ?_⟩
  · split <;> rfl
  · rw [if_neg (by omega)]
    refine ⟨rfl, rfl, fun g hg => (rP_loopPreds c { l with pass := l.pass + 1 } g hg).trans (if_congr ?_ rfl rfl)⟩
    dsimp only
    omega
  · rw [if_pos hle]
    exact ⟨rfl, rfl, rP_noPreds c⟩

/-- Settles O15: the end of a bundle is `FacetCore.ended`, whose parts the lemmas above give; a stalled bundle is cleared as it is. -/
theorem bundlesEnd : Obligations.BundlesEnd := by
  refine ⟨fun s k hh he => ?_, fun s k hh => ?_, fun s k l hh he hb hn hs hf hm hl hp => ?_⟩
  · obtain ⟨hi, hst, hbr, hmd, hx, hnx, hpc, hcy, hlo⟩ := ended_spec (s.core k)
    have ho : ∀ j, j ≠ k → (s.endBundle k).core j = s.core j := fun j hj => by
      rw [State.endBundle_eq hh he, State.core_setCore_ne _ _ hj]
      rfl
    rw [State.endBundle_eq hh he] at ho ⊢
    rw [State.core_setCore_self]
    refine ⟨hi, hst, hbr, hmd, hx, hnx, ended_flight _, fun t hb => ?_, fun t hb hn hs => ?_, fun hb hn hs hl => ?_,
      fun r hr => ended_rS_of_ne hr, fun r w hr => ended_rS_of_single hr, ho⟩
    · rw [hpc, hcy, hlo]
      exact advance_of_branch (c := (s.core k).keep) hb
    · rw [hpc, hcy, advance_of_skip (c := (s.core k).keep) hb hn hs]
      exact ⟨rfl, rfl⟩
    · rw [hpc, hcy, advance_of_none (c := (s.core k).keep) hb hn hs hl]
      exact ⟨rfl, rfl⟩
  · exact if_pos hh
  · rw [State.endBundle_eq hh he]
    dsimp only
    rw [State.core_setCore_self]
    exact ended_of_last hb hn hs hf hm hl hp

end Sys2Proof.Machine

namespace Sys2Proof.Machine

/-! ### Runs of user kernels (R179 to R184) -/

theorem exec_facetRunStart_kernel {s : State} {n : Nat} {q : Kernel} {j : Fin 64}
    (facts : RunFacts) (hr : s.render.run = true) (hf : s.fst j.val = 3)
    (hk : s.kernelOf j.val = some (n, q)) (hq : q.run = true) (hs : q.suspended = false) (hb : (s.reg (aFacet j.val)).getLsbD 16 = true) :
    exec (.facetRunStart j .kernel facts) s =
      .next ((s.startRun j.val).modKernel n fun q => { q with held := some (q.held.getD (kernelCells s q)) }) := by
  show execFacetRunStart j .kernel facts s = _
  simp [execFacetRunStart, hr, hf, State.kernelStart, hk, hq, hs, runsOn, wbit, hb]

/-- A run starts at the Facet's entry bundle (R179). -/
theorem State.core_startRun (s : State) (k : Nat) : ((s.startRun k).core k).run = true ∧
    ((s.startRun k).core k).pc = (s.reg (aFacet k)).toNat % 4096 ∧ ((s.startRun k).core k).blk = s.render.n + 2 ∧
    ((s.startRun k).core k).cyc = 0 ∧ ((s.startRun k).core k).carousel = 0 ∧ ∀ g < 4, ((s.startRun k).core k).rP (4 + g) = 0 := by
  unfold State.startRun
  dsimp only
  rw [State.core_setCore_self]
  exact ⟨rfl, wbits_zero _ _, rfl, rfl, rfl, rP_noPreds _⟩

/-- The kernel of a Facet in a table changed entry by entry, each on its Facet. -/
theorem find_kernel_map {g : Nat × Kernel → Nat × Kernel} (hg : ∀ e, (g e).2.facet = e.2.facet) (l : SMap Kernel) (k : Nat) :
    (l.map g).find? (fun e => e.2.facet == k) = (l.find? fun e => e.2.facet == k).map g := by
  rw [List.find?_map]
  congr 1
  exact congrArg (fun p => l.find? p) (funext fun e => by simp [hg])

/-- What a table with one entry for each key holds. -/
theorem mfind_of_mem {α : Type} {m : SMap α} {k : Nat} {v : α} (hn : (m.map (·.1)).Nodup) (h : (k, v) ∈ m) : mfind m k = some v := by
  induction m with
  | nil => cases h
  | cons e t ih =>
    obtain ⟨a, w⟩ := e
    rw [List.map_cons, List.nodup_cons] at hn
    rw [mfind]
    obtain he | ht := List.mem_cons.mp h
    · cases he
      exact if_pos rfl
    · have hne : a ≠ k := by
        rintro rfl
        exact hn.1 (List.mem_map.mpr ⟨_, ht, rfl⟩)
      rw [if_neg hne, ih hn.2 ht]

/-- What a run that its budget ends leaves of a kernel, but for its count of overruns. -/
def overranEntry (k : Nat) (e : Nat × Kernel) : Nat × Kernel := if e.2.facet = k then (e.1, { e.2 with held := none }) else e

theorem overranEntry_facet (k : Nat) (e : Nat × Kernel) : (overranEntry k e).2.facet = e.2.facet := by
  unfold overranEntry; split <;> rfl

theorem overranEntry_fst (k : Nat) (e : Nat × Kernel) : (overranEntry k e).1 = e.1 := by
  unfold overranEntry; split <;> rfl

theorem overranEntry_self (n : Nat) (q : Kernel) : overranEntry q.facet (n, q) = (n, { q with held := none }) := if_pos rfl

/-- What an overrun leaves of the Facet array (R180, R181). -/
theorem State.overrun_facets (s : State) (k : Nat) (dev : Bool) : (s.overrun k dev).facets = { s.facets with
    core := mset s.facets.core k { (s.core k).clearBundle.drain with run := false }
    used := mset s.facets.used k ((mget (0, 0) s.facets.live k).2, true)
    kernels := s.facets.kernels.map (overranEntry k)
    fault := mset s.facets.fault k (7, (s.core k).pc) } := by
  unfold State.overrun
  rw [State.report_facets]
  rfl

theorem State.overrun_mem (s : State) (k : Nat) (dev : Bool) : (s.overrun k dev).mem = s.mem := by
  unfold State.overrun
  rw [State.report_mem]
  rfl

/-- A change of kernel `n` alone. -/
theorem State.modKernel_kernels (s : State) (n : Nat) (f : Kernel → Kernel) :
    mfind (s.modKernel n f).facets.kernels n = (mfind s.facets.kernels n).map f := by
  refine (mfind_map (fun e => ?_) _ _).trans ?_
  · split <;> rfl
  · simp

theorem State.kernelOf_modKernel (s : State) (n k : Nat) (f : Kernel → Kernel) (hf : ∀ q, (f q).facet = q.facet) :
    (s.modKernel n f).kernelOf k = (s.kernelOf k).map fun e => if e.1 = n then (e.1, f e.2) else e :=
  find_kernel_map (fun e => by split <;> simp [hf]) _ _

/-- A suspension changes no kernel but the Facet's, which it marks (R177, R181). -/
theorem State.suspendKernel_facets {s : State} {k n : Nat} {q : Kernel} (h : s.kernelOf k = some (n, q)) (cause : Nat) :
    (s.suspendKernel k cause).facets = (s.modKernel n fun q => { q with suspended := true }).facets := by
  unfold State.suspendKernel
  rw [h]
  exact State.event_facets ..

/-- What an overrun of a user kernel leaves: the kernel counts it, and past its limit is suspended (R181). -/
theorem State.userOverrun_facets {s : State} {k n : Nat} {q : Kernel} (h : s.kernelOf k = some (n, q))
    (hn : mfind s.facets.kernels n = some q) :
    (s.userOverrun k).facets = { (s.overrun k false).facets with kernels := (s.userOverrun k).facets.kernels } ∧
    mfind (s.userOverrun k).facets.kernels n =
      some { q with held := none, ovr := q.ovr + 1, suspended := q.suspended || decide (q.limit < q.ovr + 1) } := by
  have hq : q.facet = k := by simpa using List.find?_some h
  have hw : ∀ ks, { ((s.overrun k false).count (aFacetctl + 0xA8)).facets with kernels := ks } =
      { (s.overrun k false).facets with kernels := ks } := fun _ => by rw [State.count_facets]
  have hk : ((s.overrun k false).count (aFacetctl + 0xA8)).kernelOf k = some (n, { q with held := none }) := by
    rw [State.kernelOf, State.count_facets, State.overrun_facets]
    refine (find_kernel_map (overranEntry_facet k) _ _).trans ?_
    rw [← State.kernelOf, h, ← hq, Option.map_some, overranEntry_self]
  have hm : mfind ((s.overrun k false).count (aFacetctl + 0xA8)).facets.kernels n = some { q with held := none } := by
    rw [State.count_facets, State.overrun_facets]
    refine (mfind_map (overranEntry_fst k) _ _).trans ?_
    rw [hn, ← hq, Option.map_some, overranEntry_self]
  unfold State.userOverrun
  dsimp only
  rw [hk]
  dsimp only
  split
  · rename_i hlt
    have hk' : (((s.overrun k false).count (aFacetctl + 0xA8)).modKernel n fun q => { q with ovr := q.ovr + 1 }).kernelOf k =
        some (n, { q with held := none, ovr := q.ovr + 1 }) := by
      rw [State.kernelOf_modKernel, hk]
      · exact congrArg some (if_pos rfl)
      · exact fun _ => rfl
    rw [State.suspendKernel_facets hk']
    refine ⟨hw _, (State.modKernel_kernels ..).trans ?_⟩
    rw [State.modKernel_kernels, hm]
    simp [hlt]
  · rename_i hle
    refine ⟨hw _, (State.modKernel_kernels ..).trans ?_⟩
    rw [hm]
    simp [hle]

theorem State.userOverrun_mem (s : State) (k : Nat) : (s.userOverrun k).mem = s.mem := by
  have h1 : ((s.overrun k false).count (aFacetctl + 0xA8)).mem = s.mem := (State.count_mem ..).trans (State.overrun_mem ..)
  unfold State.userOverrun
  dsimp only
  split
  · exact h1
  · split
    · exact (State.suspendKernel_mem ..).trans h1
    · exact h1

theorem exec_budgetExpiry_kernel {s : State} {k : Fin 64} (hf : s.fst k.val = 3) (hr : (s.core k.val).run = true) :
    exec (.budgetExpiry k) s = .next (s.userOverrun k.val) := by
  show execBudgetExpiry k s = _
  simp [execBudgetExpiry, hf, hr]

/-- Settles O18: a kernel's run starts by `State.startRun`, and its expired budget does what `State.userOverrun` says. -/
theorem kernelRunsStartAndExpire : Obligations.KernelRunsStartAndExpire := by
  refine ⟨fun s k facts n q hr hf hk hq hs hb => ?_, fun s k n q hf hr hk hn _ => ?_⟩
  · obtain ⟨hrun, hpc, hblk, hcyc, hcar, hp⟩ := s.core_startRun k.val
    exact ⟨_, exec_facetRunStart_kernel facts hr hf hk hq hs hb, hrun, hpc, hblk, hcyc, hcar, hp,
      fun j hj => State.core_setCore_ne _ _ hj, rfl⟩
  · obtain ⟨hfac, hks⟩ := State.userOverrun_facets hk (mfind_of_mem hn (List.mem_of_find?_eq_some hk))
    rw [State.overrun_facets] at hfac
    have hc : (s.userOverrun k.val).core k.val = { (s.core k.val).clearBundle.drain with run := false } := by
      rw [State.core, hfac]
      exact mget_mset_self ..
    refine ⟨_, exec_budgetExpiry_kernel hf hr, by rw [hc], by rw [hc], ?_, ?_, by rw [State.userOverrun_mem], ?_⟩
    · rw [hfac]; exact mget_mset_self ..
    · rw [hfac]; exact mget_mset_self ..
    · simp only [mget_eq, hks, Option.getD_some, and_self]

end Sys2Proof.Machine

namespace Sys2Proof.Machine

/-! ### Facets stop (R163, R166, R176, R177) -/

section
variable {s : State} {i : Issue} {ok : Bool} {body : State → FacetCore → State × FacetCore × Nat}

/-- A Facet with no run in hand issues nothing. -/
theorem State.slotStep_of_idle (h : (s.core i.k.val).run = false) : s.slotStep i ok body = s := by
  simp [State.slotStep, h]

variable (hr : (s.core i.k.val).run = true) (hh : (s.core i.k.val).hold = false)
include hr hh

/-- A bundle whose word cannot be read stops its Facet (R163). -/
theorem State.slotStep_of_unread (hp : i.pmem = .uncorrectable) : s.slotStep i ok body = s.facetStop i.k.val 3 := by
  simp [State.slotStep, hr, hh, hp]

/-- An illegal slot stops its Facet (R166). -/
theorem State.slotStep_of_illegal (hp : i.pmem ≠ .uncorrectable) (hok : ok = false) :
    s.slotStep i ok body = (s.fetched i).facetStop i.k.val 4 := by
  have hc := fetched_core s i i.k.val
  have e : (if i.pmem = .corrected then s.count (aFacetctl + 0x90) else s) = s.fetched i := rfl
  unfold State.slotStep
  simp only [e, hc, hr, hh, hp, hok]
  simp

end

/-- What a stop does after its record: a kernel may be suspended, and the Facet may be quarantined or noted for its replacement. -/
theorem State.facetFault_cases (s : State) (k cause flags addr : Nat) :
    let r := (s.faultNoted k cause).report (s.faultDet k cause flags addr)
    ∃ t, (t = r ∨ t = r.suspendKernel k cause) ∧ (s.facetFault k cause flags addr = t ∨
      s.facetFault k cause flags addr = t.quarantine k ∨
      s.facetFault k cause flags addr = { t with facets := { t.facets with stopped := mset t.facets.stopped k t.lNs } }) := by
  intro r
  by_cases h2 : s.fst k = 2
  · refine ⟨r, .inl rfl, ?_⟩
    have he : s.facetFault k cause flags addr = if mhas r.facets.stopped k then r else
        { r with facets := { r.facets with stopped := mset r.facets.stopped k r.lNs } } := if_pos h2
    rw [he]
    split
    · exact .inl rfl
    · exact .inr (.inr rfl)
  · have he : s.facetFault k cause flags addr = if cause ≤ 3 ∧ (s.fst k = 1 ∨ s.fst k = 3 ∨ s.fst k = 4) then
        (if s.fst k = 3 then r.suspendKernel k cause else r).quarantine k else if s.fst k = 3 then r.suspendKernel k cause else r := if_neg h2
    refine ⟨if s.fst k = 3 then r.suspendKernel k cause else r, ?_, ?_⟩
    · split
      · exact .inr rfl
      · exact .inl rfl
    · rw [he]
      split
      · exact .inr (.inl rfl)
      · exact .inl rfl

/-- A suspension changes the kernels alone. -/
theorem State.suspendKernel_eq (s : State) (k cause : Nat) :
    (s.suspendKernel k cause).facets = { s.facets with kernels := (s.suspendKernel k cause).facets.kernels } := by
  cases h : s.kernelOf k with
  | none => simp only [State.suspendKernel, h]
  | some e =>
    rw [State.suspendKernel_facets (n := e.1) (q := e.2) h]
    rfl

/-- A stop latches its cause and the bundle's index; what earlier bundles computed lands, and the run ends (R176). -/
theorem State.facetFault_facets (s : State) (k cause flags addr : Nat) :
    (s.facetFault k cause flags addr).facets.core = mset s.facets.core k { (s.core k).clearBundle.drain with run := false } ∧
    (s.facetFault k cause flags addr).facets.fault = mset s.facets.fault k (cause, (s.core k).pc) := by
  obtain ⟨t, ht, he⟩ := s.facetFault_cases k cause flags addr
  have hr : ((s.faultNoted k cause).report (s.faultDet k cause flags addr)).facets = (s.faultNoted k cause).facets := State.report_facets ..
  have htf : t.facets.core = (s.faultNoted k cause).facets.core ∧ t.facets.fault = (s.faultNoted k cause).facets.fault := by
    obtain rfl | rfl := ht
    · rw [hr]; exact ⟨rfl, rfl⟩
    · rw [State.suspendKernel_eq, hr]; exact ⟨rfl, rfl⟩
  obtain he | he | he := he <;> rw [he] <;> exact htf

theorem State.facetStop_spec (s : State) (k cause : Nat) : mget (0, 0) (s.facetStop k cause).facets.fault k = (cause, (s.core k).pc) ∧
    ((s.facetStop k cause).core k).s = (s.core k).clearBundle.drain.s ∧ ((s.facetStop k cause).core k).run = false := by
  obtain ⟨hc, hf⟩ := s.facetFault_facets k cause 0 0
  have hk : (s.facetStop k cause).core k = { (s.core k).clearBundle.drain with run := false } := by
    rw [State.core, State.facetStop, hc, mget_mset_self]
  exact ⟨by rw [State.facetStop, hf, mget_mset_self], by rw [hk], by rw [hk]⟩

/-- A reserved opcode stops its Facet (R166). -/
theorem State.issueSlot_of_reserved {s : State} {k : Fin 64} {n : Fin 4} {w : Word} (hd : decodeSlot k n w = none)
    (hr : (s.core k.val).run = true) : s.issueSlot k (n, w) = s.facetStop k.val 4 := by
  simp [State.issueSlot, hd, hr]

/-! ### States and roles of Facets (R178, R185, R186, R189) -/

theorem State.Shape.facet_lt {s : State} (h : s.Shape) (k : Fin 64) : k.val < s.facets.st.length := by
  obtain ⟨_, _, _, h, _⟩ := h
  omega

theorem State.fst_setFst_self {s : State} {k : Nat} (h : k < s.facets.st.length) (c : Nat) : (s.setFst k c).fst k = c :=
  nth_set_self _ _ _ _ h
theorem State.fst_setFst_ne (s : State) {j k : Nat} (c : Nat) (h : j ≠ k) : (s.setFst k c).fst j = s.fst j := nth_set_ne _ _ _ h

/-- The three writes of FACET_CTL_k are one. -/
theorem exec_facetCtl : ∀ mk ∈ [Instr.facetReset, Instr.facetWinLock, Instr.facetRunSet], ∀ (k : Fin 64) v (s : State),
    reservedWrite (aFacet k.val) v = false → exec (mk k v) s = .next (s.facetCtl k.val v) := by
  simp only [List.forall_mem_cons, List.not_mem_nil, false_imp_iff, implies_true, and_true]
  exact ⟨fun _ _ _ h => guarded_of_unreserved h _, fun _ _ _ h => guarded_of_unreserved h _, fun _ _ _ h => guarded_of_unreserved h _⟩

/-- What FACET_CTL_k.RESET leaves: the Facet's registers cleared, the Facet IDLE and the window unlocked. -/
theorem State.facetCtl_reset {s : State} {k : Nat} (hk : k < s.facets.st.length) {v : Word} (hv : v.getLsbD 17 = true) :
    (s.facetCtl k v).fst k = 1 ∧ (s.facetCtl k v).core k = {} ∧
    (∀ j, j ≠ k → (s.facetCtl k v).fst j = s.fst j ∧ (s.facetCtl k v).core j = s.core j) ∧
    ((s.facetCtl k v).reg (aFacet k)).getLsbD 18 = false := by
  have he : s.facetCtl k v =
      let s1 := (s.setReg (aFacet k) (v &&& 0x10FFF)).setFst k 1
      { s1 with facets := { s1.facets with core := mdel s1.facets.core k } } := if_pos hv
  have hcore : ∀ j, (s.facetCtl k v).core j = mget {} (mdel s.facets.core k) j := fun j => by rw [he]; rfl
  have hfst : ∀ j, (s.facetCtl k v).fst j = (s.setFst k 1).fst j := fun j => by rw [he]; rfl
  have hreg : (s.facetCtl k v).reg (aFacet k) = v &&& 0x10FFF := by
    rw [he]
    exact State.reg_setReg_self ..
  refine ⟨(hfst k).trans (State.fst_setFst_self hk 1), ?_, fun j hj => ⟨(hfst j).trans (State.fst_setFst_ne s 1 hj), ?_⟩,
    by rw [hreg]; simp⟩
  · rw [hcore, mget_eq, mfind_mdel_self]; rfl
  · rw [hcore, mget_eq, mfind_mdel_ne _ hj, ← mget_eq]; rfl

/-- Without RESET a write stores RUN and the entry, and LOCK stays once set. -/
theorem State.facetCtl_stored {s : State} {k : Nat} {v : Word} (hv : v.getLsbD 17 = false) :
    (s.facetCtl k v).facets = s.facets ∧
    ((s.facetCtl k v).reg (aFacet k)).getLsbD 16 = v.getLsbD 16 ∧
    (∀ b < 12, ((s.facetCtl k v).reg (aFacet k)).getLsbD b = v.getLsbD b) ∧
    ((s.facetCtl k v).reg (aFacet k)).getLsbD 18 = (v.getLsbD 18 || (s.reg (aFacet k)).getLsbD 18) ∧
    ∀ a, a ≠ aFacet k → (s.facetCtl k v).reg a = s.reg a := by
  have he : s.facetCtl k v = s.setReg (aFacet k) ((v &&& 0x10FFF) ||| ((s.reg (aFacet k) ||| v) &&& 0x40000)) :=
    if_neg (by rw [wbit, hv]; exact Bool.false_ne_true)
  rw [he, State.reg_setReg_self]
  refine ⟨rfl, by simp, fun b hb => ?_, by simp [Bool.or_comm], fun a ha => State.reg_setReg_ne _ _ ha⟩
  interval_cases b <;> simp

theorem exec_selftestComplete {s : State} {k : Fin 64} (h : s.fst k.val = 6) (pass : Bool) :
    exec (.selftestComplete k pass) s = .next (if pass then s.setFst k.val 4 else (s.setFst k.val 7).raise (aFacetctl + 4) 0x100) := by
  show execSelftestComplete k pass s = _
  cases pass <;> simp [execSelftestComplete, h]

/-! ### Replacement (R185, R188) -/

theorem mem_keys {α : Type} {m : SMap α} {i : Nat} : i ∈ keys m ↔ ∃ v, mfind m i = some v := by
  induction m with
  | nil => simp [keys, mfind]
  | cons e t ih =>
    obtain ⟨a, w⟩ := e
    rw [keys, List.map_cons, List.mem_cons, ← keys, mfind]
    by_cases h : a = i
    · simp [h]
    · rw [if_neg h, ← ih]
      simp [Ne.symm h]

theorem mem_replaceDue {s : State} {i : Nat} : i ∈ replaceDue s ↔ ∃ a, mfind s.facets.stopped i = some a ∧ a + 20000 ≤ s.lNs := by
  rw [replaceDue, List.mem_filter, mem_keys]
  refine ⟨fun ⟨⟨a, ha⟩, hd⟩ => ⟨a, ha, ?_⟩, fun ⟨a, ha, hd⟩ => ⟨⟨a, ha⟩, ?_⟩⟩
  · simpa [mget_eq, ha] using hd
  · simpa [mget_eq, ha] using hd

theorem lowest_eq_some {s : State} {c j : Nat} (hj : j < 64) (h : s.fst j = c) (hl : ∀ i < j, s.fst i ≠ c) : lowest s c = some j := by
  rw [lowest, List.find?_range_eq_some]
  exact ⟨by simpa using h, List.mem_range.mpr hj, fun i hi => by simpa using hl i hi⟩

/-- The lowest stopped render Facet whose time has come is replaced by the lowest spare. -/
theorem exec_spareReplacement {s : State} {k j : Fin 64} {at' : Nat} (w : Work) (hk : mfind s.facets.stopped k.val = some at')
    (hj : s.fst j.val = 4) (hl : ∀ i < j.val, s.fst i ≠ 4) (hd : at' + 20000 ≤ s.lNs)
    (ho : ∀ i < k.val, ∀ a, mfind s.facets.stopped i = some a → s.lNs < a + 20000) :
    exec (.spareReplacement k w) s = .next ((((s.retire k.val).toRender j.val).losesWork w).count (aFacetctl + 0x98)) := by
  have hm : k.val ∈ replaceDue s := mem_replaceDue.mpr ⟨_, hk, hd⟩
  have hn : ∀ i ∈ replaceDue s, ¬ i < k.val := fun i hi hlt => by
    obtain ⟨a, ha, hle⟩ := mem_replaceDue.mp hi
    have := ho i hlt a ha
    omega
  show execSpareReplacement k w s = _
  simp only [execSpareReplacement, lowest_eq_some j.isLt hj hl]
  refine if_neg ?_
  simpa [hm] using hn

/-- Updates of the render alone, one after another, change the render alone. -/
theorem foldl_render {β : Type} {f : State → β → State} (hf : ∀ s b, f s b = { s with render := (f s b).render }) (l : List β) :
    ∀ s : State, l.foldl f s = { s with render := (l.foldl f s).render } := by
  induction l with
  | nil => exact fun _ => rfl
  | cons b l ih =>
    intro s
    rw [List.foldl_cons, ih, hf]

/-- The work that a replaced Facet loses is of the render alone. -/
theorem State.losesWork_eq (s : State) (w : Work) : s.losesWork w = { s with render := (s.losesWork w).render } := by
  cases w with
  | kernel => rfl
  | objects os => exact foldl_render (fun _ _ => rfl) os s
  | matrix fs => rfl
  | chains fs => exact foldl_render (fun _ _ => rfl) fs s

/-- A retired Facet is in QUARANTINE or FAILED. -/
theorem State.fst_retire_self {s : State} {k : Nat} (hk : k < s.facets.st.length) : (s.retire k).fst k = 5 ∨ (s.retire k).fst k = 7 := by
  have he : ∃ c, (c = 5 ∨ c = 7) ∧ (s.retire k).facets.st = (s.facets.st.set k (s.fst k)).set k c := ⟨_, by split <;> simp, rfl⟩
  obtain ⟨c, hc, he⟩ := he
  rw [State.fst, he, nth_set_self _ _ _ _ (by simpa using hk)]
  exact hc

theorem State.fst_retire_ne (s : State) {k i : Nat} (h : i ≠ k) : (s.retire k).fst i = s.fst i := by
  have he : ∃ c, (s.retire k).facets.st = (s.facets.st.set k (s.fst k)).set k c := ⟨_, rfl⟩
  obtain ⟨c, he⟩ := he
  rw [State.fst, he, nth_set_ne _ _ _ h, nth_set_ne _ _ _ h]
  rfl

theorem State.core_retire_self (s : State) (k : Nat) : (s.retire k).core k = { (s.core k).clearBundle.drain with run := false } :=
  mget_mset_self ..

theorem State.retire_length (s : State) (k : Nat) : (s.retire k).facets.st.length = s.facets.st.length :=
  (List.length_set ..).trans (List.length_set ..)

/-- The Facets' registers stand apart. -/
theorem aFacet_ne {j k : Nat} (h : j ≠ k) : aFacet j ≠ aFacet k := by unfold aFacet; omega

/-! #### A Facet takes a render role -/

theorem State.reg_toRender_self (s : State) (k : Nat) : ((s.toRender k).reg (aFacet k)).getLsbD 16 = true := by
  refine (congrArg (fun w : Word => w.getLsbD 16) (State.reg_setReg_self ..)).trans ?_
  rw [BitVec.getLsbD_or, BitVec.getLsbD_or, show (0x10000 : Word).getLsbD 16 = true from rfl, Bool.or_true, Bool.true_or]

theorem State.reg_toRender_ne (s : State) {k a : Nat} (h : a ≠ aFacet k) : (s.toRender k).reg a = s.reg a :=
  State.reg_setReg_ne { s with freeCtr := s.freeCtr + 1 } _ h

theorem State.fst_toRender_self {s : State} {k : Nat} (h : k < s.facets.st.length) : (s.toRender k).fst k = 2 :=
  nth_set_self _ _ _ _ h

theorem State.fst_toRender_ne (s : State) {k i : Nat} (h : i ≠ k) : (s.toRender k).fst i = s.fst i := nth_set_ne _ _ _ h

theorem State.core_toRender (s : State) (k i : Nat) : (s.toRender k).core i = s.core i := rfl
theorem State.toRender_out (s : State) (k : Nat) : (s.toRender k).out = s.out := rfl
theorem State.toRender_mem (s : State) (k : Nat) : (s.toRender k).mem = s.mem := rfl

/-! #### A Facet is retired -/

/-- A retirement changes the Facet array, and FACET_CTL_k.RUN. -/
theorem State.retire_eq (s : State) (k : Nat) :
    s.retire k = { s with regs := (s.lower (aFacet k) 0x10000).regs, facets := (s.retire k).facets } := by
  unfold State.retire State.quarantine State.endRole
  rfl

theorem State.reg_retire (s : State) (k : Nat) : (s.retire k).reg = (s.lower (aFacet k) 0x10000).reg := by
  rw [State.retire_eq]
  exact reg_congr rfl

theorem State.reg_retire_self (s : State) (k : Nat) : ((s.retire k).reg (aFacet k)).getLsbD 16 = false := by
  rw [State.reg_retire, State.lower, State.reg_setReg_self]
  simp

theorem State.reg_retire_ne (s : State) {k a : Nat} (h : a ≠ aFacet k) : (s.retire k).reg a = s.reg a := by
  rw [State.reg_retire, State.lower, State.reg_setReg_ne _ _ h]

/-- What a replacement leaves: the spare renders, and the stopped Facet is retired (R185). -/
structure Replaced (k j : Nat) (s t : State) : Prop where
  spare : t.fst j = 2
  retired : t.fst k = 5 ∨ t.fst k = 7
  stopped : (t.core k).run = false
  runs : (t.reg (aFacet j)).getLsbD 16 = true
  noRuns : (t.reg (aFacet k)).getLsbD 16 = false
  others : ∀ i, i ≠ j → i ≠ k → t.fst i = s.fst i
  out : t.out = s.out
  mem : t.mem = s.mem
  regs : ∀ a, a ≠ aFacet j → a ≠ aFacet k → t.reg a = s.reg a

theorem Replaced.of_retire {s : State} {k j : Nat} (hk : k < s.facets.st.length) (hj : j < s.facets.st.length) (hne : j ≠ k) :
    Replaced k j s ((s.retire k).toRender j) where
  spare := State.fst_toRender_self ((s.retire_length k).symm ▸ hj)
  retired := by
    rw [State.fst_toRender_ne _ hne.symm]
    exact State.fst_retire_self hk
  stopped := by rw [State.core_toRender, State.core_retire_self]
  runs := State.reg_toRender_self ..
  noRuns := by
    rw [State.reg_toRender_ne _ (aFacet_ne hne.symm)]
    exact State.reg_retire_self ..
  others i hi hik := by rw [State.fst_toRender_ne _ hi, State.fst_retire_ne _ hik]
  out := by rw [State.toRender_out, State.retire_eq]
  mem := by rw [State.toRender_mem, State.retire_eq]
  regs a ha hak := by rw [State.reg_toRender_ne _ ha, State.reg_retire_ne _ hak]

/-- An update of the render and of counters changes nothing of it. -/
theorem Replaced.upd {k j : Nat} {s t u : State} (h : Replaced k j s t) (hf : u.facets = t.facets) (hr : u.regs = t.regs)
    (ho : u.out = t.out) (hm : u.mem = t.mem) : Replaced k j s u := by
  have hfst : u.fst = t.fst := by funext i; rw [State.fst, hf, State.fst]
  have hcore : u.core = t.core := by funext i; rw [State.core, hf, State.core]
  obtain ⟨h1, h2, h3, h4, h5, h6, h7, h8, h9⟩ := h
  constructor <;> simp only [hfst, hcore, reg_congr hr, ho, hm] <;> assumption

/-- Settles O16: stops by `State.facetStop_spec`, the writes of FACET_CTL_k by what each leaves, and roles by what a replacement
leaves. -/
theorem facetsStopAndChangeRoles : Obligations.FacetsStopAndChangeRoles := by
  refine ⟨fun r hr i s => ?_, fun s k n w hd hrun => ?_, fun mk hm k v s hs hv => ⟨fun h => ?_, fun h => ?_⟩, fun s k hs h6 => ?_,
    fun s k w at' j hs hk hj hl hne hd ho => ?_⟩
  · obtain ⟨f, he, -⟩ := exec_scalarRow r hr i s
    rw [he, State.scalar2, State.regSlot]
    refine ⟨fun h => congrArg _ (State.slotStep_of_idle h), fun h hh hp => ⟨_, congrArg _ (State.slotStep_of_unread h hh hp), ?_⟩,
      fun h hh hp hl => ⟨_, congrArg _ (State.slotStep_of_illegal h hh hp hl), ?_⟩⟩
    · exact s.facetStop_spec _ _
    · have := (s.fetched i).facetStop_spec i.k.val 4
      rwa [fetched_core] at this
  · obtain ⟨hf, -, hrun'⟩ := s.facetStop_spec k.val 4
    rw [State.issueSlot_of_reserved hd hrun]
    exact ⟨hf, hrun'⟩
  · exact ⟨_, exec_facetCtl mk hm k v s hv, State.facetCtl_reset (hs.facet_lt k) h⟩
  · exact ⟨_, exec_facetCtl mk hm k v s hv, State.facetCtl_stored h⟩
  · have hk := hs.facet_lt k
    exact ⟨⟨_, exec_selftestComplete h6 true, State.fst_setFst_self hk 4, fun j hj => State.fst_setFst_ne s 4 hj⟩,
      ⟨_, exec_selftestComplete h6 false, State.fst_setFst_self hk 7, fun j hj => State.fst_setFst_ne s 7 hj⟩⟩
  · have hjk : j.val ≠ k.val := fun e => hne (e ▸ hj)
    refine ⟨_, exec_spareReplacement w hk hj hl hd ho, ?_⟩
    have hr := Replaced.of_retire (hs.facet_lt k) (hs.facet_lt j) hjk
    have hw := State.losesWork_eq ((s.retire k.val).toRender j.val) w
    obtain ⟨h1, h2, h3, h4, h5, h6, h7, h8, h9⟩ := (hr.upd (u := ((s.retire k.val).toRender j.val).losesWork w) (by rw [hw]) (by rw [hw])
      (by rw [hw]) (by rw [hw])).upd (u := (State.losesWork _ w).count (aFacetctl + 0x98)) (State.count_facets ..) (State.count_regs ..)
      (State.count_out ..) (State.count_mem ..)
    exact ⟨h1, h2, h3, h4, h5, h6, h7, h8, h9⟩

end Sys2Proof.Machine

namespace Sys2Proof.Machine

/-! ### Girdle transfers (R171 to R173, R182) -/

@[simp] theorem State.fetched_regs (s : State) (i : Issue) : (s.fetched i).regs = s.regs := by
  unfold State.fetched; split
  · exact State.count_regs ..
  · rfl

/-- The windows of a Facet are what its registers say. -/
theorem State.inWin_congr {s t : State} (h : t.regs = s.regs) : t.inWin = s.inWin := by
  funext k o a n
  unfold State.inWin
  rw [reg_congr h]

theorem exec_girdleRow : ∀ r ∈ [(Instr.get, false), (Instr.put, true)], ∀ (i : Issue) (s : State),
    exec (r.1 i) s = .next (s.girdle i r.2) := by
  simp only [List.forall_mem_cons, List.not_mem_nil, false_imp_iff, implies_true, and_true]
  exact ⟨fun _ _ => rfl, fun _ _ => rfl⟩

section
variable {s : State} {i : Issue} (h : Issues s i) {put : Bool}
include h

/-- A transfer that its predicate suppresses starts nothing. -/
theorem Issues.girdle_off (hl : legalR i { mod := true } = true) (hp : ((s.core i.k.val).rP i.pred).testBit 0 = false) :
    s.girdle i put = (s.fetched i).slotDone i (s.core i.k.val) :=
  h.slotStep hl (if_pos (by simp [FacetCore.on, hp]))

variable (hl : legalR i { mod := true } = true) (hp : ((s.core i.k.val).rP i.pred).testBit 0 = true)
include hl hp

/-- A transfer whose tag is still outstanding stalls its bundle. -/
theorem Issues.girdle_busy (hb : ((s.core i.k.val).xfers.any fun x => x.tag == i.mod && !x.done) = true) :
    s.girdle i put = (s.fetched i).slotDone i { s.core i.k.val with hold := true } :=
  h.slotStep hl ((if_neg (by simp [FacetCore.on, hp])).trans (if_pos hb))

/-- A transfer of aligned, bounded spans inside the Facet's windows starts under its tag. -/
theorem Issues.girdle_starts (hb : ((s.core i.k.val).xfers.any fun x => x.tag == i.mod && !x.done) = false) :
    let c := s.core i.k.val
    let la := (c.rS i.a).toNat
    let ra := (c.rS i.b).toNat
    let n := (c.rS i.d).toNat
    la % 64 = 0 → ra % 64 = 0 → n % 64 = 0 → 64 ≤ n → n ≤ 65536 → la + n ≤ 0x80000 →
    (s.inWin i.k.val 0x18 ra n = true ∨ (put = false ∧ s.inWin i.k.val 0x20 ra n = true)) →
    s.girdle i put = (s.fetched i).slotDone i { c with
      gdone := c.gdone &&& (0xFF ^^^ 2 ^ i.mod), gerr := c.gerr &&& (0xFF ^^^ 2 ^ i.mod)
      xfers := c.xfers.filter fun y => y.tag ≠ i.mod
      newX := some { tag := i.mod, put := put, localA := la, remote := ra, len := n, old := s.memBytes (facetBase i.k.val + la) n } } := by
  intro c la ra n hla hra hn hlo hhi hmem hwin
  have hspan : ¬(la % 64 ≠ 0 ∨ ra % 64 ≠ 0 ∨ n % 64 ≠ 0 ∨ n < 64 ∨ n > 65536 ∨ la + n > 0x80000) := by omega
  have hw : ¬(!((s.fetched i).inWin i.k.val 0x18 ra n || (!put && (s.fetched i).inWin i.k.val 0x20 ra n))) = true := by
    rw [State.inWin_congr (s.fetched_regs i)]
    obtain hw | ⟨hq, hw⟩ := hwin <;> simp [*]
  refine h.slotStep hl ((if_neg (by simp [FacetCore.on, hp])).trans ((if_neg (by rw [hb]; exact Bool.false_ne_true)).trans
    ((if_neg hspan).trans ((if_neg hw).trans ?_))))
  rw [State.memBytes_congr (s.fetched_mem i)]

end

/-- The tags that a GWAIT covers are the low 8 bits of a word. -/
theorem testBit_tags (w : Word) (t : Nat) : (wbits w 0 8).testBit t = (w.getLsbD t && decide (t < 8)) := by
  rw [wbits_zero, Nat.testBit_mod_two_pow, BitVec.testBit_toNat, Bool.and_comm]

section
variable {s : State} {i : Issue} (h : Issues s i) (hl : legalR i { d := 0, b := 0 } = true)
  (hp : ((s.core i.k.val).rP i.pred).testBit 0 = true)
include h hl hp

/-- GWAIT stalls its bundle on a tag outstanding, and forgets the tags that are complete (R172). -/
theorem Issues.exec_gwait :
    let c := s.core i.k.val
    let waits := c.xfers.any fun x => (c.rS i.a).getLsbD x.tag && decide (x.tag < 8) && !x.done
    exec (.gwait i) s = .next ((s.fetched i).slotDone i (if waits then { c with hold := true } else { c with
      xfers := c.xfers.filter fun x => !((c.rS i.a).getLsbD x.tag && decide (x.tag < 8)) })) := by
  intro c waits
  show Host.Outcome.next (s.regSlot i _ _) = _
  rw [regSlot_ok _ _ _ _ h hl]
  simp only [FacetCore.on, hp, Bool.not_true, Bool.false_eq_true, if_false, testBit_tags]
  rfl

end

/-! #### Transfers complete -/

/-- The transfer under a tag is complete, with or without an error. -/
def FacetCore.girdleMarked (c : FacetCore) (tag : Nat) (err : Bool) : FacetCore :=
  { c with
    gdone := c.gdone ||| 2 ^ tag, gerr := if err then c.gerr ||| 2 ^ tag else c.gerr
    xfers := c.xfers.map fun y => if y.tag = tag then { y with done := true } else y }

section
variable {s : State} {k tag : Nat} {x : Xfer} (hx : (s.core k).xfers.find? (fun y => y.tag == tag && !y.done) = some x)
include hx

theorem State.girdleDone_of_error (chk : WordCheck) :
    s.girdleDone k tag true chk = s.setCore k ((s.core k).girdleMarked tag true) := by
  simp only [State.girdleDone, hx, Bool.true_or, if_true]
  rfl

variable (ho : s.spanOk x.remote x.len = true)
include ho

/-- A GET's bytes are written as the transfer completes. -/
theorem State.girdleDone_get (hp : x.put = false) (chk : WordCheck) : s.girdleDone k tag false chk =
    (s.setCore k ((s.core k).girdleMarked tag false)).memWrite (facetBase k + x.localA) (s.readBytes x.remote x.len) := by
  simp only [State.girdleDone, hx, ho, hp, Bool.not_true, Bool.or_self, Bool.false_eq_true, if_false]
  rfl

/-- A PUT's data arrives as the transfer completes, where no PUT before it must arrive first. -/
theorem State.girdleDone_put (hp : x.put = true) (hs : x.sent = false)
    (hb : putsBefore ((s.core k).xfers.takeWhile fun y => y.tag ≠ tag) x = []) : s.girdleDone k tag false .clean =
    State.putArrives k (s.setCore k ((s.core k).girdleMarked tag false)) x := by
  simp only [State.girdleDone, hx, ho, hp, hs, hb, Bool.not_true, Bool.or_self, Bool.false_eq_true, if_false, if_true]
  rfl

end

/-- Which spans a memory answers depends on the memories alone. -/
theorem State.spanOk_congr {s t : State} (h : t.mem = s.mem) : t.spanOk = s.spanOk := by
  have hr : t.region = s.region := by
    funext a
    rw [State.region, State.dramSize, h]
    rfl
  funext a n
  rw [State.spanOk, hr, h]
  rfl

/-- Part of the bytes just written is read back. -/
theorem State.memBytes_memWrite_slice {s : State} (h : s.MemOk) (a : Nat) {bs : List Byte} {o n : Nat} (hn : o + n ≤ bs.length) :
    (s.memWrite a bs).memBytes (a + o) n = slice bs o n := by
  refine List.ext_getElem (by simp [State.memBytes, slice]; omega) fun j h1 h2 => ?_
  have hj : j < n := by simpa [State.memBytes] using h1
  have hi : a + o + j - a = o + j := by omega
  simp only [State.memBytes, State.memWrite, List.getElem_map, List.getElem_range, slice, List.getElem_take, List.getElem_drop]
  rw [cellGet_cellsSet h, if_pos (by omega), hi, List.getElem?_eq_getElem (by omega), Option.getD_some]

/-- A granule of bytes made of granules. -/
theorem slice_flatten {m : Nat} : ∀ {l : List (List Byte)}, (∀ b ∈ l, b.length = m) → ∀ {g : Nat} (hg : g < l.length),
    slice l.flatten (m * g) m = l[g]
  | b :: l, hl, 0, _ => by
    have hb : b.length = m := hl b (by simp)
    rw [List.flatten_cons, slice, Nat.mul_zero, List.drop_zero, ← hb, List.take_left, List.getElem_cons_zero]
  | b :: l, hl, g + 1, hg => by
    have hb : b.length = m := hl b (by simp)
    have ih := slice_flatten (l := l) (fun c hc => hl c (by simp [hc])) (g := g) (by simpa using hg)
    rw [List.getElem_cons_succ, ← ih, slice, slice, List.flatten_cons, Nat.mul_succ, Nat.add_comm, ← List.drop_drop, ← hb,
      List.drop_left]

theorem length_flatten_of_forall {m : Nat} {l : List (List Byte)} (hl : ∀ b ∈ l, b.length = m) : l.flatten.length = l.length * m := by
  rw [List.length_flatten, List.map_congr_left hl, List.map_const', List.sum_replicate, smul_eq_mul]

/-- What a granule of a PUT carries: its source's bytes at the start or as they stand. -/
def putGranule (s : State) (k j : Nat) (x : Xfer) (g : Nat) : List Byte :=
  if Config.freeInt j g % 2 = 0 then slice x.old (64 * g) 64 else s.memBytes (facetBase k + x.localA + 64 * g) 64

theorem putBytes_eq (s : State) (k j : Nat) (x : Xfer) :
    putBytes s k j x = ((List.range (x.len / 64)).map (putGranule s k j x)).flatten := rfl

section
variable {s : State} {x : Xfer} (hl : x.len % 64 = 0) (hold : x.old.length = x.len) (k j : Nat)
include hl hold

theorem putGranule_length : ∀ b ∈ (List.range (x.len / 64)).map (putGranule s k j x), b.length = 64 := by
  intro b hb
  obtain ⟨g, hg, rfl⟩ := List.mem_map.mp hb
  have := List.mem_range.mp hg
  unfold putGranule
  split
  · simp [slice]; omega
  · simp [State.memBytes]

theorem putBytes_length : (putBytes s k j x).length = x.len := by
  rw [putBytes_eq, length_flatten_of_forall (putGranule_length hl hold k j), List.length_map, List.length_range]
  omega

theorem slice_putBytes {g : Nat} (hg : g < x.len / 64) : slice (putBytes s k j x) (64 * g) 64 = putGranule s k j x g := by
  rw [putBytes_eq, slice_flatten (putGranule_length hl hold k j) (by simpa using hg)]
  simp

end

/-- The data of a PUT is written as it arrives. -/
theorem State.putArrives_eq {s : State} (k : Nat) {x : Xfer} (ho : s.spanOk x.remote x.len = true) :
    ∃ xs, State.putArrives k s x =
      ({ s with freeCtr := s.freeCtr + 1 }.setCore k { s.core k with xfers := xs }).memWrite x.remote (putBytes s k s.freeCtr x) :=
  ⟨_, if_pos ho⟩

/-- A count changes no Facet's registers. -/
theorem State.core_count (s : State) (a n k : Nat) : (s.count a n).core k = s.core k := by
  rw [State.core, State.count_facets, State.core]

theorem exec_girdleReservationStall_due {s : State} {k : Fin 64} (hr : (s.core k.val).run = true)
    (hn : gresN s k.val ≤ (s.core k.val).full + 1) : exec (.girdleReservationStall k) s =
      .next ((s.setCore k.val { s.core k.val with cyc := (s.core k.val).cyc + 1, full := 0 }).count (aFacetctl + 0xB0)) := by
  show execGirdleReservationStall k s = _
  simp [execGirdleReservationStall, hr, hn]

theorem exec_girdleReservationStall_early {s : State} {k : Fin 64} (hn : (s.core k.val).full + 1 < gresN s k.val) :
    exec (.girdleReservationStall k) s = .next s := by
  show execGirdleReservationStall k s = _
  simp [execGirdleReservationStall, Nat.not_le.mpr hn]

section
variable {s : State} {k : Fin 64} {tag : Fin 8} {x : Xfer}
  (hx : (s.core k.val).xfers.find? (fun y => y.tag == tag.val && !y.done) = some x)
include hx

/-- A transfer that ends in a bus error is complete, in error, and changes no memory. -/
theorem girdleTransferComplete_error : ∃ t, exec (.girdleTransferComplete k tag .busError) s = .next t ∧
    (t.core k.val).gdone = (s.core k.val).gdone ||| 2 ^ tag.val ∧ (t.core k.val).gerr = (s.core k.val).gerr ||| 2 ^ tag.val ∧
    t.mem = s.mem := by
  refine ⟨_, congrArg Host.Outcome.next (State.girdleDone_of_error hx .clean), ?_⟩
  rw [State.core_setCore_self]
  exact ⟨rfl, rfl, rfl⟩

variable (ho : s.spanOk x.remote x.len = true) (hm : s.MemOk)
include ho hm

/-- A GET that ends has put its bytes into the Facet's memory. -/
theorem girdleTransferComplete_get (hp : x.put = false) (w : WordCheck) :
    ∃ t, exec (.girdleTransferComplete k tag (.whole w)) s = .next t ∧
    (t.core k.val).gdone = (s.core k.val).gdone ||| 2 ^ tag.val ∧ (t.core k.val).gerr = (s.core k.val).gerr ∧
    t.memBytes (facetBase k.val + x.localA) x.len = s.readBytes x.remote x.len ∧
    ∀ a, a < facetBase k.val + x.localA ∨ facetBase k.val + x.localA + x.len ≤ a → cellGet t.mem.bytes a = cellGet s.mem.bytes a := by
  have hlen : (s.readBytes x.remote x.len).length = x.len := by simp [State.readBytes]
  have hm' : (s.setCore k.val ((s.core k.val).girdleMarked tag.val false)).MemOk := hm
  have hc : (((s.setCore k.val ((s.core k.val).girdleMarked tag.val false)).memWrite (facetBase k.val + x.localA)
      (s.readBytes x.remote x.len)).core k.val) = (s.core k.val).girdleMarked tag.val false := State.core_setCore_self ..
  refine ⟨_, congrArg Host.Outcome.next (State.girdleDone_get hx ho hp w), by rw [hc]; rfl, by rw [hc]; rfl, ?_, fun a ha => ?_⟩
  · have := State.memBytes_memWrite hm' (facetBase k.val + x.localA) (s.readBytes x.remote x.len)
    rwa [hlen] at this
  · exact State.memWrite_other hm' _ _ _ (by rwa [hlen])

/-- A PUT that ends has put its source's bytes into its destination, each granule old or new. -/
theorem girdleTransferComplete_put (hp : x.put = true) (hs : x.sent = false) (hl : x.len % 64 = 0) (hold : x.old.length = x.len)
    (hb : putsBefore ((s.core k.val).xfers.takeWhile fun y => y.tag ≠ tag.val) x = []) :
    ∃ t, exec (.girdleTransferComplete k tag (.whole .clean)) s = .next t ∧
    (t.core k.val).gdone = (s.core k.val).gdone ||| 2 ^ tag.val ∧ (t.core k.val).gerr = (s.core k.val).gerr ∧
    (∀ g < x.len / 64, t.memBytes (x.remote + 64 * g) 64 = slice x.old (64 * g) 64 ∨
      t.memBytes (x.remote + 64 * g) 64 = s.memBytes (facetBase k.val + x.localA + 64 * g) 64) ∧
    ∀ a, a < x.remote ∨ x.remote + x.len ≤ a → cellGet t.mem.bytes a = cellGet s.mem.bytes a := by
  obtain ⟨s1, hs1⟩ : ∃ s1, s1 = s.setCore k.val ((s.core k.val).girdleMarked tag.val false) := ⟨_, rfl⟩
  have hmem : s1.mem = s.mem := by rw [hs1]; rfl
  have hcore : s1.core k.val = (s.core k.val).girdleMarked tag.val false := by rw [hs1, State.core_setCore_self]
  have hd := State.girdleDone_put hx ho hp hs hb
  rw [← hs1] at hd
  obtain ⟨xs, ha⟩ := State.putArrives_eq (s := s1) k.val (x := x) (by rwa [State.spanOk_congr hmem])
  rw [ha] at hd
  have hlen := putBytes_length hl hold (s := s1) k.val s1.freeCtr
  have hm' : (({ s1 with freeCtr := s1.freeCtr + 1 }).setCore k.val { s1.core k.val with xfers := xs }).MemOk := by
    show Memory.wf s1.mem.bytes = true
    rw [hmem]
    exact hm
  have hc : ((({ s1 with freeCtr := s1.freeCtr + 1 }).setCore k.val { s1.core k.val with xfers := xs }).memWrite x.remote
      (putBytes s1 k.val s1.freeCtr x)).core k.val = { s1.core k.val with xfers := xs } := State.core_setCore_self ..
  refine ⟨_, congrArg Host.Outcome.next hd, by rw [hc, hcore]; rfl, by rw [hc, hcore]; rfl, fun g hg => ?_, fun a ha => ?_⟩
  · rw [State.memBytes_memWrite_slice hm' x.remote (by omega), slice_putBytes hl hold k.val s1.freeCtr hg, putGranule,
      State.memBytes_congr hmem]
    split
    · exact .inl rfl
    · exact .inr rfl
  · rw [State.memWrite_other hm' _ _ _ (by rwa [hlen])]
    exact congrArg (fun m : Mem => cellGet m.bytes a) hmem

end

/-- Settles O17: a slot that starts a transfer or waits for one by its branch, and a transfer's end by what it writes. -/
theorem girdleTransfers : Obligations.GirdleTransfers := by
  refine ⟨fun i s h => ⟨?starts, fun hl hp => ⟨fun hw => ?waits, fun hw => ?forgets⟩⟩, fun s k tag x hx =>
    ⟨girdleTransferComplete_error hx, fun w hp ho hm => girdleTransferComplete_get hx ho hm hp w,
      fun hp hs ho hm hl hold hb => girdleTransferComplete_put hx ho hm hp hs hl hold hb⟩,
    fun s k => ⟨fun hr hn => ?stalls, exec_girdleReservationStall_early⟩⟩
  case starts =>
    intro r hr hl
    rw [exec_girdleRow r hr]
    exact ⟨fun hp => congrArg _ (h.girdle_off hl hp), fun hp hb => congrArg _ (h.girdle_busy hl hp hb),
      fun hp hb hla hra hn hlo hhi hmem hwin => congrArg _ (h.girdle_starts hl hp hb hla hra hn hlo hhi hmem hwin)⟩
  case waits =>
    rw [h.exec_gwait hl hp]
    exact congrArg (fun c => Host.Outcome.next ((s.fetched i).slotDone i c)) (if_pos hw)
  case forgets =>
    rw [h.exec_gwait hl hp]
    exact congrArg (fun c => Host.Outcome.next ((s.fetched i).slotDone i c)) (if_neg (by rw [hw]; exact Bool.false_ne_true))
  case stalls =>
    refine ⟨_, exec_girdleReservationStall_due hr hn, ?_, fun j hj => ?_, rfl⟩
    · rw [State.core_count, State.core_setCore_self]
    · rw [State.core_count, State.core_setCore_ne _ _ hj]

end Sys2Proof.Machine

namespace Sys2Proof.Machine

/-! ### A packet's way to its opcode (R193 to R199, Table KCP-3) -/

/-- The opcodes of the tables of rows, but for the checks that they add, are handled alike. -/
theorem exec_commandRow : ∀ r ∈ deferredRows ++ shapedRows ++ immediateRows, ∀ (p : Packet) (s : State),
    exec (r.send p) s = .next (kcpOp r.op r.spec p s) := by
  unfold deferredRows shapedRows immediateRows
  simp only [List.cons_append, List.nil_append, List.forall_mem_cons, List.not_mem_nil, false_imp_iff, implies_true, and_true]
  repeat' apply And.intro
  all_goals intros; rfl

/-- None of them is exempt from check 6 (R196). -/
theorem exempt_commandRow : ∀ r ∈ deferredRows ++ shapedRows ++ immediateRows, exempt r.op = false := by decide

theorem noSeqCheck_of_not_exempt {op : Nat} (p : Packet) (h : exempt op = false) : noSeqCheck (toCmd op p) = false := by
  simp only [exempt, Bool.or_eq_false_iff] at h
  simp [noSeqCheck, toCmd, h.1, h.2]

theorem sess_servedFor (s : State) (p : Packet) : (s.servedFor p).sess = s.sess := by
  funext x; unfold State.sess; rw [served_sess]

theorem bound_servedFor (s : State) (p : Packet) : (s.servedFor p).bound = s.bound := by
  funext x e; unfold State.bound; rw [sess_servedFor]

/-- Checks 1 to 3 see the state as the packet found it. -/
theorem dropped_servedFor (s : State) (op : Nat) (p : Packet) : dropped (s.servedFor p) op p = dropped s op p := by
  unfold dropped; rw [badFrame_congr (served_regs s p), badTag_congr (served_sec s p)]

/-- A packet that fails check 1, 2 or 3 leaves its queue and is counted. -/
theorem handle_of_dropped {op : Nat} {p : Packet} {s : State} {i : Nat} (h : dropped s op p = some i) (k : Cmd → State → State) :
    handle op p k s = (s.servedFor p).count (kDev i) := by
  have hd := (dropped_servedFor s op p).trans h
  show (match dropped (s.servedFor p) op p with | some i => _ | none => _) = _
  rw [hd]
  rfl

/-- A packet that passes checks 1 to 5 meets checks 6 and 7. -/
theorem handle_of_framed {op : Nat} {p : Packet} {s : State} (h : Framed op p s) (k : Cmd → State → State) :
    handle op p k s = (s.servedFor p).inSession (toCmd op p) (k (toCmd op p)) := by
  have hd : dropped (s.servedFor p) op p = none := by
    rw [dropped_servedFor]; simp [dropped, h.framed, h.carat, h.tag]
  have hh : headerStatus p = none := by simp [headerStatus, h.version, h.header]
  show (match dropped (s.servedFor p) op p with | some i => _ | none => _) = _
  rw [hd, hh]
  simp only [h.sane, Bool.false_eq_true, if_false]
  rfl

section Session
variable {s : State} {c : Cmd} (k : State → State) (hb : s.bound c.sess c.ep = true) (hs : c.sess < 8) (hn : noSeqCheck c = false)
include hb hs hn

/-- A number behind the window is stale. -/
theorem inSession_stale (hq : (seqTest (s.sess c.sess).h (s.sess c.sess).seen c.seq).1 = .stale) :
    s.inSession c k = s.staleOrDup c false := by
  unfold State.inSession
  simp [hb, hn, hq, Nat.not_le.mpr hs]

/-- A number already received is a duplicate. -/
theorem inSession_dup (hq : (seqTest (s.sess c.sess).h (s.sess c.sess).seen c.seq).1 = .dup) :
    s.inSession c k = s.staleOrDup c true := by
  unfold State.inSession
  simp [hb, hn, hq, Nat.not_le.mpr hs]

end Session

/-- A duplicate is answered again with the reply on record (R198). -/
theorem staleOrDup_recorded {s : State} {c : Cmd} {q : Nat} {r : ReplyRec}
    (h : (s.sess c.sess).replies.find? (fun e => e.1 == c.seq) = some (q, some r)) :
    s.staleOrDup c true = ((s.count (kDev 4)).count (kSess c.sess 1)).deliver
      { ep := c.ep, session := c.sess, seq := c.seq, op := c.op, txn := c.txn, tagged := c.tagged, body := .reply r true [] } := by
  unfold State.staleOrDup
  simp only [Bool.not_true, Bool.false_eq_true, if_false, h]

/-- Settles O12: a packet that fails an early check is counted by `handle_of_dropped`; a repeated number is answered by check 7. -/
theorem rejectedPacketsHaveNoEffect : Obligations.RejectedPacketsHaveNoEffect := by
  refine ⟨fun r hr p s ht => ?_, fun r hr p s hf hs hb => ?_⟩
  · have h : ∀ i, dropped s r.op p = some i → exec (r.send p) s = .next ((s.servedFor p).count (kDev i)) := fun i hi => by
      rw [exec_commandRow r hr, kcpOp, served_turn ht, handle_of_dropped hi]
    exact ⟨fun h1 => h 0 (by simp [dropped, h1]), fun h1 h2 => h 1 (by simp [dropped, h1, h2]),
      fun h1 h2 h3 => h 2 (by simp [dropped, h1, h2, h3])⟩
  · have he := exempt_commandRow r hr
    have hb' : (s.servedFor p).bound (toCmd r.op p).sess (toCmd r.op p).ep = true := by rw [bound_servedFor]; exact hb
    have h : exec (r.send p) s = .next ((s.servedFor p).inSession (toCmd r.op p) fun s => s.checked r.spec (toCmd r.op p)) := by
      rw [exec_commandRow r hr, kcpOp, served_turn hf.toTurn, handle_of_framed hf]
    have hn := noSeqCheck_of_not_exempt p he
    refine ⟨fun rcd hq hfind => ?_, fun hq => ?_⟩
    · rw [h, inSession_dup _ hb' hs hn (by rw [sess_servedFor]; exact hq),
        staleOrDup_recorded (by rw [sess_servedFor]; exact hfind)]
      rfl
    · rw [h, inSession_stale _ hb' hs hn (by rw [sess_servedFor]; exact hq)]
      rfl

/-! ### Checks 9 to 13, and acceptance into the delta (R201, R202, R204) -/

section Checked
variable {s : State} {sp : OpSpec} {c : Cmd} (hl : sp.len c = true) (hn : notAllowed sp c s = none)
  (hh : s.handingOver = false ∨ sp.standby = true)
include hl hn hh

/-- A command that may act, outside a transaction or with the identifier as its own operand, is run or accepted once its parameters
are good. -/
theorem State.checked_acts (ht : c.txn = 0 ∨ sp.ownTxn = true) (hp : sp.param c (if sp.atOnce c s then s else s.projected) = none) :
    s.checked sp c = if sp.atOnce c s then s.runNow sp c else s.acceptCmd sp c := by
  have hx : txnCheck sp c s = none := by
    unfold txnCheck; rw [if_pos]; obtain h | h := ht <;> simp [h]
  have hh' : (s.handingOver && !sp.standby) = false := by obtain h | h := hh <;> simp [h]
  unfold State.checked
  obtain ht | ht := ht <;> simp [hl, hn, hh', hx, ht, hp]

/-- A command of the open transaction is staged and says so (R206). -/
theorem State.checked_stages (hx : txnCheck sp c s = none) (ht : c.txn ≠ 0) (ho : sp.ownTxn = false)
    (hp : sp.param c (s.projected.withStaged c) = none) : s.checked sp c = (s.stageCmd sp c).replyTo c (reject stStaged) [] := by
  have hh' : (s.handingOver && !sp.standby) = false := by obtain h | h := hh <;> simp [h]
  unfold State.checked
  simp [hl, hn, hh', hx, ht, ho, hp]

end Checked

end Sys2Proof.Machine

namespace Sys2Proof.Machine

/-- Every unit of a command prepares, and nothing else turns it away (checks 12 and 13, R201, R204). -/
structure Prepares (sp : OpSpec) (c : Cmd) (s : State) : Prop where
  later : sp.atOnce c s = false
  param : sp.param c s.projected = none
  busy : sp.busy c s.projected = none
  units : failedUnits s (sp.units c s.projected) = []
  whole : wholeCheck s.projected (sp.apply c [] s.projected) (sp.scalars c s.projected) (sp.firs c s.projected) = none

/-- The reply that the commit of an accepted command sends: OK, its boundary and its units (R202). -/
def preparedReply (s : State) (sp : OpSpec) (c : Cmd) : ReplyRec :=
  let us := unitBits (sp.units c s.projected)
  { status := stOK, boundary := s.acceptAt, touched := us, succeeded := us }

/-- The state once a command is accepted: what stands for it in the delta enters after its seeds, and a large payload is staged. -/
def State.accepted (s : State) (sp : OpSpec) (c : Cmd) : State :=
  let d := sp.accept c (s.draw (sp.seeds c s.projected))
  (if s.paired && decide (d.1.plen > 4096) then d.2.bezel (.staging 1 d.1.seq) else d.2).enter
    (.command d.1.ep d.1.sess d.1.seq d.1.op d.1.txn d.1.tagged d.1.payload (preparedReply s sp c) (sp.data c s.projected))

theorem State.acceptCmd_prepares {s : State} {sp : OpSpec} {c : Cmd} (h : Prepares sp c s) : s.acceptCmd sp c = s.accepted sp c := by
  have hr : unitReply s (sp.units c s.projected) s.acceptAt = preparedReply s sp c := by
    unfold unitReply; rw [h.units]; rfl
  unfold State.acceptCmd
  simp only [h.busy, hr, h.units, h.whole]
  rfl

theorem State.checked_prepares {s : State} {sp : OpSpec} {c : Cmd} (ha : Admitted sp c s) (h : Prepares sp c s) :
    s.checked sp c = s.accepted sp c := by
  rw [State.checked_acts ha.length ha.allowed ha.active (.inl ha.outside) (by simp [h.later, h.param])]
  simp [h.later, State.acceptCmd_prepares h]

/-- The seeds that are drawn enter the delta, and each uses up a free value. -/
theorem State.draw_eq (l : List (Nat × Nat)) : ∀ s : State, ∃ seeds, (∀ e ∈ seeds, ∃ w i x, e = Entry.seed w i x) ∧
    s.draw l = { s with delta := { s.delta with entries := s.delta.entries ++ seeds }, freeCtr := (s.draw l).freeCtr } := by
  induction l with
  | nil => exact fun s => ⟨[], by simp, by simp [State.draw]⟩
  | cons a l ih =>
    intro s
    obtain ⟨seeds, hs, he⟩ := ih (s.draw [a])
    refine ⟨.seed a.1 a.2 (if a.1 = 2 then Config.rtpStart s.freeCtr else (Config.seed s.freeCtr).toNat) :: seeds, ?_, ?_⟩
    · simpa using hs
    · show (s.draw [a]).draw l = { s with delta := _, freeCtr := ((s.draw [a]).draw l).freeCtr }
      rw [he]
      simp [State.draw, State.fresh, State.enter]

/-- The opcodes of the table of deferred rows enter the delta as they came. -/
theorem accept_deferredRow : ∀ r ∈ deferredRows, ∀ (c : Cmd) (s : State), r.spec.accept c s = (c, s) := by
  unfold deferredRows
  simp only [List.forall_mem_cons, List.not_mem_nil, false_imp_iff, implies_true, and_true]
  repeat' apply And.intro
  all_goals intros; rfl

/-- A command that enters as it came changes the delta in hand alone, but for the free values and the staging of its payload. -/
theorem State.accepted_spec {s : State} {sp : OpSpec} {c : Cmd} (ha : ∀ t, sp.accept c t = (c, t)) :
    ∃ seeds rcd, (s.accepted sp c).delta.entries = s.delta.entries ++ seeds ++
        [.command c.ep c.sess c.seq c.op c.txn c.tagged c.payload rcd (sp.data c s.projected)] ∧
      (∀ e ∈ seeds, ∃ w i x, e = Entry.seed w i x) ∧ rcd.status = stOK ∧ rcd.boundary = s.acceptAt ∧
      ((s.accepted sp c).out = s.out ∨ (s.accepted sp c).out = .bezel (.staging 1 c.seq) :: s.out) ∧
      s.accepted sp c = { s with
        delta := { s.delta with entries := (s.accepted sp c).delta.entries }
        freeCtr := (s.accepted sp c).freeCtr, out := (s.accepted sp c).out } := by
  obtain ⟨seeds, hs, hd⟩ := s.draw_eq (sp.seeds c s.projected)
  have h : ∀ t : State, s.draw (sp.seeds c s.projected) = t → s.accepted sp c =
      (if s.paired && decide (c.plen > 4096) then t.bezel (.staging 1 c.seq) else t).enter
        (.command c.ep c.sess c.seq c.op c.txn c.tagged c.payload (preparedReply s sp c) (sp.data c s.projected)) := by
    rintro t rfl; unfold State.accepted; rw [ha]
  rw [h _ hd]
  refine ⟨seeds, preparedReply s sp c, ?_, hs, rfl, rfl, ?_, ?_⟩
  · split <;> simp
  · split
    · exact .inr rfl
    · exact .inl rfl
  · split <;> rfl

/-- Settles O6: an admitted command whose units prepare is accepted, by checks 9 to 13 and `State.accepted_spec`. -/
theorem acceptedCommandsEnterTheDelta : Obligations.AcceptedCommandsEnterTheDelta := by
  have h : ∀ r ∈ deferredRows ++ shapedRows, ∀ p s, InOrder r.op p s → Admitted r.spec (toCmd r.op p) (s.received p) →
      Prepares r.spec (toCmd r.op p) (s.received p) →
        exec (r.send p) s = .next ((s.received p).accepted r.spec (toCmd r.op p)) := by
    intro r hr p s hi ha hp
    have hr' := List.mem_append_left immediateRows hr
    rw [exec_commandRow r hr', kcpOp_inOrder hi (exempt_commandRow r hr'), State.checked_prepares ha hp]
  refine ⟨fun r hr p s hi ha h1 h2 h3 h4 h5 => h r hr p s hi ha ⟨h1, h2, h3, h4, h5⟩, fun r hr p s hi ha h1 h2 h3 h4 h5 => ?_⟩
  obtain ⟨seeds, rcd, he, hs, hst, hb, ho, hv⟩ := (s.received p).accepted_spec (accept_deferredRow r hr (toCmd r.op p))
  rw [show (toCmd r.op p).txn = 0 from ha.outside] at he
  exact ⟨_, seeds, rcd, h r (List.mem_append_left _ hr) p s hi ha ⟨h1, h2, h3, h4, h5⟩, he, hs, hst, hb, ho, hv⟩

end Sys2Proof.Machine

namespace Sys2Proof.Machine

/-! ### Sessions (R196, R197, R474) -/

/-- What a change of a session keeps of every session it keeps of all. -/
theorem State.sess_setSess_rel {R : Session → Session → Prop} (hr : ∀ t, R t t) {f : Session → Session} (hf : ∀ t, R t (f t))
    (s : State) (x y : Nat) : R (s.sess y) ((s.setSess x f).sess y) := by
  by_cases h : y = x
  · subst h
    by_cases hl : y < s.kcp.sess.length
    · rw [s.sess_setSess_self y f hl]; exact hf _
    · have h : (s.setSess y f).sess y = s.sess y := by simp [State.sess, State.setSess, nth, hl]
      rw [h]; exact hr _
  · rw [s.sess_setSess_ne f h]; exact hr _

/-- A session differs at most in the replies on record. -/
def Session.Noted (t q : Session) : Prop := q = { t with replies := q.replies }

/-- A session differs at most in its count of stagings. -/
def Session.Counted (t q : Session) : Prop := q = { t with ver := q.ver }

/-- A session differs at most in its window, the replies on record and its tag. -/
def Session.Taken (t q : Session) : Prop := q = { t with h := q.h, seen := q.seen, replies := q.replies, tagged := q.tagged }

theorem Session.Noted.refl (t : Session) : t.Noted t := rfl

theorem Session.Counted.refl (t : Session) : t.Counted t := rfl

theorem Session.Taken.refl (t : Session) : t.Taken t := rfl

theorem Session.Taken.trans {t q r : Session} (h : t.Taken q) (k : q.Taken r) : t.Taken r := by
  unfold Session.Taken at *
  rw [k, h]

theorem State.sess_setSess_noted {f : Session → Session} (hf : ∀ t : Session, t.Noted (f t)) (s : State) (x y : Nat) :
    (s.sess y).Noted ((s.setSess x f).sess y) := State.sess_setSess_rel Session.Noted.refl hf s x y

theorem State.sess_setSess_counted {f : Session → Session} (hf : ∀ t : Session, t.Counted (f t)) (s : State) (x y : Nat) :
    (s.sess y).Counted ((s.setSess x f).sess y) := State.sess_setSess_rel Session.Counted.refl hf s x y

theorem State.sess_setSess_taken {f : Session → Session} (hf : ∀ t : Session, t.Taken (f t)) (s : State) (x y : Nat) :
    (s.sess y).Taken ((s.setSess x f).sess y) := State.sess_setSess_rel Session.Taken.refl hf s x y

/-- There are eight sessions. -/
theorem State.Shape.sess_lt {s : State} (h : s.Shape) {x : Nat} (hx : x < 8) : x < s.kcp.sess.length := by
  obtain ⟨h, -⟩ := h; omega

@[simp] theorem State.setSess_length (s : State) (x : Nat) (f : Session → Session) :
    (s.setSess x f).kcp.sess.length = s.kcp.sess.length := by
  simp [State.setSess]

/-- A session closed is shut. -/
theorem State.sess_closeSess_self (s : State) (x : Nat) : (s.closeSess x).sess x = (s.sess x).shut := by
  by_cases hl : x < s.kcp.sess.length
  · exact s.sess_setSess_self x _ hl
  · simp [State.closeSess, State.sess, State.setSess, nth, hl, Session.shut]

theorem State.sess_closeSess_ne (s : State) {x y : Nat} (h : y ≠ x) : (s.closeSess x).sess y = s.sess y := s.sess_setSess_ne _ h

/-- An unpaired unit stages nothing. -/
theorem State.stageAs_unpaired {s : State} (h : s.paired = false) (x : Nat) (f : Session → Session) : s.stageAs x f = s := by
  simp [State.stageAs, h]

/-- Staging a session counts it, and changes nothing else of any session. -/
theorem State.sess_stageAs (s : State) (x : Nat) (f : Session → Session) (y : Nat) :
    (s.sess y).Counted ((s.stageAs x f).sess y) := by
  unfold State.stageAs
  split
  · exact State.sess_setSess_counted (f := fun t => { t with ver := t.ver + 1 }) (fun _ => rfl) s x y
  · exact .refl _

theorem State.sess_stageAs_ne (s : State) {x y : Nat} (f : Session → Session) (h : y ≠ x) :
    (s.stageAs x f).sess y = s.sess y := by
  unfold State.stageAs
  split
  · exact s.sess_setSess_ne _ h
  · rfl

@[simp] theorem State.stageAs_length (s : State) (x : Nat) (f : Session → Session) :
    (s.stageAs x f).kcp.sess.length = s.kcp.sess.length := by
  unfold State.stageAs
  split
  · exact s.setSess_length x _
  · rfl

/-! ### A packet taken (R197, R199) -/

theorem State.servedFor_eq (s : State) (p : Packet) : s.servedFor p = { s with kcp := (s.servedFor p).kcp } := by
  unfold State.servedFor; rw [takeRx_eq]

/-- Taking a packet in order changes the protocol's state alone. -/
theorem State.received_eq (s : State) (p : Packet) : s.received p = { s with kcp := (s.received p).kcp } := by
  change ((s.servedFor p).takeSeq _ _).setSess _ _ = { s with kcp := (((s.servedFor p).takeSeq _ _).setSess _ _).kcp }
  rw [servedFor_eq]
  rfl

/-- Consuming a number changes its session's window and the replies on record. -/
theorem State.sess_takeSeq (s : State) (x q y : Nat) : (s.sess y).Taken ((s.takeSeq x q).sess y) := by
  have h : ∀ (t : Session) h seen replies, t.Taken { t with h := h, seen := seen, replies := replies } := fun _ _ _ _ => rfl
  exact State.sess_setSess_taken (fun t => h t _ _ _) s x y

/-- A packet in order changes its session's window, replies and tag. -/
theorem State.sess_received (s : State) (p : Packet) (y : Nat) : (s.sess y).Taken ((s.received p).sess y) := by
  have h := (s.servedFor p).sess_takeSeq p.session.toNat p.seq.toNat y
  rw [sess_servedFor] at h
  exact h.trans (State.sess_setSess_taken (f := fun t => { t with tagged := hasAuth p && isUdp p.ep }) (fun _ => rfl) _ _ y)

theorem State.sess_received_ne (s : State) (p : Packet) {y : Nat} (h : y ≠ p.session.toNat) :
    (s.received p).sess y = s.sess y := by
  change (((s.servedFor p).takeSeq p.session.toNat p.seq.toNat).setSess p.session.toNat _).sess y = _
  rw [State.sess_setSess_ne _ _ h, State.takeSeq, State.sess_setSess_ne _ _ h, sess_servedFor]

@[simp] theorem State.received_length (s : State) (p : Packet) : (s.received p).kcp.sess.length = s.kcp.sess.length := by
  change (((s.servedFor p).takeSeq _ _).setSess _ _).kcp.sess.length = _
  rw [State.setSess_length, State.takeSeq, State.setSess_length, served_sess]

/-! ### Replies (R194, R198) -/

/-- What a reply records beside its number. -/
def noteReply (q : Nat) (r : ReplyRec) (e : Nat × Option ReplyRec) : Nat × Option ReplyRec :=
  if e.1 = q ∧ e.2 = none then (e.1, some r) else e

@[simp] theorem State.replyTo_length (s : State) (c : Cmd) (r : ReplyRec) (d : List Byte) :
    (s.replyTo c r d).kcp.sess.length = s.kcp.sess.length := by
  unfold State.replyTo State.reply State.sendReply
  rw [State.deliver_sessions]
  split
  · exact s.setSess_length _ _
  · rfl

/-- A reply is recorded in its session's window where it answers a packet that consumed its number. -/
theorem State.sess_replyTo_recorded {s : State} {c : Cmd} {r : ReplyRec} (d : List Byte) (hx : c.sess < s.kcp.sess.length)
    (hb : s.bound c.sess c.ep = true) (hc : consumed c.op c.tagged r = true) :
    (s.replyTo c r d).sess c.sess = { s.sess c.sess with replies := (s.sess c.sess).replies.map (noteReply c.seq r) } := by
  unfold State.replyTo State.reply State.sendReply
  unfold State.sess
  rw [State.deliver_sessions]
  simp only [hb, hc, Bool.true_or, Bool.and_self, if_true]
  exact s.sess_setSess_self c.sess _ hx

/-- Of a session a reply changes at most what it records. -/
theorem State.sess_replyTo (s : State) (c : Cmd) (r : ReplyRec) (d : List Byte) (y : Nat) :
    (s.sess y).Noted ((s.replyTo c r d).sess y) := by
  unfold State.replyTo State.reply State.sendReply
  unfold State.sess
  rw [State.deliver_sessions]
  split
  · refine State.sess_setSess_noted ?_ s _ y
    exact fun _ => rfl
  · exact .refl _

/-! ### Commands that are answered at once -/

/-- A command that its opcode answers with success is answered so, and what follows its reply follows. -/
theorem State.runNow_answers {s t : State} {sp : OpSpec} {c : Cmd} {us : List Nat} {data : List Byte} (hb : sp.busy c s = none)
    (hr : sp.run c s = readOk t us data) : s.runNow sp c = sp.after c (t.replyTo c (answered us) data) := by
  unfold State.runNow
  simp only [hb, hr]
  rfl

/-- An opcode that answers at once a packet in order does what it says of itself. -/
theorem kcpOp_answers {op : Nat} {p : Packet} {s t : State} {sp : OpSpec} {us : List Nat} {data : List Byte} (h : InOrder op p s)
    (he : exempt op = false) (hl : sp.len (toCmd op p) = true) (hn : notAllowed sp (toCmd op p) (s.received p) = none)
    (hh : (s.received p).handingOver = false ∨ sp.standby = true) (ht : (toCmd op p).txn = 0 ∨ sp.ownTxn = true)
    (ha : sp.atOnce (toCmd op p) (s.received p) = true) (hp : sp.param (toCmd op p) (s.received p) = none)
    (hb : sp.busy (toCmd op p) (s.received p) = none) (hr : sp.run (toCmd op p) (s.received p) = readOk t us data) :
    kcpOp op sp p s = sp.after (toCmd op p) (t.replyTo (toCmd op p) (answered us) data) := by
  rw [kcpOp_inOrder h he, State.checked_acts hl hn hh ht (by simp [ha, hp]), if_pos ha, State.runNow_answers hb hr]

end Sys2Proof.Machine

namespace Sys2Proof.Machine

/-! ### Transactions stage and commit (R205, R206, R208) -/

/-- The opcodes of the table of deferred rows carry no transaction's identifier of their own. -/
theorem ownTxn_deferredRow : ∀ r ∈ deferredRows, r.spec.ownTxn = false := by decide

/-- An eligible command of the open transaction passes check 11. -/
theorem txnCheck_open {s : State} {sp : OpSpec} {c : Cmd} {q : Txn} (hs : sp.txn = true) (hq : (s.sess c.sess).txn = some q)
    (hi : q.id = c.txn) (hb : q.bytes + c.payload.length ≤ 2 ^ 20) : txnCheck sp c s = none := by
  have hb' : ¬ q.bytes + c.plen > stageLimit := Nat.not_lt.mpr hb
  unfold txnCheck
  split
  · rfl
  · simp [hq, hi, hs, hb']

/-- An unpaired unit stages a command that is taken as it came. -/
theorem State.stageCmd_unpaired {s : State} {sp : OpSpec} {c : Cmd} (hp : s.paired = false) (ha : sp.accept c s = (c, s)) :
    s.stageCmd sp c = s.stage c c.plen := by
  unfold State.stageCmd
  simp [hp, ha]

/-- A staged command stands last in its session's open transaction, and its payload counts. -/
theorem State.stage_txn {s : State} {c : Cmd} {q : Txn} (n : Nat) (hx : c.sess < s.kcp.sess.length)
    (hq : (s.sess c.sess).txn = some q) :
    ((s.stage c n).sess c.sess).txn =
      some { q with cmds := q.cmds ++ [{ seq := c.seq, op := c.op, payload := c.payload }], bytes := q.bytes + n } := by
  unfold State.stage
  rw [State.sess_setSess_self _ _ _ hx]
  simp [hq]

@[simp] theorem State.stage_delta (s : State) (c : Cmd) (n : Nat) : (s.stage c n).delta = s.delta := rfl

theorem Session.Noted.txn {t q : Session} (h : t.Noted q) : q.txn = t.txn := by rw [h]

/-- A reply touches no entry of the delta. -/
@[simp] theorem State.replyTo_delta (s : State) (c : Cmd) (r : ReplyRec) (d : List Byte) : (s.replyTo c r d).delta = s.delta :=
  (Tells.reply ..).delta

@[simp] theorem State.received_delta (s : State) (p : Packet) : (s.received p).delta = s.delta := by rw [State.received_eq]

/-- A commit without a time is answered at once where its set is empty, and enters the delta as one set where each of its commands can
be applied. -/
theorem State.txnCommit_untimed {s : State} {c : Cmd} {q : Txn} {r : SetRun} (hp : c.payload = zeros 12)
    (hq : (s.sess c.sess).txn = some q) (hi : q.id = c.txn)
    (hr : runSet s.projected (q.cmds.map (stagedCmd c.ep c.sess c.txn c.tagged)) = .ok r) :
    s.txnCommit c = if q.cmds.isEmpty then (s.setSess c.sess fun t => { t with txn := none }).replyTo c (reject stOK) []
      else (s.setSess c.sess fun t => { t with txn := none }).enterSet c r false false := by
  have h20 : c.at 20 8 = 0 := by unfold Cmd.at; rw [hp]; decide
  have h28 : c.at 28 4 = 0 := by unfold Cmd.at; rw [hp]; decide
  have hf : firstBad [(c.badTime 20, 28), (tooFar s (c.time 20), 20)] = none := by
    simp [firstBad, Cmd.badTime, tooFar, Cmd.time, h20, h28]
  unfold State.txnCommit
  simp only [hq, hi, h20, h28, hf, hr]
  simp

/-- What a set's acceptance enters changes nothing of the protocol's state. -/
@[simp] theorem State.enterSet_kcp (s : State) (c : Cmd) (r : SetRun) (timed late : Bool) :
    (s.enterSet c r timed late).kcp = s.kcp := by
  obtain ⟨_, _, h⟩ := s.draw_eq r.seeds
  show (s.draw r.seeds).kcp = s.kcp
  rw [h]

section Commit
variable {s : State} {c : Cmd} {q : Txn} {r : SetRun} (hx : c.sess < s.kcp.sess.length) (hp : c.payload = zeros 12)
  (hq : (s.sess c.sess).txn = some q) (hi : q.id = c.txn)
  (hr : runSet s.projected (q.cmds.map (stagedCmd c.ep c.sess c.txn c.tagged)) = .ok r)
include hx

theorem State.sess_txnClosed : ((s.setSess c.sess fun t => { t with txn := none }).sess c.sess).txn = none := by
  rw [State.sess_setSess_self _ _ _ hx]

include hp hq hi hr

/-- A commit of an empty transaction ends it and leaves the delta alone. -/
theorem State.txnCommit_empty (hc : q.cmds = []) : ((s.txnCommit c).sess c.sess).txn = none ∧ (s.txnCommit c).delta = s.delta := by
  rw [State.txnCommit_untimed hp hq hi hr, hc, if_pos List.isEmpty_nil]
  exact ⟨(State.sess_replyTo ..).txn.trans (State.sess_txnClosed hx), State.replyTo_delta ..⟩

/-- A commit of commands that all can be applied ends the transaction and enters them as one set. -/
theorem State.txnCommit_set (hc : q.cmds ≠ []) : ((s.txnCommit c).sess c.sess).txn = none ∧
    s.txnCommit c = (s.setSess c.sess fun t => { t with txn := none }).enterSet c r false false := by
  rw [State.txnCommit_untimed hp hq hi hr, if_neg (by simpa using hc)]
  refine ⟨?_, rfl⟩
  rw [State.sess, State.enterSet_kcp]
  exact State.sess_txnClosed hx

end Commit

/-- A deferred command of its session's open transaction is staged and answered so. -/
theorem exec_deferredRow_stages {r : KcpRow} (hr : r ∈ deferredRows) {p : Packet} {s : State} {q : Txn} (hi : InOrder r.op p s)
    (hs : r.spec.txn = true) (hl : r.spec.len (toCmd r.op p) = true) (hn : notAllowed r.spec (toCmd r.op p) (s.received p) = none)
    (hh : (s.received p).handingOver = false) (ht : (toCmd r.op p).txn ≠ 0)
    (hq : ((s.received p).sess (toCmd r.op p).sess).txn = some q) (hid : q.id = (toCmd r.op p).txn)
    (hb : q.bytes + p.payload.length ≤ 2 ^ 20)
    (hp : r.spec.param (toCmd r.op p) ((s.received p).projected.withStaged (toCmd r.op p)) = none)
    (hu : (s.received p).paired = false) : exec (r.send p) s =
      .next (((s.received p).stage (toCmd r.op p) (toCmd r.op p).plen).replyTo (toCmd r.op p) (reject stStaged) []) := by
  have hr' := List.mem_append_left immediateRows (List.mem_append_left shapedRows hr)
  rw [exec_commandRow r hr', kcpOp_inOrder hi (exempt_commandRow r hr'), State.checked_stages hl hn (.inl hh)
    (txnCheck_open hs hq hid hb) ht (ownTxn_deferredRow r hr) hp, State.stageCmd_unpaired hu (accept_deferredRow r hr _ _)]

/-- A commit in order reaches its transaction. -/
theorem exec_txnCommit {p : Packet} {s : State} (hi : InOrder 0x0B01 p s) (hp : p.payload = zeros 12) (hspi : isSpi p.ep = false)
    (hst : (s.received p).standby = false) (hh : (s.received p).handingOver = false) :
    exec (.txnCommit p) s = .next ((s.received p).txnCommit (toCmd 0x0B01 p)) := by
  have hlen : (toCmd 0x0B01 p).plen = 12 := by show p.payload.length = 12; rw [hp]; exact List.length_replicate
  have hspi' : isSpi (toCmd 0x0B01 p).ep = false := hspi
  show execTxnCommit p s = _
  unfold execTxnCommit
  dsimp only
  rw [served_turn hi.toTurn, handle_inOrder hi (by decide)]
  simp [hlen, hspi', hst, hh]

/-- Settles O11: a command of the open transaction passes check 11 and is staged; a commit by `State.txnCommit_untimed`. -/
theorem transactionsStageAndCommit : Obligations.TransactionsStageAndCommit := by
  refine ⟨fun r hr p s q hi => ?stage, fun p s q hi => ?commit⟩
  case stage =>
    intro u c hs hl hn hh ht hq hid hb hp hu hshape
    have hx : c.sess < u.kcp.sess.length := by rw [State.received_length]; exact hshape.sess_lt hi.session
    refine ⟨_, exec_deferredRow_stages hr hi hs hl hn hh ht hq hid hb hp hu, ?_, ?_⟩
    · rw [State.replyTo_delta, State.stage_delta, State.received_delta]
    · rw [(State.sess_replyTo ..).txn, State.stage_txn _ hx hq]
      rfl
  case commit =>
    intro u c hp hspi hst hh hshape hq hid r hr
    have hx : c.sess < u.kcp.sess.length := by rw [State.received_length]; exact hshape.sess_lt hi.session
    have hempty := State.txnCommit_empty hx hp hq hid hr
    rw [State.received_delta] at hempty
    rw [exec_txnCommit hi hp hspi hst hh]
    exact ⟨fun hc => ⟨_, rfl, hempty hc⟩, fun hc => ⟨_, rfl, State.txnCommit_set hx hp hq hid hr hc⟩⟩

end Sys2Proof.Machine

namespace Sys2Proof.Machine

/-! ### A session opens (R196, R197) -/

/-- An open without a tag is exempt from checks 6 and 7. -/
theorem inSession_exempt {s : State} {c : Cmd} (k : State → State) (he : exempt c.op = true) (hs : c.sess < 8)
    (hn : noSeqCheck c = true) :
    s.inSession c k = k s := by
  unfold State.inSession
  simp [he, hn, Nat.not_le.mpr hs]

/-- With no port reduced, none returns to 25 Gb/s. -/
theorem State.speedCheck_full {s : State} (h : ∀ k < 4, (s.np k).reduced = false) : s.speedCheck = s := by
  have hl : ∀ l : List Nat, (∀ k ∈ l, k < 4) → l.foldl (fun s k => if portInUse s k then s.speedBack k else s) s = s := by
    intro l
    induction l with
    | nil => exact fun _ => rfl
    | cons k l ih =>
      intro hl
      have hk : s.speedBack k = s := by unfold State.speedBack; rw [h k (hl k (by simp))]; rfl
      rw [List.foldl_cons, hk, ite_self]
      exact ih fun j hj => hl j (by simp [hj])
  exact hl _ fun _ => List.mem_range.mp

/-- No other session holds an endpoint that none is bound to. -/
theorem otherAt_none {s : State} {x : Nat} {e : Endpoint} (h : ∀ y < 8, y ≠ x → s.bound y e = false) : otherAt s x e = none := by
  unfold otherAt
  rw [List.find?_eq_none]
  intro y hy
  by_cases hyx : y = x
  · simp [hyx]
  · simp [h y (List.mem_range.mp hy) hyx]

@[simp] theorem State.stageAs_np (s : State) (x : Nat) (f : Session → Session) (k : Nat) : (s.stageAs x f).np k = s.np k := by
  unfold State.stageAs
  split <;> rfl

/-- The state of a session that an untagged open has opened, before its reply (R197). -/
def State.opens (s : State) (c : Cmd) : State := ((s.closeSess c.sess).setSess c.sess (opened c)).stageSess c.sess

theorem State.opens_length (s : State) (c : Cmd) : (s.opens c).kcp.sess.length = s.kcp.sess.length := by
  rw [State.opens, State.stageSess, State.stageAs_length, State.setSess_length, State.closeSess, State.setSess_length]

theorem State.sess_opens_ne (s : State) (c : Cmd) {y : Nat} (h : y ≠ c.sess) : (s.opens c).sess y = s.sess y := by
  rw [State.opens, State.stageSess, State.sess_stageAs_ne _ _ h, State.sess_setSess_ne _ _ h, State.sess_closeSess_ne _ h]

/-- The session is as `opened` makes it, but for the count of what was staged. -/
theorem State.sess_opens {s : State} {c : Cmd} (hx : c.sess < s.kcp.sess.length) :
    (opened c (s.sess c.sess).shut).Counted ((s.opens c).sess c.sess) := by
  have h := State.sess_stageAs ((s.closeSess c.sess).setSess c.sess (opened c)) c.sess id c.sess
  rw [State.sess_setSess_self _ _ _ (by rw [State.closeSess, State.setSess_length]; exact hx), State.sess_closeSess_self] at h
  exact h

/-- An open without a tag of a session that is free or its sender's. -/
structure Opens (c : Cmd) (s : State) : Prop where
  op : c.op = 1
  sess : c.sess < s.kcp.sess.length
  free : (s.sess c.sess).isOpen = false ∨ (s.sess c.sess).ep = c.ep
  alone : ∀ y < 8, y ≠ c.sess → s.bound y c.ep = false
  untagged : c.tagged = false
  length : c.plen = 4
  idle : isUdp c.ep = true → c.at 20 2 ≤ 3600 ∨ c.at 20 2 = 0xFFFF
  active : s.standby = false
  noHandover : s.handingOver = false
  outside : c.txn = 0
  full : ∀ k < 4, (s.np k).reduced = false

/-- Such an open opens the session and answers with success. -/
theorem Opens.checked {c : Cmd} {s : State} (h : Opens c s) :
    ∃ data, s.checked specSessionOpen c = (s.opens c).replyTo c (answered [1]) data := by
  have hp : specSessionOpen.param c s = none := by
    show firstBad [(isUdp c.ep && c.at 20 2 > 3600 && c.at 20 2 ≠ 0xFFFF, 20)] = none
    have := h.idle
    cases hu : isUdp c.ep
    · rfl
    · have hi := h.idle hu
      simp only [firstBad, Bool.true_and, Bool.and_eq_true, decide_eq_true_eq]
      rw [if_neg (by omega)]
  have hb : specSessionOpen.busy c s = none := by
    show (if (s.sess c.sess).isOpen && (s.sess c.sess).ep != c.ep then _ else (otherAt s c.sess c.ep).map _) = none
    rw [otherAt_none h.alone, if_neg]
    · rfl
    · obtain hf | hf := h.free <;> simp [hf]
  have hr : specSessionOpen.run c s = readOk (s.opens c) [1] (beBytes 4 ((s.opens c).sess c.sess).h) := by
    have hf : (s.opens c).speedCheck = s.opens c := State.speedCheck_full fun k hk => by
      rw [State.opens, State.stageSess, State.stageAs_np]
      exact h.full k hk
    show readOk (s.opens c).speedCheck [1] _ = _
    rw [hf]
    rfl
  have hn : notAllowed specSessionOpen c s = none := by
    simp [notAllowed, specSessionOpen, h.active]
  refine ⟨beBytes 4 ((s.opens c).sess c.sess).h, ?_⟩
  rw [State.checked_acts (by simp [specSessionOpen, h.length]) hn (.inl h.noHandover) (.inl h.outside) hp]
  exact State.runNow_answers hb hr

/-- What an open session's reply leaves of it: it is bound to its sender, its number is H and the only one received. -/
theorem Opens.spec {c : Cmd} {s : State} (h : Opens c s) (data : List Byte) :
    let t := (s.opens c).replyTo c (answered [1]) data
    (t.sess c.sess).isOpen = true ∧ (t.sess c.sess).ep = c.ep ∧ (t.sess c.sess).h = c.seq ∧ (t.sess c.sess).seen = 1 ∧
      (t.sess c.sess).evSeq = 0 ∧ (t.sess c.sess).mask = c.at 22 2 ∧ (t.sess c.sess).txn = none ∧ (t.sess c.sess).tagged = false ∧
      (t.sess c.sess).replies = [(c.seq, some (answered [1]))] ∧ ∀ y, y ≠ c.sess → t.sess y = s.sess y := by
  have ho := State.sess_opens h.sess
  have hb : (s.opens c).bound c.sess c.ep = true := by
    unfold State.bound
    rw [ho]
    simp [opened, h.untagged]
  have hc : consumed c.op c.tagged (answered [1]) = true := by rw [h.op, h.untagged]; rfl
  have ht := State.sess_replyTo_recorded data (by rw [State.opens_length]; exact h.sess) hb hc
  refine ⟨?_, ?_, ?_, ?_, ?_, ?_, ?_, ?_, ?_, fun y hy => ?_⟩
  case refine_10 => rw [State.replyTo_sess_ne _ _ _ _ hy, State.sess_opens_ne _ _ hy]
  all_goals
    rw [ht, ho]
    simp [opened, h.untagged, noteReply]

/-! ### Sessions are closed and masked; transactions begin and end (R205, R210, R229) -/

/-- A command that changes its session alone and is answered with success. -/
theorem replyTo_setSess_spec {s : State} {p : Packet} {op : Nat} {f : Session → Session} {r : ReplyRec} {data : List Byte} (hs : s.Shape)
    (hx : p.session.toNat < 8) :
    let t := ((s.received p).setSess p.session.toNat f).replyTo (toCmd op p) r data
    (f ((s.received p).sess p.session.toNat)).Noted (t.sess p.session.toNat) ∧ ∀ y, y ≠ p.session.toNat → t.sess y = s.sess y := by
  intro t
  have hn := State.sess_replyTo ((s.received p).setSess p.session.toNat f) (toCmd op p) r data p.session.toNat
  rw [State.sess_setSess_self _ _ _ (by rw [State.received_length]; exact hs.sess_lt hx)] at hn
  exact ⟨hn, fun y hy => by rw [State.replyTo_sess_ne _ _ _ _ hy, State.sess_setSess_ne _ _ hy, State.sess_received_ne _ _ hy]⟩

theorem Session.Taken.txn {t q : Session} (h : t.Taken q) : q.txn = t.txn := by rw [h]
theorem Session.Taken.timed {t q : Session} (h : t.Taken q) : q.timed = t.timed := by rw [h]
theorem Session.Noted.mask {t q : Session} (h : t.Noted q) : q.mask = t.mask := by rw [h]
theorem Session.Noted.timed {t q : Session} (h : t.Noted q) : q.timed = t.timed := by rw [h]

section Runs
variable {s : State} {c : Cmd} (hu : s.paired = false)
include hu

theorem run_eventMask : specEventMask.run c s = readOk (s.setSess c.sess fun t => { t with mask := c.at 20 2 }) [1] [] := by
  show readOk (State.stageAs _ _ _) [1] [] = _
  rw [State.stageAs_unpaired (by exact hu)]

theorem run_sessionClose : specSessionClose.run c s = readOk s [1] [] := by
  show readOk (State.stageAs _ _ _) [1] [] = _
  rw [State.stageAs_unpaired hu]

theorem run_txnBegin : specTxnBegin.run c s = readOk (s.setSess c.sess fun t => { t with txn := some { id := c.txn } }) [1] [] := by
  show readOk (State.stageAs _ _ _) [1] [] = _
  rw [State.stageAs_unpaired (by exact hu)]

/-- What an abort makes of a session: its open transaction goes, or else the pending commit of that identifier. -/
def aborted (c : Cmd) (t : Session) : Session :=
  if (match t.txn with | some q => q.id == c.txn | none => false) then { t with txn := none }
  else { t with timed := t.timed.filter fun q => q.id ≠ c.txn }

theorem run_txnAbort : specTxnAbort.run c s = readOk (s.setSess c.sess (aborted c)) [1] [] := by
  show readOk (State.stageAs _ _ _) [1] [] = _
  rw [State.stageAs_unpaired (by exact hu)]
  rfl

end Runs

/-- Unpaired, over a transport other than SPI, the active unit admits a transaction's opcode. -/
theorem notAllowed_none {sp : OpSpec} {c : Cmd} {s : State} (hspi : isSpi c.ep = false) (hp : sp.permit c s = none)
    (hs : s.standby = false) : notAllowed sp c s = none := by
  simp [notAllowed, hspi, hp, hs]

theorem busy_txnBegin {s : State} {c : Cmd} (ht : c.txn ≠ 0) (hn : (s.sess c.sess).txn = none)
    (hq : ∀ q ∈ (s.sess c.sess).timed, q.id ≠ c.txn) : specTxnBegin.busy c s = none := by
  simpa [specTxnBegin, ht, hn] using hq

theorem busy_txnAbort {s : State} {c : Cmd} {q : Txn} (hq : (s.sess c.sess).txn = some q) (hi : q.id = c.txn) :
    specTxnAbort.busy c s = none := by
  simp [specTxnAbort, hq, hi]

theorem aborted_txn {c : Cmd} {t : Session} {q : Txn} (hq : t.txn = some q) (hi : q.id = c.txn) : (aborted c t).txn = none := by
  simp [aborted, hq, hi]

/-- Settles O9: an open without a tag by `Opens.spec`; the others by what each runs, and what its reply leaves of the sessions. -/
theorem sessionsFollowTheirCommands : Obligations.SessionsFollowTheirCommands := by
  refine ⟨fun p s hf => ?opens, fun p s hi ha hu hs => ?mask, fun p s hi ha hu hs => ?close,
    fun p s hi hl hspi hst hh hu hs ht hn hq => ?begins, fun p s q hi hl hspi hst hh hu hs hq hid => ?aborts⟩
  case opens =>
    intro x u hx hfree halone htag hlen hidle hst hh htxn hs hfull
    have htag' : (toCmd 1 p).tagged = false := by simp [toCmd, htag]
    have ho : Opens (toCmd 1 p) (s.servedFor p) := {
      op := rfl
      sess := by rw [served_sess]; exact hs.sess_lt hx
      free := by rw [sess_servedFor]; exact hfree
      alone := by rw [bound_servedFor]; exact halone
      untagged := htag'
      length := hlen
      idle := hidle
      active := by rw [State.servedFor_eq]; exact hst
      noHandover := hh
      outside := by simp [toCmd, htxn]
      full := by rw [State.servedFor_eq]; exact hfull }
    obtain ⟨data, hd⟩ := ho.checked
    have he : exec (.sysSessionOpen p) s = .next ((s.servedFor p).checked specSessionOpen (toCmd 1 p)) := by
      show Host.Outcome.next (kcpOp 1 specSessionOpen p s) = _
      have hn : noSeqCheck (toCmd 1 p) = true := by simp [noSeqCheck, htag', show (toCmd 1 p).op = 1 from rfl]
      rw [kcpOp, served_turn hf.toTurn, handle_of_framed hf, inSession_exempt _ rfl hx hn]
    have h := ho.spec data
    rw [sess_servedFor] at h
    rw [he, hd]
    exact ⟨_, rfl, h⟩
  case mask =>
    obtain ⟨hm, hy⟩ := replyTo_setSess_spec (op := 4) (f := fun t => { t with mask := beAt p.payload 0 2 })
      (r := answered [1]) (data := []) hs hi.session
    have he := kcpOp_answers hi rfl ha.length ha.allowed ha.active (.inl ha.outside) rfl rfl rfl (run_eventMask hu)
    exact ⟨_, congrArg Host.Outcome.next he, hm.mask, hy⟩
  case close =>
    have hc := State.sess_closeSess_self ((s.received p).replyTo (toCmd 2 p) (answered [1]) []) p.session.toNat
    have he := kcpOp_answers hi rfl ha.length ha.allowed ha.active (.inl ha.outside) rfl rfl rfl (run_sessionClose hu)
    refine ⟨_, congrArg Host.Outcome.next he, ?_, ?_, ?_, fun y hy => ?_⟩
    · exact congrArg Session.isOpen hc
    · exact congrArg Session.txn hc
    · exact (congrArg Session.timed hc).trans ((State.sess_replyTo ..).timed.trans (s.sess_received p _).timed)
    · exact (State.sess_closeSess_ne _ hy).trans ((State.replyTo_sess_ne _ _ _ _ hy).trans (s.sess_received_ne p hy))
  case begins =>
    obtain ⟨hm, hy⟩ := replyTo_setSess_spec (op := 0x0B00) (f := fun t => { t with txn := some { id := p.txn.toNat } })
      (r := answered [1]) (data := []) hs hi.session
    have hb : specTxnBegin.busy (toCmd 0x0B00 p) (s.received p) = none :=
      busy_txnBegin (fun h => ht (BitVec.eq_of_toNat_eq h)) ((s.sess_received p _).txn.trans hn) ((s.sess_received p _).timed ▸ hq)
    have hlen : specTxnBegin.len (toCmd 0x0B00 p) = true := by simp [specTxnBegin, Cmd.plen, toCmd, hl]
    have he := kcpOp_answers hi rfl hlen (notAllowed_none hspi rfl hst) (.inl hh) (.inr rfl) rfl rfl hb (run_txnBegin hu)
    exact ⟨_, congrArg Host.Outcome.next he, hm.txn, hy⟩
  case aborts =>
    have hq' := (s.sess_received p p.session.toNat).txn.trans hq
    obtain ⟨hm, hy⟩ := replyTo_setSess_spec (op := 0x0B02) (f := aborted (toCmd 0x0B02 p)) (r := answered [1]) (data := []) hs
      hi.session
    have hlen : specTxnAbort.len (toCmd 0x0B02 p) = true := by simp [specTxnAbort, Cmd.plen, toCmd, hl]
    have he := kcpOp_answers hi rfl hlen (notAllowed_none hspi rfl hst) (.inl hh) (.inr rfl) rfl rfl (busy_txnAbort hq' hid)
      (run_txnAbort hu)
    exact ⟨_, congrArg Host.Outcome.next he, hm.txn.trans (aborted_txn hq' hid), hy⟩

end Sys2Proof.Machine

namespace Sys2Proof.Machine

/-! ### Big-endian numbers in a packet (R10) -/

@[simp] theorem length_beBytes (n v : Nat) : (beBytes n v).length = n := by
  induction n with
  | zero => rfl
  | succ n ih => simp [beBytes, ih]

theorem beNat_beBytes (n v : Nat) : beNat (beBytes n v) = v % 256 ^ n := by
  induction n with
  | zero => simp [beBytes, beNat, Nat.mod_one]
  | succ n ih =>
    rw [beBytes, beNat, ih, length_beBytes, BitVec.toNat_ofNat, Nat.pow_succ 256 n, Nat.mod_mul (a := 256 ^ n), Nat.add_comm,
      Nat.mul_comm]

/-- Bytes that lie past those in front. -/
theorem slice_append {a : List Byte} {o : Nat} (h : a.length ≤ o) (n : Nat) (b : List Byte) :
    slice (a ++ b) o n = slice b (o - a.length) n := by
  rw [slice, slice, List.drop_append, List.drop_eq_nil_of_le h, List.nil_append]

theorem slice_front (a b : List Byte) : slice (a ++ b) 0 a.length = a := by
  rw [slice, List.drop_zero, List.take_left]

/-- A number at the front of bytes. -/
theorem beNat_slice_beBytes (n v : Nat) (b : List Byte) : beNat (slice (beBytes n v ++ b) 0 n) = v % 256 ^ n := by
  have h := slice_front (beBytes n v) b
  rw [length_beBytes] at h
  rw [h, beNat_beBytes]

/-! ### Packets leave by their transport (R200, R216, R219, R220, R256, R258) -/

section Deliver
variable {s : State} {p : OutPkt}

/-- A packet of a tagged session goes with the tag of its key. -/
theorem State.sign_tagged {q : Key} (ht : p.tagged = true) (hk : nth none s.sec.keys p.session = some q) :
    s.sign p = { p with tag := (hmac256 q.key p.core).take 16 } := by
  simp [State.sign, ht, hk]

section Network
variable {k : Fin 6} {ip : Word} {port : BitVec 16} (he : p.ep = .udp k ip port) (hup : (s.np k.val).up = true) (hon : s.netOn = true)
include he hup hon

theorem State.deliver_udp (hp : (s.np k.val).pause = 0) :
    s.deliver p = ({ s with out := .udp (s.sign p) :: s.out }).count (aNet k.val + 0xC0) := by
  unfold State.deliver State.place
  simp only [he, hup, hon, hp]
  rfl

theorem State.deliver_udp_paused (hp : (s.np k.val).pause ≠ 0) :
    s.deliver p = s.modNp k.val fun q => { q with own := q.own ++ [(2, .kcp (s.sign p))] } := by
  unfold State.deliver State.place
  simp [he, hup, hon, hp]

end Network

theorem State.deliver_spi (he : p.ep = .spi) : s.deliver p = { s with kcp := { s.kcp with spiOut := s.kcp.spiOut ++ [p] } } := by
  unfold State.deliver
  simp only [he]

/-- No packet is empty. -/
theorem OutPkt.bytes_ne_nil (p : OutPkt) : p.bytes ≠ [] := by
  simp [OutPkt.bytes, OutPkt.core, beBytes]

/-- Without a buffer no packet is placed. -/
theorem cutBuffers_none {bs : List Byte} (h : bs ≠ []) : cutBuffers [] bs = none := by
  cases bs with
  | nil => exact absurd rfl h
  | cons b bs => rfl

/-- A packet to a ring pair that has no buffer waits for one. -/
theorem State.deliver_pcie_waits {k : Fin 4} (he : p.ep = .pcie k) (hk : k.val < s.kcp.rings.length) (hp : (s.ring k.val).posted = [])
    (hw : (s.ring k.val).waiting = []) : s.deliver p = s.setRing k.val fun r => { r with waiting := r.waiting ++ [p] } := by
  have hr := s.ring_setRing_self k.val (fun r => { r with waiting := r.waiting ++ [p] }) hk
  unfold State.deliver
  simp only [he, hr, hw]
  unfold flushRing
  simp [hr, hp, hw, cutBuffers_none p.bytes_ne_nil]

end Deliver

/-! ### Events (R213, R215) -/

/-- An event as its session is sent it. -/
def eventPkt (s : State) (x code txn : Nat) (pl : List Byte) : OutPkt :=
  { ep := (s.sess x).ep, session := x, seq := (s.sess x).evSeq, op := code, txn := txn, tagged := (s.sess x).tagged
    body := .event (secOf s.nowNs) (nsOf s.nowNs) pl (s.sess x).loss }

/-- A session that is due an event is sent it, and its event sequence moves on. -/
theorem sendEvent_due {s : State} {x code : Nat} (txn : Nat) (pl : List Byte) (ho : (s.sess x).isOpen = true)
    (hm : (s.sess x).mask.testBit (code / 256 % 16) = true) : sendEvent code txn pl x s =
      (s.setSess x fun q => { q with evSeq := (q.evSeq + 1) % 2 ^ 32, loss := false }).deliver (eventPkt s x code txn pl) := by
  unfold sendEvent
  simp only [ho, hm]
  rfl

/-- The header and payload of a packet that leaves, as its Carat covers them (Table KCP-1). -/
def OutPkt.head (p : OutPkt) : List Byte :=
  beBytes 2 0x4B43 ++ [1, BitVec.ofNat 8 p.flags] ++ beBytes 4 (p.body.payload.length + 24) ++ beBytes 4 p.seq ++
    [BitVec.ofNat 8 p.session, 0] ++ beBytes 2 p.op ++ beBytes 4 p.txn ++ p.body.payload

theorem OutPkt.bytes_eq (p : OutPkt) : p.bytes = p.head ++ (beBytes 4 (crc32c p.head).toNat ++ p.tag) := List.append_assoc ..

/-- An event's packet: its header, the PTP time of the occurrence and the payload, then its Carat and tag. -/
theorem OutPkt.bytes_event {p : OutPkt} {sec ns : Nat} {pl : List Byte} {loss : Bool} (hb : p.body = .event sec ns pl loss) :
    p.bytes = beBytes 2 0x4B43 ++ ([1, BitVec.ofNat 8 p.flags] ++ (beBytes 4 (p.body.payload.length + 24) ++ (beBytes 4 p.seq ++
      ([BitVec.ofNat 8 p.session, 0] ++ (beBytes 2 p.op ++ (beBytes 4 p.txn ++ (beBytes 8 sec ++ (beBytes 4 ns ++ (pl ++
        (beBytes 4 (crc32c p.head).toNat ++ p.tag)))))))))) := by
  have hp : p.body.payload = beBytes 8 sec ++ beBytes 4 ns ++ pl := by rw [hb]; rfl
  rw [OutPkt.bytes_eq]
  generalize beBytes 4 (crc32c p.head).toNat ++ p.tag = tail
  unfold OutPkt.head
  generalize beBytes 4 (p.body.payload.length + 24) = len
  rw [hp]
  simp only [List.append_assoc]

/-- An event has its EVENT flag. -/
theorem OutPkt.event_flag {p : OutPkt} {sec ns : Nat} {pl : List Byte} {loss : Bool} (hb : p.body = .event sec ns pl loss) :
    (nth 0 p.bytes 3).getLsbD 1 = true := by
  have hf : p.flags = 2 + 16 * b2n loss + 4 * b2n p.tagged := by rw [OutPkt.flags, hb]
  have h3 : nth 0 p.bytes 3 = BitVec.ofNat 8 p.flags := by rw [OutPkt.bytes_event hb]; simp [nth, beBytes]
  rw [h3, hf]
  cases loss <;> cases p.tagged <;> decide

/-- The fields of an event's packet lie where Table KCP-1 and R213 have them. -/
theorem OutPkt.event_fields {p : OutPkt} {sec ns : Nat} {pl : List Byte} {loss : Bool} (hb : p.body = .event sec ns pl loss) :
    beAt p.bytes 8 4 = p.seq % 256 ^ 4 ∧ beAt p.bytes 16 4 = p.txn % 256 ^ 4 ∧ beAt p.bytes 20 8 = sec % 256 ^ 8 ∧
    beAt p.bytes 28 4 = ns % 256 ^ 4 ∧ slice p.bytes 32 pl.length = pl := by
  have h := OutPkt.bytes_event hb
  unfold beAt
  rw [h]
  simp only [slice_append, beNat_slice_beBytes, length_beBytes, List.length_cons, List.length_nil, Nat.reduceAdd, Nat.reduceLeDiff,
    Nat.reduceSub, true_and]
  exact slice_front ..

/-- The event that a session is sent says what the session and the time are as it is sent. -/
theorem eventPkt_bytes {s : State} {x code txn : Nat} {pl : List Byte} (hq : (s.sess x).evSeq < 2 ^ 32) (ht : txn < 2 ^ 32)
    (hn : secOf s.nowNs < 2 ^ 64) : let p := eventPkt s x code txn pl
    (nth 0 p.bytes 3).getLsbD 1 = true ∧ beAt p.bytes 8 4 = (s.sess x).evSeq ∧ beAt p.bytes 16 4 = txn ∧
    beAt p.bytes 20 8 = secOf s.nowNs ∧ beAt p.bytes 28 4 = nsOf s.nowNs ∧ (p.bytes.drop 32).take pl.length = pl := by
  intro p
  have hns : nsOf s.nowNs < 256 ^ 4 := (Nat.mod_lt _ (by decide)).trans (by decide)
  obtain ⟨h8, h16, h20, h28, hpl⟩ := OutPkt.event_fields (p := p) rfl
  exact ⟨OutPkt.event_flag (p := p) rfl, h8.trans (Nat.mod_eq_of_lt hq), h16.trans (Nat.mod_eq_of_lt ht), h20.trans (Nat.mod_eq_of_lt hn),
    h28.trans (Nat.mod_eq_of_lt hns), hpl⟩

/-- Settles O13: by what each transport does with a packet, and by what an event's packet spells. -/
theorem repliesAndEventsLeave : Obligations.RepliesAndEventsLeave := by
  refine ⟨fun s p => ⟨fun k ip port he hup hon => ⟨State.deliver_udp he hup hon, fun hp hs => ?paused⟩,
    fun q ht hk => State.sign_tagged ht hk, State.deliver_spi, fun k he hs hp hw => ?waits⟩, fun s x code txn pl hs hx => ?event⟩
  case paused =>
    obtain ⟨-, -, -, -, -, hports, -⟩ := hs
    rw [State.deliver_udp_paused he hup hon hp, State.np_modNp_self _ _ _ (by omega)]
    exact ⟨rfl, rfl⟩
  case waits =>
    obtain ⟨-, hrings, -⟩ := hs
    have hk : k.val < s.kcp.rings.length := by omega
    rw [State.deliver_pcie_waits he hk hp hw, State.ring_setRing_self _ _ _ hk, hw]
    exact ⟨rfl, rfl⟩
  case event =>
    intro q t
    refine ⟨fun ho hm => ?due, fun h => sendEvent_none _ _ _ _ (by obtain h | h := h <;> simp [q] at h <;> simp [h])⟩
    case due =>
      have ht : t = _ := sendEvent_due txn pl ho hm
      have hsess : t.kcp.sess = (s.setSess x fun q => { q with evSeq := (q.evSeq + 1) % 2 ^ 32, loss := false }).kcp.sess := by
        rw [ht, State.deliver_sessions]
      refine ⟨?_, fun y hy => sendEvent_sess_ne _ _ _ _ hy, fun hspi hq htxn hn =>
        ⟨eventPkt s x code txn pl, ?_, eventPkt_bytes hq htxn hn⟩⟩
      · rw [State.sess, hsess]
        exact congrArg Session.evSeq (s.sess_setSess_self x _ (hs.sess_lt hx))
      · rw [ht, State.deliver_spi (by exact hspi)]
        rfl

end Sys2Proof.Machine

namespace Sys2Proof.Machine

/-! ### Fields of a word -/

theorem getLsbD_wmask (lo len i : Nat) (hi : i < 32) : (wmask lo len).getLsbD i = (decide (lo ≤ i) && decide (i - lo < len)) := by
  rw [wmask, BitVec.getLsbD_ofNat, Nat.testBit_mul_two_pow, Nat.testBit_two_pow_sub_one]
  simp [hi]

theorem getLsbD_wfield (lo len v i : Nat) (hi : i < 32) :
    (wfield lo len v).getLsbD i = (decide (lo ≤ i) && (decide (i - lo < len) && v.testBit (i - lo))) := by
  rw [wfield, BitVec.getLsbD_ofNat, Nat.testBit_mul_two_pow, Nat.testBit_mod_two_pow]
  simp [hi]

/-- A field put into a word has its bits, and the bits outside it stay. -/
theorem getLsbD_wput (w : Word) (lo len v i : Nat) (hi : i < 32) : (wput w lo len v).getLsbD i =
    if lo ≤ i ∧ i - lo < len then v.testBit (i - lo) else w.getLsbD i := by
  rw [wput, BitVec.getLsbD_or, BitVec.getLsbD_and, BitVec.getLsbD_not, getLsbD_wmask _ _ _ hi, getLsbD_wfield _ _ _ _ hi]
  by_cases hlo : lo ≤ i <;> by_cases hlen : i - lo < len <;> simp [hi, hlo, hlen]

theorem testBit_wbits (w : Word) (lo len i : Nat) : (wbits w lo len).testBit i = (decide (i < len) && w.getLsbD (lo + i)) := by
  rw [wbits, bitsOf, Nat.testBit_mod_two_pow, Nat.testBit_div_two_pow, BitVec.testBit_toNat, Nat.add_comm]

theorem wbits_wput_self (w : Word) {lo len : Nat} (h : lo + len ≤ 32) (v : Nat) : wbits (wput w lo len v) lo len = v % 2 ^ len := by
  refine Nat.eq_of_testBit_eq fun i => ?_
  rw [testBit_wbits, Nat.testBit_mod_two_pow]
  by_cases hi : i < len
  · rw [getLsbD_wput _ _ _ _ _ (by omega)]
    simp [hi]
  · simp [hi]

/-! ### Sessions that close together (R196) -/

/-- Close each session of a list that a test picks. -/
def State.closeWhere (s : State) (b : Session → Bool) (l : List Nat) : State :=
  l.foldl (fun s x => if b (s.sess x) then s.closeSess x else s) s

theorem State.closeEp_eq (s : State) (e : Endpoint) :
    s.closeEp e = s.closeWhere (fun q => q.isOpen && q.ep == e) (List.range 8) := rfl

/-- Closing sessions changes sessions alone. -/
theorem State.closeWhere_eq (b : Session → Bool) (l : List Nat) : ∀ s : State,
    s.closeWhere b l = { s with kcp := { s.kcp with sess := (s.closeWhere b l).kcp.sess } } := by
  induction l with
  | nil => exact fun _ => rfl
  | cons x l ih =>
    intro s
    show (if b (s.sess x) then s.closeSess x else s).closeWhere b l = { s with kcp := { s.kcp with
      sess := ((if b (s.sess x) then s.closeSess x else s).closeWhere b l).kcp.sess } }
    split
    · rw [ih]; rfl
    · rw [ih]

/-- A session that is not picked stays as it is. -/
theorem State.sess_closeWhere_of_not {b : Session → Bool} (l : List Nat) : ∀ {s : State} {y : Nat}, y ∉ l ∨ b (s.sess y) = false →
    (s.closeWhere b l).sess y = s.sess y := by
  induction l with
  | nil => exact fun _ => rfl
  | cons x l ih =>
    intro s y h
    have hy : (if b (s.sess x) then s.closeSess x else s).sess y = s.sess y := by
      split
      next hx =>
        refine s.sess_closeSess_ne fun hyx => ?_
        subst hyx
        simp [hx] at h
      next => rfl
    show ((if b (s.sess x) then s.closeSess x else s).closeWhere b l).sess y = _
    rw [ih, hy]
    rw [hy]
    exact h.imp_left fun h hl => h (List.mem_cons_of_mem _ hl)

/-- A session that is picked is shut. -/
theorem State.sess_closeWhere_of_mem {b : Session → Bool} {l : List Nat} (hl : l.Nodup) {s : State} {y : Nat} (hy : y ∈ l)
    (hb : b (s.sess y) = true) : (s.closeWhere b l).sess y = (s.sess y).shut := by
  induction l generalizing s with
  | nil => simp at hy
  | cons x l ih =>
    obtain ⟨hx, hl⟩ := List.nodup_cons.mp hl
    show ((if b (s.sess x) then s.closeSess x else s).closeWhere b l).sess y = _
    by_cases hyx : y = x
    · subst hyx
      rw [if_pos hb, State.sess_closeWhere_of_not l (.inl hx), State.sess_closeSess_self]
    · have hs : (if b (s.sess x) then s.closeSess x else s).sess y = s.sess y := by
        split
        · exact s.sess_closeSess_ne hyx
        · rfl
      rw [ih hl ((List.mem_cons.mp hy).resolve_left hyx) (by rw [hs]; exact hb), hs]

/-- Afterwards no session is bound to the endpoint. -/
theorem State.bound_closeEp (s : State) {x : Nat} (hx : x < 8) (e : Endpoint) : (s.closeEp e).bound x e = false := by
  rw [State.closeEp_eq, State.bound]
  cases hb : (s.sess x).isOpen && (s.sess x).ep == e
  · rw [State.sess_closeWhere_of_not _ (.inr hb)]
    exact hb
  · rw [State.sess_closeWhere_of_mem List.nodup_range (List.mem_range.mpr hx) hb]
    rfl

/-- A session that is bound to the endpoint closes. -/
theorem State.sess_closeEp_of_bound {s : State} {x : Nat} (hx : x < 8) {e : Endpoint} (hb : s.bound x e = true) :
    (s.closeEp e).sess x = (s.sess x).shut := by
  rw [State.closeEp_eq]
  exact State.sess_closeWhere_of_mem List.nodup_range (List.mem_range.mpr hx) hb

end Sys2Proof.Machine

namespace Sys2Proof.Machine

/-! ### Interrupt messages and halts of a ring pair (R217) -/

/-- A message changes the MSI-X table's pending word alone. -/
theorem State.reg_msix (s : State) (v : Nat) {a : Nat} (ha : a ≠ aPcie + 0x9000) : (s.msix v).reg a = s.reg a := by
  unfold State.msix
  split
  · exact s.reg_raise_ne _ ha
  · rfl

theorem State.reg_devIrq (s : State) {a : Nat} (ha : a ≠ aPcie + 0x9000) : s.devIrq.reg a = s.reg a := by
  unfold State.devIrq
  dsimp only
  split
  · exact s.reg_msix _ ha
  · rfl

@[simp] theorem State.devIrq_kcp (s : State) : s.devIrq.kcp = s.kcp := by
  unfold State.devIrq
  dsimp only
  split
  · exact s.msix_kcp _
  · rfl

@[simp] theorem State.closeEp_regs (s : State) (e : Endpoint) : (s.closeEp e).regs = s.regs := by
  rw [State.closeEp_eq, State.closeWhere_eq]
@[simp] theorem State.closeEp_rx (s : State) (e : Endpoint) : (s.closeEp e).kcp.rx = s.kcp.rx := by
  rw [State.closeEp_eq, State.closeWhere_eq]
@[simp] theorem State.closeEp_rings (s : State) (e : Endpoint) : (s.closeEp e).kcp.rings = s.kcp.rings := by
  rw [State.closeEp_eq, State.closeWhere_eq]

theorem State.bound_congr {s t : State} (h : t.kcp.sess = s.kcp.sess) (x : Nat) (e : Endpoint) : t.bound x e = s.bound x e := by
  unfold State.bound State.sess
  rw [h]

/-- A pair that halts says why. -/
theorem State.reg_ringHalt (s : State) (k : Fin 4) (cause : Nat) :
    (s.ringHalt k cause).reg (aRing k.val + 0x44) = wput (s.reg (aRing k.val + 0x44) ||| 1) 4 4 cause := by
  unfold State.ringHalt
  rw [State.reg_devIrq _ (by unfold aRing; omega), reg_congr (State.closeEp_regs ..)]
  show (State.setReg (s.raise (aRing k.val + 0x44) 1) (aRing k.val + 0x44) _).reg _ = _
  rw [State.reg_setReg_self, State.reg_raise_self]

/-- A pair that halts gives its cause, and its session closes. -/
theorem State.ringHalt_spec (s : State) (k : Fin 4) {cause : Nat} (hc : cause < 16) :
    ringCause (s.ringHalt k cause) k.val = cause ∧ ((s.ringHalt k cause).reg (aRing k.val + 0x44)).getLsbD 0 = true ∧
    (s.ringHalt k cause).kcp.rx = s.kcp.rx ∧
    ∀ x < 8, s.bound x (.pcie k) = true → ((s.ringHalt k cause).sess x).isOpen = false := by
  refine ⟨?_, ?_, ?_, fun x hx hb => ?_⟩
  · rw [ringCause, State.reg_ringHalt, wbits_wput_self _ (by decide)]
    exact Nat.mod_eq_of_lt hc
  · rw [State.reg_ringHalt, getLsbD_wput _ _ _ _ _ (by decide)]
    simp
  · unfold State.ringHalt
    rw [State.devIrq_kcp, State.closeEp_rx]
    rfl
  · unfold State.ringHalt State.sess
    rw [State.devIrq_kcp]
    refine congrArg Session.isOpen (State.sess_closeEp_of_bound hx ?_)
    rw [State.bound_congr (State.setRing_sessions ..)]
    exact hb

/-! ### Tails and reply buffers (R216) -/

section Tail
variable {s : State} {k o sizeOff : Nat} {v : Word}

/-- A tail below the ring size is stored. -/
theorem State.ringTail_stored (h : v.toNat % 4096 < ringEntries s k sizeOff) :
    s.ringTail k o sizeOff v = s.setReg (aRing k + o) (v &&& 0xFFF) := by
  rw [State.ringTail, if_neg (by rw [wbits_zero]; omega)]

/-- A tail at or above the ring size is ignored. -/
theorem State.ringTail_ignored (h : ringEntries s k sizeOff ≤ v.toNat % 4096) :
    s.ringTail k o sizeOff v = s.raise (aRing k + 0x44) 0x100 := by
  rw [State.ringTail, if_pos (by rw [wbits_zero]; omega)]

end Tail

theorem ringRuns_congr {s t : State} {k : Nat} (h40 : t.reg (aRing k + 0x40) = s.reg (aRing k + 0x40))
    (h44 : t.reg (aRing k + 0x44) = s.reg (aRing k + 0x44)) : ringRuns t k = ringRuns s k := by
  unfold ringRuns ringEnabled ringCause
  rw [h40, h44]

/-- Reply buffers have been posted at a pair, and nothing else of rings, registers and outputs differs. -/
structure Posted (k : Nat) (bufs : List RplDesc) (s t : State) : Prop where
  posted : (t.ring k).posted = (s.ring k).posted ++ bufs.map fun d => (d.addr, d.len)
  waiting : (t.ring k).waiting = (s.ring k).waiting
  others : ∀ j, j ≠ k → t.ring j = s.ring j
  regs : t.regs = s.regs
  out : t.out = s.out

/-- Descriptors that keep their rules are read one after the other by a pair that runs. -/
theorem State.foldl_readReply {k : Fin 4} (size : Nat) {bufs : List RplDesc}
    (hb : ∀ d ∈ bufs, goodBuffer d = true ∧ d.error = false) : ∀ {s : State}, k.val < s.kcp.rings.length → ringRuns s k.val = true →
      Posted k.val bufs s (bufs.foldl (State.readReply k size) s) := by
  induction bufs with
  | nil => exact fun _ _ => ⟨by simp, rfl, fun _ _ => rfl, rfl, rfl⟩
  | cons d bufs ih =>
    intro s hk hr
    obtain ⟨hgood, herr⟩ := hb d (by simp)
    have hd : State.readReply k size s d =
        s.setRing k.val fun r => { r with posted := r.posted ++ [(d.addr, d.len)], next := (r.next + 1) % size } := by
      simp [State.readReply, hr, herr, hgood]
    have h := ih (fun e he => hb e (by simp [he])) (s := State.readReply k size s d) (by rw [hd]; simpa [State.setRing] using hk)
      (by rw [hd]; exact hr)
    rw [List.foldl_cons]
    have hself := s.ring_setRing_self k.val
      (fun r => { r with posted := r.posted ++ [(d.addr, d.len)], next := (r.next + 1) % size }) hk
    refine ⟨?_, ?_, fun j hj => ?_, ?_, ?_⟩
    · rw [h.posted, hd, hself]; simp
    · rw [h.waiting, hd, hself]
    · rw [h.others j hj, hd, State.ring_setRing_ne _ _ hj]
    · rw [h.regs, hd]; rfl
    · rw [h.out, hd]; rfl

/-- A write of RPL_TAIL_k posts the buffers up to the tail; where nothing waits, nothing leaves. -/
theorem State.rplTail_posts {s : State} {k : Fin 4} {v : Word} {bufs : List RplDesc} (hk : k.val < s.kcp.rings.length)
    (hr : ringRuns s k.val = true) (hv : v.toNat % 4096 < ringEntries s k.val 0x28)
    (hb : ∀ d ∈ bufs, goodBuffer d = true ∧ d.error = false) (hw : (s.ring k.val).waiting = [])
    (hn : bufs.length = (v.toNat % 4096 + ringEntries s k.val 0x28 - (s.ring k.val).next) % ringEntries s k.val 0x28) :
    Posted k.val bufs (s.setReg (aRing k.val + 0x2C) (v &&& 0xFFF)) (s.rplTail k v bufs) := by
  have h := State.foldl_readReply (k := k) (ringEntries s k.val 0x28) hb (s := s.setReg (aRing k.val + 0x2C) (v &&& 0xFFF)) hk (by
    rw [ringRuns_congr (s.reg_setReg_ne _ (by omega)) (s.reg_setReg_ne _ (by omega))]; exact hr)
  have hv' : ¬ (decide (wbits v 0 12 ≥ ringEntries s k.val 0x28) || !ringRuns s k.val) = true := by
    rw [wbits_zero]; simp [hr]; omega
  have hn' : (wbits v 0 12 + ringEntries s k.val 0x28 - (s.ring k.val).next) % ringEntries s k.val 0x28 = bufs.length := by
    rw [wbits_zero]
    exact hn.symm
  have hw' : ((bufs.foldl (State.readReply k (ringEntries s k.val 0x28))
      (s.setReg (aRing k.val + 0x2C) (v &&& 0xFFF))).ring k.val).waiting = [] := h.waiting.trans hw
  unfold State.rplTail
  dsimp only
  rw [if_neg hv', hn', List.take_length, State.ringTail_stored hv, hw']
  exact h

/-! ### Command descriptors (R216) -/

section Read
variable {s : State} {k : Fin 4} {d : RingRead} (hr : ringRuns s k.val = true)
  (ht : s.reg (aRing k.val + 0x10) ≠ s.reg (aRing k.val + 0xC)) (hw : (s.ring k.val).waiting = [])
  (hp : (s.ring k.val).posted ≠ [])
include hr ht hw hp

/-- A pair that runs, has commands and holds a buffer reads its descriptor. -/
theorem exec_ringReadCompletion : exec (.ringReadCompletion k d) s =
    if d.error then .next (s.ringHalt k 3)
    else if d.addr % 4 ≠ 0 ∨ d.reserved ≠ 0 then .next (s.ringHalt k 1)
    else if d.len > 65560 then .next (s.ringHalt k 2)
    else .next (({ s.setReg (aRing k.val + 0x10) (wordN (if ringEntries s k.val 8 = 0 then 0
        else ((s.reg (aRing k.val + 0x10)).toNat + 1) % ringEntries s k.val 8)) with
      kcp := { s.kcp with rx := s.kcp.rx ++ [(Endpoint.pcie k, d.bytes.take d.len)] } }).writeBack k.val) := by
  have ht' : ((s.reg (aRing k.val + 0x10)).toNat == (s.reg (aRing k.val + 0xC)).toNat) = false := by
    simpa using fun h => ht (BitVec.eq_of_toNat_eq h)
  have hp' : (s.ring k.val).posted.isEmpty = false := by simpa using hp
  show execRingReadCompletion k d s = _
  unfold execRingReadCompletion
  simp only [hr, ht', hw, hp']
  rfl

/-- A descriptor in order hands its packet to Ganen, and the head moves on. -/
theorem ringReadCompletion_takes (he : d.error = false) (ha : d.addr % 4 = 0) (h0 : d.reserved = 0) (hl : d.len ≤ 65560)
    (hb : s.reg64 (aRing k.val + 0x48) = 0) (hs : 0 < ringEntries s k.val 8) :
    ∃ t, exec (.ringReadCompletion k d) s = .next t ∧ t.kcp.rx = s.kcp.rx ++ [(.pcie k, d.bytes.take d.len)] ∧
      t.reg (aRing k.val + 0x10) = BitVec.ofNat 32 (((s.reg (aRing k.val + 0x10)).toNat + 1) % ringEntries s k.val 8) ∧
      t.out = s.out := by
  have hwb : ∀ w kcp, (({ s.setReg (aRing k.val + 0x10) w with kcp := kcp } : State).writeBack k.val) =
      { s.setReg (aRing k.val + 0x10) w with kcp := kcp } := fun w kcp => by
    have h : ({ s.setReg (aRing k.val + 0x10) w with kcp := kcp } : State).reg64 (aRing k.val + 0x48) = 0 := by
      show ((s.setReg (aRing k.val + 0x10) w).reg _).toNat + 2 ^ 32 * ((s.setReg (aRing k.val + 0x10) w).reg _).toNat = 0
      rw [State.reg_setReg_ne _ _ (by omega), State.reg_setReg_ne _ _ (by omega)]
      exact hb
    rw [State.writeBack, h, if_pos rfl]
  rw [exec_ringReadCompletion hr ht hw hp, he, if_neg Bool.false_ne_true, if_neg (by simp [ha, h0]), if_neg (by omega), hwb,
    if_neg (by omega)]
  exact ⟨_, rfl, rfl, s.reg_setReg_self _ _, rfl⟩

/-- A descriptor that breaks its rules halts the pair with its cause (Table KCP-8). -/
theorem ringReadCompletion_halts {cause : Nat} (h : (d.error = true ∧ cause = 3) ∨
    (d.error = false ∧ (d.addr % 4 ≠ 0 ∨ d.reserved ≠ 0) ∧ cause = 1) ∨
    (d.error = false ∧ d.addr % 4 = 0 ∧ d.reserved = 0 ∧ 65560 < d.len ∧ cause = 2)) :
    exec (.ringReadCompletion k d) s = .next (s.ringHalt k cause) ∧ cause < 16 := by
  rw [exec_ringReadCompletion hr ht hw hp]
  obtain ⟨he, rfl⟩ | ⟨he, ha, rfl⟩ | ⟨he, ha, h0, hl, rfl⟩ := h
  · exact ⟨by rw [if_pos he], by decide⟩
  · exact ⟨by rw [he, if_neg Bool.false_ne_true, if_pos ha], by decide⟩
  · exact ⟨by rw [he, if_neg Bool.false_ne_true, if_neg (by simp [ha, h0]), if_pos hl], by decide⟩

end Read

/-- Settles O19: tails by `State.ringTail`, buffers by `State.rplTail_posts`, and descriptors by what reading one does. -/
theorem ringsTakeCommandsAndBuffers : Obligations.RingsTakeCommandsAndBuffers := by
  refine ⟨fun s k v => ⟨fun hv => ⟨fun h => ?stored, fun h => ?ignored⟩, fun bufs hs hv hr h hb hw hn => ?posts⟩,
    fun s k d hr ht hw hp => ⟨ringReadCompletion_takes hr ht hw hp, fun cause h => ?halts⟩⟩
  case stored =>
    exact ⟨_, (guarded_of_unreserved hv _).trans (congrArg _ (State.ringTail_stored h)), s.reg_setReg_self _ _,
      fun _ ha => s.reg_setReg_ne _ ha, rfl⟩
  case ignored =>
    exact ⟨_, (guarded_of_unreserved hv _).trans (congrArg _ (State.ringTail_ignored h)), s.reg_raise_self _ _,
      fun _ ha => s.reg_raise_ne _ ha⟩
  case posts =>
    obtain ⟨-, hrings, -⟩ := hs
    have ht := State.rplTail_posts (by omega) hr h hb hw hn
    refine ⟨_, guarded_of_unreserved hv _, ?_, ht.posted, ht.others, ht.out⟩
    rw [reg_congr ht.regs]
    exact s.reg_setReg_self _ _
  case halts =>
    obtain ⟨he, hc⟩ := ringReadCompletion_halts hr ht hw hp h
    obtain ⟨hcause, hbit, hrx, hsess⟩ := s.ringHalt_spec k hc
    exact ⟨_, he, hcause, hbit, hrx, hsess⟩

end Sys2Proof.Machine

namespace Sys2Proof.Machine

/-! ### Ring pairs start and stop (R217, R455) -/

/-- The packets of an endpoint that wait are gone. -/
def State.dropRx (s : State) (e : Endpoint) : State :=
  { s with kcp := { s.kcp with rx := s.kcp.rx.filter fun q => q.1 != e } }

@[simp] theorem State.dropRx_reg (s : State) (e : Endpoint) : (s.dropRx e).reg = s.reg := rfl
@[simp] theorem State.dropRx_ring (s : State) (e : Endpoint) (k : Nat) : (s.dropRx e).ring k = s.ring k := rfl
@[simp] theorem State.dropRx_bound (s : State) (e f : Endpoint) (x : Nat) : (s.dropRx e).bound x f = s.bound x f := rfl

theorem State.ne_of_mem_dropRx {s : State} {e : Endpoint} {q : Endpoint × List Byte} (h : q ∈ (s.dropRx e).kcp.rx) : q.1 ≠ e := by
  simpa using (List.mem_filter.mp (show q ∈ s.kcp.rx.filter fun q => q.1 != e from h)).2

section RingCtl
variable {s : State} {k : Fin 4} {v : Word}

/-- A write of RING_CTL_k stores its word and empties the pair. -/
def State.ringCleared (s : State) (k : Fin 4) (v : Word) : State :=
  (s.setReg (aRing k.val + 0x40) (v &&& 0x03FF0FF1)).setRing k.val fun _ => {}

/-- A pair that stops also clears its cause; its session closes and its packets are gone. -/
def State.ringStopped (s : State) (k : Fin 4) (v : Word) : State :=
  (((s.setReg (aRing k.val + 0x40) (v &&& 0x03FF0FF1)).putReg (aRing k.val + 0x44) 4 4 0).setRing k.val fun _ => {}).closeEp (.pcie k)

@[simp] theorem State.ring_setReg (s : State) (a : Nat) (w : Word) (k : Nat) : (s.setReg a w).ring k = s.ring k := rfl

theorem State.ring_congr {s t : State} (h : t.kcp.rings = s.kcp.rings) (k : Nat) : t.ring k = s.ring k := by
  unfold State.ring
  rw [h]

/-- A pair with no contents. -/
theorem State.ring_emptied (s : State) {k : Nat} (hk : k < s.kcp.rings.length) : (s.setRing k fun _ => {}).ring k = {} :=
  s.ring_setRing_self k _ hk

theorem State.ring_ringCleared (hk : k.val < s.kcp.rings.length) : (s.ringCleared k v).ring k.val = {} :=
  State.ring_emptied _ hk

theorem State.ring_ringStopped (hk : k.val < s.kcp.rings.length) : (s.ringStopped k v).ring k.val = {} := by
  rw [State.ringStopped, State.ring_congr (State.closeEp_rings ..)]
  exact State.ring_emptied _ hk

theorem State.ringCtl_of_stop (he : ringEnabled s k.val = true) (hv : v.getLsbD 0 = false) :
    s.ringCtl k v = (s.ringStopped k v).dropRx (.pcie k) := by
  have hw : wbit v 0 = false := hv
  unfold State.ringCtl State.ringStopped State.dropRx
  simp only [he, hw, Bool.not_false, Bool.and_self, if_true]

theorem State.ringCtl_of_start (he : ringEnabled s k.val = false) (hv : v.getLsbD 0 = true) : s.ringCtl k v =
    [0xC, 0x10, 0x2C, 0x30].foldl (fun s o => s.setReg (aRing k.val + o) 0) (s.ringCleared k v) := by
  have hw : wbit v 0 = true := hv
  unfold State.ringCtl
  simp only [he, hw, Bool.not_false, Bool.not_true, Bool.and_self, if_true, Bool.false_eq_true, if_false]
  rfl

theorem State.reg_ringStopped_ctl : (s.ringStopped k v).reg (aRing k.val + 0x40) = v &&& 0x03FF0FF1 := by
  rw [State.ringStopped, reg_congr (State.closeEp_regs ..), reg_congr (State.setRing_regs ..), State.putReg,
    State.reg_setReg_ne _ _ (by omega), State.reg_setReg_self]

theorem State.reg_ringStopped_status :
    (s.ringStopped k v).reg (aRing k.val + 0x44) = wput (s.reg (aRing k.val + 0x44)) 4 4 0 := by
  rw [State.ringStopped, reg_congr (State.closeEp_regs ..), reg_congr (State.setRing_regs ..), State.putReg,
    State.reg_setReg_self, State.reg_setReg_ne _ _ (by omega)]

/-- Clearing ENABLE of a pair that was enabled empties it, clears its cause and closes its session. -/
theorem State.ringCtl_stops (hk : k.val < s.kcp.rings.length) (he : ringEnabled s k.val = true) (hv : v.getLsbD 0 = false) :
    ringEnabled (s.ringCtl k v) k.val = false ∧ ringCause (s.ringCtl k v) k.val = 0 ∧ (s.ringCtl k v).ring k.val = {} ∧
    (∀ x < 8, (s.ringCtl k v).bound x (.pcie k) = false) ∧ ∀ e ∈ (s.ringCtl k v).kcp.rx, e.1 ≠ .pcie k := by
  rw [State.ringCtl_of_stop he hv]
  refine ⟨?_, ?_, ?_, fun x hx => ?_, fun _ hm => State.ne_of_mem_dropRx hm⟩
  · rw [ringEnabled, State.dropRx_reg, State.reg_ringStopped_ctl, wbit, BitVec.getLsbD_and, hv, Bool.false_and]
  · rw [ringCause, State.dropRx_reg, State.reg_ringStopped_status, wbits_wput_self _ (by decide), Nat.zero_mod]
  · rw [State.dropRx_ring, State.ring_ringStopped hk]
  · rw [State.dropRx_bound]
    exact State.bound_closeEp _ hx _

/-- Setting ENABLE of a pair that was not enabled starts it, with heads and tails at 0. -/
theorem State.ringCtl_starts (hk : k.val < s.kcp.rings.length) (he : ringEnabled s k.val = false) (hv : v.getLsbD 0 = true) :
    ringEnabled (s.ringCtl k v) k.val = true ∧ (s.ringCtl k v).ring k.val = {} ∧
    ∀ o ∈ [0xC, 0x10, 0x2C, 0x30], (s.ringCtl k v).reg (aRing k.val + o) = 0 := by
  rw [State.ringCtl_of_start he hv]
  simp only [List.foldl_cons, List.foldl_nil]
  refine ⟨?_, ?_, ?_⟩
  · rw [ringEnabled, State.reg_setReg_ne _ _ (by omega), State.reg_setReg_ne _ _ (by omega), State.reg_setReg_ne _ _ (by omega),
      State.reg_setReg_ne _ _ (by omega), State.ringCleared, reg_congr (State.setRing_regs ..), State.reg_setReg_self, wbit,
      BitVec.getLsbD_and, hv]
    decide
  · simp only [State.ring_setReg, State.ring_ringCleared hk]
  · simp [State.reg_setReg_ne]

end RingCtl

end Sys2Proof.Machine

namespace Sys2Proof.Machine

/-! ### A function reset (R455) -/

theorem State.closeWhere_kcp (b : Session → Bool) (l : List Nat) (s : State) :
    s.closeWhere b l = { s with kcp := (s.closeWhere b l).kcp } := by
  have h := s.closeWhere_eq b l
  generalize s.closeWhere b l = c at h ⊢
  generalize c.kcp.sess = l at h
  subst h
  rfl

section ResetPcie
variable (s : State)

/-- The sessions of PCIe that a function reset closes. -/
def State.pcieClosed : State := s.closeWhere (fun q => q.isOpen && isPcie q.ep) (List.range 8)

/-- The pairs, the packets that wait for them and the endpoint's registers at their reset. -/
def State.pcieEmptied : State :=
  { s with
    kcp := { s.kcp with rings := List.replicate 4 {}, rx := s.kcp.rx.filter fun e => !isPcie e.1 }
    regs := s.regs.filter fun e => !(decide (aPcie + 8 ≤ e.1) && decide (e.1 < aPcie + 0x10000)) }

theorem State.resetPcie_def : s.resetPcie = s.pcieClosed.pcieEmptied := by
  unfold State.resetPcie State.pcieEmptied State.pcieClosed State.closeWhere
  dsimp only

@[simp] theorem State.pcieEmptied_sess (x : Nat) : s.pcieEmptied.sess x = s.sess x := rfl

theorem State.pcieEmptied_ring (k : Fin 4) : s.pcieEmptied.ring k.val = {} := by
  show nth {} (List.replicate 4 ({} : Ring)) k.val = {}
  revert k
  decide

theorem State.not_pcie_of_mem_pcieEmptied {e : Endpoint × List Byte} (h : e ∈ s.pcieEmptied.kcp.rx) (k : Fin 4) : e.1 ≠ .pcie k := by
  intro hk
  have h := (List.mem_filter.mp (show e ∈ s.kcp.rx.filter fun e => !isPcie e.1 from h)).2
  rw [hk] at h
  cases h

@[simp] theorem State.resetPcie_sess (x : Nat) : s.resetPcie.sess x = s.pcieClosed.sess x := by
  rw [State.resetPcie_def, State.pcieEmptied_sess]

/-- A function reset changes the protocol's state and the registers of the endpoint alone. -/
theorem State.resetPcie_eq : s.resetPcie = { s with kcp := s.resetPcie.kcp, regs := s.resetPcie.regs } := by
  have hc : s.pcieClosed = { s with kcp := s.pcieClosed.kcp } := by
    unfold State.pcieClosed
    exact State.closeWhere_kcp ..
  rw [State.resetPcie_def]
  generalize s.pcieClosed = c at hc ⊢
  generalize c.kcp = kcp at hc
  subst hc
  rfl

/-- A function reset leaves no session bound to a ring pair. -/
theorem State.bound_resetPcie {x : Nat} (hx : x < 8) (k : Fin 4) : s.resetPcie.bound x (.pcie k) = false := by
  rw [State.bound, State.resetPcie_sess, State.pcieClosed]
  cases hb : (s.sess x).isOpen && isPcie (s.sess x).ep
  · rw [State.sess_closeWhere_of_not _ (.inr hb), Bool.and_eq_false_iff]
    rw [Bool.and_eq_false_iff] at hb
    refine hb.imp_right fun h => ?_
    rw [beq_eq_false_iff_ne]
    rintro he
    rw [he] at h
    cases h
  · rw [State.sess_closeWhere_of_mem List.nodup_range (List.mem_range.mpr hx) hb]
    rfl

/-- A session of another transport stays as it is. -/
theorem State.sess_resetPcie_of_ne {x : Nat} (h : ∀ k, (s.sess x).ep ≠ .pcie k) : s.resetPcie.sess x = s.sess x := by
  rw [State.resetPcie_sess]
  refine State.sess_closeWhere_of_not _ (.inr ?_)
  rw [Bool.and_eq_false_iff]
  refine .inr ?_
  cases he : (s.sess x).ep with
  | pcie k => exact absurd he (h k)
  | udp => rfl
  | spi => rfl

theorem State.resetPcie_spec : (∀ x < 8, ∀ k, s.resetPcie.bound x (.pcie k) = false) ∧
    (∀ k : Fin 4, s.resetPcie.ring k.val = {}) ∧ (∀ e ∈ s.resetPcie.kcp.rx, ∀ k, e.1 ≠ .pcie k) ∧
    (∀ x, (∀ k, (s.sess x).ep ≠ .pcie k) → s.resetPcie.sess x = s.sess x) ∧
    s.resetPcie = { s with kcp := s.resetPcie.kcp, regs := s.resetPcie.regs } := by
  refine ⟨fun x hx k => s.bound_resetPcie hx k, ?_, ?_, fun x => s.sess_resetPcie_of_ne, s.resetPcie_eq⟩
  · rw [State.resetPcie_def]
    exact State.pcieEmptied_ring _
  · rw [State.resetPcie_def]
    exact fun _ => State.not_pcie_of_mem_pcieEmptied _

end ResetPcie

/-! ### An event that still waits is dropped (R215) -/

section Drop
variable {x : Nat}

theorem markLoss_cons_other {p : OutPkt} (t : List OutPkt) (hp : eventOf x p = false) :
    markLoss x (p :: t) = (p :: (markLoss x t).1, (markLoss x t).2) := by
  unfold eventOf at hp
  rw [markLoss]
  split <;> rename_i hb
  · rw [hb] at hp
    rw [if_neg (by simpa using hp)]
  · rfl

/-- With no event of the session there is none to mark. -/
theorem markLoss_none : ∀ {l : List OutPkt}, (∀ q ∈ l, eventOf x q = false) → markLoss x l = (l, false)
  | [], _ => rfl
  | p :: t, h => by
    rw [markLoss_cons_other t (h p List.mem_cons_self), markLoss_none fun q hq => h q (List.mem_cons_of_mem _ hq)]

/-- The first event of the session is marked. -/
theorem markLoss_first {q : OutPkt} {sec ns : Nat} {pl : List Byte} {l : Bool} (post : List OutPkt) (hs : q.session = x)
    (hb : q.body = .event sec ns pl l) : ∀ {pre : List OutPkt}, (∀ e ∈ pre, eventOf x e = false) →
    markLoss x (pre ++ q :: post) = (pre ++ { q with body := .event sec ns pl true } :: post, true)
  | [], _ => by
    rw [List.nil_append, markLoss, hb]
    exact if_pos hs
  | p :: t, h => by
    rw [List.cons_append, markLoss_cons_other _ (h p List.mem_cons_self),
      markLoss_first post hs hb fun e he => h e (List.mem_cons_of_mem _ he), List.cons_append]

/-- The oldest packet goes where it is an event of the session. -/
theorem dropEvent_first {p : OutPkt} (rest : List OutPkt) (hp : eventOf x p = true) :
    dropEvent x (p :: rest) = ((markLoss x rest).1, true, (markLoss x rest).2) := by
  rw [dropEvent, if_pos hp]

theorem State.noteDrop_kcp (s : State) (marked : Bool) :
    (s.noteDrop x marked).kcp = (s.setSess x fun q => { q with loss := q.loss || !marked }).kcp := by
  rw [State.noteDrop, State.count_kcp, State.count_kcp]

theorem State.noteDrop_sess_ne (s : State) (marked : Bool) {y : Nat} (hy : y ≠ x) : (s.noteDrop x marked).sess y = s.sess y := by
  rw [State.sess, State.noteDrop_kcp]
  exact State.sess_setSess_ne s _ hy

theorem State.noteDrop_loss {s : State} (marked : Bool) (hx : x < s.kcp.sess.length) :
    ((s.noteDrop x marked).sess x).loss = ((s.sess x).loss || !marked) := by
  rw [State.sess, State.noteDrop_kcp]
  exact congrArg Session.loss (State.sess_setSess_self s x _ hx)

/-- The SPI slave's waiting packets, with the first event of a session dropped. -/
def State.spiDropped (s : State) (l : List OutPkt) : State := { s with kcp := { s.kcp with spiOut := l } }

theorem execEventDrop_spi {s : State} {x : Fin 8} {p : OutPkt} {rest : List OutPkt} (he : (s.sess x.val).ep = .spi)
    (ho : s.kcp.spiOut = p :: rest) (hp : eventOf x.val p = true) {l : List OutPkt} {m : Bool}
    (hm : markLoss x.val rest = (l, m)) : exec (.eventDrop x) s = .next ((s.spiDropped l).noteDrop x.val m) := by
  show execEventDrop x s = _
  unfold execEventDrop
  rw [he, ho]
  simp only [dropEvent_first rest hp, hm, if_true]
  rfl

end Drop

/-! ### The window closes (R218) -/

@[simp] theorem State.setRing_window (s : State) (k : Nat) (f : Ring → Ring) : (s.setRing k f).kcp.window = s.kcp.window := rfl

/-- A change of what the sessions, the rings and the SPI slave hold leaves the window. -/
theorem fillOne_window (k : Nat) (a b c : Bool) (x : Nat) (bs : List Byte) (s : State) :
    (fillOne k a b c x bs s).kcp.window = s.kcp.window := by
  unfold fillOne
  extract_lets _ _ _ _ _ _ s1 wb s2 _ n
  have h : s2.kcp.window = s.kcp.window := by
    show (if wb = 0 then s1 else s1.emit _).kcp.window = _
    split <;> rfl
  split
  · rw [State.msix_kcp, State.setRing_window, h]
  · rw [State.setRing_window, h]

theorem fillAll_window (k : Nat) (ev : Bool) (l : List (Nat × List Byte)) : ∀ (first : Bool) (s : State),
    (fillAll k ev first l s).kcp.window = s.kcp.window := by
  induction l with
  | nil => exact fun _ _ => rfl
  | cons _ _ ih => exact fun _ _ => (ih _ _).trans (fillOne_window ..)

theorem flushRing_window (k n : Nat) : ∀ s : State, (flushRing k n s).kcp.window = s.kcp.window := by
  induction n with
  | zero => exact fun _ => rfl
  | succ n ih =>
    intro s
    unfold flushRing
    split
    · rfl
    · split
      · rfl
      · exact (ih _).trans (fillAll_window ..)

theorem State.place_window (s : State) (k r : Nat) (f : OwnFrame) : (s.place k r f).kcp.window = s.kcp.window := by
  unfold State.place State.sendOwn
  split
  · rfl
  · split
    · rfl
    · rw [State.count_kcp]
      rfl

theorem State.deliver_window (s : State) (p : OutPkt) : (s.deliver p).kcp.window = s.kcp.window := by
  unfold State.deliver
  split
  · exact State.place_window ..
  · rfl
  · exact flushRing_window ..

theorem sendEvent_window (code txn : Nat) (pl : List Byte) (x : Nat) (s : State) :
    (sendEvent code txn pl x s).kcp.window = s.kcp.window := by
  unfold sendEvent
  dsimp only
  split
  · exact State.deliver_window ..
  · rfl

theorem foldl_sendEvent_window (code txn : Nat) (pl : List Byte) (l : List Nat) : ∀ s : State,
    (l.foldl (fun s x => sendEvent code txn pl x s) s).kcp.window = s.kcp.window := by
  induction l with
  | nil => exact fun _ => rfl
  | cons _ _ ih => exact fun _ => (ih _).trans (sendEvent_window ..)

theorem State.event_window (s : State) (code : Nat) (pl : List Byte) : (s.event code pl).kcp.window = s.kcp.window := by
  unfold State.event State.eventAny
  split
  · rfl
  · exact foldl_sendEvent_window ..

/-- Closing the window leaves the render and the memory. -/
theorem State.closeWindow_spec (s : State) (cause : Nat) : (s.closeWindow cause).kcp.window = none ∧
    (s.closeWindow cause).render = s.render ∧ (s.closeWindow cause).mem = s.mem := by
  unfold State.closeWindow
  split
  next => exact ⟨State.event_window .., State.event_render .., State.event_mem ..⟩
  next hw => exact ⟨by simpa using hw, rfl, rfl⟩

/-! ### The transports' timers -/

theorem State.coal_msix_spent {s : State} {k : Nat} (v : Nat) (hk : k < s.kcp.rings.length) :
    (((s.setRing k fun r => { r with coal := 0 }).msix v).ring k).coal = 0 := by
  rw [State.ring, State.msix_kcp]
  exact congrArg Ring.coal (s.ring_setRing_self k _ hk)

theorem exec_coalescingTimeExpiry {s : State} {k : Fin 4} (hc : 0 < (s.ring k.val).coal)
    (ht : (s.reg (aRing k.val + 0x40)).toNat / 65536 % 1024 ≠ 0) : exec (.coalescingTimeExpiry k) s =
    .next ((s.setRing k.val fun r => { r with coal := 0 }).msix ((s.reg (aRing k.val + 0x40)).toNat / 16 % 16)) := by
  show execCoalescingTimeExpiry k s = _
  unfold execCoalescingTimeExpiry
  exact if_neg (not_or.mpr ⟨hc.ne', ht⟩)

theorem exec_sessionIdleTimeout {s : State} {x : Fin 8} (ho : (s.sess x.val).isOpen = true) (hu : isUdp (s.sess x.val).ep = true)
    (hi : (s.sess x.val).idle ≠ 0) (hs : s.standby = false) :
    exec (.sessionIdleTimeout x) s = .next ((s.closeSess x.val).enter (.timer (.idle x.val))) := by
  show execSessionIdleTimeout x s = _
  unfold execSessionIdleTimeout
  exact if_pos (by simp [ho, hu, hi, hs])

/-- The pieces of an object that is dropped are gone. -/
theorem State.dropPieces_any (s : State) (x op name : Nat) :
    ((s.dropPieces x op name).kcp.pieces.any fun p => p.session == x && p.op == op && p.name == name) = false := by
  rw [List.any_eq_false]
  intro p hp
  have h := (List.mem_filter.mp (show p ∈ s.kcp.pieces.filter _ from hp)).2
  simpa only [Bool.not_eq_true', Bool.not_eq_true] using h

theorem State.Shape.ring_lt {s : State} (h : s.Shape) {k : Nat} (hk : k < 4) : k < s.kcp.rings.length := by
  obtain ⟨_, hr, _⟩ := h
  omega

/-- Settles O20: a write of a pair's RING_CTL and a function reset by their equations, each timer by its own. -/
theorem ringsStopAndTimersAct : Obligations.RingsStopAndTimersAct := by
  unfold Obligations.RingsStopAndTimersAct
  refine ⟨⟨fun s k v hs hv => ?_, fun mk hm s => ?_⟩, fun s hs => ⟨fun k hc ht => ?_, fun x p rest he ho hp => ?_,
    fun x ho hu hi hsb => ?_, fun x op name ha => ?_, ?_⟩⟩
  · have hk := hs.ring_lt k.isLt
    have hx : exec (.ringCtlWrite k v) s = .next (s.ringCtl k v) := guarded_of_unreserved hv _
    exact ⟨fun he h0 => ⟨_, hx, State.ringCtl_stops hk he h0⟩, fun he h1 => ⟨_, hx, State.ringCtl_starts hk he h1⟩⟩
  · refine ⟨s.resetPcie, ?_, s.resetPcie_spec⟩
    rcases List.mem_cons.mp hm with rfl | hm
    · rfl
    · rw [List.mem_singleton.mp hm]
      rfl
  · exact ⟨_, exec_coalescingTimeExpiry hc ht, State.coal_msix_spent _ (hs.ring_lt k.isLt), rfl⟩
  · have hx : x.val < s.kcp.sess.length := hs.sess_lt x.isLt
    refine ⟨fun hn => ?_, fun pre q post sec ns pl l hr hpre hq hb => ?_⟩
    · refine ⟨_, execEventDrop_spi he ho hp (markLoss_none hn), ?_, ?_, fun y hy => ?_⟩
      · rw [State.noteDrop_kcp]
        rfl
      · exact (State.noteDrop_loss (s := s.spiDropped rest) false hx).trans (Bool.or_true _)
      · exact State.noteDrop_sess_ne _ _ hy
    · subst hr
      refine ⟨_, execEventDrop_spi he ho hp (markLoss_first post hq hb hpre), ?_, ?_⟩
      · rw [State.noteDrop_kcp]
        rfl
      · exact (State.noteDrop_loss (s := s.spiDropped _) true hx).trans (Bool.or_false _)
  · exact ⟨_, exec_sessionIdleTimeout ho hu hi hsb, congrArg Session.isOpen (s.sess_closeSess_self x.val),
      fun y hy => s.sess_closeSess_ne hy, rfl⟩
  · exact ⟨_, if_pos ha, s.dropPieces_any _ _ _, rfl⟩
  · exact ⟨_, rfl, s.closeWindow_spec 1⟩

end Sys2Proof.Machine

namespace Sys2Proof.Machine

/-! ### The register window (R218) -/

section Bar2
variable {s : State} {addr size : Nat} {w : Option Word}

/-- A word of BAR2 is aligned where its address in the chip is. -/
theorem bar2Req_misaligned_iff : ((bar2Req addr size w).size ≠ 4 ∨ (bar2Req addr size w).addr % 4 ≠ 0) ↔
    size ≠ 4 ∨ addr % 4 ≠ 0 := by
  show (size ≠ 4 ∨ (0x40000000 + addr % 0x2000000) % 4 ≠ 0) ↔ _
  omega

theorem exec_bar2Access_of_open (ho : windowOpen s = true) (hr : reservedReq s (bar2Req addr size w) = false) :
    exec (.bar2Access addr size w) s = if size ≠ 4 ∨ addr % 4 ≠ 0 then .next (s.busError (bar2Req addr size w))
      else .next (s.busIssue (bar2Req addr size w)) := by
  show execBar2Access addr size w s = _
  unfold execBar2Access
  simp only [ho, hr, bar2Req_misaligned_iff, Bool.not_true, Bool.false_eq_true, if_false]

theorem exec_bar2Access_of_closed (hc : windowOpen s = false) :
    exec (.bar2Access addr size w) s = .next { s with out := .bar2 1 0 :: s.out } := by
  show execBar2Access addr size w s = _
  unfold execBar2Access
  simp only [hc, Bool.not_false, if_true]
  rfl

end Bar2

/-! ### The SPI slave (R220) -/

/-- Four flags as the low bits of a byte. -/
def flagByte (a b c d : Bool) : Byte := BitVec.ofNat 8 (b2n a + b2n b * 2 + b2n c * 4 + b2n d * 8)

theorem getLsbD_flagByte : ∀ a b c d : Bool, (flagByte a b c d).getLsbD 0 = a ∧ (flagByte a b c d).getLsbD 1 = b ∧
    (flagByte a b c d).getLsbD 2 = c ∧ (flagByte a b c d).getLsbD 3 = d := by
  decide

section Spi
variable {s : State} (ha : spiAlive s = true)
include ha

/-- What a write period of the SPI slave does: its whole packet is taken where none is held, and else it is discarded and
counted. -/
theorem exec_spiWrite (bytes : List Byte) : exec (.spiWrite bytes) s =
    if rxBusy s = true ∨ bytes.length < 8 ∨ beAt bytes 4 4 ≠ bytes.length then .next (s.count (kDev 6))
    else .next { s with kcp := { s.kcp with rx := s.kcp.rx ++ [(.spi, bytes)] } } := by
  show execSpiWrite bytes s = _
  unfold execSpiWrite
  simp only [ha, Bool.not_true, Bool.false_eq_true, if_false, Bool.or_eq_true, decide_eq_true_eq, bne_iff_ne, or_assoc]

theorem exec_spiStatus : exec .spiStatus s = .next
    { s with out := .spi [flagByte (rxBusy s) (!s.kcp.spiOut.isEmpty) s.serving (s.boot.phase == .recovery)] :: s.out } := by
  show execSpiStatus s = _
  unfold execSpiStatus
  exact congrArg Host.Outcome.next (if_pos ha)

/-- A read takes the oldest waiting packet's bytes, and removes the packet where it reaches the last. -/
theorem exec_spiRead {n : Nat} {p : OutPkt} {rest : List OutPkt} (ho : s.kcp.spiOut = p :: rest) :
    ∃ t, exec (.spiRead n) s = .next t ∧ t.out = .spi (p.bytes.take n) :: s.out ∧
      t.kcp.spiOut = if p.bytes.length ≤ n then rest else p :: rest := by
  show ∃ t, execSpiRead n s = .next t ∧ _
  unfold execSpiRead
  rw [ha, ho]
  by_cases hn : p.bytes.length ≤ n
  · exact ⟨_, if_pos hn, rfl, (if_pos hn).symm⟩
  · exact ⟨_, if_neg hn, rfl, by rw [if_neg hn]; exact ho⟩

theorem exec_spiInvalidInstruction {b : Byte} (n : Nat) (h2 : b ≠ 2) (h5 : b ≠ 5) (hB : b ≠ 0x0B) :
    exec (.spiInvalidInstruction b n) s = .next { s with out := .spi (List.replicate n 0xFF) :: s.out } := by
  show execSpiInvalidInstruction b n s = _
  unfold execSpiInvalidInstruction
  exact if_neg (by simpa [ha] using And.intro (And.intro h2 h5) hB)

end Spi

/-- Settles O21: each access and each period by the equation of its handler. -/
theorem windowAndSpiAnswer : Obligations.WindowAndSpiAnswer := by
  unfold Obligations.WindowAndSpiAnswer
  refine ⟨fun s addr size w => ⟨exec_bar2Access_of_closed, fun ho hr hs ha => ?_, fun ho hr hm => ?_⟩,
    fun s ha => ⟨fun bytes hb hl he => ?_, fun bytes hd => ?_, ?_, fun n p rest ho => exec_spiRead ha ho,
      fun b n h2 h5 hB => exec_spiInvalidInstruction ha n h2 h5 hB⟩⟩
  · rw [exec_bar2Access_of_open ho hr, if_neg (by simp [hs, ha])]
  · rw [exec_bar2Access_of_open ho hr, if_pos hm]
  · rw [exec_spiWrite ha, if_neg (by simp [hb, hl, he])]
  · rw [exec_spiWrite ha, if_pos hd]
  · exact ⟨_, exec_spiStatus ha, getLsbD_flagByte ..⟩

end Sys2Proof.Machine

namespace Sys2Proof.Machine

/-! ### Reads (R226, R228, R246) -/

/-- A read that answers with success gives its units and leaves the state. -/
theorem run_readRow : ∀ r ∈ readRows, ∀ (c : Cmd) (s : State), (r.spec.run c s).2.1.status = stOK →
    ∃ data, r.spec.run c s = readOk s (r.spec.units c s) data := by
  unfold readRows
  simp only [List.forall_mem_cons, List.not_mem_nil, false_imp_iff, implies_true, and_true]
  refine ⟨?_, fun c s h => ?kernel, ?_, ?_, ?_, ?_, ?_, ?_, fun c s h => ?job⟩
  case kernel =>
    simp only [specSysKernelRead] at h ⊢
    split at h
    · cases h
    · exact ⟨_, rfl⟩
  case job =>
    simp only [specLoupeJobRead] at h ⊢
    split at h
    · cases h
    · exact ⟨_, rfl⟩
  all_goals exact fun _ _ _ => ⟨_, rfl⟩

/-- Nothing follows a read's reply, and Ganen makes it at once. -/
theorem atOnce_readRow : ∀ r ∈ readRows, ∀ (c : Cmd) (s : State), r.spec.atOnce c s = true ∧ r.spec.after c s = s := by
  unfold readRows
  simp only [List.forall_mem_cons, List.not_mem_nil, false_imp_iff, implies_true, and_true]
  refine ⟨?_, ?_, ?_, ?_, ?_, ?_, ?_, ?_, ?_⟩
  all_goals exact fun _ _ => ⟨rfl, rfl⟩

theorem mem_commandRow_of_read : ∀ r ∈ readRows, r ∈ deferredRows ++ shapedRows ++ immediateRows := by
  refine fun r hr => List.mem_append_right _ ?_
  unfold readRows at hr
  unfold immediateRows
  simp only [List.mem_cons, List.not_mem_nil, or_false] at hr ⊢
  tauto

/-- A packet of an exempt opcode whose number is not tested reaches its command (R196, R197). -/
theorem kcpOp_exempt {op : Nat} {p : Packet} {s : State} (h : Framed op p s) (he : exempt op = true)
    (hn : noSeqCheck (toCmd op p) = true) (hx : p.session.toNat < 8) (sp : OpSpec) :
    kcpOp op sp p s = (s.servedFor p).checked sp (toCmd op p) := by
  rw [kcpOp, served_turn h.toTurn, handle_of_framed h, inSession_exempt _ he hx hn]

/-- What a reply records leaves a session's window. -/
theorem Session.Noted.window {t q : Session} (h : t.Noted q) : q.h = t.h ∧ q.seen = t.seen := by rw [h]; exact ⟨rfl, rfl⟩

/-- Settles O8: a read by what it runs; SYS_INFO and SYS_SEQ_QUERY by the checks that each meets. -/
theorem queriesAnswerAndChangeNothing : Obligations.QueriesAnswerAndChangeNothing := by
  refine ⟨fun r hr p s hi => ?read, fun p s hi hboot hlen ht => ?info, fun p s hf => ?query⟩
  case read =>
    intro u c ha hp hb hok
    have hr' := mem_commandRow_of_read r hr
    obtain ⟨data, hd⟩ := run_readRow r hr c u hok
    obtain ⟨ho, hafter⟩ := atOnce_readRow r hr c u
    refine ⟨data, ?_⟩
    rw [exec_commandRow r hr', kcpOp_answers hi (exempt_commandRow r hr') ha.length ha.allowed ha.active (.inl ha.outside) ho hp hb hd,
      (atOnce_readRow r hr c _).2]
  case info =>
    have hl : specSysInfo.len (toCmd 0 p) = true := by simp [specSysInfo, Cmd.plen, toCmd, hlen]
    have hn : notAllowed specSysInfo (toCmd 0 p) (s.received p) = none := by simp [notAllowed, specSysInfo]
    show execSysInfo p s = _
    unfold execSysInfo
    rw [hboot]
    exact congrArg Host.Outcome.next (kcpOp_answers hi rfl hl hn (.inr rfl) (.inl (by simp [toCmd, ht])) rfl rfl rfl rfl)
  case query =>
    intro x s1 u hx hlen ht
    have hl : specSeqQuery.len (toCmd 3 p) = true := by simp [specSeqQuery, Cmd.plen, toCmd, hlen]
    have hn : notAllowed specSeqQuery (toCmd 3 p) u = none := by simp [notAllowed, specSeqQuery]
    have hs : u.sess = s.sess := sess_servedFor s p
    have ha : u.checked specSeqQuery (toCmd 3 p) =
        u.replyTo (toCmd 3 p) (answered [1]) (beBytes 4 (s.sess x).h ++ zeros 4 ++ beBytes 8 (s.sess x).seen) := by
      rw [State.checked_acts hl hn (.inr rfl) (.inl (by simp [toCmd, ht])) rfl, if_pos (show specSeqQuery.atOnce (toCmd 3 p) u = true from rfl), ← hs]
      exact State.runNow_answers rfl rfl
    refine ⟨_, congrArg Host.Outcome.next ((kcpOp_exempt hf rfl rfl hx _).trans ha), rfl, ?_⟩
    rw [← hs]
    exact (State.sess_replyTo ..).window

end Sys2Proof.Machine

namespace Sys2Proof.Machine

/-! ### Keys (R229) -/

/-- A field of one byte is that byte of the payload. -/
theorem beAt_one (bs : List Byte) (o : Nat) : beAt bs o 1 = (nth 0 bs o).toNat := by
  unfold beAt slice nth
  rw [List.take_one, List.head?_drop, List.getD_eq_getElem?_getD]
  cases bs[o]? <;> simp [beNat]

/-- A key of zeros is one that erases its slot. -/
theorem all_zero_iff {n : Nat} {bs : List Byte} (h : bs.length = n) : (bs.all (· == 0)) = true ↔ bs = zeros n := by
  rw [zeros, List.eq_replicate_iff]
  simp [h]

/-- What a SYS_KEY_SET puts in its slot. -/
def keyOf (c : Cmd) : Option Key :=
  if c.payload.drop 4 = zeros 32 then none
  else some { key := c.payload.drop 4, diag := c.at 21 1 % 2 == 1, admin := c.at 21 1 / 2 == 1 }

/-- The state with a SYS_KEY_SET's slot set. -/
def State.keyed (s : State) (c : Cmd) : State := { s with sec := { s.sec with keys := s.sec.keys.set (c.at 20 1) (keyOf c) } }

theorem run_keySet {c : Cmd} {s : State} (hl : c.payload.length = 36) (ha : c.at 21 1 < 4) :
    specKeySet.run c s = readOk (s.keyed c) [12] [] := by
  have hb : (c.at 21 1).testBit 0 = (c.at 21 1 % 2 == 1) ∧ (c.at 21 1).testBit 1 = (c.at 21 1 / 2 == 1) := by
    interval_cases c.at 21 1 <;> decide
  have hz : ((c.payload.drop 4).all (· == 0)) = true ↔ c.payload.drop 4 = zeros 32 := all_zero_iff (by simp [hl])
  have hk : (if (c.bytes 24).all (· == 0) then none
      else some ({ key := c.bytes 24, diag := (c.at 21 1).testBit 0, admin := (c.at 21 1).testBit 1 } : Key)) = keyOf c := by
    rw [hb.1, hb.2]
    exact if_congr hz rfl rfl
  exact congrArg (fun k => readOk { s with sec := { s.sec with keys := s.sec.keys.set (c.at 20 1) k } } [12] []) hk

/-- What follows a SYS_KEY_SET closes the slot's session and touches no key. -/
theorem after_keySet (c : Cmd) (s : State) (hx : c.at 20 1 < s.kcp.sess.length) :
    ((specKeySet.after c s).sess (c.at 20 1)).isOpen = false ∧ (specKeySet.after c s).sec = s.sec := by
  have hc := s.sess_closeSess_self (c.at 20 1)
  have hl : c.at 20 1 < (s.closeSess (c.at 20 1)).kcp.sess.length := by rw [State.closeSess, State.setSess_length]; exact hx
  show ((if _ then _ else _ : State).sess _).isOpen = false ∧ (if _ then _ else _ : State).sec = s.sec
  split
  · rw [State.sess_setSess_self _ _ _ hl, hc]
    exact ⟨rfl, rfl⟩
  · rw [hc]
    exact ⟨rfl, rfl⟩

@[simp] theorem State.replyTo_sec (s : State) (c : Cmd) (r : ReplyRec) (d : List Byte) : (s.replyTo c r d).sec = s.sec := by
  rw [State.replyTo_signals (.refl s)]

/-- A SYS_KEY_SET closes its slot's session, and changes that slot of the secure part. -/
theorem keySet_spec {c : Cmd} {s t : State} (hx : c.at 20 1 < s.kcp.sess.length) (hk : c.at 20 1 < s.sec.keys.length)
    (ht : t = specKeySet.after c ((s.keyed c).replyTo c (answered [12]) [])) :
    (t.sess (c.at 20 1)).isOpen = false ∧ t.sec = { s.sec with keys := t.sec.keys } ∧
      (∀ y, y ≠ c.at 20 1 → nth none t.sec.keys y = nth none s.sec.keys y) ∧ nth none t.sec.keys (c.at 20 1) = keyOf c := by
  obtain ⟨hopen, hsec⟩ := after_keySet c ((s.keyed c).replyTo c (answered [12]) []) (by rw [State.replyTo_length]; exact hx)
  rw [← ht, State.replyTo_sec] at hsec
  rw [← ht] at hopen
  have hkeys : t.sec.keys = s.sec.keys.set (c.at 20 1) (keyOf c) := congrArg Sec.keys hsec
  refine ⟨hopen, ?_, fun y hy => ?_, ?_⟩
  · rw [hkeys]
    exact hsec
  · rw [hkeys, nth_set_ne _ _ _ hy]
  · rw [hkeys, nth_set_self _ _ _ _ hk]

/-! ### The register window (R218) -/

theorem State.replyTo_window (s : State) (c : Cmd) (r : ReplyRec) (d : List Byte) : (s.replyTo c r d).kcp.window = s.kcp.window := by
  unfold State.replyTo State.reply State.sendReply
  rw [State.deliver_window]
  split <;> rfl

/-! ### DIAG_REG_WRITE (R245) -/

/-- A DIAG_REG_WRITE that would write no reserved field is handled as the other opcodes are. -/
theorem exec_diagRegWrite {p : Packet} {s : State} (hs : s.strayDue = none) (h : regReserved (toCmd 0x0F03 p) s = false) :
    exec (.diagRegWrite p) s = .next (kcpOp 0x0F03 specRegWrite p s) := by
  show execDiagRegWrite p s = _
  unfold execDiagRegWrite
  simp [serveStrays_none hs, h]

theorem run_regWrite {c : Cmd} {s : State} (h : (regWrites (c.at 20 4) (regValues c) 0 s).1 = none) :
    specRegWrite.run c s = readOk (regWrites (c.at 20 4) (regValues c) 0 s).2 [1] [] := by
  show (match (regWrites (c.at 20 4) (regValues c) 0 s).1 with | some i => _ | none => _) = _
  rw [h]

/-- Settles O10: each command by what it runs, and by what its reply leaves. -/
theorem keysWindowAndRegistersFollowTheirCommands : Obligations.KeysWindowAndRegistersFollowTheirCommands := by
  refine ⟨fun p s hi => ?key, fun s p _ => ⟨fun hi ha h1 h2 => ?opens, fun hi ha => ?locks⟩, fun p s hi => ?writes⟩
  case key =>
    intro u c x a key hlen htag htamper ht hx ha hs
    have hcx : c.at 20 1 = x := beAt_one ..
    have hca : c.at 21 1 = a := beAt_one ..
    have hl : specKeySet.len c = true := by simp [specKeySet, Cmd.plen, c, toCmd, hlen]
    have hn : notAllowed specKeySet c u = none := by simp [notAllowed, specKeySet, htag, htamper]
    have hp : specKeySet.param c u = none := by
      have h1 : ¬ 7 < x := by omega
      have h2 : ¬ 3 < a := by omega
      simp [specKeySet, firstBad, hcx, hca, h1, h2]
    have he := kcpOp_answers hi rfl hl hn (.inr rfl) (.inl (by simp [toCmd, ht])) rfl hp rfl
      (run_keySet hlen (hca ▸ ha))
    have hu : u.sec = s.sec := by simp only [u]; rw [State.received_eq]
    have hk : c.at 20 1 < u.sec.keys.length := by obtain ⟨-, -, hk, -⟩ := hs; rw [hu, hcx]; omega
    have hc : c.at 20 1 < u.kcp.sess.length := by rw [hcx, State.received_length]; exact hs.sess_lt hx
    have hspec := keySet_spec hc hk rfl
    rw [hcx, hu, keyOf, hca] at hspec
    exact ⟨_, congrArg Host.Outcome.next he, hspec⟩
  case opens =>
    have hp : specWindowUnlock.param (toCmd 0x0F00 p) (s.received p) = none := by
      show firstBad [(decide (beAt p.payload 0 4 = 0) || decide (3600 < beAt p.payload 0 4), 20)] = none
      have h3 : ¬ beAt p.payload 0 4 = 0 := by omega
      have h4 : ¬ 3600 < beAt p.payload 0 4 := by omega
      simp [firstBad, h3, h4]
    have he := kcpOp_answers hi rfl ha.length ha.allowed ha.active (.inl ha.outside) rfl hp rfl rfl
    exact ⟨_, congrArg Host.Outcome.next he, (State.replyTo_window ..).trans (State.event_window ..)⟩
  case locks =>
    have he := kcpOp_answers hi rfl ha.length ha.allowed ha.active (.inl ha.outside) rfl rfl rfl rfl
    exact ⟨_, congrArg Host.Outcome.next he, (State.replyTo_window ..).trans (State.closeWindow_spec _ 0).1⟩
  case writes =>
    intro u c ha hp hres hw
    rw [exec_diagRegWrite hi.noStray hres,
      kcpOp_answers hi rfl ha.length ha.allowed ha.active (.inl ha.outside) rfl hp rfl (run_regWrite hw)]
    rfl

end Sys2Proof.Machine

/-! Ganen's frames on an open port, and the work that keeps flows (O32). -/

namespace Sys2Proof.Machine

/-- A port whose link is up, in a domain that runs, with no pause: a frame of Ganen's leaves at once. -/
theorem State.place_open {s : State} {k : Nat} (hup : (s.np k).up = true) (hon : s.netOn = true) (hp : (s.np k).pause = 0)
    (r : Nat) (f : OwnFrame) : s.place k r f = s.sendOwn k f := by
  unfold State.place
  rw [if_neg (by simp [hup, hon]), if_neg (by simp [hp])]

theorem flowPorts_single {w : Flow} (h : w.sec = 0xFF) : flowPorts w = [w.prim] := if_pos h

theorem State.igmp_open {s : State} {w : Flow} (hsec : w.sec = 0xFF) (hup : (s.np w.prim).up = true) (hon : s.netOn = true)
    (hp : (s.np w.prim).pause = 0) (kind : String) :
    s.igmp kind w = s.sendOwn w.prim (.msg kind [w.dst, w.src]) := by
  simp only [State.igmp, flowPorts_single hsec, List.foldl_cons, List.foldl_nil, State.place_open hup hon hp]

theorem State.arpAsk_open {s : State} {w : Flow} (hsec : w.sec = 0xFF) (hup : (s.np w.prim).up = true) (hon : s.netOn = true)
    (hp : (s.np w.prim).pause = 0) :
    s.arpAsk w = s.sendOwn w.prim (.msg "arp-request" [nextHop s w.prim w.dst]) := by
  simp only [State.arpAsk, flowPorts_single hsec, List.foldl_cons, List.foldl_nil, State.place_open hup hon hp]

theorem State.flowRt_sendOwn (s : State) (k : Nat) (f : OwnFrame) (g : Nat) : (s.sendOwn k f).flowRt g = s.flowRt g := by
  simp only [State.sendOwn, State.flowRt, State.count_net, State.emit]

/-! ### Paths and joins -/

theorem exec_pathDown_first {s : State} {f : Fin 256} (hup : (s.flowRt f.val).upA = true)
    (hl : (s.flowRt f.val).lastA + max 1000000 (8 * pktSamples s.render.rate96 (s.flow f.val) * 1000000000 / s.fs) ≤ s.lNs) :
    exec (.pathDown f false) s = .next (s.modFlowRt f.val fun r => { r with upA := false }) := by
  change Host.Outcome.next (if _ then s.pathDown f.val false else s) = _
  rw [if_pos (by simp [hup, hl])]
  rfl

theorem exec_pathDown_second {s : State} {f : Fin 256} (hup : (s.flowRt f.val).upB = true)
    (hl : (s.flowRt f.val).lastB + max 1000000 (8 * pktSamples s.render.rate96 (s.flow f.val) * 1000000000 / s.fs) ≤ s.lNs) :
    exec (.pathDown f true) s = .next (s.modFlowRt f.val fun r => { r with upB := false }) := by
  change Host.Outcome.next (if _ then s.pathDown f.val true else s) = _
  rw [if_pos (by simp [hup, hl])]
  rfl

theorem joins_of_multicast {f : Fin 256} {w : Flow} (he : w.enable = true) (hm : isMulticast w.dst = true) : joins f.val w = true := by
  simp [joins, isRx, he, hm]

theorem exec_igmp_query {s : State} {f : Fin 256} (hj : joins f.val (s.flow f.val) = true) (hq : (s.flowRt f.val).query = true) :
    exec (.igmpUnsolicitedReport f) s =
      .next ((s.igmp "igmp-report" (s.flow f.val)).modFlowRt f.val fun r => { r with query := false }) := by
  change (if _ then _ else if _ then _ else if _ then _ else _ : Host.Outcome State Fault Refusal) = _
  rw [if_neg (by simp [hj]), if_pos hq]

theorem exec_igmp_repeat {s : State} {f : Fin 256} (hj : joins f.val (s.flow f.val) = true) (hq : (s.flowRt f.val).query = false)
    (hr : (s.flowRt f.val).reports ≠ 0) :
    exec (.igmpUnsolicitedReport f) s =
      .next ((s.igmp "igmp-report" (s.flow f.val)).modFlowRt f.val fun r => { r with reports := r.reports - 1 }) := by
  change (if _ then _ else if _ then _ else if _ then _ else _ : Host.Outcome State Fault Refusal) = _
  rw [if_neg (by simp [hj]), if_neg (by simp [hq]), if_pos hr]

theorem exec_arpRefresh {s : State} {f : Fin 256} (he : (s.flow (256 + f.val)).enable = true)
    (hm : isMulticast (s.flow (256 + f.val)).dst = false) :
    exec (.arpRefresh f) s = .next (s.arpAsk (s.flow (256 + f.val))) := by
  change Host.Outcome.next (if _ then _ else s) = _
  rw [if_pos (by simp [he, hm])]

/-! ### The flow table -/

theorem regInfo_entryCtl (e : Fin 512) : regInfo (aEntry e.val + 12) = some { rw := 0x870101FF } := by
  have he := e.isLt
  have hb : (aEntry e.val + 12 - 0x40000000) / 0x100000 = 5 := by simp only [aEntry, aFlowtab]; omega
  have ho : (aEntry e.val + 12) % 0x100000 = 0x1000 + 16 * e.val + 12 := by simp only [aEntry, aFlowtab]; omega
  unfold regInfo
  rw [if_pos (by simp only [aEntry, aFlowtab]; omega), hb, ho]
  change flowtabRegs _ = _
  unfold flowtabRegs
  rw [if_neg (by omega), if_neg (by omega), if_pos (by omega), if_pos (by omega)]
  rfl

theorem and_eq_self_of_and_not_eq_zero {n : Nat} {v m : BitVec n} (h : v &&& ~~~m = 0) : v &&& m = v := by
  refine BitVec.eq_of_getLsbD_eq fun i hi => ?_
  have hz := congrArg (BitVec.getLsbD · i) h
  simp only [BitVec.getLsbD_and, BitVec.getLsbD_not, hi, decide_true, Bool.true_and, BitVec.ofNat_eq_ofNat, BitVec.getLsbD_zero] at hz
  simp only [BitVec.getLsbD_and]
  cases hv : v.getLsbD i <;> simp_all

/-- A write with no reserved bit set keeps every bit that it gives. -/
theorem entryCtl_mask {e : Fin 512} {v : Word} (h : reservedWrite (aEntry e.val + 12) v = false) : v &&& 0x870101FF = v := by
  simp only [reservedWrite, regInfo_entryCtl, RegInfo.defined, bne_eq_false_iff_eq] at h
  exact and_eq_self_of_and_not_eq_zero (by simpa using h)

theorem aEntry_ne {x e i j : Nat} (hi : i < 16) (hj : j < 16) (h : x ≠ e) : aEntry x + i ≠ aEntry e + j := by
  simp only [aEntry]; omega

/-- Another valid entry has the key that entry `e` has in `s`. -/
def keyTaken (s : State) (e : Nat) : Bool := (validEntries s).any fun x => x ≠ e && entryKey s x == entryKey s e

theorem keyTaken_iff {s : State} {e : Nat} :
    keyTaken s e = true ↔ ∃ x : Fin 512, x.val ≠ e ∧ entryValid s x.val = true ∧ entryKey s x.val = entryKey s e := by
  simp only [keyTaken, validEntries, List.any_eq_true, List.mem_filter, List.mem_range, Bool.and_eq_true, decide_eq_true_eq, beq_iff_eq]
  exact ⟨fun ⟨x, ⟨hx, hv⟩, hne, hk⟩ => ⟨⟨x, hx⟩, hne, hv, hk⟩, fun ⟨x, hne, hv, hk⟩ => ⟨x.val, ⟨x.isLt, hv⟩, hne, hk⟩⟩

/-- What entry `x` is, where a state differs from another in entry `e`'s control word alone. -/
theorem entry_of_regs {s t : State} {e x : Nat} (hr : ∀ a, a ≠ aEntry e + 12 → a ≠ aFlowtab + 4 → t.reg a = s.reg a)
    (hx : x ≠ e) : entryCtl t x = entryCtl s x ∧ entryValid t x = entryValid s x ∧ entryKey t x = entryKey s x := by
  have h : ∀ i < 16, t.reg (aEntry x + i) = s.reg (aEntry x + i) := fun i hi =>
    hr _ (aEntry_ne hi (by omega) hx) (by simp only [aEntry]; omega)
  have hctl : entryCtl t x = entryCtl s x := h 12 (by omega)
  refine ⟨hctl, by rw [entryValid, entryValid, hctl], ?_⟩
  simp only [entryKey, entryPort, hctl, h 4 (by omega), show t.reg (aEntry x) = s.reg (aEntry x) from h 0 (by omega)]

theorem entryKey_self_congr {s t : State} {e : Nat} (h0 : t.reg (aEntry e) = s.reg (aEntry e)) (h4 : t.reg (aEntry e + 4) = s.reg (aEntry e + 4))
    (hp : entryPort t e = entryPort s e) : entryKey t e = entryKey s e := by
  simp only [entryKey, hp, h0, h4]

theorem State.flowtabCtl_of_free {s : State} {e : Nat} {v : Word} (hm : v &&& 0x870101FF = v)
    (h : v.getLsbD 31 = true → keyTaken (s.setReg (aEntry e + 12) v) e = false) : s.flowtabCtl e v = s.setReg (aEntry e + 12) v := by
  unfold State.flowtabCtl
  rw [hm]
  refine if_neg fun hc => ?_
  obtain ⟨hv, hk⟩ := Bool.and_eq_true_iff.mp hc
  exact absurd hk (by rw [show List.any _ _ = _ from h hv]; decide)

theorem State.flowtabCtl_of_taken {s : State} {e : Nat} {v : Word} (hm : v &&& 0x870101FF = v) (hv : v.getLsbD 31 = true)
    (h : keyTaken (s.setReg (aEntry e + 12) v) e = true) :
    s.flowtabCtl e v = ((s.setReg (aEntry e + 12) v).lower (aEntry e + 12) 0x80000000).raise (aFlowtab + 4) 1 := by
  unfold State.flowtabCtl
  rw [hm]
  exact if_pos (Bool.and_eq_true_iff.mpr ⟨hv, h⟩)

theorem State.reg_lower_ne (s : State) {a b : Nat} (m : Word) (h : b ≠ a) : (s.lower a m).reg b = s.reg b := s.reg_setReg_ne _ h

/-- The write touches no register but entry `e`'s control word and the table's error bit. -/
theorem State.flowtabCtl_reg_ne {s : State} {e : Nat} {v : Word} {a : Nat} (ha : a ≠ aEntry e + 12) (hf : a ≠ aFlowtab + 4) :
    (s.flowtabCtl e v).reg a = s.reg a := by
  unfold State.flowtabCtl
  dsimp only
  split
  · rw [State.reg_raise_ne _ _ hf, State.reg_lower_ne _ _ ha, State.reg_setReg_ne _ _ ha]
  · rw [State.reg_setReg_ne _ _ ha]

/-- Entry `e`'s control word after the write, but for VALID. -/
theorem entryPort_lower (s : State) (e : Nat) : entryPort ((s.lower (aEntry e + 12) 0x80000000).raise (aFlowtab + 4) 1) e = entryPort s e := by
  have hne : aEntry e + 12 ≠ aFlowtab + 4 := by simp only [aEntry]; omega
  have hctl : entryCtl ((s.lower (aEntry e + 12) 0x80000000).raise (aFlowtab + 4) 1) e = entryCtl s e &&& ~~~0x80000000 := by
    rw [entryCtl, State.reg_raise_ne _ _ hne]; exact State.reg_setReg_self ..
  refine Nat.eq_of_testBit_eq fun i => ?_
  simp only [entryPort, hctl, testBit_wbits, BitVec.getLsbD_and]
  by_cases hi : i < 3
  · interval_cases i <;> simp
  · simp [hi]

/-- Whether VALID stays or not, entry `e` is looked up by the key that was written. -/
theorem entryKey_flowtabCtl (s : State) (e : Nat) {v : Word} (hm : v &&& 0x870101FF = v) :
    entryKey (s.flowtabCtl e v) e = entryKey (s.setReg (aEntry e + 12) v) e := by
  have hreg : ∀ i < 12, (s.flowtabCtl e v).reg (aEntry e + i) = (s.setReg (aEntry e + 12) v).reg (aEntry e + i) := fun i hi => by
    rw [State.flowtabCtl_reg_ne (by omega) (by simp only [aEntry]; omega), State.reg_setReg_ne _ _ (by omega)]
  refine entryKey_self_congr (hreg 0 (by omega)) (hreg 4 (by omega)) ?_
  unfold State.flowtabCtl
  rw [hm]
  dsimp only
  split
  · exact entryPort_lower _ e
  · rfl

theorem keyTaken_setReg_iff {s : State} {e : Fin 512} {v : Word} (hm : v &&& 0x870101FF = v) :
    keyTaken (s.setReg (aEntry e.val + 12) v) e.val = true ↔
      ∃ x : Fin 512, x ≠ e ∧ entryValid s x.val = true ∧ entryKey s x.val = entryKey (s.flowtabCtl e.val v) e.val := by
  rw [keyTaken_iff, entryKey_flowtabCtl s e.val hm]
  refine exists_congr fun x => ?_
  rw [Ne, Fin.val_eq_val]
  refine and_congr_right fun hne => ?_
  obtain ⟨-, hv, hk⟩ := entry_of_regs (s := s) (t := s.setReg (aEntry e.val + 12) v) (e := e.val) (x := x.val)
    (fun a ha _ => s.reg_setReg_ne v ha) (by rwa [Ne, Fin.val_eq_val])
  rw [hv, hk]

theorem exec_flowtabCtlWrite {s : State} {e : Fin 512} {v : Word} (h : reservedWrite (aEntry e.val + 12) v = false) :
    exec (.flowtabCtlWrite e v) s = .next (s.flowtabCtl e.val v) := guarded_of_unreserved h _

/-- R276: a written entry is stored, and is not VALID where another valid one has its key. -/
theorem flowtabCtl_spec (s : State) (e : Fin 512) {v : Word} (hm : v &&& 0x870101FF = v) :
    (∀ x : Fin 512, x ≠ e → entryCtl (s.flowtabCtl e.val v) x.val = entryCtl s x.val) ∧
    (v.getLsbD 31 = false → entryCtl (s.flowtabCtl e.val v) e.val = v) ∧
    (v.getLsbD 31 = true → (∀ x : Fin 512, x ≠ e → entryValid s x.val = true → entryKey s x.val ≠ entryKey (s.flowtabCtl e.val v) e.val) →
      entryCtl (s.flowtabCtl e.val v) e.val = v) ∧
    (∀ x : Fin 512, v.getLsbD 31 = true → x ≠ e → entryValid s x.val = true → entryKey s x.val = entryKey (s.flowtabCtl e.val v) e.val →
      entryValid (s.flowtabCtl e.val v) e.val = false ∧ ((s.flowtabCtl e.val v).reg (aFlowtab + 4)).getLsbD 0 = true) := by
  have hfree : (v.getLsbD 31 = true → keyTaken (s.setReg (aEntry e.val + 12) v) e.val = false) →
      entryCtl (s.flowtabCtl e.val v) e.val = v := fun h => by
    rw [State.flowtabCtl_of_free hm h]; exact s.reg_setReg_self _ v
  refine ⟨fun x hx => ?_, fun hv => hfree fun h => absurd (hv.symm.trans h) (by decide), fun _ hno => hfree fun _ => ?_, fun x hv hx hval hk => ?_⟩
  · exact (entry_of_regs (fun a => State.flowtabCtl_reg_ne) (by rwa [Ne, Fin.val_eq_val])).1
  · refine Bool.eq_false_iff.mpr fun ht => ?_
    obtain ⟨x, hx, hval, hk⟩ := (keyTaken_setReg_iff hm).mp ht
    exact hno x hx hval hk
  · rw [State.flowtabCtl_of_taken hm hv ((keyTaken_setReg_iff hm).mpr ⟨x, hx, hval, hk⟩)]
    refine ⟨?_, by simp⟩
    have hne : aEntry e.val + 12 ≠ aFlowtab + 4 := by simp only [aEntry]; omega
    rw [entryValid, entryCtl, State.reg_raise_ne _ _ hne, State.lower, State.reg_setReg_self]
    simp [wbit]

/-! ### Position flows -/

/-- The state after Ganen takes a datagram from those that wait. -/
def State.posTaken (s : State) (f : Nat) (b : List Byte) : State := { s with net := { s.net with pos := s.net.pos.erase (f, b) } }

/-- What waits at the ports plays no part in R235's check. -/
theorem exec_positionDatagram {s : State} {f : Fin 256} (hserve : s.serving = true) (hstandby : s.standby = false)
    (he : (s.flow f.val).enable = true) (hp : (s.flow f.val).position = true) (b : List Byte) :
    exec (.positionDatagram f b) s =
      if posOk s f.val b then
        .next (((s.posTaken f.val b).modFlowRt f.val fun r => { r with pos := some (beAt b 4 4) }).enter
          (.position ((b.drop 8).take (b.length - 12))))
      else .next ((s.posTaken f.val b).count (kFlow f.val 9)) := by
  change (if _ then _ else if posOk (s.posTaken f.val b) f.val b then _ else _ : Host.Outcome State Fault Refusal) = _
  rw [if_neg (by simp [hserve, hstandby, he, hp])]
  rfl

/-- Settles O32: by what each of Ganen's works on a flow does on an open port, by the flow table's control write, and by R235's check
of a datagram. -/
theorem flowsAndPositionsAreKept : Obligations.FlowsAndPositionsAreKept := by
  unfold Obligations.FlowsAndPositionsAreKept
  refine ⟨⟨fun s f => ⟨fun hup hl => ?_, fun hup hl => ?_, fun he hm hsec hc hq => ?_, fun he hm hsec hc hq hr => ?_⟩,
    fun s f he hm hsec hup hon hp => ?_, fun s e v h => ?_⟩, fun s f b hserve hstandby he hp => ⟨fun hok => ?_, fun hok => ?_⟩⟩
  · exact ⟨_, exec_pathDown_first hup hl, by simp, by simp, fun g hg => State.flowRt_modFlowRt_ne _ _ hg⟩
  · exact ⟨_, exec_pathDown_second hup hl, by simp, by simp, fun g hg => State.flowRt_modFlowRt_ne _ _ hg⟩
  · obtain ⟨hup, hon, hp⟩ := hc
    refine ⟨_, exec_igmp_query (joins_of_multicast he hm) hq, ?_, by simp⟩
    rw [State.modFlowRt_out, State.igmp_open hsec hup hon hp, State.sendOwn, State.count_out]
    rfl
  · obtain ⟨hup, hon, hp⟩ := hc
    refine ⟨_, exec_igmp_repeat (joins_of_multicast he hm) hq hr, ?_, ?_⟩
    · rw [State.modFlowRt_out, State.igmp_open hsec hup hon hp, State.sendOwn, State.count_out]
      rfl
    · rw [State.flowRt_modFlowRt_self, State.igmp_open hsec hup hon hp, State.flowRt_sendOwn]
  · rw [exec_arpRefresh he hm, State.arpAsk_open hsec hup hon hp]
    rfl
  · exact ⟨_, exec_flowtabCtlWrite h, flowtabCtl_spec s e (entryCtl_mask h)⟩
  · refine ⟨_, (exec_positionDatagram hserve hstandby he hp b).trans (if_pos hok), ?_, rfl, fun g hg => ?_, rfl⟩
    · exact congrArg FlowRt.pos (State.flowRt_modFlowRt_self ..)
    · exact State.flowRt_modFlowRt_ne _ _ hg
  · refine ⟨_, (exec_positionDatagram hserve hstandby he hp b).trans (if_neg (by simp [hok])), rfl, State.count_delta .., fun g => ?_⟩
    rw [State.flowRt, State.count_net]
    rfl

end Sys2Proof.Machine

/-! Once an entry's command has been applied, waiting kernels take their Facets, a reduced port in use returns to its speed, and a
standby notes the reply. None of it touches what commands set, but for the Facets (O59, O60). -/

namespace Sys2Proof.Machine

/-! ### What the settling of a change leaves alone -/

/-- What a network port keeps whatever becomes of its link. -/
structure PortSetting where
  ttl : Nat
  ipBits : Nat
  gateway : Nat

def NetPort.setting (p : NetPort) : PortSetting := { ttl := p.ttl, ipBits := p.ipBits, gateway := p.gateway }

/-- A register below the Facet block and PCIe that holds neither a port's errors nor a ring's head. -/
structure Aside (a : Nat) : Prop where
  low : a < aFacetctl
  err : ∀ k < 6, a ≠ aNet k + 8
  head : ∀ k < 6, ∀ r < 4, a ≠ aNetRing k r + 16

/-- What commands set is as it was, but for the Facets and their kernels. -/
structure Tidied (s t : State) : Prop where
  render : t.render = s.render
  loupe : t.loupe = s.loupe
  time : t.time = s.time
  ports : t.ports = s.ports
  power : t.power = s.power
  flows : t.net.flows = s.net.flows
  port : ∀ k, (t.np k).setting = (s.np k).setting
  reg : ∀ a, Aside a → t.reg a = s.reg a

/-- The Facets and their kernels too are as they were. -/
structure Calm (s t : State) : Prop extends Tidied s t where
  facets : t.facets = s.facets

theorem Tidied.refl (s : State) : Tidied s s := ⟨rfl, rfl, rfl, rfl, rfl, rfl, fun _ => rfl, fun _ _ => rfl⟩

theorem Tidied.trans {a b c : State} (h : Tidied a b) (k : Tidied b c) : Tidied a c :=
  ⟨k.render.trans h.render, k.loupe.trans h.loupe, k.time.trans h.time, k.ports.trans h.ports, k.power.trans h.power,
   k.flows.trans h.flows, fun j => (k.port j).trans (h.port j), fun a ha => (k.reg a ha).trans (h.reg a ha)⟩

theorem Tidied.ite {s a b : State} {c : Prop} [Decidable c] (ha : Tidied s a) (hb : Tidied s b) : Tidied s (if c then a else b) := by
  split <;> assumption

theorem Tidied.foldl {β : Type} {f : State → β → State} (hf : ∀ t b, Tidied t (f t b)) (l : List β) (s : State) :
    Tidied s (l.foldl f s) := by
  induction l generalizing s with
  | nil => exact .refl s
  | cons b l ih => exact (hf s b).trans (ih _)

/-- An update of none of these parts. -/
theorem Tidied.upd {s0 s : State} {pending freeCtr out pins cnts sec boot kcp delta integ pair facets mem dma} (h : Tidied s0 s) :
    Tidied s0 (State.mk pending freeCtr out pins s.regs cnts s.power sec boot kcp delta s.render integ pair s.time s.loupe facets mem
      dma s.net s.ports) :=
  ⟨h.render, h.loupe, h.time, h.ports, h.power, h.flows, h.port, h.reg⟩

namespace Calm

theorem refl (s : State) : Calm s s := ⟨.refl s, rfl⟩

theorem trans {a b c : State} (h : Calm a b) (k : Calm b c) : Calm a c := ⟨h.toTidied.trans k.toTidied, k.facets.trans h.facets⟩

theorem ite {s a b : State} {c : Prop} [Decidable c] (ha : Calm s a) (hb : Calm s b) : Calm s (if c then a else b) := by
  split <;> assumption

theorem foldl {β : Type} {f : State → β → State} {l : List β} (hf : ∀ t, ∀ b ∈ l, Calm t (f t b)) (s : State) : Calm s (l.foldl f s) := by
  induction l generalizing s with
  | nil => exact .refl s
  | cons b l ih => exact (hf s b (by simp)).trans (ih (fun t x hx => hf t x (by simp [hx])) _)

theorem upd {s0 s : State} {pending freeCtr out pins cnts sec boot kcp delta integ pair mem dma} (h : Calm s0 s) :
    Calm s0 (State.mk pending freeCtr out pins s.regs cnts s.power sec boot kcp delta s.render integ pair s.time s.loupe s.facets mem
      dma s.net s.ports) :=
  ⟨h.toTidied.upd, h.facets⟩

/-- A write of a register that is not set aside. -/
theorem setReg (s : State) {b : Nat} (w : Word) (hb : ¬ Aside b) : Calm s (s.setReg b w) :=
  ⟨⟨rfl, rfl, rfl, rfl, rfl, rfl, fun _ => rfl, fun _ ha => s.reg_setReg_ne w (ne_of_mem_of_not_mem (s := {a | Aside a}) ha hb)⟩, rfl⟩

theorem count (s : State) (k n : Nat) : Calm s (s.count k n) := .ite (.refl s) (.upd (.refl s))

/-- A change of a port that keeps its settings. -/
theorem modNp (s : State) (j : Nat) {f : NetPort → NetPort} (hf : ∀ p, (f p).setting = p.setting) : Calm s (s.modNp j f) := by
  refine ⟨⟨rfl, rfl, rfl, rfl, rfl, rfl, fun k => ?_, fun _ _ => rfl⟩, rfl⟩
  by_cases hk : k = j
  · subst hk
    by_cases hl : k < s.net.port.length
    · rw [State.np_modNp_self s k f hl, hf]
    · have hm : s.modNp k f = s := by
        unfold State.modNp
        rw [List.modify_eq_self (by omega)]
      rw [hm]
  · rw [State.np_modNp_ne s f hk]

end Calm

/-- A register of PCIe's block, or of a Facet, is not set aside. -/
theorem not_aside_of_le {a : Nat} (h : aFacetctl ≤ a) : ¬ Aside a := fun k => Nat.not_lt.mpr h k.low
theorem not_aside_err {k : Nat} (h : k < 6) : ¬ Aside (aNet k + 8) := fun a => a.err k h rfl
theorem not_aside_head {k r : Nat} (h : k < 6) (hr : r < 4) : ¬ Aside (aNetRing k r + 16) := fun a => a.head k h r hr rfl

/-! ### Events -/

namespace Calm
variable (s : State)

theorem emit (o : OutMsg) : Calm s (s.emit o) := .upd (.refl s)

theorem msix (v : Nat) : Calm s (s.msix v) := .ite (.setReg s _ (not_aside_of_le (by decide))) (.emit s _)

theorem setRing (j : Nat) (f : Ring → Ring) : Calm s (s.setRing j f) := .upd (.refl s)
theorem setSess (x : Nat) (f : Session → Session) : Calm s (s.setSess x f) := .upd (.refl s)

theorem fillOne (j : Nat) (isFirst isLast isEvent : Bool) (addr : Nat) (bs : List Byte) :
    Calm s (fillOne j isFirst isLast isEvent addr bs s) := by
  have hhead := fun o w => (((Calm.emit s (.host addr bs)).trans (.emit _ o)).trans
    (.setReg _ w (not_aside_of_le (a := aRing j + 0x30) (by unfold aRing aFacetctl aPcie; omega))))
  have hwb := fun {c : Prop} [Decidable c] o w o' => Calm.ite (c := c) (hhead o w) ((hhead o w).trans (.emit _ o'))
  unfold Machine.fillOne
  exact .ite (((hwb _ _ _).trans (.setRing ..)).trans (.msix ..)) ((hwb _ _ _).trans (.setRing ..))

theorem fillAll (j : Nat) (ev : Bool) (l : List (Nat × List Byte)) : ∀ (first : Bool) (s : State), Calm s (fillAll j ev first l s) := by
  induction l with
  | nil => exact fun _ s => .refl s
  | cons e l ih => exact fun _ s => (fillOne s ..).trans (ih _ _)

theorem flushRing (j n : Nat) : ∀ s : State, Calm s (flushRing j n s) := by
  induction n with
  | zero => exact .refl
  | succ n ih =>
    intro s
    unfold Machine.flushRing
    split
    · exact .refl s
    · split
      · exact .refl s
      · exact ((setRing s ..).trans (fillAll ..)).trans (ih _)

theorem sendOwn (k : Nat) (f : OwnFrame) : Calm s (s.sendOwn k f) := (emit s _).trans (.count ..)

theorem place (k r : Nat) (f : OwnFrame) : Calm s (s.place k r f) :=
  .ite (.refl s) (.ite (.modNp s k fun _ => rfl) (.sendOwn ..))

theorem deliver (p : OutPkt) : Calm s (s.deliver p) := by
  unfold State.deliver
  split
  · exact .place ..
  · exact .upd (.refl s)
  · exact (setRing s ..).trans (.flushRing ..)

theorem sendEvent (code txn : Nat) (payload : List Byte) (x : Nat) : Calm s (sendEvent code txn payload x s) :=
  .ite ((setSess s ..).trans (.deliver ..)) (.refl s)

theorem event (code : Nat) (payload : List Byte) : Calm s (s.event code payload) :=
  .ite (.refl s) (.foldl (fun t x _ => .sendEvent t code 0 payload x) s)

/-! ### Links -/

theorem netCount (k c n : Nat) : Calm s (s.netCount k c n) := .count ..

theorem netErr {k : Nat} (hk : k < 6) (bit : Nat) : Calm s (s.netErr k bit) := .setReg s _ (not_aside_err hk)

theorem dropMedia (f : Nat) {k : Nat} (hk : k < 6) : Calm s (s.dropMedia f k) :=
  ((netCount s k 7 1).trans (.netErr _ hk 5)).trans (.count ..)

theorem memWrite (a : Nat) (bs : List Byte) : Calm s (s.memWrite a bs) := .upd (.refl s)

theorem returnUnsent {k r : Nat} (hk : k < 6) (hr : r < 4) (n : Nat) : ∀ s : State, Calm s (returnUnsent k r n s) := by
  induction n with
  | zero => exact .refl
  | succ n ih => exact fun s => ((ite (memWrite ..) (refl s)).trans (.setReg _ _ (not_aside_head hk hr))).trans (ih _)

theorem unsent {k : Nat} (hk : k < 6) : Calm s (s.unsent k) :=
  (returnUnsent hk (by decide) _ s).trans (.returnUnsent hk (by decide) ..)

theorem linkDown {k : Nat} (hk : k < 6) : Calm s (s.linkDown k) := by
  refine .ite (.refl s) ?_
  extract_lets w s1 s2
  have h1 : Calm s s1 := .modNp s k fun _ => rfl
  have h2 : Calm s s2 := h1.trans (.foldl (fun t e _ => .dropMedia t e.1 hk) s1)
  exact ((h2.trans (.unsent _ hk)).trans (.netCount ..)).trans ((netErr _ hk _).trans (.event ..))

theorem speedBack {k : Nat} (hk : k < 6) : Calm s (s.speedBack k) :=
  .ite ((linkDown s hk).trans (.modNp _ k fun _ => rfl)) (.refl s)

theorem speedCheck : Calm s s.speedCheck :=
  .foldl (fun t k hk => .ite (.speedBack t ((List.mem_range.mp hk).trans (by decide))) (.refl t)) s

theorem mirror (x q : Nat) (r : ReplyRec) : Calm s (s.mirror x q r) := .ite (.setSess ..) (.refl s)

end Calm

/-! ### Kernels -/

namespace Tidied
variable (s : State)

theorem facetReg {b : Nat} (w : Word) (hb : aFacetctl ≤ b) : Tidied s (s.setReg b w) := (Calm.setReg s w (not_aside_of_le hb)).toTidied

theorem aFacet_le (k i : Nat) : aFacetctl ≤ aFacet k + i := by unfold aFacet; omega

theorem setFst (k v : Nat) : Tidied s (s.setFst k v) := .upd (.refl s)
theorem modKernel (n : Nat) (f : Kernel → Kernel) : Tidied s (s.modKernel n f) := .upd (.refl s)
theorem memClear (lo hi : Nat) : Tidied s (s.memClear lo hi) := .upd (.refl s)
theorem memWrite (a : Nat) (bs : List Byte) : Tidied s (s.memWrite a bs) := .upd (.refl s)

theorem facetCtl (k : Nat) (v : Word) : Tidied s (s.facetCtl k v) :=
  .ite (.upd ((facetReg s _ (aFacet_le k 0)).trans (.setFst ..))) (.facetReg s _ (aFacet_le k 0))

theorem loadKernel (n k : Nat) (img : List Byte) : Tidied s (s.loadKernel n k img) := by
  unfold State.loadKernel
  extract_lets _ _ _ _ _ _ s1 _ s2 s3
  have h1 : Tidied s s1 := (facetCtl s ..).trans (.setFst ..)
  have h3 : Tidied s s3 := ((h1.upd.trans (.memClear s2 _ _)).trans (.memWrite ..)).trans (.memWrite ..)
  have hreg := fun {t : State} (h : Tidied s t) (i : Nat) (w : Word) => h.trans (.facetReg t w (aFacet_le k i))
  exact hreg (hreg (hreg (hreg (hreg (hreg (hreg (hreg h3 0 _) _ _) _ _) _ _) _ _) _ _) _ _) _ _

theorem runKernel (n : Nat) (go : Bool) : Tidied s (s.runKernel n go) := by
  unfold State.runKernel
  split
  · exact .refl s
  · exact .ite (.modKernel ..) (.ite ((modKernel s ..).trans (.facetReg _ _ (aFacet_le _ 0)))
      ((modKernel s ..).trans (.facetReg _ _ (aFacet_le _ 0))))

theorem settleKernel (e : Nat × Kernel) : Tidied s (s.settleKernel e) := by
  unfold State.settleKernel
  extract_lets _ s1
  split
  · next k _ _ _ =>
    extract_lets s2
    have h2 : Tidied s s2 := ((Tidied.upd (.refl s)).trans (.loadKernel s1 e.1 k e.2.img)).trans (.modKernel ..)
    exact .ite (h2.trans (.runKernel ..)) h2
  · exact .refl s

/-- What follows an applied command leaves what commands set as it was. -/
theorem settle (x q : Nat) (r : ReplyRec) : Tidied s (s.settle.mirror x q r) :=
  ((upd (.foldl .settleKernel _ s)).trans (Calm.speedCheck _).toTidied).trans (Calm.mirror ..).toTidied

end Tidied

/-- Where no kernel waits for a Facet, what follows an applied command leaves the Facets too. -/
theorem Calm.settle {s : State} (h : unplaced s = []) (x q : Nat) (r : ReplyRec) : Calm s (s.settle.mirror x q r) := by
  have hk : s.settleKernels = s := by
    unfold State.settleKernels
    rw [h]
    rfl
  have hd : s.dropUnplaced = s := by
    have hf : (s.facets.kernels.filter fun e => !decide (e.2.facet ≥ 64)) = s.facets.kernels :=
      List.filter_eq_self.mpr fun e he => by simpa using List.filter_eq_nil_iff.mp h e he
    unfold State.dropUnplaced
    rw [hf]
  unfold State.settle
  rw [hk, hd]
  exact (Calm.speedCheck s).trans (.mirror ..)

end Sys2Proof.Machine

/-! A command of Table CMD-1 that is admitted and prepares is the last entry of the delta, and that entry applies it whole (O59, O60). -/

namespace Sys2Proof.Machine

/-- An entry whose units all prepared applies its command whole, and what follows an applied command follows. -/
theorem State.applyEntry_command (x : State) {sp : OpSpec} {ep : Endpoint} {i q op txn : Nat} {tg : Bool} {pl : List Byte} {rcd : ReplyRec}
    {dat : List Byte} (hs : specOf op = some sp) (hr : rcd.touched = rcd.succeeded) :
    x.applyEntry (.command ep i q op txn tg pl rcd dat) =
      (sp.apply (entryCmd (.command ep i q op txn tg pl rcd dat)) [] x).settle.mirror i q rcd := by
  have hb : ((List.range 16).filter fun u => rcd.touched.testBit u && !rcd.succeeded.testBit u) = [] := by simp [hr]
  unfold State.applyEntry State.applyCmd
  dsimp only
  rw [hb, hs]
  rfl

/-- What the tables of effects say of an opcode is what the table of opcodes says, and accepting a command keeps its opcode and its
transaction. -/
structure EffectRow.Tabled (r : EffectRow) : Prop where
  runs : ∀ p s, exec (r.send p) s = .next (kcpOp r.op r.spec p s)
  checked : exempt r.op = false
  rules : specOf r.op = some r.spec
  keeps : ∀ c t, (r.spec.accept c t).1.op = c.op ∧ (r.spec.accept c t).1.txn = c.txn

theorem State.takePiece_keeps_cmd (s : State) (c : Cmd) (f : PieceFields) :
    (s.takePiece c f).1.op = c.op ∧ (s.takePiece c f).1.txn = c.txn := by
  unfold State.takePiece
  dsimp only
  split <;> exact ⟨rfl, rfl⟩

theorem effectRow_tabled : ∀ r ∈ renderEffects ++ deviceEffects, r.Tabled := by
  unfold renderEffects deviceEffects
  simp only [List.cons_append, List.nil_append, List.forall_mem_cons, List.not_mem_nil, false_imp_iff, implies_true, and_true]
  repeat' apply And.intro
  all_goals refine ⟨fun _ _ => rfl, by decide, rfl, fun _ _ => ?_⟩
  any_goals exact ⟨rfl, rfl⟩
  all_goals exact State.takePiece_keeps_cmd ..

/-- An admitted command that prepares is entered last, and its entry applies the command as it was accepted. -/
theorem EffectRow.Tabled.enters {r : EffectRow} (hr : r.Tabled) {p : Packet} {s : State} (hi : InOrder r.op p s)
    (ha : Admitted r.spec (toCmd r.op p) (s.received p)) (hp : Prepares r.spec (toCmd r.op p) (s.received p)) :
    ∃ v e, exec (r.send p) s = .next v ∧ v.delta.entries.getLast? = some e ∧ (entryCmd e).txn = 0 ∧
      ∀ x, ∃ i q rcd, x.applyEntry e = (r.spec.apply (entryCmd e) [] x).settle.mirror i q rcd := by
  have hv : exec (r.send p) s = .next ((s.received p).accepted r.spec (toCmd r.op p)) := by
    rw [hr.runs, kcpOp_inOrder hi hr.checked, State.checked_prepares ha hp]
  obtain ⟨hop, htxn⟩ := hr.keeps (toCmd r.op p) ((s.received p).draw (r.spec.seeds (toCmd r.op p) (s.received p).projected))
  refine ⟨_, .command .., hv, List.getLast?_concat, htxn.trans ha.outside,
    fun x => ⟨_, _, _, x.applyEntry_command (by rw [hop]; exact hr.rules) rfl⟩⟩

end Sys2Proof.Machine

/-! What the commands on zones and feeds set, whatever follows (O59). -/

namespace Sys2Proof.Machine

/-! ### Steps over a list that each change one thing -/

section Folds
variable {σ α β : Type} {o : σ → Nat → α}

/-- Each step changes what it names by `g`, which changes nothing a second time: in the end each thing named has changed so once. -/
theorem foldl_named {step : σ → Nat → σ} {g : α → α} (hg : ∀ a, g (g a) = g a) (hself : ∀ s i, o (step s i) i = g (o s i))
    (hne : ∀ s i j, j ≠ i → o (step s i) j = o s j) (l : List Nat) (s : σ) (j : Nat) :
    o (l.foldl step s) j = if j ∈ l then g (o s j) else o s j := by
  induction l generalizing s with
  | nil => simp
  | cons i l ih =>
    rw [List.foldl_cons, ih]
    by_cases hj : j = i
    · subst hj; simp [hself, hg]
    · simp [hne s i j hj, hj]

/-- Each step changes no more than what its key names: a thing that no key names is as it was. -/
theorem foldl_unnamed {step : σ → Nat × β → σ} (hne : ∀ s e j, j ≠ e.1 → o (step s e) j = o s j) {l : List (Nat × β)} {j : Nat}
    (hj : j ∉ l.map (·.1)) (s : σ) : o (l.foldl step s) j = o s j := by
  induction l generalizing s with
  | nil => rfl
  | cons e l ih =>
    simp only [List.map_cons, List.mem_cons, not_or] at hj
    rw [List.foldl_cons, ih hj.2, hne s e j hj.1]

/-- With no key named twice, a thing ends as its one step leaves it, which finds it as it was. -/
theorem foldl_once {step : σ → Nat × β → σ} (hne : ∀ s e j, j ≠ e.1 → o (step s e) j = o s j) {l : List (Nat × β)}
    (hn : (l.map (·.1)).Nodup) {e : Nat × β} (he : e ∈ l) (s : σ) :
    ∃ t, o t e.1 = o s e.1 ∧ o (l.foldl step s) e.1 = o (step t e) e.1 := by
  induction l generalizing s with
  | nil => simp at he
  | cons d l ih =>
    simp only [List.map_cons, List.nodup_cons] at hn
    rw [List.foldl_cons]
    obtain rfl | he := List.mem_cons.mp he
    · exact ⟨s, rfl, foldl_unnamed hne hn.1 _⟩
    · obtain ⟨t, ht, hl⟩ := ih hn.2 he (step s d)
      have hk : e.1 ≠ d.1 := fun h => hn.1 (h ▸ List.mem_map_of_mem he)
      exact ⟨t, ht.trans (hne s d _ hk), hl⟩

end Folds

/-! ### Tables of the render and of Loupe, after what follows a command -/

section
variable {s t : State} (h : Tidied s t)
include h

theorem Tidied.zone (z : Nat) : t.zone z = s.zone z := by rw [State.zone, h.render, State.zone]
theorem Tidied.zoneRt (z : Nat) : t.zoneRt z = s.zoneRt z := by rw [State.zoneRt, h.render, State.zoneRt]
theorem Tidied.obj (o : Nat) : t.obj o = s.obj o := by rw [State.obj, h.render, State.obj]
theorem Tidied.objRt (o : Nat) : t.objRt o = s.objRt o := by rw [State.objRt, h.render, State.objRt]
theorem Tidied.feed (f : Nat) : t.feed f = s.feed f := by rw [State.feed, h.render, State.feed]
theorem Tidied.feedRt (f : Nat) : t.feedRt f = s.feedRt f := by rw [State.feedRt, h.render, State.feedRt]
theorem Tidied.chain (f : Nat) : t.chain f = s.chain f := by rw [State.chain, h.render, State.chain]
theorem Tidied.routeRt (r : Nat) : t.routeRt r = s.routeRt r := by rw [State.routeRt, h.render, State.routeRt]
theorem Tidied.lf (f : Nat) : t.lf f = s.lf f := by rw [State.lf, h.loupe, State.lf]
theorem Tidied.lz (z : Nat) : t.lz z = s.lz z := by rw [State.lz, h.loupe, State.lz]

end

@[simp] theorem State.zone_modZone_self (s : State) (z : Nat) (f : Zone → Zone) : (s.modZone z f).zone z = f (s.zone z) := mget_mmod_self ..
theorem State.zone_modZone_ne (s : State) {y z : Nat} (f : Zone → Zone) (h : y ≠ z) : (s.modZone z f).zone y = s.zone y := mget_mmod_ne _ _ _ h
@[simp] theorem State.feed_modFeed_self (s : State) (f : Nat) (g : Feed → Feed) : (s.modFeed f g).feed f = g (s.feed f) := mget_mmod_self ..
theorem State.feed_modFeed_ne (s : State) {j f : Nat} (g : Feed → Feed) (h : j ≠ f) : (s.modFeed f g).feed j = s.feed j := mget_mmod_ne _ _ _ h
@[simp] theorem State.chain_modChain_self (s : State) (f : Nat) (g : Chain → Chain) : (s.modChain f g).chain f = g (s.chain f) := mget_mmod_self ..
theorem State.chain_modChain_ne (s : State) {j f : Nat} (g : Chain → Chain) (h : j ≠ f) : (s.modChain f g).chain j = s.chain j :=
  mget_mmod_ne _ _ _ h
@[simp] theorem State.obj_modObj_self (s : State) (o : Nat) (f : Obj → Obj) : (s.modObj o f).obj o = f (s.obj o) := mget_mmod_self ..
theorem State.obj_modObj_ne (s : State) {j o : Nat} (f : Obj → Obj) (h : j ≠ o) : (s.modObj o f).obj j = s.obj j := mget_mmod_ne _ _ _ h
@[simp] theorem State.routeRt_modRoute_self (s : State) (r : Nat) (f : RouteRt → RouteRt) : (s.modRoute r f).routeRt r = f (s.routeRt r) :=
  mget_mmod_self ..

/-! ### Zones and the render's rate -/

theorem State.rateChange_spec (s : State) (b : Bool) : (s.rateChange b).render.rate96 = b ∧
    (s.render.rate96 ≠ b → (s.rateChange b).render.run = false ∧ (s.rateChange b).render.changing = true) := by
  unfold State.rateChange
  split
  · next h => exact ⟨h, fun hn => absurd h hn⟩
  · exact ⟨rfl, fun _ => ⟨rfl, rfl⟩⟩

theorem specRenderRate_acts {c : Cmd} {w t : State} (h : Tidied (specRenderRate.apply c [] w) t) :
    t.render.rate96 = (c.at 20 1 == 1) ∧ (w.render.rate96 ≠ (c.at 20 1 == 1) → t.render.run = false ∧ t.render.changing = true) := by
  rw [h.render]
  exact w.rateChange_spec _

theorem specZoneSet_acts {c : Cmd} {w t : State} (h : Tidied (specZoneSet.apply c [] w) t) :
    t.zone (c.at 20 2) = zoneSet c (w.zone (c.at 20 2)) ∧ ∀ y, y ≠ c.at 20 2 → t.zone y = w.zone y := by
  have hz : ∀ y, t.zone y = mget {} (mmod {} w.render.zones (c.at 20 2) (zoneSet c)) y := fun y => by
    rw [h.zone, State.zone, show (specZoneSet.apply c [] w).render.zones = _ from congrArg Spine.zones (specZoneSet_apply_spine c w)]
  exact ⟨(hz _).trans (mget_mmod_self ..), fun y hy => (hz y).trans (mget_mmod_ne _ _ _ hy)⟩

/-- The region that a ZONE_EXCL_SET gives. -/
def exclOf (c : Cmd) : Excl :=
  { on := c.at 23 1 == 1, lo := { x := c.int 24 4, y := c.int 32 4, z := c.int 40 4 }
    hi := { x := c.int 28 4, y := c.int 36 4, z := c.int 44 4 } }

theorem specZoneExclSet_acts {c : Cmd} {w t : State} (h : Tidied (specZoneExclSet.apply c [] w) t) :
    (t.zone (c.at 20 2)).excl = (w.zone (c.at 20 2)).excl.set (c.at 22 1) (exclOf c) ∧ ∀ y, y ≠ c.at 20 2 → t.zone y = w.zone y := by
  have ha : specZoneExclSet.apply c [] w = w.modZone (c.at 20 2) fun zn => { zn with excl := zn.excl.set (c.at 22 1) (exclOf c) } := rfl
  rw [ha] at h
  exact ⟨by rw [h.zone, State.zone_modZone_self], fun y hy => by rw [h.zone, State.zone_modZone_ne _ _ hy]⟩

theorem specLayoutResolve_acts {c : Cmd} {w t : State} (h : Tidied (specLayoutResolve.apply c [] w) t) (hs : w.standby = false) :
    (t.zoneRt (c.at 20 2)).again = true := by
  have ha : specLayoutResolve.apply c [] w = w.startSolve (c.at 20 2) := rfl
  rw [h.zoneRt, ha, State.startSolve, hs, if_neg (by decide), State.zoneRt_modZoneRt_self]

/-! ### Feeds -/

@[simp] theorem State.startSolve_feed (s : State) (z f : Nat) : (s.startSolve z).feed f = s.feed f := by
  unfold State.startSolve; split <;> rfl
@[simp] theorem State.startSolve_lf (s : State) (z f : Nat) : (s.startSolve z).lf f = s.lf f := by
  unfold State.startSolve; split <;> rfl

/-- The solves that a change of a feed calls for touch no feed and no record of Loupe's. -/
theorem State.resolveFor_keeps_feeds (s : State) (a b : Feed) (f : Nat) :
    (s.resolveFor a b).feed f = s.feed f ∧ (s.resolveFor a b).lf f = s.lf f := by
  unfold State.resolveFor
  dsimp only
  repeat' split
  all_goals simp

@[simp] theorem State.feed_changeFeed_self (s : State) (f : Nat) (g : Feed → Feed) : (s.changeFeed f g).feed f = g (s.feed f) := by
  rw [State.changeFeed, (State.resolveFor_keeps_feeds ..).1, State.feed_modFeed_self]
theorem State.feed_changeFeed_ne (s : State) {j f : Nat} (g : Feed → Feed) (h : j ≠ f) : (s.changeFeed f g).feed j = s.feed j := by
  rw [State.changeFeed, (State.resolveFor_keeps_feeds ..).1, State.feed_modFeed_ne _ _ h]
@[simp] theorem State.lf_changeFeed (s : State) (f : Nat) (g : Feed → Feed) (j : Nat) : (s.changeFeed f g).lf j = s.lf j := by
  rw [State.changeFeed, (State.resolveFor_keeps_feeds ..).2]; rfl

theorem specFeedSet_acts {c : Cmd} {w t : State} (h : Tidied (specFeedSet.apply c [] w) t) :
    t.feed (c.at 20 2) = feedSet c [] (w.feed (c.at 20 2)) ∧ ∀ g, g ≠ c.at 20 2 → t.feed g = w.feed g := by
  have ha : specFeedSet.apply c [] w = w.changeFeed (c.at 20 2) (feedSet c []) := rfl
  rw [ha] at h
  exact ⟨by rw [h.feed, State.feed_changeFeed_self], fun g hg => by rw [h.feed, State.feed_changeFeed_ne _ _ hg]⟩

/-- A feed once it is withdrawn: one of an auxiliary role is not. -/
def Feed.taken (q : Feed) : Feed := if q.aux then q else { q with withdrawn := true }

theorem State.feed_withdraw_self (s : State) (f : Nat) : (s.withdraw f).feed f = (s.feed f).taken := by
  unfold State.withdraw Feed.taken
  split
  · rfl
  · exact s.feed_changeFeed_self f _

theorem State.feed_withdraw_ne (s : State) (f j : Nat) (h : j ≠ f) : (s.withdraw f).feed j = s.feed j := by
  unfold State.withdraw
  split
  · rfl
  · exact s.feed_changeFeed_ne _ h

theorem specFeedWithdraw_acts {c : Cmd} {w t : State} (h : Tidied (specFeedWithdraw.apply c [] w) t) :
    everyFeed (targets w (c.at 20 2)) w t (fun w t f => (w.feed f).aux = false → (t.feed f).withdrawn = true)
      (fun w t f => t.feed f = w.feed f) := by
  have ha : specFeedWithdraw.apply c [] w = (targets w (c.at 20 2)).foldl State.withdraw w := rfl
  have hf : ∀ f, t.feed f = if f ∈ targets w (c.at 20 2) then (w.feed f).taken else w.feed f := fun f => by
    rw [h.feed, ha]
    exact foldl_named (fun a => by unfold Feed.taken; split <;> simp_all) State.feed_withdraw_self State.feed_withdraw_ne _ w f
  refine ⟨fun f hm hx => ?_, fun f hm => (hf f).trans (if_neg hm)⟩
  rw [hf, if_pos hm, Feed.taken, if_neg (by simp [hx])]

theorem State.feed_event (s : State) (code : Nat) (pl : List Byte) (f : Nat) : (s.event code pl).feed f = s.feed f := by
  rw [State.feed, State.event_render, State.feed]

/-- Clearing a veto changes no record's state. -/
theorem State.st_unveto (s : State) (f j : Nat) : ((s.modLf f fun q => { q with vetoed := false }).lf j).st = (s.lf j).st := by
  by_cases h : j = f
  · subst h; rw [State.lf_modLf_self]
  · rw [State.lf_modLf_ne _ _ h]

/-- What restoring a feed leaves of the feeds, and of the states in their records. -/
theorem State.restoreFeed_spec (s : State) (f : Nat) :
    (∀ j, (s.restoreFeed f).feed j = (s.unwithdraw f).feed j) ∧
    ((s.restoreFeed f).lf f).st = (if (s.lf f).st = 5 then 1 else (s.lf f).st) ∧
    ∀ j, j ≠ f → ((s.restoreFeed f).lf j).st = (s.lf j).st := by
  have h1 : ∀ j, (s.unwithdraw f).lf j = s.lf j := s.lf_changeFeed f _
  unfold State.restoreFeed
  extract_lets s1 q s2 s3
  have h2 : (∀ j, s2.feed j = s1.feed j) ∧ ∀ j, (s2.lf j).st = (s.lf j).st := by
    unfold s2
    split
    · exact ⟨fun _ => rfl, fun j => by rw [State.st_unveto, h1]⟩
    · exact ⟨fun _ => rfl, fun j => by rw [h1]⟩
  obtain ⟨hfeed, hst⟩ := h2
  rw [show q.st = (s.lf f).st from congrArg LFeed.st (h1 f)]
  split
  · refine ⟨fun j => (State.feed_event ..).trans (hfeed j), ?_, fun j hj => ?_⟩
    · rw [State.lf_event, State.lf_modLf_self]
    · rw [State.lf_event, State.lf_modLf_ne _ _ hj, hst]
  · exact ⟨hfeed, hst f, fun j _ => hst j⟩

theorem State.feed_restoreFeed_self (s : State) (f : Nat) : (s.restoreFeed f).feed f = { s.feed f with withdrawn := false } := by
  rw [s.restoreFeed_spec f |>.1]
  exact s.feed_changeFeed_self f _

theorem State.feed_restoreFeed_ne (s : State) (f j : Nat) (h : j ≠ f) : (s.restoreFeed f).feed j = s.feed j := by
  rw [s.restoreFeed_spec f |>.1]
  exact s.feed_changeFeed_ne _ h

theorem specFeedRestore_acts {c : Cmd} {w t : State} (h : Tidied (specFeedRestore.apply c [] w) t) :
    everyFeed (targets w (c.at 20 2)) w t (fun w t f => (t.feed f).withdrawn = false ∧ ((w.lf f).st = 5 → (t.lf f).st = 1))
      (fun w t f => t.feed f = w.feed f) := by
  have ha : specFeedRestore.apply c [] w = (targets w (c.at 20 2)).foldl State.restoreFeed w := rfl
  have hf : ∀ f, t.feed f = if f ∈ targets w (c.at 20 2) then { w.feed f with withdrawn := false } else w.feed f := fun f => by
    rw [h.feed, ha]
    exact foldl_named (g := fun q : Feed => { q with withdrawn := false }) (fun _ => rfl) State.feed_restoreFeed_self
      State.feed_restoreFeed_ne _ w f
  have hst : ∀ f, (t.lf f).st = if f ∈ targets w (c.at 20 2) then (if (w.lf f).st = 5 then 1 else (w.lf f).st) else (w.lf f).st := fun f => by
    rw [h.lf, ha]
    exact foldl_named (o := fun (s : State) f => (s.lf f).st) (g := fun st => if st = 5 then 1 else st) (fun a => by split <;> simp_all)
      (fun s f => (s.restoreFeed_spec f).2.1) (fun s f j hj => (s.restoreFeed_spec f).2.2 j hj) _ w f
  refine ⟨fun f hm => ⟨?_, fun h5 => ?_⟩, fun f hm => (hf f).trans (if_neg hm)⟩
  · rw [hf, if_pos hm]
  · rw [hst, if_pos hm, if_pos h5]

end Sys2Proof.Machine

/-! What the commands on objects and routes set, whatever follows (O59). -/

namespace Sys2Proof.Machine

/-! ### Crossfades that run -/

theorem State.xfBusy_congr {s t : State} {o : Nat} (hx : (t.objRt o).xf = (s.objRt o).xf) (hn : t.render.n = s.render.n) :
    t.xfBusy o = s.xfBusy o := by
  unfold State.xfBusy; rw [hx, hn]

/-- A crossfade that begins at the boundary in hand is joined, not waited for, and one that is taken away is not waited for. -/
theorem State.xfBusy_of_fresh {s t : State} {o : Nat} (hn : t.render.n = s.render.n)
    (hx : (t.objRt o).xf = (s.objRt o).xf ∨ (t.objRt o).xf = none ∨ ∃ n eg, (t.objRt o).xf = some { start := s.render.n + 2, n := n, equalGain := eg })
    (h : s.xfBusy o = false) : t.xfBusy o = false := by
  obtain hx | hx | ⟨n, eg, hx⟩ := hx
  · rw [State.xfBusy_congr hx hn, h]
  · unfold State.xfBusy; rw [hx]
  · unfold State.xfBusy; rw [hx, hn]; simp

theorem State.xf_beginXf (s : State) (o n : Nat) (eg own pan : Bool) :
    ((s.beginXf o n eg own pan).objRt o).xf = (s.objRt o).xf ∨ ((s.beginXf o n eg own pan).objRt o).xf = none ∨
    ∃ m g, ((s.beginXf o n eg own pan).objRt o).xf = some { start := s.render.n + 2, n := m, equalGain := g } := by
  unfold State.beginXf
  rw [State.objRt_modObjRt_self]
  by_cases h : n = 0
  · left
    simp only [h, decide_true, Bool.true_and, if_true]
    split <;> rfl
  · exact .inr (.inr ⟨n, eg, by simp [h]⟩)

/-! ### Changes of one object -/

/-- A step changes object `o` by `g` and no other, and leaves a change of it free to take effect where it was. -/
structure ObjStep (o : Nat) (g : Obj → Obj) (s t : State) : Prop where
  self : t.obj o = g (s.obj o)
  others : ∀ j, j ≠ o → t.obj j = s.obj j
  free : s.xfBusy o = false → t.xfBusy o = false

namespace ObjStep
variable {o : Nat} {f g : Obj → Obj} {a b s t : State}

theorem refl (s : State) : ObjStep o id s s := ⟨rfl, fun _ _ => rfl, id⟩

theorem trans (h : ObjStep o f a b) (k : ObjStep o g b t) : ObjStep o (fun q => g (f q)) a t :=
  ⟨by rw [k.self, h.self], fun j hj => (k.others j hj).trans (h.others j hj), fun x => k.free (h.free x)⟩

/-- A step that is taken under a condition. -/
theorem ite {c : Prop} [Decidable c] (h : ObjStep o g s t) : ObjStep o (fun q => if c then g q else q) s (if c then t else s) := by
  split
  · exact h
  · exact refl s

theorem modObj (s : State) (o : Nat) (g : Obj → Obj) : ObjStep o g s (s.modObj o g) :=
  ⟨s.obj_modObj_self o g, fun _ hj => s.obj_modObj_ne g hj, id⟩

/-- A change of what runs for an object that leaves its crossfade as it is, or ends it. -/
theorem modObjRt (s : State) (o : Nat) {r : ObjRt → ObjRt} (hr : ∀ q, (r q).xf = q.xf ∨ (r q).xf = none) :
    ObjStep o id s (s.modObjRt o r) :=
  ⟨rfl, fun _ _ => rfl, State.xfBusy_of_fresh rfl (by rw [State.objRt_modObjRt_self]; exact (hr _).imp_right .inl)⟩

theorem beginXf (s : State) (o n : Nat) (eg own pan : Bool) : ObjStep o id s (s.beginXf o n eg own pan) :=
  ⟨rfl, fun _ _ => rfl, State.xfBusy_of_fresh rfl (s.xf_beginXf o n eg own pan)⟩

end ObjStep

/-- What a change of an object's own does to it. -/
def RouteCh.onObj (ch : RouteCh) (q : Obj) : Obj :=
  match ch with
  | .zone z => { q with zone := z }
  | .dense d => { q with dense := d }
  | .source c => { q with source := c }
  | _ => q

/-- A change of an object's own that is carried out. -/
theorem State.doRouteCh_own (s : State) (o n : Nat) (eg : Bool) {ch : RouteCh} (hw : Waiting.own { ch := ch, n := n, equalGain := eg } = true) :
    ObjStep o ch.onObj s (s.doRouteCh o ch n eg) := by
  have same : ∀ {g : Obj → Obj}, g (s.obj o) = s.obj o → ObjStep o g s s := fun h => ⟨h.symm, fun _ _ => rfl, id⟩
  have hx := fun own pan => ObjStep.beginXf s o n eg own pan
  unfold State.doRouteCh
  cases ch with
  | zone z =>
    dsimp only
    split
    · next h => exact same (by subst h; rfl)
    · have h1 := (hx true true).trans (.modObj _ o fun q => { q with zone := z })
      split
      · exact h1.trans (.modObjRt _ o (by exact fun _ => .inl rfl))
      · split
        · exact h1.trans (.modObjRt _ o (by intro q; split; exacts [.inr rfl, .inl rfl]))
        · exact h1.trans (.modObjRt _ o (by exact fun _ => .inl rfl))
  | dense d =>
    dsimp only
    split
    · next h => exact same (by subst h; rfl)
    · exact ((hx true true).trans (.modObj _ o fun q => { q with dense := d })).trans (.modObjRt _ o (by exact fun _ => .inl rfl))
  | source c =>
    dsimp only
    split
    · next h => exact same (by subst h; rfl)
    · exact ((hx true false).trans (.modObj _ o fun q => { q with source := c })).trans
        (.modObjRt _ o (by intro q; split <;> exact .inl rfl))
  | create => cases hw
  | change => cases hw
  | delete => cases hw

/-- A change of an object's own that falls due takes effect, unless a crossfade runs that it must wait for (R99). -/
theorem State.routeCh_own (s : State) (o : Nat) {w : Waiting} (hw : w.own = true) :
    ObjStep o (fun q => if s.xfBusy o then q else w.ch.onObj q) s (s.routeCh o w) := by
  have hch : chObjects s o w.ch = [o] := by
    unfold Waiting.own at hw
    unfold chObjects
    split <;> simp_all
  unfold State.routeCh
  rw [hch]
  cases hb : s.xfBusy o
  · rw [show [o].filter s.xfBusy = [] by simp [hb]]
    exact s.doRouteCh_own o w.n w.equalGain hw
  · rw [show [o].filter s.xfBusy = [o] by simp [hb]]
    dsimp only
    have hcount : ∀ (l : List Nat) (u : State), (l.foldl (fun s x => s.count (kObj x 2)) u).render = u.render := fun l => by
      induction l with
      | nil => exact fun _ => rfl
      | cons x l ih => exact fun u => (ih _).trans (u.count_render _ _)
    have hobj : ∀ (l : List Nat) (u : State) j, (l.foldl (fun s x => s.count (kObj x 2)) u).obj j = u.obj j := fun l u j => by
      rw [State.obj, hcount, State.obj]
    exact ⟨hobj .., fun j _ => hobj .., fun h => absurd (hb.symm.trans h) (by decide)⟩

/-! ### OBJECT_SET -/

/-- An untimed position is taken at once. -/
theorem State.posSample_untimed (s : State) (o : Nat) (p : V3) : ObjStep o (fun q => { q with pos := p }) s (s.posSample o 0 p) := by
  have hs : s.posSample o 0 p = (s.modObj o fun q => { q with pos := p }).modObjRt o fun q =>
      { q with held := (holdSample (midUnits s.render.rate96 (s.render.n + 2)) (s.objRt o).held 0 p).1 } := rfl
  rw [hs]
  exact (ObjStep.modObj s o fun q => { q with pos := p }).trans (.modObjRt _ o (by exact fun _ => .inl rfl))

theorem State.setDoppler_step (s : State) (o : Nat) (d : Bool) : ObjStep o (fun q => { q with doppler := d }) s (s.setDoppler o d) := by
  have h1 := ObjStep.modObj s o fun q => { q with doppler := d }
  unfold State.setDoppler
  dsimp only
  split
  · exact h1
  · exact h1.trans (.modObjRt _ o (by intro r; left; (repeat' split) <;> rfl))

theorem State.setPlacement_step (s : State) (o : Nat) (e : Bool) : ObjStep o (fun q => { q with ext := e }) s (s.setPlacement o e) := by
  have h1 := ObjStep.modObj s o fun q => { q with ext := e }
  unfold State.setPlacement
  dsimp only
  split
  · exact h1
  · exact h1.trans (.modObjRt _ o (by intro r; left; (repeat' split) <;> rfl))

/-- An object after the parameters of an OBJECT_SET that are no route changes. -/
def objectTaken (c : Cmd) (q : Obj) : Obj :=
  let m := c.at 24 4
  let q1 := objectSet c q
  let q2 := if m.testBit 1 then { q1 with pos := c.v3 32 } else q1
  let q3 := if m.testBit 10 then { q2 with doppler := (c.at 72 1).testBit 0 } else q2
  if m.testBit 17 then { q3 with ext := c.at 75 1 == 1 } else q3

/-- The parameters of an OBJECT_SET that are no route changes take effect. -/
def State.objectFields (s : State) (c : Cmd) : State :=
  let o := c.at 20 2
  let m := c.at 24 4
  let was := s.obj o
  let s1 := s.modObj o (objectSet c)
  let s2 := if m.testBit 4 && was.gain == -32768 && c.int 56 2 ≠ -32768 then s1.modObjRt o fun r => { r with fromZero := true } else s1
  let s3 := if m.testBit 1 then s2.posSample o 0 (c.v3 32) else s2
  let s4 := if m.testBit 10 then s3.setDoppler o ((c.at 72 1).testBit 0) else s3
  if m.testBit 17 then s4.setPlacement o (c.at 75 1 == 1) else s4

theorem State.objectFields_step (s : State) (c : Cmd) : ObjStep (c.at 20 2) (objectTaken c) s (s.objectFields c) := by
  unfold State.objectFields
  extract_lets o m was s1 s2 s3 s4
  have h1 : ObjStep o (objectSet c) s s1 := .modObj ..
  have h2 : ObjStep o (objectSet c) s s2 := by
    unfold s2
    split
    · exact h1.trans (.modObjRt _ o (by exact fun _ => .inl rfl))
    · exact h1
  exact ((h2.trans (.ite (s2.posSample_untimed o _))).trans (.ite (s3.setDoppler_step o _))).trans (.ite (s4.setPlacement_step o _))

/-- A route change of an OBJECT_SET under its bit. -/
def State.objectSide (s : State) (c : Cmd) (b : Nat) (ch : RouteCh) : State :=
  if (c.at 24 4).testBit b then s.routeCh (c.at 20 2) { ch := ch, n := c.at 78 2, equalGain := c.at 80 1 == 1 } else s

theorem State.objectSide_step (s : State) (c : Cmd) (b : Nat) {ch : RouteCh}
    (hw : Waiting.own { ch := ch, n := c.at 78 2, equalGain := c.at 80 1 == 1 } = true) :
    ObjStep (c.at 20 2) (fun q => if (c.at 24 4).testBit b then (if s.xfBusy (c.at 20 2) then q else ch.onObj q) else q) s
      (s.objectSide c b ch) := .ite (s.routeCh_own _ hw)

theorem specObjectSet_apply (c : Cmd) (w : State) :
    specObjectSet.apply c [] w =
      (((w.objectFields c).objectSide c 0 (.zone (c.at 28 1))).objectSide c 13 (.dense ((c.at 72 1).testBit 2))).objectSide c 18
        (.source (c.at 76 2)) := by
  have h : ∀ b, (b && !([] : List Nat).contains 3) = b := fun b => Bool.and_true b
  unfold specObjectSet State.objectSide
  dsimp only
  simp only [h]
  rfl

/-- The parts of an object that a change of its own leaves. -/
structure SameBut (q r : Obj) : Prop where
  plain : plainObj r = plainObj q
  pos : r.pos = q.pos
  doppler : r.doppler = q.doppler
  ext : r.ext = q.ext

theorem SameBut.trans {a b d : Obj} (h : SameBut a b) (k : SameBut b d) : SameBut a d :=
  ⟨k.plain.trans h.plain, k.pos.trans h.pos, k.doppler.trans h.doppler, k.ext.trans h.ext⟩

theorem onObj_sameBut (ch : RouteCh) (q : Obj) : SameBut q (ch.onObj q) := by
  cases ch <;> exact ⟨rfl, rfl, rfl, rfl⟩

theorem sideStep_sameBut (ch : RouteCh) (q : Obj) (a b : Bool) : SameBut q (if a then (if b then q else ch.onObj q) else q) := by
  split
  · split
    · exact ⟨rfl, rfl, rfl, rfl⟩
    · exact onObj_sameBut ch q
  · exact ⟨rfl, rfl, rfl, rfl⟩

/-- The plain parameters are OBJECT_SET's; position, Doppler and placement are under their bits. -/
theorem objectTaken_spec (c : Cmd) (q : Obj) :
    plainObj (objectTaken c q) = plainObj (objectSet c q) ∧ ((c.at 24 4).testBit 1 = true → (objectTaken c q).pos = c.v3 32) ∧
    ((c.at 24 4).testBit 10 = true → (objectTaken c q).doppler = (c.at 72 1).testBit 0) ∧
    ((c.at 24 4).testBit 17 = true → (objectTaken c q).ext = (c.at 75 1 == 1)) := by
  unfold objectTaken
  dsimp only
  generalize objectSet c q = r
  cases (c.at 24 4).testBit 1 <;> cases (c.at 24 4).testBit 10 <;> cases (c.at 24 4).testBit 17 <;> simp [plainObj]

theorem specObjectSet_acts {c : Cmd} {w t : State} (h : Tidied (specObjectSet.apply c [] w) t) :
    let o := c.at 20 2
    let m := c.at 24 4
    plainObj (t.obj o) = plainObj (objectSet c (w.obj o)) ∧ (m.testBit 1 = true → (t.obj o).pos = c.v3 32) ∧
      (m.testBit 10 = true → (t.obj o).doppler = (c.at 72 1).testBit 0) ∧ (m.testBit 17 = true → (t.obj o).ext = (c.at 75 1 == 1)) ∧
      (w.xfBusy o = false → (m.testBit 0 = true → (t.obj o).zone = c.at 28 1) ∧
        (m.testBit 13 = true → (t.obj o).dense = (c.at 72 1).testBit 2) ∧ (m.testBit 18 = true → (t.obj o).source = c.at 76 2)) ∧
      ∀ j, j ≠ o → t.obj j = w.obj j := by
  intro o m
  rw [specObjectSet_apply] at h
  have h1 := w.objectFields_step c
  generalize w.objectFields c = s1 at h h1
  have h2 := s1.objectSide_step c 0 (ch := .zone (c.at 28 1)) rfl
  generalize s1.objectSide c 0 _ = s2 at h h2
  have h3 := s2.objectSide_step c 13 (ch := .dense ((c.at 72 1).testBit 2)) rfl
  generalize s2.objectSide c 13 _ = s3 at h h3
  have h4 := s3.objectSide_step c 18 (ch := .source (c.at 76 2)) rfl
  generalize s3.objectSide c 18 _ = s4 at h h4
  have hs : SameBut (objectTaken c (w.obj o)) (t.obj o) := by
    rw [h.obj, h4.self, ← h1.self]
    refine .trans ?_ (sideStep_sameBut ..)
    rw [h3.self]
    refine .trans ?_ (sideStep_sameBut ..)
    rw [h2.self]
    exact sideStep_sameBut ..
  obtain ⟨hplain, hpos, hdop, hext⟩ := objectTaken_spec c (w.obj o)
  refine ⟨hs.plain.trans hplain, fun hm => hs.pos.trans (hpos hm), fun hm => hs.doppler.trans (hdop hm),
    fun hm => hs.ext.trans (hext hm), fun hb => ?_, fun j hj => ?_⟩
  · have b1 := h1.free hb
    have b2 := h2.free b1
    have b3 := h3.free b2
    rw [h.obj, h4.self, h3.self, h2.self, b1, b2, b3]
    refine ⟨fun hm => ?_, fun hm => ?_, fun hm => ?_⟩ <;> simp only [hm, m] <;> (repeat' split) <;> simp_all [RouteCh.onObj]
  · rw [h.obj, h4.others j hj, h3.others j hj, h2.others j hj, h1.others j hj]

/-! ### Positions and shed objects -/

/-- An object and what runs for it. -/
def State.objAll (s : State) (o : Nat) : Obj × ObjRt := (s.obj o, s.objRt o)

theorem State.obj_modObjRt (s : State) (o : Nat) (f : ObjRt → ObjRt) (j : Nat) : (s.modObjRt o f).obj j = s.obj j := rfl
theorem State.objRt_modObj (s : State) (o : Nat) (f : Obj → Obj) (j : Nat) : (s.modObj o f).objRt j = s.objRt j := rfl
theorem State.obj_count (s : State) (k n o : Nat) : (s.count k n).obj o = s.obj o := by rw [State.obj, State.count_render, State.obj]

theorem State.objAll_count (s : State) (k n o : Nat) : (s.count k n).objAll o = s.objAll o := by
  simp only [State.objAll, State.obj, State.objRt, State.count_render]

/-- Whether a sample is stale does not turn on the time given to untimed ones. -/
theorem holdSample_stale (mid mid' : Int) (held : List PosSample) (ns : Nat) (p : V3) :
    (holdSample mid held ns p).2 = (holdSample mid' held ns p).2 := by
  unfold holdSample
  split
  · rfl
  · rfl

theorem State.obj_posSample_self (s : State) (o ns : Nat) (p : V3) :
    (s.posSample o ns p).obj o = if (holdSample 0 (s.objRt o).held ns p).2 then s.obj o else { s.obj o with pos := p } := by
  rw [holdSample_stale 0 (midUnits s.render.rate96 (s.render.n + 2))]
  unfold State.posSample
  dsimp only
  split
  · rw [State.obj_count, State.obj_modObjRt, State.obj_modObj_self]
  · rw [State.obj_modObjRt, State.obj_modObj_self]

theorem State.objAll_posSample_ne (s : State) (o ns : Nat) (p : V3) {j : Nat} (h : j ≠ o) : (s.posSample o ns p).objAll j = s.objAll j := by
  unfold State.posSample
  extract_lets r s1
  have h1 : s1.objAll j = s.objAll j := by
    rw [State.objAll, State.obj_modObjRt, State.obj_modObj_ne _ _ h, State.objRt_modObjRt_ne _ _ h, State.objRt_modObj, State.objAll]
  split
  · rw [State.objAll_count, h1]
  · exact h1

theorem specObjectPosBulk_acts {c : Cmd} {w t : State} (h : Tidied (specObjectPosBulk.apply c [] w) t)
    (hn : ((bulkEntries c).map (·.1)).Nodup) :
    (∀ e ∈ bulkEntries c, (holdSample 0 (w.objRt e.1).held (c.time 20) e.2).2 = false → (t.obj e.1).pos = e.2) ∧
      ∀ o, o ∉ (bulkEntries c).map (·.1) → t.obj o = w.obj o := by
  have ha : specObjectPosBulk.apply c [] w = (bulkEntries c).foldl (fun s e => s.posSample e.1 (c.time 20) e.2) w := rfl
  have hne : ∀ (s : State) (e : Nat × V3) j, j ≠ e.1 → (s.posSample e.1 (c.time 20) e.2).objAll j = s.objAll j :=
    fun s e j hj => s.objAll_posSample_ne _ _ _ hj
  rw [ha] at h
  refine ⟨fun e he hs => ?_, fun o ho => ?_⟩
  · obtain ⟨u, hu, hl⟩ := foldl_once (o := State.objAll) hne hn he w
    have hobj : t.obj e.1 = (u.posSample e.1 (c.time 20) e.2).obj e.1 := (h.obj _).trans (congrArg Prod.fst hl)
    have hheld : (u.objRt e.1).held = (w.objRt e.1).held := congrArg (fun q => q.2.held) hu
    rw [hobj, State.obj_posSample_self, hheld, hs]
    rfl
  · rw [h.obj]
    exact congrArg Prod.fst (foldl_unnamed (o := State.objAll) hne ho w)

/-- What runs for an object once its shedding ends (R41). -/
def ObjRt.restored (r : ObjRt) : ObjRt :=
  if r.shed then { r with shed := false, unshed := true, fromZero := true, oldDirect := [], oldDiffuse := [] } else r

/-- An object's shedding ends. -/
def State.restoreObj (s : State) (o : Nat) : State :=
  if (s.objRt o).shed then
    s.modObjRt o fun r => { r with shed := false, unshed := true, fromZero := true, oldDirect := [], oldDiffuse := [] }
  else s

theorem State.objRt_restoreObj_self (s : State) (o : Nat) : (s.restoreObj o).objRt o = (s.objRt o).restored := by
  unfold State.restoreObj ObjRt.restored
  split
  · exact s.objRt_modObjRt_self o _
  · rfl

theorem State.objRt_restoreObj_ne (s : State) (o j : Nat) (h : j ≠ o) : (s.restoreObj o).objRt j = s.objRt j := by
  unfold State.restoreObj
  split
  · exact s.objRt_modObjRt_ne _ h
  · rfl

theorem specObjectRestore_acts {c : Cmd} {w t : State} (h : Tidied (specObjectRestore.apply c [] w) t) :
    (∀ i < c.at 22 2, (t.objRt (c.at 20 2 + i)).shed = false) ∧
      ∀ o, o < c.at 20 2 ∨ c.at 20 2 + c.at 22 2 ≤ o → t.objRt o = w.objRt o := by
  have ha : specObjectRestore.apply c [] w = ((List.range (c.at 22 2)).map (c.at 20 2 + ·)).foldl State.restoreObj w := by
    rw [List.foldl_map]; rfl
  have ho : ∀ o, t.objRt o = if o ∈ (List.range (c.at 22 2)).map (c.at 20 2 + ·) then (w.objRt o).restored else w.objRt o := fun o => by
    rw [h.objRt, ha]
    exact foldl_named (fun a => by unfold ObjRt.restored; split <;> simp_all) State.objRt_restoreObj_self State.objRt_restoreObj_ne _ w o
  refine ⟨fun i hi => ?_, fun o hr => ?_⟩
  · rw [ho, if_pos (List.mem_map_of_mem (List.mem_range.mpr hi)), ObjRt.restored]
    split
    · rfl
    · next h => simpa using h
  · refine (ho o).trans (if_neg fun hm => ?_)
    obtain ⟨i, hi, rfl⟩ := List.mem_map.mp hm
    have := List.mem_range.mp hi
    omega

end Sys2Proof.Machine

/-! What the commands on routes set, whatever follows (O59). -/

namespace Sys2Proof.Machine

/-- A route change that waits on no crossfade takes effect. -/
theorem State.routeCh_free {s : State} {o : Nat} {w : Waiting} (h : ∀ x ∈ chObjects s o w.ch, s.xfBusy x = false) :
    s.routeCh o w = s.doRouteCh o w.ch w.n w.equalGain := by
  have hf : (chObjects s o w.ch).filter s.xfBusy = [] := List.filter_eq_nil_iff.mpr fun x hx => by simp [h x hx]
  unfold State.routeCh
  rw [hf]

/-- What runs for an object, with nothing that waits for route `r`. -/
def forgetRoute (r : Nat) (e : Nat × ObjRt) : Nat × ObjRt := (e.1, { e.2 with waiting := e.2.waiting.filter fun w => w.route != some r })

/-- What waits for a route says nothing of the crossfades that run. -/
theorem State.xfBusy_dropWaiting (s : State) (r o : Nat) : (s.dropWaiting r).xfBusy o = s.xfBusy o := by
  refine State.xfBusy_congr ?_ rfl
  have hm : (s.dropWaiting r).objRt o = mget {} (s.render.objRt.map (forgetRoute r)) o := rfl
  rw [hm, State.objRt, mget_eq, mget_eq, mfind_map (g := forgetRoute r) fun _ => rfl]
  cases mfind s.render.objRt o <;> rfl

/-- The route that a ROUTE_SET gives. -/
def routeSet (c : Cmd) : Route := { obj := c.at 22 2, feed := c.at 24 2, tap := c.at 26 1, gain := c.int 28 2, follow := c.at 27 1 == 1 }

/-- A route's gain and its following are set at once; the rest, where it differs, by a change (R96). -/
theorem State.routeSet_over (s : State) (c : Cmd) {q : Route} (hq : (s.routeRt (c.at 20 2)).cur = some q) :
    specRouteSet.apply c [] s =
      let s1 := (s.dropWaiting (c.at 20 2)).modRoute (c.at 20 2) fun t =>
        { t with cur := some { q with gain := c.int 28 2, follow := c.at 27 1 == 1 } }
      if q.obj = c.at 22 2 ∧ q.feed = c.at 24 2 ∧ q.tap = c.at 26 1 then s1
      else s1.routeCh (c.at 22 2)
        { ch := .change (c.at 20 2) (c.at 22 2) (c.at 24 2) (c.at 26 1) (c.int 28 2) (c.at 27 1 == 1), n := c.at 30 2
          equalGain := c.at 32 1 == 1 } := by
  unfold specRouteSet
  dsimp only
  rw [if_neg (by decide), hq]

theorem State.routeSet_new (s : State) (c : Cmd) (hq : (s.routeRt (c.at 20 2)).cur = none) :
    specRouteSet.apply c [] s = (s.dropWaiting (c.at 20 2)).routeCh (c.at 22 2)
      { ch := .create (c.at 20 2) (c.at 22 2) (c.at 24 2) (c.at 26 1) (c.int 28 2) (c.at 27 1 == 1), n := c.at 30 2
        equalGain := c.at 32 1 == 1 } := by
  unfold specRouteSet
  dsimp only
  rw [if_neg (by decide), hq]

/-- A change that is carried out gives the route its object, feed and tap. -/
theorem State.cur_doRouteCh_change (s : State) (o r o' f tap : Nat) (gain : Int) (follow : Bool) (n : Nat) (eg : Bool) {q : Route}
    (hq : (s.routeRt r).cur = some q) :
    ((s.doRouteCh o (.change r o' f tap gain follow) n eg).routeRt r).cur = some { q with obj := o', feed := f, tap := tap } := by
  unfold State.doRouteCh
  dsimp only
  rw [hq]
  dsimp only
  rw [State.routeRt_modRoute_self]

theorem specRouteSet_acts {c : Cmd} {w t : State} (h : Tidied (specRouteSet.apply c [] w) t) (hb : w.xfBusy (c.at 22 2) = false)
    (hq : ∀ q, (w.routeRt (c.at 20 2)).cur = some q → w.xfBusy q.obj = false) :
    (t.routeRt (c.at 20 2)).cur = some (routeSet c) := by
  rw [h.routeRt]
  cases hcur : (w.routeRt (c.at 20 2)).cur with
  | none =>
    rw [w.routeSet_new c hcur, State.routeCh_free (by simpa [chObjects, State.xfBusy_dropWaiting] using hb)]
    exact congrArg RouteRt.cur (State.routeRt_modRoute_self ..)
  | some q =>
    have ho := hq q hcur
    rw [w.routeSet_over c hcur]
    generalize hs : ((w.dropWaiting (c.at 20 2)).modRoute (c.at 20 2) fun t =>
      { t with cur := some { q with gain := c.int 28 2, follow := c.at 27 1 == 1 } }) = s1
    have hc1 : (s1.routeRt (c.at 20 2)).cur = some { q with gain := c.int 28 2, follow := c.at 27 1 == 1 } := by
      rw [← hs, State.routeRt_modRoute_self]
    have hx : ∀ o, s1.xfBusy o = w.xfBusy o := fun o => hs ▸ w.xfBusy_dropWaiting _ o
    dsimp only
    split
    · next he =>
      obtain ⟨h1, h2, h3⟩ := he
      rw [hc1, routeSet, h1, h2, h3]
    · rw [State.routeCh_free, State.cur_doRouteCh_change _ _ _ _ _ _ _ _ _ _ hc1, routeSet]
      intro x hx'
      simp only [chObjects, hc1] at hx'
      split at hx' <;> simp only [List.mem_cons, List.not_mem_nil, or_false] at hx'
      · rw [hx', hx, hb]
      · obtain rfl | rfl := hx'
        · rw [hx, ho]
        · rw [hx, hb]

theorem specRouteDelete_acts {c : Cmd} {w t : State} (h : Tidied (specRouteDelete.apply c [] w) t)
    (hq : ∀ q, (w.routeRt (c.at 20 2)).cur = some q → w.xfBusy q.obj = false) : (t.routeRt (c.at 20 2)).cur = none := by
  have ha : specRouteDelete.apply c [] w = match (w.routeRt (c.at 20 2)).cur with
    | some q => (w.dropWaiting (c.at 20 2)).routeCh q.obj { ch := .delete (c.at 20 2), n := c.at 22 2, equalGain := c.at 24 1 == 1 }
    | none => w.dropWaiting (c.at 20 2) := rfl
  rw [h.routeRt, ha]
  cases hcur : (w.routeRt (c.at 20 2)).cur with
  | none => exact hcur
  | some q =>
    have hc1 : ((w.dropWaiting (c.at 20 2)).routeRt (c.at 20 2)).cur = some q := hcur
    dsimp only
    rw [State.routeCh_free (by simpa [chObjects, hc1, State.xfBusy_dropWaiting] using hq q hcur)]
    unfold State.doRouteCh
    dsimp only
    rw [hc1]
    exact congrArg RouteRt.cur (State.routeRt_modRoute_self ..)

end Sys2Proof.Machine

/-! What the commands on feed chains, the library and sets of filters set, whatever follows (O59). -/

namespace Sys2Proof.Machine

/-! ### Chains -/

theorem chainSet_idem (c : Cmd) (q : Chain) : chainSet c (chainSet c q) = chainSet c q := by
  unfold chainSet
  dsimp only
  congr 1 <;> split <;> rfl

/-- Bringing a feed's delay about changes no chain. -/
theorem State.chain_align (s : State) (f j : Nat) : (s.align f).chain j = s.chain j := rfl

/-- A chain takes its new parameters, and its feed's delay follows. -/
def State.chainStep (c : Cmd) (s : State) (f : Nat) : State :=
  let s1 := s.modChain f (chainSet c)
  if (c.at 24 4).testBit 2 then s1.align f else s1

theorem State.chain_chainStep (c : Cmd) (s : State) (f j : Nat) : (State.chainStep c s f).chain j = (s.modChain f (chainSet c)).chain j := by
  unfold State.chainStep
  dsimp only
  split
  · exact State.chain_align ..
  · rfl

theorem specChainSet_acts {c : Cmd} {w t : State} (h : Tidied (specChainSet.apply c [] w) t) :
    everyFeed (targets w (c.at 20 2)) w t (fun w t f => t.chain f = chainSet c (w.chain f)) (fun w t f => t.chain f = w.chain f) := by
  have ha : specChainSet.apply c [] w = (targets w (c.at 20 2)).foldl (State.chainStep c) w := rfl
  have hf : ∀ f, t.chain f = if f ∈ targets w (c.at 20 2) then chainSet c (w.chain f) else w.chain f := fun f => by
    rw [h.chain, ha]
    exact foldl_named (chainSet_idem c) (fun s i => (s.chain_chainStep c i i).trans (s.chain_modChain_self i _))
      (fun s i j hj => (s.chain_chainStep c i j).trans (s.chain_modChain_ne _ hj)) _ w f
  exact ⟨fun f hm => (hf f).trans (if_pos hm), fun f hm => (hf f).trans (if_neg hm)⟩

/-- A section below those that are replaced is set before or after, alike. -/
theorem setSections_set (b : Biq) {i : Nat} (bs : List Biq) : ∀ {j : Nat} (l : List Biq), i < j →
    setSections (l.set i b) j bs = (setSections l j bs).set i b := by
  induction bs with
  | nil => exact fun _ _ => rfl
  | cons d bs ih =>
    intro j l h
    simp only [setSections]
    rw [List.set_comm _ _ (by omega : i ≠ j), ih _ (by omega)]

/-- Sections that have been replaced stay so when they are replaced alike again. -/
theorem setSections_idem (bs : List Biq) : ∀ (l : List Biq) (i : Nat), setSections (setSections l i bs) i bs = setSections l i bs := by
  induction bs with
  | nil => exact fun _ _ => rfl
  | cons b bs ih =>
    intro l i
    simp only [setSections]
    rw [setSections_set b bs _ (Nat.lt_succ_self i), ih, ← setSections_set b bs _ (Nat.lt_succ_self i), List.set_set]

theorem specBiquadSet_acts {c : Cmd} {w t : State} (h : Tidied (specBiquadSet.apply c [] w) t) :
    everyFeed (targets w (c.at 20 2)) w t
      (fun w t f => t.chain f = { w.chain f with biq := setSections (w.chain f).biq (c.at 22 1) (biqSections c) })
      (fun w t f => t.chain f = w.chain f) := by
  have ha : specBiquadSet.apply c [] w = (targets w (c.at 20 2)).foldl
      (fun s f => s.modChain f fun q => { q with biq := setSections q.biq (c.at 22 1) (biqSections c) }) w := rfl
  have hf : ∀ f, t.chain f = if f ∈ targets w (c.at 20 2) then
      { w.chain f with biq := setSections (w.chain f).biq (c.at 22 1) (biqSections c) } else w.chain f := fun f => by
    rw [h.chain, ha]
    exact foldl_named (g := fun q : Chain => { q with biq := setSections q.biq (c.at 22 1) (biqSections c) })
      (fun q => by simp only [setSections_idem]) (fun s i => s.chain_modChain_self i _) (fun s i j hj => s.chain_modChain_ne _ hj) _ w f
  exact ⟨fun f hm => (hf f).trans (if_pos hm), fun f hm => (hf f).trans (if_neg hm)⟩

/-! ### The library -/

theorem specFilterLibWrite_acts {c : Cmd} {w t : State} (h : Tidied (specFilterLibWrite.apply c [] w) t) :
    libFinal c = true → mget {} t.render.lib (libName c) =
        { len := c.at 22 2, entry := libName c, taps := tapsOf (c.bytes 32) (c.at 22 2) } ∧
      ∀ i, i ≠ libName c → mfind t.render.lib i = mfind w.render.lib i := by
  intro hf
  have hl : t.render.lib = mset w.render.lib (libName c)
      { len := c.at 22 2, entry := libName c, taps := tapsOf (c.bytes 32) (c.at 22 2) } := by
    rw [h.render]
    unfold specFilterLibWrite
    dsimp only
    rw [if_neg (by rw [hf]; decide)]
  rw [hl]
  exact ⟨mget_mset_self .., fun i hi => mfind_mset_ne _ _ hi⟩

theorem specFilterLibFree_acts {c : Cmd} {w t : State} (h : Tidied (specFilterLibFree.apply c [] w) t) :
    mfind t.render.lib (c.at 20 2) = none ∧ ∀ i, i ≠ c.at 20 2 → mfind t.render.lib i = mfind w.render.lib i := by
  have hl : t.render.lib = mdel w.render.lib (c.at 20 2) := congrArg Render.lib h.render
  rw [hl]
  exact ⟨mfind_mdel_self .., fun i hi => mfind_mdel_ne _ hi⟩

/-! ### Sets of filters -/

theorem specFilterStage_acts {c : Cmd} {w t : State} (h : Tidied (specFilterStage.apply c [] w) t) (hx : c.txn = 0) :
    t.render.shadow = { st := 1, set := firSet w c 24 } := by
  rw [h.render]
  unfold specFilterStage
  dsimp only
  rw [if_neg (by decide), if_neg (by rw [hx]; decide)]

theorem specFilterDiscard_acts {c : Cmd} {w t : State} (h : Tidied (specFilterDiscard.apply c [] w) t)
    (hs : w.render.shadow.st = 1 ∨ w.render.shadow.st = 2) : t.render.shadow = {} := by
  rw [h.render]
  unfold specFilterDiscard
  dsimp only
  rw [if_neg (by decide), if_pos hs]

theorem specFilterDirect_acts {c : Cmd} {w t : State} (h : Tidied (specFilterDirect.apply c [] w) t) :
    t.render.direct = some { feeds := firSet w c 24, left := directUnits (firSet w c 24), count := (firSet w c 24).length } :=
  congrArg Render.direct h.render

theorem State.feedRt_swapFir_self (s : State) (e : Nat × Fir) :
    ((s.swapFir e).feedRt e.1).fir = e.2 ∧ ((s.swapFir e).feedRt e.1).shadow = true := by
  unfold State.swapFir
  rw [State.feedRt_modFeedRt_self]
  exact ⟨rfl, rfl⟩

theorem specFilterSwap_acts {c : Cmd} {w t : State} (h : Tidied (specFilterSwap.apply c [] w) t) (hs : w.render.shadow.st = 2) :
    t.render.shadow.st = 3 ∧ t.render.shadow.since = w.render.n ∧ ((w.render.shadow.set.map (·.1)).Nodup →
      ∀ e ∈ w.render.shadow.set, (t.feedRt e.1).fir = e.2 ∧ (t.feedRt e.1).shadow = true) := by
  have ha : specFilterSwap.apply c [] w = w.swapSet w.render.shadow.set (txnKey c) := by
    unfold specFilterSwap
    dsimp only
    rw [if_neg (by decide), if_pos hs]
  rw [ha] at h
  refine ⟨congrArg (fun r => r.shadow.st) h.render, congrArg (fun r => r.shadow.since) h.render, fun hn e he => ?_⟩
  obtain ⟨u, -, hl⟩ := foldl_once (o := State.feedRt) (step := State.swapFir) (fun s e j hj => s.feedRt_modFeedRt_ne _ hj) hn he w
  have hrt : t.feedRt e.1 = (u.swapFir e).feedRt e.1 := (h.feedRt _).trans hl
  rw [hrt]
  exact u.feedRt_swapFir_self e

/-- The crossfade that a FILTER_AB gives a feed. -/
def abOf (c : Cmd) (n : Nat) (b : Fir) : AbFade := { b := b, start := n + 2, n := c.at 22 2, equalGain := c.at 24 1 == 1 }

/-- A feed's crossfade to its filter of a FILTER_AB starts at the boundary in hand. -/
def abStart (c : Cmd) (n : Nat) (b : Fir) (r : FeedRt) : FeedRt :=
  let r1 := { r with shadow := true, ab := some (abOf c n b) }
  { r1 with tailB := r1.tailOfB }

theorem specFilterAb_acts {c : Cmd} {w t : State} (h : Tidied (specFilterAb.apply c [] w) t) :
    t.render.shadow.st = 4 ∧ t.render.shadow.set = firSet w c 28 ∧
      (((firSet w c 28).map (·.1)).Nodup → ∀ e ∈ firSet w c 28, (t.feedRt e.1).ab = some (abOf c w.render.n e.2)) := by
  refine ⟨congrArg (fun r => r.shadow.st) h.render, congrArg (fun r => r.shadow.set) h.render, fun hn e he => ?_⟩
  obtain ⟨u, -, hl⟩ := foldl_once (o := State.feedRt) (step := fun s e => s.modFeedRt e.1 (abStart c w.render.n e.2))
    (fun s e j hj => s.feedRt_modFeedRt_ne _ hj) hn he w
  have hrt : t.feedRt e.1 = (u.modFeedRt e.1 (abStart c w.render.n e.2)).feedRt e.1 := (h.feedRt _).trans hl
  rw [hrt, State.feedRt_modFeedRt_self]
  rfl

/-- Each row of the table of effects on the render holds of its command, whatever follows it. -/
theorem renderEffect_holds : ∀ r ∈ renderEffects, ∀ {c : Cmd} {w t : State}, c.txn = 0 → Tidied (r.spec.apply c [] w) t → r.does c w t := by
  unfold renderEffects
  simp only [List.forall_mem_cons, List.not_mem_nil, false_imp_iff, implies_true, and_true]
  exact ⟨fun _ h => specRenderRate_acts h, fun _ h => specZoneSet_acts h, fun _ h => specZoneExclSet_acts h, fun _ h => specFeedSet_acts h,
    fun _ h => specFeedWithdraw_acts h, fun _ h => specFeedRestore_acts h, fun _ h => specLayoutResolve_acts h,
    fun _ h => specObjectSet_acts h, fun _ h => specObjectPosBulk_acts h, fun _ h => specObjectRestore_acts h,
    fun _ h => specRouteSet_acts h, fun _ h => specRouteDelete_acts h, fun _ h => specChainSet_acts h, fun _ h => specBiquadSet_acts h,
    fun _ h => specFilterLibWrite_acts h, fun _ h => specFilterLibFree_acts h, fun hx h => specFilterStage_acts h hx,
    fun _ h => specFilterSwap_acts h, fun _ h => specFilterDiscard_acts h, fun _ h => specFilterDirect_acts h,
    fun _ h => specFilterAb_acts h⟩

/-- Settles O59: an admitted command that prepares is entered last and applied whole; what each then sets is its own lemma, and what
follows an applied command leaves it. -/
theorem renderCommandsTakeEffect : Obligations.RenderCommandsTakeEffect := by
  unfold Obligations.RenderCommandsTakeEffect
  intro r hr p s hi u c w ha hlater hparam hbusy hunits hwhole
  obtain ⟨v, e, hv, he, htxn, hx⟩ := (effectRow_tabled r (List.mem_append_left _ hr)).enters hi ha ⟨hlater, hparam, hbusy, hunits, hwhole⟩
  refine ⟨v, e, hv, he, fun x _ => ?_⟩
  obtain ⟨i, q, rcd, happly⟩ := hx x
  rw [happly]
  exact renderEffect_holds r hr htxn (Tidied.settle _ i q rcd)

end Sys2Proof.Machine

/-! What the commands on user kernels do, where none waits for a Facet (O60). -/

namespace Sys2Proof.Machine

/-! ### Tables -/

theorem mem_mset {α : Type} {m : SMap α} {k : Nat} {v : α} {e : Nat × α} (h : e ∈ mset m k v) : e = (k, v) ∨ e ∈ m := by
  induction m with
  | nil => exact .inl (List.mem_singleton.mp h)
  | cons d t ih =>
    obtain ⟨a, x⟩ := d
    rw [mset] at h
    split at h
    · exact List.mem_cons.mp h
    · split at h
      · exact (List.mem_cons.mp h).imp_right (List.mem_cons_of_mem _)
      · obtain rfl | h := List.mem_cons.mp h
        · exact .inr List.mem_cons_self
        · exact (ih h).imp_right (List.mem_cons_of_mem _)

theorem mem_of_mem_mdel {α : Type} {m : SMap α} {k : Nat} {e : Nat × α} (h : e ∈ mdel m k) : e ∈ m := by
  induction m with
  | nil => exact h
  | cons d t ih =>
    obtain ⟨a, x⟩ := d
    rw [mdel] at h
    split at h
    · exact List.mem_cons_of_mem _ (ih h)
    · obtain rfl | h := List.mem_cons.mp h
      · exact List.mem_cons_self
      · exact List.mem_cons_of_mem _ (ih h)

/-! ### Kernels that have their Facets -/

theorem unplaced_eq_nil_iff {s : State} : unplaced s = [] ↔ ∀ e ∈ s.facets.kernels, e.2.facet < 64 := by
  simp [unplaced, List.filter_eq_nil_iff]

/-- A Facet that is found in a state is one of 64, and in that state. -/
theorem lowest_some {s : State} {c k : Nat} (h : lowest s c = some k) : k < 64 ∧ s.fst k = c :=
  ⟨List.mem_range.mp (List.mem_of_find?_eq_some h), by simpa using List.find?_some h⟩

theorem State.Shape.st {s : State} (h : s.Shape) : s.facets.st.length = 64 := by
  obtain ⟨-, -, -, h, -⟩ := h
  exact h

theorem State.fst_loadKernel {s : State} (n : Nat) {k : Nat} (img : List Byte) (hk : k < s.facets.st.length) :
    (s.loadKernel n k img).fst k = 3 := by
  have hf : (s.loadKernel n k img).fst k = ((s.facetCtl k 0x20000).setFst k 3).fst k := by
    simp only [State.loadKernel, State.fst, State.setReg_facets, State.memWrite_facets, State.memClear]
  have hl : (s.facetCtl k 0x20000).facets.st = s.facets.st.set k 1 := by
    unfold State.facetCtl
    rw [if_pos (by decide)]
    rfl
  rw [hf, State.fst_setFst_self]
  rw [hl, List.length_set]
  exact hk

/-- The kernel that a load puts in its Facet. -/
theorem State.kernels_loadKernel (s : State) (n k : Nat) (img : List Byte) :
    ∃ q : Kernel, q.facet = k ∧ q.run = false ∧ q.img = img ∧ (s.loadKernel n k img).facets.kernels = mset s.facets.kernels n q :=
  ⟨_, rfl, rfl, rfl, rfl⟩

theorem specSysKernelLoad_acts {c : Cmd} {w : State} (hw : w.Shape) (i q : Nat) (rcd : ReplyRec) {k : Nat} (hf : kFinal c = true)
    (hu : unplaced w = []) (hl : lowest w 1 = some k) (hs : (sharePlace w (shareOf (c.bytes 28))).isSome = true) :
    let t := (specSysKernelLoad.apply c [] w).settle.mirror i q rcd
    t.fst k = 3 ∧ (mfind t.facets.kernels (kSlot c)).map (fun q => (q.facet, q.run, q.img)) = some (k, false, c.bytes 28) := by
  have ha : specSysKernelLoad.apply c [] w = w.loadKernel (kSlot c) k (c.bytes 28) := by
    obtain ⟨p, hp⟩ := Option.isSome_iff_exists.mp hs
    unfold specSysKernelLoad State.placeKernel
    dsimp only
    rw [if_neg (by rw [hf]; decide), hl, hp]
  obtain ⟨hk, -⟩ := lowest_some hl
  obtain ⟨p, hfacet, hrun, himg, hker⟩ := w.kernels_loadKernel (kSlot c) k (c.bytes 28)
  have hu' : unplaced (w.loadKernel (kSlot c) k (c.bytes 28)) = [] := unplaced_eq_nil_iff.mpr fun e he => by
    rw [hker] at he
    obtain rfl | he := mem_mset he
    · exact hfacet ▸ hk
    · exact unplaced_eq_nil_iff.mp hu e he
  have hc := (Calm.settle hu' i q rcd).facets
  intro t
  have ht : t.facets = (w.loadKernel (kSlot c) k (c.bytes 28)).facets := by rw [← hc, ← ha]
  refine ⟨?_, ?_⟩
  · rw [State.fst, ht]
    exact State.fst_loadKernel _ _ (by rw [hw.st]; exact hk)
  · rw [ht, hker, mfind_mset_self, Option.map_some, hfacet, hrun, himg]

/-- A kernel that starts or stops. -/
def Kernel.going (go : Bool) (q : Kernel) : Kernel := { q with run := go, suspended := false, ovr := 0 }

/-- Starting or stopping kernel `n` changes no other, and no Facet's kernel. -/
theorem State.kernels_runKernel {s : State} {n : Nat} (go : Bool) {v : Kernel} (hv : mfind s.facets.kernels n = some v) :
    (s.runKernel n go).facets.kernels = (s.modKernel n (Kernel.going go)).facets.kernels := by
  unfold State.runKernel
  rw [hv]
  dsimp only
  split
  · rfl
  · split <;> rfl

theorem specSysKernelRun_acts {c : Cmd} {w : State} (i q : Nat) (rcd : ReplyRec) (hu : unplaced w = [])
    (hm : mhas w.facets.kernels (kSlot c) = true) :
    (mfind ((specSysKernelRun.apply c [] w).settle.mirror i q rcd).facets.kernels (kSlot c)).map (·.run) = some (c.at 21 1 == 1) := by
  have ha : specSysKernelRun.apply c [] w = w.runKernel (kSlot c) (c.at 21 1 == 1) := rfl
  obtain ⟨v, hv⟩ := Option.isSome_iff_exists.mp ((mhas_eq ..).symm.trans hm)
  have hk := State.kernels_runKernel (c.at 21 1 == 1) hv
  have hu' : unplaced (w.runKernel (kSlot c) (c.at 21 1 == 1)) = [] := unplaced_eq_nil_iff.mpr fun e he => by
    rw [hk] at he
    obtain ⟨d, hd, rfl⟩ := List.mem_map.mp he
    have hlt := unplaced_eq_nil_iff.mp hu d hd
    split <;> exact hlt
  rw [ha, (Calm.settle hu' i q rcd).facets, hk]
  refine (congrArg _ (mfind_map (fun e => ?_) _ _)).trans ?_
  · split <;> rfl
  · rw [hv]
    simp [Kernel.going]

theorem State.kernels_unloadKernel (s : State) (n : Nat) :
    (s.unloadKernel n).facets.kernels = mdel s.facets.kernels n ∨
    mfind s.facets.kernels n = none ∧ (s.unloadKernel n).facets.kernels = s.facets.kernels := by
  unfold State.unloadKernel
  split
  · next h => exact .inr ⟨h, rfl⟩
  · left
    dsimp only
    split
    · rfl
    · split <;> rfl

theorem specSysKernelUnload_acts {c : Cmd} {w : State} (i q : Nat) (rcd : ReplyRec) (hu : unplaced w = []) :
    mfind ((specSysKernelUnload.apply c [] w).settle.mirror i q rcd).facets.kernels (kSlot c) = none := by
  have ha : specSysKernelUnload.apply c [] w = w.unloadKernel (kSlot c) := rfl
  have hk := w.kernels_unloadKernel (kSlot c)
  have hu' : unplaced (w.unloadKernel (kSlot c)) = [] := unplaced_eq_nil_iff.mpr fun e he => by
    obtain hk | ⟨-, hk⟩ := hk <;> rw [hk] at he
    · exact unplaced_eq_nil_iff.mp hu e (mem_of_mem_mdel he)
    · exact unplaced_eq_nil_iff.mp hu e he
  rw [ha, (Calm.settle hu' i q rcd).facets]
  obtain hk | ⟨hn, hk⟩ := hk <;> rw [hk]
  · exact mfind_mdel_self ..
  · exact hn

end Sys2Proof.Machine

/-! What the commands on Loupe set, whatever follows (O60). -/

namespace Sys2Proof.Machine

theorem Tidied.lin {s t : State} (h : Tidied s t) (i : Nat) : t.lin i = s.lin i := State.lin_congr (congrArg Loupe.ins h.loupe) i

/-! ### Zones and inputs -/

@[simp] theorem State.lz_modLz_self (s : State) (z : Nat) (f : LZone → LZone) : (s.modLz z f).lz z = f (s.lz z) := mget_mmod_self ..
theorem State.lz_modLz_ne (s : State) {y z : Nat} (f : LZone → LZone) (h : y ≠ z) : (s.modLz z f).lz y = s.lz y := mget_mmod_ne _ _ _ h

theorem specLoupeZoneSet_acts {c : Cmd} {w t : State} (h : Tidied (specLoupeZoneSet.apply c [] w) t)
    (hp : (w.lz (c.at 20 2)).policy = 0 ∨ (lzoneSet c (w.lz (c.at 20 2))).policy ≠ 0) :
    t.lz (c.at 20 2) = lzoneSet c (w.lz (c.at 20 2)) ∧ ∀ y, y ≠ c.at 20 2 → t.lz y = w.lz y := by
  have ha : specLoupeZoneSet.apply c [] w = w.modLz (c.at 20 2) (lzoneSet c) := by
    unfold specLoupeZoneSet
    dsimp only
    rw [if_neg (by decide), State.lz_modLz_self]
    exact if_neg fun hn => hp.elim hn.1 fun hz => hz hn.2
  rw [ha] at h
  exact ⟨by rw [h.lz, State.lz_modLz_self], fun y hy => by rw [h.lz, State.lz_modLz_ne _ _ hy]⟩

theorem State.reg_setInCfg_self (s : State) (n : Nat) (v : Word) : (s.setInCfg n v).reg (aLin n) = v := by
  rw [reg_congr (s.setInCfg_regs n v), State.reg_setReg_self]

theorem State.reg_setInCfg_ne (s : State) {n : Nat} (v : Word) {a : Nat} (h : a ≠ aLin n) : (s.setInCfg n v).reg a = s.reg a := by
  rw [reg_congr (s.setInCfg_regs n v), State.reg_setReg_ne _ _ h]

/-- A configuration without an error is its register's, whether it takes its mate along or not. -/
theorem State.reg_inCfg {s : State} {n : Nat} {v : Word} (he : inCfgErr s n v = false) : (s.inCfg n v).reg (aLin n) = v := by
  have hne : aLin n ≠ aLin (n + 1) := by unfold aLin; omega
  unfold State.inCfg
  rw [he]
  dsimp only
  rw [if_neg (by decide)]
  split
  · exact State.reg_setInCfg_self ..
  · split
    · rw [State.reg_setInCfg_ne _ _ hne, State.reg_setInCfg_self]
    · split
      · rw [State.reg_setInCfg_ne _ _ hne, State.reg_setInCfg_self]
      · exact State.reg_setInCfg_self ..

/-- The configuration that a LOUPE_INPUT_SET gives. -/
def inputWord (c : Cmd) : Word := wordN (c.at 28 4) &&& 0x031F013F

/-- An input's configuration under its bit. -/
def State.inputCfg (s : State) (c : Cmd) : State := if (c.at 24 4).testBit 0 then s.inCfg (c.at 20 1) (inputWord c) else s

theorem specLoupeInputSet_apply (c : Cmd) (w : State) : specLoupeInputSet.apply c [] w =
    if (c.at 24 4).testBit 1 then
      { w.inputCfg c with loupe := { (w.inputCfg c).loupe with mic := mset (w.inputCfg c).loupe.mic (16 * c.at 20 1 + c.at 21 1) (c.v3 32) } }
    else w.inputCfg c := rfl

theorem aside_aLin {n : Nat} (h : n < 16) : Aside (aLin n) where
  low := by unfold aLin aLoupe aFacetctl; omega
  err k hk := by unfold aLin aLoupe aNet; omega
  head k hk r hr := by unfold aLin aLoupe aNetRing aNet; omega

theorem specLoupeInputSet_acts {c : Cmd} {w t : State} (h : Tidied (specLoupeInputSet.apply c [] w) t) :
    ((c.at 24 4).testBit 1 = true → mget {} t.loupe.mic (16 * c.at 20 1 + c.at 21 1) = c.v3 32) ∧
      ((c.at 24 4).testBit 0 = true → c.at 20 1 < 16 → inCfgErr w (c.at 20 1) (wordN (c.at 28 4)) = false →
        inCfgErr w (c.at 20 1) (wordN (c.at 28 4) &&& 0x031F013F) = false →
        t.reg (aLin (c.at 20 1)) = wordN (c.at 28 4) &&& 0x031F013F) := by
  rw [specLoupeInputSet_apply] at h
  refine ⟨fun hm => ?_, fun hm hn _ he => ?_⟩
  · rw [if_pos hm] at h
    rw [h.loupe]
    exact mget_mset_self ..
  · have hr : t.reg (aLin (c.at 20 1)) = (w.inputCfg c).reg (aLin (c.at 20 1)) := by
      rw [h.reg _ (aside_aLin hn)]
      split <;> rfl
    rw [hr, State.inputCfg, if_pos hm]
    exact State.reg_inCfg he

/-- An input after a synchronised reset. -/
def LIn.synced (clear : Bool) (q : LIn) : LIn :=
  { q with stages := List.replicate 6 {}, m := if clear then 0 else q.m, st := if q.st = 2 then 1 else q.st }

theorem State.ins_syncReset (s : State) (clear : Bool) : (s.syncReset clear).loupe.ins = s.loupe.ins.map (LIn.synced clear) := by
  unfold State.syncReset
  extract_lets one s0 s1
  have h0 : s0.loupe.ins = s.loupe.ins := by
    unfold s0
    split
    · split
      · rw [s.spoilStep_eq]
      · rfl
    · rfl
  exact congrArg (List.map one) h0

theorem specLoupeSync_acts {c : Cmd} {w t : State} (h : Tidied (specLoupeSync.apply c [] w) t) (i : Nat) :
    (t.lin i).st = (if (w.lin i).st = 2 then 1 else (w.lin i).st) ∧ (c.at 20 1 = 1 → (t.lin i).m = 0) := by
  obtain ⟨b, hb, hi⟩ : ∃ b, (c.at 20 1 = 1 → b = true) ∧ t.lin i = nth {} (w.loupe.ins.map (LIn.synced b)) i :=
    ⟨c.at 20 1 == 1 || wbit (w.reg (aLoupe + 0x10)) 1, fun hc => by simp [hc], by
      rw [h.lin]
      exact congrArg (nth {} · i) (w.ins_syncReset _)⟩
  rw [hi, State.lin]
  by_cases hl : i < w.loupe.ins.length
  · rw [show nth {} (w.loupe.ins.map (LIn.synced b)) i = LIn.synced b (nth {} w.loupe.ins i) by simp [nth, hl]]
    exact ⟨rfl, fun hc => by simp [LIn.synced, hb hc]⟩
  · simp [nth, hl]

/-! ### Jobs -/

theorem specLoupeJobStart_acts {c : Cmd} {w t : State} (h : Tidied (specLoupeJobStart.apply c [] w) t) :
    t.loupe.job = some w.loupe.nextJob ∧
      mfind t.loupe.jobs w.loupe.nextJob = some { jobOf c with going := true, start := w.render.n + 2 } ∧
      t.loupe.nextJob = (w.loupe.nextJob + 1) % 2 ^ 16 := by
  rw [h.loupe]
  exact ⟨rfl, mfind_mset_self .., rfl⟩

theorem specLoupeJobAbort_acts {c : Cmd} {w t : State} (h : Tidied (specLoupeJobAbort.apply c [] w) t)
    (hj : mhas w.loupe.jobs (c.at 20 2) = true) : t.loupe.job = none ∧
      (mfind t.loupe.jobs (c.at 20 2)).map (fun q => (q.result, q.going)) = some (2, false) := by
  have ha : specLoupeJobAbort.apply c [] w = w.endJob (c.at 20 2) 2 := rfl
  obtain ⟨v, hv⟩ := Option.isSome_iff_exists.mp ((mhas_eq ..).symm.trans hj)
  rw [h.loupe, ha]
  unfold State.endJob
  rw [hv]
  dsimp only
  rw [State.event_loupe]
  refine ⟨rfl, (congrArg _ (mfind_map (fun e => ?_) _ _)).trans ?_⟩
  · split <;> rfl
  · rw [hv]
    simp

/-! ### Feeds -/

theorem specLoupeLearn_acts {c : Cmd} {w t : State} (h : Tidied (specLoupeLearn.apply c [] w) t) (hl : c.at 22 2 = 0xFFFF) :
    everyFeed (targets w (c.at 20 2)) w t (fun _ t f => (t.lf f).learn = true) (fun w t f => t.lf f = w.lf f) := by
  have ha : specLoupeLearn.apply c [] w = (targets w (c.at 20 2)).foldl (fun s f => s.modLf f fun q => { q with learn := true }) w := by
    unfold specLoupeLearn
    dsimp only
    simp only [if_pos hl]
    rfl
  have hf : ∀ f, t.lf f = if f ∈ targets w (c.at 20 2) then { w.lf f with learn := true } else w.lf f := fun f => by
    rw [h.lf, ha]
    exact foldl_named (g := fun q : LFeed => { q with learn := true }) (fun _ => rfl) (fun s i => s.lf_modLf_self i _)
      (fun s i j hj => s.lf_modLf_ne _ hj) _ w f
  exact ⟨fun f hm => congrArg LFeed.learn ((hf f).trans (if_pos hm)), fun f hm => (hf f).trans (if_neg hm)⟩

theorem specLoupeCompClear_acts {c : Cmd} {w t : State} (h : Tidied (specLoupeCompClear.apply c [] w) t) :
    everyFeed (targets w (c.at 20 2)) w t (fun _ t f => (t.lf f).gainTgt = 0 ∧ (t.lf f).delTgt = 0) (fun w t f => t.lf f = w.lf f) := by
  have ha : specLoupeCompClear.apply c [] w =
    (targets w (c.at 20 2)).foldl (fun s f => s.modLf f fun q => { q with gainTgt := 0, delTgt := 0 }) w := rfl
  have hf : ∀ f, t.lf f = if f ∈ targets w (c.at 20 2) then { w.lf f with gainTgt := 0, delTgt := 0 } else w.lf f := fun f => by
    rw [h.lf, ha]
    exact foldl_named (g := fun q : LFeed => { q with gainTgt := 0, delTgt := 0 }) (fun _ => rfl) (fun s i => s.lf_modLf_self i _)
      (fun s i j hj => s.lf_modLf_ne _ hj) _ w f
  refine ⟨fun f hm => ?_, fun f hm => (hf f).trans (if_neg hm)⟩
  have hq := (hf f).trans (if_pos hm)
  exact ⟨congrArg LFeed.gainTgt hq, congrArg LFeed.delTgt hq⟩

/-! ### Derived filters -/

/-- The filter that LOUPE_DERIVE makes of response `i`, with its place; its taps are open values. -/
def derived (c : Cmd) (k i : Nat) : Nat × Fir :=
  (c.at 22 2 + i,
   { len := c.at 24 2
     entry := c.at 22 2 + i
     taps := (List.range (c.at 24 2)).map fun t => wrap 32 (Config.freeInt k (i * c.at 24 2 + t)) })

theorem lib_specLoupeDerive (c : Cmd) (w : State) : (specLoupeDerive.apply c [] w).render.lib =
    ((List.range (respCount w (c.at 20 2))).map (derived c w.freeCtr)).foldl (fun m e => mset m e.1 e.2) w.render.lib := by
  rw [List.foldl_map]
  rfl

theorem specLoupeDerive_acts {c : Cmd} {w t : State} (h : Tidied (specLoupeDerive.apply c [] w) t) :
    let n := respCount w (c.at 20 2)
    (∀ i < n, ∃ taps, taps.length = c.at 24 2 ∧ mfind t.render.lib (c.at 22 2 + i) =
      some { len := c.at 24 2, entry := c.at 22 2 + i, taps := taps }) ∧
    ∀ i, i < c.at 22 2 ∨ c.at 22 2 + n ≤ i → mfind t.render.lib i = mfind w.render.lib i := by
  intro n
  have hlib := (congrArg Render.lib h.render).trans (lib_specLoupeDerive c w)
  have hne : ∀ (m : SMap Fir) (e : Nat × Fir) j, j ≠ e.1 → mfind (mset m e.1 e.2) j = mfind m j := fun m e j hj => mfind_mset_ne m e.2 hj
  have hkeys : ((List.range n).map (derived c w.freeCtr)).map (·.1) = (List.range n).map (c.at 22 2 + ·) := by
    rw [List.map_map]; rfl
  refine ⟨fun i hi => ?_, fun i hi => ?_⟩
  · have hn : (((List.range n).map (derived c w.freeCtr)).map (·.1)).Nodup := by
      rw [hkeys]
      exact List.nodup_range.map fun a b hab => Nat.add_left_cancel hab
    have hm : derived c w.freeCtr i ∈ (List.range n).map (derived c w.freeCtr) := List.mem_map_of_mem (List.mem_range.mpr hi)
    obtain ⟨u, -, hu⟩ := foldl_once (o := mfind) hne hn hm w.render.lib
    refine ⟨_, ?_, (congrArg (mfind · (c.at 22 2 + i)) hlib).trans (hu.trans (mfind_mset_self ..))⟩
    rw [List.length_map, List.length_range]
  · refine (congrArg (mfind · i) hlib).trans (foldl_unnamed (o := mfind) hne ?_ w.render.lib)
    rw [hkeys]
    intro hm
    obtain ⟨j, hj, rfl⟩ := List.mem_map.mp hm
    have := List.mem_range.mp hj
    omega

end Sys2Proof.Machine

/-! What the commands on the network set, whatever follows (O60). -/

namespace Sys2Proof.Machine

/-! ### Fields of a command -/

theorem beNat_lt (bs : List Byte) : beNat bs < 256 ^ bs.length := by
  induction bs with
  | nil => exact Nat.one_pos
  | cons b t ih =>
    rw [beNat, List.length_cons, Nat.pow_succ]
    have := Nat.mul_le_mul_right (256 ^ t.length) (Nat.le_pred_of_lt b.isLt)
    simp only [Nat.pred_eq_sub_one] at this
    omega

theorem Cmd.at_lt (c : Cmd) (o n : Nat) : c.at o n < 256 ^ n :=
  (beNat_lt _).trans_le (Nat.pow_le_pow_right (by decide) (by simp [slice]))

theorem Cmd.toNat_at {c : Cmd} {o n : Nat} (h : n ≤ 4) : (wordN (c.at o n)).toNat = c.at o n :=
  Nat.mod_eq_of_lt ((c.at_lt o n).trans_le ((Nat.pow_le_pow_right (by decide) h).trans (by decide)))

/-! ### Flows -/

theorem Tidied.flow {s t : State} (h : Tidied s t) (f : Nat) : t.flow f = s.flow f := congrArg (fun m => mget ({} : Flow) m f) h.flows

namespace Calm
variable (s : State)

theorem placeEach (l : List Nat) (f : State → Nat → OwnFrame) : Calm s (l.foldl (fun s k => s.place k 3 (f s k)) s) :=
  .foldl (fun t k _ => .place t k 3 (f t k)) s

theorem igmp (kind : String) (w : Flow) : Calm s (s.igmp kind w) := .placeEach s _ fun _ _ => _
theorem arpAsk (w : Flow) : Calm s (s.arpAsk w) := .placeEach s _ fun s k => .msg "arp-request" [nextHop s k w.dst]

end Calm

/-- The table of flows is as it was. -/
structure FlowsKept (s t : State) : Prop where
  flows : t.net.flows = s.net.flows

namespace FlowsKept
variable (s : State)

theorem refl : FlowsKept s s := ⟨rfl⟩

theorem trans {a b c : State} (h : FlowsKept a b) (k : FlowsKept b c) : FlowsKept a c := ⟨k.flows.trans h.flows⟩

theorem ite {s a b : State} {α : Prop} [Decidable α] (ha : FlowsKept s a) (hb : FlowsKept s b) : FlowsKept s (if α then a else b) := by
  split <;> assumption

theorem foldl {β : Type} {f : State → β → State} (hf : ∀ t b, FlowsKept t (f t b)) (l : List β) (s : State) : FlowsKept s (l.foldl f s) := by
  induction l generalizing s with
  | nil => exact refl s
  | cons b l ih => exact (hf s b).trans (ih _)

theorem of_calm {s t : State} (h : Calm s t) : FlowsKept s t := ⟨h.flows⟩

theorem setReg (a : Nat) (w : Word) : FlowsKept s (s.setReg a w) := ⟨rfl⟩
theorem lower (a : Nat) (w : Word) : FlowsKept s (s.lower a w) := ⟨rfl⟩
theorem raise (a : Nat) (w : Word) : FlowsKept s (s.raise a w) := ⟨rfl⟩
theorem modFlowRt (f : Nat) (g : FlowRt → FlowRt) : FlowsKept s (s.modFlowRt f g) := ⟨rfl⟩
theorem clearPlayout (f : Nat) : FlowsKept s (s.clearPlayout f) := ⟨rfl⟩

theorem flowtabCtl (e : Nat) (v : Word) : FlowsKept s (s.flowtabCtl e v) :=
  .ite (((setReg s ..).trans (.lower ..)).trans (.raise ..)) (.setReg ..)

theorem hashRefresh (k : Nat) : FlowsKept s (s.hashRefresh k) := by
  unfold State.hashRefresh
  exact .foldl (fun t _ => .setReg t _ _) _ s

theorem flowEntries (f : Nat) (w : Flow) : FlowsKept s (s.flowEntries f w) := by
  unfold State.flowEntries
  extract_lets put off s0 s1 s2
  have hput : ∀ t e port path, FlowsKept t (put t e port path) := fun t e _ _ =>
    ((((lower t ..).trans (.setReg ..)).trans (.setReg ..)).trans (.setReg ..)).trans (.flowtabCtl ..)
  have h0 : FlowsKept s s0 := (lower s ..).trans (.lower ..)
  have h1 : FlowsKept s s1 := .ite (h0.trans (hput ..)) h0
  have h2 : FlowsKept s s2 := .ite (h1.trans (hput ..)) h1
  exact h2.trans (.foldl .hashRefresh _ s2)

end FlowsKept

/-- The table of flows as a flow's change leaves it. -/
def State.putFlow (s : State) (f : Nat) (w : Flow) : State :=
  { s with net := { s.net with flows := if w = {} then mdel s.net.flows f else mset s.net.flows f w } }

/-- What a flow's change sets off leaves the table of flows as the change made it. -/
theorem FlowsKept.setFlow (s : State) (f : Nat) (w : Flow) : FlowsKept (s.putFlow f w) (s.setFlow f w) := by
  unfold State.setFlow
  extract_lets old src s1 s2 s3 s4 form s5 ask
  change FlowsKept s1 _
  refine .ite ?_ ?_
  · have h2 : FlowsKept s1 s2 := .ite ((clearPlayout s1 f).trans (.modFlowRt ..)) (.refl s1)
    have h3 : FlowsKept s1 s3 := .ite (h2.trans (of_calm (.igmp ..))) h2
    have h4 : FlowsKept s1 s4 := .ite ((h3.trans (of_calm (.igmp ..))).trans (.modFlowRt ..)) h3
    exact (h4.trans (.flowEntries ..)).trans (of_calm (.speedCheck _))
  · have h5 : FlowsKept s1 s5 := .ite (.modFlowRt ..) (.refl s1)
    exact (FlowsKept.ite ((h5.trans (.modFlowRt ..)).trans (of_calm (.arpAsk ..))) h5).trans (of_calm (.speedCheck _))

theorem State.flows_setFlow (s : State) (f : Nat) (w : Flow) :
    (s.setFlow f w).net.flows = if w = {} then mdel s.net.flows f else mset s.net.flows f w :=
  (FlowsKept.setFlow s f w).flows

theorem State.flow_setFlow_self (s : State) (f : Nat) (w : Flow) : (s.setFlow f w).flow f = w := by
  rw [State.flow, State.flows_setFlow]
  split
  · next h => rw [h, mget_eq, mfind_mdel_self]; rfl
  · exact mget_mset_self ..

theorem State.flow_setFlow_ne (s : State) {g f : Nat} (w : Flow) (h : g ≠ f) : (s.setFlow f w).flow g = s.flow g := by
  rw [State.flow, State.flows_setFlow]
  split
  · rw [mget_eq, mfind_mdel_ne _ h, State.flow, mget_eq]
  · exact mget_mset_ne _ _ _ h

theorem Tidied.setFlow {s t : State} {f : Nat} {w : Flow} (h : Tidied (s.setFlow f w) t) :
    t.flow f = w ∧ ∀ g, g ≠ f → t.flow g = s.flow g :=
  ⟨by rw [h.flow, State.flow_setFlow_self], fun g hg => by rw [h.flow, State.flow_setFlow_ne _ _ hg]⟩

/-! ### KCP's port -/

theorem aNet_add_inj {j k o : Nat} (h : aNet j + o = aNet k + o) : j = k := by
  unfold aNet at h
  omega

/-- A register of a port that holds neither its errors nor a ring's head. -/
theorem aside_aNet {k o : Nat} (hk : k < 6) (ho : o < 0x100) (h8 : o ≠ 8) : Aside (aNet k + o) where
  low := by unfold aNet aFacetctl; omega
  err j hj := by unfold aNet; omega
  head j hj r hr := by unfold aNetRing aNet; omega

theorem reg_setReg_range {n : Nat} {a : Nat → Nat} (ha : ∀ i j, a i = a j → i = j) (v : Nat → Word) (s : State) :
    ∀ k < n, ((List.range n).foldl (fun s k => s.setReg (a k) (v k)) s).reg (a k) = v k := by
  induction n with
  | zero => exact fun k hk => absurd hk (Nat.not_lt_zero k)
  | succ n ih =>
    intro k hk
    rw [List.range_succ, List.foldl_append, List.foldl_cons, List.foldl_nil]
    obtain hk | rfl := Nat.lt_succ_iff_lt_or_eq.mp hk
    · rw [State.reg_setReg_ne _ _ fun he => (Nat.ne_of_lt hk) (ha _ _ he)]
      exact ih k hk
    · exact State.reg_setReg_self ..

theorem specNetKcpSet_acts {c : Cmd} {w t : State} (h : Tidied (specNetKcpSet.apply c [] w) t) : ∀ k < 6,
    t.reg (aNet k + 0x28) = wordN (c.at 20 2 + b2n (!isMedia k || (c.at 22 1).testBit k) * 2 ^ 16) := by
  intro k hk
  have ha : Aside (aNet k + 0x28) := aside_aNet hk (by decide) (by decide)
  have hr := reg_setReg_range (n := 6) (a := fun k => aNet k + 0x28) (fun _ _ => aNet_add_inj)
    (fun k => wordN (c.at 20 2 + b2n (!isMedia k || (c.at 22 1).testBit k) * 2 ^ 16)) w k hk
  rw [h.reg _ ha]
  exact ((Calm.speedCheck _).reg _ ha).trans hr

/-! ### Ports -/

namespace Calm
variable (s : State) {k : Nat}

theorem preemptStart : Calm s (s.preemptStart k) := .modNp s k fun _ => rfl

theorem ctlApplied (hk : k < 6) (old : Word) : Calm s (s.ctlApplied k old) := by
  unfold State.ctlApplied
  extract_lets w change s1 s2 s3
  have h1 : Calm s s1 := .ite ((linkDown s hk).trans (.modNp _ k fun _ => rfl)) (.refl s)
  have h2 : Calm s s2 := .ite (h1.trans (.linkDown _ hk)) h1
  have h3 : Calm s s3 := .ite (h2.trans (.speedBack _ hk)) h2
  exact .ite (h3.trans (.preemptStart _)) h3

end Calm

/-- A change under its bit. -/
def State.under (s : State) (m b : Nat) (g : State → State) : State := if m.testBit b then g s else s

namespace State
variable {s : State} {m b : Nat} {g : State → State}

theorem under_of (h : m.testBit b = true) : s.under m b g = g s := if_pos h

theorem under_same {α : Type} (p : State → α) (h : ∀ t, p (g t) = p t) : p (s.under m b g) = p s := by
  unfold under
  split
  · exact h s
  · rfl

end State

/-! The fields of a NETPORT_SET from the time to live on; nothing that follows in it changes them. -/

namespace State
variable (s : State) (c : Cmd)

def putTtl : State := s.under (c.at 24 4) 6 fun s => s.modNp (c.at 20 1) fun p => { p with ttl := c.at 41 1 }

def putVlan : State := s.under (c.at 24 4) 7 fun s => s.setReg (aNet (c.at 20 1) + 12) (wordN (c.at 42 2))

def putMac : State := s.under (c.at 24 4) 8 fun s =>
  (s.setReg (aNet (c.at 20 1) + 0x14) (wordN (c.at 44 2))).setReg (aNet (c.at 20 1) + 0x10) (wordN (c.at 46 4))

def putIp : State := s.under (c.at 24 4) 9 fun s =>
  (s.setReg (aNet (c.at 20 1) + 0x20) (wordN (c.at 52 4))).modNp (c.at 20 1) fun p => { p with ipBits := c.at 56 1, gateway := c.at 60 4 }

def putService : State := s.under (c.at 24 4) 10 fun s =>
  ((s.setReg (aNet (c.at 20 1) + 0x1C) (wordN (c.at 64 2 + 2 ^ 31))).setReg (aNet (c.at 20 1) + 0x18) (wordN (c.at 66 4))).setReg
    (aNet (c.at 20 1) + 0x24) (wordN (c.at 72 4))

def putAddresses : State := ((((s.putTtl c).putVlan c).putMac c).putIp c).putService c

variable {s c} {o : Nat}

theorem reg_putService (h18 : o ≠ 0x18) (h1C : o ≠ 0x1C) (h24 : o ≠ 0x24) :
    (s.putService c).reg (aNet (c.at 20 1) + o) = s.reg (aNet (c.at 20 1) + o) := under_same (State.reg · _) fun t => by
  rw [reg_setReg_ne _ _ (by omega), reg_setReg_ne _ _ (by omega), reg_setReg_ne _ _ (by omega)]

theorem reg_putIp (h20 : o ≠ 0x20) : (s.putIp c).reg (aNet (c.at 20 1) + o) = s.reg (aNet (c.at 20 1) + o) :=
  under_same (State.reg · _) fun t => reg_setReg_ne t _ (by omega)

theorem reg_putMac (h10 : o ≠ 0x10) (h14 : o ≠ 0x14) : (s.putMac c).reg (aNet (c.at 20 1) + o) = s.reg (aNet (c.at 20 1) + o) :=
  under_same (State.reg · _) fun t => by rw [reg_setReg_ne _ _ (by omega), reg_setReg_ne _ _ (by omega)]

theorem np_setReg (s : State) (a : Nat) (v : Word) (k : Nat) : (s.setReg a v).np k = s.np k := rfl

theorem np_putService (k : Nat) : (s.putService c).np k = s.np k :=
  under_same (State.np · k) fun _ => (np_setReg ..).trans ((np_setReg ..).trans (np_setReg ..))
theorem np_putMac (k : Nat) : (s.putMac c).np k = s.np k := under_same (State.np · k) fun _ => (np_setReg ..).trans (np_setReg ..)
theorem np_putVlan (k : Nat) : (s.putVlan c).np k = s.np k := under_same (State.np · k) fun _ => np_setReg ..

theorem netPorts_modNp (s : State) (k : Nat) (f : NetPort → NetPort) : (s.modNp k f).net.port.length = s.net.port.length :=
  List.length_modify ..

theorem netPorts_setReg (s : State) (a : Nat) (v : Word) : (s.setReg a v).net.port.length = s.net.port.length := rfl
theorem netPorts_putReg (s : State) (a lo len v : Nat) : (s.putReg a lo len v).net.port.length = s.net.port.length := rfl

/-- The ports are as many whatever is put. -/
theorem netPorts_under (h : ∀ t, (g t).net.port.length = t.net.port.length) : (s.under m b g).net.port.length = s.net.port.length :=
  under_same (fun t => t.net.port.length) h

end State

/-- A NETPORT_SET puts its addresses in a state with as many ports, and nothing that it does later changes them. -/
theorem specNetportSet_apply (c : Cmd) (w : State) (hk : c.at 20 1 < 6) : ∃ u : State, u.net.port.length = w.net.port.length ∧
    Calm (u.putAddresses c) (specNetportSet.apply c [] w) := by
  let k := c.at 20 1
  let m := c.at 24 4
  let a := aNet k
  let s3 := ((w.under m 0 fun s => s.putReg a 8 3 (c.at 28 1)).under m 1 fun s => s.putReg a 11 2 (c.at 29 1)).under m 2
    fun s => s.putReg a 17 1 (c.at 30 1)
  let s4 := s3.under m 3 fun s => (s.putReg a 24 1 (c.at 31 1)).modNp k fun p => { p with verify := c.at 32 1 }
  let s5 := s4.under m 4 fun s => ((s.putReg a 25 1 (c.at 33 1)).putReg (a + 0x2C) 16 12 (c.at 34 2)).putReg (a + 0x2C) 0 16 (c.at 36 4)
  let s6 := s5.under m 5 fun s => s.putReg a 26 2 (c.at 40 1)
  have h3 : s3.net.port.length = w.net.port.length := (State.netPorts_under fun t => t.netPorts_putReg ..).trans
    ((State.netPorts_under fun t => t.netPorts_putReg ..).trans (State.netPorts_under fun t => t.netPorts_putReg ..))
  have h4 : s4.net.port.length = s3.net.port.length := State.netPorts_under fun t => (State.netPorts_modNp ..).trans (t.netPorts_putReg ..)
  have h6 : s6.net.port.length = s4.net.port.length := (State.netPorts_under fun t => t.netPorts_putReg ..).trans
    (State.netPorts_under fun t => (State.netPorts_putReg ..).trans ((State.netPorts_putReg ..).trans (t.netPorts_putReg ..)))
  have hc := Calm.ctlApplied (s6.putAddresses c) hk (w.reg a)
  exact ⟨s6, h6.trans (h4.trans h3), .ite (hc.trans (.preemptStart _)) hc⟩

theorem Cmd.low_at (c : Cmd) (o : Nat) : wbits (wordN (c.at o 2)) 0 16 = c.at o 2 := by
  rw [wbits_zero, Cmd.toNat_at (by decide)]
  exact Nat.mod_eq_of_lt (c.at_lt o 2)

theorem wbits_wordN_add (x n : Nat) (h : 2 ^ 16 ∣ n) : wbits (wordN (x + n)) 0 16 = wbits (wordN x) 0 16 := by
  obtain ⟨d, rfl⟩ := h
  simp only [wbits_zero, wordN, BitVec.toNat_ofNat]
  rw [Nat.mod_mod_of_dvd _ (by decide), Nat.mod_mod_of_dvd _ (by decide), Nat.add_mul_mod_self_left]

namespace State
variable {s : State} {c : Cmd}

theorem np_putIp_setting (hl : c.at 20 1 < s.net.port.length) : ((s.putIp c).np (c.at 20 1)).ttl = (s.np (c.at 20 1)).ttl ∧
    ((c.at 24 4).testBit 9 = true → ((s.putIp c).np (c.at 20 1)).ipBits = c.at 56 1 ∧ ((s.putIp c).np (c.at 20 1)).gateway = c.at 60 4) := by
  unfold putIp
  by_cases hm : (c.at 24 4).testBit 9 = true
  · rw [under_of hm, np_modNp_self _ _ _ (hl.trans_eq (netPorts_setReg ..).symm), np_setReg]
    exact ⟨rfl, fun _ => ⟨rfl, rfl⟩⟩
  · rw [under, if_neg hm]
    exact ⟨rfl, fun h => absurd h hm⟩

theorem netPorts_putMac : (((s.putTtl c).putVlan c).putMac c).net.port.length = s.net.port.length :=
  (netPorts_under fun _ => (netPorts_setReg ..).trans (netPorts_setReg ..)).trans
    ((netPorts_under fun _ => netPorts_setReg ..).trans (netPorts_under fun _ => netPorts_modNp ..))

theorem np_putAddresses (hl : c.at 20 1 < s.net.port.length) :
    ((c.at 24 4).testBit 6 = true → ((s.putAddresses c).np (c.at 20 1)).ttl = c.at 41 1) ∧
    ((c.at 24 4).testBit 9 = true → ((s.putAddresses c).np (c.at 20 1)).ipBits = c.at 56 1 ∧
      ((s.putAddresses c).np (c.at 20 1)).gateway = c.at 60 4) := by
  obtain ⟨httl, hip⟩ := np_putIp_setting (s := ((s.putTtl c).putVlan c).putMac c) (netPorts_putMac.symm ▸ hl)
  rw [putAddresses, np_putService]
  refine ⟨fun hm => ?_, hip⟩
  rw [httl, np_putMac, np_putVlan, putTtl, under_of hm, np_modNp_self s _ _ hl]

theorem reg_putAddresses_vlan (h : (c.at 24 4).testBit 7 = true) : (s.putAddresses c).reg (aNet (c.at 20 1) + 12) = wordN (c.at 42 2) := by
  rw [putAddresses, reg_putService (by decide) (by decide) (by decide), reg_putIp (by decide), reg_putMac (by decide) (by decide), putVlan,
    under_of h, reg_setReg_self]

theorem reg_putAddresses_mac (h : (c.at 24 4).testBit 8 = true) :
    (s.putAddresses c).reg (aNet (c.at 20 1) + 0x14) = wordN (c.at 44 2) ∧
    (s.putAddresses c).reg (aNet (c.at 20 1) + 0x10) = wordN (c.at 46 4) := by
  constructor
  · rw [putAddresses, reg_putService (by decide) (by decide) (by decide), reg_putIp (by decide), putMac, under_of h,
      reg_setReg_ne _ _ (by omega), reg_setReg_self]
  · rw [putAddresses, reg_putService (by decide) (by decide) (by decide), reg_putIp (by decide), putMac, under_of h, reg_setReg_self]

theorem reg_putAddresses_ip (h : (c.at 24 4).testBit 9 = true) : (s.putAddresses c).reg (aNet (c.at 20 1) + 0x20) = wordN (c.at 52 4) := by
  rw [putAddresses, reg_putService (by decide) (by decide) (by decide), putIp, under_of h]
  exact reg_setReg_self ..

theorem reg_putAddresses_service (h : (c.at 24 4).testBit 10 = true) :
    (s.putAddresses c).reg (aNet (c.at 20 1) + 0x1C) = wordN (c.at 64 2 + 2 ^ 31) ∧
    (s.putAddresses c).reg (aNet (c.at 20 1) + 0x18) = wordN (c.at 66 4) ∧
    (s.putAddresses c).reg (aNet (c.at 20 1) + 0x24) = wordN (c.at 72 4) := by
  rw [putAddresses, putService, under_of h]
  refine ⟨?_, ?_, reg_setReg_self ..⟩
  · rw [reg_setReg_ne _ _ (by omega), reg_setReg_ne _ _ (by omega), reg_setReg_self]
  · rw [reg_setReg_ne _ _ (by omega), reg_setReg_self]

end State

theorem specNetportSet_acts {c : Cmd} {w t : State} (hw : w.Shape) (h : Tidied (specNetportSet.apply c [] w) t) :
    let k := c.at 20 1
    let m := c.at 24 4
    k < 6 → (m.testBit 6 = true → (t.np k).ttl = c.at 41 1) ∧ (m.testBit 7 = true → t.reg (aNet k + 12) = wordN (c.at 42 2)) ∧
    (m.testBit 8 = true → unitMac t k = c.at 44 2 * 2 ^ 32 + c.at 46 4) ∧
    (m.testBit 9 = true → unitIp t k = c.at 52 4 ∧ (t.np k).ipBits = c.at 56 1 ∧ (t.np k).gateway = c.at 60 4) ∧
    (m.testBit 10 = true → svcMac t k = c.at 64 2 * 2 ^ 32 + c.at 66 4 ∧ svcIp t k = c.at 72 4) := by
  intro k m hk
  obtain ⟨u, hu, hc⟩ := specNetportSet_apply c w hk
  have ht := hc.toTidied.trans h
  have hl : k < u.net.port.length := by
    obtain ⟨-, -, -, -, -, hp, -⟩ := hw
    rw [hu, hp]
    exact hk
  have hr : ∀ o < 0x100, o ≠ 8 → t.reg (aNet k + o) = (u.putAddresses c).reg (aNet k + o) := fun o ho h8 => ht.reg _ (aside_aNet hk ho h8)
  obtain ⟨httl, hip⟩ := State.np_putAddresses hl
  refine ⟨fun hm => (congrArg PortSetting.ttl (ht.port k)).trans (httl hm), fun hm => ?_, fun hm => ?_, fun hm => ⟨?_, ?_, ?_⟩,
    fun hm => ⟨?_, ?_⟩⟩
  · exact (hr 12 (by decide) (by decide)).trans (State.reg_putAddresses_vlan hm)
  · obtain ⟨h14, h10⟩ := State.reg_putAddresses_mac (s := u) hm
    rw [unitMac, hr 0x14 (by decide) (by decide), hr 0x10 (by decide) (by decide), h14, h10, Cmd.low_at, Cmd.toNat_at (by decide)]
  · rw [unitIp, hr 0x20 (by decide) (by decide), State.reg_putAddresses_ip hm, Cmd.toNat_at (by decide)]
  · exact (congrArg PortSetting.ipBits (ht.port k)).trans (hip hm).1
  · exact (congrArg PortSetting.gateway (ht.port k)).trans (hip hm).2
  · obtain ⟨h1C, h18, -⟩ := State.reg_putAddresses_service (s := u) hm
    rw [svcMac, hr 0x1C (by decide) (by decide), hr 0x18 (by decide) (by decide), h1C, h18, wbits_wordN_add _ _ (by decide), Cmd.low_at,
      Cmd.toNat_at (by decide)]
  · obtain ⟨-, -, h24⟩ := State.reg_putAddresses_service (s := u) hm
    rw [svcIp, hr 0x24 (by decide) (by decide), h24, Cmd.toNat_at (by decide)]

end Sys2Proof.Machine

/-! What the commands on time set, whatever follows (O60). -/

namespace Sys2Proof.Machine

theorem Tidied.ref {s t : State} (h : Tidied s t) (r : Nat) : t.ref r = s.ref r := congrArg (fun m : TimeU => nth ({} : Ref) m.refs r) h.time
theorem Tidied.slot {s t : State} (h : Tidied s t) (d : Nat) : t.slot d = s.slot d := congrArg (fun m : TimeU => nth ({} : Ptp) m.ptp d) h.time

/-! ### A new selection -/

/-- What a change of the selected reference leaves alone: the references, the PTP slots, and the registers but for the selector's
errors and L's rate. It never forces a reference. -/
structure Reselected (s t : State) : Prop where
  refs : t.time.refs = s.time.refs
  ptp : t.time.ptp = s.time.ptp
  forced : t.time.sel.forced = true → s.time.sel.forced = true
  reg : ∀ a, Aside a → a ≠ aClksel + 8 → a ≠ aTime + 0x70 → t.reg a = s.reg a

namespace Reselected
variable (s : State)

theorem refl : Reselected s s := ⟨rfl, rfl, id, fun _ _ _ _ => rfl⟩

theorem trans {a b c : State} (h : Reselected a b) (k : Reselected b c) : Reselected a c :=
  ⟨k.refs.trans h.refs, k.ptp.trans h.ptp, h.forced ∘ k.forced, fun x hx he hr => (k.reg x hx he hr).trans (h.reg x hx he hr)⟩

theorem ite {s a b : State} {α : Prop} [Decidable α] (ha : Reselected s a) (hb : Reselected s b) : Reselected s (if α then a else b) := by
  split <;> assumption

theorem of_calm {s t : State} (h : Calm s t) : Reselected s t :=
  ⟨congrArg TimeU.refs h.time, congrArg TimeU.ptp h.time, fun hf => by rwa [← h.time], fun a ha _ _ => h.reg a ha⟩

theorem event (code : Nat) (payload : List Byte) : Reselected s (s.event code payload) := of_calm (.event ..)

theorem raiseErr (m : Word) : Reselected s (s.raise (aClksel + 8) m) := ⟨rfl, rfl, id, fun _ _ he _ => State.reg_raise_ne s m he⟩

theorem setRate (r : Int) : Reselected s (s.setRate 2 r) := ⟨rfl, rfl, id, fun _ _ _ hr => State.reg_setReg_ne s _ hr⟩

theorem modSel {f : Sel → Sel} (hf : ∀ q, (f q).forced = true → q.forced = true) : Reselected s (s.modSel f) :=
  ⟨rfl, rfl, hf _, fun _ _ _ _ => rfl⟩

theorem enterRef (ref : Option Nat) (cause : Nat) : Reselected s (s.enterRef ref cause) :=
  .ite (.refl s) ⟨rfl, rfl, id, fun _ _ _ _ => rfl⟩

theorem refSwitched (src dst : Option Nat) (cause : Nat) : Reselected s (s.refSwitched src dst cause) :=
  .ite (.refl s) ((raiseErr s _).trans (.event ..))

theorem selectRef (r cause : Nat) : Reselected s (s.selectRef r cause false) :=
  ((Reselected.ite (.event ..) (.refl s)).trans (.modSel _ fun _ h => absurd h Bool.false_ne_true)).trans (.refSwitched ..)

theorem enterHold (cause : Nat) : Reselected s (s.enterHold cause) := by
  unfold State.enterHold
  extract_lets src l short s1 s2 s3
  have h1 : Reselected s s1 := .modSel s fun _ h => absurd h Bool.false_ne_true
  have h2 : Reselected s s2 := .ite h1 (h1.trans (.setRate ..))
  have h3 : Reselected s s3 := ((h2.trans (.raiseErr ..)).trans (.refSwitched ..)).trans (.event ..)
  exact .ite (h3.trans (.event ..)) h3

theorem toRef (ref : Option Nat) (cause : Nat) : Reselected s (s.toRef ref cause) := by
  cases ref with
  | none => exact .enterHold ..
  | some r => exact .selectRef ..

theorem decide' (ended : Bool) : Reselected s (s.decide' ended) := by
  unfold State.decide'
  split
  · exact .ite (.enterRef ..) (.toRef ..)
  · exact .refl s

theorem reselect (ended : Bool) : Reselected s (s.reselect ended) := by
  unfold State.reselect
  refine .ite (.refl s) (.ite ?_ (.decide' ..))
  split
  · exact .ite (.refl s) ((modSel s fun _ h => absurd h Bool.false_ne_true).trans (.decide' ..))
  · exact .refl s

end Reselected

/-! ### Commands on references -/

theorem aside_aClksel {o : Nat} (h : o < 0x1000) : Aside (aClksel + o) where
  low := by unfold aClksel aFacetctl; omega
  err k hk := by unfold aClksel aNet; omega
  head k hk r hr := by unfold aClksel aNetRing aNet; omega

theorem aside_aTime {o : Nat} (h : o < 0x1000) : Aside (aTime + o) where
  low := by unfold aTime aFacetctl; omega
  err k hk := by unfold aTime aNet; omega
  head k hk r hr := by unfold aTime aNetRing aNet; omega

theorem State.time_refSwitched (s : State) (src dst : Option Nat) (cause : Nat) : (s.refSwitched src dst cause).time = s.time := by
  unfold State.refSwitched
  split
  · rfl
  · rw [(Calm.event ..).time]
    rfl

theorem specRefForce_acts {c : Cmd} {w t : State} (h : Tidied (specRefForce.apply c [] w) t) :
    (c.at 20 1 = 0xFF → t.time.sel.forced = false) ∧
    (c.at 20 1 ≠ 0xFF → t.time.sel.sel = some (c.at 20 1) ∧ t.time.sel.forced = true) := by
  rw [h.time]
  unfold specRefForce
  dsimp only
  rw [if_neg (by decide)]
  constructor <;> intro hr
  · rw [if_pos hr]
    split
    · exact Bool.eq_false_iff.mpr fun hf => Bool.false_ne_true ((Reselected.reselect _ true).forced hf)
    · next hf => exact Bool.eq_false_iff.mpr hf
  · rw [if_neg hr]
    split
    · next hs => exact ⟨hs, rfl⟩
    · unfold State.selectRef
      dsimp only
      rw [State.time_refSwitched]
      exact ⟨rfl, rfl⟩

/-- A word of four bytes, least significant first, gives each of them. -/
theorem wbits_bytes {a b c d : Nat} (ha : a < 256) (hb : b < 256) (hc : c < 256) (hd : d < 256) :
    let w : Word := BitVec.ofNat 32 (a + 2 ^ 8 * b + 2 ^ 16 * c + 2 ^ 24 * d)
    wbits w 0 8 = a ∧ wbits w 8 8 = b ∧ wbits w 16 8 = c ∧ wbits w 24 8 = d := by
  have hw : (BitVec.ofNat 32 (a + 2 ^ 8 * b + 2 ^ 16 * c + 2 ^ 24 * d)).toNat = a + 2 ^ 8 * b + 2 ^ 16 * c + 2 ^ 24 * d :=
    Nat.mod_eq_of_lt (by omega)
  simp only [wbits, bitsOf, hw]
  omega

theorem prio_of_table {s : State} {b : Nat → Nat} (hb : ∀ i, b i < 256)
    (ha : s.reg (aClksel + 0xC) = BitVec.ofNat 32 (b 0 + 2 ^ 8 * b 1 + 2 ^ 16 * b 2 + 2 ^ 24 * b 3))
    (hc : s.reg (aClksel + 0x10) = BitVec.ofNat 32 (b 4 + 2 ^ 8 * b 5 + 2 ^ 16 * b 6 + 2 ^ 24 * b 7)) :
    s.prio = (List.range 8).map b := by
  obtain ⟨h0, h1, h2, h3⟩ := wbits_bytes (hb 0) (hb 1) (hb 2) (hb 3)
  obtain ⟨h4, h5, h6, h7⟩ := wbits_bytes (hb 4) (hb 5) (hb 6) (hb 7)
  rw [← ha] at h0 h1 h2 h3
  rw [← hc] at h4 h5 h6 h7
  simp [State.prio, List.range_succ, h0, h1, h2, h3, h4, h5, h6, h7]

theorem specRefPrioritySet_acts {c : Cmd} {w t : State} (h : Tidied (specRefPrioritySet.apply c [] w) t) :
    t.prio = ((List.range 8).map fun i => c.at (20 + i) 1) ∧
      t.reg aClksel = BitVec.ofNat 32 (c.at 30 2 * 2 ^ 16 + c.at 32 2 * 16 + c.at 28 1) := by
  let word := fun o => BitVec.ofNat 32 (c.at o 1 + 2 ^ 8 * c.at (o + 1) 1 + 2 ^ 16 * c.at (o + 2) 1 + 2 ^ 24 * c.at (o + 3) 1)
  let u := ((w.setReg (aClksel + 0xC) (word 20)).setReg (aClksel + 0x10) (word 24)).setReg aClksel
    (BitVec.ofNat 32 (c.at 30 2 * 2 ^ 16 + c.at 32 2 * 16 + c.at 28 1))
  have hr : ∀ o, o < 0x14 → o ≠ 8 → t.reg (aClksel + o) = u.reg (aClksel + o) := fun o ho h8 =>
    (h.reg _ (aside_aClksel (by omega))).trans
      ((Reselected.reselect u false).reg _ (aside_aClksel (by omega)) (by omega) (by unfold aClksel aTime; omega))
  have h0 : u.reg aClksel = _ := State.reg_setReg_self ..
  have hC : u.reg (aClksel + 0xC) = word 20 := by
    rw [State.reg_setReg_ne _ _ (by omega), State.reg_setReg_ne _ _ (by omega), State.reg_setReg_self]
  have h10 : u.reg (aClksel + 0x10) = word 24 := by
    rw [State.reg_setReg_ne _ _ (by omega), State.reg_setReg_self]
  exact ⟨prio_of_table (b := fun i => c.at (20 + i) 1) (fun i => c.at_lt _ 1) ((hr _ (by decide) (by decide)).trans hC)
    ((hr _ (by decide) (by decide)).trans h10), (hr 0 (by decide) (by decide)).trans h0⟩

theorem State.reg_cmpArmed (s : State) (i : Nat) {a : Nat} (ha : a ≠ aTime + 8) : (s.cmpArmed i).reg a = s.reg a := by
  unfold State.cmpArmed
  split
  · exact State.reg_raise_ne _ _ ha
  · rfl

theorem specTriggerSet_acts {c : Cmd} {w t : State} (h : Tidied (specTriggerSet.apply c [] w) t) :
    let a := aTime + 0x2A0
    t.reg a = BitVec.ofNat 32 (c.at 21 1 + 2 * c.at 20 1 + 8 * c.at 22 1) ∧ t.reg (a + 0xC) = BitVec.ofNat 32 (c.at 32 4) ∧
      t.reg (a + 0x10) = BitVec.ofNat 32 (c.at 36 4) ∧ t.reg (a + 0x14) = BitVec.ofNat 32 (c.at 40 4) := by
  intro a
  let u1 := (((w.setReg64 (a + 4) (c.at 24 8)).setReg (a + 0xC) (BitVec.ofNat 32 (c.at 32 4))).setReg (a + 0x10)
    (BitVec.ofNat 32 (c.at 36 4))).setReg (a + 0x14) (BitVec.ofNat 32 (c.at 40 4))
  let u := u1.setReg a (BitVec.ofNat 32 (c.at 21 1 + 2 * c.at 20 1 + 8 * c.at 22 1))
  have hr : ∀ o < 0x20, t.reg (a + o) = u.reg (a + o) := fun o ho =>
    (h.reg (a + o) (by rw [Nat.add_assoc]; exact aside_aTime (by omega))).trans (State.reg_cmpArmed u 5 (by omega))
  refine ⟨(hr 0 (by decide)).trans (State.reg_setReg_self ..), (hr _ (by decide)).trans ?_, (hr _ (by decide)).trans ?_, (hr _ (by decide)).trans ?_⟩
  · rw [State.reg_setReg_ne _ _ (by omega), State.reg_setReg_ne _ _ (by omega), State.reg_setReg_ne _ _ (by omega), State.reg_setReg_self]
  · rw [State.reg_setReg_ne _ _ (by omega), State.reg_setReg_ne _ _ (by omega), State.reg_setReg_self]
  · rw [State.reg_setReg_ne _ _ (by omega), State.reg_setReg_self]

/-! ### References -/

/-- What a REF_INPUT_SET sets of a reference. -/
def Ref.settings (q : Ref) : Bool × Nat × Nat × Nat × Nat × Nat := (q.enable, q.cfgLevel, q.rate, q.tol, q.disq, q.dwell)

/-- The settings of the references, and the PTP slots, are as they were. -/
structure RefsKept (s t : State) : Prop where
  settings : ∀ r, (t.ref r).settings = (s.ref r).settings
  ptp : t.time.ptp = s.time.ptp

namespace RefsKept
variable (s : State)

theorem refl : RefsKept s s := ⟨fun _ => rfl, rfl⟩

theorem trans {a b c : State} (h : RefsKept a b) (k : RefsKept b c) : RefsKept a c :=
  ⟨fun r => (k.settings r).trans (h.settings r), k.ptp.trans h.ptp⟩

theorem ite {s a b : State} {α : Prop} [Decidable α] (ha : RefsKept s a) (hb : RefsKept s b) : RefsKept s (if α then a else b) := by
  split <;> assumption

theorem of_reselected {s t : State} (h : Reselected s t) : RefsKept s t := ⟨fun r => by rw [State.ref, h.refs]; rfl, h.ptp⟩

theorem modRef (k : Nat) {f : Ref → Ref} (hf : ∀ q, (f q).settings = q.settings) : RefsKept s (s.modRef k f) := by
  refine ⟨fun r => ?_, rfl⟩
  by_cases hr : r = k
  · subst hr
    by_cases hl : r < s.time.refs.length
    · rw [State.ref_modRef_self s r f hl, hf]
    · rw [State.modRef, List.modify_eq_self (by omega)]
  · rw [State.ref_modRef_ne s f hr]

theorem refQuality (r : Nat) : RefsKept s (s.refQuality r) := of_reselected (.event ..)
theorem noteQuality (r : Nat) (q : Ref) : RefsKept s (s.noteQuality r q) := .ite (.refQuality ..) (.refl s)
theorem startWtr (r : Nat) : RefsKept s (s.startWtr r) := .ite (.modRef s r fun _ => rfl) (.refl s)

theorem setIntrinsic (r i : Nat) : RefsKept s (s.setIntrinsic r i) := by
  unfold State.setIntrinsic
  extract_lets q lvl s1 s2
  have h1 : RefsKept s s1 := .modRef s r fun _ => rfl
  have h2 : RefsKept s s2 := .ite (h1.trans (.startWtr ..)) h1
  exact h2.trans (.noteQuality ..)

theorem reselect (ended : Bool) : RefsKept s (s.reselect ended) := of_reselected (.reselect ..)

theorem refLost (r : Nat) : RefsKept s (s.refLost r) := by
  unfold State.refLost
  have h1 : RefsKept s (s.modRef r fun q => { q with present := false, wtr := false, ovr := 0, inTol := 0 }) := .modRef s r fun _ => rfl
  exact .ite ((h1.trans (.refQuality ..)).trans (.reselect ..)) (.refl s)

end RefsKept

theorem specRefInputSet_reference {c : Cmd} {w : State} (hr : c.at 20 1 < 6) :
    RefsKept (w.modRef (c.at 20 1) (refSet c)) (specRefInputSet.apply c [] w) := by
  unfold specRefInputSet
  dsimp only
  rw [if_neg (by decide), if_neg (by omega)]
  exact (RefsKept.ite (.setIntrinsic ..) (.refl _)).trans (.reselect _ false)

theorem specRefInputSet_selector {c : Cmd} {w : State} (hr : c.at 20 1 = 6) : specRefInputSet.apply c [] w = w.modSel fun t =>
    { t with holdLimit := if (c.at 24 4).testBit 6 then c.at 44 4 else t.holdLimit
             stab := if (c.at 24 4).testBit 7 then c.at 48 4 else t.stab } := by
  unfold specRefInputSet
  dsimp only
  rw [if_neg (by decide), if_pos hr]

theorem State.Shape.refs {s : State} (h : s.Shape) : s.time.refs.length = 6 := by
  obtain ⟨-, -, -, -, -, -, -, -, h, -⟩ := h
  exact h

theorem State.Shape.ptp {s : State} (h : s.Shape) : s.time.ptp.length = 2 := by
  obtain ⟨-, -, -, -, -, -, -, -, -, h, -⟩ := h
  exact h

theorem specRefInputSet_acts {c : Cmd} {w t : State} (hw : w.Shape) (h : Tidied (specRefInputSet.apply c [] w) t) :
    (c.at 20 1 < 6 → (t.ref (c.at 20 1)).settings = (refSet c (w.ref (c.at 20 1))).settings) ∧
    (c.at 20 1 = 6 → ((c.at 24 4).testBit 6 = true → t.time.sel.holdLimit = c.at 44 4) ∧
      ((c.at 24 4).testBit 7 = true → t.time.sel.stab = c.at 48 4)) := by
  refine ⟨fun hr => ?_, fun hr => ?_⟩
  · rw [h.ref, (specRefInputSet_reference hr).settings, State.ref_modRef_self w _ _ (hw.refs ▸ hr)]
  · rw [h.time, specRefInputSet_selector hr]
    exact ⟨fun hm => if_pos hm, fun hm => if_pos hm⟩

/-! ### PTP slots -/

/-- A slot without its state and its master. -/
def Ptp.set (p : Ptp) : Ptp := { p with st := 0, steered := false, hasGm := false }

theorem State.slot_modPtp_self (s : State) (d : Nat) (f : Ptp → Ptp) (h : d < s.time.ptp.length) : (s.modPtp d f).slot d = f (s.slot d) :=
  nth_modify_self _ _ _ _ h

theorem slot_of_ptp {s t : State} (h : t.time.ptp = s.time.ptp) (d : Nat) : t.slot d = s.slot d := congrArg (nth ({} : Ptp) · d) h

theorem State.slot_leaveSlave (s : State) (d st : Nat) (h : d < s.time.ptp.length) : ((s.leaveSlave d st).slot d).set = (s.slot d).set := by
  unfold State.leaveSlave
  extract_lets was s1
  have h1 : (s1.slot d).set = (s.slot d).set := (congrArg Ptp.set (s.slot_modPtp_self d _ h)).trans rfl
  split
  · rw [slot_of_ptp (RefsKept.refLost s1 d).ptp, h1]
  · exact h1

theorem specPtpSet_acts {c : Cmd} {w t : State} (hw : w.Shape) (h : Tidied (specPtpSet.apply c [] w) t) (hd : c.at 20 1 < 2) :
    (t.slot (c.at 20 1)).set = (ptpSet c (w.slot (c.at 20 1))).set := by
  have hl : c.at 20 1 < w.time.ptp.length := hw.ptp ▸ hd
  rw [h.slot]
  unfold specPtpSet
  dsimp only
  rw [if_neg (by decide)]
  have h1 := w.slot_modPtp_self (c.at 20 1) (fun _ => ptpSet c (w.slot (c.at 20 1))) hl
  split
  · rw [slot_of_ptp (Reselected.reselect _ false).ptp, State.slot_leaveSlave _ _ _ (by rwa [State.modPtp, List.length_modify]), h1]
  · rw [h1]

end Sys2Proof.Machine

/-! What the commands on audio ports and on power domains set, whatever follows (O60). -/

namespace Sys2Proof.Machine

theorem Tidied.portOf {s t : State} (h : Tidied s t) (p : Nat) : t.port p = s.port p := congrArg (fun m : Ports => nth ({} : Port) m.port p) h.ports

theorem aside_aPort {p o : Nat} (hp : p < 256) (ho : o < 0x40) : Aside (aPort p + o) where
  low := by unfold aPort aTdm aFacetctl; omega
  err k hk := by unfold aPort aTdm aNet; omega
  head k hk r hr := by unfold aPort aTdm aNetRing aNet; omega

theorem aside_aRoute {r o : Nat} (hr : r < 256) (ho : o < 16) : Aside (aRoute r + o) where
  low := by unfold aRoute aSide aFacetctl; omega
  err k hk := by unfold aRoute aSide aNet; omega
  head k hk r hr := by unfold aRoute aSide aNetRing aNet; omega

theorem State.Shape.ports {s : State} (h : s.Shape) : s.ports.port.length = 16 := by
  obtain ⟨-, -, -, -, -, -, -, h, -⟩ := h
  exact h

theorem State.Shape.dom {s : State} (h : s.Shape) : s.power.dom.length = 11 := by
  obtain ⟨-, -, -, -, h, -⟩ := h
  exact h

/-! ### Configurations and masks -/

theorem specPortSet_acts {c : Cmd} {w t : State} (h : Tidied (specPortSet.apply c [] w) t) :
    t.pctl (c.at 20 1) = portSet c (w.pctl (c.at 20 1)) :=
  (h.reg _ (aside_aPort (o := 0) (c.at_lt 20 1) (by decide))).trans (State.reg_setReg_self ..)

theorem State.reg_maskApply (s : State) (p : Nat) (v : Word) (late : Bool) (a : Nat) : (s.maskApply p v late).reg a = s.reg a := by
  unfold State.maskApply
  split <;> rfl

theorem specPortMask_acts {c : Cmd} {w t : State} (hw : w.Shape) (h : Tidied (specPortMask.apply c [] w) t) :
    t.reg (aPort (c.at 20 1) + 0x10) = wordN (c.at 24 4) ∧ t.reg (aPort (c.at 20 1) + 0x14) = wordN (c.at 28 4) ∧
      (c.at 21 1 = 1 → c.at 20 1 < 16 → (w.port (c.at 20 1)).maskWait = 0 → (t.port (c.at 20 1)).maskWait = 1) := by
  let p := c.at 20 1
  let u := (w.setReg (aPort p + 0x10) (wordN (c.at 24 4))).setReg (aPort p + 0x14) (wordN (c.at 28 4))
  have hr : ∀ o < 0x40, t.reg (aPort p + o) = u.reg (aPort p + o) := fun o ho => by
    rw [h.reg _ (aside_aPort (c.at_lt 20 1) ho)]
    unfold specPortMask
    dsimp only
    rw [if_neg (by decide)]
    split
    · exact State.reg_maskApply ..
    · rfl
  refine ⟨(hr _ (by decide)).trans ?_, (hr _ (by decide)).trans (State.reg_setReg_self ..), fun h1 hp hm => ?_⟩
  · rw [State.reg_setReg_ne _ _ (by omega), State.reg_setReg_self]
  · have ha : specPortMask.apply c [] w = u.modPort p fun q => { q with maskWait := if q.maskWait ≠ 0 then q.maskWait else 1 } := by
      unfold specPortMask
      dsimp only
      rw [if_neg (by decide), if_pos h1, State.maskApply, if_pos (by decide)]
      rfl
    rw [h.portOf, ha, State.port_modPort_self u _ _ (hw.ports ▸ hp)]
    exact if_neg (not_not_intro hm)

/-! ### Running -/

theorem State.reg_modPort (s : State) (p : Nat) (f : Port → Port) (a : Nat) : (s.modPort p f).reg a = s.reg a := rfl

section Run
variable (s : State) (p : Nat)

theorem State.portEvent_calm : Calm s (s.portEvent p) := .event ..

theorem State.reg_portTo (st : Nat) {a : Nat} (ha : Aside a) : (s.portTo p st).reg a = s.reg a := by
  unfold State.portTo
  split
  · rfl
  · exact ((State.portEvent_calm _ p).reg a ha).trans (State.reg_modPort ..)

theorem State.st_portTo (st : Nat) (h : p < s.ports.port.length) : ((s.portTo p st).port p).st = st := by
  unfold State.portTo
  split
  · assumption
  · rw [(State.portEvent_calm _ p).toTidied.portOf, State.port_modPort_self s p _ h]

theorem State.reg_portStart {a : Nat} (ha : Aside a) : (s.portStart p).reg a = (s.raise (aPort p) 1).reg a := by
  unfold State.portStart
  dsimp only
  split
  · rfl
  · split
    · exact (State.reg_portTo _ p 2 ha).trans ((State.reg_modPort ..).trans (State.reg_modPort ..))
    · exact State.reg_portTo _ p 1 ha

theorem State.reg_portStop {a : Nat} (ha : Aside a) : (s.portStop p).reg a = (s.lower (aPort p) 1).reg a := by
  unfold State.portStop
  dsimp only
  split
  · rfl
  · split
    · exact (State.reg_portTo _ p 4 ha).trans (State.reg_modPort ..)
    · exact ((State.portEvent_calm _ p).reg a ha).trans (State.reg_modPort ..)

end Run

theorem State.ports_modPort (s : State) (p : Nat) (f : Port → Port) : (s.modPort p f).ports.port.length = s.ports.port.length :=
  List.length_modify ..

theorem specPortRun_acts {c : Cmd} {w t : State} (hw : w.Shape) (h : Tidied (specPortRun.apply c [] w) t) :
    let p := c.at 20 1
    p < 16 → (t.pctl p).getLsbD 0 = (c.at 21 1 == 1) ∧
    (c.at 21 1 = 1 → (w.port p).st = 0 → ctlMaster (w.pctl p) = false → (t.port p).st = 1) ∧
    (c.at 21 1 ≠ 1 → ((w.port p).st = 2 ∨ (w.port p).st = 3) → (t.port p).st = 4) := by
  intro p hp
  have ha : Aside (aPort p) := aside_aPort (o := 0) (by omega) (by decide)
  have hl : p < w.ports.port.length := hw.ports ▸ hp
  have hap : specPortRun.apply c [] w = if c.at 21 1 = 1 then w.portStart p else w.portStop p := by
    unfold specPortRun
    dsimp only
    exact if_neg (by decide)
  refine ⟨?_, fun h1 hs hm => ?_, fun h1 hs => ?_⟩
  · rw [State.pctl, h.reg _ ha, hap]
    by_cases h1 : c.at 21 1 = 1
    · rw [if_pos h1, State.reg_portStart w p ha, State.reg_raise_self, h1]
      simp
    · rw [if_neg h1, State.reg_portStop w p ha, State.lower, State.reg_setReg_self]
      simp [h1]
  · rw [h.portOf, hap, if_pos h1]
    unfold State.portStart
    dsimp only
    rw [if_neg (not_not_intro hs), hm, if_neg Bool.false_ne_true]
    exact State.st_portTo (w.raise ..) p 1 hl
  · rw [h.portOf, hap, if_neg h1]
    unfold State.portStop
    dsimp only
    rw [if_neg (by omega), if_pos hs]
    exact State.st_portTo _ p 4 ((State.ports_modPort ..).symm ▸ hl)

/-! ### Side-tone -/

theorem State.reg_sideAim (s : State) (r a : Nat) : (s.sideAim r).reg a = s.reg a := by
  unfold State.sideAim
  dsimp only
  split <;> rfl

theorem specSidetoneSet_acts {c : Cmd} {w t : State} (h : Tidied (specSidetoneSet.apply c [] w) t) :
    t.reg (aRoute (c.at 20 1)) = sideWord c ∧ t.reg (aRoute (c.at 20 1) + 4) = wordN (c.at 26 2) := by
  have hr : ∀ o < 16, t.reg (aRoute (c.at 20 1) + o) =
      ((w.setReg (aRoute (c.at 20 1)) (sideWord c)).setReg (aRoute (c.at 20 1) + 4) (wordN (c.at 26 2))).reg (aRoute (c.at 20 1) + o) :=
    fun o ho => (h.reg _ (aside_aRoute (c.at_lt 20 1) ho)).trans (State.reg_sideAim ..)
  refine ⟨(hr 0 (by decide)).trans ?_, (hr 4 (by decide)).trans (State.reg_setReg_self ..)⟩
  rw [State.reg_setReg_ne _ _ (by omega)]
  exact State.reg_setReg_self ..

/-! ### Power domains -/

theorem State.dom_setDom_self (s : State) {d : Nat} (v : Nat) (h : d < s.power.dom.length) : (s.setDom d v).dom d = v := by
  simp [State.dom, State.setDom, nth, h]

theorem specPwrDomainRetry_acts {c : Cmd} {w t : State} (hw : w.Shape) (h : Tidied (specPwrDomainRetry.apply c [] w) t)
    (hm : mayRetry w (c.at 20 1) = true) : t.dom (c.at 20 1) = 4 := by
  have ha : specPwrDomainRetry.apply c [] w = w.setDom (c.at 20 1) 4 := if_pos hm
  have hd : c.at 20 1 ≤ 10 := by
    simp only [mayRetry, Bool.and_eq_true, decide_eq_true_eq] at hm
    exact hm.1.2
  rw [State.dom, h.power, ha]
  exact State.dom_setDom_self _ _ (by rw [hw.dom]; omega)

end Sys2Proof.Machine

/-! The commands whose acceptance acts itself: a veto, and a request for a power state or an operating point (O60). -/

namespace Sys2Proof.Machine

/-! ### Accepting -/

theorem mem_commandRow_of_shaped {r : KcpRow} (h : r ∈ shapedRows) : r ∈ deferredRows ++ shapedRows ++ immediateRows :=
  List.mem_append_left _ (List.mem_append_right _ h)

theorem exec_shapedRow {r : KcpRow} (hr : r ∈ shapedRows) {p : Packet} {s : State} (hi : InOrder r.op p s)
    (ha : Admitted r.spec (toCmd r.op p) (s.received p)) (hp : Prepares r.spec (toCmd r.op p) (s.received p)) :
    exec (r.send p) s = .next ((s.received p).accepted r.spec (toCmd r.op p)) := by
  have hm := mem_commandRow_of_shaped hr
  rw [exec_commandRow r hm, kcpOp_inOrder hi (exempt_commandRow r hm), State.checked_prepares ha hp]

/-- A command that draws nothing is entered after what its acceptance enters. -/
theorem State.accepted_entries {s : State} {sp : OpSpec} {c : Cmd} (hs : sp.seeds c s.projected = []) :
    ∃ e, (s.accepted sp c).delta.entries = (sp.accept c s).2.delta.entries ++ [e] := by
  unfold State.accepted
  rw [hs]
  dsimp only
  exact ⟨_, by split <;> rfl⟩

theorem State.accepted_loupe {s : State} {sp : OpSpec} {c : Cmd} (hs : sp.seeds c s.projected = []) :
    (s.accepted sp c).loupe = (sp.accept c s).2.loupe := by
  unfold State.accepted
  rw [hs]
  dsimp only
  split <;> rfl

/-! ### Vetoes -/

/-- A veto leaves no action of its number, and marks the feed of a withdrawal. -/
theorem State.vetoAct_spec (s : State) (id : Nat) : mfind (s.vetoAct id).loupe.acts id = none ∧
    ∀ a, mfind s.loupe.acts id = some a → a.kind = 2 → ((s.vetoAct id).lf a.feed).vetoed = true := by
  unfold State.vetoAct
  cases h : mfind s.loupe.acts id with
  | none => exact ⟨h, fun a ha => nomatch ha⟩
  | some a =>
    dsimp only
    have hc : mfind (s.cancelAct id 0).loupe.acts id = none := by
      unfold State.cancelAct
      rw [h]
      dsimp only
      rw [State.event_loupe]
      exact mfind_mdel_self ..
    refine ⟨?_, fun b hb hk => ?_⟩
    · split <;> exact hc
    · obtain rfl := Option.some.inj hb
      rw [if_pos hk, State.lf_modLf_self]

/-! ### Power states -/

theorem dom_lt_of_toAsk {s : State} {t d : Nat} {l : List Nat} (h : toAsk s t = d :: l) : d < 11 := by
  have hall : ∀ x ∈ stopOrder, x < 11 := by decide
  exact hall d (List.mem_of_mem_filter (h ▸ List.mem_cons_self : d ∈ toAsk s t))

theorem dom_lt_of_toWake {s : State} {t d : Nat} {l : List Nat} (h : toWake s t = d :: l) : d < 11 := by
  have hall : ∀ x ∈ wakeOrder, x < 11 := by decide
  exact hall d (List.mem_of_mem_filter (h ▸ List.mem_cons_self : d ∈ toWake s t))

/-- An entry into a lower state asks its first domain to stop. -/
theorem State.pwrBegin_entry {s : State} (hs : s.Shape) (hj : s.power.job = none) {t d : Nat} {l : List Nat} (ht : s.power.st < t)
    (ha : toAsk s t = d :: l) :
    (s.pwrBegin t).dom d = 5 ∧ (s.pwrBegin t).power.job = some (.entry t (d :: l) [] false) := by
  have hb : s.pwrBegin t = ({ s with power := { s.power with target := t, wakeAfter := false } }).askNext t (d :: l) [] := by
    unfold State.pwrBegin
    dsimp only
    rw [if_neg (by simp [hj]), if_neg (by omega), if_pos ht]
    rw [show toAsk { s with power := { s.power with target := t, wakeAfter := false } } t = d :: l from ha]
  rw [hb]
  exact ⟨State.dom_setDom_self _ _ (hs.dom ▸ dom_lt_of_toAsk ha), rfl⟩

/-- A return wakes its first domain. -/
theorem State.pwrBegin_back {s : State} (hs : s.Shape) (hj : s.power.job = none) {t d : Nat} {l : List Nat} (ht : t < s.power.st)
    (ha : toWake s t = d :: l) : (s.pwrBegin t).dom d = 4 ∧ (s.pwrBegin t).power.job = some (.back t (d :: l) none) := by
  have hb : s.pwrBegin t =
      ((({ s with power := { s.power with target := t } } : State).setJob (some (.back t (d :: l) none))).setDom d 4) := by
    unfold State.pwrBegin
    dsimp only
    rw [if_neg (by simp [hj]), if_neg (by omega), if_neg (by omega)]
    rw [show toWake { s with power := { s.power with target := t } } t = d :: l from ha]
  rw [hb]
  exact ⟨State.dom_setDom_self _ _ (hs.dom ▸ dom_lt_of_toWake ha), rfl⟩

/-! ### Operating points -/

/-- A change of point commands its voltage: a lowering once the point has changed, a raising before it does. -/
theorem State.pointBegin_spec (s : State) {g : Nat} (hg : g ≤ 2) (hne : g ≠ s.power.point) :
    let y := s.pointBegin g
    y.power.voltCmd = g ∧ y.out = .pmbus 0x21 (pointMv g) :: s.out ∧
      (s.power.point < g → y.power.point = g ∧ y.power.job = some (.lowered g)) ∧
      (g < s.power.point → y.power.point = s.power.point ∧ y.power.job = some (.raising g)) := by
  unfold State.pointBegin
  rw [if_neg (by omega), if_neg hne]
  by_cases hl : s.power.point < g
  · rw [if_pos hl]
    exact ⟨rfl, rfl, fun _ => ⟨rfl, rfl⟩, fun h => absurd h (by omega)⟩
  · rw [if_neg hl]
    exact ⟨rfl, rfl, fun h => absurd h hl, fun _ => ⟨rfl, rfl⟩⟩

/-! ### The table of effects -/

/-- Each row of the table of effects on the device holds where its command's entry is applied. -/
theorem deviceEffect_holds : ∀ r ∈ deviceEffects, ∀ {c : Cmd} {w : State} (i q : Nat) (rcd : ReplyRec), w.Shape →
    r.does c w ((r.spec.apply c [] w).settle.mirror i q rcd) := by
  unfold deviceEffects
  simp only [List.forall_mem_cons, List.not_mem_nil, false_imp_iff, implies_true, and_true]
  exact ⟨fun i q rcd hw _ => specSysKernelLoad_acts hw i q rcd, fun i q rcd _ => specSysKernelRun_acts i q rcd,
    fun i q rcd _ => specSysKernelUnload_acts i q rcd, fun i q rcd _ => specLoupeZoneSet_acts (.settle _ i q rcd),
    fun i q rcd _ => specLoupeInputSet_acts (.settle _ i q rcd), fun i q rcd _ => specLoupeSync_acts (.settle _ i q rcd),
    fun i q rcd _ => specLoupeJobStart_acts (.settle _ i q rcd), fun i q rcd _ => specLoupeJobAbort_acts (.settle _ i q rcd),
    fun i q rcd _ => specLoupeLearn_acts (.settle _ i q rcd), fun i q rcd _ => specLoupeCompClear_acts (.settle _ i q rcd),
    fun i q rcd _ => specLoupeDerive_acts (.settle _ i q rcd), fun i q rcd hw => specNetportSet_acts hw (.settle _ i q rcd),
    fun i q rcd _ => (Tidied.settle _ i q rcd).setFlow, fun i q rcd _ => (Tidied.settle _ i q rcd).setFlow,
    fun i q rcd _ => specNetKcpSet_acts (.settle _ i q rcd), fun i q rcd hw => specPtpSet_acts hw (.settle _ i q rcd),
    fun i q rcd hw => specRefInputSet_acts hw (.settle _ i q rcd), fun i q rcd _ => specRefPrioritySet_acts (.settle _ i q rcd),
    fun i q rcd _ => specRefForce_acts (.settle _ i q rcd), fun i q rcd _ => specTriggerSet_acts (.settle _ i q rcd),
    fun i q rcd _ => specPortSet_acts (.settle _ i q rcd), fun i q rcd hw => specPortMask_acts hw (.settle _ i q rcd),
    fun i q rcd hw => specPortRun_acts hw (.settle _ i q rcd), fun i q rcd _ => specSidetoneSet_acts (.settle _ i q rcd),
    fun i q rcd hw => specPwrDomainRetry_acts hw (.settle _ i q rcd)⟩

/-- Settles O60: an admitted command that prepares is entered last and applied whole, and its row says what it then does; a veto acts as it
is accepted, and a power command's change stands in the delta before it. -/
theorem deviceCommandsTakeEffect : Obligations.DeviceCommandsTakeEffect := by
  refine ⟨?effects, ?veto, ?state, ?point⟩
  case effects =>
    intro r hr p s hi u c w ha hlater hparam hbusy hunits hwhole
    obtain ⟨v, e, hv, he, -, hx⟩ := (effectRow_tabled r (List.mem_append_right _ hr)).enters hi ha ⟨hlater, hparam, hbusy, hunits, hwhole⟩
    refine ⟨v, e, hv, he, fun x hs => ?_⟩
    obtain ⟨i, q, rcd, happly⟩ := hx x
    rw [happly]
    exact deviceEffect_holds r hr i q rcd hs
  case veto =>
    intro p s hi u c w ha hlater hparam hbusy hunits hwhole
    have hv := exec_shapedRow (r := ⟨0x0606, specLoupeVeto, .loupeVeto⟩) (by simp [shapedRows]) hi ha ⟨hlater, hparam, hbusy, hunits, hwhole⟩
    have hl : (u.accepted specLoupeVeto c).loupe = (u.vetoAct (c.at 20 2)).loupe := State.accepted_loupe rfl
    have hs : u.loupe = s.loupe := by
      simp only [u]
      rw [State.received_eq]
    obtain ⟨hnone, hmark⟩ := u.vetoAct_spec (c.at 20 2)
    refine ⟨_, hv, by rw [hl]; exact hnone, fun a hm hk => ?_⟩
    rw [State.lf, hl]
    exact hmark a (by rw [hs]; exact hm) hk
  case state =>
    intro p s hi u c w ha hlater hparam hbusy hunits hwhole t
    have hv := exec_shapedRow (r := ⟨0x0C00, specPwrState, .pwrState⟩) (by simp [shapedRows]) hi ha ⟨hlater, hparam, hbusy, hunits, hwhole⟩
    obtain ⟨e, he⟩ := State.accepted_entries (s := u) (sp := specPwrState) (c := c) rfl
    exact ⟨_, e, hv, he.trans (List.append_assoc ..), fun x hs hj => ⟨fun d l => State.pwrBegin_entry hs hj, fun d l => State.pwrBegin_back hs hj⟩⟩
  case point =>
    intro p s hi u c w ha hlater hparam hbusy hunits hwhole g
    have hv := exec_shapedRow (r := ⟨0x0C01, specPwrOppoint, .pwrOppoint⟩) (by simp [shapedRows]) hi ha ⟨hlater, hparam, hbusy, hunits, hwhole⟩
    obtain ⟨e, he⟩ := State.accepted_entries (s := u) (sp := specPwrOppoint) (c := c) rfl
    have hg : g ≤ 2 := by
      have hp : firstBad [(decide (g > 2), 20)] = none := hparam
      by_contra hn
      simp [firstBad, show g > 2 by omega] at hp
    exact ⟨_, e, hv, he.trans (List.append_assoc ..), fun x hne => x.pointBegin_spec hg hne⟩

end Sys2Proof.Machine

/-! Frames pass the MAC or are counted (O28). -/

namespace Sys2Proof.Machine

/-! ### What a ring's work leaves alone -/

/-- Only registers, counters and the memories' bytes differ. -/
def Stays (s t : State) : Prop := t = { s with regs := t.regs, cnts := t.cnts, mem := t.mem }

namespace Stays
variable {s0 s t : State}

theorem refl (s : State) : Stays s s := rfl

theorem trans (h : Stays s0 s) (k : Stays s t) : Stays s0 t := by
  unfold Stays at *
  exact k.trans (by rw [h])

theorem ite {c : Prop} [Decidable c] (hs : Stays s0 s) (ht : Stays s0 t) : Stays s0 (if c then s else t) := by
  split <;> assumption

theorem foldl {β : Type} {f : State → β → State} (hf : ∀ t b, Stays t (f t b)) (l : List β) (s : State) :
    Stays s (l.foldl f s) := by
  induction l generalizing s with
  | nil => exact .refl s
  | cons b l ih => exact (hf s b).trans (ih _)

theorem out (h : Stays s t) : t.out = s.out := by rw [h]
theorem kcp (h : Stays s t) : t.kcp = s.kcp := by rw [h]
theorem net (h : Stays s t) : t.net = s.net := by rw [h]
theorem np (h : Stays s t) (k : Nat) : t.np k = s.np k := by rw [State.np, h.net, State.np]

theorem setReg (s : State) (a : Nat) (w : Word) : Stays s (s.setReg a w) := rfl
theorem memWrite (s : State) (a : Nat) (bs : List Byte) : Stays s (s.memWrite a bs) := rfl
theorem count (s : State) (k n : Nat) : Stays s (s.count k n) := .ite (.refl s) rfl
theorem netCount (s : State) (k c n : Nat) : Stays s (s.netCount k c n) := .count ..
theorem netErr (s : State) (k bit : Nat) : Stays s (s.netErr k bit) := .setReg ..
theorem ringNext (s : State) (k r : Nat) : Stays s (s.ringNext k r) := .setReg ..

theorem descDone (s : State) (k r status ns tag : Nat) : Stays s (s.descDone k r status ns tag) :=
  .trans (.ite (.memWrite ..) (.refl s)) (.ringNext ..)

theorem fillRing (k r tag ns : Nat) (n : Nat) : ∀ (first : Bool) (bs : List Byte) (s : State) {t : State},
    fillRing k r tag ns first n bs s = some t → Stays s t := by
  induction n with
  | zero => exact fun _ _ _ _ h => nomatch h
  | succ n ih =>
    intro first bs s t h
    have hd := fun a now status => (Stays.memWrite s a now).trans (.descDone _ k r status ns tag)
    unfold Machine.fillRing at h
    extract_lets _ _ _ _ s1 at h
    split at h
    · exact Option.some.inj h ▸ hd ..
    · exact (hd ..).trans (ih _ _ _ h)

/-- A frame that a ring keeps changes registers, counters and memory. -/
theorem toRing {k r tag : Nat} {bs : List Byte} (h : (s.toRing k r tag bs).2 = true) : Stays s (s.toRing k r tag bs).1 := by
  unfold State.toRing at h ⊢
  dsimp only at h ⊢
  split at h
  · exact nomatch h
  · split at h
    · next s1 hf => exact (fillRing _ _ _ _ _ _ _ _ hf).trans (.netCount s1 k 0 1)
    · exact nomatch h

end Stays

/-! ### The checks of the MAC (R251, R252, R258) -/

/-- The FCS at the end of a frame is that of the bytes before it. -/
def FcsOk (bs : List Byte) : Prop := 4 ≤ bs.length ∧ leAt bs (bs.length - 4) 4 = (crc32eth (bs.take (bs.length - 4))).toNat

/-- A frame is no shorter than Ethernet's least and no longer than its port's longest. -/
def FrameFits (s : State) (k : Nat) (bs : List Byte) : Prop := 64 ≤ bs.length ∧ bs.length ≤ maxFrame s k

section Received
variable {s : State} {k : Fin 6} {bs : List Byte} (hup : (s.np k.val).up = true) (hon : s.netOn = true)
include hup hon

theorem exec_frameReceived_badFcs {y : Bool} (x m : Bool) (h : y = true ∨ ¬ FcsOk bs) :
    exec (.frameReceived k bs y x m) s = .next (s.netCount k.val 1) := by
  change (if _ then _ else if _ then _ else _ : Host.Outcome State Fault Refusal) = _
  rw [if_neg (by simp [hup, hon]), if_pos]
  unfold FcsOk at h
  simp only [Bool.or_eq_true, decide_eq_true_eq]
  obtain h | h := h
  · exact .inl (.inl h)
  · by_cases hn : bs.length < 4
    · exact .inl (.inr hn)
    · exact .inr fun he => h ⟨by omega, he⟩

theorem exec_frameReceived_badLength (x m : Bool) (hg : FcsOk bs) (h : ¬ FrameFits s k.val bs) :
    exec (.frameReceived k bs false x m) s = .next (s.netCount k.val 2) := by
  obtain ⟨hn, he⟩ := hg
  unfold FrameFits at h
  change (if _ then _ else if _ then _ else if _ then _ else _ : Host.Outcome State Fault Refusal) = _
  rw [if_neg (by simp [hup, hon]), if_neg (by simpa using ⟨hn, he⟩), if_pos (by simp; omega)]

/-- A frame of good length and FCS: what it says, and what room and filter it meets, decide. -/
theorem exec_frameReceived_whole (x m : Bool) (hg : FcsOk bs) (hf : FrameFits s k.val bs) :
    exec (.frameReceived k bs false x m) s =
      let f := parseFrame bs
      if m then Host.Outcome.next s
      else if f.etype = 0x8808 then
        if beAt f.body 0 2 = 1 then
          let held := (s.modNp k.val fun p => { p with pause := beAt f.body 2 2 }).netCount k.val 8
          .next (if beAt f.body 2 2 = 0 then held.resume k.val else held)
        else .next (s.netCount k.val 3)
      else if x then .next ((s.netCount k.val 4).netErr k.val 0)
      else if !addrPass s k.val f.dst || !vlanPass s k.val f then .next (s.netCount k.val 3)
      else .next (s.classify k f bs) := by
  obtain ⟨hn, he⟩ := hg
  obtain ⟨hlo, hhi⟩ := hf
  change (if _ then _ else if _ then _ else if _ then _ else _ : Host.Outcome State Fault Refusal) = _
  rw [if_neg (by simp [hup, hon]), if_neg (by simpa using ⟨hn, he⟩), if_neg (by simp; omega)]

end Received

/-! ### UDP datagrams (R253, R276) -/

/-- The frame carries a whole UDP datagram that is not PTP's, with its checksums right. -/
structure CarriesUdp (f : Frame) (p : Ipv4) : Prop where
  etype : f.etype = 0x0800
  ip : parseIp f = some p
  udp : p.proto = 17
  whole : p.frag = false
  sumOk : p.sumOk = true
  notEvent : (parseUdp p).2.1 ≠ 319
  notGeneral : (parseUdp p).2.1 ≠ 320
  udpSumOk : (parseUdp p).2.2.1 = true

section Classify
variable {s : State} {k : Fin 6} {f : Frame} {p : Ipv4} (h : CarriesUdp f p) (bs : List Byte)
include h

theorem State.classify_flow {e : Nat} (hl : lookup s k.val f p.dst (parseUdp p).2.1 = some e) :
    s.classify k f bs = s.flowFrame k.val e p bs := by
  unfold State.classify
  simp [h.etype, h.ip, h.udp, h.whole, h.notEvent, h.notGeneral, hl]

theorem State.classify_kcp (hl : lookup s k.val f p.dst (parseUdp p).2.1 = none) (hon : (s.reg (aNet k.val + 0x28)).getLsbD 16 = true)
    (hip : p.dst = unitIp s k.val) (hport : (parseUdp p).2.1 = (s.reg (aNet k.val + 0x28)).toNat % 65536) :
    s.classify k f bs = s.kcpFrame k p bs := by
  have hk : (wbit (s.reg (aNet k.val + 0x28)) 16 && p.dst == unitIp s k.val && (parseUdp p).2.1 == wbits (s.reg (aNet k.val + 0x28)) 0 16)
      = true := by
    rw [wbits_zero]
    simpa [wbit, hip, hport] using hon
  unfold State.classify
  simp [h.etype, h.ip, h.udp, h.whole, h.notEvent, h.notGeneral, hl, hk]

/-- The source filter of an entry lets a datagram's source pass. -/
theorem State.flowFrame_media {e : Nat} (hsrc : s.reg (aEntry e + 8) = 0 ∨ (s.reg (aEntry e + 8)).toNat = p.src)
    (hm : (entryCtl s e).getLsbD 8 = false) : s.flowFrame k.val e p bs =
      (s.netCount k.val 0).rtp (wbits (entryCtl s e) 0 8) (b2n ((entryCtl s e).getLsbD 16)) (parseUdp p).2.2.2 := by
  unfold State.flowFrame
  dsimp only
  rw [if_neg (by rintro ⟨h0, hne⟩; obtain hs | hs := hsrc <;> simp_all), if_neg (by simp [h.sumOk, h.udpSumOk]),
    if_neg (by rw [wbit, hm]; decide)]
  rfl

omit h in
theorem State.flowFrame_otherSource {e : Nat} (h0 : s.reg (aEntry e + 8) ≠ 0) (hne : (s.reg (aEntry e + 8)).toNat ≠ p.src) :
    s.flowFrame k.val e p bs = s.count (kFlow (wbits (entryCtl s e) 0 8) 8) :=
  if_pos ⟨fun hz => h0 (BitVec.eq_of_toNat_eq hz), hne⟩

/-- A packet that ring 1 keeps waits for Ganen with its sender. -/
theorem State.kcpFrame_rx (hr : (s.toRing k.val 1 0xFFFF bs).2 = true) : (s.kcpFrame k p bs).kcp.rx =
    s.kcp.rx ++ [(.udp k (wordN p.src) (BitVec.ofNat 16 (parseUdp p).1), (parseUdp p).2.2.2)] := by
  unfold State.kcpFrame
  dsimp only
  rw [if_neg (by simp [h.sumOk, h.udpSumOk]), if_pos hr]
  dsimp only
  rw [(Stays.toRing hr).kcp]

end Classify

/-- Settles O28: a frame that fails its FCS or its length is counted first; of a whole one, its kind, the room and the filter decide, and
a UDP datagram goes by the flow table or to KCP's ring. -/
theorem framesPassTheMac : Obligations.FramesPassTheMac := by
  unfold Obligations.FramesPassTheMac
  intro k bs s hup hon f n good fits kept
  have hwhole := fun x m (hg : good) (hf : fits) => exec_frameReceived_whole hup hon x m hg hf
  refine ⟨fun y x m h => exec_frameReceived_badFcs hup hon x m h, fun x m => exec_frameReceived_badLength hup hon x m,
    fun x hg hf => hwhole x true hg hf, fun x hg hf he h1 => ?pause, fun hg hf he => ?full, fun hg hf he hk => ?filtered,
    fun p e hg hf he hk hp hproto hfrag hsum h319 h320 husum => ?udp⟩
  case pause => exact (hwhole x false hg hf).trans ((if_neg Bool.false_ne_true).trans ((if_pos he).trans (if_pos h1)))
  case full => exact (hwhole true false hg hf).trans ((if_neg Bool.false_ne_true).trans ((if_neg he).trans (if_pos rfl)))
  case filtered =>
    refine (hwhole false false hg hf).trans ((if_neg Bool.false_ne_true).trans ((if_neg he).trans ((if_neg Bool.false_ne_true).trans
      (if_pos ?_))))
    simpa [kept, Classical.or_iff_not_imp_left] using hk
  case udp =>
    have hc : CarriesUdp f p := ⟨he, hp, hproto, hfrag, hsum, h319, h320, husum⟩
    have hother : f.etype ≠ 0x8808 := by rw [he]; decide
    have hcl : exec (.frameReceived k bs false false false) s = .next (s.classify k f bs) :=
      (hwhole false false hg hf).trans ((if_neg Bool.false_ne_true).trans ((if_neg hother).trans ((if_neg Bool.false_ne_true).trans
        (if_neg (by simpa [kept] using hk)))))
    rw [hcl]
    refine ⟨fun hl hsrc hm => ?_, fun hl h0 hne => ?_, fun hl hr hip hport hkept => ⟨_, rfl, ?_⟩⟩
    · rw [State.classify_flow hc bs hl, State.flowFrame_media hc bs hsrc hm]
    · rw [State.classify_flow hc bs hl, State.flowFrame_otherSource bs h0 hne]
    · rw [State.classify_kcp hc bs hl hr hip hport, State.kcpFrame_rx hc bs hkept]

end Sys2Proof.Machine

/-! A flow's packets reach their place (O29). -/

namespace Sys2Proof.Machine

/-! ### Fields of a datagram -/

/-- A field lies in the bytes in front. -/
theorem beAt_of_take {a b : List Byte} {m o n : Nat} (h : a.take m = b.take m) (hn : o + n ≤ m) : beAt a o n = beAt b o n := by
  have ht : ∀ l : List Byte, slice l o n = slice (l.take m) o n := fun l => by
    rw [slice, slice, List.drop_take, List.take_take, Nat.min_eq_left (by omega)]
  rw [beAt, beAt, ht a, ht b, h]

/-! ### The header (R263) -/

/-- The datagram has its flow's header and length. -/
def RtpOk (s : State) (f : Nat) (b : List Byte) : Prop :=
  12 ≤ b.length ∧ beAt b 0 1 / 64 = 2 ∧ beAt b 0 1 / 16 % 2 = 0 ∧ beAt b 0 1 % 16 = 0 ∧ beAt b 1 1 % 128 = (s.flow f).ptype ∧
    b.length = 12 + rtpBytes s.render.rate96 (s.flow f)

section Rtp
variable {s : State} {f : Nat} (path : Nat) {b : List Byte}

theorem State.rtp_otherHeader (h : ¬ RtpOk s f b) : s.rtp f path b = s.count (kFlow f 7) := by
  unfold State.rtp
  refine if_pos ?_
  unfold RtpOk at h
  by_contra hc
  simp only [Bool.or_eq_true, decide_eq_true_eq, beq_iff_eq, not_or, not_lt, not_not] at hc
  obtain ⟨⟨⟨⟨⟨hn, hv⟩, hx⟩, hcc⟩, hpt⟩, hlen⟩ := hc
  exact h ⟨hn, hv, by omega, hcc, hpt, by omega⟩

theorem State.rtp_ok (h : RtpOk s f b) :
    s.rtp f path b = s.depacket f path (s.flow f) (beAt b 2 2) (beAt b 4 4) (b.drop 12) := by
  obtain ⟨hn, hv, hx, hcc, hpt, hlen⟩ := h
  unfold State.rtp
  refine if_neg ?_
  simp only [Bool.or_eq_true, decide_eq_true_eq, beq_iff_eq, not_or, not_lt, not_not]
  exact ⟨⟨⟨⟨⟨hn, hv⟩, by omega⟩, hcc⟩, hpt⟩, by omega⟩

/-- R263: no byte of the SSRC is looked at. -/
theorem State.rtp_ssrc {b' : List Byte} (hlen : b'.length = b.length) (hhead : b'.take 8 = b.take 8) (hdata : b'.drop 12 = b.drop 12) :
    s.rtp f path b' = s.rtp f path b := by
  have hat : ∀ {o n}, o + n ≤ 8 → beAt b' o n = beAt b o n := beAt_of_take hhead
  unfold State.rtp
  rw [hlen, hat (o := 0) (by decide), hat (o := 1) (by decide), hat (o := 2) (by decide), hat (o := 4) (by decide), hdata]

end Rtp

/-! ### A flow of one path (R264, R265) -/

theorem pktSamples_pos (rate96 : Bool) (w : Flow) : 0 < pktSamples rate96 w := by
  have h : 0 < nth 6 [6, 12, 16, 48] w.pt := by
    unfold nth
    rcases hw : w.pt with _ | _ | _ | _ | n <;> simp
  unfold pktSamples
  split <;> omega

/-- The first sample number of a packet with timestamp `ts`. -/
def pktFirst (s : State) (w : Flow) (ts : Nat) : Nat := nearestMod (2 ^ 32) ts s.sampleNow + linkFloor s w

/-- The state once flow `f` has noted a packet of a number that it has not seen, `first` its first sample number. -/
def State.noted (s : State) (f path q first : Nat) : State :=
  (s.pathSeen f path).recSeen f (extendSeq (s.flowRt f) q).1 first (extendSeq (s.flowRt f) q).2

theorem State.noted_render (s : State) (f path q first : Nat) : (s.noted f path q first).render = s.render :=
  State.count_render ..

theorem State.noted_count_cnts (s : State) (f path q first k : Nat) :
    ((s.noted f path q first).count k).cnts = ((s.pathSeen f path).count k).cnts := rfl

section Depacket
variable {s : State} {f path q ts : Nat} {w : Flow} {pl : List Byte} (hsec : w.sec = 0xFF)
include hsec

/-- A packet of a flow with one path is no further copy. -/
theorem State.depacket_single : s.depacket f path w q ts pl =
    let first := pktFirst s w ts
    let n := pktSamples s.render.rate96 w
    let s2 := s.noted f path q first
    if first + n - 1 ≥ s.openSample + depth s w then s2.count (kFlow f 6)
    else
      let s3 := if first < s.openSample then s2.count (kFlow f 5) else s2
      if first + n ≤ s.openSample then s3 else (s3.placeAll w f first n pl).recPlaced f path (extendSeq (s.flowRt f) q).1 :=
  if_neg (by simp [hsec])

theorem State.depacket_early (h : s.openSample + depth s w ≤ pktFirst s w ts + pktSamples s.render.rate96 w - 1) :
    s.depacket f path w q ts pl = (s.noted f path q (pktFirst s w ts)).count (kFlow f 6) :=
  (State.depacket_single hsec).trans (if_pos h)

theorem State.depacket_late (h : pktFirst s w ts + pktSamples s.render.rate96 w ≤ s.openSample) :
    s.depacket f path w q ts pl = (s.noted f path q (pktFirst s w ts)).count (kFlow f 5) := by
  have hn := pktSamples_pos s.render.rate96 w
  exact (State.depacket_single hsec).trans ((if_neg (by omega)).trans ((if_pos h).trans (if_pos (by omega))))

theorem State.depacket_placed (ho : s.openSample ≤ pktFirst s w ts)
    (hd : pktFirst s w ts + pktSamples s.render.rate96 w - 1 < s.openSample + depth s w) :
    s.depacket f path w q ts pl = ((s.noted f path q (pktFirst s w ts)).placeAll w f (pktFirst s w ts) (pktSamples s.render.rate96 w)
      pl).recPlaced f path (extendSeq (s.flowRt f) q).1 := by
  have hn := pktSamples_pos s.render.rate96 w
  rw [State.depacket_single hsec]
  dsimp only
  rw [if_neg (by omega), if_neg (by omega), if_neg (by omega)]

end Depacket

/-! ### Samples reach their place (R264) -/

/-- What no step changes is at the end as it was. -/
theorem foldl_unchanged {α β σ : Type} (o : σ → α) {step : σ → β → σ} (h : ∀ s b, o (step s b) = o s) (l : List β)
    (s : σ) : o (l.foldl step s) = o s := by
  induction l generalizing s with
  | nil => rfl
  | cons b l ih => exact (ih _).trans (h s b)

/-- What is held for sample number `x` of channel `ch` of flow `f`. -/
def sampleAt (m : SMap (SMap Int)) (f ch x : Nat) : Int := mget 0 (mget [] m (flowSource f ch)) x

/-- Sample `k` of channel `ch` in a packet's payload. -/
def pktSample (w : Flow) (pl : List Byte) (k ch : Nat) : Int := sampleOf w (pl.drop ((k * w.ch + ch) * smpBytes w))

section Place
variable (w : Flow) (f first : Nat) (pl : List Byte)

theorem sampleAt_placeOne_self (k ch : Nat) (m : SMap (SMap Int)) :
    sampleAt (placeOne w f first pl k ch m) f ch (first + k) = pktSample w pl k ch := by
  rw [sampleAt, placeOne, mget_mmod_self, mget_mset_self, pktSample]

theorem sampleAt_placeOne_ne {k ch j c : Nat} (h : j ≠ k ∨ c ≠ ch) (m : SMap (SMap Int)) :
    sampleAt (placeOne w f first pl k ch m) f c (first + j) = sampleAt m f c (first + j) := by
  unfold sampleAt placeOne
  by_cases hc : c = ch
  · subst hc
    rw [mget_mmod_self, mget_mset_ne _ _ _ (by omega)]
  · rw [mget_mmod_ne _ _ _ (by unfold flowSource; omega)]

/-- Every channel's sample `k` reaches its place. -/
def placeRow (m : SMap (SMap Int)) (k : Nat) : SMap (SMap Int) :=
  (List.range w.ch).foldl (fun m ch => placeOne w f first pl k ch m) m

theorem sampleAt_placeRow_self {ch : Nat} (h : ch < w.ch) (k : Nat) (m : SMap (SMap Int)) :
    sampleAt (placeRow w f first pl m k) f ch (first + k) = pktSample w pl k ch := by
  have hf := foldl_named (o := fun m ch => sampleAt m f ch (first + k) = pktSample w pl k ch) (g := fun _ => True) (fun _ => rfl)
    (fun m ch => eq_true (sampleAt_placeOne_self w f first pl k ch m))
    (fun m ch c hc => by rw [sampleAt_placeOne_ne w f first pl (.inr hc)]) (List.range w.ch) m ch
  rw [if_pos (List.mem_range.mpr h)] at hf
  exact of_eq_true hf

theorem sampleAt_placeRow_ne {k j : Nat} (h : j ≠ k) (ch : Nat) (m : SMap (SMap Int)) :
    sampleAt (placeRow w f first pl m k) f ch (first + j) = sampleAt m f ch (first + j) :=
  foldl_unchanged (sampleAt · f ch (first + j)) (fun m _ => sampleAt_placeOne_ne w f first pl (.inl h) m) _ m

/-- A packet whose windows are all open puts each of its samples in its place. -/
theorem State.placeAll_sampleAt {s : State} {n j ch : Nat} (ho : s.openSample ≤ first) (hj : j < n) (hch : ch < w.ch) :
    sampleAt (s.placeAll w f first n pl).render.playout f ch (first + j) = pktSample w pl j ch := by
  have hall : ((List.range n).filter fun k => first + k ≥ s.openSample) = List.range n :=
    List.filter_eq_self.mpr fun k _ => decide_eq_true (by omega)
  have hp : (s.placeAll w f first n pl).render.playout = (List.range n).foldl (placeRow w f first pl) s.render.playout :=
    congrArg (List.foldl (placeRow w f first pl) s.render.playout) hall
  have hf := foldl_named (o := fun m j => sampleAt m f ch (first + j) = pktSample w pl j ch) (g := fun _ => True) (fun _ => rfl)
    (fun m k => eq_true (sampleAt_placeRow_self w f first pl hch k m))
    (fun m k j hj => by rw [sampleAt_placeRow_ne w f first pl hj]) (List.range n) s.render.playout j
  rw [if_pos (List.mem_range.mpr hj)] at hf
  rw [hp]
  exact of_eq_true hf

end Place

/-- Settles O29: a packet of a flow with one path is no further copy, so its place alone decides: early, late, or kept sample by sample. -/
theorem packetsReachTheirPlace : Obligations.PacketsReachTheirPlace := by
  unfold Obligations.PacketsReachTheirPlace
  intro s f path b w n first good
  refine ⟨State.rtp_otherHeader path, fun hg hsec => ?_, fun b' => State.rtp_ssrc path⟩
  rw [State.rtp_ok path hg]
  refine ⟨fun h => ?early, fun h => ?late, fun ho hd ch hch j hj => ?placed⟩
  case early =>
    rw [State.depacket_early hsec h]
    exact ⟨State.noted_count_cnts .., (State.count_render ..).trans (State.noted_render ..)⟩
  case late =>
    rw [State.depacket_late hsec h]
    exact ⟨State.noted_count_cnts .., (State.count_render ..).trans (State.noted_render ..)⟩
  case placed =>
    have ho' : (s.noted f path (beAt b 2 2) first).openSample ≤ first := by
      rw [State.openSample, State.noted_render]
      exact ho
    have hp := State.placeAll_sampleAt w f first (b.drop 12) ho' hj hch
    rw [pktSample, List.drop_drop] at hp
    rw [State.depacket_placed hsec ho hd]
    exact hp

end Sys2Proof.Machine

/-! Links come and go (O31). -/

namespace Sys2Proof.Machine

/-! ### What the loss of a link leaves alone (R250) -/

namespace Stays

theorem dropMedia (s : State) (f k : Nat) : Stays s (s.dropMedia f k) := ((Stays.netCount s k 7 1).trans (.netErr ..)).trans (.count ..)

theorem returnUnsent (k r n : Nat) : ∀ s : State, Stays s (returnUnsent k r n s) := by
  induction n with
  | zero => exact .refl
  | succ n ih => exact fun s => (Stays.trans (.ite (.memWrite ..) (.refl s)) (.ringNext ..)).trans (ih _)

theorem unsent (s : State) (k : Nat) : Stays s (s.unsent k) := (returnUnsent ..).trans (.returnUnsent ..)

end Stays

/-- No session has subscribed to events of the network. -/
def Unheard (s : State) : Prop := ∀ x < 8, (s.sess x).mask.testBit 7 = false

theorem Unheard.of_kcp {s t : State} (h : Unheard s) (hk : t.kcp = s.kcp) : Unheard t := fun x hx => by
  rw [State.sess, hk]
  exact h x hx

/-- With no session to hear it, a change of a link sends no event. -/
theorem State.netLink_unheard {s : State} (h : Unheard s) (k : Nat) : s.netLink k = s :=
  (congrArg (ite _ s) (s.eventAny_none _ _ fun x hx => by rw [h x hx, Bool.and_false])).trans (ite_self s)

/-- A port as the loss of its link leaves it: nothing waits there, and no pause holds it. -/
def NetPort.lost (p : NetPort) : NetPort :=
  { p with up := false, pause := 0, preempt := 0, wait := [], own := [], pausing := false, sending := none }

/-- What waits for a port is dropped, its rings are returned unsent, and the loss is counted and marked. -/
def State.linkLost (s : State) (k : Nat) : State :=
  ((((s.np k).wait.foldl (fun s e => s.dropMedia e.1 k) (s.modNp k NetPort.lost)).unsent k).netCount k 11).netErr k 2

theorem State.linkLost_stays (s : State) (k : Nat) : Stays (s.modNp k NetPort.lost) (s.linkLost k) :=
  (((Stays.foldl (fun t _ => .dropMedia t _ k) _ _).trans (.unsent ..)).trans (.netCount ..)).trans (.netErr ..)

theorem State.linkDown_of_up {s : State} {k : Nat} (hup : (s.np k).up = true) (h : Unheard s) : s.linkDown k = s.linkLost k :=
  (if_neg (by simp [hup])).trans (State.netLink_unheard (h.of_kcp (s.linkLost_stays k).kcp) k)

theorem State.linkDown_of_down {s : State} {k : Nat} (h : (s.np k).up = false) : s.linkDown k = s := if_pos (by simp [h])

section Lost
variable {s : State} {k : Nat} (hk : k < s.net.port.length)
include hk

theorem State.np_linkLost_self : (s.linkLost k).np k = (s.np k).lost := by
  rw [(s.linkLost_stays k).np, State.np_modNp_self _ _ _ hk]

omit hk in
theorem State.np_linkLost_ne {j : Nat} (h : j ≠ k) : (s.linkLost k).np j = s.np j := by
  rw [(s.linkLost_stays k).np, State.np_modNp_ne _ _ h]

/-- After a loss a port is down, and as many ports are there as were. -/
theorem State.linkDown_isDown (h : Unheard s) : ((s.linkDown k).np k).up = false ∧ k < (s.linkDown k).net.port.length := by
  by_cases hup : (s.np k).up = true
  · rw [State.linkDown_of_up hup h, State.np_linkLost_self hk, (s.linkLost_stays k).net]
    exact ⟨rfl, by simpa [State.modNp] using hk⟩
  · have hd : (s.np k).up = false := by simpa using hup
    rw [State.linkDown_of_down hd]
    exact ⟨hd, hk⟩

/-- A port that returns to 25 Gb/s is down and retrains (R272). -/
theorem State.np_speedBack (h : Unheard s) (hr : (s.np k).reduced = true) :
    ((s.speedBack k).np k).reduced = false ∧ ((s.speedBack k).np k).restoring = true ∧ ((s.speedBack k).np k).up = false := by
  obtain ⟨hd, hl⟩ := State.linkDown_isDown hk h
  have hs : s.speedBack k = (s.linkDown k).modNp k fun p => { p with reduced := false, restoring := true } := if_pos hr
  rw [hs, State.np_modNp_self _ _ _ hl]
  exact ⟨rfl, rfl, hd⟩

end Lost

/-! ### Each event of a link -/

section Events
variable {s : State}

theorem exec_linkUp {k : Fin 6} (hup : (s.np k.val).up = false) (hc : (s.reg (aNet k.val)).getLsbD 0 = true) (hon : s.netOn = true)
    (h : Unheard s) : exec (.linkUp k) s =
      .next ((s.modNp k.val fun p => { p with up := true, restoring := false }).preemptStart k.val) := by
  change (if _ then _ else _ : Host.Outcome State Fault Refusal) = _
  rw [if_neg (by simpa [hup, hon, netCtl, wbit] using hc), State.netLink_unheard]
  exact h.of_kcp rfl

/-- Verification begins where the port is a media port with PREEMPT set and its link up (R257). -/
theorem State.preempt_preemptStart {k : Nat} (hk : k < s.net.port.length) (hup : (s.np k).up = true) :
    (s.preemptStart k).np k = { s.np k with preempt := if k < 4 ∧ (s.reg (aNet k)).getLsbD 24 = true then 1 else 0 } := by
  rw [State.preemptStart, State.np_modNp_self _ _ _ hk]
  simp [hup, isMedia, netCtl, wbit]

theorem exec_preemptVerifyDone {k : Fin 4} (h : (s.np k.val).preempt = 1) :
    exec (.preemptVerifyDone k true) s = .next (s.modNp k.val fun p => { p with preempt := 2 }) ∧
    exec (.preemptVerifyDone k false) s = .next ((s.modNp k.val fun p => { p with preempt := 3 }).netErr k.val 4) :=
  ⟨(if_neg (not_not_intro h)).trans (if_pos rfl), (if_neg (not_not_intro h)).trans (if_neg Bool.false_ne_true)⟩

theorem exec_speedReduction {k : Fin 4} (hlp : (s.reg (aNet k.val)).getLsbD 25 = true) (hup : (s.np k.val).up = true)
    (hc : speedCode s k.val = 3) (hi : portInUse s k.val = false) :
    exec (.speedReduction k) s = .next ((s.linkDown k.val).modNp k.val fun p => { p with reduced := true }) :=
  if_pos (by simpa [netCtl, wbit, hup, hc, hi] using hlp)

theorem exec_lpFail {k : Fin 4} (hr : (s.np k.val).reduced = true) (hup : (s.np k.val).up = false) :
    exec (.lpFail k) s = .next (((s.speedBack k.val).lower (aNet k.val) 0x2000000).netErr k.val 3) :=
  if_pos (by simp [hr, hup])

end Events

theorem State.Shape.np_lt {s : State} (h : s.Shape) {k : Nat} (hk : k < 6) : k < s.net.port.length := by
  obtain ⟨-, -, -, -, -, hp, -⟩ := h
  omega

/-- Settles O31: a link's loss drops what waits by `State.linkLost`, and the other events change the port alone. -/
theorem linksComeAndGo : Obligations.LinksComeAndGo := by
  unfold Obligations.LinksComeAndGo
  intro s hs (h : Unheard s)
  have hl : ∀ k : Fin 6, k.val < s.net.port.length := fun k => hs.np_lt k.isLt
  have hl4 : ∀ k : Fin 4, k.val < s.net.port.length := fun k => hs.np_lt (by omega)
  refine ⟨fun k hup hc hon => ⟨_, exec_linkUp hup hc hon h, ?up⟩,
    fun k hup => ⟨_, congrArg Host.Outcome.next (State.linkDown_of_up hup h), ?down⟩, fun k => exec_preemptVerifyDone,
    fun k hlp hup hc hi => ⟨_, exec_speedReduction hlp hup hc hi, ?reduce⟩, fun k hr => ⟨_, rfl, State.np_speedBack (hl4 k) h hr⟩,
    fun k hr hup => ⟨_, exec_lpFail hr hup, ?fail⟩, fun k on => ⟨_, rfl, ?module⟩⟩
  case up =>
    have hn := s.np_modNp_self k.val (fun p => { p with up := true, restoring := false }) (hl k)
    have hp := State.preempt_preemptStart (s := s.modNp k.val fun p => { p with up := true, restoring := false }) (k := k.val)
      ((State.netPorts_modNp ..).symm ▸ hl k) (by rw [hn])
    rw [hp, hn]
    refine ⟨rfl, rfl, rfl, fun j hj => ?_, rfl⟩
    rw [State.preemptStart, State.np_modNp_ne _ _ hj, State.np_modNp_ne _ _ hj]
  case down =>
    rw [State.np_linkLost_self (hl k)]
    refine ⟨rfl, rfl, rfl, rfl, rfl, ?_, (s.linkLost_stays k).out, fun j => State.np_linkLost_ne⟩
    rw [State.linkLost, State.netErr, State.reg_raise_self]
    simp [wordN]
  case reduce =>
    obtain ⟨hd, hk⟩ := State.linkDown_isDown (hl4 k) h
    rw [State.np_modNp_self _ _ _ hk]
    exact ⟨rfl, hd⟩
  case fail =>
    obtain ⟨hr', -, -⟩ := State.np_speedBack (hl4 k) h hr
    refine ⟨hr', ?_, ?_⟩
    · rw [State.netErr, State.reg_raise_ne _ _ (by omega), State.lower, State.reg_setReg_self]
      simp
    · rw [State.netErr, State.reg_raise_self]
      simp [wordN]
  case module => split <;> exact ⟨rfl, rfl⟩

end Sys2Proof.Machine

/-! Packets and frames leave (O30). -/

namespace Sys2Proof.Machine

/-! ### Media packets (R269 to R271) -/

/-- A media packet that a port drops is marked there. -/
theorem State.dropMedia_marked (s : State) (f k : Nat) : ((s.dropMedia f k).reg (aNet k + 8)).getLsbD 5 = true := by
  rw [State.dropMedia, reg_congr (State.count_regs ..), State.netErr, State.reg_raise_self]
  simp [wordN]

/-- A media packet that leaves does so alike in both states: no register, flow or time differs, and no port's TTL. -/
structure SendsAlike (s t : State) : Prop where
  eq : t = { s with cnts := t.cnts, out := t.out, net := { s.net with port := t.net.port } }
  ttl : ∀ k, (t.np k).ttl = (s.np k).ttl

/-- A change of port `k` that keeps `g` of every port keeps it. -/
theorem State.np_modNp_same {α : Type} {g : NetPort → α} {h : NetPort → NetPort} (hg : ∀ p, g (h p) = g p) (s : State) (k j : Nat) :
    g ((s.modNp k h).np j) = g (s.np j) := by
  by_cases hj : j = k
  · subst hj
    by_cases hl : j < s.net.port.length
    · rw [State.np_modNp_self _ _ _ hl, hg]
    · rw [State.modNp, List.modify_eq_self (by omega)]
  · rw [State.np_modNp_ne _ _ hj]

namespace SendsAlike
variable {s0 s t : State}

theorem refl (s : State) : SendsAlike s s := ⟨rfl, fun _ => rfl⟩

theorem trans (h : SendsAlike s0 s) (k : SendsAlike s t) : SendsAlike s0 t :=
  ⟨k.eq.trans (by rw [h.eq]), fun j => (k.ttl j).trans (h.ttl j)⟩

theorem modNp (s : State) (k : Nat) {f : NetPort → NetPort} (hf : ∀ p, (f p).ttl = p.ttl) : SendsAlike s (s.modNp k f) :=
  ⟨rfl, State.np_modNp_same hf s k⟩

theorem sending (s : State) (k : Nat) (x : Option (Nat × Nat)) : SendsAlike s (s.modNp k fun q => { q with sending := x }) :=
  .modNp s k fun _ => rfl

theorem emit (s : State) (o : OutMsg) : SendsAlike s (s.emit o) := ⟨rfl, fun _ => rfl⟩
theorem count (s : State) (k n : Nat) : SendsAlike s (s.count k n) := by
  unfold State.count
  split
  · exact .refl s
  · exact ⟨rfl, fun _ => rfl⟩

theorem netCount (s : State) (k c n : Nat) : SendsAlike s (s.netCount k c n) := .count ..

theorem sendMedia (s : State) (f k mac : Nat) (p : TxPkt) : SendsAlike s (s.sendMedia f k mac p) :=
  (((sending s k _).trans (.emit ..)).trans (.netCount ..)).trans (.count ..)

variable (h : SendsAlike s t)
include h

theorem gate : t.gate = s.gate := by rw [h.eq]; rfl
theorem flow (f : Nat) : t.flow f = s.flow f := by rw [h.eq]; rfl
theorem isLate (e : Nat × TxPkt) : isLate t e = isLate s e := by rw [h.eq]; rfl

theorem mediaFrame (k : Nat) (w : Flow) (mac : Nat) (p : TxPkt) : mediaFrame t k w mac p = mediaFrame s k w mac p := by
  have hr : t.regs = s.regs := by rw [h.eq]
  unfold Machine.mediaFrame
  simp only [svcMac, svcIp, reg_congr hr, h.ttl]

end SendsAlike

@[simp] theorem State.sendMedia_out (s : State) (f k mac : Nat) (p : TxPkt) :
    (s.sendMedia f k mac p).out = .media f k (mediaFrame s k (s.flow f) mac p) :: s.out := by
  rw [State.sendMedia, State.count_out, State.netCount, State.count_out]
  rfl

section Offer
variable {s : State} {f k : Nat} (p : TxPkt)

theorem destMac_group (hm : isMulticast (s.flow f).dst = true) : destMac s f k = some (groupMac (s.flow f).dst) := if_pos hm

theorem State.offer_gated (h : s.gate = false) : s.offer f p = s := if_pos (by simp [h])

/-- Through an open gate a packet of a flow with one path is offered to its port. -/
theorem State.offer_single (h : s.gate = true) (hsec : (s.flow f).sec = 0xFF) : s.offer f p = s.offerMedia f (s.flow f).prim p := by
  unfold State.offer
  rw [if_neg (by simp [h]), flowPorts_single hsec]
  rfl

section Group
variable (hm : isMulticast (s.flow f).dst = true)
include hm

theorem State.offerMedia_open (hup : (s.np k).up = true) (hon : s.netOn = true) (hp : (s.np k).pause = 0) :
    s.offerMedia f k p = s.sendMedia f k (groupMac (s.flow f).dst) p := by
  unfold State.offerMedia
  simp [destMac_group hm, hup, hon, hp]

theorem State.offerMedia_paused (hup : (s.np k).up = true) (hon : s.netOn = true) (hp : (s.np k).pause ≠ 0) :
    s.offerMedia f k p = s.modNp k fun q => { q with wait := q.wait ++ [(f, p)] } := by
  unfold State.offerMedia
  simp [destMac_group hm, hup, hon, hp]

theorem State.offerMedia_down (hup : (s.np k).up = false) : s.offerMedia f k p = s.dropMedia f k := by
  unfold State.offerMedia
  simp [destMac_group hm, hup]

end Group

theorem State.offerMedia_rt (s : State) (f k : Nat) (p : TxPkt) : (s.offerMedia f k p).net.rt = s.net.rt := by
  unfold State.offerMedia
  split
  · rw [State.count_net]
  · split
    · rw [(Stays.dropMedia ..).net]
    · split
      · rfl
      · rw [(SendsAlike.sendMedia ..).eq]

theorem State.offer_flowRt (s : State) (f : Nat) (p : TxPkt) (x : Nat) : (s.offer f p).flowRt x = s.flowRt x := by
  have hr : (s.offer f p).net.rt = s.net.rt := by
    unfold State.offer
    split
    · rfl
    · exact foldl_unchanged (·.net.rt) (fun t k => t.offerMedia_rt f k p) _ s
  rw [State.flowRt, hr, State.flowRt]

end Offer

/-! ### The packet of an interval (R269) -/

/-- The flow's record once the packet of interval `i` is built. -/
def FlowRt.built (r : FlowRt) (i : Nat) (p : TxPkt) : FlowRt := { r with seq := (r.seq + 1) % 2 ^ 16, done := some i, pkt := some p }

theorem exec_packetTransmit {s : State} {f : Fin 256} {i : Nat}
    (hi : i = s.sampleNow / pktSamples s.render.rate96 (s.flow (256 + f.val)) - 1) (he : (s.flow (256 + f.val)).enable = true)
    (hr : s.render.run = true ∨ s.render.changing = true)
    (hsince : (s.flowRt (256 + f.val)).since ≤ i * pktSamples s.render.rate96 (s.flow (256 + f.val)))
    (hdone : ∀ d, (s.flowRt (256 + f.val)).done = some d → d < i) : exec (.packetTransmit f) s =
      let p := buildPkt s (256 + f.val) i
      .next ((s.modFlowRt (256 + f.val) fun r => r.built i p).offer (256 + f.val) p) := by
  subst hi
  refine if_neg ?_
  generalize s.sampleNow / pktSamples s.render.rate96 (s.flow (256 + f.val)) - 1 = i at hsince hdone ⊢
  cases hd : (s.flowRt (256 + f.val)).done with
  | none => simpa [he, hsince, Decidable.or_iff_not_imp_left] using hr
  | some d => simpa [he, hsince, Decidable.or_iff_not_imp_left] using And.intro (hdone d hd) hr

/-- What a flow's packet does at its instant, its record kept. -/
theorem packetTransmit_spec {s : State} {f : Fin 256} {k i : Nat} (hsec : (s.flow (256 + f.val)).sec = 0xFF)
    (hk : (s.flow (256 + f.val)).prim = k) :
    let x := 256 + f.val
    let w := s.flow x
    let p := buildPkt s x i
    let t := (s.modFlowRt x fun r => r.built i p).offer x p
    (t.flowRt x).seq = ((s.flowRt x).seq + 1) % 2 ^ 16 ∧ (t.flowRt x).done = some i ∧
      (s.gate = false → t.out = s.out) ∧
      (s.gate = true → isMulticast w.dst = true → s.netOn = true → (s.np k).up = true → (s.np k).pause = 0 →
        t.out = .media x k (mediaFrame s k w (groupMac w.dst) p) :: s.out) ∧
      (s.gate = true → isMulticast w.dst = true → s.netOn = true → k < s.net.port.length → (s.np k).up = true →
        (s.np k).pause ≠ 0 → t.out = s.out ∧ (t.np k).wait = (s.np k).wait ++ [(x, p)]) ∧
      (s.gate = true → isMulticast w.dst = true → (s.np k).up = false → t.out = s.out ∧ (t.reg (aNet k + 8)).getLsbD 5 = true) := by
  intro x w p t
  subst hk
  have hrt : t.flowRt x = (s.flowRt x).built i p := (State.offer_flowRt ..).trans (State.flowRt_modFlowRt_self ..)
  have ht := fun (hg : s.gate = true) => State.offer_single (s := s.modFlowRt x fun r => r.built i p) (f := x) p hg hsec
  refine ⟨by rw [hrt]; rfl, by rw [hrt]; rfl, fun hg => ?_, fun hg hm hon hup hp => ?_, fun hg hm hon hl hup hp => ?_,
    fun hg hm hup => ?_⟩
  · rw [show t = _ from State.offer_gated (s := s.modFlowRt x fun r => r.built i p) p hg]
    rfl
  · rw [show t = _ from (ht hg).trans (State.offerMedia_open p hm hup hon hp), State.sendMedia_out]
    rfl
  · rw [show t = _ from (ht hg).trans (State.offerMedia_paused p hm hup hon hp)]
    exact ⟨rfl, congrArg NetPort.wait (State.np_modNp_self _ _ _ hl)⟩
  · rw [show t = _ from (ht hg).trans (State.offerMedia_down p hm hup), (Stays.dropMedia ..).out]
    exact ⟨rfl, State.dropMedia_marked ..⟩

/-! ### A pause ends (R258) -/

theorem exec_txLateDrop {s : State} {k : Fin 4} {e : Nat × TxPkt} (h : (s.np k.val).wait.find? (isLate s) = some e) :
    exec (.txLateDrop k) s = .next ((s.modNp k.val fun q => { q with wait := q.wait.erase e }).dropMedia e.1 k.val) := by
  change execTxLateDrop k s = _
  simp only [execTxLateDrop, h]

/-- A port, whatever it is sending. -/
def NetPort.idle (p : NetPort) : NetPort := { p with sending := none }
/-- A port once nothing waits for its transmitter. -/
def NetPort.emptied (p : NetPort) : NetPort := { p with wait := [] }
/-- A port once no frame of Ganen's waits for ring `r`. -/
def NetPort.flushed (r : Nat) (p : NetPort) : NetPort := { p with own := p.own.filter fun e => e.1 != r }

@[simp] theorem NetPort.idle_pause (p : NetPort) : p.idle.pause = p.pause := rfl
@[simp] theorem NetPort.idle_wait (p : NetPort) : p.idle.wait = p.wait := rfl
@[simp] theorem NetPort.idle_own (p : NetPort) : p.idle.own = p.own := rfl
@[simp] theorem NetPort.idle_flushed (p : NetPort) (r : Nat) : (p.flushed r).idle = p.idle.flushed r := rfl

/-- A packet that has waited is sent, unless it is late. -/
def State.sendWaited (k : Nat) (s : State) (e : Nat × TxPkt) : State :=
  if isLate s e then s.dropMedia e.1 k
  else match destMac s e.1 k with
    | some mac => if s.gate then s.sendMedia e.1 k mac e.2 else s
    | none => s

theorem State.sendWaiting_eq (s : State) (k : Nat) :
    s.sendWaiting k = (s.np k).wait.foldl (State.sendWaited k) (s.modNp k NetPort.emptied) := rfl

theorem State.sendMedia_idle (s : State) (f k mac : Nat) (p : TxPkt) (j : Nat) : ((s.sendMedia f k mac p).np j).idle = (s.np j).idle := by
  rw [State.sendMedia, State.netCount, State.np, State.count_net, State.count_net]
  change ((s.modNp k _).np j).idle = _
  exact State.np_modNp_same (g := NetPort.idle) (h := fun q => { q with sending := some _ }) (fun _ => rfl) ..

theorem State.sendWaited_idle (s : State) (k : Nat) (e : Nat × TxPkt) (j : Nat) : ((s.sendWaited k e).np j).idle = (s.np j).idle := by
  unfold State.sendWaited
  split
  · rw [(Stays.dropMedia ..).np]
  · split
    · split
      · exact State.sendMedia_idle ..
      · rfl
    · rfl

/-- Once what waited has been sent or dropped, nothing waits; what it sends apart, the port is as it was. -/
theorem State.np_sendWaiting {s : State} {k : Nat} (hk : k < s.net.port.length) :
    ((s.sendWaiting k).np k).idle = (s.np k).idle.emptied := by
  rw [State.sendWaiting_eq]
  refine (foldl_unchanged (fun t : State => (t.np k).idle) (fun t e => State.sendWaited_idle t k e k) _ _).trans ?_
  rw [State.np_modNp_self _ _ _ hk]
  rfl

/-- A packet to a group that is not late leaves through an open gate. -/
theorem State.sendWaited_group {s : State} {k : Nat} {e : Nat × TxPkt} (hl : isLate s e = false)
    (hm : isMulticast (s.flow e.1).dst = true) :
    s.sendWaited k e = if s.gate then s.sendMedia e.1 k (groupMac (s.flow e.1).dst) e.2 else s := by
  unfold State.sendWaited
  rw [if_neg (by simp [hl]), destMac_group hm]

/-- The frame of a packet to a group on port `k`. -/
def groupFrame (s : State) (k : Nat) (e : Nat × TxPkt) : OutMsg :=
  .media e.1 k (mediaFrame s k (s.flow e.1) (groupMac (s.flow e.1).dst) e.2)

/-- Packets to groups that are not late leave in the order of their waiting. -/
theorem foldl_sendWaited_out {s : State} {k : Nat} : ∀ {l : List (Nat × TxPkt)} {t : State},
    (∀ e ∈ l, isLate s e = false ∧ isMulticast (s.flow e.1).dst = true) → SendsAlike s t →
    (l.foldl (State.sendWaited k) t).out = (if s.gate then (l.map (groupFrame s k)).reverse else []) ++ t.out := by
  intro l
  induction l with
  | nil => intro t _ _; simp
  | cons e l ih =>
    intro t hl ht
    obtain ⟨hlate, hm⟩ := hl e (by simp)
    rw [List.foldl_cons, State.sendWaited_group ((ht.isLate e).trans hlate) (by rw [ht.flow]; exact hm), ht.gate, ht.flow]
    have hrest := fun x hx => hl x (List.mem_cons_of_mem e hx)
    cases hg : s.gate with
    | false => rw [if_neg Bool.false_ne_true, ih hrest ht, hg]; rfl
    | true =>
      rw [if_pos rfl, ih hrest (ht.trans (.sendMedia ..)), hg, State.sendMedia_out, ht.mediaFrame, ht.flow]
      simp [groupFrame]

/-! ### Ganen's own frames after a pause (R256) -/

theorem State.net_sendOwn (s : State) (k : Nat) (f : OwnFrame) : (s.sendOwn k f).net = s.net := State.count_net ..

theorem State.net_flushOwn (s : State) (k r : Nat) : (s.flushOwn k r).net = (s.modNp k (NetPort.flushed r)).net :=
  foldl_unchanged State.net (fun t (e : Nat × OwnFrame) => t.net_sendOwn k e.2) _ _

theorem State.np_flushOwn_self {s : State} (hs : s.Shape) {k : Nat} (hk : k < 6) (r : Nat) :
    (s.flushOwn k r).np k = (s.np k).flushed r := by
  rw [State.np, State.net_flushOwn]
  exact State.np_modNp_self _ _ _ (hs.np_lt hk)

/-- What a frame of Ganen's is to the outside. -/
def ownMsg (k : Nat) : OwnFrame → OutMsg
  | .kcp p => .udp p
  | .msg kind fields => .net k kind fields

theorem State.flushOwn_out (s : State) (k r : Nat) :
    (s.flushOwn k r).out = (((s.np k).own.filter fun e => e.1 == r).map fun e => ownMsg k e.2).reverse ++ s.out := by
  have hf : ∀ (l : List (Nat × OwnFrame)) (t : State), (l.foldl (fun s e => s.sendOwn k e.2) t).out =
      (l.map fun e => ownMsg k e.2).reverse ++ t.out := by
    intro l
    induction l with
    | nil => exact fun _ => rfl
    | cons e l ih =>
      intro t
      have hs : (t.sendOwn k e.2).out = ownMsg k e.2 :: t.out := by
        unfold State.sendOwn
        rw [State.count_out]
        cases e.2 <;> rfl
      rw [List.foldl_cons, ih, hs]
      simp
  exact hf _ _

section Resume
variable {s : State} (hs : s.Shape) {k : Nat} (hk : k < 6)
include hs hk

/-- When the transmitter has resumed nothing waits for it; what it sends apart, the port is as it was. -/
theorem State.np_resume : ((s.resume k).np k).idle = ((s.np k).idle.emptied.flushed 2).flushed 3 := by
  have hw := (State.sendWaiting_keeps (.refl s) k).shape hs
  have hf := (State.flushOwn_keeps (.refl _) k 2).shape hw
  rw [State.resume, State.np_flushOwn_self hf hk, State.np_flushOwn_self hw hk, NetPort.idle_flushed, NetPort.idle_flushed,
    State.np_sendWaiting (hs.np_lt hk)]

/-- What waits leaves first, then the express ring's frames, then the other's. -/
theorem State.resume_out : (s.resume k).out =
    ((((s.np k).own.filter fun e => e.1 != 2).filter fun e => e.1 == 3).map fun e => ownMsg k e.2).reverse ++
      ((((s.np k).own.filter fun e => e.1 == 2).map fun e => ownMsg k e.2).reverse ++ (s.sendWaiting k).out) := by
  have hw := (State.sendWaiting_keeps (.refl s) k).shape hs
  have hown : ((s.sendWaiting k).np k).own = (s.np k).own := by
    rw [← NetPort.idle_own, State.np_sendWaiting (hs.np_lt hk)]
    rfl
  rw [State.resume, State.flushOwn_out, State.flushOwn_out, State.np_flushOwn_self hw hk, ← hown]
  rfl

end Resume

/-- The port's transmitter may run again. -/
def State.unpaused (s : State) (k : Nat) : State := s.modNp k fun p => { p with pause := 0 }

theorem SendsAlike.unpaused (s : State) (k : Nat) : SendsAlike s (s.unpaused k) := .modNp s k fun _ => rfl

theorem exec_pauseExpiry {s : State} {k : Fin 6} (h : (s.np k.val).pause ≠ 0) :
    exec (.pauseExpiry k) s = .next ((s.unpaused k.val).resume k.val) := congrArg Host.Outcome.next (if_neg h)

theorem pauseExpiry_spec {s : State} (hs : s.Shape) (k : Fin 6) :
    let t := (s.unpaused k.val).resume k.val
    ((t.np k.val).pause = 0 ∧ (t.np k.val).wait = []) ∧
    ((s.np k.val).own = [] → (∀ e ∈ (s.np k.val).wait, isLate s e = false ∧ isMulticast (s.flow e.1).dst = true) →
      t.out = (if s.gate then ((s.np k.val).wait.map (groupFrame s k.val)).reverse else []) ++ s.out) ∧
    (∀ r kind fs, (r = 2 ∨ r = 3) → (s.np k.val).wait = [] → (s.np k.val).own = [(r, .msg kind fs)] →
      (t.np k.val).own = [] ∧ t.out = .net k.val kind fs :: s.out) := by
  intro t
  have hu : (s.unpaused k.val).Shape := (State.modNp_keeps (.refl s) _ _).shape hs
  have hn : (s.unpaused k.val).np k.val = { s.np k.val with pause := 0 } := State.np_modNp_self _ _ _ (hs.np_lt k.isLt)
  have ht := State.np_resume hu k.isLt
  have hout := State.resume_out hu k.isLt
  rw [hn] at ht hout
  have hsent : (∀ e ∈ (s.np k.val).wait, isLate s e = false ∧ isMulticast (s.flow e.1).dst = true) →
      ((s.unpaused k.val).sendWaiting k.val).out =
        (if s.gate then ((s.np k.val).wait.map (groupFrame s k.val)).reverse else []) ++ s.out := fun hw => by
    rw [State.sendWaiting_eq, hn]
    exact foldl_sendWaited_out hw ((SendsAlike.unpaused ..).trans (.modNp _ _ (f := NetPort.emptied) fun _ => rfl))
  refine ⟨⟨?pause, ?wait⟩, fun hown hw => ?packets, fun r kind fs hr hw hown => ⟨?own, ?frame⟩⟩
  case pause => rw [← NetPort.idle_pause, ht]; rfl
  case wait => rw [← NetPort.idle_wait, ht]; rfl
  case packets => rw [hout, hown, hsent hw]; rfl
  case own =>
    rw [← NetPort.idle_own, ht]
    change ((s.np k.val).own.filter _).filter _ = []
    rw [hown]
    obtain rfl | rfl := hr <;> rfl
  case frame =>
    rw [hout, hsent (by rw [hw]; simp), hown, hw]
    obtain rfl | rfl := hr <;> simp [ownMsg]

/-! ### The rings' frames (R254, R256) -/

/-- A ring that holds descriptors has a size. -/
theorem ringSize_pos {s : State} {k r : Nat} (h : ringHeld s k r ≠ 0) : 0 < ringSize s k r := by
  unfold ringHeld at h
  by_contra hn
  exact h (if_pos (by simp; omega))

theorem ringSize_lt (s : State) (k r : Nat) : ringSize s k r < 2 ^ 13 := Nat.mod_lt _ (by decide)

theorem ringHead_congr {s t : State} (h : t.regs = s.regs) (k r : Nat) : ringHead t k r = ringHead s k r := by
  rw [ringHead, reg_congr h, ringHead]
theorem ringSize_congr {s t : State} (h : t.regs = s.regs) (k r : Nat) : ringSize t k r = ringSize s k r := by
  rw [ringSize, reg_congr h, ringSize]

theorem ringHead_ringNext {s : State} {k r : Nat} (h : 0 < ringSize s k r) :
    ringHead (s.ringNext k r) k r = (ringHead s k r + 1) % ringSize s k r := by
  have hlt := Nat.mod_lt (ringHead s k r + 1) h
  have hsize := ringSize_lt s k r
  rw [ringHead, State.ringNext, State.reg_setReg_self, wordN, BitVec.toNat_ofNat, Nat.max_eq_right h, Nat.mod_eq_of_lt (by omega)]

/-- HEAD moves on, and goes round at the ring's size. -/
theorem ringHead_descDone {s : State} {k r : Nat} (h : 0 < ringSize s k r) (status ns tag : Nat) :
    ringHead (s.descDone k r status ns tag) k r = (ringHead s k r + 1) % ringSize s k r := by
  unfold State.descDone
  extract_lets a s1
  have hr : s1.regs = s.regs := by
    unfold s1
    split
    · exact State.memWrite_regs ..
    · rfl
  rw [ringHead_ringNext (by rwa [ringSize_congr hr]), ringHead_congr hr, ringSize_congr hr]

theorem State.txStamp_out (s : State) (k tag : Nat) : (s.txStamp k tag).1.out = s.out := by
  unfold State.txStamp
  dsimp only
  split
  · rfl
  · rw [State.count_out]; rfl

/-- Only the port's stamp register and the error register of the time block may differ. -/
theorem State.txStamp_reg (s : State) {k : Nat} (hk : k < 6) (tag : Nat) {a : Nat} (h : aNet 0 ≤ a) :
    (s.txStamp k tag).1.reg a = s.reg a := by
  have hne : a ≠ aTime + 0x600 + 0x20 * k ∧ a ≠ aTime + 8 := by unfold aTime; unfold aNet at h; omega
  unfold State.txStamp
  dsimp only
  split
  · rfl
  · rw [reg_congr (State.count_regs ..), State.reg_raise_ne _ _ hne.2, State.reg_raise_ne _ _ hne.1]

/-- A ring's frame leaves: it is counted, with its fragments where pre-emption is active, and stamped where its descriptor asks. -/
def State.frameOut (s : State) (k r frags : Nat) (bs : List Byte) (ask : Bool) (tag : Nat) : State × Bool :=
  let s1 := (s.emit (.frame k r bs)).netCount k 6
  let s2 := if r = 3 && (s.np k).preempt == 2 then s1.netCount k 10 frags else s1
  if ask then s2.txStamp k tag else (s2, false)

section FrameOut
variable (s : State) (k r frags : Nat) (bs : List Byte) (ask : Bool) (tag : Nat)

theorem State.frameOut_out : (s.frameOut k r frags bs ask tag).1.out = .frame k r bs :: s.out := by
  unfold State.frameOut
  extract_lets s1 s2
  have h2 : s2.out = .frame k r bs :: s.out := ((Stays.netCount ..).trans (.ite (.netCount ..) (.refl s1))).out
  split
  · rw [State.txStamp_out, h2]
  · exact h2

theorem State.frameOut_reg (hk : k < 6) {a : Nat} (h : aNet 0 ≤ a) : (s.frameOut k r frags bs ask tag).1.reg a = s.reg a := by
  unfold State.frameOut
  extract_lets s1 s2
  have h1 : s1.regs = s.regs := State.count_regs ..
  have h2 : s2.regs = s.regs := by
    unfold s2
    split
    · exact (State.count_regs ..).trans h1
    · exact h1
  split
  · rw [State.txStamp_reg _ hk _ h, reg_congr h2]
  · rw [reg_congr h2]

end FrameOut

/-- Ring `r`'s frame is the one that leaves next: the express ring's goes first. -/
def NextRing (s : State) (k r : Nat) : Prop := (r = 2 ∧ ringHeld s k 2 ≠ 0) ∨ (r = 3 ∧ ringHeld s k 2 = 0 ∧ ringHeld s k 3 ≠ 0)

theorem NextRing.choice {s : State} {k r : Nat} (h : NextRing s k r) : (if ringHeld s k 2 ≠ 0 then 2 else 3) = r := by
  obtain ⟨rfl, h2⟩ | ⟨rfl, h2, -⟩ := h
  · exact if_pos h2
  · exact if_neg (not_not_intro h2)

theorem NextRing.held {s : State} {k r : Nat} (h : NextRing s k r) : ringHeld s k r ≠ 0 := by
  obtain ⟨rfl, h2⟩ | ⟨rfl, -, h3⟩ := h
  · exact h2
  · exact h3

section Transmit
variable {s : State} {k : Fin 6} {r : Nat} (frags : Nat) (hr : NextRing s k.val r) (hup : (s.np k.val).up = true)
  (hp : (s.np k.val).pause = 0) (hon : s.netOn = true) (hd : s.spanOk (descAddr s k.val r) 32 = true)
  (hb : s.spanOk (leAt (s.readBytes (descAddr s k.val r) 32) 0 8) (max 1 (leAt (s.readBytes (descAddr s k.val r) 32) 8 4)) = true)
include hr hup hp hon hd hb

theorem exec_ringFrameTransmit : exec (.ringFrameTransmit k frags) s =
    let d := s.readBytes (descAddr s k.val r) 32
    let n := leAt d 8 4
    let u := s.frameOut k.val r frags (s.readBytes (leAt d 0 8) n) ((leAt d 12 4).testBit 26) (leAt d 28 2)
    .next (u.1.descDone k.val r (2 ^ 31 + 2 ^ 30 + 2 ^ 29 + b2n u.2 * 2 ^ 25 + n % 2 ^ 16) (if u.2 then s.stamp k.val true else 0)
      (leAt d 28 2)) := by
  change execRingFrameTransmit k frags s = _
  unfold execRingFrameTransmit
  dsimp only
  rw [hr.choice, if_neg (by simp [hon, hr.held]), if_neg (by simp [hup]), if_neg (not_not_intro hp), if_neg (by simp [hd]),
    if_neg (by simp [hb])]
  rfl

/-- A frame at HEAD leaves, and HEAD moves on. -/
theorem ringFrameTransmit_spec : let d := s.readBytes (descAddr s k.val r) 32
    ∃ t, exec (.ringFrameTransmit k frags) s = .next t ∧ t.out = .frame k.val r (s.readBytes (leAt d 0 8) (leAt d 8 4)) :: s.out ∧
      ringHead t k.val r = (ringHead s k.val r + 1) % ringSize s k.val r := by
  intro d
  refine ⟨_, exec_ringFrameTransmit frags hr hup hp hon hd hb, (Stays.descDone ..).out.trans (State.frameOut_out ..), ?_⟩
  have hreg : ∀ i, (s.frameOut k.val r frags (s.readBytes (leAt d 0 8) (leAt d 8 4)) ((leAt d 12 4).testBit 26) (leAt d 28 2)).1.reg
      (aNetRing k.val r + i) = s.reg (aNetRing k.val r + i) := fun i =>
    State.frameOut_reg _ _ _ _ _ _ _ k.isLt (by unfold aNetRing aNet; omega)
  have hsize := ringSize_pos hr.held
  generalize (s.frameOut k.val r frags (s.readBytes (leAt d 0 8) (leAt d 8 4)) ((leAt d 12 4).testBit 26) (leAt d 28 2)) = u at hreg ⊢
  have hh : ringHead u.1 k.val r = ringHead s k.val r := congrArg BitVec.toNat (hreg 16)
  have hs : ringSize u.1 k.val r = ringSize s k.val r := congrArg (wbits · 0 13) (hreg 8)
  rw [ringHead_descDone (hs ▸ hsize), hh, hs]

end Transmit

/-! ### Management ports pause their partner (R259) -/

theorem State.sendPause_spec {s : State} {k : Nat} (hk : k < s.net.port.length) (q : Nat) :
    (s.sendPause k q).out = .net k "pause" [q] :: s.out ∧ ((s.sendPause k q).np k).pausing = decide (q ≠ 0) := by
  have hn : (s.sendPause k q).net = (s.modNp k fun p => { p with pausing := q ≠ 0 }).net := State.count_net ..
  refine ⟨State.count_out .., ?_⟩
  rw [State.np, hn]
  exact congrArg NetPort.pausing (s.np_modNp_self k _ hk)

section Pause
variable {s : State} {k : Fin 2} (hup : (s.np (4 + k.val)).up = true) (hc : (s.reg (aNet (4 + k.val))).getLsbD 16 = true)
include hup hc

theorem pauses_management : pauses s (4 + k.val) = true := by
  have hm : isMedia (4 + k.val) = false := decide_eq_false (by omega)
  simpa [pauses, hm, hup, netCtl, wbit] using hc

theorem exec_pauseTx_few (h : ∃ r < 2, ringHeld s (4 + k.val) r * 8 < ringSize s (4 + k.val) r) :
    exec (.pauseTx k) s = .next (s.sendPause (4 + k.val) 0xFFFF) := by
  obtain ⟨r, hr, hf⟩ := h
  refine congrArg Host.Outcome.next (if_pos ?_)
  rw [pauses_management hup hc, Bool.true_and, Bool.or_eq_true, decide_eq_true_eq, decide_eq_true_eq]
  obtain rfl | rfl : r = 0 ∨ r = 1 := by omega
  · exact .inl hf
  · exact .inr hf

theorem exec_pauseTx_enough (h : ¬ ∃ r < 2, ringHeld s (4 + k.val) r * 8 < ringSize s (4 + k.val) r)
    (he : ∀ r < 2, ringSize s (4 + k.val) r ≤ ringHeld s (4 + k.val) r * 4) (hp : (s.np (4 + k.val)).pausing = true) :
    exec (.pauseTx k) s = .next (s.sendPause (4 + k.val) 0) := by
  refine congrArg Host.Outcome.next ((if_neg fun hf => h ?_).trans (if_pos ?_))
  · rw [pauses_management hup hc, Bool.true_and, Bool.or_eq_true, decide_eq_true_eq, decide_eq_true_eq] at hf
    obtain hf | hf := hf
    · exact ⟨0, by decide, hf⟩
    · exact ⟨1, by decide, hf⟩
  · simp [pauses_management hup hc, hp, he]

end Pause

/-! ### A ring's tail (R250, R259) -/

theorem State.ringTailWrite_stored {s : State} {k r : Nat} {v : Word} (h : if r < 2 then (s.np k).pausing = false else (s.np k).up = true) :
    s.ringTailWrite k r v = s.setReg (aNetRing k r + 12) (v &&& 0xFFF) := by
  have hn : (s.setReg (aNetRing k r + 12) (v &&& 0xFFF)).np k = s.np k := rfl
  unfold State.ringTailWrite
  dsimp only
  split at h
  · next hr => rw [if_pos hr, State.pauseEnd, hn, h]; simp
  · next hr => rw [if_neg hr, hn, if_pos h]

/-- Settles O30: packets by what a port does with one that it is offered, a pause's end by what then leaves, the rings by the frame at
HEAD, and pauses and tails by their handlers. -/
theorem packetsAndFramesLeave : Obligations.PacketsAndFramesLeave := by
  unfold Obligations.PacketsAndFramesLeave
  refine ⟨⟨fun s f k he hr hsince hdone hk hsec => ?transmit, fun s k e hs h => ?late, fun s k hs hp => ?expiry⟩,
    fun s k r n hr hup hp hon hd hb => ringFrameTransmit_spec n hr hup hp hon hd hb, fun s k hup hc hs => ?pause,
    fun s k r v hv h => ?tail⟩
  case transmit =>
    exact ⟨rfl, rfl, by simp [buildPkt], _, exec_packetTransmit rfl he hr hsince hdone, packetTransmit_spec hsec hk⟩
  case late =>
    refine ⟨_, exec_txLateDrop h, ?_, State.dropMedia_marked .., (Stays.dropMedia ..).out⟩
    rw [(Stays.dropMedia ..).np, State.np_modNp_self _ _ _ (hs.np_lt (by omega))]
  case expiry =>
    obtain ⟨hq, hpackets, hown⟩ := pauseExpiry_spec hs k
    exact ⟨⟨_, exec_pauseExpiry hp, hq⟩, fun ho hw => ⟨_, exec_pauseExpiry hp, hpackets ho hw⟩,
      fun r kind fs hr hw ho => ⟨_, exec_pauseExpiry hp, hown r kind fs hr hw ho⟩⟩
  case pause =>
    have hk : 4 + k.val < s.net.port.length := hs.np_lt (by omega)
    exact ⟨fun hf => ⟨_, exec_pauseTx_few hup hc hf, State.sendPause_spec hk _⟩,
      fun hf he hp => ⟨_, exec_pauseTx_enough hup hc hf he hp, State.sendPause_spec hk _⟩⟩
  case tail =>
    refine ⟨_, (guarded_of_unreserved hv _).trans (congrArg Host.Outcome.next (State.ringTailWrite_stored h)), State.reg_setReg_self ..,
      fun a ha => State.reg_setReg_ne _ _ ha, rfl⟩

end Sys2Proof.Machine

/-! Time bases, stamps and comparators (O33). -/

namespace Sys2Proof.Machine

/-! ### Time bases (R277) -/

@[simp] theorem State.base_setBase_self (s : State) (b v : Nat) : (s.setBase b v).base b = v := by
  unfold State.setBase
  split
  · next h => simp [State.base, h]
  · next h0 =>
    split
    · next h => simp [State.base, h]
    · next h1 => simp [State.base, h0, h1]

theorem State.base_setBase_ne (s : State) {b c : Nat} (v : Nat) (hb : b < 3) (hc : c < 3) (h : c ≠ b) :
    (s.setBase b v).base c = s.base c := by
  obtain rfl | rfl | rfl : b = 0 ∨ b = 1 ∨ b = 2 := by omega
  · simp [State.setBase, State.base, h]
  · simp [State.setBase, State.base, h]
  · obtain rfl | rfl : c = 0 ∨ c = 1 := by omega
    · rfl
    · rfl

@[simp] theorem State.regs_setBase (s : State) (b v : Nat) : (s.setBase b v).regs = s.regs := by
  unfold State.setBase
  split
  · rfl
  · split <;> rfl

@[simp] theorem State.regs_stepBase (s : State) (b : Nat) (ns : Int) : (s.stepBase b ns).regs = s.regs := State.regs_setBase ..

theorem State.base_stepBase_self (s : State) (b : Nat) (ns : Int) : (s.stepBase b ns).base b = ((s.base b : Int) + ns * 2 ^ 48).toNat :=
  State.base_setBase_self ..

theorem State.base_stepBase_ne (s : State) {b c : Nat} (ns : Int) (hb : b < 3) (hc : c < 3) (h : c ≠ b) :
    (s.stepBase b ns).base c = s.base c := State.base_setBase_ne s _ hb hc h

theorem State.timeSnap_loaded {s : State} {v : Word} (hv : v.getLsbD 0 = true) (hl : (s.reg aTime).getLsbD 0 = true) :
    s.timeSnap v = { s with time := { s.time with snap := { a := s.time.a, b := s.time.b, l := s.time.l, frc := s.time.frc } } } := by
  have hv' : wbit v 0 = true := hv
  have hloaded : s.loaded = true := hl
  unfold State.timeSnap
  rw [if_pos hv', if_pos hloaded]

/-! ### Stamps (R285, R289) -/

theorem State.Shape.capt {s : State} (h : s.Shape) : s.time.capt.length = 9 := by
  obtain ⟨-, -, -, -, -, -, -, -, -, -, h, -⟩ := h
  exact h

theorem State.Shape.txts {s : State} (h : s.Shape) : s.time.txts.length = 6 := by
  obtain ⟨-, -, -, -, -, -, -, -, -, -, -, h, -⟩ := h
  exact h

/-- A queue whose oldest stamp is popped, or not. -/
theorem nth_pop {α : Type} (l : List (List α)) {k : Nat} (hk : k < l.length) (p : Bool) (d : Nat) :
    nth [] (if p then l.modify k List.tail else l) d =
      if d = k then (if p then (nth [] l k).tail else nth [] l k) else nth [] l d := by
  cases p with
  | false => simp +contextual
  | true =>
    by_cases hd : d = k
    · subst hd; simpa using nth_modify_self [] l d List.tail hk
    · simpa [hd] using nth_modify_ne [] l List.tail hd

theorem State.capt_captCtl (s : State) (c : Nat) (v : Word) :
    (s.captCtl c v).time.capt = if v.getLsbD 8 then s.time.capt.modify c List.tail else s.time.capt := by
  unfold State.captCtl wbit
  split <;> rfl

theorem State.reg_captCtl (s : State) (c : Nat) (v : Word) : (s.captCtl c v).reg (aTime + 0x400 + 0x20 * c) = v &&& 3 := by
  have h := s.reg_setReg_self (aTime + 0x400 + 0x20 * c) (v &&& 3)
  unfold State.captCtl
  split
  · exact h
  · exact h

theorem State.txts_txtsStatus (s : State) (k : Nat) (v : Word) :
    (s.txtsStatus k v).time.txts = if v.getLsbD 16 then s.time.txts.modify k List.tail else s.time.txts := by
  have h : (if wbit v 8 then s.lower (aTime + 0x600 + 0x20 * k) 0x100 else s).time = s.time := by split <;> rfl
  unfold State.txtsStatus wbit at *
  dsimp only
  split
  · exact congrArg (fun t : TimeU => t.txts.modify k List.tail) h
  · exact congrArg TimeU.txts h

theorem State.reg_txtsStatus_clears (s : State) (k : Nat) {v : Word} (hv : v.getLsbD 8 = true) :
    ((s.txtsStatus k v).reg (aTime + 0x600 + 0x20 * k)).getLsbD 8 = false := by
  have h : ((s.lower (aTime + 0x600 + 0x20 * k) 0x100).reg (aTime + 0x600 + 0x20 * k)).getLsbD 8 = false := by
    rw [State.lower, State.reg_setReg_self]
    simp
  have hv' : wbit v 8 = true := hv
  unfold State.txtsStatus
  dsimp only
  rw [if_pos hv']
  split
  · exact h
  · exact h

/-- Whether an edge is stamped: the bit of TIME_CAPT_CTL_c that selects it. -/
theorem edge_selected (w : Word) (up : Bool) : (wbits w 0 2).testBit (if up then 0 else 1) = w.getLsbD (if up then 0 else 1) := by
  rw [testBit_wbits]
  cases up <;> simp

section Edge
variable {s : State} {c : Nat} {up : Bool} (he : (s.reg (aTime + 0x400 + 0x20 * c)).getLsbD (if up then 0 else 1) = true)
include he

theorem State.capture_room (h : (nth [] s.time.capt c).length < 8) : s.capture c up =
    { s with time := { s.time with capt := s.time.capt.set c (nth [] s.time.capt c ++ [s.lNs]) } } := by
  unfold State.capture
  dsimp only
  rw [if_pos ((edge_selected ..).trans he), if_pos h]

theorem State.capture_full (h : 8 ≤ (nth [] s.time.capt c).length) : s.capture c up =
    (({ s with time := { s.time with captOvf := s.time.captOvf.set c true } }).raise (aTime + 8) 2).count (aTime + 0x100 + 8 * (6 + c)) := by
  unfold State.capture
  dsimp only
  rw [if_pos ((edge_selected ..).trans he), if_neg (by omega)]

end Edge

/-! ### Comparators (R286 to R288) -/

theorem State.reg64_setReg64 (s : State) (a : Nat) {v : Nat} (h : v < 2 ^ 64) : (s.setReg64 a v).reg64 a = v := by
  have hlo : (s.setReg64 a v).reg a = BitVec.ofNat 32 v := (State.reg_setReg_ne _ _ (by omega)).trans (State.reg_setReg_self ..)
  have hhi : (s.setReg64 a v).reg (a + 4) = BitVec.ofNat 32 (v / 2 ^ 32) := State.reg_setReg_self ..
  rw [State.reg64, hlo, hhi, BitVec.toNat_ofNat, BitVec.toNat_ofNat]
  omega

theorem State.reg64_setReg_ne (s : State) {a b : Nat} (w : Word) (h : b ≠ a) (h4 : b + 4 ≠ a) : (s.setReg a w).reg64 b = s.reg64 b := by
  rw [State.reg64, s.reg_setReg_ne w h, s.reg_setReg_ne w h4, State.reg64]

/-- A write outside a comparator's seconds and nanoseconds leaves its time. -/
theorem State.cmpNs_setReg_ne (s : State) {i a : Nat} (w : Word) (h4 : a ≠ aTime + 0x204 + 0x20 * i) (h8 : a ≠ aTime + 0x204 + 0x20 * i + 4)
    (hC : a ≠ aTime + 0x20C + 0x20 * i) : (s.setReg a w).cmpNs i = s.cmpNs i := by
  rw [State.cmpNs, s.reg64_setReg_ne w h4.symm h8.symm, s.reg_setReg_ne w hC.symm, State.cmpNs]

/-- The state in which comparator `i` is programmed for a time. -/
def State.cmpSet (s : State) (i ns : Nat) : State :=
  (s.setReg64 (aTime + 0x200 + 0x20 * i + 4) (secOf ns)).setReg (aTime + 0x200 + 0x20 * i + 0xC) (BitVec.ofNat 32 (nsOf ns))

theorem State.cmpNs_cmpSet (s : State) (i : Nat) {ns : Nat} (h : ns < 2 ^ 64 * 1000000000) : (s.cmpSet i ns).cmpNs i = ns := by
  have h4 : aTime + 0x204 + 0x20 * i = aTime + 0x200 + 0x20 * i + 4 := by omega
  have hC : aTime + 0x20C + 0x20 * i = aTime + 0x200 + 0x20 * i + 0xC := by omega
  have hn : nsOf ns < 1000000000 := Nat.mod_lt _ (by decide)
  rw [State.cmpNs, State.cmpSet, h4, hC, State.reg64_setReg_ne _ _ (by omega) (by omega),
    State.reg64_setReg64 _ _ (show secOf ns < 2 ^ 64 by unfold secOf; omega), State.reg_setReg_self, wbits, bitsOf, BitVec.toNat_ofNat,
    Nat.mod_eq_of_lt (show nsOf ns < 2 ^ 32 by omega), Nat.pow_zero, Nat.div_one, Nat.mod_eq_of_lt (show nsOf ns < 2 ^ 30 by omega)]
  exact Nat.div_add_mod' ..

theorem State.reg_cmpSet_ctl (s : State) (i ns : Nat) : (s.cmpSet i ns).reg (aTime + 0x200 + 0x20 * i) = s.reg (aTime + 0x200 + 0x20 * i) := by
  rw [State.cmpSet, State.reg_setReg_ne _ _ (by omega), State.setReg64, State.reg_setReg_ne _ _ (by omega), State.reg_setReg_ne _ _ (by omega)]

/-- The state after comparator `i` gives its pulse. -/
def State.cmpPulse (s : State) (i : Nat) : State :=
  s.emit (.pulse i ((s.reg (aTime + 0x200 + 0x20 * i)).getLsbD 3) (s.reg (aTime + 0x214 + 0x20 * i)).toNat)

section Fires
variable {s : State} {i : Nat} (hen : (s.reg (aTime + 0x200 + 0x20 * i)).getLsbD 0 = true) (hdue : s.cmpDue i = true)
include hen hdue

theorem State.cmpFire_once (h : s.reg (aTime + 0x210 + 0x20 * i) = 0) :
    s.cmpFire i = (s.cmpPulse i).lower (aTime + 0x200 + 0x20 * i) 1 := by
  have hp : (s.reg (aTime + 0x200 + 0x20 * i + 0x10)).toNat = 0 := by
    rw [show aTime + 0x200 + 0x20 * i + 0x10 = aTime + 0x210 + 0x20 * i by omega, h]; rfl
  unfold State.cmpFire State.cmpPulse
  rw [show aTime + 0x214 + 0x20 * i = aTime + 0x200 + 0x20 * i + 0x14 by omega]
  dsimp only
  rw [if_pos (by simp [wbit, hen, hdue]), if_pos hp]
  rfl

theorem State.cmpFire_again (h : s.reg (aTime + 0x210 + 0x20 * i) ≠ 0) :
    s.cmpFire i = (s.cmpPulse i).cmpSet i (s.cmpNs i + (s.reg (aTime + 0x210 + 0x20 * i)).toNat) := by
  have hp : (s.reg (aTime + 0x210 + 0x20 * i)).toNat ≠ 0 := fun h0 => h (BitVec.eq_of_toNat_eq h0)
  unfold State.cmpFire State.cmpPulse State.cmpSet
  rw [show aTime + 0x214 + 0x20 * i = aTime + 0x200 + 0x20 * i + 0x14 by omega,
    show aTime + 0x210 + 0x20 * i = aTime + 0x200 + 0x20 * i + 0x10 by omega] at *
  dsimp only
  rw [if_pos (by simp [wbit, hen, hdue]), if_neg hp]
  rfl

end Fires

/-- Settles O33: snapshots and steps by what each does to the bases, the queues by what popping and stamping do to a list, and a
comparator by whether it has a period. -/
theorem timeRegistersAct : Obligations.TimeRegistersAct := by
  unfold Obligations.TimeRegistersAct
  refine ⟨⟨fun s v hr hv hl => ?snap, fun s b v hr => ?adjust, fun s c v hs hr => ?popCapture, fun s k v hs hr => ?popStamp⟩,
    fun s i hen hdue => ?fires, fun s c up hs he => ⟨fun h => ?stamped, fun h => ?lost⟩⟩
  case snap => exact ⟨_, (guarded_of_unreserved hr _).trans (congrArg _ (State.timeSnap_loaded hv hl)), rfl, rfl, rfl⟩
  case adjust =>
    exact ⟨_, guarded_of_unreserved hr _, State.base_stepBase_self ..,
      fun c hc => State.base_stepBase_ne _ _ b.isLt c.isLt (Fin.val_ne_of_ne hc), State.regs_stepBase ..⟩
  case popCapture =>
    have hq := nth_pop s.time.capt (by rw [hs.capt]; exact c.isLt) (v.getLsbD 8)
    refine ⟨_, guarded_of_unreserved hr _, State.reg_captCtl .., ?_, fun d hd => ?_⟩
    · rw [State.capt_captCtl, hq, if_pos rfl]
    · rw [State.capt_captCtl, hq, if_neg hd]
  case popStamp =>
    have hq := nth_pop s.time.txts (by rw [hs.txts]; exact k.isLt) (v.getLsbD 16)
    refine ⟨_, guarded_of_unreserved hr _, ?_, State.reg_txtsStatus_clears s k.val, fun d hd => ?_⟩
    · rw [State.txts_txtsStatus, hq, if_pos rfl]
    · rw [State.txts_txtsStatus, hq, if_neg hd]
  case fires =>
    by_cases hp : s.reg (aTime + 0x210 + 0x20 * i.val) = 0
    · refine ⟨_, congrArg Host.Outcome.next (State.cmpFire_once hen hdue hp), rfl, fun _ => ⟨?_, ?_⟩, fun h => absurd hp h, rfl⟩
      · rw [State.lower, State.reg_setReg_self]
        simp
      · exact State.cmpNs_setReg_ne _ _ (by omega) (by omega) (by omega)
    · exact ⟨_, congrArg Host.Outcome.next (State.cmpFire_again hen hdue hp), rfl, fun h => absurd h hp,
        fun _ hlt => ⟨State.cmpNs_cmpSet _ _ hlt, State.reg_cmpSet_ctl ..⟩, rfl⟩
  case stamped =>
    exact ⟨_, congrArg Host.Outcome.next (State.capture_room he h), nth_set_self _ _ _ _ (by rw [hs.capt]; exact c.isLt), rfl,
      fun d hd => nth_set_ne _ _ _ hd⟩
  case lost =>
    refine ⟨_, congrArg Host.Outcome.next (State.capture_full he h), by rw [State.count_time]; rfl, ?_, rfl⟩
    rw [reg_congr (State.count_regs ..), State.reg_raise_self]
    simp

end Sys2Proof.Machine

/-! References, their levels, the pull and holdover (O34). -/

namespace Sys2Proof.Machine

/-! ### An event leaves the pair alone -/

theorem fillOne_pair (k : Nat) (a b c : Bool) (x : Nat) (bs : List Byte) (s : State) : (fillOne k a b c x bs s).pair = s.pair := by
  unfold fillOne
  extract_lets _ _ _ _ _ _ s1 wb s2 _ n
  have h : s2.pair = s.pair := by
    show (if wb = 0 then s1 else s1.emit _).pair = _
    split <;> rfl
  have hmsix : ∀ (t : State) v, (t.msix v).pair = t.pair := fun t v => by unfold State.msix; split <;> rfl
  split
  · rw [hmsix, State.setRing_pair, h]
  · rw [State.setRing_pair, h]

theorem fillAll_pair (k : Nat) (ev : Bool) (l : List (Nat × List Byte)) : ∀ (first : Bool) (s : State),
    (fillAll k ev first l s).pair = s.pair := by
  induction l with
  | nil => exact fun _ _ => rfl
  | cons _ _ ih => exact fun _ _ => (ih _ _).trans (fillOne_pair ..)

theorem flushRing_pair (k n : Nat) : ∀ s : State, (flushRing k n s).pair = s.pair := by
  induction n with
  | zero => exact fun _ => rfl
  | succ n ih =>
    intro s
    unfold flushRing
    split
    · rfl
    · split
      · rfl
      · exact (ih _).trans (fillAll_pair ..)

theorem State.place_pair (s : State) (k r : Nat) (f : OwnFrame) : (s.place k r f).pair = s.pair := by
  unfold State.place State.sendOwn
  split
  · rfl
  · split
    · rfl
    · rw [State.count_pair]
      rfl

theorem State.deliver_pair (s : State) (p : OutPkt) : (s.deliver p).pair = s.pair := by
  unfold State.deliver
  split
  · exact State.place_pair ..
  · rfl
  · exact flushRing_pair ..

theorem sendEvent_pair (code txn : Nat) (pl : List Byte) (x : Nat) (s : State) : (sendEvent code txn pl x s).pair = s.pair := by
  unfold sendEvent
  dsimp only
  split
  · exact State.deliver_pair ..
  · rfl

theorem foldl_sendEvent_pair (code txn : Nat) (pl : List Byte) (l : List Nat) : ∀ s : State,
    (l.foldl (fun s x => sendEvent code txn pl x s) s).pair = s.pair := by
  induction l with
  | nil => exact fun _ => rfl
  | cons _ _ ih => exact fun _ => (ih _).trans (sendEvent_pair ..)

theorem State.event_pair (s : State) (code : Nat) (pl : List Byte) : (s.event code pl).pair = s.pair := by
  unfold State.event State.eventAny
  split
  · rfl
  · exact foldl_sendEvent_pair ..

theorem State.event_role (s : State) (code : Nat) (pl : List Byte) : (s.event code pl).role = s.role := by
  unfold State.role State.pairEn
  rw [s.event_pair, s.reg_event _ _ (by decide)]

theorem State.event_restarting (s : State) (code : Nat) (pl : List Byte) : (s.event code pl).integ.restarting = s.integ.restarting :=
  congrArg Spine.restarting (Steady.event s code pl)

/-! ### A selection (R294, R300, R303) -/

theorem State.eligible_of_absent {s : State} {r : Nat} (h : (s.ref r).present = false) : s.eligible r = false := by
  simp [State.eligible, h]

theorem State.eligible_congr {s t : State} {r : Nat} (href : t.ref r = s.ref r) (hsel : t.time.sel = s.time.sel)
    (hptp : t.time.ptp = s.time.ptp) (hz : t.render = s.render) : t.eligible r = s.eligible r := by
  have hzone : t.anyZone = s.anyZone := congrArg (fun x : Render => x.zones.any fun e => e.2.enable) hz
  unfold State.eligible
  rw [href, hsel, hzone, slot_of_ptp hptp]

theorem State.prio_congr {s t : State} (h : ∀ o < 0x1000, t.reg (aClksel + o) = s.reg (aClksel + o)) : t.prio = s.prio := by
  unfold State.prio
  rw [h _ (by decide), h _ (by decide)]

theorem State.preferred_none {s : State} (h : ∀ q ∈ s.prio, s.eligible q = false) : s.preferred = none := by
  have hf : (s.prio.filter fun r => r ≤ 5 && s.eligible r) = [] := List.filter_eq_nil_iff.mpr fun q hq => by simp [h q hq]
  unfold State.preferred
  rw [hf]
  rfl

theorem State.enterRef_entered (s : State) (ref : Option Nat) (cause : Nat) :
    ∃ c, Entry.reference ref c ∈ (s.enterRef ref cause).delta.entries := by
  unfold State.enterRef
  dsimp only
  split
  · next h =>
    obtain ⟨e, he, hsame⟩ := List.any_eq_true.mp h
    split at hsame
    · next r c => exact ⟨c, by rwa [← eq_of_beq hsame]⟩
    · exact absurd hsame Bool.false_ne_true
  · exact ⟨cause, List.mem_append_right _ (List.mem_singleton_self _)⟩

/-- L is in holdover, and no reference is selected or forced. -/
def Sel.Holds (q : Sel) : Prop := q.st = 3 ∧ q.sel = none ∧ q.forced = false

theorem State.enterHold_holds (s : State) (cause : Nat) : (s.enterHold cause).time.sel.Holds := by
  unfold State.enterHold
  extract_lets src l short s1 s2 s3
  have h2 : s2.time = s1.time := by show (if short then s1 else _).time = _; split <;> rfl
  have h3 : s3.time = s1.time := by
    show (State.event _ _ _).time = _
    rw [State.event_time, State.time_refSwitched]
    exact h2
  split
  · rw [State.event_time, h3]
    exact ⟨rfl, rfl, rfl⟩
  · rw [h3]
    exact ⟨rfl, rfl, rfl⟩

/-- What follows where no reference may be selected: a decision for none in the delta of a pair, holdover in a lone unit. -/
def State.LeftWithNone (s t : State) : Prop :=
  if s.role = 1 then ∃ cause, Entry.reference none cause ∈ t.delta.entries else t.time.sel.Holds

section None
variable {s : State} {r : Nat} (hsel : s.time.sel.sel = some r) (hgone : (s.ref r).present = false)
  (hnone : ∀ q ∈ s.prio, s.eligible q = false)
include hsel hgone hnone

theorem refChoice_none (ended : Bool) : ∃ cause, refChoice s ended = some (none, cause) := by
  unfold refChoice
  rw [hsel]
  dsimp only
  rw [if_neg (by simp [State.eligible_of_absent hgone]), State.preferred_none hnone]
  exact ⟨_, rfl⟩

theorem State.decide'_leftWithNone (ended : Bool) : s.LeftWithNone (s.decide' ended) := by
  obtain ⟨cause, h⟩ := refChoice_none hsel hgone hnone ended
  unfold State.LeftWithNone State.decide'
  rw [h]
  dsimp only
  split
  · exact s.enterRef_entered none cause
  · exact s.enterHold_holds cause

theorem State.reselect_leftWithNone (hrole : s.role ≠ 2) (hre : s.integ.restarting = false) : s.LeftWithNone s.reselect := by
  unfold State.reselect
  rw [if_neg (by simp [hrole, hre])]
  split
  · rw [hsel]
    dsimp only
    rw [if_neg (by simp [hgone])]
    exact State.decide'_leftWithNone (s := s.modSel fun t => { t with forced := false }) hsel hgone hnone true
  · exact State.decide'_leftWithNone hsel hgone hnone false

end None

/-! ### References lost and present (R290) -/

/-- The record of a reference that is lost. -/
def Ref.lost (q : Ref) : Ref := { q with present := false, wtr := false, ovr := 0, inTol := 0 }

/-- The state in which the loss of reference `r` has been told. -/
def State.lostTold (s : State) (r : Nat) : State := (s.modRef r Ref.lost).refQuality r

theorem State.refLost_eq {s : State} {r : Nat} (h : (s.ref r).present = true) : s.refLost r = (s.lostTold r).reselect := if_pos h

theorem State.time_lostTold (s : State) (r : Nat) : (s.lostTold r).time = (s.modRef r Ref.lost).time := State.event_time ..

theorem ref_of_refs {s t : State} (h : t.time.refs = s.time.refs) (q : Nat) : t.ref q = s.ref q := congrArg (nth ({} : Ref) · q) h

section Lost
variable {s : State} {r : Nat} (hr : r < s.time.refs.length)
include hr

theorem State.ref_lostTold_self : (s.lostTold r).ref r = (s.ref r).lost := by
  rw [ref_of_refs (congrArg TimeU.refs (s.time_lostTold r)), State.ref_modRef_self _ _ _ hr]

omit hr in
theorem State.ref_lostTold_ne {q : Nat} (hq : q ≠ r) : (s.lostTold r).ref q = s.ref q := by
  rw [ref_of_refs (congrArg TimeU.refs (s.time_lostTold r)), State.ref_modRef_ne _ _ hq]

/-- Where the selected reference alone was eligible, its loss leaves none. -/
theorem State.lostTold_leftWithNone (hrole : s.role ≠ 2) (hre : s.integ.restarting = false) (hsel : s.time.sel.sel = some r)
    (hp : s.prio.all (fun q => q = r || !s.eligible q) = true) : s.LeftWithNone (s.lostTold r).reselect := by
  have hsame : (s.lostTold r).time.sel = s.time.sel := (congrArg TimeU.sel (s.time_lostTold r) :)
  have hptp : (s.lostTold r).time.ptp = s.time.ptp := (congrArg TimeU.ptp (s.time_lostTold r) :)
  have hrole' : (s.lostTold r).role = s.role := State.event_role ..
  have hgone : ((s.lostTold r).ref r).present = false := by rw [State.ref_lostTold_self hr]; rfl
  have hprio : (s.lostTold r).prio = s.prio :=
    State.prio_congr fun o ho => State.reg_event _ _ _ (by unfold aClksel aPcie; omega)
  have hnone : ∀ q ∈ (s.lostTold r).prio, (s.lostTold r).eligible q = false := fun q hq => by
    by_cases hqr : q = r
    · rw [hqr]
      exact State.eligible_of_absent hgone
    · rw [State.eligible_congr (State.ref_lostTold_ne hqr) hsame hptp (State.event_render ..)]
      simpa [hqr] using List.all_eq_true.mp hp q (hprio ▸ hq)
  have h := State.reselect_leftWithNone ((congrArg Sel.sel hsame).trans hsel) hgone hnone (hrole' ▸ hrole)
    ((State.event_restarting ..).trans hre)
  unfold State.LeftWithNone at h ⊢
  rwa [hrole'] at h

end Lost

/-! ### What judging a reference leaves of it -/

/-- What was measured of a reference; and, of an absent one, its level. -/
def Ref.seen (q : Ref) : Bool × Int × Int × Bool × Option Nat :=
  (q.present, q.phase, q.freq, q.misaligned, if q.present then none else some q.level)

theorem Ref.seen_second {q : Ref} (h : q.present = true) (d : Int) : (q.second d).seen = q.seen := by
  have hkeep : (q.second d).present = q.present ∧ (q.second d).phase = q.phase ∧ (q.second d).freq = q.freq ∧
      (q.second d).misaligned = q.misaligned := by
    unfold Ref.second
    dsimp only
    split
    · exact ⟨rfl, rfl, rfl, rfl⟩
    · split
      · split <;> exact ⟨rfl, rfl, rfl, rfl⟩
      · split <;> exact ⟨rfl, rfl, rfl, rfl⟩
  obtain ⟨hp, hphase, hfreq, hmis⟩ := hkeep
  unfold Ref.seen
  rw [hp, hphase, hfreq, hmis, if_pos h, if_pos h]

/-- Of the references, `r` alone may be judged anew, and L's rate is as it was. -/
structure Regraded (r : Nat) (s t : State) : Prop where
  others : ∀ q, q ≠ r → t.ref q = s.ref q
  seen : (t.ref r).seen = (s.ref r).seen
  rate : t.rate 2 = s.rate 2

namespace Regraded
variable {r : Nat} {s0 s t : State}

theorem refl (s : State) : Regraded r s s := ⟨fun _ _ => rfl, rfl, rfl⟩

theorem trans (h : Regraded r s0 s) (k : Regraded r s t) : Regraded r s0 t :=
  ⟨fun q hq => (k.others q hq).trans (h.others q hq), k.seen.trans h.seen, k.rate.trans h.rate⟩

theorem ite {c : Prop} [Decidable c] (hs : Regraded r s0 s) (ht : Regraded r s0 t) : Regraded r s0 (if c then s else t) := by
  split <;> assumption

theorem event (s : State) (code : Nat) (payload : List Byte) : Regraded r s (s.event code payload) :=
  have href := ref_of_refs (congrArg TimeU.refs (s.event_time code payload))
  ⟨fun q _ => href q, congrArg Ref.seen (href r), congrArg BitVec.toInt (s.reg_event code payload (by decide))⟩

theorem modRef (s : State) {f : Ref → Ref} (hf : (f (s.ref r)).seen = (s.ref r).seen) : Regraded r s (s.modRef r f) := by
  refine ⟨fun q hq => State.ref_modRef_ne s f hq, ?_, rfl⟩
  by_cases hl : r < s.time.refs.length
  · rw [State.ref_modRef_self s r f hl, hf]
  · rw [State.modRef, List.modify_eq_self (by omega)]

theorem noteQuality (s : State) (old : Ref) : Regraded r s (s.noteQuality r old) := .ite (.event ..) (.refl s)
theorem startWtr (s : State) : Regraded r s (s.startWtr r) := .ite (.modRef s rfl) (.refl s)

theorem setIntrinsic (hp : (s.ref r).present = true) (i : Nat) : Regraded r s (s.setIntrinsic r i) := by
  unfold State.setIntrinsic
  extract_lets q lvl s1 s2
  have h1 : Regraded r s s1 := .modRef s (by simp [Ref.seen, hp])
  have h2 : Regraded r s s2 := .ite (h1.trans (.startWtr s1)) h1
  exact h2.trans (.noteQuality ..)

theorem refSecond (s : State) (r : Nat) : Regraded r s (s.refSecond r) := by
  unfold State.refSecond
  extract_lets old s1 s2
  split
  · exact .refl s
  · next hp =>
    have h1 : Regraded r s s1 := .modRef s (Ref.seen_second (by simpa using hp) _)
    have h2 : Regraded r s s2 := .ite (h1.trans (.startWtr s1)) h1
    exact h2.trans (.noteQuality ..)

theorem seen_all (h : Regraded r s t) (q : Nat) : (t.ref q).seen = (s.ref q).seen := by
  by_cases hq : q = r
  · rw [hq, h.seen]
  · rw [h.others q hq]

end Regraded

/-- What is seen of a present reference that has been measured, L's rate word being `rate` (R290, R296, R298). -/
def seenOf (m : RefMeas) (rate : Int) : Bool × Int × Int × Bool × Option Nat :=
  (true, m.phase, rate + m.freq, misalignedAt m.phase, none)

theorem Ref.shows {q : Ref} {m : RefMeas} {rate : Int} (h : q.seen = seenOf m rate) :
    q.present = true ∧ q.phase = m.phase ∧ q.freq = rate + m.freq ∧ q.misaligned = decide (1000000 < m.phase.natAbs) := by
  simp only [Ref.seen, seenOf, Prod.mk.injEq] at h
  obtain ⟨hp, hphase, hfreq, hmis, -⟩ := h
  exact ⟨hp, hphase, hfreq, hmis⟩

theorem Ref.same_of_seen {p q : Ref} (h : p.seen = q.seen) (hq : q.present = false) : p.phase = q.phase ∧ p.level = q.level := by
  have hp : p.present = false := (congrArg Prod.fst h).trans hq
  simp only [Ref.seen, Prod.mk.injEq, hp, hq] at h
  obtain ⟨-, hphase, -, -, hlevel⟩ := h
  exact ⟨hphase, Option.some.inj hlevel⟩

/-- A reference that is present is one of the ensemble. -/
theorem State.ref_lt {s : State} {r : Nat} (h : (s.ref r).present = true) : r < s.time.refs.length := by
  by_contra hr
  have hnone : s.ref r = {} := List.getD_eq_default _ _ (by omega)
  rw [hnone] at h
  exact absurd h (by decide)

theorem State.ref_measure_self {s : State} {r : Nat} (hr : r < s.time.refs.length) (m : RefMeas) : (s.measure r m).ref r =
    { s.ref r with phase := m.phase, freq := s.rate 2 + m.freq, misaligned := misalignedAt m.phase, grade := m.grade } :=
  State.ref_modRef_self s r _ hr

theorem State.ref_measure_ne (s : State) {q r : Nat} (m : RefMeas) (h : q ≠ r) : (s.measure r m).ref q = s.ref q := State.ref_modRef_ne s _ h

theorem State.seen_measure {s : State} {r : Nat} (hp : (s.ref r).present = true) (m : RefMeas) :
    ((s.measure r m).ref r).seen = seenOf m (s.rate 2) := by
  rw [State.ref_measure_self (State.ref_lt hp), Ref.seen, seenOf]
  dsimp only
  rw [if_pos hp, hp]

/-! ### A reference's conditions hold -/

/-- The state in which reference `r` is measured and marked present. -/
def State.marked (s : State) (r : Nat) (m : RefMeas) : State :=
  (s.measure r m).modRef r fun q => { q with present := true, ovr := 0, inTol := 0 }

theorem State.seen_marked {s : State} {r : Nat} (hr : r < s.time.refs.length) (m : RefMeas) :
    ((s.marked r m).ref r).seen = seenOf m (s.rate 2) := by
  have hl : r < (s.measure r m).time.refs.length := by rwa [State.measure, State.modRef, List.length_modify]
  rw [State.marked, State.ref_modRef_self _ _ _ hl, State.ref_measure_self hr]
  rfl

theorem State.ref_marked_ne (s : State) {q r : Nat} (m : RefMeas) (h : q ≠ r) : (s.marked r m).ref q = s.ref q :=
  (State.ref_modRef_ne _ _ h).trans (State.ref_measure_ne s m h)

theorem State.refPresent_eq {s : State} {r : Nat} (ha : (s.ref r).present = false) (hst : r ≤ 1 → (s.slot r).st = 1) (m : RefMeas) :
    s.refPresent r m = (((s.marked r m).startWtr r).setIntrinsic r (intrinsicOf (s.marked r m) r)).reselect := by
  refine if_neg ?_
  by_cases hr : r ≤ 1
  · simp [ha, hst hr]
  · simp [ha, hr]

theorem State.regraded_marked {s : State} {r : Nat} (hr : r < s.time.refs.length) (m : RefMeas) (i : Nat) :
    Regraded r (s.marked r m) (((s.marked r m).startWtr r).setIntrinsic r i) := by
  have hw : Regraded r (s.marked r m) ((s.marked r m).startWtr r) := .startWtr _
  have hp : (((s.marked r m).startWtr r).ref r).present = true := congrArg Prod.fst (hw.seen.trans (State.seen_marked hr m))
  exact hw.trans (.setIntrinsic hp i)

/-! ### Each second's measurements (R293) -/

/-- One second's measurement of reference `r`, where it is present. -/
def State.remeasured (ms : List RefMeas) (s : State) (r : Nat) : State :=
  if (s.ref r).present then match ms[r]? with
    | some m => let t := s.measure r m; t.setIntrinsic r (intrinsicOf t r)
    | none => s else s

theorem State.remeasured_absent (ms : List RefMeas) {s : State} {r : Nat} (h : (s.ref r).present = false) : s.remeasured ms r = s :=
  if_neg (by simp [h])

theorem State.remeasured_regraded {ms : List RefMeas} {s : State} {r : Nat} {m : RefMeas} (hp : (s.ref r).present = true)
    (hm : ms[r]? = some m) : Regraded r (s.measure r m) (s.remeasured ms r) := by
  have hmark : ((s.measure r m).ref r).present = true := congrArg Prod.fst (State.seen_measure hp m)
  unfold State.remeasured
  rw [if_pos hp, hm]
  exact .setIntrinsic hmark _

/-- A second's measurement of a reference changes no other, keeps its presence, and keeps L's rate. -/
theorem State.remeasured_spec (ms : List RefMeas) (s : State) (r : Nat) : (∀ q, q ≠ r → (s.remeasured ms r).ref q = s.ref q) ∧
    ((s.remeasured ms r).ref r).present = (s.ref r).present ∧ (s.remeasured ms r).rate 2 = s.rate 2 := by
  by_cases hp : (s.ref r).present = true
  · cases hm : ms[r]? with
    | none =>
      have hs : s.remeasured ms r = s := by unfold State.remeasured; rw [if_pos hp, hm]
      rw [hs]
      exact ⟨fun _ _ => rfl, rfl, rfl⟩
    | some m =>
      have h := State.remeasured_regraded hp hm
      exact ⟨fun q hq => (h.others q hq).trans (State.ref_measure_ne s m hq),
        (congrArg Prod.fst (h.seen.trans (State.seen_measure hp m))).trans hp.symm, h.rate⟩
  · rw [State.remeasured_absent ms (Bool.eq_false_iff.mpr hp)]
    exact ⟨fun _ _ => rfl, rfl, rfl⟩

theorem foldl_remeasured_absent (ms : List RefMeas) {r : Nat} (l : List Nat) : ∀ s : State, (s.ref r).present = false →
    (l.foldl (State.remeasured ms) s).ref r = s.ref r := by
  induction l with
  | nil => exact fun _ _ => rfl
  | cons a l ih =>
    intro s hs
    have ha : (s.remeasured ms a).ref r = s.ref r := by
      by_cases hr : r = a
      · rw [← hr, State.remeasured_absent ms hs]
      · exact (s.remeasured_spec ms a).1 r hr
    exact (ih _ (by rw [ha, hs])).trans ha

/-- A present reference that has been measured, or is still to be in this pass, is measured at its end. -/
theorem foldl_remeasured_present {ms : List RefMeas} {r : Nat} {m : RefMeas} (hm : ms[r]? = some m) (l : List Nat) : ∀ {s : State} {rate : Int},
    (s.ref r).present = true → s.rate 2 = rate → ((s.ref r).seen = seenOf m rate ∨ r ∈ l) →
    ((l.foldl (State.remeasured ms) s).ref r).seen = seenOf m rate := by
  induction l with
  | nil => exact fun _ _ h => h.resolve_right List.not_mem_nil
  | cons a l ih =>
    intro s rate hp hrate h
    obtain ⟨hothers, hpresent, hkeep⟩ := s.remeasured_spec ms a
    by_cases hr : r = a
    · subst hr
      refine ih (hpresent.trans hp) (hkeep.trans hrate) (.inl ?_)
      rw [(State.remeasured_regraded hp hm).seen, State.seen_measure hp, hrate]
    · have hsame := hothers r hr
      refine ih (by rw [hsame, hp]) (hkeep.trans hrate) (h.imp (by rw [hsame]; exact id) fun hmem => ?_)
      exact (List.mem_cons.mp hmem).resolve_left hr

theorem foldl_regraded_seen {f : State → Nat → State} (hf : ∀ s r, Regraded r s (f s r)) (l : List Nat) : ∀ (s : State) (q : Nat),
    ((l.foldl f s).ref q).seen = (s.ref q).seen := by
  induction l with
  | nil => exact fun _ _ => rfl
  | cons a l ih => exact fun s q => (ih _ q).trans ((hf s a).seen_all q)

/-- After the measurements, the second's judgements, timers and selection leave what is seen of each reference. -/
theorem State.seen_deviation (s : State) (ms : List RefMeas) (q : Nat) :
    ((s.deviation ms).ref q).seen = (((List.range 6).foldl (State.remeasured ms) s).ref q).seen := by
  unfold State.deviation
  extract_lets s1 s2 s3
  have h1 : s1 = (List.range 6).foldl (State.remeasured ms) s := rfl
  clear_value s1
  have h2 : (s2.ref q).seen = (s1.ref q).seen := foldl_regraded_seen Regraded.refSecond ..
  clear_value s2
  have h3 : (s3.ref q).seen = (s2.ref q).seen := by
    unfold s3
    split
    · exact foldl_regraded_seen (fun t r => .modRef t rfl) ..
    · rfl
  clear_value s3
  have hrates : s3.rateSecond.time.refs = s3.time.refs := by
    unfold State.rateSecond
    split
    · rfl
    · split <;> rfl
  rw [ref_of_refs (Reselected.reselect _ false).refs, ref_of_refs hrates, h3, h2, h1]

/-! ### A decision enters the delta at most (R303) -/

theorem State.delta_event (s : State) (code : Nat) (pl : List Byte) : (s.event code pl).delta = s.delta := (Tells.event ..).delta

theorem State.delta_refSwitched (s : State) (src dst : Option Nat) (cause : Nat) : (s.refSwitched src dst cause).delta = s.delta := by
  unfold State.refSwitched
  split
  · rfl
  · exact State.delta_event ..

theorem State.delta_selectRef (s : State) (r cause : Nat) (forced : Bool) : (s.selectRef r cause forced).delta = s.delta := by
  unfold State.selectRef
  extract_lets src first s1 s2
  rw [State.delta_refSwitched]
  show (if s.time.sel.st = 3 then s.event _ _ else s).delta = s.delta
  split
  · exact State.delta_event ..
  · rfl

theorem State.delta_enterHold (s : State) (cause : Nat) : (s.enterHold cause).delta = s.delta := by
  unfold State.enterHold
  extract_lets src l short s1 s2 s3
  have h2 : s2.delta = s.delta := by show (if short then s1 else _).delta = _; split <;> rfl
  have h3 : s3.delta = s.delta := by
    show (State.event _ _ _).delta = _
    rw [State.delta_event, State.delta_refSwitched]
    exact h2
  split
  · rw [State.delta_event, h3]
  · exact h3

theorem State.delta_toRef (s : State) (ref : Option Nat) (cause : Nat) : (s.toRef ref cause).delta = s.delta := by
  cases ref with
  | none => exact State.delta_enterHold ..
  | some r => exact State.delta_selectRef ..

theorem State.entries_enterRef (s : State) (ref : Option Nat) (cause : Nat) :
    ∃ more, (s.enterRef ref cause).delta.entries = s.delta.entries ++ more := by
  unfold State.enterRef
  dsimp only
  split
  · exact ⟨[], (List.append_nil _).symm⟩
  · exact ⟨_, rfl⟩

theorem State.entries_decide' (s : State) (ended : Bool) : ∃ more, (s.decide' ended).delta.entries = s.delta.entries ++ more := by
  unfold State.decide'
  split
  · split
    · exact State.entries_enterRef ..
    · exact ⟨[], by rw [State.delta_toRef, List.append_nil]⟩
  · exact ⟨[], (List.append_nil _).symm⟩

theorem State.entries_reselect (s : State) (ended : Bool) : ∃ more, (s.reselect ended).delta.entries = s.delta.entries ++ more := by
  have hnil : ∃ more, s.delta.entries = s.delta.entries ++ more := ⟨[], (List.append_nil _).symm⟩
  unfold State.reselect
  split
  · exact hnil
  · split
    · split
      · split
        · exact hnil
        · exact State.entries_decide' ..
      · exact hnil
    · exact State.entries_decide' ..

/-! ### Levels (R293) -/

section Second
variable (q : Ref) (d : Int)

theorem Ref.dev_second : (q.second d).dev = d := by
  unfold Ref.second
  dsimp only
  split
  · rfl
  · split
    · split <;> rfl
    · split <;> rfl

theorem Ref.level_second_disqualified (h : q.disq < d.natAbs) : (q.second d).level = 7 := by
  unfold Ref.second
  dsimp only
  rw [if_pos h]

theorem Ref.level_second_over (h : d.natAbs ≤ q.disq) (ht : q.tol < d.natAbs) :
    (q.second d).level = if q.dwell ≤ q.ovr + 1 ∧ q.level < 6 then q.level + 1 else q.level := by
  unfold Ref.second
  dsimp only
  rw [if_neg (by omega), if_pos ht]
  by_cases hd : q.dwell ≤ q.ovr + 1
  · rw [if_pos hd]
    simp only [hd, true_and]
  · rw [if_neg hd, if_neg (by simp [hd])]

theorem Ref.level_second_within (h : d.natAbs ≤ q.disq) (ht : d.natAbs ≤ q.tol) : (q.second d).level =
    if q.dwell ≤ q.inTol + 1 then (if q.level = 7 then q.intrinsic else max (min q.level q.intrinsic) (q.level - 1)) else q.level := by
  unfold Ref.second
  dsimp only
  rw [if_neg (by omega), if_neg (by omega)]
  by_cases hd : q.dwell ≤ q.inTol + 1
  · rw [if_pos hd, if_pos hd]
    dsimp only
    split
    · rfl
    · split <;> omega
  · rw [if_neg hd, if_neg hd]

end Second

/-! ### The pull (R298) -/

theorem sat_eq (x : Int) : sat 32 x = max (-(2 ^ 31)) (min (2 ^ 31 - 1) x) := by
  unfold sat smax smin
  split
  · omega
  · split <;> omega

theorem State.rate_setRate_self (s : State) (b : Nat) (x : Int) : (s.setRate b x).rate b = max (-(2 ^ 31)) (min (2 ^ 31 - 1) x) := by
  have hword : ∀ y : Int, -(2 ^ 31) ≤ y → y < 2 ^ 31 → (BitVec.ofInt 32 y).toInt = y := fun y hlo hhi =>
    BitVec.toInt_ofInt_eq_self (by decide) hlo hhi
  rw [State.rate, State.setRate, State.reg_setReg_self, sat_eq]
  exact hword _ (by omega) (by omega)

/-- Locked, the correction follows the phase within the slope. -/
theorem pullU_locked (slope : Nat) (u e : Int) : (pullU slope true u e).natAbs ≤ slope ∧ (e = 0 → pullU slope true u e = 0) := by
  unfold pullU clampI
  simp only [if_true]
  refine ⟨?_, fun he => ?_⟩
  · split
    · omega
    · split <;> omega
  · subst he
    have h0 : divEven (0 * 2 ^ 40) 10000000000 = 0 := by decide
    rw [h0]
    split
    · omega
    · split <;> omega

/-- Whether the selector locks, or stays locked, at a phase. -/
def Sel.locks (q : Sel) (phase : Int) : Bool := q.st == 2 || decide (phase.natAbs ≤ 50)

/-- The correction after a control step. -/
def State.pulledU (s : State) (phase : Int) : Int := pullU s.slope (s.time.sel.locks phase) s.time.sel.u phase

theorem State.pull_eq {s : State} {r : Nat} {m : RefMeas} (hsel : s.time.sel.sel = some r) (hp : (s.ref r).present = true)
    (hstep : s.time.sel.stepTo = none) (hst : s.time.sel.st = 1 ∨ s.time.sel.st = 2)
    (hmis : (s.ref r).misaligned = decide (1000000 < m.phase.natAbs)) :
    s.pull m = ((s.measure r m).modSel fun t => { t with st := if s.time.sel.locks m.phase then 2 else 1, u := s.pulledU m.phase }).setRate 2
      (s.rate 2 + m.freq + s.pulledU m.phase) := by
  have hfreq : ((s.measure r m).ref r).freq = s.rate 2 + m.freq := by rw [State.ref_measure_self (State.ref_lt hp)]
  have hgo : (!(s.ref r).present || s.time.sel.stepTo.isSome || !(s.time.sel.st == 1 || s.time.sel.st == 2)) = false := by
    obtain h | h := hst
    · simp [hp, hstep, h]
    · simp [hp, hstep, h]
  unfold State.pull
  rw [hsel]
  dsimp only
  rw [if_neg (by rw [hgo]; decide), if_neg (by rw [hmis]; exact fun h => h rfl), hfreq]
  rfl

/-! ### Holdover (R301) -/

/-- The selector after one more second of holdover. -/
def Sel.older (q : Sel) : Sel := { q with holdS := q.holdS + 1 }

/-- The held rate or phase is beyond its limits. -/
def Sel.strays (q : Sel) : Bool := (q.fu + driftAt q.stab q.holdS) * 1000000 > 2 ^ 40 || phaseErr q > q.holdLimit

theorem Sel.strays_iff (q : Sel) :
    q.strays = true ↔ 2 ^ 40 < (q.fu + driftAt q.stab q.holdS) * 1000000 ∨ q.holdLimit < phaseErr q := by
  simp [Sel.strays]

theorem exec_holdoverEval {s : State} (hst : s.time.sel.st = 3) (hre : s.integ.restarting = false) : exec .holdoverEval s =
    if s.time.sel.older.strays && !s.time.sel.outSpec then
      .next (((s.modSel Sel.older).modSel fun t => { t with outSpec := true }).event 0x8802 [1, 0, 0, 0])
    else .next (s.modSel Sel.older) := by
  change (if _ then _ else _ : Host.Outcome State Fault Refusal) = _
  rw [if_neg (by simp [hst, hre])]
  rfl

/-- A second of holdover is counted, and marked once the device strays. -/
theorem holdoverEval_spec {s : State} (hst : s.time.sel.st = 3) (hre : s.integ.restarting = false) :
    ∃ t, exec .holdoverEval s = .next t ∧ t.time.refs = s.time.refs ∧
      t.time.sel = { s.time.sel.older with outSpec := s.time.sel.outSpec || s.time.sel.older.strays } := by
  rw [exec_holdoverEval hst hre]
  split
  · next h =>
    obtain ⟨hstrays, hin⟩ := Bool.and_eq_true_iff.mp h
    refine ⟨_, rfl, ?_⟩
    rw [State.event_time, hstrays, Bool.or_true]
    exact ⟨rfl, rfl⟩
  · next h =>
    have hsame : (s.time.sel.outSpec || s.time.sel.older.strays) = s.time.sel.outSpec := by
      cases ho : s.time.sel.outSpec with
      | true => rfl
      | false => simpa [ho] using h
    refine ⟨_, rfl, rfl, ?_⟩
    rw [hsame]
    rfl

/-- Settles O34: references by what losing, marking and judging one leave of it, a decision for none by `State.LeftWithNone`, levels
by `Ref.second`, and the pull and holdover by their equations. -/
theorem referencesAndLevelsMove : Obligations.ReferencesAndLevelsMove := by
  unfold Obligations.ReferencesAndLevelsMove
  refine ⟨fun s hs => ⟨fun r hp => ?lost, fun r m ha hst => ?present, fun r hw hre => ?restored, fun ms hre => ?measured⟩,
    fun q d => ⟨q.dev_second d, q.level_second_disqualified d, q.level_second_over d, q.level_second_within d⟩,
    fun s r m hre hsel hp hstep hst hmis => ?pull, fun s hst hre => ?holdover⟩
  case lost =>
    have hr : r.val < s.time.refs.length := State.ref_lt hp
    have hrefs := ref_of_refs (Reselected.reselect (s.lostTold r.val) false).refs
    refine ⟨_, congrArg Host.Outcome.next (State.refLost_eq hp), ?_, ?_, fun q hq => ?_, fun hrole hre hsel hall => ?_⟩
    · rw [hrefs, State.ref_lostTold_self hr]
      rfl
    · rw [hrefs, State.ref_lostTold_self hr]
      rfl
    · rw [hrefs, State.ref_lostTold_ne hq]
    · exact State.lostTold_leftWithNone hr hrole hre hsel hall
  case present =>
    have hr : r.val < s.time.refs.length := by rw [hs.refs]; exact r.isLt
    have hg := State.regraded_marked hr m (intrinsicOf (s.marked r.val m) r.val)
    have hrefs := ref_of_refs (Reselected.reselect (((s.marked r.val m).startWtr r.val).setIntrinsic r.val
      (intrinsicOf (s.marked r.val m) r.val)) false).refs
    obtain ⟨hpresent, hphase, hfreq, hmis⟩ := Ref.shows (hg.seen.trans (State.seen_marked hr m))
    refine ⟨_, congrArg Host.Outcome.next (State.refPresent_eq ha hst m), ?_⟩
    rw [hrefs]
    exact ⟨hpresent, hphase, hfreq, hmis, fun q hq => by rw [hrefs, hg.others q hq, State.ref_marked_ne s m hq]⟩
  case restored =>
    have hr : r.val < s.time.refs.length := by rw [hs.refs]; exact r.isLt
    obtain ⟨more, hmore⟩ := State.entries_reselect
      ((s.modRef r.val fun q => { q with wtr := false, wtrLeft := 0 }).enter (.timer (.waitToRestore r.val))) false
    refine ⟨_, more, if_pos (by simp [hw, hre]), ?_, hmore.trans (List.append_assoc ..)⟩
    rw [ref_of_refs (Reselected.reselect _ false).refs]
    exact congrArg Ref.wtr (State.ref_modRef_self s r.val _ hr)
  case measured =>
    refine ⟨_, congrArg Host.Outcome.next (if_neg (by simp [hre])), fun r => ⟨fun hp m hm => ?_, fun ha => ?_⟩⟩
    · obtain ⟨-, hphase, hfreq, -⟩ := Ref.shows ((s.seen_deviation ms r.val).trans
        (foldl_remeasured_present hm _ hp rfl (.inr (List.mem_range.mpr r.isLt))))
      exact ⟨hphase, hfreq⟩
    · exact Ref.same_of_seen ((s.seen_deviation ms r.val).trans (congrArg Ref.seen (foldl_remeasured_absent ms _ s ha))) ha
  case pull =>
    refine ⟨_, congrArg Host.Outcome.next ((if_neg (by simp [hre])).trans (State.pull_eq hsel hp hstep hst hmis)),
      State.rate_setRate_self .., ?_, fun hlocked => ?_, hsel, rfl⟩
    · show (if s.time.sel.locks m.phase then 2 else 1) = _
      simp [Sel.locks]
    · have hl : s.time.sel.locks m.phase = true := by
        by_contra hn
        exact absurd ((if_neg hn).symm.trans hlocked) (by decide)
      have hu : s.pulledU m.phase = pullU s.slope true s.time.sel.u m.phase := by rw [State.pulledU, hl]
      show (s.pulledU m.phase).natAbs ≤ s.slope ∧ (m.phase = 0 → s.pulledU m.phase = 0)
      rw [hu]
      exact pullU_locked ..
  case holdover =>
    obtain ⟨t, ht, hrefs, hsel⟩ := holdoverEval_spec hst hre
    refine ⟨t, ht, ?_⟩
    rw [hsel]
    exact ⟨rfl, hst, Bool.or_eq_true_iff.trans (or_congr_right (Sel.strays_iff _)), hrefs⟩

end Sys2Proof.Machine

/-! PTP slots (O35). -/

namespace Sys2Proof.Machine

/-! ### A slot and its state (R281 to R283) -/

theorem State.slot_modPtp_ne (s : State) {j d : Nat} (f : Ptp → Ptp) (h : j ≠ d) : (s.modPtp d f).slot j = s.slot j :=
  nth_modify_ne _ _ _ h

theorem State.st_leaveSlave (s : State) {d : Nat} (st : Nat) (h : d < s.time.ptp.length) : ((s.leaveSlave d st).slot d).st = st := by
  unfold State.leaveSlave
  extract_lets was s1
  have h1 : (s1.slot d).st = st := congrArg Ptp.st (s.slot_modPtp_self d _ h)
  split
  · rw [slot_of_ptp (RefsKept.refLost s1 d).ptp, h1]
  · exact h1

/-- Whether an Announce from `src` makes the slot a slave anew. -/
def Ptp.entersBy (p : Ptp) (src : Nat) : Bool := p.st ≠ 1 || !p.hasGm || src ≠ p.gmSrc

/-- A slave of the grandmaster whose Announce it took. -/
def Ptp.enslaved (p : Ptp) (anew : Bool) (src cls acc key : Nat) : Ptp :=
  { p with st := 1, hasGm := true, gmSrc := src, gmClass := cls, gmAcc := acc, gmKey := key, steered := p.steered && !anew }

section Message
variable {s : State} {d : Nat} (he : (s.slot d).enable = true)
include he

/-- The Announce of a first grandmaster, of the slot's own, or of a better one is taken. -/
theorem State.ptp_announce {src key : Nat} (h : (s.slot d).hasGm = false ∨ src = (s.slot d).gmSrc ∨ key < (s.slot d).gmKey) (cls acc : Nat) :
    (s.ptpMessage d (.announce (s.slot d).dom src cls acc key false)).time.ptp =
      (s.modPtp d fun q => q.enslaved ((s.slot d).entersBy src) src cls acc key).time.ptp := by
  have hbetter : ((s.slot d).hasGm && src ≠ (s.slot d).gmSrc && key ≥ (s.slot d).gmKey) = false := by
    obtain h | h | h := h
    · simp [h]
    · simp [h]
    · simp [h]
  unfold State.ptpMessage
  dsimp only
  rw [if_neg (by simp [he]), if_neg (by simp), if_neg (by simp), if_neg (by rw [hbetter]; decide)]
  exact ((RefsKept.setIntrinsic ..).trans (.reselect ..)).ptp

theorem State.ptpMessage_sync (hst : (s.slot d).st = 1) (seq : Nat) (o a : Int) :
    s.ptpMessage d (.sync (s.slot d).dom seq false o a) = s.steer d (a - o - (s.slot d).delay) := by
  unfold State.ptpMessage
  dsimp only
  rw [if_neg (by simp [he]), if_neg (by simp [hst]), if_neg (by decide)]

end Message

/-- The first offset, and one above 100 µs, is removed by a step. -/
theorem State.steer_step {s : State} {d : Nat} {off : Int} (h : (s.slot d).steered = false ∨ 100000 < off.natAbs) :
    s.steer d off = (s.stepBase d (-off)).modPtp d fun q => { q with steered := true } := by
  unfold State.steer
  exact if_pos (by simpa using h)

/-- A later small one is removed through the rate word. -/
theorem State.steer_rate {s : State} {d : Nat} {off : Int} (h : (s.slot d).steered = true) (ho : off.natAbs ≤ 100000) :
    s.steer d off = s.fresh.2.setRate d (Config.freeInt s.freeCtr d) := by
  unfold State.steer
  exact if_neg (by simp [h, ho])

@[simp] theorem State.ptp_stepBase (s : State) (b : Nat) (ns : Int) : (s.stepBase b ns).time.ptp = s.time.ptp := by
  unfold State.stepBase State.setBase
  split
  · rfl
  · split <;> rfl

/-! ### What a slot sends (R283) -/

/-- Port `k` is open to Ganen's frames: its link is up, in a domain that runs, and no pause holds it. -/
structure OpenPort (s : State) (k : Nat) : Prop where
  up : (s.np k).up = true
  on : s.netOn = true
  unpaused : (s.np k).pause = 0

theorem OpenPort.place {s : State} {k : Nat} (h : OpenPort s k) (kind : String) (fs : List Nat) :
    s.place k 2 (.msg kind fs) = (s.emit (.net k kind fs)).count (aNet k + 0xC0) := State.place_open h.up h.on h.unpaused 2 _

/-- A message that leaves leaves the port open. -/
theorem OpenPort.sent {s : State} {k : Nat} (h : OpenPort s k) (o : OutMsg) (c : Nat) : OpenPort ((s.emit o).count c) k := by
  have hnp : ((s.emit o).count c).np k = s.np k := by rw [State.np, State.count_net]; rfl
  have hon : ((s.emit o).count c).netOn = s.netOn := by rw [State.netOn, State.count_power]; rfl
  exact ⟨hnp ▸ h.up, hon ▸ h.on, hnp ▸ h.unpaused⟩

theorem State.slot_place (s : State) (k r : Nat) (f : OwnFrame) (d : Nat) : (s.place k r f).slot d = s.slot d :=
  (Calm.place ..).toTidied.slot d

theorem State.ptp_place (s : State) (k r : Nat) (f : OwnFrame) : (s.place k r f).time.ptp = s.time.ptp := by rw [(Calm.place ..).time]

/-! ### Ganen runs: its part of a slot's work is done -/

section Running
variable {s : State} {d : Fin 2} (hre : s.integ.restarting = false)
include hre

theorem exec_ptpMessage (m : PtpMsg) : exec (.ptpMessage d m) s = .next (s.ptpMessage d.val m) :=
  congrArg Host.Outcome.next (if_neg (by simp [hre]))

theorem exec_ptpAnnounceTimeout (he : (s.slot d.val).enable = true) (hst : (s.slot d.val).st ≠ 2) : exec (.ptpAnnounceTimeout d) s =
    .next (s.leaveSlave d.val (if (s.slot d.val).master then 2 else 0)).reselect := if_neg (by simp [he, hst, hre])

theorem exec_ptpSyncInterval_sync (h : (s.slot d.val).st = 2) : exec (.ptpSyncInterval d 0) s =
    .next (((s.place (s.slot d.val).port 2 (.msg "Sync" [(s.slot d.val).dom, (s.slot d.val).seqSync])).place (s.slot d.val).port 2
      (.msg "Follow_Up" [(s.slot d.val).dom, (s.slot d.val).seqSync, s.base d.val / 2 ^ 48])).modPtp d.val fun q =>
        { q with seqSync := (q.seqSync + 1) % 2 ^ 16 }) := by
  change (if _ then _ else if _ then _ else if _ then _ else if _ then _ else _ : Host.Outcome State Fault Refusal) = _
  rw [if_neg (by simp [hre]), if_pos ⟨h, rfl⟩]

theorem exec_ptpSyncInterval_announce (h : (s.slot d.val).st = 2) : exec (.ptpSyncInterval d 1) s =
    .next ((s.place (s.slot d.val).port 2 (.msg "Announce" [(s.slot d.val).dom, (s.slot d.val).seqAnn, 248, 0xFE, (s.slot d.val).prio1,
      (s.slot d.val).prio2])).modPtp d.val fun q => { q with seqAnn := (q.seqAnn + 1) % 2 ^ 16 }) := by
  change (if _ then _ else if _ then _ else if _ then _ else if _ then _ else _ : Host.Outcome State Fault Refusal) = _
  rw [if_neg (by simp [hre]), if_neg (by simp), if_pos ⟨h, rfl⟩]

theorem exec_ptpSyncInterval_delayReq (h : (s.slot d.val).st = 1) : exec (.ptpSyncInterval d 2) s =
    .next ((s.place (s.slot d.val).port 2 (.msg "Delay_Req" [(s.slot d.val).dom, (s.slot d.val).seqDly])).modPtp d.val fun q =>
      { q with seqDly := (q.seqDly + 1) % 2 ^ 16 }) := by
  change (if _ then _ else if _ then _ else if _ then _ else if _ then _ else _ : Host.Outcome State Fault Refusal) = _
  rw [if_neg (by simp [hre]), if_neg (by simp), if_neg (by simp), if_pos ⟨h, rfl⟩]

end Running

/-- Settles O35: messages and timeouts by what each leaves of the slots, offsets by `State.steer`, and what a slot sends by the open
port. -/
theorem ptpSlotsFollowTheirMessages : Obligations.PtpSlotsFollowTheirMessages := by
  unfold Obligations.PtpSlotsFollowTheirMessages
  refine ⟨fun s d src cls acc key hs hre he h => ?announce, fun s d seq o a hs hre he hst => ⟨fun h => ?step, fun hsteered ho => ?rate⟩,
    fun s d hs hre he hst => ?timeout, fun s d hs hre hup hon hp => ?sends⟩
  all_goals have hd : d.val < s.time.ptp.length := by rw [hs.ptp]; exact d.isLt
  case announce =>
    have ht := slot_of_ptp (State.ptp_announce he h cls acc)
    refine ⟨_, exec_ptpMessage hre _, ?_⟩
    rw [ht, ht, State.slot_modPtp_self _ _ _ hd, State.slot_modPtp_ne _ _ (by omega)]
    exact ⟨rfl, rfl, rfl, rfl, rfl, rfl⟩
  case step =>
    refine ⟨_, exec_ptpMessage hre _, ?_⟩
    rw [State.ptpMessage_sync he hst, State.steer_step h]
    refine ⟨?_, ?_, ?_⟩
    · exact (State.base_stepBase_self ..).trans (by rw [Int.neg_mul, ← Int.sub_eq_add_neg])
    · rw [State.slot_modPtp_self _ _ _ (by rwa [State.ptp_stepBase])]
    · exact State.regs_stepBase ..
  case rate =>
    refine ⟨_, exec_ptpMessage hre _, ?_⟩
    rw [State.ptpMessage_sync he hst, State.steer_rate hsteered ho]
    exact ⟨fun _ => rfl, fun r hr => State.reg_setReg_ne _ _ hr⟩
  case timeout =>
    refine ⟨_, exec_ptpAnnounceTimeout hre he hst, ?_⟩
    rw [slot_of_ptp (RefsKept.reselect _ false).ptp, State.st_leaveSlave _ _ hd]
  case sends =>
    have hopen : OpenPort s (s.slot d.val).port := ⟨hup, hon, hp⟩
    refine ⟨fun hst => ⟨?sync, ?announce⟩, fun hst => ?delayReq⟩
    case sync =>
      refine ⟨_, exec_ptpSyncInterval_sync hre hst, ?_, ?_⟩
      · rw [hopen.place, (hopen.sent ..).place, State.modPtp_out, State.count_out, State.emit_out, State.count_out]
        rfl
      · rw [State.slot_modPtp_self _ _ _ (by rwa [State.ptp_place, State.ptp_place]), State.slot_place, State.slot_place]
    case announce =>
      refine ⟨_, exec_ptpSyncInterval_announce hre hst, ?_, ?_⟩
      · rw [hopen.place]
        exact State.count_out ..
      · rw [State.slot_modPtp_self _ _ _ (by rwa [State.ptp_place]), State.slot_place]
    case delayReq =>
      refine ⟨_, exec_ptpSyncInterval_delayReq hre hst, ?_, ?_⟩
      · rw [hopen.place]
        exact State.count_out ..
      · rw [State.slot_modPtp_self _ _ _ (by rwa [State.ptp_place]), State.slot_place]

end Sys2Proof.Machine

/-! What the operations on an audio port do to it (O36, O37). -/

namespace Sys2Proof.Machine

/-! ### States of a port (R312) -/

/-- No session has subscribed to events of the audio ports. -/
def PortsUnheard (s : State) : Prop := ∀ x < 8, (s.sess x).mask.testBit 9 = false

/-- With no session to hear it, a change of a port's state sends no event. -/
theorem State.portEvent_unheard {s : State} (h : PortsUnheard s) (p : Nat) : s.portEvent p = s :=
  (congrArg (ite _ s) (s.eventAny_none _ _ fun x hx => by rw [h x hx, Bool.and_false])).trans (ite_self s)

theorem State.portTo_unheard {s : State} (h : PortsUnheard s) {p st : Nat} (hst : (s.port p).st ≠ st) :
    s.portTo p st = s.modPort p fun q => { q with st := st } :=
  (if_neg hst).trans (State.portEvent_unheard (s := s.modPort p fun q => { q with st := st }) h p)

theorem State.port_portEvent (s : State) (p j : Nat) : (s.portEvent p).port j = s.port j := (State.portEvent_calm s p).toTidied.portOf j

theorem State.port_portTo_self {s : State} {p : Nat} (hp : p < s.ports.port.length) (st : Nat) :
    (s.portTo p st).port p = { s.port p with st := st } := by
  unfold State.portTo
  split
  · next h => subst h; rfl
  · rw [State.port_portEvent, State.port_modPort_self _ _ _ hp]

theorem State.port_portTo_ne (s : State) (st : Nat) {p j : Nat} (h : j ≠ p) : (s.portTo p st).port j = s.port j := by
  unfold State.portTo
  split
  · rfl
  · rw [State.port_portEvent, State.port_modPort_ne _ _ h]

theorem State.port_count (s : State) (k n p : Nat) : (s.count k n).port p = s.port p :=
  congrArg (fun m : Ports => nth ({} : Port) m.port p) (State.count_ports ..)

theorem State.Shape.port_lt {s : State} (h : s.Shape) (p : Fin 16) : p.val < s.ports.port.length := by
  rw [h.ports]
  exact p.isLt

theorem State.modPort_modPort (s : State) (p : Nat) (f g : Port → Port) : (s.modPort p f).modPort p g = s.modPort p (g ∘ f) := by
  simp only [State.modPort, List.modify_modify_eq]

/-! ### What moves one port alone -/

/-- SIDETONE_ERR is no control word and no mask of a port. -/
theorem aPort_ne_sideErr {p o : Nat} (h : o % 0x40 ≠ 4) : aPort p + o ≠ aSide + 4 := by
  unfold aPort aTdm aSide
  omega

/-- Of the ports and the registers nothing but port `p` and side-tone's errors has moved. -/
structure PortAlone (p : Nat) (s t : State) : Prop where
  reg : ∀ a, a ≠ aSide + 4 → t.reg a = s.reg a
  len : t.ports.port.length = s.ports.port.length
  other : ∀ j, j ≠ p → t.port j = s.port j

namespace PortAlone
variable (s : State) (p : Nat)

theorem trans {p : Nat} {a b c : State} (h : PortAlone p a b) (k : PortAlone p b c) : PortAlone p a c :=
  ⟨fun r hr => (k.reg r hr).trans (h.reg r hr), k.len.trans h.len, fun j hj => (k.other j hj).trans (h.other j hj)⟩

theorem modPort (f : Port → Port) : PortAlone p s (s.modPort p f) :=
  ⟨fun _ _ => rfl, State.ports_modPort .., fun _ hj => State.port_modPort_ne s f hj⟩

theorem portRx (f : TdmFrame) : PortAlone p s (s.portRx p f) := .modPort ..

theorem maskStep : PortAlone p s (s.maskStep p) := by
  unfold State.maskStep
  split
  · exact .modPort ..
  · exact .modPort ..

theorem pctl {s t : State} {p : Nat} (h : PortAlone p s t) : t.pctl p = s.pctl p := h.reg _ (aPort_ne_sideErr (o := 0) (by decide))

end PortAlone

/-- The masks that wait for this frame latch, and others wait one frame less (R311). -/
theorem State.port_maskStep {s : State} {p : Nat} (hp : p < s.ports.port.length) : (s.maskStep p).port p =
    if (s.port p).maskWait = 1 then
      { s.port p with maskWait := 0, inAct := (s.reg (aPort p + 0x10)).toNat, outAct := (s.reg (aPort p + 0x14)).toNat }
    else { s.port p with maskWait := (s.port p).maskWait - 1 } := by
  unfold State.maskStep
  split
  · exact State.port_modPort_self _ _ _ hp
  · exact State.port_modPort_self _ _ _ hp

/-- Masks are no part of a port's state or of what it received. -/
theorem State.received_maskStep {s : State} {p : Nat} (hp : p < s.ports.port.length) :
    ((s.maskStep p).port p).st = (s.port p).st ∧ ((s.maskStep p).port p).back = (s.port p).back ∧
      ((s.maskStep p).port p).side = (s.port p).side := by
  rw [State.port_maskStep hp]
  split
  · exact ⟨rfl, rfl, rfl⟩
  · exact ⟨rfl, rfl, rfl⟩

theorem State.out_maskStep (s : State) (p : Nat) : (s.maskStep p).out = s.out := by
  unfold State.maskStep
  split
  · rfl
  · rfl

end Sys2Proof.Machine

/-! Frames pass a TDM port (O36). -/

namespace Sys2Proof.Machine

/-! ### Transmission (R313, R322, R325) -/

/-- A port without what its transmitter moves. -/
def Port.untransmitted (q : Port) : Port := { q with zeroOut := false, outOpen := 0, outPrev := [], outQ := [], outHist := [], outPos := 0 }

/-- Port `p` has moved its transmitter, and nothing has left: its receiver, its state and its masks are as they were. -/
structure Transmits (p : Nat) (s t : State) : Prop extends PortAlone p s t where
  port : (t.port p).untransmitted = (s.port p).untransmitted
  out : t.out = s.out

namespace Transmits
variable (s : State) (p : Nat)

theorem refl : Transmits p s s := ⟨⟨fun _ _ => rfl, rfl, fun _ _ => rfl⟩, rfl, rfl⟩

theorem trans {p : Nat} {a b c : State} (h : Transmits p a b) (k : Transmits p b c) : Transmits p a c :=
  ⟨h.toPortAlone.trans k.toPortAlone, k.port.trans h.port, k.out.trans h.out⟩

theorem modPort {f : Port → Port} (hf : ∀ q, (f q).untransmitted = q.untransmitted) : Transmits p s (s.modPort p f) := by
  refine ⟨.modPort .., ?_, rfl⟩
  by_cases hp : p < s.ports.port.length
  · rw [State.port_modPort_self s p f hp, hf]
  · rw [State.modPort, List.modify_eq_self (by omega)]

theorem outAct {s t : State} {p : Nat} (h : Transmits p s t) : (t.port p).outAct = (s.port p).outAct := (congrArg Port.outAct h.port :)

theorem sideStep : Transmits p s (s.sideStep p) := ⟨⟨fun _ _ => rfl, rfl, fun _ _ => rfl⟩, rfl, rfl⟩

theorem outFrame (idx : Nat) : Transmits p s (s.outFrame p idx).1 := by
  unfold State.outFrame
  dsimp only
  split
  · exact .modPort s p fun _ => rfl
  · exact .modPort s p fun _ => rfl

/-- A saturated sum of side-tone marks its error and is counted. -/
theorem saturated : Transmits p s ((s.raise (aSide + 4) 1).count (aSide + 0x90)) where
  out := State.count_out ..
  reg a ha := by rw [reg_congr (State.count_regs ..), State.reg_raise_ne _ _ ha]
  len := by rw [State.count_ports, State.raise_ports]
  other j _ := State.port_count ..
  port := congrArg Port.untransmitted (State.port_count ..)

theorem outSlot (slot idx : Nat) (x : Int) : Transmits p s (s.outSlot p slot idx x).1 := by
  unfold State.outSlot
  extract_lets w q side v ovr g s1 s2 y
  have h1 : Transmits p s s1 := .modPort s p fun _ => rfl
  change Transmits p s (if ovr then _ else s1)
  split
  · exact h1.trans (.saturated ..)
  · exact h1

theorem outSlots (idx : Nat) (xs : List Int) (n : Nat) : Transmits p s (s.outSlots p idx xs n).1 := by
  induction n generalizing s with
  | zero => exact .refl ..
  | succ n ih => exact (outSlot s p ..).trans (ih _)

end Transmits

/-- A slot is driven where the active output mask has its bit. -/
theorem State.outSlot_isSome (s : State) (p slot idx : Nat) (x : Int) :
    (s.outSlot p slot idx x).2.isSome = (s.port p).outAct.testBit slot := by
  unfold State.outSlot
  dsimp only
  cases (s.port p).outAct.testBit slot <;> rfl

theorem State.outSlots_isSome (p idx : Nat) (xs : List Int) (n : Nat) : ∀ s : State, n ≤ ctlSlots (s.pctl p) →
    (s.outSlots p idx xs n).2.map Option.isSome = (List.range' (ctlSlots (s.pctl p) - n) n).map (s.port p).outAct.testBit := by
  induction n with
  | zero => exact fun _ _ => rfl
  | succ n ih =>
    intro s hn
    have hs := Transmits.outSlot s p (ctlSlots (s.pctl p) - (n + 1)) idx (nth 0 xs (ctlSlots (s.pctl p) - (n + 1)))
    have ht := ih _ (hs.pctl ▸ Nat.le_of_succ_le hn)
    rw [hs.pctl, hs.outAct] at ht
    rw [List.range'_succ, List.map_cons, show ctlSlots (s.pctl p) - (n + 1) + 1 = ctlSlots (s.pctl p) - n by omega, ← ht,
      ← s.outSlot_isSome p _ idx (nth 0 xs (ctlSlots (s.pctl p) - (n + 1)))]
    rfl

/-- A port that transmits gives one frame, through the open gate alone, with a value in each active slot. -/
theorem State.portTx_running {s : State} {p : Nat} (h : (s.port p).st = 3) (idx : Nat) : ∃ vals, PortAlone p s (s.portTx p idx) ∧
    ((s.portTx p idx).port p).untransmitted = (s.port p).untransmitted ∧
    (s.portTx p idx).out = (if s.gate then .tdm p vals :: s.out else s.out) ∧
    vals.map Option.isSome = (List.range (ctlSlots (s.pctl p))).map (s.port p).outAct.testBit := by
  let u := (s.sideStep p).outFrame p idx
  let r := u.1.outSlots p idx u.2 (ctlSlots (s.pctl p))
  let t := r.1.modPort p fun q => { q with zeroOut := false }
  have hu : Transmits p s u.1 := (Transmits.sideStep s p).trans (.outFrame ..)
  have ht : Transmits p s t := (hu.trans (.outSlots ..)).trans (.modPort _ p fun _ => rfl)
  have htx : s.portTx p idx = if s.gate then t.emit (.tdm p r.2) else t := by
    have hne : ¬((s.port p).st = 0 ∨ (s.port p).st = 5) := by omega
    unfold State.portTx
    exact if_neg hne
  have hv := State.outSlots_isSome p idx u.2 (ctlSlots (s.pctl p)) u.1 (Nat.le_of_eq (congrArg ctlSlots hu.pctl.symm))
  rw [hu.pctl, Nat.sub_self, ← List.range_eq_range', hu.outAct] at hv
  refine ⟨r.2, ?_, ?_, ?_, hv⟩
  all_goals rw [htx]; split
  · exact ⟨ht.reg, ht.len, ht.other⟩
  · exact ht.toPortAlone
  · exact ht.port
  · exact ht.port
  · exact congrArg _ ht.out
  · exact ht.out

theorem isSome_nth_of_map_isSome {α : Type} {vals : List (Option α)} {n : Nat} {g : Nat → Bool}
    (h : vals.map Option.isSome = (List.range n).map g) : vals.length = n ∧ ∀ i < n, (nth none vals i).isSome = g i := by
  have hl : vals.length = n := by simpa using congrArg List.length h
  refine ⟨hl, fun i hi => ?_⟩
  have hg := congrArg (·[i]?) h
  simpa [nth, hl, hi] using hg

/-! ### Reception (R306, R307) -/

/-- The words that a frame's slots give, in Q1.31. -/
def frameWords (s : State) (p : Nat) (f : TdmFrame) : List Int :=
  (List.range (ctlSlots (s.pctl p))).map fun i => nth 0 f.slots i * 2 ^ (32 - ctlWidth (s.pctl p))

theorem getLast?_newest {α : Type} (n : Nat) (l : List α) (x : α) : (newest (n + 1) (l ++ [x])).getLast? = some x := by
  rw [newest, List.getLast?_drop, if_neg (by rw [List.length_append, List.length_singleton]; omega), List.getLast?_concat]

/-- What a clean frame's end does besides transmission: it is received, and waiting masks step. -/
def State.frameEnd (s : State) (p : Nat) (f : TdmFrame) : State := ((s.portRx p f).modPort p fun q => { q with agree := 0 }).maskStep p

theorem State.frameEnd_alone (s : State) (p : Nat) (f : TdmFrame) : PortAlone p s (s.frameEnd p f) :=
  ((PortAlone.portRx s p f).trans (.modPort ..)).trans (.maskStep ..)

theorem State.out_frameEnd (s : State) (p : Nat) (f : TdmFrame) : (s.frameEnd p f).out = s.out := State.out_maskStep ..

section Received
variable {s : State} {p : Nat} {f : TdmFrame} (hp : p < s.ports.port.length)
include hp

/-- The words of a clean frame of a RUNNING port stand newest where side-tone reads them. -/
theorem State.side_portRx_running (hst : (s.port p).st = 3) (hz : (s.port p).zeroIn = false) (hg : f.glitch = false) (ho : f.ovr = false) :
    ((s.portRx p f).port p).side.getLast? = some (f.idx, frameWords s p f) := by
  rw [State.portRx, State.port_modPort_self _ _ _ hp]
  refine (getLast?_newest 3 _ _).trans (congrArg (fun l => some (f.idx, l)) (List.map_congr_left fun i hi => ?_))
  simp [nth, List.mem_range.mp hi, hst, hz, hg, ho]

theorem State.kept_portRx : ((s.portRx p f).port p).st = (s.port p).st ∧ ((s.portRx p f).port p).maskWait = (s.port p).maskWait := by
  rw [State.portRx, State.port_modPort_self _ _ _ hp]
  exact ⟨rfl, rfl⟩

/-- The receiver as the masks find it. -/
theorem State.port_beforeMasks : ((s.portRx p f).modPort p fun q => { q with agree := 0 }).port p = { (s.portRx p f).port p with agree := 0 } :=
  State.port_modPort_self _ _ _ ((PortAlone.portRx s p f).len.symm ▸ hp)

theorem State.received_frameEnd : ((s.frameEnd p f).port p).st = (s.port p).st ∧
    ((s.frameEnd p f).port p).side = ((s.portRx p f).port p).side := by
  obtain ⟨hst, -, hside⟩ := State.received_maskStep (((PortAlone.portRx s p f).trans (.modPort _ p fun q => { q with agree := 0 })).len.symm ▸ hp)
  rw [State.frameEnd, hst, hside, State.port_beforeMasks hp]
  exact ⟨(State.kept_portRx hp).1, rfl⟩

/-- Masks asked for during the frame are in force with the next (R311). -/
theorem State.masks_frameEnd (hw : (s.port p).maskWait = 1) : ((s.frameEnd p f).port p).inAct = (s.reg (aPort p + 0x10)).toNat ∧
    ((s.frameEnd p f).port p).outAct = (s.reg (aPort p + 0x14)).toNat ∧ ((s.frameEnd p f).port p).maskWait = 0 := by
  have hm := (PortAlone.portRx s p f).trans (.modPort _ p fun q => { q with agree := 0 })
  have hwait : ((s.portRx p f).port p).maskWait = 1 := (State.kept_portRx hp).2.trans hw
  rw [State.frameEnd, State.port_maskStep (hm.len.symm ▸ hp), if_pos (by rw [State.port_beforeMasks hp]; exact hwait)]
  exact ⟨rfl, rfl, rfl⟩

end Received

/-! ### A frame's end (R311, R317) -/

/-- The measured ratio once a frame has ended: a slave's is the frame's (R315). -/
def State.measured (s : State) (p : Nat) (f : TdmFrame) : State :=
  s.modPort p fun q => { q with meas := if !ctlMaster (s.pctl p) then f.meas else 0x40000000 }

theorem State.portSwitched_of_running {s : State} {p : Nat} (h : (s.port p).st = 3) : s.portSwitched p = s := by
  unfold State.portSwitched
  simp [h]

section Frame
variable {s : State} {p : Fin 16} {f : TdmFrame} (hl : s.time.lostSys = false)
include hl

theorem exec_tdmFrame_clean (hst : (s.port p.val).st = 3) (hg : f.glitch = false) (ho : f.ovr = false) (hu : f.under = false) :
    exec (.tdmFrame p f) s = .next ((((s.measured p.val f).portTx p.val f.idx).frameEnd p.val f).portSwitched p.val) := by
  change execTdmFrame p f s = _
  unfold execTdmFrame State.portQueue
  simp [hl, hst, hg, ho, hu, State.measured, State.frameEnd]

/-- A frame of a port whose clock was lost counts toward the three after which it locks again (R317). -/
theorem exec_tdmFrame_lost (hst : (s.port p.val).st = 5) : ∃ m, exec (.tdmFrame p f) s = .next
    ((if (s.port p.val).back + 1 ≥ 3 then
        (s.modPort p.val fun q => { q with meas := m, back := 0, inQ := [], inMasks := [] }).portTo p.val 1
      else s.modPort p.val fun q => { q with meas := m, back := (s.port p.val).back + 1 }).maskStep p.val) := by
  refine ⟨if !ctlMaster (s.pctl p.val) then f.meas else 0x40000000, ?_⟩
  change execTdmFrame p f s = _
  unfold execTdmFrame
  simp only [hl, hst, State.modPort_modPort, Function.comp_def, if_true, if_false, Bool.false_eq_true, OfNat.ofNat_ne_zero]

end Frame

/-- Settles O36: by what a RUNNING port's transmitter and receiver do in turn, and by the frames that a lost port counts. -/
theorem framesPassThePort : Obligations.FramesPassThePort := by
  unfold Obligations.FramesPassThePort
  intro s p f hs hl (hunheard : PortsUnheard s)
  have hp := hs.port_lt p
  have hm : PortAlone p.val s (s.measured p.val f) := .modPort ..
  have hq : (s.measured p.val f).port p.val = _ := State.port_modPort_self s _ _ hp
  refine ⟨fun hst hg ho hu hz => ⟨_, exec_tdmFrame_clean hl hst hg ho hu, ?clean⟩, fun hst hb => ?third, fun hst hb => ?earlier⟩
  case clean =>
    obtain ⟨vals, hx, hxq, hout, hvals⟩ := State.portTx_running (s := s.measured p.val f) (p := p.val) (by rw [hq]; exact hst) f.idx
    rw [hq] at hxq
    rw [hq, hm.pctl] at hvals
    obtain ⟨hlen, hsome⟩ := isSome_nth_of_map_isSome hvals
    let x := (s.measured p.val f).portTx p.val f.idx
    have hsx : PortAlone p.val s x := hm.trans hx
    have hxp := hsx.len.symm ▸ hp
    have hxst : (x.port p.val).st = 3 := (congrArg Port.st hxq :).trans hst
    have hxz : (x.port p.val).zeroIn = false := (congrArg Port.zeroIn hxq :).trans hz
    have hxw : (x.port p.val).maskWait = (s.port p.val).maskWait := (congrArg Port.maskWait hxq :)
    have hwords : frameWords x p.val f = frameWords s p.val f := by rw [frameWords, hsx.pctl, frameWords]
    obtain ⟨hrst, hrside⟩ := State.received_frameEnd (f := f) hxp
    have hst3 : ((x.frameEnd p.val f).port p.val).st = 3 := hrst.trans hxst
    have hout' : (x.frameEnd p.val f).out = _ := (State.out_frameEnd ..).trans hout
    rw [State.portSwitched_of_running hst3]
    refine ⟨hst3, ?_, fun hw => ?_, fun hgate => hout'.trans (if_neg ?_), fun hgate => ⟨vals, hout'.trans (if_pos hgate), hlen, hsome⟩,
      (hsx.trans (x.frameEnd_alone ..)).other⟩
    · exact (congrArg List.getLast? hrside).trans ((State.side_portRx_running hxp hxst hxz hg ho).trans (by rw [hwords]; rfl))
    · rw [← hsx.reg _ (aPort_ne_sideErr (by decide)), ← hsx.reg _ (aPort_ne_sideErr (by decide))]
      exact State.masks_frameEnd hxp (hxw.trans hw)
    · exact Bool.eq_false_iff.mp hgate
  case third =>
    obtain ⟨m, he⟩ := exec_tdmFrame_lost (f := f) hl hst
    let u := s.modPort p.val fun q => { q with meas := m, back := 0, inQ := [], inMasks := [] }
    have hu : u.port p.val = _ := State.port_modPort_self s _ _ hp
    have ht : u.portTo p.val 1 = _ := State.portTo_unheard (s := u) hunheard (by rw [hu]; simp [hst])
    rw [hb, if_pos (by decide), ht, State.modPort_modPort] at he
    obtain ⟨h1, h2, -⟩ := State.received_maskStep (s := s.modPort p.val _) ((State.ports_modPort ..).symm ▸ hp)
    refine ⟨_, he, ?_, ?_, State.out_maskStep ..⟩
    · rw [h1, State.port_modPort_self _ _ _ hp]
      rfl
    · rw [h2, State.port_modPort_self _ _ _ hp]
      rfl
  case earlier =>
    obtain ⟨m, he⟩ := exec_tdmFrame_lost (f := f) hl hst
    rw [if_neg (by omega)] at he
    obtain ⟨h1, h2, -⟩ := State.received_maskStep (s := s.modPort p.val _) ((State.ports_modPort ..).symm ▸ hp)
    refine ⟨_, he, ?_, ?_, State.out_maskStep ..⟩
    · rw [h1, State.port_modPort_self _ _ _ hp]
      exact hst
    · rw [h2, State.port_modPort_self _ _ _ hp]

end Sys2Proof.Machine

/-! Ports follow their clocks, and their registers and side-tone's are written (O37). -/

namespace Sys2Proof.Machine

/-! ### An event of a port is marked in TDM_ERR_p (R313, R317) -/

/-- A port moves by `f`, its error bits `m` are set, and counter `k` counts `n`. -/
def State.portMark (s : State) (p : Nat) (f : Port → Port) (m : Word) (k n : Nat) : State :=
  ((s.modPort p f).raise (aPort p + 8) m).count k n

section Mark
variable (s : State) {p : Nat} (f : Port → Port) (m : Word) (k n : Nat)

theorem State.ports_portMark : (s.portMark p f m k n).ports.port.length = s.ports.port.length := by
  rw [State.portMark, State.count_ports]
  exact State.ports_modPort ..

theorem State.port_portMark_self (hp : p < s.ports.port.length) : (s.portMark p f m k n).port p = f (s.port p) :=
  (State.port_count ..).trans (State.port_modPort_self s _ _ hp)

theorem State.port_portMark_ne {j : Nat} (h : j ≠ p) : (s.portMark p f m k n).port j = s.port j :=
  (State.port_count ..).trans (State.port_modPort_ne s _ h)

theorem State.reg_portMark (a : Nat) : (s.portMark p f m k n).reg a = (s.raise (aPort p + 8) m).reg a := by
  rw [State.portMark, reg_congr (State.count_regs ..)]
  rfl

theorem State.pctl_portMark : (s.portMark p f m k n).pctl p = s.pctl p := by
  rw [State.pctl, State.reg_portMark, State.reg_raise_ne _ _ (by omega), State.pctl]

/-- The mark stays whatever state the port takes. -/
theorem State.marked_portTo (hp : p < 16) (st : Nat) {i : Nat} (hi : m.getLsbD i = true) :
    (((s.portMark p f m k n).portTo p st).reg (aPort p + 8)).getLsbD i = true := by
  rw [State.reg_portTo _ _ _ (aside_aPort (by omega) (by decide)), State.reg_portMark, State.reg_raise_self, BitVec.getLsbD_or, hi,
    Bool.or_true]

end Mark

/-! ### Clocks and zero crossings (R313, R315 to R317) -/

/-- All channels of both directions pass as `m` says. -/
def Port.forced (m : Nat) (q : Port) : Port := { q with inOpen := m, outOpen := m }

/-- A port whose clock has stopped: muted, with nothing on its way out. -/
def Port.unclocked (q : Port) : Port := { q with locked := false, meas := 0, back := 0, outOpen := 0, outQ := [], side := [] }

/-- A port whose ratio is out of range: muted. -/
def Port.outOfRange (q : Port) : Port := { q with locked := false, inOpen := 0, outOpen := 0 }

/-- The end of STARTING or STOPPING by timeout is marked and counted. -/
def State.zcForced (s : State) (p m : Nat) : State := s.portMark p (Port.forced m) 0x40 (aTdm + 0x800 + 0x40 * p + 32) 1

section Clocks
variable {s : State} {p : Fin 16}

theorem exec_asrcLock (hst : (s.port p.val).st = 1) (hd : s.decides = true) : exec (.asrcLock p) s =
    .next (s.fresh.2.enter (.asrcLock p.val (wordN ((Config.freeWord s.freeCtr 0).toNat % 2 ^ 30)))) :=
  if_pos (by rw [hst, hd]; rfl)

theorem exec_noLock (hst : (s.port p.val).st = 1) : exec (.noLock p) s = .next (s.raise (aPort p.val + 8) 0x20) :=
  congrArg Host.Outcome.next (if_pos hst)

theorem exec_portZcTimeout (hst : (s.port p.val).st = 2 ∨ (s.port p.val).st = 4)
    (ht : (s.port p.val).began + ctlTimeout (s.pctl p.val) * 1000000 ≤ s.lNs) : exec (.portZcTimeout p) s =
      .next ((s.zcForced p.val (if (s.port p.val).st = 2 then slotMask (s.pctl p.val) else 0)).portSwitched p.val) :=
  if_pos ⟨hst, ht⟩

theorem exec_portClockLost (h0 : (s.port p.val).st ≠ 0) (h5 : (s.port p.val).st ≠ 5) (hm : ctlMaster (s.pctl p.val) = false) :
    exec (.portClockLost p false) s =
      .next ((s.portMark p.val Port.unclocked 2 (aTdm + 0x800 + 0x40 * p.val + 24) 1).portTo p.val 5) :=
  congrArg Host.Outcome.next (if_neg (by simp [h0, h5, hm]))

/-- A ratio out of range has no counter (Table PORT-7). -/
theorem exec_portRange (h0 : (s.port p.val).st ≠ 0) (h5 : (s.port p.val).st ≠ 5) (h6 : (s.port p.val).st ≠ 6)
    (hm : ctlMaster (s.pctl p.val) = false) : exec (.portRange p) s = .next ((s.portMark p.val Port.outOfRange 4 0 0).portTo p.val 6) :=
  if_neg (by simp [h0, h5, h6, hm])

theorem exec_portRangeRecover (h6 : (s.port p.val).st = 6) : exec (.portRangeRecover p) s = .next (s.portTo p.val 1) :=
  congrArg Host.Outcome.next (if_pos h6)

end Clocks

section Forced
variable {s : State} {p : Nat} (hp : p < s.ports.port.length)
include hp

/-- STARTING ends with every channel open. -/
theorem State.portSwitched_zcForced_starting (hst : (s.port p).st = 2) :
    (s.zcForced p (slotMask (s.pctl p))).portSwitched p = (s.zcForced p (slotMask (s.pctl p))).portTo p 3 := by
  unfold State.portSwitched
  rw [State.zcForced, State.pctl_portMark, State.port_portMark_self _ _ _ _ _ hp]
  exact if_pos ⟨hst, rfl, rfl⟩

/-- STOPPING ends with every channel closed. -/
theorem State.portSwitched_zcForced_stopping (hst : (s.port p).st = 4) :
    (s.zcForced p 0).portSwitched p = ((s.zcForced p 0).modPort p Port.halted).portEvent p := by
  unfold State.portSwitched
  rw [State.zcForced, State.port_portMark_self _ _ _ _ _ hp]
  exact (if_neg fun h => absurd (hst.symm.trans h.1) (by decide)).trans (if_pos ⟨hst, rfl, rfl⟩)

end Forced

/-! ### TDM_CMD and TDM_CTL (R311, R312, R327) -/

theorem State.modPort_congr {s : State} {p : Nat} {f g : Port → Port} (h : f (s.port p) = g (s.port p)) : s.modPort p f = s.modPort p g := by
  have hl : s.ports.port.modify p f = s.ports.port.modify p g := by
    refine List.ext_getElem? fun j => ?_
    rw [List.getElem?_modify, List.getElem?_modify]
    by_cases hj : p = j
    · subst hj
      cases hq : s.ports.port[p]? with
      | none => rfl
      | some q =>
        have hport : s.port p = q := by simp [State.port, nth, hq]
        simpa [hport] using h
    · simp [hj]
  rw [State.modPort, hl, State.modPort]

/-- Masks are asked for where none waits (R311). -/
theorem State.maskApply_of_none {s : State} {p : Nat} {v : Word} (hv : v.getLsbD 0 = true) (hw : (s.port p).maskWait = 0) (late : Bool) :
    s.maskApply p v late = s.modPort p fun q => { q with maskWait := if late then 2 else 1 } :=
  (if_pos hv).trans (State.modPort_congr (by simp [hw]))

/-- A write of TDM_CTL_p that Table PORT-1 excludes, or that would change more of a running port than RUN and TIMEOUT, sets CFG alone. -/
theorem State.tdmCtl_ignored {s : State} {p : Nat} {v : Word}
    (h : ctlOk v = false ∨ (s.port p).st ≠ 0 ∧ (s.pctl p ^^^ v) &&& 0x003FFFFE ≠ 0) : s.tdmCtl p v = s.raise (aPort p + 8) 0x80 := by
  refine if_pos ?_
  rcases h with hok | ⟨hst, hne⟩
  · rw [hok]; rfl
  · rw [decide_eq_true hst, decide_eq_true hne, Bool.and_self, Bool.or_true]

/-- RUN starts a slave at LOCKING (R312). -/
theorem State.portStart_slave {s : State} {p : Nat} (hunheard : PortsUnheard s) (hst : (s.port p).st = 0) (hm : ctlMaster (s.pctl p) = false) :
    s.portStart p = (s.raise (aPort p) 1).modPort p fun q => { q with st := 1 } := by
  have hne : ((s.raise (aPort p) 1).port p).st ≠ 1 := fun h => absurd (hst.symm.trans h) (by decide)
  unfold State.portStart
  dsimp only
  rw [if_neg (not_not_intro hst), hm, if_neg Bool.false_ne_true]
  exact State.portTo_unheard (s := s.raise (aPort p) 1) hunheard hne

/-- A stopped slave takes a configuration that Table PORT-1 and its group allow, and starts where RUN is set. -/
theorem State.tdmCtl_taken {s : State} {p : Nat} {v : Word} (hunheard : PortsUnheard s) (hok : ctlOk v = true) (hg : groupClash s p v = none)
    (hm : ctlMaster v = false) (hst : (s.port p).st = 0) (hrun : wbit (s.pctl p) 0 = false) :
    s.tdmCtl p v = if wbit v 0 then ((s.setReg (aPort p) v).raise (aPort p) 1).modPort p fun q => { q with st := 1 }
      else s.setReg (aPort p) v := by
  have hstart := State.portStart_slave (s := s.setReg (aPort p) v) (p := p) hunheard hst (by rw [State.pctl, State.reg_setReg_self, hm])
  unfold State.tdmCtl
  dsimp only
  rw [if_neg (by simp [hok, hg, hm, hst]), hrun, hstart]
  cases wbit v 0 <;> rfl

theorem or_one_eq_self {v : Word} (h : v.getLsbD 0 = true) : v ||| 1 = v := by
  refine BitVec.eq_of_getLsbD_eq fun i hi => ?_
  rcases i with _ | i
  · simp [h]
  · simp

/-! ### Side-tone (R321, R322, R328) -/

theorem ofNat_low (x : Nat) : BitVec.ofNat 16 (x % 2 ^ 16) = BitVec.ofNat 16 x := BitVec.eq_of_toNat_eq (Nat.mod_mod x _)

/-- SIDETONE_GAIN_r holds the gain in its low 16 bits. -/
theorem ofNat_gain (v : Word) : BitVec.ofNat 16 (v &&& 0xFFFF).toNat = BitVec.ofNat 16 v.toNat := by
  rw [← ofNat_low v.toNat]
  exact congrArg _ ((BitVec.toNat_and ..).trans (Nat.and_two_pow_sub_one_eq_mod _ 16))

/-- A route's gain goes to what its registers ask for, from where it is. -/
theorem State.route'_sideAim_self (s : State) (r : Nat) :
    ((s.sideAim r).route' r).tgt = sideGain s r ∧ ((s.sideAim r).route' r).cur = (s.route' r).cur := by
  unfold State.sideAim
  dsimp only
  split
  · next h => exact ⟨h, rfl⟩
  · rw [State.route', State.modSide, mget_mmod_self]
    exact ⟨rfl, rfl⟩

theorem State.route'_sideAim_ne (s : State) {r j : Nat} (h : j ≠ r) : (s.sideAim r).route' j = s.route' j := by
  unfold State.sideAim
  dsimp only
  split
  · rfl
  · rw [State.route', State.modSide, mget_mmod_ne _ _ _ h, State.route']

theorem sideGain_on {s : State} {r : Nat} (h : (s.reg (aRoute r)).getLsbD 31 = true) :
    sideGain s r = trimQ (BitVec.ofNat 16 (s.reg (aRoute r + 4)).toNat).toInt := by
  rw [sideGain, if_pos (show routeOn _ = true from h), wbits_zero, ofNat_low]

theorem sideGain_off {s : State} {r : Nat} (h : (s.reg (aRoute r)).getLsbD 31 = false) : sideGain s r = 0 :=
  if_neg (by rw [routeOn, wbit, h]; decide)

/-- An enabled route is not stored where a feed carries its output slot (R321). -/
theorem State.sideCtl_held {s : State} {r : Nat} {v : Word} (hon : v.getLsbD 31 = true) (h : (feedHolds s (routeOut v)).isSome = true) :
    s.sideCtl r v = s.raise (aSide + 4) 2 :=
  if_pos (by simp [routeOn, wbit, hon, h])

/-- A route between slots of one port, which share its clock, is stored where no feed carries its output slot (R321). -/
theorem State.sideCtl_stored {s : State} {r : Nat} {v : Word} (hoff : routeOn (s.reg (aRoute r)) = false)
    (h : feedHolds s (routeOut v) = none) (hio : (routeIn v).1 = (routeOut v).1) : s.sideCtl r v = (s.setReg (aRoute r) v).sideAim r :=
  if_neg (by simp [hoff, h, hio, sharedClock])

/-- Settles O37: an event of a port by what it marks and the state that the port then takes, a write by what of it is stored. -/
theorem portsFollowTheirClocksAndWrites : Obligations.PortsFollowTheirClocksAndWrites := by
  unfold Obligations.PortsFollowTheirClocksAndWrites
  refine ⟨fun s p hs => ?clocks, fun s p v hs hr => ⟨fun hok => ?ignored, fun hok hg hm hst hrun hunheard => ?taken, fun hok hst hne => ?kept⟩,
    fun s r v hr hon hoff => ⟨fun hh => ?held, fun hh hio => ?route⟩, fun s r v hr => ?gain⟩
  case clocks =>
    have hp := hs.port_lt p
    refine ⟨fun hst hd => ⟨_, _, exec_asrcLock hst hd, rfl, ?lock, rfl⟩, exec_noLock, fun hst ht => ⟨_, exec_portZcTimeout (.inl hst) ht, ?started⟩,
      fun hst ht => ⟨_, exec_portZcTimeout (.inr hst) ht, ?stopped⟩, fun h0 h5 hm => ⟨_, exec_portClockLost h0 h5 hm, ?lost⟩,
      fun h0 h5 h6 hm => ⟨_, exec_portRange h0 h5 h6 hm, ?range⟩, fun h6 => ⟨_, exec_portRangeRecover h6, State.st_portTo s _ _ hp⟩,
      fun v late hr hv hw => (guarded_of_unreserved hr _).trans (congrArg _ (State.maskApply_of_none hv hw late))⟩
    case lock =>
      rw [wordN, BitVec.toNat_ofNat]
      omega
    case started =>
      rw [if_pos hst, State.portSwitched_zcForced_starting hp hst]
      exact ⟨State.st_portTo _ _ _ ((State.ports_portMark ..).symm ▸ hp), State.marked_portTo _ _ _ _ _ p.isLt _ rfl⟩
    case stopped =>
      rw [if_neg (by omega), State.portSwitched_zcForced_stopping hp hst, State.port_portEvent,
        State.port_modPort_self _ _ _ ((State.ports_portMark ..).symm ▸ hp)]
      exact ⟨rfl, rfl⟩
    case lost =>
      refine ⟨?_, ?_, State.marked_portTo _ _ _ _ _ p.isLt _ rfl, fun j hj => ?_⟩
      · exact State.st_portTo _ _ _ ((State.ports_portMark ..).symm ▸ hp)
      · rw [State.port_portTo_self ((State.ports_portMark ..).symm ▸ hp), State.port_portMark_self _ _ _ _ _ hp]
        rfl
      · rw [State.port_portTo_ne _ _ hj, State.port_portMark_ne _ _ _ _ _ hj]
    case range =>
      exact ⟨State.st_portTo _ _ _ ((State.ports_portMark ..).symm ▸ hp), State.marked_portTo _ _ _ _ _ p.isLt _ rfl⟩
  case ignored => exact (guarded_of_unreserved hr _).trans (congrArg _ (State.tdmCtl_ignored (.inl hok)))
  case kept => exact (guarded_of_unreserved hr _).trans (congrArg _ (State.tdmCtl_ignored (.inr ⟨hst, hne⟩)))
  case taken =>
    refine ⟨_, (guarded_of_unreserved hr _).trans (congrArg _ (State.tdmCtl_taken hunheard hok hg hm hst hrun)), ?_⟩
    by_cases hv : wbit v 0 = true
    · rw [if_pos hv, if_pos (show v.getLsbD 0 = true from hv)]
      refine ⟨?_, ?_, fun a ha => ?_⟩
      · rw [State.pctl, State.reg_modPort, State.reg_raise_self, State.reg_setReg_self, or_one_eq_self hv]
      · exact congrArg Port.st (State.port_modPort_self _ _ _ (hs.port_lt p))
      · rw [State.reg_modPort, State.reg_raise_ne _ _ ha, State.reg_setReg_ne _ _ ha]
    · rw [if_neg hv, if_neg (show ¬ v.getLsbD 0 = true from hv)]
      exact ⟨State.reg_setReg_self .., hst, fun a ha => State.reg_setReg_ne _ _ ha⟩
  case held => exact (guarded_of_unreserved hr _).trans (congrArg _ (State.sideCtl_held hon hh))
  case route =>
    have hreg : (s.setReg (aRoute r.val) v).reg (aRoute r.val) = v := State.reg_setReg_self ..
    refine ⟨_, (guarded_of_unreserved hr _).trans (congrArg _ (State.sideCtl_stored hoff hh hio)), (State.reg_sideAim ..).trans hreg, ?_,
      fun j hj => State.route'_sideAim_ne _ hj⟩
    rw [(State.route'_sideAim_self ..).1, sideGain_on (by rw [hreg, hon]), State.reg_setReg_ne _ _ (by omega)]
  case gain =>
    have hctl : (s.setReg (aRoute r.val + 4) (v &&& 0xFFFF)).reg (aRoute r.val) = s.reg (aRoute r.val) := State.reg_setReg_ne _ _ (by omega)
    have haim := State.route'_sideAim_self (s.setReg (aRoute r.val + 4) (v &&& 0xFFFF)) r.val
    refine ⟨_, guarded_of_unreserved hr _, (State.reg_sideAim ..).trans (State.reg_setReg_self ..), fun hon => haim.1.trans ?_,
      fun hoff => haim.1.trans (sideGain_off (by rw [hctl, hoff])), haim.2⟩
    rw [sideGain_on (by rw [hctl, hon]), State.reg_setReg_self, ofNat_gain]

end Sys2Proof.Machine
